-- ==== Sys2Proof/Word.lean ====
section
/-!
DEFINITION. Sys2Proof/Word.lean: the two word types of the HM6408. Registers and packets are made of bytes and
little-endian 32-bit words (R9, R12).
-/
namespace Sys2Proof

/-- One byte of a packet, a frame or a memory. -/
abbrev Byte := BitVec 8

/-- One 32-bit register word (R12: registers are 32 bits wide). -/
abbrev Word := BitVec 32

end Sys2Proof
end

