-- ==== Sys2Proof/Syntax.lean ====
section
/-!
DEFINITION. Sys2Proof/Syntax.lean: the commands and events of the HM6408, one constructor of `Instr` per row of the spec's table
of operations and events, with the operands the spec gives each: what the row names (a unit, a tag, a frame, a register
word) and what comes in with it from outside (a measured value, a verdict of a published algorithm, a sensor reading).
-/
namespace Sys2Proof

/-- The three transports of command packets (R62). -/
inductive Transport where
  | pcie | spi | inband
deriving DecidableEq, Repr

/-- Where an in-band reply goes: port, source MAC address, VLAN ID and priority of the command (R66). Zero on the other
transports. -/
structure ReplyTo where
  port : Nat
  mac  : Nat
  vlan : Nat
  pcp  : Nat
deriving DecidableEq, Repr

def ReplyTo.none : ReplyTo := ⟨0, 0, 0, 0⟩

/-- What the boot ROM finds in one firmware slot of the boot flash (R572): whether an object stands there, the reason of
R569 for which it fails (0: it passes every check), its VERSION and its SVN. -/
structure RomSlot where
  present : Bool
  reason  : Nat
  version : Nat
  svn     : Nat
deriving DecidableEq, Repr

/-- The boot flash as the boot ROM finds it (Table 21-2): the control record passes its CRC, the slot it names, and the
two firmware slots. -/
structure RomFinding where
  recordOk : Bool
  active   : Nat
  slotA    : RomSlot
  slotB    : RomSlot
deriving DecidableEq, Repr

/-- A flash whose slot A verifies and whose slot B is empty (log entry 4). -/
def RomFinding.normal : RomFinding := ⟨true, 0, ⟨true, 0, 0, 0⟩, ⟨false, 1, 0, 0⟩⟩

/-- Verdicts of the two signature algorithms on an object (R567: RSASSA-PSS and SLH-DSA, published standards). -/
structure SigVerdict where
  rsa : Bool
  slh : Bool
deriving DecidableEq, Repr

/-- A complex sample: real and imaginary part. -/
structure Cplx where
  re : Int
  im : Int
deriving DecidableEq, Repr

def Cplx.zero : Cplx := ⟨0, 0⟩

/-! ### Fronthaul frames, by the fields the published standards give them (R281-R285, R301) -/

/-- The application header of an O-RAN message: dataDirection (true: downlink), payloadVersion, filterIndex, frameId,
subframeId, slotId, startSymbolId, and for the C-plane its section type. -/
structure AppHdr where
  dl       : Bool
  version  : Nat
  filter   : Nat
  frameId  : Nat
  subframe : Nat
  slot     : Nat
  sym      : Nat
  secType  : Nat
deriving DecidableEq, Repr

/-- Weights or channel values as section extension 1 or type 6 carries them: method, width, exponent, mantissas. -/
structure WeightSet where
  meth  : Nat
  width : Nat
  expo  : Nat
  mant  : List Cplx
deriving DecidableEq, Repr

/-- A C-plane section. -/
structure CpSection where
  secId    : Nat
  rb       : Nat
  symInc   : Bool
  startPrb : Nat
  numPrb   : Nat
  reMask   : Nat
  numSym   : Nat
  beamId   : Nat
  ueId     : Nat
  ext1     : Option WeightSet
  ext4     : Option (Nat × Nat)       -- csf and modCompScaler
  otherExt : Bool
  timeOffset : Nat                    -- type 3: in samples of the configuration's stream (log 153)
  cpLength : Nat
  scs      : Nat
  freqOffset : Int
  regions  : List (Nat × Nat × WeightSet)   -- type 6: first PRB, PRBs, channel values
deriving DecidableEq, Repr

/-- A U-plane section. -/
structure UpSection where
  secId    : Nat
  rb       : Nat
  symInc   : Bool
  startPrb : Nat
  numPrb   : Nat
  compHdr  : Option Nat
  bytes    : List Byte
deriving DecidableEq, Repr

/-- The eCPRI payload of a frame. -/
inductive EcpriBody where
  | uplane (eaxc seqId : Nat) (seqOk : Bool) (hdr : AppHdr) (secs : List UpSection)
  | cplane (eaxc seqId : Nat) (seqOk : Bool) (hdr : AppHdr) (secs : List CpSection)
  | privi (bytes : List Byte)
  | other
deriving DecidableEq, Repr

/-- What a frame carries: eCPRI with its revision, concatenation bit and message type, MAC control, PTP, or anything else. -/
inductive FrameBody where
  | ecpri (revision : Nat) (concat : Bool) (mtype : Nat) (body : EcpriBody)
  | pause
  | ptp (mtype : Nat) (bytes : List Byte)
  | other
deriving DecidableEq, Repr

/-- An Ethernet frame as a port receives it: its length with FCS, addresses, tags, FCS verdict, content, and for a
forwarded PTP frame the residence time to each port [2^-16 ns]. -/
structure Frame where
  length : Nat
  dmac   : Nat
  smac   : Nat
  stag   : Bool
  tci    : Option Nat
  fcsOk  : Bool
  body   : FrameBody
  residence : List (Nat × Nat)
deriving DecidableEq, Repr

/-! ### What the front hands over at a tick boundary -/

/-- What a receive path's ADC delivers in the tick: 6,400 codes of 12 bits at 24.576 GSa/s (R91), and the converter samples
that overranged (R114). -/
structure RxPathIn where
  path  : Nat
  codes : List Int
  ovr   : List Nat
deriving DecidableEq, Repr

/-- What an observation receiver's ADC delivers in the tick: 6,400 codes of 12 bits at 24.576 GSa/s (R215), and whether ORXIN
overranged (R219). -/
structure ObsIn where
  ox      : Nat
  codes   : List Int
  clipped : Bool
deriving DecidableEq, Repr

/-- Values that only the part can measure, as a tick's close reports them: the phase error of
a loop, FEC codewords a port corrected and could not correct, and memory errors corrected in an engine and in cluster memory. -/
inductive Sensed where
  | phase (loop : Fin 8) (err : Int)
  | fec (port : Fin 4) (corrected uncorrectable : Nat)
  | engineEcc (engine : Fin 16) (corrected : Nat)
  | clusterEcc (corrected : Nat)
deriving DecidableEq, Repr

/-- What a lane's equaliser hands to its slicer in one tick, in order of arrival: PAM4 levels in 1/256, so that the ideal levels -3, -1,
1 and 3 are -768, -256, 256 and 768 (R321, R322). -/
structure LaneIn where
  lane   : Nat
  slicer : List Int
deriving DecidableEq, Repr

/-- What the tick that closes brings with it: converter samples, blocks and units that overran (R42), cycles used by block
and unit (R627), dies whose bridge CRC failed toward the core and toward the converter (R24), what the lanes received
(R321), and what the part has measured. -/
structure TickIn where
  rx       : List RxPathIn
  obs      : List ObsIn
  overruns : List (Nat × Nat)
  cycles   : List (Nat × Nat × Nat)
  crcUp    : List Nat
  crcDown  : List Nat
  lanes    : List LaneIn
  sensed   : List Sensed
deriving DecidableEq, Repr

def TickIn.quiet : TickIn := ⟨[], [], [], [], [], [], [], []⟩

/-! ### Sections in a device's stores, and the Finef frame (R289-R291, R350) -/

/-- A received C-plane section of type 0, 1 or 5 in the section store (R291): what it names, its extension-1 weights by array
slice, when it was received, and the first ticks of the symbols it covers (R287). -/
structure CSection where
  dl      : Bool
  unit    : Nat              -- beam or layer
  car     : Nat
  kind    : Nat              -- section type
  secId   : Nat
  eaxc    : Nat
  port    : Nat
  lo      : Nat
  n       : Nat
  beamId  : Nat
  ueId    : Nat
  weights : Option (List (Nat × List Cplx))
  scaler  : Option (Nat × Nat)
  received : Nat
  order   : Nat              -- arrival order
  syms    : List Nat
deriving DecidableEq, Repr

/-- A Petunia-sum block (R273): its beam, carrier and PRB, and its 37 bytes. -/
structure SumBlock where
  beam : Nat
  car  : Nat
  prb  : Nat
  bytes : List Byte
deriving DecidableEq, Repr

/-- A downlink U-plane section as the fronthaul brought it and as the cascade passes it on (R276, R357): layer, carrier, first air
tick of its symbol, first PRB and PRBs, udCompHdr, csf and modCompScaler of its extension 4 where known, and coded bytes. -/
structure LayerPart where
  layer  : Nat
  car    : Nat
  start  : Nat
  lo     : Nat
  n      : Nat
  hdr    : Option Nat
  scaler : Option (Nat × Nat)
  bytes  : List Byte
deriving DecidableEq, Repr

/-- A staging (R198): its generation, its apply tick and the sections it adds to the earlier stagings of that tick. -/
structure StagedPart where
  gen  : Nat
  u    : Nat
  secs : List CSection
deriving DecidableEq, Repr

/-- One region of a type-6 message as the cascade carries it (R360): its PRBs, the scale s, and the channel values by array
slice. -/
structure ChanPiece where
  lo   : Nat
  n    : Nat
  peak : Nat
  vals : List (Nat × List Cplx)
deriving DecidableEq, Repr

/-- A type-6 message's slices (R360). -/
structure ChanPart where
  ueId    : Nat
  serves  : Nat                -- the tick from which stagings use it
  regions : List ChanPiece
deriving DecidableEq, Repr

/-- A device's answer to a discovery request (Table 12-4); the parent by its device ID. -/
structure CasRecord where
  id     : Nat
  hop    : Nat
  slice  : Nat
  up     : Nat
  flags  : Nat
  parent : Nat
deriving DecidableEq, Repr

/-- A Finef frame (R350): the verdicts on its CRC and FEC, its tick, the sender's hop index, D and digest, the slices of the
sender's subtree, and what its shares carry. -/
structure FinefFrame where
  crcOk    : Bool
  fecOk    : Bool
  fault    : Bool
  tickno   : Nat
  hop      : Nat
  depth    : Nat
  digest   : Nat
  standby  : Bool
  ringUp   : Bool                  -- a standby path to the root is UP at or behind the sender
  subtree  : List Nat
  blocks   : List SumBlock
  layers   : List LayerPart
  staged   : List StagedPart
  chans    : List ChanPart
  commits  : List (Nat × Nat)      -- apply tick and generation
  request  : Bool                  -- discovery request
  answers  : List CasRecord
  lost     : List (Nat × Nat)      -- hop and port of a subtree that was lost (R355)
  reversal : Bool                  -- reversal request (R364)
  switchAt : Option Nat
  ptp      : List (Nat × List Byte × Nat)   -- message type, bytes, residence time so far
  residence : List (Nat × Nat)     -- what the receiver measures for them: port, or 4 + cascade port, and time [2^-16 ns]
deriving DecidableEq, Repr

/-- What comes in with a register write whose effect takes something from outside: the edge of the tick it falls on, the word
a RAW lane receives next, the verdict of Lavender's memory test after a reset or wake, and the verdicts on a recovery
object. -/
structure RegEnv where
  edge    : Nat
  raw     : Nat
  memOk   : Bool
  verdict : SigVerdict
deriving DecidableEq, Repr

/-- What a bridge self-test finds: the data signals of the link that fail, converter to core (`up`) and core to converter
(R25). -/
structure BridgeFound where
  up   : List (Fin 768)
  down : List (Fin 768)
deriving DecidableEq, Repr

/-- Where an uncorrectable memory error stands (R539): a memory of a retirable unit, by its source code; a word of the
recorder SRAM; the cluster memory, read by an engine's kernel; or a memory of a shared core-die block, whose unit's data
of the tick is VOID. -/
inductive EccPlace where
  | owner (src : Nat)
  | recorder (word : Fin 16384)
  | cluster (engine : Fin 16)
  | shared (block : Fin 16) (unit : Nat)
deriving DecidableEq, Repr

/-! ### Engine instructions (R376-R396): operands whose encodings Table 13-6 leaves open -/

/-- A register that MOVR reaches (Table 13-2). -/
inductive EngReg where
  | pc | sr
  | u (i : Fin 2)
  | v (i : Fin 4)
  | ac (i : Fin 4)
  | p (i : Fin 8)
  | j (i : Fin 4)
  | g (i : Fin 8)
  | lf (i : Fin 4)
  | lfp | rpc | pbr | ira | ssr | ien | ipend | dcnt | cpt | tleft
deriving DecidableEq, Repr

/-- A G, P or J register (LDG, STG, LDI). -/
inductive IntReg where
  | g (i : Fin 8)
  | p (i : Fin 8)
  | j (i : Fin 4)
deriving DecidableEq, Repr

/-- Where MOVA moves an accumulator: an operand register, or a G or P register. -/
inductive MovaDest where
  | u (i : Fin 2)
  | v (i : Fin 4)
  | g (i : Fin 8)
  | p (i : Fin 8)
deriving DecidableEq, Repr

/-- Accumulator operations of AOP; the shift is from -8 to +8. -/
inductive AccOp where
  | add (src : Fin 4)
  | sub (src : Fin 4)
  | neg
  | clear
  | shift (n : Fin 17)      -- n - 8 places to the left
deriving DecidableEq, Repr

/-- Integer operations of GOP: two registers, or a register and a shift count. -/
inductive IntOp where
  | add | sub | and | or | xor | not
  | shiftLeft | shiftRight | shiftArith
  | compare
deriving DecidableEq, Repr

/-- The two data banks. -/
inductive Bank where
  | u | v
deriving DecidableEq, Repr

/-- The commands and events of the HM6408, one per row of the spec's table of operations and events, in its order. A command of
Privi is named by its tag: its packet came in before (PACKET_ACCEPTANCE), and the row performs it. -/
inductive Instr where
  /-- DEVICE_RESET (R491): VAON rises: every block takes its reset state, Peony enters BOOT and bring-up runs. -/
  | deviceReset (flash : Option RomFinding) (memOk : Bool)
  /-- PWR_RESET_KEY (R491): Host writes 0xA55A to PWR_RESET.KEY, which causes a device reset and bring-up. -/
  | pwrResetKey (memOk : Bool)
  /-- PWR_CTRL_WAKE (R483): Host writes PWR_CTRL.WAKE in STANDBY, which starts a warm boot that ends in ACTIVE. -/
  | pwrCtrlWake (memOk : Bool)
  /-- FALLBACK_STABLE (R445): After 4,096 cycles the fallback oscillator counts as stable and the control cores leave reset.
  -/
  | fallbackStable
  /-- REFCLK_MEASURE (R492): Every 10 ms during bring-up, firmware measures REFCLK and either sets REF_SEL and continues or
  keeps waiting. -/
  | refclkMeasure (khz : Nat)
  /-- BOOT_TSYNC_TIMEOUT (R491): TSYNC_TO expires without a TSYNC edge, so the device sets NO_TSYNC, raises BOOT_NO_TSYNC and
  starts Crocus. -/
  | bootTsyncTimeout
  /-- BRINGUP_COMPLETE (R491): Bring-up sets TCK_CTRL.RUN and READY, and the device enters ACTIVE with PWR_STATE raised. -/
  | bringupComplete
  /-- TICK_BOUNDARY (R34): At each tick boundary Crocus advances TICKNO, FRAME_TICK and SFN, and every tick-scheduled block
  hands on its results. -/
  | tickBoundary (x : TickIn)
  /-- TSYNC_EDGE (R427): A TSYNC rising edge is sampled, and Crocus, the divider reset, RESYNC and the phase check act on it.
  -/
  | tsyncEdge (periods : Fin 128)
  /-- TCK_CTRL_RUN (R36): A write of RUN starts Crocus counting if the fabric PLL is locked, and otherwise refuses. -/
  | tckCtrlRun (byFirmware : Bool)
  /-- TCK_CTRL_ALIGN_ARM (R37): A write of ALIGN_ARM arms alignment of TICKNO at the next TSYNC edge. -/
  | tckCtrlAlignArm
  /-- TCK_CTRL_PEAK_CLR (R627): A write of PEAK_CLR clears every TCK_LOAD PEAK. -/
  | tckCtrlPeakClr
  /-- TCK_COMMIT_ARM (R57): A write of TCK_COMMIT_CTRL.ARM arms a host commit of the written shadowed fields at
  TCK_COMMIT_TICK. -/
  | tckCommitArm
  /-- TCK_COMMIT_CANCEL (R49): A write of TCK_COMMIT_CTRL.CANCEL cancels the armed host commit up to tick c-2. -/
  | tckCommitCancel
  /-- TCK_EVSEQ_LO_READ (R57): A read of TCK_EVSEQ_LO returns the low EVSEQ bits and latches TCK_EVSEQ_HI. -/
  | tckEvseqLoRead
  /-- EVENT_ARBITRATION (R54): The arbiter grants a waiting event of the oldest tick and assigns it the next EVSEQ. `src` is the
  source served. -/
  | eventArbitration (src : Nat)
  /-- EVENT_RECORD (R532): Lavender takes an event from its queue and updates the record of its code under the rate limit. -/
  | eventRecord
  /-- NOTIFY_PUSH (R534): At most once per NOTIFY_MS a pending code is pushed into the notify queue. -/
  | notifyPush (code : Nat)
  /-- ECC_UNCORRECTABLE_ERROR (R539): An uncorrectable memory error is charged to the owning unit, or makes the tick's data
  VOID. -/
  | eccUncorrectableError (p : EccPlace)
  /-- PCIE_DOORBELL (R63): A host write of MBX_CMD_PROD stores the producer index and rings the command doorbell, or sets
  RING_ERR. -/
  | pcieDoorbell (index : Fin 65536)
  /-- SPI_COMMAND (R64): An SPI COMMAND frame puts one command packet into the SPI command buffer, or is discarded. -/
  | spiCommand (bs : List Byte)
  /-- PACKET_ACCEPTANCE (R68): Privi takes a waiting packet from a transport and applies the acceptance checks. -/
  | packetAcceptance (via : Transport) (slot : Option (List Byte))
  /-- COMMAND_COMPLETE (R74): A command completes, its result is stored in its slot, and it is sent if ACK_REQ is set. -/
  | commandComplete (tag : Nat)
  /-- REPLY_RING_WRITE (R63): A waiting PCIe reply is written into the reply ring once there is space, and MBX_RPL_PROD
  advances. -/
  | replyRingWrite (pcieOk : Bool)
  /-- RESULT_READ (R65): A result-read request returns the slot's reply and advances the slot state. -/
  | resultRead (spi : Option (List Byte))
  /-- MBX_RES_TAG_WRITE (R65): A host write of MBX_RES_TAG fetches that tag's result into MBX_RES_WIN. -/
  | mbxResTagWrite (tag : Fin 65536)
  /-- SPI_FETCH (R64): An SPI FETCH frame returns and removes the oldest queued reply. -/
  | spiFetch
  /-- SPI_STATUS (R64): An SPI STATUS frame returns READY, REPLY_WAITING, CMD_SPACE and the reply count. -/
  | spiStatus
  /-- MBX_RING_RESET (R63): A write of MBX_CTRL.RING_RESET while PCIE_EN is 0 sets both rings' indices to 0. -/
  | mbxRingReset
  /-- SPI_WINDOW_READ (R620): An SPI window read frame reads up to 8 register words, each with a status byte. -/
  | spiWindowRead (fix : Bool) (addr : Fin 16777216) (words : Fin 8) (begun : Fin 9)
  /-- SPI_WINDOW_WRITE (R619): An SPI window write frame writes up to 8 register words, each taking effect when it is
  complete. -/
  | spiWindowWrite (fix : Bool) (addr : Fin 16777216) (words : Fin 8) (data : List Byte) (e : RegEnv)
  /-- REGISTER_WRITE (R87): A host write to a register without a row of its own acts by the access types, ownership and
  domain rules. -/
  | registerWrite (addr : Fin 16777216) (enables : Fin 16) (v : Word) (e : RegEnv)
  /-- GROUP_ABANDONED (R77): An atomic group not closed within 3,840 ticks is abandoned, and its members store TIMEOUT. -/
  | groupAbandoned (id : Nat)
  /-- SYS_NOP (R80): Does nothing and returns OK. -/
  | sysNop (tag : Nat)
  /-- ATOMIC_GROUP_CLOSE (R76): SYS_NOP with ATOMIC_GROUP closes the group, checks its members together and commits all or
  none. -/
  | atomicGroupClose (tag : Nat)
  /-- SYS_IDENTIFY (R81): Returns the identity and unit counts. -/
  | sysIdentify (tag : Nat)
  /-- SYS_GET_HEALTH (R82): Returns the power state, control mode, REPLACE level and retired masks. -/
  | sysGetHealth (tag : Nat)
  /-- RESULT_ACK (R83): Releases the named result slots, or all of them, at once. -/
  | resultAck (tag : Nat)
  /-- LOCKSTEP_MISMATCH (R84): A lockstep comparator mismatch resets the pair and starts a takeover, or enters LOST. -/
  | lockstepMismatch (x : Fin 2)
  /-- FW_WATCHDOG (R539): A control pair fails to restart its watchdog for 100 ms, which is handled as a lockstep mismatch.
  -/
  | fwWatchdog (x : Fin 2)
  /-- TAKEOVER_COMPLETE (R85): The surviving pair completes the takeover and the system enters SOLO. -/
  | takeoverComplete
  /-- PAIR_BOOT_COMPLETE (R84): A reset pair completes its self-test and boot, and resumes at the next frame boundary or is
  retired. -/
  | pairBootComplete (x : Fin 2) (ok : Bool)
  /-- PATH_CONFIG_CARRIERS_RX (R123): Commits the receive stream descriptors of the named paths. -/
  | pathConfigCarriersRx (tag : Nat)
  /-- PATH_CONFIG_CARRIERS_TX (R167): Commits the transmit stream descriptors, shaping coefficients and CFR settings of the
  named paths. -/
  | pathConfigCarriersTx (tag : Nat)
  /-- PATH_SET_GAIN (R124): Commits the gain mode, attenuation and digital gain of the named receive paths. -/
  | pathSetGain (tag : Nat)
  /-- PATH_LOAD_FILTER (R125): Commits channel-filter coefficients for one receive stream, with the quad engine stopped. -/
  | pathLoadFilter (tag : Nat)
  /-- PATH_RETIRE (R126): Retires the named receive and transmit paths from the commit tick. -/
  | pathRetire (tag : Nat)
  /-- PATH_SELECT_FREQ_ENTRY (R168): Operation 0 switches the named paths to a frequency entry, as an NCO-only hop or a
  calibration reload. -/
  | pathSelectFreqEntry (tag : Nat)
  /-- PATH_DEFINE_FREQ_ENTRY (R168): Operation 1 defines a frequency entry's NCO words, CAL_GROUP and DPD_SET. -/
  | pathDefineFreqEntry (tag : Nat)
  /-- PATH_SET_POWER_STEP (R169): Operation 0 commits the power step and BACKOFF_MAX and clears the mask back-off. -/
  | pathSetPowerStep (tag : Nat)
  /-- PATH_LOAD_POWER_COLUMN (R169): Operation 1 loads 64 entries into one power-table column of a path. -/
  | pathLoadPowerColumn (tag : Nat)
  /-- PATH_SET_MASK (R170): Commits a stream's spectral mask segments and its check and back-off flags. -/
  | pathSetMask (tag : Nat)
  /-- PATH_SET_FRONTEND_SCHEDULE (R171): Commits the TDD run pattern and the lead and lag timing of Zinnia. -/
  | pathSetFrontendSchedule (tag : Nat)
  /-- GAIN_LOOP_GAP_TICK_END (R113): At the end of a gap tick the GUARDED loop reads the peak and may step the attenuation.
  -/
  | gainLoopGapTickEnd (p : Fin 64) (peak : Int)
  /-- PADRV_ENABLE (R152): Setting FES_PADRV_CTRL.EN makes GPIO8 to GPIO13 the PA-driver bus and shifts the current word at
  once. -/
  | padrvEnable
  /-- PADRV_DEFERRED_LATCH (R153): A latch that would fall within 3 ticks of the previous one is made at the first permitted
  instant and raises PADRV_LATE. -/
  | padrvDeferredLatch
  /-- CFR_WINDOW_REPORT (R148): At the end of each 3,840-tick window Yarrow reports the EVM costs, the PAPR and the miss
  count. The figures the row shows are not read: the report is the one that the window has measured (log entry 171). -/
  | cfrWindowReport (p : Fin 64) (evm : List (Nat × Nat)) (papr misses : Nat)
  /-- BF_LOAD_BEAM_TABLE (R202): Commits weights into up to 15 beam-table entries. -/
  | bfLoadBeamTable (tag : Nat)
  /-- BF_SET_CARRIER (R203): Operation 0 commits a beamformer carrier's rate, numerology, NRB, shifts and cyclic prefixes. -/
  | bfSetCarrier (tag : Nat)
  /-- BF_SET_BEAM_LAYER (R203): Operation 1 commits an uplink beam's or downlink layer's enable, carrier set and shift. -/
  | bfSetBeamLayer (tag : Nat)
  /-- BF_GET_RETIRED_MASK (R204): Returns the retired receive and transmit masks and BF_RET_TICK. -/
  | bfGetRetiredMask (tag : Nat)
  /-- DPD_START (R232): Starts adaptation on the named paths, or restarts DEGRADED paths with RESTART. -/
  | dpdStart (tag : Nat)
  /-- DPD_FREEZE (R233): Commits HELD on the named paths and discards their uncommitted candidates. -/
  | dpdFreeze (tag : Nat)
  /-- DPD_LOAD_MODEL (R234): Operation 0 replaces a path's term model, empties all slots and returns it to OFF. -/
  | dpdLoadModel (tag : Nat)
  /-- DPD_LOAD_COEFFICIENTS (R234): Operation 1 loads a coefficient set into a slot, as LOADED or ACCEPTED. -/
  | dpdLoadCoefficients (tag : Nat)
  /-- DPD_GET_STATUS (R235): Returns the adaptation status record of each named path. -/
  | dpdGetStatus (tag : Nat)
  /-- OBS_CAPTURE_START (R166): SW_LEAD fine steps before the capture, SWSEL takes the selection and the capture begins. -/
  | obsCaptureStart (j : Fin 8)
  /-- OBS_CAPTURE_END (R218): After 16 DL air ticks the buffer is full and waits for the bulk share, unless it was discarded.
  The figures the row shows are not read: they are formed from the samples (log entry 171). -/
  | obsCaptureEnd (j : Fin 8) (power observed papr : Int) (ovr : Bool)
  /-- CAPTURE_DELIVERED (R220): A capture's last bit reaches cluster memory and serves the mask check, the power check and
  estimation. The figures the row shows are not read: they are formed from the samples (log entry 171). -/
  | captureDelivered (j : Fin 8) (densities : List (Nat × Nat × Nat × Int)) (acf gain : Int)
  /-- ESTIMATION_START (R223): A free DPD_EST engine takes the longest-waiting path that has a newer usable capture. -/
  | estimationStart (e : Fin 16)
  /-- ACCEPTANCE_GUARD (R225): After a candidate is published, the guard accepts it and schedules its commit, or counts a
  divergence. The kernel brings the candidate and its predicted observation; the figures the row shows beside them are not read
  (log entry 171). -/
  | acceptanceGuard (p : Fin 64) (kernelOk : Bool) (coefs predicted : List Cplx) (acfPred acfMeas gainMeas : Int)
  /-- PRACH_CONFIG (R254): Commits one PRACH configuration. -/
  | prachConfig (tag : Nat)
  /-- PRACH_READ_REPORT (R255): Returns whole occasion records from the report ring. -/
  | prachReadReport (tag : Nat)
  /-- FH_CONFIG_PORT (R307): Configures or disables an Ethernet port, and starts alignment on a rate or placement change. -/
  | fhConfigPort (tag : Nat)
  /-- FH_MAP_EAXC (R308): Commits changes to the eAxC map. -/
  | fhMapEaxc (tag : Nat)
  /-- FH_SET_WINDOWS (R309): Commits the reception window openings and EARLY_SYMS. -/
  | fhSetWindows (tag : Nat)
  /-- FH_SET_COMPRESSION (R310): Commits the compression method, width and Petunia budget of one carrier. -/
  | fhSetCompression (tag : Nat)
  /-- FRAME_RECEIVED (R301): A port receives a whole Ethernet frame, which is filtered, timestamped and handed to the parser,
  the PTP stack or in-band control. -/
  | frameReceived (port : Fin 4) (f : Frame)
  /-- PORT_ALIGNED (R302): Alignment markers and FEC lock on every lane bring the port UP and complete FH_CONFIG_PORT. -/
  | portAligned (k : Fin 4)
  /-- PORT_ALIGN_TIMEOUT (R302): After 100 ms in ALIGNING, FH_CONFIG_PORT completes with TIMEOUT while alignment continues.
  -/
  | portAlignTimeout (k : Fin 4)
  /-- FH_LINK_DOWN (R302): Alignment is lost, or 32 uncorrectable codewords arrive within 1 ms, so the port returns to
  ALIGNING. -/
  | fhLinkDown (k : Fin 4)
  /-- FH_REMOTE_FAULT (R302): A remote fault is received, and egress is discarded while it lasts. -/
  | fhRemoteFault (k : Fin 4)
  /-- PTP_SERVO_UPDATE (R468): The PTP servo makes its periodic update of phase and frequency. -/
  | ptpServoUpdate (parent : Option (Fin 8 × Nat)) (ms sm phase : Int) (rate edge : Nat)
  /-- PTP_PARENT_LOSS (R468): No Announce for three intervals, or no Sync for 1 s, takes the servo to HOLDOVER. -/
  | ptpParentLoss
  /-- LANE_CONFIG_GROUP (R338): Sets a lane group's mode, rate and lanes and restarts its lanes. -/
  | laneConfigGroup (tag : Nat) (apps : List (Nat × Nat))
  /-- LANE_CONFIG_TIMEOUT (R338): If the lanes are not in TRACK after 40 ms, LANE_CONFIG_GROUP completes with TIMEOUT. -/
  | laneConfigTimeout (k : Fin 4)
  /-- LANE_ADAPT_RESTART (R339): Operation 0 restarts the named lanes from LOS. -/
  | laneAdaptRestart (tag : Nat)
  /-- LANE_ADAPT_HOLD (R339): Operation 1 sets the HOST hold. -/
  | laneAdaptHold (tag : Nat)
  /-- LANE_ADAPT_RELEASE (R339): Operation 2 clears the HOST hold. -/
  | laneAdaptRelease (tag : Nat)
  /-- LANE_ADAPT_STORE (R339): Operation 3 stores the receiver's adapted values into the preset of the band in force. -/
  | laneAdaptStore (tag : Nat)
  /-- LANE_LOAD_PRESET (R339): Operation 4 loads a lane preset for one band. -/
  | laneLoadPreset (tag : Nat)
  /-- LANE_BIT_SLIP (R341): Discards 1 to 127 received bits of a RAW lane to move its word boundary. -/
  | laneBitSlip (tag : Nat)
  /-- LANE_PRBS (R340): Sets the pattern generator, checker and error injection of RAW lanes. -/
  | lanePrbs (tag : Nat)
  /-- LANE_SIGNAL_SET (R324): The amplitude stays above SD_ON for 1 µs, so SIGNAL is set and a lane in LOS starts acquiring.
  -/
  | laneSignalSet (l : Fin 8)
  /-- LANE_LOS (R324): The amplitude stays below SD_OFF for 1 µs, so SIGNAL clears and the lane returns to LOS. -/
  | laneLos (l : Fin 8)
  /-- LANE_LOCK (R325): FOM at or above FOM_MIN for 1 ms takes the lane from ACQUIRE to TRACK. -/
  | laneLock (l : Fin 8)
  /-- LANE_ACQ_FAIL (R325): The 20 ms acquisition timer expires, and the receiver is reloaded from its preset. -/
  | laneAcqFail (l : Fin 8)
  /-- LANE_UNLOCK (R325): FOM below FOM_LOSS for 100 µs takes the lane from TRACK back to ACQUIRE. -/
  | laneUnlock (l : Fin 8)
  /-- LANE_FREEZE (R323): Content stays low for more than 1 µs, so adaptation freezes. -/
  | laneFreeze (l : Fin 8)
  /-- LANE_UNFREEZE (R323): Content stays adequate for 10 µs, so adaptation resumes. -/
  | laneUnfreeze (l : Fin 8)
  /-- LANE_FOM_REPORT (R322): Every 16 ticks the FOM is reported and one histogram bin is counted. -/
  | laneFomReport (l : Fin 8) (fom : Nat)
  /-- PRBS_CHECKER_LOCK (R334): After 1,024 error-free symbols the checker enters LOCKED. -/
  | prbsCheckerLock (l : Fin 8)
  /-- PRBS_CHECKER_LOSS (R334): More than 256 bit errors in one window return the checker to SEARCH. -/
  | prbsCheckerLoss (l : Fin 8)
  /-- LANE_ERROR_INJECT (R335): Every INTERVAL ticks one bit, or a burst of bits, is inverted in the transmitted stream. -/
  | laneErrorInject (l : Fin 8)
  /-- LANE_RAW_CAPTURE (R336): A write of LN_CTRL.RAW_CAP stores the next received word in LN_RAW0 to LN_RAW3. -/
  | laneRawCapture (l : Fin 8) (word : Nat)
  /-- LANE_HIST_CLEAR (R322): A write of LN_CTRL.HIST_CLR clears the FOM histogram and LN_FOM.MIN. -/
  | laneHistClear (l : Fin 8)
  /-- MODULE_PRESENCE_POLL (R331): Firmware probes a module, brings it out of low power, or raises MOD_ABSENT and retries
  every second. -/
  | modulePresencePoll (m : Fin 2) (rev : Option Nat) (st : Nat) (bad : Bool) (apps : List (Nat × Nat))
  /-- MODULE_FLAG_POLL (R331): Every 10 ms firmware reads the module's latched flags and raises MOD_FLAG. -/
  | moduleFlagPoll (m : Fin 2) (flags : List (Nat × Nat))
  /-- MODULE_MONITOR_POLL (R331): Every 100 ms firmware reads the module's temperature, supply, bias and optical powers. -/
  | moduleMonitorPoll (m : Fin 2) (temp vcc : Nat) (lanes : List (Nat × Nat × Nat × Nat))
  /-- MODULE_HOST_XFER (R332): A write of LN_MOD_XFER.GO makes a host access of up to 4 bytes to the module. -/
  | moduleHostXfer (m : Fin 2) (w : Word)
  /-- CAS_CONFIG (R368): Commits the cascade role, ports, depth, slice and array size. -/
  | casConfig (tag : Nat)
  /-- CAS_DISCOVER (R369): The root sends a discovery request over the cascade. -/
  | casDiscover (tag : Nat)
  /-- CAS_DISCOVER_COMPLETE (R369): 2D+4 ticks after execution, discovery completes with the records of every device. -/
  | casDiscoverComplete
  /-- FINEF_FRAME_RECEIVED (R351): A Finef frame is checked and its partial sums, layer data, staging and control are used.
  -/
  | finefFrameReceived (port : Fin 4) (f : FinefFrame)
  /-- CAS_LINK_UP (R352): 16 consecutive good frames with both lanes in TRACK bring the port UP or to STANDBY. -/
  | casLinkUp (k : Fin 4)
  /-- CAS_LINK_DOWN (R352): 4 failing frames, a lane leaving TRACK or a link fault take the port DOWN. -/
  | casLinkDown (k : Fin 4)
  /-- CAS_REJOIN (R356): At the rejoin tick a port that came UP starts to contribute. -/
  | casRejoin (k : Fin 4)
  /-- RING_REVERSAL (R364): At the announced switch tick, devices beyond a break take new upstream ports. -/
  | ringReversal
  /-- ENG_LOAD_KERNEL (R403): Loads a stored, verified kernel onto the named engines. -/
  | engLoadKernel (tag : Nat) (v : SigVerdict)
  /-- ENG_START_KERNEL (R404): OP 0 starts the named LOADED HOST engines at their init entry. -/
  | engStartKernel (tag : Nat)
  /-- ENG_STOP (R404): OP 1 stops RUNNING engines, or makes FAULTED engines LOADED. -/
  | engStop (tag : Nat)
  /-- ENG_DOORBELL (R404): OP 2 writes parameters and raises DOORBELL on RUNNING HOST engines. -/
  | engDoorbell (tag : Nat)
  /-- SPARE_TAKEOVER (R401): Firmware gives a retired engine's role to a spare, and completes within 64 ticks. -/
  | spareTakeover (e : Fin 16)
  /-- INTERRUPT_ENTRY (R389): An enabled pending interrupt is taken, and the engine saves state and jumps to the vector. -/
  | interruptEntry (e : Fin 16)
  /-- XFER_COMPLETE (R393): A block move completes 12 + n/2 cycles after issue and raises source 2. -/
  | xferComplete (e : Fin 16)
  /-- NOP (R396): Executes the parallel moves only. -/
  | nop (e : Fin 16)
  /-- CMAC (R377): Complex multiply-accumulate into two accumulators. -/
  | cmac (e : Fin 16) (hi conj sub : Bool)
  /-- MAC4 (R377): Four real multiply-accumulates with U0 shared. -/
  | mac4 (e : Fin 16) (sub : Bool)
  /-- MAC (R377): One product added to or subtracted from an accumulator. -/
  | mac (e : Fin 16) (ac : Fin 4) (u : Fin 2) (v : Fin 4) (sub : Bool)
  /-- MPY (R377): One product into an accumulator that is cleared first. -/
  | mpy (e : Fin 16) (ac : Fin 4) (u : Fin 2) (v : Fin 4)
  /-- AOP (R396): Accumulator add, subtract, negate, clear or shift. -/
  | aop (e : Fin 16) (ac : Fin 4) (op : AccOp)
  /-- MOVA (R379): Moves an accumulator, scaled, rounded and saturated, to a register. -/
  | mova (e : Fin 16) (ac : Fin 4) (dst : MovaDest)
  /-- SCM (R379): Sets the scale mode. -/
  | scm (e : Fin 16) (mode : Fin 4)
  /-- LDG (R396): Loads a G, P or J register from bank U or bank V. -/
  | ldg (e : Fin 16) (r : IntReg) (b : Bank) (a : Nat)
  /-- STG (R396): Stores a G, P or J register to bank U or bank V. -/
  | stg (e : Fin 16) (r : IntReg) (b : Bank) (a : Nat)
  /-- GOP (R396): Integer operation on G registers that sets N and Z. -/
  | gop (e : Fin 16) (op : IntOp) (d a b : Fin 8)
  /-- LDI (R396): Loads a 32-bit immediate into a G, P or J register. -/
  | ldi (e : Fin 16) (r : IntReg)
  /-- MOVR (R376): Register-to-register move, control registers included. -/
  | movr (e : Fin 16) (dst src : EngReg)
  /-- XFER (R393): Issues a block move between cluster memory and a local bank. -/
  | xfer (e : Fin 16) (into : Bool) (b : Bank) (g p : Fin 8) (n : Nat)
  /-- WAITX (R393): Stalls until the outstanding block move completes. -/
  | waitx (e : Fin 16)
  /-- BR (R380): Conditional branch with two delay slots. -/
  | br (e : Fin 16)
  /-- CALL (R380): Branch that writes its return address into G7. -/
  | call (e : Fin 16)
  /-- RET (R380): Branch to G7. -/
  | ret (e : Fin 16)
  /-- RTI (R389): Returns from an interrupt and completes any pending branch. -/
  | rti (e : Fin 16)
  /-- LOOP (R383): Pushes a hardware loop frame. -/
  | loop (e : Fin 16)
  /-- LEAVE (R383): Pops the loop stack. -/
  | leave (e : Fin 16)
  /-- RPT (R384): Repeats the next instruction n times. -/
  | rpt (e : Fin 16)
  /-- TEND (R385): Ends the tick's work, publishes any DONE and gates the engine. -/
  | tend (e : Fin 16)
  /-- DONE (R387): Publishes a result code at the tick's TEND. -/
  | done (e : Fin 16)
  /-- SWI (R389): Raises interrupt source 0. -/
  | swi (e : Fin 16)
  /-- EI (R396): Sets SR.IE. -/
  | ei (e : Fin 16)
  /-- DI (R396): Clears SR.IE. -/
  | di (e : Fin 16)
  /-- HALT (R396): Stops the kernel as FAULTED with code 6. -/
  | halt (e : Fin 16)
  /-- DMA_SUBMIT (R423): Writes SHARE, MAXCHAIN and HEAD and starts a DMA channel. -/
  | dmaSubmit (tag : Nat)
  /-- DMA_SUBMIT_WAIT_TIMEOUT (R423): A WAIT submit that sees neither END nor ERROR within 1 s completes with TIMEOUT. -/
  | dmaSubmitWaitTimeout (tag : Nat)
  /-- DMA_CH_DOORBELL (R416): A write of DMA_CHn_DOORBELL starts the channel, or discards the prefetch and sets REREAD. -/
  | dmaChDoorbell (n : Fin 16)
  /-- DMA_CH_RESET (R421): A write of DMA_CHn_CTRL.RESET returns the channel to IDLE. -/
  | dmaChReset (n : Fin 16)
  /-- DMA_BURST_GRANT (R407): The bus grants the next burst to a ready channel in round-robin order. -/
  | dmaBurstGrant (write : Bool) (cycle : Nat) (host : List Byte) (e : RegEnv)
  /-- DMA_DESCRIPTOR_READ (R410): A descriptor read completes and is checked, loop-tested and prefetched onward. -/
  | dmaDescriptorRead (n : Fin 16) (desc : List Byte)
  /-- DMA_DESCRIPTOR_COMPLETE (R415): A descriptor's writes, CRC and read-back complete, and the channel continues or ends.
  -/
  | dmaDescriptorComplete (n : Fin 16) (e : RegEnv)
  /-- DMA_BUS_TIMEOUT (R419): An access receives no completion within DMA_TIMEOUT, so it backs off or ends the chain. -/
  | dmaBusTimeout (n : Fin 16)
  /-- DMA_RETRY (R419): The back-off elapses, and the timed-out access is reissued. -/
  | dmaRetry (n : Fin 16)
  /-- DMA_BUS_ERROR (R419): A UR or CA completion ends the chain with BUS_ERROR. -/
  | dmaBusError (n : Fin 16)
  /-- CLK_SET_BAND_TABLE (R447): Operation 0 replaces a loop's band table. -/
  | clkSetBandTable (tag : Nat)
  /-- CLK_RELOCK (R447): Operation 1 sets REF_SEL and bandwidth and relocks the named loops. -/
  | clkRelock (tag : Nat)
  /-- CLK_UPDATE_DIVIDERS (R448): Commits the CLKMON and RCVCLK dividers and sources. -/
  | clkUpdateDividers (tag : Nat)
  /-- PWR_SET_OP (R449): Commits a fabric operating point, with the voltage sequenced. -/
  | pwrSetOp (tag : Nat)
  /-- OP_RAMP_COMPLETE (R438): The PD_FAB voltage ramp ends, and SEQ_BUSY clears. -/
  | opRampComplete
  /-- PWR_GATE_CLOSE (R442): Operation 0 closes and pins gate nodes, or completes with GATE_BUSY. -/
  | pwrGateClose (tag : Nat) (busy : List Nat)
  /-- PWR_GATE_RELEASE (R450): Operation 1 unpins the named gate nodes. -/
  | pwrGateRelease (tag : Nat)
  /-- LOOP_LOCK (R430): 4,096 good comparisons lock a Tulip loop and enable its outputs. -/
  | loopLock (l : Fin 8)
  /-- LOOP_LOCK_TIMEOUT (R430): The lock-time maximum elapses, so the loop retries on another band or enters FAILED. -/
  | loopLockTimeout (l : Fin 8)
  /-- CLK_UNLOCK (R430): 16 bad comparisons unlock a loop, which returns to LOCKING. -/
  | clkUnlock (l : Fin 8)
  /-- CLK_REF_LOSS (R443): The monitor trips on REFCLK, which enters the safe state, HOLDOVER and HELD. -/
  | clkRefLoss
  /-- CLK_LANE_LOSS (R443): The monitor trips on LANECLK and enters the safe state. -/
  | clkLaneLoss
  /-- SAFE_N_LOW (R443): The SAFE_N pin goes low, which forces the asynchronous safe state. -/
  | safeNLow
  /-- SAFE_N_HIGH (R444): SAFE_N returns high, and the PIN source clears. -/
  | safeNHigh
  /-- CLOCK_SOURCE_QUALIFIED (R444): A tripped clock source passes both tests for 1 ms and is cleared. -/
  | clockSourceQualified (lane : Bool)
  /-- CLK_SYNC_ARM (R433): A write of CLK_SYNC.ARM arms a divider reset, or sets REFUSED. -/
  | clkSyncArm
  /-- CLK_SYNC_CANCEL (R433): A write of CLK_SYNC.CANCEL clears the arm, or releases RESYNC. -/
  | clkSyncCancel
  /-- TIME_ADJUST (R471): TIME_SET_OFFSET mode 0 adjusts OFFSET within the jump threshold. -/
  | timeAdjust (tag edge : Nat)
  /-- TIME_SET_ABSOLUTE (R471): TIME_SET_OFFSET mode 1 sets an absolute time within the jump threshold. -/
  | timeSetAbsolute (tag edge : Nat)
  /-- TIME_SET_RATE (R471): TIME_SET_OFFSET mode 2 sets RATE with L kept continuous. -/
  | timeSetRate (tag edge : Nat)
  /-- TIME_STEP_FORCE_ADJUST (R461): A forced step by an adjustment, ignoring the threshold. -/
  | timeStepForceAdjust (tag edge : Nat)
  /-- TIME_STEP_FORCE_ABSOLUTE (R461): A forced step to an absolute time, ignoring the threshold. -/
  | timeStepForceAbsolute (tag edge : Nat)
  /-- TIME_ARM_TRIGGER (R473): Arms a comparator with a target, action, period and window, or leaves it MISSED. -/
  | timeArmTrigger (tag edge : Nat)
  /-- TIME_DISARM_TRIGGER (R463): TIME_ARM_TRIGGER with ACTION 0 returns the comparator to IDLE. -/
  | timeDisarmTrigger (tag : Nat)
  /-- TIME_CMP_FIRED (R463): A comparator's target is reached within its window, and it performs its action. -/
  | timeCmpFired (i : Fin 16) (edge : Nat)
  /-- TIME_CMP_MISSED (R463): A comparator's target has passed beyond its window, so it is MISSED or skips periods. -/
  | timeCmpMissed (i : Fin 16) (edge : Nat)
  /-- TIME_SNAPSHOT (R457): A write of TIM_CTRL.SNAP latches FRC and time into the TIM_SNAP registers. -/
  | timeSnapshot (edge : Nat)
  /-- PWR_SET_STATE (R484): Requests a power state, which begins a transition or becomes pending. -/
  | pwrSetState (tag : Nat)
  /-- PWR_GET_STATE (R495): Returns the power state, target, pending request and flags. -/
  | pwrGetState (tag : Nat)
  /-- POWER_STEP_COMPLETE (R481): A step of a power transition completes, and the next step or the target state follows. -/
  | powerStepComplete (domain : Option (Fin 13)) (found : BridgeFound) (us : Nat)
  /-- WAKE_STEP_FAIL (R489): A wake step misses its power-good or lock deadline, so it is retried once or the transition
  aborts. -/
  | wakeStepFail (domain : Fin 13) (clock : Bool) (us : Nat)
  /-- WAKE_STEP_RETRY (R489): After 100 µs off, a failed wake step begins again. -/
  | wakeStepRetry (domain : Fin 13)
  /-- BROWNOUT (R487): A low-power regulator held at its current limit for 10 µs turns its domain off. -/
  | brownout (domain : Fin 13)
  /-- BROWNOUT_RESTART (R487): After 100 µs off, a browned-out domain restarts with its contents lost. -/
  | brownoutRestart (domain : Fin 13)
  /-- HOUSEKEEPING_ROUND (R500): Every 1 ms Snowdrop converts the sensors and supply monitors, and Hollyhock evaluates the
  results. -/
  | housekeepingRound (temps : List Int) (supplies : List Nat)
  /-- SNOWDROP_CONVERSION (R499): A conversion of a table entry or urgent request completes and its result is stored. -/
  | snowdropConversion (value : Nat)
  /-- HK_URGENT_REQUEST (R501): A write of HK_URGENT.GO requests an urgent conversion ahead of the round and the table. -/
  | hkUrgentRequest (ch : Fin 64) (avg : Fin 8)
  /-- HK_FIFO_FLUSH (R502): A write of HK_FIFO_CTRL.FLUSH empties the FIFO. -/
  | hkFifoFlush
  /-- HK_LOAD_SEQUENCE (R518): Replaces the Snowdrop sequence table. -/
  | hkLoadSequence (tag : Nat)
  /-- CAL_RUN (R516): Requests foreground or background calibration attempts of an item. -/
  | calRun (tag : Nat)
  /-- CAL_RUN_TIMEOUT (R516): Attempts still pending after 1 s complete CAL_RUN with TIMEOUT. -/
  | calRunTimeout (tag : Nat)
  /-- CAL_SET_POLICY (R517): Writes an item's DELTA, MAX_DIS, AUTO and tolerance scale. -/
  | calSetPolicy (tag : Nat)
  /-- CAL_ATTEMPT_START (R513): A due attempt starts in a usable stretch that holds three runs. -/
  | calAttemptStart (key : Fin 24576)
  /-- CAL_RUN_COMPLETE (R515): A calibration run ends, and the runs agree, go to a third run, or disagree. -/
  | calRunComplete (key : Fin 24576) (comps : List Int) (xres : Int)
  /-- CAL_HOLDOFF_EXPIRY (R515): 100 ms after a disagreement the attempt is DUE again. -/
  | calHoldoffExpiry (key : Fin 24576)
  /-- CAL_STARVED (R515): An attempt that has been DUE for 1 s without a usable gap raises CAL_STARVED. -/
  | calStarved (key : Fin 24576)
  /-- SYS_RESET_UNIT (R530): Resets and self-tests a retired unit and returns it to service. -/
  | sysResetUnit (tag : Nat) (selfOk : Bool)
  /-- EV_READ (R542): Returns event records of a bank at or above a severity. -/
  | evRead (tag : Nat)
  /-- EV_CONFIG_CODE (R543): Sets an event code's notify flag, histogram shift, rate and notify interval, or frees its
  record. -/
  | evConfigCode (tag : Nat)
  /-- INJ_ARM (R541): Arms FORCE, CORRUPT or LOG_ONLY injection on a detector. -/
  | injArm (tag : Nat)
  /-- INJ_DISARM (R541): MODE 0 disarms every injection of a detector. -/
  | injDisarm (tag : Nat)
  /-- INJECTION_FIRE (R540): At the detector's evaluation, every INTERVAL ticks, an injection is made. -/
  | injectionFire (det : Fin 34) (arg : Nat)
  /-- EVR_NOTIFY_READ (R545): A read of EVR_NOTIFY returns and removes the oldest notified code. -/
  | evrNotifyRead
  /-- EVR_WIN_DATA_READ (R545): A read of EVR_WIN_DATA returns a record word and advances the index. -/
  | evrWinDataRead
  /-- REC_ARM (R561): Arms the recorder with a trigger, raw capture and tap. -/
  | recArm (tag : Nat)
  /-- REC_STOP (R562): Stops recording or replay at the next boundary. -/
  | recStop (tag : Nat)
  /-- RECORDING_LIMIT_REACHED (R554): The duration is reached, md is full, or the buffer overflows, so the recording ends
  DONE. -/
  | recordingLimitReached (reason : Fin 3)
  /-- SNAPSHOT_DONE (R551): The copy-on-write snapshot completes, and SNAP_DONE is set. -/
  | snapshotDone
  /-- REPLAY_START (R563): Takes the device off air, loads the snapshot and replays the recording. -/
  | replayStart (tag : Nat)
  /-- REPLAY_DONE (R558): Replay of the last tick, or a stop, ends replay in POST_REPLAY. -/
  | replayDone
  /-- SYS_ACTIVATE_FIRMWARE (R576): Verifies the inactive slot and restarts both control pairs on it. -/
  | sysActivateFirmware (tag : Nat) (v : SigVerdict)
  /-- SEC_INSTALL_OPEN (R575): Operation 0 opens the staging buffer for one object. -/
  | secInstallOpen (tag : Nat)
  /-- SEC_INSTALL_WRITE (R575): Operation 1 writes data into the staged object. -/
  | secInstallWrite (tag : Nat)
  /-- SEC_INSTALL_COMMIT (R575): Operation 2 verifies the staged object and stores it in flash or OTP. -/
  | secInstallCommit (tag : Nat) (v : SigVerdict) (flashOk : Bool)
  /-- SEC_ATTESTATION_BUILD (R578): Operation 0 builds and signs an attestation report for a nonce. -/
  | secAttestationBuild (tag : Nat)
  /-- SEC_ATTESTATION_READ_REPORT (R578): Operation 1 reads bytes of the report. -/
  | secAttestationReadReport (tag : Nat)
  /-- SEC_ATTESTATION_READ_CERTS (R578): Operation 2 reads bytes of the certificate store. -/
  | secAttestationReadCerts (tag : Nat)
  /-- SEC_UNLOCK_CHALLENGE (R580): Operation 0 returns a new challenge. -/
  | secUnlockChallenge (tag : Nat) (random : List Byte)
  /-- SEC_UNLOCK_STAGE (R582): Operation 1 stages token bytes. -/
  | secUnlockStage (tag : Nat)
  /-- SEC_UNLOCK_SUBMIT (R580): Operation 2 verifies the staged token and grants its scope. -/
  | secUnlockSubmit (tag : Nat) (v : SigVerdict)
  /-- SEC_UNLOCK_END (R580): Operation 3 ends the maintenance unlock. -/
  | secUnlockEnd (tag : Nat)
  /-- UNLOCK_DURATION_EXPIRY (R581): The unlock duration elapses: the lock returns, RAW groups go OFF and injections disarm.
  -/
  | unlockDurationExpiry
  /-- CHALLENGE_EXPIRY (R580): An outstanding challenge with no submit for 60 s is discarded. -/
  | challengeExpiry
  /-- SEC_RECOV_DATA_WRITE (R573): In recovery, a write of SEC_RECOV_DATA appends 4 bytes to the recovery object. -/
  | secRecovDataWrite (w : Word)
  /-- SEC_RECOV_GO (R573): A write of SEC_RECOV_CTRL.GO verifies the recovery object and starts it from SRAM. -/
  | secRecovGo (v : SigVerdict)
  /-- QFE_COEF_DATA_READ (R130): Returns a receive filter coefficient and advances the index. -/
  | qfeCoefDataRead (n : Fin 16)
  /-- QFE_TX_COEF_DATA_READ (R174): Returns a shaping coefficient and advances the index. -/
  | qfeTxCoefDataRead (n : Fin 16)
  /-- CFR_MASK_DATA_READ (R175): Returns a mask word and advances the index. -/
  | cfrMaskDataRead
  /-- FRQ_DATA_READ (R175): Returns a frequency-entry word and advances the index. -/
  | frqDataRead
  /-- BF_WIN_DATA_READ (R206): Returns a weight word and advances the index. -/
  | bfWinDataRead
  /-- DPD_COEF_DATA_READ (R237): Returns a coefficient window word and advances the index. -/
  | dpdCoefDataRead
  /-- DPD_TERM_DATA_READ (R237): Returns a term descriptor and advances the index. -/
  | dpdTermDataRead
  /-- FRM_MAP_DATA_READ (R313): Returns an eAxC map entry and advances the index. -/
  | frmMapDataRead
  /-- LN_COEF_DATA_READ (R343): Returns a lane equaliser or preset word and advances the index. -/
  | lnCoefDataRead (l : Fin 8)
  /-- LN_PRBS_ERR_LO_READ (R343): Returns the low error count and latches the high half. -/
  | lnPrbsErrLoRead (l : Fin 8)
  /-- LN_PRBS_BITS_LO_READ (R343): Returns the low bit count and latches the high half. -/
  | lnPrbsBitsLoRead (l : Fin 8)
  /-- LE_MEM_DATA_ACCESS (R406): Reads or, under unlock, writes an engine memory word and advances the index. -/
  | leMemDataAccess (n : Fin 16) (w : Option Word)
  /-- CLM_DATA_ACCESS (R406): Reads or, under unlock, writes a cluster memory word and advances the index. -/
  | clmDataAccess (w : Option Word)
  /-- CLK_BAND_DATA_READ (R452): Returns a band-table entry and advances the index. -/
  | clkBandDataRead
  /-- TIM_ANC_DATA_READ (R475): Returns an anchor word and advances the index. -/
  | timAncDataRead
  /-- HK_SEQ_DATA_READ (R521): Returns a sequence-table entry and advances the index. -/
  | hkSeqDataRead
  /-- HK_FIFO_DATA_READ (R502): Returns and removes the oldest FIFO result. -/
  | hkFifoDataRead
  /-- CAL_RES_DATA_READ (R522): Returns a calibration result state and advances the index. -/
  | calResDataRead
  /-- SYS_RESET_UNIT_TIMEOUT (R530): SYS_RESET_UNIT that has not completed within 384,000 ticks completes with TIMEOUT and
  the unit stays retired. -/
  | sysResetUnitTimeout (tag : Nat)
  /-- MODULE_ACCESS_COMPLETE (R332): A host I2C access to a module ends, and LN_MOD_XSTAT.BUSY clears with the read data or
  NACK in place. -/
  | moduleAccessComplete (m : Fin 2) (nack : Bool) (data : Word)
  /-- MBX_RES_FETCH_COMPLETE (R89): The fetch started by MBX_RES_TAG completes: MBX_RES_WIN holds the reply, BUSY clears and
  VALID is set. -/
  | mbxResFetchComplete
  /-- FH_REMOTE_FAULT_CLEARED (R302): The remote fault received on an UP port ends, REMOTE_FAULT clears and egress is no
  longer discarded. -/
  | fhRemoteFaultCleared (k : Fin 4)
  /-- TIME_PULSE_END (R464): A comparator's PPS_OUT or GPIO pulse falls WIDTH after its last firing. -/
  | timePulseEnd (i : Fin 16)
  /-- POWER_OFF (R478): The supplies, VAON among them, are removed and the device is OFF with every content lost. -/
  | powerOff
deriving DecidableEq, Repr

end Sys2Proof
end

