-- ==== Sys2Proof/Decode.lean ====
section
/-!
DEFINITION. Sys2Proof/Decode.lean: the command that a word spells by the bits of the spec's table. The HM6408's table gives no row
any bits: its commands are packets, register accesses, frames and events, so no word spells one.
-/
namespace Sys2Proof

/-- The command spelled by a word of the table: none, for every word, since no row has bits. -/
def decodeTableWord (_nbits _w : Nat) : Option Instr := none

end Sys2Proof
end

