-- ==== Sys2Proof/Machine/RegMap.lean ====
section
/-!
DEFINITION. Sys2Proof/Machine/RegMap.lean: the register map of the HM6408 (R611, R621-R624) as data. Every architected
register of the field tables of chapters 02 to 23 stands here once: `Fld` definitions name its fields by the spec's own
names, and the descriptor lists give, for every register, its address, its instances and strides (Table 23-1), its
reset value and which of its bits have which access type (Table 00-5). The counts add up to the 6,724 registers of R623.
-/
namespace Sys2Proof.Machine

/-- One field of one register: its address, its lowest bit and its width. -/
structure Fld where
  addr  : Nat
  lo    : Nat
  width : Nat
deriving DecidableEq, Repr

/-- One register of the map: base address, up to two replications (count and stride), reset word, the masks of the bits
of each access type (R12; all other bits are RO), and whether a commit applies it (R617). -/
structure RegDesc where
  name     : String
  base     : Nat
  count1   : Nat
  stride1  : Nat
  count2   : Nat
  stride2  : Nat
  reset    : Nat
  rw       : Nat
  fw       : Nat
  w1c      : Nat
  sc       : Nat
  wo       : Nat
  shadowed : Bool
deriving DecidableEq, Repr

namespace F

/-! ### Table 02-8 -/

def TCK_TICKNO_TICKNO : Fld := ⟨0x40000, 0, 32⟩
def TCK_FRAME_SFN : Fld := ⟨0x40004, 16, 10⟩
def TCK_FRAME_FRAME_TICK : Fld := ⟨0x40004, 0, 16⟩
def TCK_STATUS_TSYNC_MISMATCH : Fld := ⟨0x40008, 3, 1⟩
def TCK_STATUS_TSYNC_SEEN : Fld := ⟨0x40008, 2, 1⟩
def TCK_STATUS_STATE : Fld := ⟨0x40008, 0, 2⟩
def TCK_CTRL_PEAK_CLR : Fld := ⟨0x4000C, 2, 1⟩
def TCK_CTRL_ALIGN_ARM : Fld := ⟨0x4000C, 1, 1⟩
def TCK_CTRL_RUN : Fld := ⟨0x4000C, 0, 1⟩
def TCK_TSYNC_TICKNO_VALUE : Fld := ⟨0x40010, 0, 32⟩
def TCK_TSYNC_SFN_VALUE : Fld := ⟨0x40014, 0, 10⟩
def TCK_COMMIT_TICK_TICK : Fld := ⟨0x40020, 0, 32⟩
def TCK_COMMIT_CTRL_CANCEL : Fld := ⟨0x40024, 1, 1⟩
def TCK_COMMIT_CTRL_ARM : Fld := ⟨0x40024, 0, 1⟩
def TCK_COMMIT_STAT_RESULT : Fld := ⟨0x40028, 0, 3⟩
def TCK_OVR_COUNT_COUNT : Fld := ⟨0x40030, 0, 32⟩
def TCK_OVR_LAST_TICK_LO : Fld := ⟨0x40034, 16, 16⟩
def TCK_OVR_LAST_UNIT : Fld := ⟨0x40034, 8, 8⟩
def TCK_OVR_LAST_BLOCK : Fld := ⟨0x40034, 0, 4⟩
def TCK_EVSEQ_LO_VALUE : Fld := ⟨0x40040, 0, 32⟩
def TCK_EVSEQ_HI_VALUE : Fld := ⟨0x40044, 0, 32⟩
def TCK_ARB_DROP_COUNT : Fld := ⟨0x40048, 0, 32⟩
def TCK_LOAD_PEAK (i : Nat) : Fld := ⟨0x40100 + 0x4 * i, 16, 16⟩
def TCK_LOAD_REQ (i : Nat) : Fld := ⟨0x40100 + 0x4 * i, 0, 16⟩

/-! ### Table 03-10 -/

def MBX_CTRL_RING_RESET : Fld := ⟨0x90000, 8, 1⟩
def MBX_CTRL_SPI_EN : Fld := ⟨0x90000, 2, 1⟩
def MBX_CTRL_INB_EN : Fld := ⟨0x90000, 1, 1⟩
def MBX_CTRL_PCIE_EN : Fld := ⟨0x90000, 0, 1⟩
def MBX_STATUS_RPL_FULL : Fld := ⟨0x90004, 4, 1⟩
def MBX_STATUS_MODE : Fld := ⟨0x90004, 2, 2⟩
def MBX_STATUS_READY : Fld := ⟨0x90004, 0, 1⟩
def MBX_CMD_BASE_LO_BASE : Fld := ⟨0x90008, 13, 19⟩
def MBX_CMD_BASE_HI_BASE : Fld := ⟨0x9000C, 0, 32⟩
def MBX_CMD_SIZE_LOG2 : Fld := ⟨0x90010, 0, 4⟩
def MBX_CMD_PROD_INDEX : Fld := ⟨0x90014, 0, 16⟩
def MBX_CMD_CONS_INDEX : Fld := ⟨0x90018, 0, 16⟩
def MBX_RPL_BASE_LO_BASE : Fld := ⟨0x90020, 13, 19⟩
def MBX_RPL_BASE_HI_BASE : Fld := ⟨0x90024, 0, 32⟩
def MBX_RPL_SIZE_LOG2 : Fld := ⟨0x90028, 0, 4⟩
def MBX_RPL_PROD_INDEX : Fld := ⟨0x9002C, 0, 16⟩
def MBX_RPL_CONS_INDEX : Fld := ⟨0x90030, 0, 16⟩
def MBX_RES_TAG_TAG : Fld := ⟨0x90040, 0, 16⟩
def MBX_RES_STAT_BUSY : Fld := ⟨0x90044, 9, 1⟩
def MBX_RES_STAT_VALID : Fld := ⟨0x90044, 8, 1⟩
def MBX_RES_STAT_STATUS : Fld := ⟨0x90044, 0, 8⟩
def MBX_IRQ_STAT_MODE_CHANGE : Fld := ⟨0x90048, 2, 1⟩
def MBX_IRQ_STAT_RING_ERR : Fld := ⟨0x90048, 1, 1⟩
def MBX_IRQ_STAT_REPLY : Fld := ⟨0x90048, 0, 1⟩
def MBX_IRQ_EN_EN : Fld := ⟨0x9004C, 0, 3⟩
def MBX_DISC_INB : Fld := ⟨0x90050, 16, 8⟩
def MBX_DISC_SPI : Fld := ⟨0x90050, 8, 8⟩
def MBX_DISC_PCIE : Fld := ⟨0x90050, 0, 8⟩
def MBX_SLOT_USE_GROUPS : Fld := ⟨0x90054, 8, 4⟩
def MBX_SLOT_USE_USED : Fld := ⟨0x90054, 0, 7⟩
def MBX_RES_GEN_GEN : Fld := ⟨0x90058, 0, 16⟩
def MBX_FW_IGN_COUNT : Fld := ⟨0x90060, 0, 32⟩
def MBX_FW_IGN_ADDR_ADDR : Fld := ⟨0x90064, 0, 24⟩

/-! ### Table 04-11 -/

def RXP_STATUS_RETIRED (i : Nat) : Fld := ⟨0x100000 + 0x1000 * i, 8, 1⟩
def RXP_STATUS_STREAMS (i : Nat) : Fld := ⟨0x100000 + 0x1000 * i, 4, 4⟩
def RXP_STATUS_ZONE (i : Nat) : Fld := ⟨0x100000 + 0x1000 * i, 2, 2⟩
def RXP_STATUS_AGC (i : Nat) : Fld := ⟨0x100000 + 0x1000 * i, 0, 2⟩
def RXP_GAIN_COMP (i : Nat) : Fld := ⟨0x100004 + 0x1000 * i, 29, 1⟩
def RXP_GAIN_ATTEN (i : Nat) : Fld := ⟨0x100004 + 0x1000 * i, 24, 5⟩
def RXP_GAIN_MODE (i : Nat) : Fld := ⟨0x100004 + 0x1000 * i, 16, 1⟩
def RXP_GAIN_DGAIN (i : Nat) : Fld := ⟨0x100004 + 0x1000 * i, 0, 16⟩
def RXP_GAIN_STAT_ATTEN (i : Nat) : Fld := ⟨0x100008 + 0x1000 * i, 24, 5⟩
def RXP_GAIN_STAT_DGAIN (i : Nat) : Fld := ⟨0x100008 + 0x1000 * i, 0, 16⟩
def RXP_DC_CTRL_TC (i : Nat) : Fld := ⟨0x10000C + 0x1000 * i, 1, 5⟩
def RXP_DC_CTRL_FREEZE (i : Nat) : Fld := ⟨0x10000C + 0x1000 * i, 0, 1⟩
def RXP_DC_EST_EST (i : Nat) : Fld := ⟨0x100010 + 0x1000 * i, 0, 16⟩
def RXP_AGC_CFG_MAX_STEP (i : Nat) : Fld := ⟨0x100014 + 0x1000 * i, 20, 4⟩
def RXP_AGC_CFG_DOWN_TICKS (i : Nat) : Fld := ⟨0x100014 + 0x1000 * i, 16, 4⟩
def RXP_AGC_CFG_DOWN_MARGIN (i : Nat) : Fld := ⟨0x100014 + 0x1000 * i, 8, 8⟩
def RXP_AGC_CFG_UP_MARGIN (i : Nat) : Fld := ⟨0x100014 + 0x1000 * i, 0, 8⟩
def RXP_PEAK_PEAK (i : Nat) : Fld := ⟨0x100018 + 0x1000 * i, 0, 16⟩
def RXP_CLIP_UL_COUNT (i : Nat) : Fld := ⟨0x100020 + 0x1000 * i, 0, 32⟩
def RXP_CLIP_GAP_COUNT (i : Nat) : Fld := ⟨0x100024 + 0x1000 * i, 0, 32⟩
def RXP_QUAL_SETTLING_COUNT (i : Nat) : Fld := ⟨0x100028 + 0x1000 * i, 0, 32⟩
def RXP_QUAL_VOID_COUNT (i : Nat) : Fld := ⟨0x10002C + 0x1000 * i, 0, 32⟩
def RXP_STR_CFG_BW (i j : Nat) : Fld := ⟨0x100040 + 0x1000 * i + 0x10 * j, 16, 16⟩
def RXP_STR_CFG_RATE (i j : Nat) : Fld := ⟨0x100040 + 0x1000 * i + 0x10 * j, 9, 3⟩
def RXP_STR_CFG_POLICY (i j : Nat) : Fld := ⟨0x100040 + 0x1000 * i + 0x10 * j, 8, 1⟩
def RXP_STR_CFG_EN (i j : Nat) : Fld := ⟨0x100040 + 0x1000 * i + 0x10 * j, 0, 1⟩
def RXP_STR_NCO_LO_WORD (i j : Nat) : Fld := ⟨0x100044 + 0x1000 * i + 0x10 * j, 0, 32⟩
def RXP_STR_NCO_HI_PHASE (i j : Nat) : Fld := ⟨0x100048 + 0x1000 * i + 0x10 * j, 16, 16⟩
def RXP_STR_NCO_HI_WORD (i j : Nat) : Fld := ⟨0x100048 + 0x1000 * i + 0x10 * j, 0, 16⟩
def RXP_STR_FILT_OUT_SHIFT (i j : Nat) : Fld := ⟨0x10004C + 0x1000 * i + 0x10 * j, 13, 3⟩
def RXP_STR_FILT_TAPS (i j : Nat) : Fld := ⟨0x10004C + 0x1000 * i + 0x10 * j, 0, 9⟩
def RXP_NF_CTRL_EN (i : Nat) : Fld := ⟨0x100080 + 0x1000 * i, 31, 1⟩
def RXP_NF_CTRL_STREAM (i : Nat) : Fld := ⟨0x100080 + 0x1000 * i, 26, 2⟩
def RXP_NF_CTRL_PERIOD (i : Nat) : Fld := ⟨0x100080 + 0x1000 * i, 16, 10⟩
def RXP_NF_CTRL_SYMMASK (i : Nat) : Fld := ⟨0x100080 + 0x1000 * i, 0, 14⟩
def RXP_NF_OFFSET_OFFSET (i : Nat) : Fld := ⟨0x100084 + 0x1000 * i, 0, 10⟩
def RXP_NF_COUNT (i : Nat) : Fld := ⟨0x100088 + 0x1000 * i, 16, 16⟩
def RXP_NF_LAST (i : Nat) : Fld := ⟨0x100088 + 0x1000 * i, 0, 16⟩
def RXP_NF_AVG_AVG (i : Nat) : Fld := ⟨0x10008C + 0x1000 * i, 0, 16⟩
def RXP_NF_SKIP_COUNT (i : Nat) : Fld := ⟨0x100090 + 0x1000 * i, 0, 32⟩

/-! ### Table 04-12 -/

def QFE_STATUS_RETIRED (i : Nat) : Fld := ⟨0x1C0000 + 0x1000 * i, 8, 1⟩
def QFE_STATUS_STATE (i : Nat) : Fld := ⟨0x1C0000 + 0x1000 * i, 0, 2⟩
def QFE_LOAD_PEAK (i : Nat) : Fld := ⟨0x1C0004 + 0x1000 * i, 16, 16⟩
def QFE_LOAD_REQ (i : Nat) : Fld := ⟨0x1C0004 + 0x1000 * i, 0, 16⟩
def QFE_COEF_ADDR_INDEX (i : Nat) : Fld := ⟨0x1C0008 + 0x1000 * i, 0, 13⟩
def QFE_COEF_DATA_COEF (i : Nat) : Fld := ⟨0x1C000C + 0x1000 * i, 0, 32⟩
def QFE_SAT_COUNT (i : Nat) : Fld := ⟨0x1C0010 + 0x1000 * i, 0, 32⟩
def QFE_STOPS_COUNT (i : Nat) : Fld := ⟨0x1C0014 + 0x1000 * i, 0, 32⟩

/-! ### Table 05-13 -/

def TXP_STATUS_NOT_READY (i : Nat) : Fld := ⟨0x140000 + 0x1000 * i, 10, 1⟩
def TXP_STATUS_WARM (i : Nat) : Fld := ⟨0x140000 + 0x1000 * i, 9, 1⟩
def TXP_STATUS_RETIRED (i : Nat) : Fld := ⟨0x140000 + 0x1000 * i, 8, 1⟩
def TXP_STATUS_STREAMS (i : Nat) : Fld := ⟨0x140000 + 0x1000 * i, 4, 4⟩
def TXP_STATUS_ZONE (i : Nat) : Fld := ⟨0x140000 + 0x1000 * i, 2, 2⟩
def TXP_STATUS_CAPPED (i : Nat) : Fld := ⟨0x140000 + 0x1000 * i, 1, 1⟩
def TXP_STATUS_MUTED (i : Nat) : Fld := ⟨0x140000 + 0x1000 * i, 0, 1⟩
def TXP_POWER_BACKOFF_MAX (i : Nat) : Fld := ⟨0x140004 + 0x1000 * i, 8, 4⟩
def TXP_POWER_STEP (i : Nat) : Fld := ⟨0x140004 + 0x1000 * i, 0, 6⟩
def TXP_POWER_STAT_COLUMN (i : Nat) : Fld := ⟨0x140008 + 0x1000 * i, 16, 4⟩
def TXP_POWER_STAT_BACKOFF (i : Nat) : Fld := ⟨0x140008 + 0x1000 * i, 8, 4⟩
def TXP_POWER_STAT_STEP (i : Nat) : Fld := ⟨0x140008 + 0x1000 * i, 0, 6⟩
def TXP_ENTRY_LO_PADRV (i : Nat) : Fld := ⟨0x14000C + 0x1000 * i, 24, 2⟩
def TXP_ENTRY_LO_DAC_CUR (i : Nat) : Fld := ⟨0x14000C + 0x1000 * i, 16, 6⟩
def TXP_ENTRY_LO_BACKOFF (i : Nat) : Fld := ⟨0x14000C + 0x1000 * i, 0, 16⟩
def TXP_ENTRY_HI_EXP_GAIN (i : Nat) : Fld := ⟨0x140010 + 0x1000 * i, 0, 16⟩
def TXP_FREQ_CAL_VALID (i : Nat) : Fld := ⟨0x140014 + 0x1000 * i, 8, 1⟩
def TXP_FREQ_ENTRY (i : Nat) : Fld := ⟨0x140014 + 0x1000 * i, 0, 8⟩
def TXP_NOTREADY_TICKS_COUNT (i : Nat) : Fld := ⟨0x140018 + 0x1000 * i, 0, 32⟩
def TXP_LATE_STARTS_COUNT (i : Nat) : Fld := ⟨0x14001C + 0x1000 * i, 0, 32⟩
def TXP_DAC_SAT_COUNT (i : Nat) : Fld := ⟨0x140020 + 0x1000 * i, 0, 32⟩
def TXP_CFR_CFG_ITER (i : Nat) : Fld := ⟨0x140024 + 0x1000 * i, 8, 2⟩
def TXP_CFR_CFG_TARGET (i : Nat) : Fld := ⟨0x140024 + 0x1000 * i, 0, 7⟩
def TXP_CFR_STAT_PAPR_MISS (i : Nat) : Fld := ⟨0x140028 + 0x1000 * i, 16, 16⟩
def TXP_CFR_STAT_PAPR (i : Nat) : Fld := ⟨0x140028 + 0x1000 * i, 0, 16⟩
def TXP_MASK_VIOL_COUNT (i : Nat) : Fld := ⟨0x14002C + 0x1000 * i, 0, 32⟩
def TXP_MASK_LAST_VALUE (i : Nat) : Fld := ⟨0x140030 + 0x1000 * i, 0, 32⟩
def TXP_QUAL_SETTLING_COUNT (i : Nat) : Fld := ⟨0x140034 + 0x1000 * i, 0, 32⟩
def TXP_QUAL_VOID_COUNT (i : Nat) : Fld := ⟨0x140038 + 0x1000 * i, 0, 32⟩
def TXP_STR_CFG_BW (i j : Nat) : Fld := ⟨0x140040 + 0x1000 * i + 0x10 * j, 16, 16⟩
def TXP_STR_CFG_RATE (i j : Nat) : Fld := ⟨0x140040 + 0x1000 * i + 0x10 * j, 9, 3⟩
def TXP_STR_CFG_EN (i j : Nat) : Fld := ⟨0x140040 + 0x1000 * i + 0x10 * j, 0, 1⟩
def TXP_STR_NCO_LO_WORD (i j : Nat) : Fld := ⟨0x140044 + 0x1000 * i + 0x10 * j, 0, 32⟩
def TXP_STR_NCO_HI_PHASE (i j : Nat) : Fld := ⟨0x140048 + 0x1000 * i + 0x10 * j, 16, 16⟩
def TXP_STR_NCO_HI_WORD (i j : Nat) : Fld := ⟨0x140048 + 0x1000 * i + 0x10 * j, 0, 16⟩
def TXP_STR_SHAPE_EVM_LIMIT (i j : Nat) : Fld := ⟨0x14004C + 0x1000 * i + 0x10 * j, 16, 16⟩
def TXP_STR_SHAPE_OUT_SHIFT (i j : Nat) : Fld := ⟨0x14004C + 0x1000 * i + 0x10 * j, 13, 3⟩
def TXP_STR_SHAPE_MASK_EN (i j : Nat) : Fld := ⟨0x14004C + 0x1000 * i + 0x10 * j, 12, 1⟩
def TXP_STR_SHAPE_BO_EN (i j : Nat) : Fld := ⟨0x14004C + 0x1000 * i + 0x10 * j, 11, 1⟩
def TXP_STR_SHAPE_TAPS (i j : Nat) : Fld := ⟨0x14004C + 0x1000 * i + 0x10 * j, 0, 9⟩
def TXP_STR_EVM_MAX (i j : Nat) : Fld := ⟨0x140080 + 0x1000 * i + 0x4 * j, 16, 16⟩
def TXP_STR_EVM_MEAN (i j : Nat) : Fld := ⟨0x140080 + 0x1000 * i + 0x4 * j, 0, 16⟩

/-! ### Table 05-14 -/

def QFE_TX_LOAD_PEAK (i : Nat) : Fld := ⟨0x1C0100 + 0x1000 * i, 16, 16⟩
def QFE_TX_LOAD_REQ (i : Nat) : Fld := ⟨0x1C0100 + 0x1000 * i, 0, 16⟩
def QFE_TX_COEF_ADDR_INDEX (i : Nat) : Fld := ⟨0x1C0104 + 0x1000 * i, 0, 13⟩
def QFE_TX_COEF_DATA_COEF (i : Nat) : Fld := ⟨0x1C0108 + 0x1000 * i, 0, 32⟩
def QFE_TX_SAT_COUNT (i : Nat) : Fld := ⟨0x1C010C + 0x1000 * i, 0, 32⟩

/-! ### Table 05-15 -/

def CFR_MASK_ADDR_INDEX : Fld := ⟨0x220000, 0, 15⟩
def CFR_MASK_DATA_DATA : Fld := ⟨0x220004, 0, 32⟩
def FES_STATUS_RUN : Fld := ⟨0x221000, 8, 8⟩
def FES_STATUS_CLASS : Fld := ⟨0x221000, 0, 2⟩
def FES_CFG_NRUNS : Fld := ⟨0x221004, 16, 8⟩
def FES_CFG_PERIOD : Fld := ⟨0x221004, 0, 16⟩
def FES_TIMING_TR_LAG : Fld := ⟨0x221008, 24, 8⟩
def FES_TIMING_TR_LEAD : Fld := ⟨0x221008, 16, 8⟩
def FES_TIMING_PA_LAG : Fld := ⟨0x221008, 8, 8⟩
def FES_TIMING_PA_LEAD : Fld := ⟨0x221008, 0, 8⟩
def FES_QUADS_QUADS : Fld := ⟨0x22100C, 0, 16⟩
def FES_SW_SW_LEAD : Fld := ⟨0x221010, 0, 8⟩
def FES_PADRV_CTRL_LEAD : Fld := ⟨0x221014, 8, 5⟩
def FES_PADRV_CTRL_EN : Fld := ⟨0x221014, 0, 1⟩
def FES_PADRV_LATE_COUNT : Fld := ⟨0x221018, 0, 32⟩
def FES_RUN_CLASS (i : Nat) : Fld := ⟨0x221100 + 0x4 * i, 16, 2⟩
def FES_RUN_LENGTH (i : Nat) : Fld := ⟨0x221100 + 0x4 * i, 0, 16⟩
def FRQ_ADDR_INDEX : Fld := ⟨0x222000, 0, 13⟩
def FRQ_DATA_DATA : Fld := ⟨0x222004, 0, 32⟩

/-! ### Table 06-9 -/

def BF_STATUS_DL_CARRIERS : Fld := ⟨0x200000, 4, 4⟩
def BF_STATUS_UL_CARRIERS : Fld := ⟨0x200000, 0, 4⟩
def BF_STAGE_GEN_GEN : Fld := ⟨0x200004, 0, 32⟩
def BF_DEPTH_DEPTH : Fld := ⟨0x200008, 0, 8⟩
def BF_RET_RX_LO_MASK : Fld := ⟨0x200010, 0, 32⟩
def BF_RET_RX_HI_MASK : Fld := ⟨0x200014, 0, 32⟩
def BF_RET_TX_LO_MASK : Fld := ⟨0x200018, 0, 32⟩
def BF_RET_TX_HI_MASK : Fld := ⟨0x20001C, 0, 32⟩
def BF_RET_TICK_TICK : Fld := ⟨0x200020, 0, 32⟩
def BF_LATE_CPLANE_COUNT : Fld := ⟨0x200024, 0, 32⟩
def BF_LATE_LAST_VALUE : Fld := ⟨0x200028, 0, 32⟩
def BF_UL_SAT_COUNT : Fld := ⟨0x20002C, 0, 32⟩
def BF_DL_SAT_COUNT : Fld := ⟨0x200030, 0, 32⟩
def BF_FFT_SAT_COUNT : Fld := ⟨0x200034, 0, 32⟩
def BF_IFFT_SAT_COUNT : Fld := ⟨0x200038, 0, 32⟩
def BF_BAD_BEAMID_COUNT : Fld := ⟨0x20003C, 0, 32⟩
def BF_BAD_WEIGHTS_COUNT : Fld := ⟨0x200040, 0, 32⟩
def BF_CI_REFUSED_COUNT : Fld := ⟨0x200044, 0, 32⟩
def BF_CI_MISSING_COUNT : Fld := ⟨0x200048, 0, 32⟩
def BF_GROUP_OVF_COUNT : Fld := ⟨0x20004C, 0, 32⟩
def BF_WIN_ADDR_REGION : Fld := ⟨0x200050, 28, 4⟩
def BF_WIN_ADDR_INDEX : Fld := ⟨0x200050, 0, 18⟩
def BF_WIN_DATA_Q : Fld := ⟨0x200054, 16, 16⟩
def BF_WIN_DATA_I : Fld := ⟨0x200054, 0, 16⟩
def BF_CAR_CFG_EN (i : Nat) : Fld := ⟨0x200100 + 0x40 * i, 31, 1⟩
def BF_CAR_CFG_MU (i : Nat) : Fld := ⟨0x200100 + 0x40 * i, 28, 3⟩
def BF_CAR_CFG_RATE (i : Nat) : Fld := ⟨0x200100 + 0x40 * i, 25, 3⟩
def BF_CAR_CFG_NLOG (i : Nat) : Fld := ⟨0x200100 + 0x40 * i, 23, 2⟩
def BF_CAR_CFG_FFT_SHIFT (i : Nat) : Fld := ⟨0x200100 + 0x40 * i, 19, 4⟩
def BF_CAR_CFG_OUT_SHIFT (i : Nat) : Fld := ⟨0x200100 + 0x40 * i, 16, 3⟩
def BF_CAR_CFG_NRB (i : Nat) : Fld := ⟨0x200100 + 0x40 * i, 0, 9⟩
def BF_CAR_CP_CP_LONG (i : Nat) : Fld := ⟨0x200104 + 0x40 * i, 16, 16⟩
def BF_CAR_CP_CP_NORM (i : Nat) : Fld := ⟨0x200104 + 0x40 * i, 0, 16⟩
def BF_CAR_WIN_WB (i : Nat) : Fld := ⟨0x200108 + 0x40 * i, 0, 16⟩
def BF_CAR_STAT_EXCL (i : Nat) : Fld := ⟨0x20010C + 0x40 * i, 16, 8⟩
def BF_CAR_STAT_DROPPED (i : Nat) : Fld := ⟨0x20010C + 0x40 * i, 0, 16⟩
def BF_UL_BEAM_EN (i : Nat) : Fld := ⟨0x200300 + 0x4 * i, 31, 1⟩
def BF_UL_BEAM_SHIFT (i : Nat) : Fld := ⟨0x200300 + 0x4 * i, 24, 3⟩
def BF_UL_BEAM_CARRIERS (i : Nat) : Fld := ⟨0x200300 + 0x4 * i, 0, 4⟩
def BF_DL_LAYER_EN (i : Nat) : Fld := ⟨0x200380 + 0x4 * i, 31, 1⟩
def BF_DL_LAYER_CARRIERS (i : Nat) : Fld := ⟨0x200380 + 0x4 * i, 0, 4⟩

/-! ### Table 07-12 -/

def DPD_CFG_MIN_POWER : Fld := ⟨0x210000, 24, 8⟩
def DPD_CFG_MIN_PAPR : Fld := ⟨0x210000, 16, 8⟩
def DPD_CFG_DIV_MARGIN : Fld := ⟨0x210000, 8, 8⟩
def DPD_ENGINES_MASK : Fld := ⟨0x210004, 0, 16⟩
def DPD_QUEUE_DEPTH : Fld := ⟨0x210008, 0, 8⟩
def DPD_COEF_ADDR_INDEX : Fld := ⟨0x210010, 0, 20⟩
def DPD_COEF_DATA_DATA : Fld := ⟨0x210014, 0, 32⟩
def DPD_TERM_ADDR_INDEX : Fld := ⟨0x210018, 0, 13⟩
def DPD_TERM_DATA_DESC : Fld := ⟨0x21001C, 0, 32⟩
def DPD_P_STATUS_SLOT (i : Nat) : Fld := ⟨0x211000 + 0x20 * i, 16, 7⟩
def DPD_P_STATUS_NO_OBS (i : Nat) : Fld := ⟨0x211000 + 0x20 * i, 12, 1⟩
def DPD_P_STATUS_CAPPED (i : Nat) : Fld := ⟨0x211000 + 0x20 * i, 11, 1⟩
def DPD_P_STATUS_ACCEPTED (i : Nat) : Fld := ⟨0x211000 + 0x20 * i, 10, 1⟩
def DPD_P_STATUS_DIV_COUNT (i : Nat) : Fld := ⟨0x211000 + 0x20 * i, 8, 2⟩
def DPD_P_STATUS_STATE (i : Nat) : Fld := ⟨0x211000 + 0x20 * i, 0, 3⟩
def DPD_P_ACF_PRED (i : Nat) : Fld := ⟨0x211004 + 0x20 * i, 16, 16⟩
def DPD_P_ACF_MEAS (i : Nat) : Fld := ⟨0x211004 + 0x20 * i, 0, 16⟩
def DPD_P_GAIN_MEAS (i : Nat) : Fld := ⟨0x211008 + 0x20 * i, 16, 16⟩
def DPD_P_GAIN_PRED (i : Nat) : Fld := ⟨0x211008 + 0x20 * i, 0, 16⟩
def DPD_P_UPDATES_COUNT (i : Nat) : Fld := ⟨0x21100C + 0x20 * i, 0, 32⟩
def DPD_P_DIVERGE_COUNT (i : Nat) : Fld := ⟨0x211010 + 0x20 * i, 0, 32⟩
def DPD_P_SKIP_STALE (i : Nat) : Fld := ⟨0x211014 + 0x20 * i, 16, 16⟩
def DPD_P_SKIP_WEAK (i : Nat) : Fld := ⟨0x211014 + 0x20 * i, 0, 16⟩
def DPD_P_PWR_COUNT (i : Nat) : Fld := ⟨0x211018 + 0x20 * i, 16, 16⟩
def DPD_P_PWR_DEV (i : Nat) : Fld := ⟨0x211018 + 0x20 * i, 0, 16⟩

/-! ### Table 07-13 -/

def OBS_STATUS_RETIRED (i : Nat) : Fld := ⟨0x180000 + 0x1000 * i, 8, 1⟩
def OBS_STATUS_SEL (i : Nat) : Fld := ⟨0x180000 + 0x1000 * i, 4, 3⟩
def OBS_STATUS_STATE (i : Nat) : Fld := ⟨0x180000 + 0x1000 * i, 0, 3⟩
def OBS_CFG_SKIP (i : Nat) : Fld := ⟨0x180004 + 0x1000 * i, 0, 8⟩
def OBS_ATTEN_LO_S3 (i : Nat) : Fld := ⟨0x180008 + 0x1000 * i, 24, 5⟩
def OBS_ATTEN_LO_S2 (i : Nat) : Fld := ⟨0x180008 + 0x1000 * i, 16, 5⟩
def OBS_ATTEN_LO_S1 (i : Nat) : Fld := ⟨0x180008 + 0x1000 * i, 8, 5⟩
def OBS_ATTEN_LO_S0 (i : Nat) : Fld := ⟨0x180008 + 0x1000 * i, 0, 5⟩
def OBS_ATTEN_HI_S7_S4 (i : Nat) : Fld := ⟨0x18000C + 0x1000 * i, 0, 32⟩
def OBS_CAPTURES_COUNT (i : Nat) : Fld := ⟨0x180010 + 0x1000 * i, 0, 32⟩
def OBS_DISCARD_COUNT (i : Nat) : Fld := ⟨0x180014 + 0x1000 * i, 0, 32⟩
def OBS_CLIP_COUNT (i : Nat) : Fld := ⟨0x180018 + 0x1000 * i, 0, 32⟩
def OBS_LAST_TICK_TICK (i : Nat) : Fld := ⟨0x18001C + 0x1000 * i, 0, 32⟩

/-! ### Table 08-6 -/

def PRA_STATUS_FALLBACK : Fld := ⟨0x230000, 4, 4⟩
def PRA_STATUS_EN : Fld := ⟨0x230000, 0, 4⟩
def PRA_OCCSEQ_NEXT : Fld := ⟨0x230004, 0, 32⟩
def PRA_RING_OVF_COUNT : Fld := ⟨0x230008, 0, 32⟩
def PRA_TRUNC_COUNT : Fld := ⟨0x23000C, 0, 32⟩
def PRA_BEAM_DROP_COUNT : Fld := ⟨0x230010, 0, 32⟩
def PRA_LATE_SECTION_COUNT : Fld := ⟨0x230014, 0, 32⟩
def PRA_VOID_OCC_COUNT : Fld := ⟨0x230018, 0, 32⟩
def PRA_CFG_CTRL_EN (i : Nat) : Fld := ⟨0x230100 + 0x20 * i, 31, 1⟩
def PRA_CFG_CTRL_DELIVERY (i : Nat) : Fld := ⟨0x230100 + 0x20 * i, 29, 2⟩
def PRA_CFG_CTRL_STREAM (i : Nat) : Fld := ⟨0x230100 + 0x20 * i, 27, 2⟩
def PRA_CFG_CTRL_SEQ (i : Nat) : Fld := ⟨0x230100 + 0x20 * i, 25, 2⟩
def PRA_CFG_CTRL_SCS (i : Nat) : Fld := ⟨0x230100 + 0x20 * i, 22, 3⟩
def PRA_CFG_CTRL_MAXB (i : Nat) : Fld := ⟨0x230100 + 0x20 * i, 16, 5⟩
def PRA_CFG_CTRL_ROOT (i : Nat) : Fld := ⟨0x230100 + 0x20 * i, 0, 11⟩
def PRA_CFG_DET_NCS (i : Nat) : Fld := ⟨0x230104 + 0x20 * i, 16, 11⟩
def PRA_CFG_DET_TW (i : Nat) : Fld := ⟨0x230104 + 0x20 * i, 0, 6⟩
def PRA_CFG_THR_ABS_FLOOR (i : Nat) : Fld := ⟨0x230108 + 0x20 * i, 16, 16⟩
def PRA_CFG_THR_THR (i : Nat) : Fld := ⟨0x230108 + 0x20 * i, 0, 16⟩
def PRA_CFG_OCC_COUNT (i : Nat) : Fld := ⟨0x23010C + 0x20 * i, 0, 32⟩
def PRA_CFG_DETS_COUNT (i : Nat) : Fld := ⟨0x230110 + 0x20 * i, 0, 32⟩

/-! ### Table 09-8 -/

def CMP_DEC_SAT_COUNT : Fld := ⟨0x240000, 0, 32⟩
def CMP_BAD_METH_COUNT : Fld := ⟨0x240004, 0, 32⟩
def CMP_PSUM_VOID_COUNT : Fld := ⟨0x240008, 0, 32⟩
def CMP_UL_CAR_WIDTH (i : Nat) : Fld := ⟨0x240100 + 0x10 * i, 8, 4⟩
def CMP_UL_CAR_METH (i : Nat) : Fld := ⟨0x240100 + 0x10 * i, 0, 4⟩
def CMP_UL_PET_BUDGET (i : Nat) : Fld := ⟨0x240104 + 0x10 * i, 16, 16⟩
def CMP_UL_PET_PMAX (i : Nat) : Fld := ⟨0x240104 + 0x10 * i, 8, 4⟩
def CMP_UL_PET_PMIN (i : Nat) : Fld := ⟨0x240104 + 0x10 * i, 0, 4⟩
def CMP_UL_PSTAT_WMAX (i : Nat) : Fld := ⟨0x240108 + 0x10 * i, 8, 8⟩
def CMP_UL_PSTAT_WMIN (i : Nat) : Fld := ⟨0x240108 + 0x10 * i, 0, 8⟩
def CMP_DL_CAR_MODSCALE (i : Nat) : Fld := ⟨0x240200 + 0x10 * i, 17, 15⟩
def CMP_DL_CAR_DYN (i : Nat) : Fld := ⟨0x240200 + 0x10 * i, 16, 1⟩
def CMP_DL_CAR_WIDTH (i : Nat) : Fld := ⟨0x240200 + 0x10 * i, 8, 4⟩
def CMP_DL_CAR_METH (i : Nat) : Fld := ⟨0x240200 + 0x10 * i, 0, 4⟩

/-! ### Table 10-9 -/

def ETH_CFG_MAXFRAME (i : Nat) : Fld := ⟨0x300000 + 0x1000 * i, 16, 14⟩
def ETH_CFG_PLACE (i : Nat) : Fld := ⟨0x300000 + 0x1000 * i, 12, 1⟩
def ETH_CFG_RATE (i : Nat) : Fld := ⟨0x300000 + 0x1000 * i, 8, 2⟩
def ETH_CFG_TAGGED (i : Nat) : Fld := ⟨0x300000 + 0x1000 * i, 4, 1⟩
def ETH_CFG_TC (i : Nat) : Fld := ⟨0x300000 + 0x1000 * i, 3, 1⟩
def ETH_CFG_PTP (i : Nat) : Fld := ⟨0x300000 + 0x1000 * i, 2, 1⟩
def ETH_CFG_INBAND (i : Nat) : Fld := ⟨0x300000 + 0x1000 * i, 1, 1⟩
def ETH_CFG_EN (i : Nat) : Fld := ⟨0x300000 + 0x1000 * i, 0, 1⟩
def ETH_STATUS_REMOTE_FAULT (i : Nat) : Fld := ⟨0x300004 + 0x1000 * i, 3, 1⟩
def ETH_STATUS_LOCAL_FAULT (i : Nat) : Fld := ⟨0x300004 + 0x1000 * i, 2, 1⟩
def ETH_STATUS_STATE (i : Nat) : Fld := ⟨0x300004 + 0x1000 * i, 0, 2⟩
def ETH_MAC_LO_ADDR (i : Nat) : Fld := ⟨0x300008 + 0x1000 * i, 0, 32⟩
def ETH_MAC_HI_ADDR (i : Nat) : Fld := ⟨0x30000C + 0x1000 * i, 0, 16⟩
def ETH_DST_LO_ADDR (i : Nat) : Fld := ⟨0x300010 + 0x1000 * i, 0, 32⟩
def ETH_DST_HI_ADDR (i : Nat) : Fld := ⟨0x300014 + 0x1000 * i, 0, 16⟩
def ETH_VLAN_PCP (i : Nat) : Fld := ⟨0x300018 + 0x1000 * i, 13, 3⟩
def ETH_VLAN_VID (i : Nat) : Fld := ⟨0x300018 + 0x1000 * i, 0, 12⟩
def ETH_PTP_LAT_RX (i : Nat) : Fld := ⟨0x30001C + 0x1000 * i, 16, 16⟩
def ETH_PTP_LAT_TX (i : Nat) : Fld := ⟨0x30001C + 0x1000 * i, 0, 16⟩
def ETH_RX_FRAMES_COUNT (i : Nat) : Fld := ⟨0x300020 + 0x1000 * i, 0, 32⟩
def ETH_TX_FRAMES_COUNT (i : Nat) : Fld := ⟨0x300024 + 0x1000 * i, 0, 32⟩
def ETH_RX_FCS_COUNT (i : Nat) : Fld := ⟨0x300028 + 0x1000 * i, 0, 32⟩
def ETH_FEC_CORR_COUNT (i : Nat) : Fld := ⟨0x30002C + 0x1000 * i, 0, 32⟩
def ETH_FEC_UNCORR_COUNT (i : Nat) : Fld := ⟨0x300030 + 0x1000 * i, 0, 32⟩
def ETH_DISC_SIZE (i : Nat) : Fld := ⟨0x300034 + 0x1000 * i, 24, 8⟩
def ETH_DISC_TYPE (i : Nat) : Fld := ⟨0x300034 + 0x1000 * i, 16, 8⟩
def ETH_DISC_DMAC (i : Nat) : Fld := ⟨0x300034 + 0x1000 * i, 8, 8⟩
def ETH_DISC_VLAN (i : Nat) : Fld := ⟨0x300034 + 0x1000 * i, 0, 8⟩
def ETH_PTP_FWD_COUNT (i : Nat) : Fld := ⟨0x300038 + 0x1000 * i, 0, 32⟩
def ETH_PAUSE_COUNT (i : Nat) : Fld := ⟨0x30003C + 0x1000 * i, 0, 32⟩

/-! ### Table 10-10 -/

def FRM_WIN0_DL_CP_OPEN : Fld := ⟨0x241000, 16, 12⟩
def FRM_WIN0_DL_UP_OPEN : Fld := ⟨0x241000, 0, 12⟩
def FRM_WIN1_PRA_CP_OPEN : Fld := ⟨0x241004, 16, 12⟩
def FRM_WIN1_UL_CP_OPEN : Fld := ⟨0x241004, 0, 12⟩
def FRM_WIN2_EARLY_SYMS : Fld := ⟨0x241008, 0, 4⟩
def FRM_LOAD_DL : Fld := ⟨0x241010, 16, 16⟩
def FRM_LOAD_UL : Fld := ⟨0x241010, 0, 16⟩
def FRM_UP_LATE_COUNT : Fld := ⟨0x241014, 0, 32⟩
def FRM_UP_EARLY_COUNT : Fld := ⟨0x241018, 0, 32⟩
def FRM_TOO_EARLY_COUNT : Fld := ⟨0x24101C, 0, 32⟩
def FRM_EXT_DROP_COUNT : Fld := ⟨0x241020, 0, 32⟩
def FRM_BAD_SECTION_COUNT : Fld := ⟨0x241024, 0, 32⟩
def FRM_UNMAPPED_COUNT : Fld := ⟨0x241028, 0, 32⟩
def FRM_SEQ_GAP_COUNT : Fld := ⟨0x24102C, 0, 32⟩
def FRM_ING_DROP_COUNT : Fld := ⟨0x241030, 0, 32⟩
def FRM_EGR_DROP_COUNT : Fld := ⟨0x241034, 0, 32⟩
def FRM_CP_FULL_COUNT : Fld := ⟨0x241038, 0, 32⟩
def FRM_MAP_ADDR_INDEX : Fld := ⟨0x241040, 0, 8⟩
def FRM_MAP_DATA_EAXC : Fld := ⟨0x241044, 16, 16⟩
def FRM_MAP_DATA_KIND : Fld := ⟨0x241044, 14, 2⟩
def FRM_MAP_DATA_PORT : Fld := ⟨0x241044, 12, 2⟩
def FRM_MAP_DATA_CARRIER : Fld := ⟨0x241044, 10, 2⟩
def FRM_MAP_DATA_INDEX : Fld := ⟨0x241044, 0, 5⟩
def FRM_QREC_BASE_LO_BASE : Fld := ⟨0x241050, 12, 20⟩
def FRM_QREC_BASE_HI_BASE : Fld := ⟨0x241054, 0, 32⟩
def FRM_QREC_CFG_CHAN : Fld := ⟨0x241058, 24, 4⟩
def FRM_QREC_CFG_LOG2 : Fld := ⟨0x241058, 16, 5⟩
def FRM_QREC_CFG_EN : Fld := ⟨0x241058, 0, 3⟩
def FRM_QREC_PROD_INDEX : Fld := ⟨0x24105C, 0, 32⟩
def FRM_QREC_CONS_INDEX : Fld := ⟨0x241060, 0, 32⟩
def FRM_QREC_DROP_COUNT : Fld := ⟨0x241064, 0, 32⟩

/-! ### Table 11-8 -/

def LN_STATUS_MODE (i : Nat) : Fld := ⟨0x310000 + 0x1000 * i, 11, 2⟩
def LN_STATUS_RATE (i : Nat) : Fld := ⟨0x310000 + 0x1000 * i, 10, 1⟩
def LN_STATUS_MLSE (i : Nat) : Fld := ⟨0x310000 + 0x1000 * i, 9, 1⟩
def LN_STATUS_SIGNAL (i : Nat) : Fld := ⟨0x310000 + 0x1000 * i, 8, 1⟩
def LN_STATUS_HOLD_SAFE (i : Nat) : Fld := ⟨0x310000 + 0x1000 * i, 5, 1⟩
def LN_STATUS_HOLD_HOST (i : Nat) : Fld := ⟨0x310000 + 0x1000 * i, 4, 1⟩
def LN_STATUS_ADAPT (i : Nat) : Fld := ⟨0x310000 + 0x1000 * i, 0, 3⟩
def LN_CFG_EN (i : Nat) : Fld := ⟨0x310004 + 0x1000 * i, 3, 1⟩
def LN_CFG_MLSE (i : Nat) : Fld := ⟨0x310004 + 0x1000 * i, 2, 1⟩
def LN_CFG_TX_INV (i : Nat) : Fld := ⟨0x310004 + 0x1000 * i, 1, 1⟩
def LN_CFG_RX_INV (i : Nat) : Fld := ⟨0x310004 + 0x1000 * i, 0, 1⟩
def LN_FOM_MIN (i : Nat) : Fld := ⟨0x310008 + 0x1000 * i, 16, 10⟩
def LN_FOM_CUR (i : Nat) : Fld := ⟨0x310008 + 0x1000 * i, 0, 10⟩
def LN_ADAPT_CFG_FOM_LOSS (i : Nat) : Fld := ⟨0x31000C + 0x1000 * i, 16, 10⟩
def LN_ADAPT_CFG_FOM_MIN (i : Nat) : Fld := ⟨0x31000C + 0x1000 * i, 0, 10⟩
def LN_CTRL_RAW_CAP (i : Nat) : Fld := ⟨0x310010 + 0x1000 * i, 1, 1⟩
def LN_CTRL_HIST_CLR (i : Nat) : Fld := ⟨0x310010 + 0x1000 * i, 0, 1⟩
def LN_LOCKS_COUNT (i : Nat) : Fld := ⟨0x310014 + 0x1000 * i, 0, 32⟩
def LN_UNLOCKS_COUNT (i : Nat) : Fld := ⟨0x310018 + 0x1000 * i, 0, 32⟩
def LN_FREEZES_COUNT (i : Nat) : Fld := ⟨0x31001C + 0x1000 * i, 0, 32⟩
def LN_ACQ_FAILS_COUNT (i : Nat) : Fld := ⟨0x310020 + 0x1000 * i, 0, 32⟩
def LN_COEF_ADDR_INDEX (i : Nat) : Fld := ⟨0x310024 + 0x1000 * i, 0, 7⟩
def LN_COEF_DATA_DATA (i : Nat) : Fld := ⟨0x310028 + 0x1000 * i, 0, 32⟩
def LN_OPT_RXPWR (i : Nat) : Fld := ⟨0x310030 + 0x1000 * i, 16, 16⟩
def LN_OPT_TXPWR (i : Nat) : Fld := ⟨0x310030 + 0x1000 * i, 0, 16⟩
def LN_OPT_BIAS_BIAS (i : Nat) : Fld := ⟨0x310034 + 0x1000 * i, 0, 16⟩
def LN_FOM_HIST_COUNT (i j : Nat) : Fld := ⟨0x310040 + 0x1000 * i + 0x4 * j, 0, 32⟩
def LN_PRBS_CTRL_CHK (i : Nat) : Fld := ⟨0x310080 + 0x1000 * i, 4, 4⟩
def LN_PRBS_CTRL_GEN (i : Nat) : Fld := ⟨0x310080 + 0x1000 * i, 0, 4⟩
def LN_PRBS_STAT_LOSSES (i : Nat) : Fld := ⟨0x310084 + 0x1000 * i, 16, 16⟩
def LN_PRBS_STAT_STATE (i : Nat) : Fld := ⟨0x310084 + 0x1000 * i, 0, 2⟩
def LN_PRBS_ERR_LO_COUNT (i : Nat) : Fld := ⟨0x310088 + 0x1000 * i, 0, 32⟩
def LN_PRBS_ERR_HI_COUNT (i : Nat) : Fld := ⟨0x31008C + 0x1000 * i, 0, 16⟩
def LN_PRBS_BITS_LO_COUNT (i : Nat) : Fld := ⟨0x310090 + 0x1000 * i, 0, 32⟩
def LN_PRBS_BITS_HI_COUNT (i : Nat) : Fld := ⟨0x310094 + 0x1000 * i, 0, 16⟩
def LN_INJ_CFG_LEN (i : Nat) : Fld := ⟨0x310098 + 0x1000 * i, 24, 8⟩
def LN_INJ_CFG_MODE (i : Nat) : Fld := ⟨0x310098 + 0x1000 * i, 16, 2⟩
def LN_INJ_CFG_COUNT (i : Nat) : Fld := ⟨0x310098 + 0x1000 * i, 0, 16⟩
def LN_INJ_INTERVAL_INTERVAL (i : Nat) : Fld := ⟨0x31009C + 0x1000 * i, 0, 24⟩
def LN_INJ_DONE_COUNT (i : Nat) : Fld := ⟨0x3100A0 + 0x1000 * i, 0, 32⟩
def LN_SLIP_OFFSET (i : Nat) : Fld := ⟨0x3100A4 + 0x1000 * i, 0, 7⟩
def LN_RAW_WORD (i j : Nat) : Fld := ⟨0x3100B0 + 0x1000 * i + 0x4 * j, 0, 32⟩
def LN_MOD_CFG_WIDE (i : Nat) : Fld := ⟨0x318000 + 0x100 * i, 2, 1⟩
def LN_MOD_CFG_FAST (i : Nat) : Fld := ⟨0x318000 + 0x100 * i, 1, 1⟩
def LN_MOD_CFG_EN (i : Nat) : Fld := ⟨0x318000 + 0x100 * i, 0, 1⟩
def LN_MOD_STATUS_APP (i : Nat) : Fld := ⟨0x318004 + 0x100 * i, 8, 8⟩
def LN_MOD_STATUS_FAULT (i : Nat) : Fld := ⟨0x318004 + 0x100 * i, 4, 1⟩
def LN_MOD_STATUS_STATE (i : Nat) : Fld := ⟨0x318004 + 0x100 * i, 1, 3⟩
def LN_MOD_STATUS_PRESENT (i : Nat) : Fld := ⟨0x318004 + 0x100 * i, 0, 1⟩
def LN_MOD_MON_VCC (i : Nat) : Fld := ⟨0x318008 + 0x100 * i, 16, 16⟩
def LN_MOD_MON_TEMP (i : Nat) : Fld := ⟨0x318008 + 0x100 * i, 0, 16⟩
def LN_MOD_XFER_GO (i : Nat) : Fld := ⟨0x31800C + 0x100 * i, 31, 1⟩
def LN_MOD_XFER_WRITE (i : Nat) : Fld := ⟨0x31800C + 0x100 * i, 30, 1⟩
def LN_MOD_XFER_LEN (i : Nat) : Fld := ⟨0x31800C + 0x100 * i, 28, 2⟩
def LN_MOD_XFER_BANK (i : Nat) : Fld := ⟨0x31800C + 0x100 * i, 20, 8⟩
def LN_MOD_XFER_PAGE (i : Nat) : Fld := ⟨0x31800C + 0x100 * i, 12, 8⟩
def LN_MOD_XFER_OFFSET (i : Nat) : Fld := ⟨0x31800C + 0x100 * i, 0, 8⟩
def LN_MOD_XDATA_DATA (i : Nat) : Fld := ⟨0x318010 + 0x100 * i, 0, 32⟩
def LN_MOD_XSTAT_NACK (i : Nat) : Fld := ⟨0x318014 + 0x100 * i, 1, 1⟩
def LN_MOD_XSTAT_BUSY (i : Nat) : Fld := ⟨0x318014 + 0x100 * i, 0, 1⟩
def LN_MOD_FLAGS_COUNT (i : Nat) : Fld := ⟨0x318018 + 0x100 * i, 0, 32⟩

/-! ### Table 12-6 -/

def CAS_CFG_DEPTH : Fld := ⟨0x320000, 24, 8⟩
def CAS_CFG_TIME : Fld := ⟨0x320000, 20, 4⟩
def CAS_CFG_DOWN : Fld := ⟨0x320000, 16, 4⟩
def CAS_CFG_STBY_PORT : Fld := ⟨0x320000, 12, 2⟩
def CAS_CFG_UP_PORT : Fld := ⟨0x320000, 10, 2⟩
def CAS_CFG_RING : Fld := ⟨0x320000, 9, 1⟩
def CAS_CFG_ROLE : Fld := ⟨0x320000, 0, 2⟩
def CAS_ARRAY_M : Fld := ⟨0x320004, 8, 6⟩
def CAS_ARRAY_SLICE : Fld := ⟨0x320004, 0, 5⟩
def CAS_STATUS_HOP : Fld := ⟨0x320008, 24, 8⟩
def CAS_STATUS_DEPTH : Fld := ⟨0x320008, 16, 8⟩
def CAS_STATUS_PRESENT : Fld := ⟨0x320008, 8, 8⟩
def CAS_STATUS_REVERSED : Fld := ⟨0x320008, 2, 1⟩
def CAS_STATUS_STATE : Fld := ⟨0x320008, 0, 2⟩
def CAS_LOAD_DL : Fld := ⟨0x32000C, 16, 16⟩
def CAS_LOAD_UL : Fld := ⟨0x32000C, 0, 16⟩
def CAS_STAGE_QUEUED : Fld := ⟨0x320010, 0, 16⟩
def CAS_PSUM_VOID_TX_COUNT : Fld := ⟨0x320014, 0, 32⟩
def CAS_STAGE_LATE_COUNT : Fld := ⟨0x320018, 0, 32⟩
def CAS_NOCOMMIT_COUNT : Fld := ⟨0x32001C, 0, 32⟩
def CAS_REVERSALS_COUNT : Fld := ⟨0x320020, 0, 32⟩
def CAS_P_STATUS_PEER_HOP (i : Nat) : Fld := ⟨0x320100 + 0x20 * i, 8, 8⟩
def CAS_P_STATUS_STATE (i : Nat) : Fld := ⟨0x320100 + 0x20 * i, 0, 3⟩
def CAS_P_CRC_COUNT (i : Nat) : Fld := ⟨0x320104 + 0x20 * i, 0, 32⟩
def CAS_P_SKEW_COUNT (i : Nat) : Fld := ⟨0x320108 + 0x20 * i, 0, 32⟩
def CAS_P_DOWNS_COUNT (i : Nat) : Fld := ⟨0x32010C + 0x20 * i, 0, 32⟩
def CAS_P_PEAK_STAGING (i : Nat) : Fld := ⟨0x320110 + 0x20 * i, 16, 16⟩
def CAS_P_PEAK_DATA (i : Nat) : Fld := ⟨0x320110 + 0x20 * i, 0, 16⟩

/-! ### Table 13-13 -/

def LE_STATUS_FAULT (i : Nat) : Fld := ⟨0x400000 + 0x10000 * i, 8, 8⟩
def LE_STATUS_COMPAT (i : Nat) : Fld := ⟨0x400000 + 0x10000 * i, 4, 1⟩
def LE_STATUS_OVR (i : Nat) : Fld := ⟨0x400000 + 0x10000 * i, 3, 1⟩
def LE_STATUS_STATE (i : Nat) : Fld := ⟨0x400000 + 0x10000 * i, 0, 3⟩
def LE_ROLE_ROLE (i : Nat) : Fld := ⟨0x400004 + 0x10000 * i, 0, 3⟩
def LE_KERNEL_VERSION (i : Nat) : Fld := ⟨0x400008 + 0x10000 * i, 16, 16⟩
def LE_KERNEL_ID (i : Nat) : Fld := ⟨0x400008 + 0x10000 * i, 0, 16⟩
def LE_DECL_DECL (i : Nat) : Fld := ⟨0x40000C + 0x10000 * i, 0, 16⟩
def LE_CYCLES_PEAK (i : Nat) : Fld := ⟨0x400010 + 0x10000 * i, 16, 16⟩
def LE_CYCLES_LAST (i : Nat) : Fld := ⟨0x400010 + 0x10000 * i, 0, 16⟩
def LE_OVR_COUNT (i : Nat) : Fld := ⟨0x400014 + 0x10000 * i, 0, 32⟩
def LE_DONE_CODE (i : Nat) : Fld := ⟨0x400018 + 0x10000 * i, 0, 8⟩
def LE_OUT_STAMP_TICK (i : Nat) : Fld := ⟨0x40001C + 0x10000 * i, 0, 32⟩
def LE_PC_PC (i : Nat) : Fld := ⟨0x400020 + 0x10000 * i, 0, 13⟩
def LE_IRQ_PEND (i : Nat) : Fld := ⟨0x400024 + 0x10000 * i, 8, 5⟩
def LE_IRQ_EN (i : Nat) : Fld := ⟨0x400024 + 0x10000 * i, 0, 5⟩
def LE_RUN_TICKS_COUNT (i : Nat) : Fld := ⟨0x400028 + 0x10000 * i, 0, 32⟩
def LE_ECC_CORR_COUNT (i : Nat) : Fld := ⟨0x40002C + 0x10000 * i, 0, 32⟩
def LE_MEM_ADDR_SPACE (i : Nat) : Fld := ⟨0x400030 + 0x10000 * i, 30, 2⟩
def LE_MEM_ADDR_INDEX (i : Nat) : Fld := ⟨0x400030 + 0x10000 * i, 0, 16⟩
def LE_MEM_DATA_DATA (i : Nat) : Fld := ⟨0x400034 + 0x10000 * i, 0, 32⟩
def CLM_ADDR_INDEX : Fld := ⟨0x500000, 0, 20⟩
def CLM_DATA_DATA : Fld := ⟨0x500004, 0, 32⟩
def CLM_ECC_CORR_COUNT : Fld := ⟨0x500008, 0, 32⟩
def CLM_ECC_UNCORR_COUNT : Fld := ⟨0x50000C, 0, 32⟩
def LE_TAKEOVERS_COUNT : Fld := ⟨0x500010, 0, 32⟩
def LE_SPARES_COUNT : Fld := ⟨0x500014, 0, 5⟩

/-! ### Table 14-8 -/

def DMA_STATUS_ACTIVE : Fld := ⟨0x80000, 0, 16⟩
def DMA_TIMEOUT_US : Fld := ⟨0x80004, 0, 14⟩
def DMA_IRQ_STAT_STOP : Fld := ⟨0x80008, 16, 16⟩
def DMA_IRQ_STAT_DONE : Fld := ⟨0x80008, 0, 16⟩
def DMA_IRQ_EN_EN : Fld := ⟨0x8000C, 0, 32⟩
def DMA_CH_CTRL_SHARE (i : Nat) : Fld := ⟨0x80100 + 0x40 * i, 8, 7⟩
def DMA_CH_CTRL_RESET (i : Nat) : Fld := ⟨0x80100 + 0x40 * i, 0, 1⟩
def DMA_CH_HEAD_LO_ADDR (i : Nat) : Fld := ⟨0x80104 + 0x40 * i, 5, 27⟩
def DMA_CH_HEAD_HI_ADDR (i : Nat) : Fld := ⟨0x80108 + 0x40 * i, 0, 16⟩
def DMA_CH_DOORBELL_RING (i : Nat) : Fld := ⟨0x8010C + 0x40 * i, 0, 1⟩
def DMA_CH_STATUS_PAUSED (i : Nat) : Fld := ⟨0x80110 + 0x40 * i, 5, 1⟩
def DMA_CH_STATUS_HELD (i : Nat) : Fld := ⟨0x80110 + 0x40 * i, 4, 1⟩
def DMA_CH_STATUS_REREAD (i : Nat) : Fld := ⟨0x80110 + 0x40 * i, 3, 1⟩
def DMA_CH_STATUS_STATE (i : Nat) : Fld := ⟨0x80110 + 0x40 * i, 0, 3⟩
def DMA_CH_ERR_RETRIES (i : Nat) : Fld := ⟨0x80114 + 0x40 * i, 8, 2⟩
def DMA_CH_ERR_REASON (i : Nat) : Fld := ⟨0x80114 + 0x40 * i, 0, 8⟩
def DMA_CH_CUR_LO_ADDR (i : Nat) : Fld := ⟨0x80118 + 0x40 * i, 5, 27⟩
def DMA_CH_CUR_HI_ADDR (i : Nat) : Fld := ⟨0x8011C + 0x40 * i, 0, 16⟩
def DMA_CH_DONE_BYTES_COUNT (i : Nat) : Fld := ⟨0x80120 + 0x40 * i, 0, 25⟩
def DMA_CH_DESC_COUNT_COUNT (i : Nat) : Fld := ⟨0x80124 + 0x40 * i, 0, 32⟩
def DMA_CH_LAST_TAG_TAG (i : Nat) : Fld := ⟨0x80128 + 0x40 * i, 0, 16⟩
def DMA_CH_MAXCHAIN_MAX (i : Nat) : Fld := ⟨0x8012C + 0x40 * i, 0, 24⟩
def DMA_CH_TIMEOUTS_COUNT (i : Nat) : Fld := ⟨0x80130 + 0x40 * i, 0, 32⟩
def DMA_CH_CRC_VALUE (i : Nat) : Fld := ⟨0x80134 + 0x40 * i, 0, 32⟩

/-! ### Table 15-10 -/

def CLK_STATUS_SAFE_SRC : Fld := ⟨0x20000, 12, 4⟩
def CLK_STATUS_SAFE : Fld := ⟨0x20000, 11, 1⟩
def CLK_STATUS_CTL_FALLBACK : Fld := ⟨0x20000, 10, 1⟩
def CLK_STATUS_FALLBACK_OK : Fld := ⟨0x20000, 9, 1⟩
def CLK_STATUS_SEQ_BUSY : Fld := ⟨0x20000, 8, 1⟩
def CLK_STATUS_OP : Fld := ⟨0x20000, 4, 2⟩
def CLK_STATUS_MON : Fld := ⟨0x20000, 0, 2⟩
def CLK_CFG_MON_LANE : Fld := ⟨0x20004, 1, 1⟩
def CLK_CFG_REF_SEL : Fld := ⟨0x20004, 0, 1⟩
def CLK_OP_OP : Fld := ⟨0x20008, 0, 2⟩
def CLK_SYNC_ARM : Fld := ⟨0x2000C, 11, 1⟩
def CLK_SYNC_CANCEL : Fld := ⟨0x2000C, 10, 1⟩
def CLK_SYNC_REFUSED : Fld := ⟨0x2000C, 9, 1⟩
def CLK_SYNC_DONE : Fld := ⟨0x2000C, 8, 1⟩
def CLK_SYNC_OFFSET : Fld := ⟨0x2000C, 0, 7⟩
def CLK_TSYNC_ERR_COUNT : Fld := ⟨0x20010, 0, 32⟩
def CLK_LOSS_LANE : Fld := ⟨0x20014, 16, 16⟩
def CLK_LOSS_REF : Fld := ⟨0x20014, 0, 16⟩
def CLK_SAFE_COUNT_COUNT : Fld := ⟨0x20018, 0, 32⟩
def CLK_CLKMON_EN : Fld := ⟨0x20020, 31, 1⟩
def CLK_CLKMON_LIMIT_HOLD : Fld := ⟨0x20020, 30, 1⟩
def CLK_CLKMON_SEL : Fld := ⟨0x20020, 16, 5⟩
def CLK_CLKMON_DIV : Fld := ⟨0x20020, 0, 16⟩
def CLK_RCVDIV_EN : Fld := ⟨0x20024, 31, 1⟩
def CLK_RCVDIV_DIV : Fld := ⟨0x20024, 0, 10⟩
def CLK_BAND_ADDR_INDEX : Fld := ⟨0x20030, 0, 9⟩
def CLK_BAND_DATA_FREQ : Fld := ⟨0x20034, 0, 26⟩
def CLK_LOOP_STATUS_LOCKS (i : Nat) : Fld := ⟨0x20040 + 0x10 * i, 16, 16⟩
def CLK_LOOP_STATUS_BAND (i : Nat) : Fld := ⟨0x20040 + 0x10 * i, 8, 6⟩
def CLK_LOOP_STATUS_STATE (i : Nat) : Fld := ⟨0x20040 + 0x10 * i, 0, 3⟩
def CLK_LOOP_CFG_BW (i : Nat) : Fld := ⟨0x20044 + 0x10 * i, 0, 2⟩
def CLK_LOOP_PHERR_ERR (i : Nat) : Fld := ⟨0x20048 + 0x10 * i, 0, 16⟩
def CLK_LOOP_UNLOCKS_COUNT (i : Nat) : Fld := ⟨0x2004C + 0x10 * i, 0, 32⟩
def CLK_GATE_OPEN_OPEN (i : Nat) : Fld := ⟨0x20200 + 0x4 * i, 0, 32⟩
def CLK_GATE_PIN_PIN (i : Nat) : Fld := ⟨0x20220 + 0x4 * i, 0, 32⟩
def CLK_GATE_REFUSED_COUNT : Fld := ⟨0x20240, 0, 32⟩

/-! ### Table 16-6 -/

def TIM_STATUS_SNAP_VALID : Fld := ⟨0x30000, 4, 1⟩
def TIM_STATUS_JUMP_PENDING : Fld := ⟨0x30000, 3, 1⟩
def TIM_STATUS_SERVO : Fld := ⟨0x30000, 1, 2⟩
def TIM_STATUS_VALID : Fld := ⟨0x30000, 0, 1⟩
def TIM_CTRL_SNAP : Fld := ⟨0x30004, 0, 1⟩
def TIM_SNAP_FRC_LO_FRC : Fld := ⟨0x30008, 0, 32⟩
def TIM_SNAP_FRC_HI_FRC : Fld := ⟨0x3000C, 0, 32⟩
def TIM_SNAP_SEC_LO_SEC : Fld := ⟨0x30010, 0, 32⟩
def TIM_SNAP_SEC_HI_SEC : Fld := ⟨0x30014, 0, 16⟩
def TIM_SNAP_NS_NS : Fld := ⟨0x30018, 0, 32⟩
def TIM_SNAP_SUB_SUB : Fld := ⟨0x3001C, 0, 16⟩
def TIM_OFFSET_OFFSET (i : Nat) : Fld := ⟨0x30020 + 0x4 * i, 0, 32⟩
def TIM_RATE_LO_RATE : Fld := ⟨0x30030, 0, 32⟩
def TIM_RATE_HI_RATE : Fld := ⟨0x30034, 0, 16⟩
def TIM_JUMP_THR : Fld := ⟨0x30038, 0, 32⟩
def TIM_JUMP_REFUSED_COUNT : Fld := ⟨0x3003C, 0, 32⟩
def TIM_STEPS_COUNT : Fld := ⟨0x30040, 0, 32⟩
def TIM_PTP_CFG_EN : Fld := ⟨0x30044, 31, 1⟩
def TIM_PTP_CFG_BC : Fld := ⟨0x30044, 30, 1⟩
def TIM_PTP_CFG_DOMAIN : Fld := ⟨0x30044, 16, 8⟩
def TIM_PTP_CFG_MASTER : Fld := ⟨0x30044, 8, 8⟩
def TIM_PTP_CFG_SLAVE : Fld := ⟨0x30044, 0, 8⟩
def TIM_PTP_STAT_CLASS : Fld := ⟨0x30048, 8, 8⟩
def TIM_PTP_STAT_PARENT : Fld := ⟨0x30048, 0, 4⟩
def TIM_PTP_OFS_OFS : Fld := ⟨0x3004C, 0, 32⟩
def TIM_PTP_DELAY_DELAY : Fld := ⟨0x30050, 0, 32⟩
def TIM_ASYM_ASYM (i : Nat) : Fld := ⟨0x30060 + 0x4 * i, 0, 32⟩
def TIM_RCV_SQUELCH : Fld := ⟨0x30080, 4, 1⟩
def TIM_RCV_EN : Fld := ⟨0x30080, 3, 1⟩
def TIM_RCV_LANE : Fld := ⟨0x30080, 0, 3⟩
def TIM_ANC_HEAD_COUNT : Fld := ⟨0x30090, 4, 4⟩
def TIM_ANC_HEAD_NEWEST : Fld := ⟨0x30090, 0, 4⟩
def TIM_ANC_ADDR_INDEX : Fld := ⟨0x30094, 0, 7⟩
def TIM_ANC_DATA_DATA : Fld := ⟨0x30098, 0, 32⟩
def TIM_CMP_CTRL_MASK (i : Nat) : Fld := ⟨0x30100 + 0x20 * i, 16, 16⟩
def TIM_CMP_CTRL_ACTION (i : Nat) : Fld := ⟨0x30100 + 0x20 * i, 8, 3⟩
def TIM_CMP_CTRL_STATE (i : Nat) : Fld := ⟨0x30100 + 0x20 * i, 0, 2⟩
def TIM_CMP_SEC_LO_SEC (i : Nat) : Fld := ⟨0x30104 + 0x20 * i, 0, 32⟩
def TIM_CMP_SEC_HI_SEC (i : Nat) : Fld := ⟨0x30108 + 0x20 * i, 0, 16⟩
def TIM_CMP_NS_NS (i : Nat) : Fld := ⟨0x3010C + 0x20 * i, 0, 32⟩
def TIM_CMP_PERIOD_PERIOD (i : Nat) : Fld := ⟨0x30110 + 0x20 * i, 0, 32⟩
def TIM_CMP_WIN_WIDTH (i : Nat) : Fld := ⟨0x30114 + 0x20 * i, 16, 16⟩
def TIM_CMP_WIN_WINDOW (i : Nat) : Fld := ⟨0x30114 + 0x20 * i, 0, 16⟩
def TIM_CMP_TICKNO_TICKNO (i : Nat) : Fld := ⟨0x30118 + 0x20 * i, 0, 32⟩
def TIM_CMP_SFN_SFN (i : Nat) : Fld := ⟨0x3011C + 0x20 * i, 0, 10⟩

/-! ### Table 17-8 -/

def PWR_STATUS_PHASE : Fld := ⟨0x10000, 20, 4⟩
def PWR_STATUS_PENDING : Fld := ⟨0x10000, 16, 3⟩
def PWR_STATUS_TARGET : Fld := ⟨0x10000, 12, 3⟩
def PWR_STATUS_BUSY : Fld := ⟨0x10000, 11, 1⟩
def PWR_STATUS_STATE : Fld := ⟨0x10000, 8, 3⟩
def PWR_STATUS_NO_REFCLK : Fld := ⟨0x10000, 3, 1⟩
def PWR_STATUS_CONTEXT_LOST : Fld := ⟨0x10000, 2, 1⟩
def PWR_STATUS_NO_TSYNC : Fld := ⟨0x10000, 1, 1⟩
def PWR_STATUS_FAILED : Fld := ⟨0x10000, 0, 1⟩
def PWR_CTRL_WAKE : Fld := ⟨0x10004, 0, 1⟩
def PWR_RESET_KEY : Fld := ⟨0x10008, 0, 16⟩
def PWR_DOMAIN_STATE : Fld := ⟨0x1000C, 0, 26⟩
def PWR_FAILED_MASK : Fld := ⟨0x10010, 0, 13⟩
def PWR_BROWNOUT_COUNT : Fld := ⟨0x10014, 16, 16⟩
def PWR_BROWNOUT_MASK : Fld := ⟨0x10014, 0, 13⟩
def PWR_PRED_MD : Fld := ⟨0x10018, 20, 10⟩
def PWR_PRED_FAB : Fld := ⟨0x10018, 10, 10⟩
def PWR_PRED_CTL : Fld := ⟨0x10018, 0, 10⟩
def PWR_WAKE_FAIL_FROM : Fld := ⟨0x1001C, 24, 4⟩
def PWR_WAKE_FAIL_TARGET : Fld := ⟨0x1001C, 20, 4⟩
def PWR_WAKE_FAIL_CHECK : Fld := ⟨0x1001C, 16, 2⟩
def PWR_WAKE_FAIL_DOMAIN : Fld := ⟨0x1001C, 0, 4⟩
def PWR_TIME_US : Fld := ⟨0x10020, 0, 32⟩
def PWR_CHANGE_TICK_TICK : Fld := ⟨0x10024, 0, 32⟩
def PWR_BOOT_CFG_TSYNC_TO : Fld := ⟨0x10028, 0, 16⟩

/-! ### Table 18-8 -/

def HK_STATUS_TABLE_RUN : Fld := ⟨0x60000, 3, 1⟩
def HK_STATUS_URGENT_BUSY : Fld := ⟨0x60000, 2, 1⟩
def HK_STATUS_ROUND : Fld := ⟨0x60000, 1, 1⟩
def HK_STATUS_FIRST : Fld := ⟨0x60000, 0, 1⟩
def HK_SEQ_CFG_POS : Fld := ⟨0x60004, 8, 6⟩
def HK_SEQ_CFG_LEN : Fld := ⟨0x60004, 0, 7⟩
def HK_SEQ_ADDR_INDEX : Fld := ⟨0x60008, 0, 6⟩
def HK_SEQ_DATA_AVG : Fld := ⟨0x6000C, 24, 4⟩
def HK_SEQ_DATA_SETTLE : Fld := ⟨0x6000C, 16, 8⟩
def HK_SEQ_DATA_REPEAT : Fld := ⟨0x6000C, 8, 8⟩
def HK_SEQ_DATA_CHANNEL : Fld := ⟨0x6000C, 0, 6⟩
def HK_FIFO_DATA_VALID : Fld := ⟨0x60010, 31, 1⟩
def HK_FIFO_DATA_OPEN : Fld := ⟨0x60010, 30, 1⟩
def HK_FIFO_DATA_CHANNEL : Fld := ⟨0x60010, 24, 6⟩
def HK_FIFO_DATA_SEQ : Fld := ⟨0x60010, 16, 8⟩
def HK_FIFO_DATA_VALUE : Fld := ⟨0x60010, 0, 16⟩
def HK_FIFO_LEVEL_LEVEL : Fld := ⟨0x60014, 0, 9⟩
def HK_FIFO_OVF_COUNT : Fld := ⟨0x60018, 0, 32⟩
def HK_FIFO_CTRL_FLUSH : Fld := ⟨0x6001C, 0, 1⟩
def HK_URGENT_GO : Fld := ⟨0x60020, 31, 1⟩
def HK_URGENT_AVG : Fld := ⟨0x60020, 8, 3⟩
def HK_URGENT_CHANNEL : Fld := ⟨0x60020, 0, 6⟩
def HK_URGENT_RES_VALID : Fld := ⟨0x60024, 31, 1⟩
def HK_URGENT_RES_OPEN : Fld := ⟨0x60024, 30, 1⟩
def HK_URGENT_RES_CHANNEL : Fld := ⟨0x60024, 24, 6⟩
def HK_URGENT_RES_VALUE : Fld := ⟨0x60024, 0, 16⟩
def HK_AUX_PULL_PULL : Fld := ⟨0x60028, 0, 24⟩
def HK_AUX_OPEN_OPEN : Fld := ⟨0x6002C, 0, 12⟩
def HK_THERM_CFG_WARN : Fld := ⟨0x60030, 8, 8⟩
def HK_THERM_CFG_RISE_ACT : Fld := ⟨0x60030, 0, 1⟩
def HK_SUSPECT_MASK : Fld := ⟨0x60034, 0, 25⟩
def HK_SENSOR_OUT_MASK : Fld := ⟨0x60038, 0, 25⟩
def HK_TEMP_VALID (i : Nat) : Fld := ⟨0x60040 + 0x4 * i, 31, 1⟩
def HK_TEMP_SUSPECT (i : Nat) : Fld := ⟨0x60040 + 0x4 * i, 30, 1⟩
def HK_TEMP_TEMP (i : Nat) : Fld := ⟨0x60040 + 0x4 * i, 0, 16⟩
def HK_SUPPLY_ALARM (i : Nat) : Fld := ⟨0x600C0 + 0x4 * i, 31, 1⟩
def HK_SUPPLY_VALUE (i : Nat) : Fld := ⟨0x600C0 + 0x4 * i, 0, 16⟩
def HK_DOM_STAT_BLIND (i : Nat) : Fld := ⟨0x60100 + 0x10 * i, 31, 1⟩
def HK_DOM_STAT_ACT (i : Nat) : Fld := ⟨0x60100 + 0x10 * i, 30, 1⟩
def HK_DOM_STAT_WARN (i : Nat) : Fld := ⟨0x60100 + 0x10 * i, 29, 1⟩
def HK_DOM_STAT_BAND_T (i : Nat) : Fld := ⟨0x60100 + 0x10 * i, 24, 3⟩
def HK_DOM_STAT_BAND (i : Nat) : Fld := ⟨0x60100 + 0x10 * i, 20, 3⟩
def HK_DOM_STAT_TEMP (i : Nat) : Fld := ⟨0x60100 + 0x10 * i, 0, 16⟩
def HK_DOM_RATE_HIST (i : Nat) : Fld := ⟨0x60104 + 0x10 * i, 16, 5⟩
def HK_DOM_RATE_RATE (i : Nat) : Fld := ⟨0x60104 + 0x10 * i, 0, 16⟩

/-! ### Table 18-9 -/

def CAL_STATUS_QUEUE : Fld := ⟨0x70000, 8, 8⟩
def CAL_STATUS_FIRST_DONE : Fld := ⟨0x70000, 3, 1⟩
def CAL_STATUS_SUSPENDED : Fld := ⟨0x70000, 2, 1⟩
def CAL_STATUS_XRES_FAULT : Fld := ⟨0x70000, 1, 1⟩
def CAL_STATUS_BUSY : Fld := ⟨0x70000, 0, 1⟩
def CAL_XRES_DEV : Fld := ⟨0x70004, 0, 16⟩
def CAL_POL_AUTO (i : Nat) : Fld := ⟨0x70010 + 0x4 * i, 31, 1⟩
def CAL_POL_MAX_DIS (i : Nat) : Fld := ⟨0x70010 + 0x4 * i, 24, 4⟩
def CAL_POL_DELTA (i : Nat) : Fld := ⟨0x70010 + 0x4 * i, 16, 8⟩
def CAL_POL_TOL_SCALE (i : Nat) : Fld := ⟨0x70010 + 0x4 * i, 8, 8⟩
def CAL_RUNS_COUNT : Fld := ⟨0x70030, 0, 32⟩
def CAL_DISAGREE_COUNT : Fld := ⟨0x70034, 0, 32⟩
def CAL_PREEMPT_COUNT : Fld := ⟨0x70038, 0, 32⟩
def CAL_RETIRED_COUNT : Fld := ⟨0x7003C, 0, 32⟩
def CAL_RES_ADDR_INDEX : Fld := ⟨0x70040, 0, 15⟩
def CAL_RES_DATA_VALID : Fld := ⟨0x70044, 31, 1⟩
def CAL_RES_DATA_STATE : Fld := ⟨0x70044, 28, 3⟩
def CAL_RES_DATA_COUNT : Fld := ⟨0x70044, 24, 4⟩
def CAL_RES_DATA_TEMP : Fld := ⟨0x70044, 0, 16⟩

/-! ### Table 19-6 -/

def EVR_STATUS_SHADOW_USED : Fld := ⟨0x50000, 22, 5⟩
def EVR_STATUS_RECORDS : Fld := ⟨0x50000, 11, 11⟩
def EVR_STATUS_REPLACE : Fld := ⟨0x50000, 2, 2⟩
def EVR_STATUS_SERVICE : Fld := ⟨0x50000, 1, 1⟩
def EVR_STATUS_BANK : Fld := ⟨0x50000, 0, 1⟩
def EVR_CTRL_SVC_EN : Fld := ⟨0x50004, 0, 1⟩
def EVR_FLOOR_LANE : Fld := ⟨0x50008, 28, 4⟩
def EVR_FLOOR_OX : Fld := ⟨0x50008, 24, 4⟩
def EVR_FLOOR_TX : Fld := ⟨0x50008, 16, 8⟩
def EVR_FLOOR_RX : Fld := ⟨0x50008, 8, 8⟩
def EVR_REPLACE_CAUSE_CAUSE : Fld := ⟨0x5000C, 0, 12⟩
def EVR_IRQ_STAT_IRQ : Fld := ⟨0x50010, 0, 4⟩
def EVR_IRQ_EN_EN : Fld := ⟨0x50014, 0, 4⟩
def EVR_NOTIFY_VALID : Fld := ⟨0x50018, 31, 1⟩
def EVR_NOTIFY_LEVEL : Fld := ⟨0x50018, 16, 7⟩
def EVR_NOTIFY_CODE : Fld := ⟨0x50018, 0, 16⟩
def EVR_NOTIFY_OVF_COUNT : Fld := ⟨0x5001C, 0, 32⟩
def EVR_DROP_COUNT (i : Nat) : Fld := ⟨0x50020 + 0x4 * i, 0, 32⟩
def EVR_WIN_ADDR_BANK : Fld := ⟨0x50040, 31, 1⟩
def EVR_WIN_ADDR_INDEX : Fld := ⟨0x50040, 0, 14⟩
def EVR_WIN_DATA_DATA : Fld := ⟨0x50044, 0, 32⟩
def EVR_WIN_STAT_ECC : Fld := ⟨0x50048, 0, 1⟩
def EVR_POL_WINDOW (i : Nat) : Fld := ⟨0x50400 + 0x4 * i, 8, 24⟩
def EVR_POL_ATTEMPTS (i : Nat) : Fld := ⟨0x50400 + 0x4 * i, 0, 8⟩
def EVR_INJ_CTRL_ARMED (i : Nat) : Fld := ⟨0x50800 + 0x10 * i, 31, 1⟩
def EVR_INJ_CTRL_MODE (i : Nat) : Fld := ⟨0x50800 + 0x10 * i, 28, 2⟩
def EVR_INJ_CTRL_UNIT (i : Nat) : Fld := ⟨0x50800 + 0x10 * i, 16, 12⟩
def EVR_INJ_CTRL_COUNT (i : Nat) : Fld := ⟨0x50800 + 0x10 * i, 0, 16⟩
def EVR_INJ_VALUE_VALUE (i : Nat) : Fld := ⟨0x50804 + 0x10 * i, 0, 32⟩
def EVR_INJ_INTERVAL_INTERVAL (i : Nat) : Fld := ⟨0x50808 + 0x10 * i, 0, 16⟩
def EVR_INJ_DONE_COUNT (i : Nat) : Fld := ⟨0x5080C + 0x10 * i, 0, 32⟩

/-! ### Table 20-6 -/

def REC_STATUS_REASON : Fld := ⟨0x800000, 8, 4⟩
def REC_STATUS_SNAP_DONE : Fld := ⟨0x800000, 4, 1⟩
def REC_STATUS_STATE : Fld := ⟨0x800000, 0, 3⟩
def REC_FIRST_TICK_TICK : Fld := ⟨0x800004, 0, 32⟩
def REC_TICKS_COUNT : Fld := ⟨0x800008, 0, 32⟩
def REC_BYTES_COUNT : Fld := ⟨0x80000C, 0, 32⟩
def REC_RAW_TICKS : Fld := ⟨0x800010, 0, 12⟩
def REC_RPL_TICK_INDEX : Fld := ⟨0x800014, 0, 32⟩
def REC_RPL_MISMATCH_COUNT : Fld := ⟨0x800018, 0, 32⟩
def REC_RPL_FIRST_INDEX : Fld := ⟨0x80001C, 0, 32⟩
def REC_RPL_WORD_MASK : Fld := ⟨0x800020, 0, 16⟩

/-! ### Table 21-8 -/

def SEC_STATUS_SCOPE : Fld := ⟨0xA0000, 20, 4⟩
def SEC_STATUS_UNLOCK : Fld := ⟨0xA0000, 16, 2⟩
def SEC_STATUS_RECOVERY : Fld := ⟨0xA0000, 8, 1⟩
def SEC_STATUS_FALLBACK : Fld := ⟨0xA0000, 7, 1⟩
def SEC_STATUS_SLOT : Fld := ⟨0xA0000, 6, 1⟩
def SEC_ARC_COUNT : Fld := ⟨0xA0004, 0, 7⟩
def SEC_SLOTS_STATE : Fld := ⟨0xA0008, 0, 16⟩
def SEC_UNLOCK_LEFT_SECONDS : Fld := ⟨0xA000C, 0, 32⟩
def SEC_AUTH_FAILS_COUNT : Fld := ⟨0xA0010, 0, 32⟩
def SEC_LAST_FAIL_KIND : Fld := ⟨0xA0014, 8, 8⟩
def SEC_LAST_FAIL_REASON : Fld := ⟨0xA0014, 0, 8⟩
def SEC_FW_SVN_SVN : Fld := ⟨0xA0018, 0, 7⟩
def SEC_ID_ID (i : Nat) : Fld := ⟨0xA0020 + 0x4 * i, 0, 32⟩
def SEC_RECOV_CTRL_GO : Fld := ⟨0xA0030, 0, 1⟩
def SEC_RECOV_DATA_DATA : Fld := ⟨0xA0034, 0, 32⟩

/-! ### Table 23-4 -/

def ID_MAGIC_MAGIC : Fld := ⟨0x0, 0, 32⟩
def ID_PART_FAMILY : Fld := ⟨0x4, 16, 16⟩
def ID_PART_PART : Fld := ⟨0x4, 0, 16⟩
def ID_REV_MAJOR : Fld := ⟨0x8, 8, 8⟩
def ID_REV_MINOR : Fld := ⟨0x8, 0, 8⟩
def ID_FW_VERSION_VERSION : Fld := ⟨0xC, 0, 32⟩
def ID_ROM_VERSION_VERSION : Fld := ⟨0x10, 0, 32⟩
def ID_MAP_VERSION_MAJOR : Fld := ⟨0x14, 16, 16⟩
def ID_MAP_VERSION_MINOR : Fld := ⟨0x14, 0, 16⟩
def ID_DEVICE_ID (i : Nat) : Fld := ⟨0x20 + 0x4 * i, 0, 32⟩
def PAR_PATHS_OX : Fld := ⟨0x40, 16, 8⟩
def PAR_PATHS_TX : Fld := ⟨0x40, 8, 8⟩
def PAR_PATHS_RX : Fld := ⟨0x40, 0, 8⟩
def PAR_UNITS_CORES : Fld := ⟨0x44, 24, 8⟩
def PAR_UNITS_ENGINES : Fld := ⟨0x44, 16, 8⟩
def PAR_UNITS_DIES : Fld := ⟨0x44, 8, 8⟩
def PAR_UNITS_QUADS : Fld := ⟨0x44, 0, 8⟩
def PAR_LINKS_GROUPS : Fld := ⟨0x48, 24, 8⟩
def PAR_LINKS_CASCADE : Fld := ⟨0x48, 16, 8⟩
def PAR_LINKS_ETH : Fld := ⟨0x48, 8, 8⟩
def PAR_LINKS_LANES : Fld := ⟨0x48, 0, 8⟩
def PAR_ENGINE_COMPAT : Fld := ⟨0x4C, 16, 1⟩
def PAR_ENGINE_SPARES : Fld := ⟨0x4C, 8, 8⟩
def PAR_ENGINE_FULL_LOAD : Fld := ⟨0x4C, 0, 8⟩
def PAR_STREAMS_LAYERS : Fld := ⟨0x50, 24, 8⟩
def PAR_STREAMS_BEAMS : Fld := ⟨0x50, 16, 8⟩
def PAR_STREAMS_MAX_RATE : Fld := ⟨0x50, 8, 8⟩
def PAR_STREAMS_STREAMS : Fld := ⟨0x50, 0, 8⟩
def PAR_PRACH_BEAMS : Fld := ⟨0x54, 8, 8⟩
def PAR_PRACH_CONFIGS : Fld := ⟨0x54, 0, 8⟩
def PAR_TABLES_BEAM_TABLE : Fld := ⟨0x58, 16, 16⟩
def PAR_TABLES_FREQ_ENTRIES : Fld := ⟨0x58, 0, 16⟩
def PAR_EVR_RECORDS : Fld := ⟨0x5C, 16, 16⟩
def PAR_EVR_DETECTORS : Fld := ⟨0x5C, 8, 8⟩
def PAR_EVR_SHADOW : Fld := ⟨0x5C, 0, 8⟩
def PAR_CONTROL_DMA_CHANNELS : Fld := ⟨0x60, 16, 8⟩
def PAR_CONTROL_GROUPS : Fld := ⟨0x60, 8, 8⟩
def PAR_CONTROL_SLOTS : Fld := ⟨0x60, 0, 8⟩
def PAR_MEM_MD : Fld := ⟨0x64, 16, 16⟩
def PAR_MEM_CLUSTER : Fld := ⟨0x64, 0, 16⟩
def PAR_FEATURES_RECORD : Fld := ⟨0x68, 4, 1⟩
def PAR_FEATURES_MLSE : Fld := ⟨0x68, 3, 1⟩
def PAR_FEATURES_CASCADE : Fld := ⟨0x68, 2, 1⟩
def PAR_FEATURES_LANE_106 : Fld := ⟨0x68, 1, 1⟩
def PAR_FEATURES_ZONE2 : Fld := ⟨0x68, 0, 1⟩
def MAP_CTRL_SHADOW_READ : Fld := ⟨0x80, 0, 1⟩
def MAP_ERR_COUNT_COUNT : Fld := ⟨0x84, 0, 32⟩
def MAP_ERR_ADDR_KIND : Fld := ⟨0x88, 24, 2⟩
def MAP_ERR_ADDR_ADDR : Fld := ⟨0x88, 0, 24⟩
def MAP_SCRATCH_VALUE : Fld := ⟨0x8C, 0, 32⟩

end F

/-- The registers of Table 02-8. -/
def regsT02_8 : List RegDesc := [
  ⟨"TCK_TICKNO", 0x40000, 1, 0x0, 1, 0x0, 0x0, 0x0, 0x0, 0x0, 0x0, 0x0, false⟩,
  ⟨"TCK_FRAME", 0x40004, 1, 0x0, 1, 0x0, 0x0, 0x0, 0x0, 0x0, 0x0, 0x0, false⟩,
  ⟨"TCK_STATUS", 0x40008, 1, 0x0, 1, 0x0, 0x0, 0x0, 0x0, 0xC, 0x0, 0x0, false⟩,
  ⟨"TCK_CTRL", 0x4000C, 1, 0x0, 1, 0x0, 0x0, 0x0, 0x1, 0x0, 0x6, 0x0, false⟩,
  ⟨"TCK_TSYNC_TICKNO", 0x40010, 1, 0x0, 1, 0x0, 0x0, 0xFFFFFFFF, 0x0, 0x0, 0x0, 0x0, false⟩,
  ⟨"TCK_TSYNC_SFN", 0x40014, 1, 0x0, 1, 0x0, 0x0, 0x3FF, 0x0, 0x0, 0x0, 0x0, false⟩,
  ⟨"TCK_COMMIT_TICK", 0x40020, 1, 0x0, 1, 0x0, 0x0, 0xFFFFFFFF, 0x0, 0x0, 0x0, 0x0, false⟩,
  ⟨"TCK_COMMIT_CTRL", 0x40024, 1, 0x0, 1, 0x0, 0x0, 0x0, 0x0, 0x0, 0x3, 0x0, false⟩,
  ⟨"TCK_COMMIT_STAT", 0x40028, 1, 0x0, 1, 0x0, 0x0, 0x0, 0x0, 0x0, 0x0, 0x0, false⟩,
  ⟨"TCK_OVR_COUNT", 0x40030, 1, 0x0, 1, 0x0, 0x0, 0x0, 0x0, 0x0, 0x0, 0x0, false⟩,
  ⟨"TCK_OVR_LAST", 0x40034, 1, 0x0, 1, 0x0, 0x0, 0x0, 0x0, 0x0, 0x0, 0x0, false⟩,
  ⟨"TCK_EVSEQ_LO", 0x40040, 1, 0x0, 1, 0x0, 0x0, 0x0, 0x0, 0x0, 0x0, 0x0, false⟩,
  ⟨"TCK_EVSEQ_HI", 0x40044, 1, 0x0, 1, 0x0, 0x0, 0x0, 0x0, 0x0, 0x0, 0x0, false⟩,
  ⟨"TCK_ARB_DROP", 0x40048, 1, 0x0, 1, 0x0, 0x0, 0x0, 0x0, 0x0, 0x0, 0x0, false⟩,
  ⟨"TCK_LOAD", 0x40100, 16, 0x4, 1, 0x0, 0x0, 0x0, 0x0, 0x0, 0x0, 0x0, false⟩]

/-- The registers of Table 03-10. -/
def regsT03_10 : List RegDesc := [
  ⟨"MBX_CTRL", 0x90000, 1, 0x0, 1, 0x0, 0x4, 0x7, 0x0, 0x0, 0x100, 0x0, false⟩,
  ⟨"MBX_STATUS", 0x90004, 1, 0x0, 1, 0x0, 0x0, 0x0, 0x0, 0x0, 0x0, 0x0, false⟩,
  ⟨"MBX_CMD_BASE_LO", 0x90008, 1, 0x0, 1, 0x0, 0x0, 0xFFFFE000, 0x0, 0x0, 0x0, 0x0, false⟩,
  ⟨"MBX_CMD_BASE_HI", 0x9000C, 1, 0x0, 1, 0x0, 0x0, 0xFFFFFFFF, 0x0, 0x0, 0x0, 0x0, false⟩,
  ⟨"MBX_CMD_SIZE", 0x90010, 1, 0x0, 1, 0x0, 0x2, 0xF, 0x0, 0x0, 0x0, 0x0, false⟩,
  ⟨"MBX_CMD_PROD", 0x90014, 1, 0x0, 1, 0x0, 0x0, 0xFFFF, 0x0, 0x0, 0x0, 0x0, false⟩,
  ⟨"MBX_CMD_CONS", 0x90018, 1, 0x0, 1, 0x0, 0x0, 0x0, 0x0, 0x0, 0x0, 0x0, false⟩,
  ⟨"MBX_RPL_BASE_LO", 0x90020, 1, 0x0, 1, 0x0, 0x0, 0xFFFFE000, 0x0, 0x0, 0x0, 0x0, false⟩,
  ⟨"MBX_RPL_BASE_HI", 0x90024, 1, 0x0, 1, 0x0, 0x0, 0xFFFFFFFF, 0x0, 0x0, 0x0, 0x0, false⟩,
  ⟨"MBX_RPL_SIZE", 0x90028, 1, 0x0, 1, 0x0, 0x2, 0xF, 0x0, 0x0, 0x0, 0x0, false⟩,
  ⟨"MBX_RPL_PROD", 0x9002C, 1, 0x0, 1, 0x0, 0x0, 0x0, 0x0, 0x0, 0x0, 0x0, false⟩,
  ⟨"MBX_RPL_CONS", 0x90030, 1, 0x0, 1, 0x0, 0x0, 0xFFFF, 0x0, 0x0, 0x0, 0x0, false⟩,
  ⟨"MBX_RES_TAG", 0x90040, 1, 0x0, 1, 0x0, 0x0, 0x0, 0x0, 0x0, 0x0, 0xFFFF, false⟩,
  ⟨"MBX_RES_STAT", 0x90044, 1, 0x0, 1, 0x0, 0x0, 0x0, 0x0, 0x0, 0x0, 0x0, false⟩,
  ⟨"MBX_IRQ_STAT", 0x90048, 1, 0x0, 1, 0x0, 0x0, 0x0, 0x0, 0x7, 0x0, 0x0, false⟩,
  ⟨"MBX_IRQ_EN", 0x9004C, 1, 0x0, 1, 0x0, 0x0, 0x7, 0x0, 0x0, 0x0, 0x0, false⟩,
  ⟨"MBX_DISC", 0x90050, 1, 0x0, 1, 0x0, 0x0, 0x0, 0x0, 0x0, 0x0, 0x0, false⟩,
  ⟨"MBX_SLOT_USE", 0x90054, 1, 0x0, 1, 0x0, 0x0, 0x0, 0x0, 0x0, 0x0, 0x0, false⟩,
  ⟨"MBX_RES_GEN", 0x90058, 1, 0x0, 1, 0x0, 0x0, 0x0, 0x0, 0x0, 0x0, 0x0, false⟩,
  ⟨"MBX_FW_IGN", 0x90060, 1, 0x0, 1, 0x0, 0x0, 0x0, 0x0, 0x0, 0x0, 0x0, false⟩,
  ⟨"MBX_FW_IGN_ADDR", 0x90064, 1, 0x0, 1, 0x0, 0x0, 0x0, 0x0, 0x0, 0x0, 0x0, false⟩,
  ⟨"MBX_RES_WIN", 0x91000, 1, 0x0, 1, 0x0, 0x0, 0x0, 0x0, 0x0, 0x0, 0x0, false⟩]

/-- The registers of Table 04-11. -/
def regsT04_11 : List RegDesc := [
  ⟨"RXP_STATUS", 0x100000, 64, 0x1000, 1, 0x0, 0x0, 0x0, 0x0, 0x0, 0x0, 0x0, false⟩,
  ⟨"RXP_GAIN", 0x100004, 64, 0x1000, 1, 0x0, 0x1E000000, 0x0, 0x3F01FFFF, 0x0, 0x0, 0x0, true⟩,
  ⟨"RXP_GAIN_STAT", 0x100008, 64, 0x1000, 1, 0x0, 0x1E000000, 0x0, 0x0, 0x0, 0x0, 0x0, false⟩,
  ⟨"RXP_DC_CTRL", 0x10000C, 64, 0x1000, 1, 0x0, 0x20, 0x3F, 0x0, 0x0, 0x0, 0x0, false⟩,
  ⟨"RXP_DC_EST", 0x100010, 64, 0x1000, 1, 0x0, 0x0, 0x0, 0x0, 0x0, 0x0, 0x0, false⟩,
  ⟨"RXP_AGC_CFG", 0x100014, 64, 0x1000, 1, 0x0, 0x640C06, 0xFFFFFF, 0x0, 0x0, 0x0, 0x0, false⟩,
  ⟨"RXP_PEAK", 0x100018, 64, 0x1000, 1, 0x0, 0x8000, 0x0, 0x0, 0x0, 0x0, 0x0, false⟩,
  ⟨"RXP_CLIP_UL", 0x100020, 64, 0x1000, 1, 0x0, 0x0, 0x0, 0x0, 0x0, 0x0, 0x0, false⟩,
  ⟨"RXP_CLIP_GAP", 0x100024, 64, 0x1000, 1, 0x0, 0x0, 0x0, 0x0, 0x0, 0x0, 0x0, false⟩,
  ⟨"RXP_QUAL_SETTLING", 0x100028, 64, 0x1000, 1, 0x0, 0x0, 0x0, 0x0, 0x0, 0x0, 0x0, false⟩,
  ⟨"RXP_QUAL_VOID", 0x10002C, 64, 0x1000, 1, 0x0, 0x0, 0x0, 0x0, 0x0, 0x0, 0x0, false⟩,
  ⟨"RXP_STR_CFG", 0x100040, 64, 0x1000, 4, 0x10, 0x0, 0x0, 0xFFFF0F01, 0x0, 0x0, 0x0, true⟩,
  ⟨"RXP_STR_NCO_LO", 0x100044, 64, 0x1000, 4, 0x10, 0x0, 0x0, 0xFFFFFFFF, 0x0, 0x0, 0x0, true⟩,
  ⟨"RXP_STR_NCO_HI", 0x100048, 64, 0x1000, 4, 0x10, 0x0, 0x0, 0xFFFFFFFF, 0x0, 0x0, 0x0, true⟩,
  ⟨"RXP_STR_FILT", 0x10004C, 64, 0x1000, 4, 0x10, 0x0, 0x0, 0x0, 0x0, 0x0, 0x0, false⟩,
  ⟨"RXP_NF_CTRL", 0x100080, 64, 0x1000, 1, 0x0, 0x0, 0x8FFF3FFF, 0x0, 0x0, 0x0, 0x0, false⟩,
  ⟨"RXP_NF_OFFSET", 0x100084, 64, 0x1000, 1, 0x0, 0x0, 0x3FF, 0x0, 0x0, 0x0, 0x0, false⟩,
  ⟨"RXP_NF", 0x100088, 64, 0x1000, 1, 0x0, 0x8000, 0x0, 0x0, 0x0, 0x0, 0x0, false⟩,
  ⟨"RXP_NF_AVG", 0x10008C, 64, 0x1000, 1, 0x0, 0x8000, 0x0, 0x0, 0x0, 0x0, 0x0, false⟩,
  ⟨"RXP_NF_SKIP", 0x100090, 64, 0x1000, 1, 0x0, 0x0, 0x0, 0x0, 0x0, 0x0, 0x0, false⟩]

/-- The registers of Table 04-12. -/
def regsT04_12 : List RegDesc := [
  ⟨"QFE_STATUS", 0x1C0000, 16, 0x1000, 1, 0x0, 0x0, 0x0, 0x0, 0x0, 0x0, 0x0, false⟩,
  ⟨"QFE_LOAD", 0x1C0004, 16, 0x1000, 1, 0x0, 0x0, 0x0, 0x0, 0x0, 0x0, 0x0, false⟩,
  ⟨"QFE_COEF_ADDR", 0x1C0008, 16, 0x1000, 1, 0x0, 0x0, 0x1FFF, 0x0, 0x0, 0x0, 0x0, false⟩,
  ⟨"QFE_COEF_DATA", 0x1C000C, 16, 0x1000, 1, 0x0, 0x0, 0x0, 0x0, 0x0, 0x0, 0x0, false⟩,
  ⟨"QFE_SAT", 0x1C0010, 16, 0x1000, 1, 0x0, 0x0, 0x0, 0x0, 0x0, 0x0, 0x0, false⟩,
  ⟨"QFE_STOPS", 0x1C0014, 16, 0x1000, 1, 0x0, 0x0, 0x0, 0x0, 0x0, 0x0, 0x0, false⟩]

/-- The registers of Table 05-13. -/
def regsT05_13 : List RegDesc := [
  ⟨"TXP_STATUS", 0x140000, 64, 0x1000, 1, 0x0, 0x3, 0x0, 0x0, 0x0, 0x0, 0x0, false⟩,
  ⟨"TXP_POWER", 0x140004, 64, 0x1000, 1, 0x0, 0x3F, 0x0, 0xF3F, 0x0, 0x0, 0x0, true⟩,
  ⟨"TXP_POWER_STAT", 0x140008, 64, 0x1000, 1, 0x0, 0x5003F, 0x0, 0x0, 0x0, 0x0, 0x0, false⟩,
  ⟨"TXP_ENTRY_LO", 0x14000C, 64, 0x1000, 1, 0x0, 0xFA0, 0x0, 0x0, 0x0, 0x0, 0x0, false⟩,
  ⟨"TXP_ENTRY_HI", 0x140010, 64, 0x1000, 1, 0x0, 0x0, 0x0, 0x0, 0x0, 0x0, 0x0, false⟩,
  ⟨"TXP_FREQ", 0x140014, 64, 0x1000, 1, 0x0, 0x0, 0x0, 0x0, 0x0, 0x0, 0x0, false⟩,
  ⟨"TXP_NOTREADY_TICKS", 0x140018, 64, 0x1000, 1, 0x0, 0x0, 0x0, 0x0, 0x0, 0x0, 0x0, false⟩,
  ⟨"TXP_LATE_STARTS", 0x14001C, 64, 0x1000, 1, 0x0, 0x0, 0x0, 0x0, 0x0, 0x0, 0x0, false⟩,
  ⟨"TXP_DAC_SAT", 0x140020, 64, 0x1000, 1, 0x0, 0x0, 0x0, 0x0, 0x0, 0x0, 0x0, false⟩,
  ⟨"TXP_CFR_CFG", 0x140024, 64, 0x1000, 1, 0x0, 0x50, 0x0, 0x37F, 0x0, 0x0, 0x0, true⟩,
  ⟨"TXP_CFR_STAT", 0x140028, 64, 0x1000, 1, 0x0, 0x0, 0x0, 0x0, 0x0, 0x0, 0x0, false⟩,
  ⟨"TXP_MASK_VIOL", 0x14002C, 64, 0x1000, 1, 0x0, 0x0, 0x0, 0x0, 0x0, 0x0, 0x0, false⟩,
  ⟨"TXP_MASK_LAST", 0x140030, 64, 0x1000, 1, 0x0, 0x0, 0x0, 0x0, 0x0, 0x0, 0x0, false⟩,
  ⟨"TXP_QUAL_SETTLING", 0x140034, 64, 0x1000, 1, 0x0, 0x0, 0x0, 0x0, 0x0, 0x0, 0x0, false⟩,
  ⟨"TXP_QUAL_VOID", 0x140038, 64, 0x1000, 1, 0x0, 0x0, 0x0, 0x0, 0x0, 0x0, 0x0, false⟩,
  ⟨"TXP_STR_CFG", 0x140040, 64, 0x1000, 4, 0x10, 0x0, 0x0, 0xFFFF0E01, 0x0, 0x0, 0x0, true⟩,
  ⟨"TXP_STR_NCO_LO", 0x140044, 64, 0x1000, 4, 0x10, 0x0, 0x0, 0xFFFFFFFF, 0x0, 0x0, 0x0, true⟩,
  ⟨"TXP_STR_NCO_HI", 0x140048, 64, 0x1000, 4, 0x10, 0x0, 0x0, 0xFFFFFFFF, 0x0, 0x0, 0x0, true⟩,
  ⟨"TXP_STR_SHAPE", 0x14004C, 64, 0x1000, 4, 0x10, 0x0, 0x0, 0xFFFF1800, 0x0, 0x0, 0x0, true⟩,
  ⟨"TXP_STR_EVM", 0x140080, 64, 0x1000, 4, 0x4, 0x0, 0x0, 0x0, 0x0, 0x0, 0x0, false⟩]

/-- The registers of Table 05-14. -/
def regsT05_14 : List RegDesc := [
  ⟨"QFE_TX_LOAD", 0x1C0100, 16, 0x1000, 1, 0x0, 0x0, 0x0, 0x0, 0x0, 0x0, 0x0, false⟩,
  ⟨"QFE_TX_COEF_ADDR", 0x1C0104, 16, 0x1000, 1, 0x0, 0x0, 0x1FFF, 0x0, 0x0, 0x0, 0x0, false⟩,
  ⟨"QFE_TX_COEF_DATA", 0x1C0108, 16, 0x1000, 1, 0x0, 0x0, 0x0, 0x0, 0x0, 0x0, 0x0, false⟩,
  ⟨"QFE_TX_SAT", 0x1C010C, 16, 0x1000, 1, 0x0, 0x0, 0x0, 0x0, 0x0, 0x0, 0x0, false⟩]

/-- The registers of Table 05-15. -/
def regsT05_15 : List RegDesc := [
  ⟨"CFR_MASK_ADDR", 0x220000, 1, 0x0, 1, 0x0, 0x0, 0x7FFF, 0x0, 0x0, 0x0, 0x0, false⟩,
  ⟨"CFR_MASK_DATA", 0x220004, 1, 0x0, 1, 0x0, 0x0, 0x0, 0x0, 0x0, 0x0, 0x0, false⟩,
  ⟨"FES_STATUS", 0x221000, 1, 0x0, 1, 0x0, 0x0, 0x0, 0x0, 0x0, 0x0, 0x0, false⟩,
  ⟨"FES_CFG", 0x221004, 1, 0x0, 1, 0x0, 0x0, 0x0, 0xFFFFFF, 0x0, 0x0, 0x0, false⟩,
  ⟨"FES_TIMING", 0x221008, 1, 0x0, 1, 0x0, 0x0, 0x0, 0xFFFFFFFF, 0x0, 0x0, 0x0, false⟩,
  ⟨"FES_QUADS", 0x22100C, 1, 0x0, 1, 0x0, 0x0, 0x0, 0xFFFF, 0x0, 0x0, 0x0, false⟩,
  ⟨"FES_SW", 0x221010, 1, 0x0, 1, 0x0, 0x0, 0x0, 0xFF, 0x0, 0x0, 0x0, false⟩,
  ⟨"FES_PADRV_CTRL", 0x221014, 1, 0x0, 1, 0x0, 0x0, 0x1F01, 0x0, 0x0, 0x0, 0x0, false⟩,
  ⟨"FES_PADRV_LATE", 0x221018, 1, 0x0, 1, 0x0, 0x0, 0x0, 0x0, 0x0, 0x0, 0x0, false⟩,
  ⟨"FES_RUN", 0x221100, 64, 0x4, 1, 0x0, 0x0, 0x0, 0x3FFFF, 0x0, 0x0, 0x0, false⟩,
  ⟨"FRQ_ADDR", 0x222000, 1, 0x0, 1, 0x0, 0x0, 0x1FFF, 0x0, 0x0, 0x0, 0x0, false⟩,
  ⟨"FRQ_DATA", 0x222004, 1, 0x0, 1, 0x0, 0x0, 0x0, 0x0, 0x0, 0x0, 0x0, false⟩]

/-- The registers of Table 06-9. -/
def regsT06_9 : List RegDesc := [
  ⟨"BF_STATUS", 0x200000, 1, 0x0, 1, 0x0, 0x0, 0x0, 0x0, 0x0, 0x0, 0x0, false⟩,
  ⟨"BF_STAGE_GEN", 0x200004, 1, 0x0, 1, 0x0, 0x0, 0x0, 0x0, 0x0, 0x0, 0x0, false⟩,
  ⟨"BF_DEPTH", 0x200008, 1, 0x0, 1, 0x0, 0x0, 0x0, 0x0, 0x0, 0x0, 0x0, false⟩,
  ⟨"BF_RET_RX_LO", 0x200010, 1, 0x0, 1, 0x0, 0x0, 0x0, 0x0, 0x0, 0x0, 0x0, false⟩,
  ⟨"BF_RET_RX_HI", 0x200014, 1, 0x0, 1, 0x0, 0x0, 0x0, 0x0, 0x0, 0x0, 0x0, false⟩,
  ⟨"BF_RET_TX_LO", 0x200018, 1, 0x0, 1, 0x0, 0x0, 0x0, 0x0, 0x0, 0x0, 0x0, false⟩,
  ⟨"BF_RET_TX_HI", 0x20001C, 1, 0x0, 1, 0x0, 0x0, 0x0, 0x0, 0x0, 0x0, 0x0, false⟩,
  ⟨"BF_RET_TICK", 0x200020, 1, 0x0, 1, 0x0, 0x0, 0x0, 0x0, 0x0, 0x0, 0x0, false⟩,
  ⟨"BF_LATE_CPLANE", 0x200024, 1, 0x0, 1, 0x0, 0x0, 0x0, 0x0, 0x0, 0x0, 0x0, false⟩,
  ⟨"BF_LATE_LAST", 0x200028, 1, 0x0, 1, 0x0, 0x0, 0x0, 0x0, 0x0, 0x0, 0x0, false⟩,
  ⟨"BF_UL_SAT", 0x20002C, 1, 0x0, 1, 0x0, 0x0, 0x0, 0x0, 0x0, 0x0, 0x0, false⟩,
  ⟨"BF_DL_SAT", 0x200030, 1, 0x0, 1, 0x0, 0x0, 0x0, 0x0, 0x0, 0x0, 0x0, false⟩,
  ⟨"BF_FFT_SAT", 0x200034, 1, 0x0, 1, 0x0, 0x0, 0x0, 0x0, 0x0, 0x0, 0x0, false⟩,
  ⟨"BF_IFFT_SAT", 0x200038, 1, 0x0, 1, 0x0, 0x0, 0x0, 0x0, 0x0, 0x0, 0x0, false⟩,
  ⟨"BF_BAD_BEAMID", 0x20003C, 1, 0x0, 1, 0x0, 0x0, 0x0, 0x0, 0x0, 0x0, 0x0, false⟩,
  ⟨"BF_BAD_WEIGHTS", 0x200040, 1, 0x0, 1, 0x0, 0x0, 0x0, 0x0, 0x0, 0x0, 0x0, false⟩,
  ⟨"BF_CI_REFUSED", 0x200044, 1, 0x0, 1, 0x0, 0x0, 0x0, 0x0, 0x0, 0x0, 0x0, false⟩,
  ⟨"BF_CI_MISSING", 0x200048, 1, 0x0, 1, 0x0, 0x0, 0x0, 0x0, 0x0, 0x0, 0x0, false⟩,
  ⟨"BF_GROUP_OVF", 0x20004C, 1, 0x0, 1, 0x0, 0x0, 0x0, 0x0, 0x0, 0x0, 0x0, false⟩,
  ⟨"BF_WIN_ADDR", 0x200050, 1, 0x0, 1, 0x0, 0x0, 0xF003FFFF, 0x0, 0x0, 0x0, 0x0, false⟩,
  ⟨"BF_WIN_DATA", 0x200054, 1, 0x0, 1, 0x0, 0x0, 0x0, 0x0, 0x0, 0x0, 0x0, false⟩,
  ⟨"BF_CAR_CFG", 0x200100, 8, 0x40, 1, 0x0, 0x0, 0x0, 0xFE7F01FF, 0x0, 0x0, 0x0, true⟩,
  ⟨"BF_CAR_CP", 0x200104, 8, 0x40, 1, 0x0, 0x0, 0x0, 0xFFFFFFFF, 0x0, 0x0, 0x0, true⟩,
  ⟨"BF_CAR_WIN", 0x200108, 8, 0x40, 1, 0x0, 0x0, 0x0, 0xFFFF, 0x0, 0x0, 0x0, true⟩,
  ⟨"BF_CAR_STAT", 0x20010C, 8, 0x40, 1, 0x0, 0x0, 0x0, 0x0, 0x0, 0x0, 0x0, false⟩,
  ⟨"BF_UL_BEAM", 0x200300, 32, 0x4, 1, 0x0, 0x0, 0x0, 0x8700000F, 0x0, 0x0, 0x0, true⟩,
  ⟨"BF_DL_LAYER", 0x200380, 32, 0x4, 1, 0x0, 0x0, 0x0, 0x8000000F, 0x0, 0x0, 0x0, true⟩]

/-- The registers of Table 07-12. -/
def regsT07_12 : List RegDesc := [
  ⟨"DPD_CFG", 0x210000, 1, 0x0, 1, 0x0, 0xE2320A00, 0xFFFFFF00, 0x0, 0x0, 0x0, 0x0, false⟩,
  ⟨"DPD_ENGINES", 0x210004, 1, 0x0, 1, 0x0, 0x0, 0x0, 0xFFFF, 0x0, 0x0, 0x0, false⟩,
  ⟨"DPD_QUEUE", 0x210008, 1, 0x0, 1, 0x0, 0x0, 0x0, 0x0, 0x0, 0x0, 0x0, false⟩,
  ⟨"DPD_COEF_ADDR", 0x210010, 1, 0x0, 1, 0x0, 0x0, 0xFFFFF, 0x0, 0x0, 0x0, 0x0, false⟩,
  ⟨"DPD_COEF_DATA", 0x210014, 1, 0x0, 1, 0x0, 0x0, 0x0, 0x0, 0x0, 0x0, 0x0, false⟩,
  ⟨"DPD_TERM_ADDR", 0x210018, 1, 0x0, 1, 0x0, 0x0, 0x1FFF, 0x0, 0x0, 0x0, 0x0, false⟩,
  ⟨"DPD_TERM_DATA", 0x21001C, 1, 0x0, 1, 0x0, 0x0, 0x0, 0x0, 0x0, 0x0, 0x0, false⟩,
  ⟨"DPD_P_STATUS", 0x211000, 64, 0x20, 1, 0x0, 0x200800, 0x0, 0x0, 0x0, 0x0, 0x0, false⟩,
  ⟨"DPD_P_ACF", 0x211004, 64, 0x20, 1, 0x0, 0x0, 0x0, 0x0, 0x0, 0x0, 0x0, false⟩,
  ⟨"DPD_P_GAIN", 0x211008, 64, 0x20, 1, 0x0, 0x0, 0x0, 0x0, 0x0, 0x0, 0x0, false⟩,
  ⟨"DPD_P_UPDATES", 0x21100C, 64, 0x20, 1, 0x0, 0x0, 0x0, 0x0, 0x0, 0x0, 0x0, false⟩,
  ⟨"DPD_P_DIVERGE", 0x211010, 64, 0x20, 1, 0x0, 0x0, 0x0, 0x0, 0x0, 0x0, 0x0, false⟩,
  ⟨"DPD_P_SKIP", 0x211014, 64, 0x20, 1, 0x0, 0x0, 0x0, 0x0, 0x0, 0x0, 0x0, false⟩,
  ⟨"DPD_P_PWR", 0x211018, 64, 0x20, 1, 0x0, 0x0, 0x0, 0x0, 0x0, 0x0, 0x0, false⟩]

/-- The registers of Table 07-13. -/
def regsT07_13 : List RegDesc := [
  ⟨"OBS_STATUS", 0x180000, 8, 0x1000, 1, 0x0, 0x70, 0x0, 0x0, 0x0, 0x0, 0x0, false⟩,
  ⟨"OBS_CFG", 0x180004, 8, 0x1000, 1, 0x0, 0x0, 0xFF, 0x0, 0x0, 0x0, 0x0, false⟩,
  ⟨"OBS_ATTEN_LO", 0x180008, 8, 0x1000, 1, 0x0, 0xA0A0A0A, 0x1F1F1F1F, 0x0, 0x0, 0x0, 0x0, false⟩,
  ⟨"OBS_ATTEN_HI", 0x18000C, 8, 0x1000, 1, 0x0, 0xA0A0A0A, 0x1F1F1F1F, 0x0, 0x0, 0x0, 0x0, false⟩,
  ⟨"OBS_CAPTURES", 0x180010, 8, 0x1000, 1, 0x0, 0x0, 0x0, 0x0, 0x0, 0x0, 0x0, false⟩,
  ⟨"OBS_DISCARD", 0x180014, 8, 0x1000, 1, 0x0, 0x0, 0x0, 0x0, 0x0, 0x0, 0x0, false⟩,
  ⟨"OBS_CLIP", 0x180018, 8, 0x1000, 1, 0x0, 0x0, 0x0, 0x0, 0x0, 0x0, 0x0, false⟩,
  ⟨"OBS_LAST_TICK", 0x18001C, 8, 0x1000, 1, 0x0, 0x0, 0x0, 0x0, 0x0, 0x0, 0x0, false⟩]

/-- The registers of Table 08-6. -/
def regsT08_6 : List RegDesc := [
  ⟨"PRA_STATUS", 0x230000, 1, 0x0, 1, 0x0, 0x0, 0x0, 0x0, 0x0, 0x0, 0x0, false⟩,
  ⟨"PRA_OCCSEQ", 0x230004, 1, 0x0, 1, 0x0, 0x0, 0x0, 0x0, 0x0, 0x0, 0x0, false⟩,
  ⟨"PRA_RING_OVF", 0x230008, 1, 0x0, 1, 0x0, 0x0, 0x0, 0x0, 0x0, 0x0, 0x0, false⟩,
  ⟨"PRA_TRUNC", 0x23000C, 1, 0x0, 1, 0x0, 0x0, 0x0, 0x0, 0x0, 0x0, 0x0, false⟩,
  ⟨"PRA_BEAM_DROP", 0x230010, 1, 0x0, 1, 0x0, 0x0, 0x0, 0x0, 0x0, 0x0, 0x0, false⟩,
  ⟨"PRA_LATE_SECTION", 0x230014, 1, 0x0, 1, 0x0, 0x0, 0x0, 0x0, 0x0, 0x0, 0x0, false⟩,
  ⟨"PRA_VOID_OCC", 0x230018, 1, 0x0, 1, 0x0, 0x0, 0x0, 0x0, 0x0, 0x0, 0x0, false⟩,
  ⟨"PRA_CFG_CTRL", 0x230100, 4, 0x20, 1, 0x0, 0x0, 0x0, 0xFFDF07FF, 0x0, 0x0, 0x0, true⟩,
  ⟨"PRA_CFG_DET", 0x230104, 4, 0x20, 1, 0x0, 0x0, 0x0, 0x7FF003F, 0x0, 0x0, 0x0, true⟩,
  ⟨"PRA_CFG_THR", 0x230108, 4, 0x20, 1, 0x0, 0x0, 0x0, 0xFFFFFFFF, 0x0, 0x0, 0x0, true⟩,
  ⟨"PRA_CFG_OCC", 0x23010C, 4, 0x20, 1, 0x0, 0x0, 0x0, 0x0, 0x0, 0x0, 0x0, false⟩,
  ⟨"PRA_CFG_DETS", 0x230110, 4, 0x20, 1, 0x0, 0x0, 0x0, 0x0, 0x0, 0x0, 0x0, false⟩]

/-- The registers of Table 09-8. -/
def regsT09_8 : List RegDesc := [
  ⟨"CMP_DEC_SAT", 0x240000, 1, 0x0, 1, 0x0, 0x0, 0x0, 0x0, 0x0, 0x0, 0x0, false⟩,
  ⟨"CMP_BAD_METH", 0x240004, 1, 0x0, 1, 0x0, 0x0, 0x0, 0x0, 0x0, 0x0, 0x0, false⟩,
  ⟨"CMP_PSUM_VOID", 0x240008, 1, 0x0, 1, 0x0, 0x0, 0x0, 0x0, 0x0, 0x0, 0x0, false⟩,
  ⟨"CMP_UL_CAR", 0x240100, 4, 0x10, 1, 0x0, 0x901, 0x0, 0xF0F, 0x0, 0x0, 0x0, true⟩,
  ⟨"CMP_UL_PET", 0x240104, 4, 0x10, 1, 0x0, 0x8, 0x0, 0xFFFF0F0F, 0x0, 0x0, 0x0, true⟩,
  ⟨"CMP_UL_PSTAT", 0x240108, 4, 0x10, 1, 0x0, 0x0, 0x0, 0x0, 0x0, 0x0, 0x0, false⟩,
  ⟨"CMP_DL_CAR", 0x240200, 4, 0x10, 1, 0x0, 0x10000901, 0x0, 0xFFFF0F0F, 0x0, 0x0, 0x0, true⟩]

/-- The registers of Table 10-9. -/
def regsT10_9 : List RegDesc := [
  ⟨"ETH_CFG", 0x300000, 4, 0x1000, 1, 0x0, 0x24000010, 0x0, 0x3FFF131F, 0x0, 0x0, 0x0, false⟩,
  ⟨"ETH_STATUS", 0x300004, 4, 0x1000, 1, 0x0, 0x0, 0x0, 0x0, 0x0, 0x0, 0x0, false⟩,
  ⟨"ETH_MAC_LO", 0x300008, 4, 0x1000, 1, 0x0, 0x0, 0x0, 0xFFFFFFFF, 0x0, 0x0, 0x0, false⟩,
  ⟨"ETH_MAC_HI", 0x30000C, 4, 0x1000, 1, 0x0, 0x0, 0x0, 0xFFFF, 0x0, 0x0, 0x0, false⟩,
  ⟨"ETH_DST_LO", 0x300010, 4, 0x1000, 1, 0x0, 0x0, 0x0, 0xFFFFFFFF, 0x0, 0x0, 0x0, false⟩,
  ⟨"ETH_DST_HI", 0x300014, 4, 0x1000, 1, 0x0, 0x0, 0x0, 0xFFFF, 0x0, 0x0, 0x0, false⟩,
  ⟨"ETH_VLAN", 0x300018, 4, 0x1000, 1, 0x0, 0x0, 0x0, 0xEFFF, 0x0, 0x0, 0x0, false⟩,
  ⟨"ETH_PTP_LAT", 0x30001C, 4, 0x1000, 1, 0x0, 0x0, 0x0, 0xFFFFFFFF, 0x0, 0x0, 0x0, false⟩,
  ⟨"ETH_RX_FRAMES", 0x300020, 4, 0x1000, 1, 0x0, 0x0, 0x0, 0x0, 0x0, 0x0, 0x0, false⟩,
  ⟨"ETH_TX_FRAMES", 0x300024, 4, 0x1000, 1, 0x0, 0x0, 0x0, 0x0, 0x0, 0x0, 0x0, false⟩,
  ⟨"ETH_RX_FCS", 0x300028, 4, 0x1000, 1, 0x0, 0x0, 0x0, 0x0, 0x0, 0x0, 0x0, false⟩,
  ⟨"ETH_FEC_CORR", 0x30002C, 4, 0x1000, 1, 0x0, 0x0, 0x0, 0x0, 0x0, 0x0, 0x0, false⟩,
  ⟨"ETH_FEC_UNCORR", 0x300030, 4, 0x1000, 1, 0x0, 0x0, 0x0, 0x0, 0x0, 0x0, 0x0, false⟩,
  ⟨"ETH_DISC", 0x300034, 4, 0x1000, 1, 0x0, 0x0, 0x0, 0x0, 0x0, 0x0, 0x0, false⟩,
  ⟨"ETH_PTP_FWD", 0x300038, 4, 0x1000, 1, 0x0, 0x0, 0x0, 0x0, 0x0, 0x0, 0x0, false⟩,
  ⟨"ETH_PAUSE", 0x30003C, 4, 0x1000, 1, 0x0, 0x0, 0x0, 0x0, 0x0, 0x0, 0x0, false⟩]

/-- The registers of Table 10-10. -/
def regsT10_10 : List RegDesc := [
  ⟨"FRM_WIN0", 0x241000, 1, 0x0, 1, 0x0, 0x78001E0, 0x0, 0xFFF0FFF, 0x0, 0x0, 0x0, false⟩,
  ⟨"FRM_WIN1", 0x241004, 1, 0x0, 1, 0x0, 0xF000780, 0x0, 0xFFF0FFF, 0x0, 0x0, 0x0, false⟩,
  ⟨"FRM_WIN2", 0x241008, 1, 0x0, 1, 0x0, 0x8, 0x0, 0xF, 0x0, 0x0, 0x0, false⟩,
  ⟨"FRM_LOAD", 0x241010, 1, 0x0, 1, 0x0, 0x0, 0x0, 0x0, 0x0, 0x0, 0x0, false⟩,
  ⟨"FRM_UP_LATE", 0x241014, 1, 0x0, 1, 0x0, 0x0, 0x0, 0x0, 0x0, 0x0, 0x0, false⟩,
  ⟨"FRM_UP_EARLY", 0x241018, 1, 0x0, 1, 0x0, 0x0, 0x0, 0x0, 0x0, 0x0, 0x0, false⟩,
  ⟨"FRM_TOO_EARLY", 0x24101C, 1, 0x0, 1, 0x0, 0x0, 0x0, 0x0, 0x0, 0x0, 0x0, false⟩,
  ⟨"FRM_EXT_DROP", 0x241020, 1, 0x0, 1, 0x0, 0x0, 0x0, 0x0, 0x0, 0x0, 0x0, false⟩,
  ⟨"FRM_BAD_SECTION", 0x241024, 1, 0x0, 1, 0x0, 0x0, 0x0, 0x0, 0x0, 0x0, 0x0, false⟩,
  ⟨"FRM_UNMAPPED", 0x241028, 1, 0x0, 1, 0x0, 0x0, 0x0, 0x0, 0x0, 0x0, 0x0, false⟩,
  ⟨"FRM_SEQ_GAP", 0x24102C, 1, 0x0, 1, 0x0, 0x0, 0x0, 0x0, 0x0, 0x0, 0x0, false⟩,
  ⟨"FRM_ING_DROP", 0x241030, 1, 0x0, 1, 0x0, 0x0, 0x0, 0x0, 0x0, 0x0, 0x0, false⟩,
  ⟨"FRM_EGR_DROP", 0x241034, 1, 0x0, 1, 0x0, 0x0, 0x0, 0x0, 0x0, 0x0, 0x0, false⟩,
  ⟨"FRM_CP_FULL", 0x241038, 1, 0x0, 1, 0x0, 0x0, 0x0, 0x0, 0x0, 0x0, 0x0, false⟩,
  ⟨"FRM_MAP_ADDR", 0x241040, 1, 0x0, 1, 0x0, 0x0, 0xFF, 0x0, 0x0, 0x0, 0x0, false⟩,
  ⟨"FRM_MAP_DATA", 0x241044, 1, 0x0, 1, 0x0, 0x0, 0x0, 0x0, 0x0, 0x0, 0x0, false⟩,
  ⟨"FRM_QREC_BASE_LO", 0x241050, 1, 0x0, 1, 0x0, 0x0, 0xFFFFF000, 0x0, 0x0, 0x0, 0x0, false⟩,
  ⟨"FRM_QREC_BASE_HI", 0x241054, 1, 0x0, 1, 0x0, 0x0, 0xFFFFFFFF, 0x0, 0x0, 0x0, 0x0, false⟩,
  ⟨"FRM_QREC_CFG", 0x241058, 1, 0x0, 1, 0x0, 0xF060000, 0xF1F0007, 0x0, 0x0, 0x0, 0x0, false⟩,
  ⟨"FRM_QREC_PROD", 0x24105C, 1, 0x0, 1, 0x0, 0x0, 0x0, 0x0, 0x0, 0x0, 0x0, false⟩,
  ⟨"FRM_QREC_CONS", 0x241060, 1, 0x0, 1, 0x0, 0x0, 0xFFFFFFFF, 0x0, 0x0, 0x0, 0x0, false⟩,
  ⟨"FRM_QREC_DROP", 0x241064, 1, 0x0, 1, 0x0, 0x0, 0x0, 0x0, 0x0, 0x0, 0x0, false⟩]

/-- The registers of Table 11-8. -/
def regsT11_8 : List RegDesc := [
  ⟨"LN_STATUS", 0x310000, 8, 0x1000, 1, 0x0, 0x0, 0x0, 0x0, 0x0, 0x0, 0x0, false⟩,
  ⟨"LN_CFG", 0x310004, 8, 0x1000, 1, 0x0, 0x0, 0x0, 0xF, 0x0, 0x0, 0x0, false⟩,
  ⟨"LN_FOM", 0x310008, 8, 0x1000, 1, 0x0, 0x3FF0000, 0x0, 0x0, 0x0, 0x0, 0x0, false⟩,
  ⟨"LN_ADAPT_CFG", 0x31000C, 8, 0x1000, 1, 0x0, 0xE00110, 0x3FF03FF, 0x0, 0x0, 0x0, 0x0, false⟩,
  ⟨"LN_CTRL", 0x310010, 8, 0x1000, 1, 0x0, 0x0, 0x0, 0x0, 0x0, 0x3, 0x0, false⟩,
  ⟨"LN_LOCKS", 0x310014, 8, 0x1000, 1, 0x0, 0x0, 0x0, 0x0, 0x0, 0x0, 0x0, false⟩,
  ⟨"LN_UNLOCKS", 0x310018, 8, 0x1000, 1, 0x0, 0x0, 0x0, 0x0, 0x0, 0x0, 0x0, false⟩,
  ⟨"LN_FREEZES", 0x31001C, 8, 0x1000, 1, 0x0, 0x0, 0x0, 0x0, 0x0, 0x0, 0x0, false⟩,
  ⟨"LN_ACQ_FAILS", 0x310020, 8, 0x1000, 1, 0x0, 0x0, 0x0, 0x0, 0x0, 0x0, 0x0, false⟩,
  ⟨"LN_COEF_ADDR", 0x310024, 8, 0x1000, 1, 0x0, 0x0, 0x7F, 0x0, 0x0, 0x0, 0x0, false⟩,
  ⟨"LN_COEF_DATA", 0x310028, 8, 0x1000, 1, 0x0, 0x0, 0x0, 0x0, 0x0, 0x0, 0x0, false⟩,
  ⟨"LN_OPT", 0x310030, 8, 0x1000, 1, 0x0, 0x0, 0x0, 0x0, 0x0, 0x0, 0x0, false⟩,
  ⟨"LN_OPT_BIAS", 0x310034, 8, 0x1000, 1, 0x0, 0x0, 0x0, 0x0, 0x0, 0x0, 0x0, false⟩,
  ⟨"LN_FOM_HIST", 0x310040, 8, 0x1000, 16, 0x4, 0x0, 0x0, 0x0, 0x0, 0x0, 0x0, false⟩,
  ⟨"LN_PRBS_CTRL", 0x310080, 8, 0x1000, 1, 0x0, 0x0, 0x0, 0xFF, 0x0, 0x0, 0x0, false⟩,
  ⟨"LN_PRBS_STAT", 0x310084, 8, 0x1000, 1, 0x0, 0x0, 0x0, 0x0, 0x0, 0x0, 0x0, false⟩,
  ⟨"LN_PRBS_ERR_LO", 0x310088, 8, 0x1000, 1, 0x0, 0x0, 0x0, 0x0, 0x0, 0x0, 0x0, false⟩,
  ⟨"LN_PRBS_ERR_HI", 0x31008C, 8, 0x1000, 1, 0x0, 0x0, 0x0, 0x0, 0x0, 0x0, 0x0, false⟩,
  ⟨"LN_PRBS_BITS_LO", 0x310090, 8, 0x1000, 1, 0x0, 0x0, 0x0, 0x0, 0x0, 0x0, 0x0, false⟩,
  ⟨"LN_PRBS_BITS_HI", 0x310094, 8, 0x1000, 1, 0x0, 0x0, 0x0, 0x0, 0x0, 0x0, 0x0, false⟩,
  ⟨"LN_INJ_CFG", 0x310098, 8, 0x1000, 1, 0x0, 0x0, 0x0, 0xFF03FFFF, 0x0, 0x0, 0x0, false⟩,
  ⟨"LN_INJ_INTERVAL", 0x31009C, 8, 0x1000, 1, 0x0, 0x0, 0x0, 0xFFFFFF, 0x0, 0x0, 0x0, false⟩,
  ⟨"LN_INJ_DONE", 0x3100A0, 8, 0x1000, 1, 0x0, 0x0, 0x0, 0x0, 0x0, 0x0, 0x0, false⟩,
  ⟨"LN_SLIP", 0x3100A4, 8, 0x1000, 1, 0x0, 0x0, 0x0, 0x0, 0x0, 0x0, 0x0, false⟩,
  ⟨"LN_RAW", 0x3100B0, 8, 0x1000, 4, 0x4, 0x0, 0x0, 0x0, 0x0, 0x0, 0x0, false⟩,
  ⟨"LN_MOD_CFG", 0x318000, 2, 0x100, 1, 0x0, 0x0, 0x7, 0x0, 0x0, 0x0, 0x0, false⟩,
  ⟨"LN_MOD_STATUS", 0x318004, 2, 0x100, 1, 0x0, 0x0, 0x0, 0x0, 0x0, 0x0, 0x0, false⟩,
  ⟨"LN_MOD_MON", 0x318008, 2, 0x100, 1, 0x0, 0x0, 0x0, 0x0, 0x0, 0x0, 0x0, false⟩,
  ⟨"LN_MOD_XFER", 0x31800C, 2, 0x100, 1, 0x0, 0x0, 0x7FFFF0FF, 0x0, 0x0, 0x80000000, 0x0, false⟩,
  ⟨"LN_MOD_XDATA", 0x318010, 2, 0x100, 1, 0x0, 0x0, 0xFFFFFFFF, 0x0, 0x0, 0x0, 0x0, false⟩,
  ⟨"LN_MOD_XSTAT", 0x318014, 2, 0x100, 1, 0x0, 0x0, 0x0, 0x0, 0x0, 0x0, 0x0, false⟩,
  ⟨"LN_MOD_FLAGS", 0x318018, 2, 0x100, 1, 0x0, 0x0, 0x0, 0x0, 0x0, 0x0, 0x0, false⟩]

/-- The registers of Table 12-6. -/
def regsT12_6 : List RegDesc := [
  ⟨"CAS_CFG", 0x320000, 1, 0x0, 1, 0x0, 0x0, 0x0, 0xFFFF3E03, 0x0, 0x0, 0x0, true⟩,
  ⟨"CAS_ARRAY", 0x320004, 1, 0x0, 1, 0x0, 0x0, 0x0, 0x3F1F, 0x0, 0x0, 0x0, true⟩,
  ⟨"CAS_STATUS", 0x320008, 1, 0x0, 1, 0x0, 0x0, 0x0, 0x0, 0x0, 0x0, 0x0, false⟩,
  ⟨"CAS_LOAD", 0x32000C, 1, 0x0, 1, 0x0, 0x0, 0x0, 0x0, 0x0, 0x0, 0x0, false⟩,
  ⟨"CAS_STAGE", 0x320010, 1, 0x0, 1, 0x0, 0x0, 0x0, 0x0, 0x0, 0x0, 0x0, false⟩,
  ⟨"CAS_PSUM_VOID_TX", 0x320014, 1, 0x0, 1, 0x0, 0x0, 0x0, 0x0, 0x0, 0x0, 0x0, false⟩,
  ⟨"CAS_STAGE_LATE", 0x320018, 1, 0x0, 1, 0x0, 0x0, 0x0, 0x0, 0x0, 0x0, 0x0, false⟩,
  ⟨"CAS_NOCOMMIT", 0x32001C, 1, 0x0, 1, 0x0, 0x0, 0x0, 0x0, 0x0, 0x0, 0x0, false⟩,
  ⟨"CAS_REVERSALS", 0x320020, 1, 0x0, 1, 0x0, 0x0, 0x0, 0x0, 0x0, 0x0, 0x0, false⟩,
  ⟨"CAS_P_STATUS", 0x320100, 4, 0x20, 1, 0x0, 0x0, 0x0, 0x0, 0x0, 0x0, 0x0, false⟩,
  ⟨"CAS_P_CRC", 0x320104, 4, 0x20, 1, 0x0, 0x0, 0x0, 0x0, 0x0, 0x0, 0x0, false⟩,
  ⟨"CAS_P_SKEW", 0x320108, 4, 0x20, 1, 0x0, 0x0, 0x0, 0x0, 0x0, 0x0, 0x0, false⟩,
  ⟨"CAS_P_DOWNS", 0x32010C, 4, 0x20, 1, 0x0, 0x0, 0x0, 0x0, 0x0, 0x0, 0x0, false⟩,
  ⟨"CAS_P_PEAK", 0x320110, 4, 0x20, 1, 0x0, 0x0, 0x0, 0x0, 0x0, 0x0, 0x0, false⟩]

/-- The registers of Table 13-13. -/
def regsT13_13 : List RegDesc := [
  ⟨"LE_STATUS", 0x400000, 16, 0x10000, 1, 0x0, 0x0, 0x0, 0x0, 0x0, 0x0, 0x0, false⟩,
  ⟨"LE_ROLE", 0x400004, 16, 0x10000, 1, 0x0, 0x5, 0x0, 0x7, 0x0, 0x0, 0x0, false⟩,
  ⟨"LE_KERNEL", 0x400008, 16, 0x10000, 1, 0x0, 0x0, 0x0, 0x0, 0x0, 0x0, 0x0, false⟩,
  ⟨"LE_DECL", 0x40000C, 16, 0x10000, 1, 0x0, 0x0, 0x0, 0x0, 0x0, 0x0, 0x0, false⟩,
  ⟨"LE_CYCLES", 0x400010, 16, 0x10000, 1, 0x0, 0x0, 0x0, 0x0, 0x0, 0x0, 0x0, false⟩,
  ⟨"LE_OVR", 0x400014, 16, 0x10000, 1, 0x0, 0x0, 0x0, 0x0, 0x0, 0x0, 0x0, false⟩,
  ⟨"LE_DONE", 0x400018, 16, 0x10000, 1, 0x0, 0x0, 0x0, 0x0, 0x0, 0x0, 0x0, false⟩,
  ⟨"LE_OUT_STAMP", 0x40001C, 16, 0x10000, 1, 0x0, 0x0, 0x0, 0x0, 0x0, 0x0, 0x0, false⟩,
  ⟨"LE_PC", 0x400020, 16, 0x10000, 1, 0x0, 0x0, 0x0, 0x0, 0x0, 0x0, 0x0, false⟩,
  ⟨"LE_IRQ", 0x400024, 16, 0x10000, 1, 0x0, 0x0, 0x0, 0x0, 0x0, 0x0, 0x0, false⟩,
  ⟨"LE_RUN_TICKS", 0x400028, 16, 0x10000, 1, 0x0, 0x0, 0x0, 0x0, 0x0, 0x0, 0x0, false⟩,
  ⟨"LE_ECC_CORR", 0x40002C, 16, 0x10000, 1, 0x0, 0x0, 0x0, 0x0, 0x0, 0x0, 0x0, false⟩,
  ⟨"LE_MEM_ADDR", 0x400030, 16, 0x10000, 1, 0x0, 0x0, 0xC000FFFF, 0x0, 0x0, 0x0, 0x0, false⟩,
  ⟨"LE_MEM_DATA", 0x400034, 16, 0x10000, 1, 0x0, 0x0, 0x0, 0xFFFFFFFF, 0x0, 0x0, 0x0, false⟩,
  ⟨"CLM_ADDR", 0x500000, 1, 0x0, 1, 0x0, 0x0, 0xFFFFF, 0x0, 0x0, 0x0, 0x0, false⟩,
  ⟨"CLM_DATA", 0x500004, 1, 0x0, 1, 0x0, 0x0, 0x0, 0xFFFFFFFF, 0x0, 0x0, 0x0, false⟩,
  ⟨"CLM_ECC_CORR", 0x500008, 1, 0x0, 1, 0x0, 0x0, 0x0, 0x0, 0x0, 0x0, 0x0, false⟩,
  ⟨"CLM_ECC_UNCORR", 0x50000C, 1, 0x0, 1, 0x0, 0x0, 0x0, 0x0, 0x0, 0x0, 0x0, false⟩,
  ⟨"LE_TAKEOVERS", 0x500010, 1, 0x0, 1, 0x0, 0x0, 0x0, 0x0, 0x0, 0x0, 0x0, false⟩,
  ⟨"LE_SPARES", 0x500014, 1, 0x0, 1, 0x0, 0x0, 0x0, 0x0, 0x0, 0x0, 0x0, false⟩]

/-- The registers of Table 14-8. -/
def regsT14_8 : List RegDesc := [
  ⟨"DMA_STATUS", 0x80000, 1, 0x0, 1, 0x0, 0x0, 0x0, 0x0, 0x0, 0x0, 0x0, false⟩,
  ⟨"DMA_TIMEOUT", 0x80004, 1, 0x0, 1, 0x0, 0x32, 0x3FFF, 0x0, 0x0, 0x0, 0x0, false⟩,
  ⟨"DMA_IRQ_STAT", 0x80008, 1, 0x0, 1, 0x0, 0x0, 0x0, 0x0, 0xFFFFFFFF, 0x0, 0x0, false⟩,
  ⟨"DMA_IRQ_EN", 0x8000C, 1, 0x0, 1, 0x0, 0x0, 0xFFFFFFFF, 0x0, 0x0, 0x0, 0x0, false⟩,
  ⟨"DMA_CH_CTRL", 0x80100, 16, 0x40, 1, 0x0, 0x4000, 0x7F00, 0x0, 0x0, 0x1, 0x0, false⟩,
  ⟨"DMA_CH_HEAD_LO", 0x80104, 16, 0x40, 1, 0x0, 0x0, 0xFFFFFFE0, 0x0, 0x0, 0x0, 0x0, false⟩,
  ⟨"DMA_CH_HEAD_HI", 0x80108, 16, 0x40, 1, 0x0, 0x0, 0xFFFF, 0x0, 0x0, 0x0, 0x0, false⟩,
  ⟨"DMA_CH_DOORBELL", 0x8010C, 16, 0x40, 1, 0x0, 0x0, 0x0, 0x0, 0x0, 0x0, 0x1, false⟩,
  ⟨"DMA_CH_STATUS", 0x80110, 16, 0x40, 1, 0x0, 0x0, 0x0, 0x0, 0x0, 0x0, 0x0, false⟩,
  ⟨"DMA_CH_ERR", 0x80114, 16, 0x40, 1, 0x0, 0x0, 0x0, 0x0, 0x0, 0x0, 0x0, false⟩,
  ⟨"DMA_CH_CUR_LO", 0x80118, 16, 0x40, 1, 0x0, 0x0, 0x0, 0x0, 0x0, 0x0, 0x0, false⟩,
  ⟨"DMA_CH_CUR_HI", 0x8011C, 16, 0x40, 1, 0x0, 0x0, 0x0, 0x0, 0x0, 0x0, 0x0, false⟩,
  ⟨"DMA_CH_DONE_BYTES", 0x80120, 16, 0x40, 1, 0x0, 0x0, 0x0, 0x0, 0x0, 0x0, 0x0, false⟩,
  ⟨"DMA_CH_DESC_COUNT", 0x80124, 16, 0x40, 1, 0x0, 0x0, 0x0, 0x0, 0x0, 0x0, 0x0, false⟩,
  ⟨"DMA_CH_LAST_TAG", 0x80128, 16, 0x40, 1, 0x0, 0x0, 0x0, 0x0, 0x0, 0x0, 0x0, false⟩,
  ⟨"DMA_CH_MAXCHAIN", 0x8012C, 16, 0x40, 1, 0x0, 0x10000, 0xFFFFFF, 0x0, 0x0, 0x0, 0x0, false⟩,
  ⟨"DMA_CH_TIMEOUTS", 0x80130, 16, 0x40, 1, 0x0, 0x0, 0x0, 0x0, 0x0, 0x0, 0x0, false⟩,
  ⟨"DMA_CH_CRC", 0x80134, 16, 0x40, 1, 0x0, 0x0, 0x0, 0x0, 0x0, 0x0, 0x0, false⟩]

/-- The registers of Table 15-10. -/
def regsT15_10 : List RegDesc := [
  ⟨"CLK_STATUS", 0x20000, 1, 0x0, 1, 0x0, 0x420, 0x0, 0x0, 0x0, 0x0, 0x0, false⟩,
  ⟨"CLK_CFG", 0x20004, 1, 0x0, 1, 0x0, 0x2, 0x2, 0x1, 0x0, 0x0, 0x0, false⟩,
  ⟨"CLK_OP", 0x20008, 1, 0x0, 1, 0x0, 0x2, 0x0, 0x3, 0x0, 0x0, 0x0, true⟩,
  ⟨"CLK_SYNC", 0x2000C, 1, 0x0, 1, 0x0, 0x0, 0x7F, 0x0, 0x200, 0xC00, 0x0, false⟩,
  ⟨"CLK_TSYNC_ERR", 0x20010, 1, 0x0, 1, 0x0, 0x0, 0x0, 0x0, 0x0, 0x0, 0x0, false⟩,
  ⟨"CLK_LOSS", 0x20014, 1, 0x0, 1, 0x0, 0x0, 0x0, 0x0, 0x0, 0x0, 0x0, false⟩,
  ⟨"CLK_SAFE_COUNT", 0x20018, 1, 0x0, 1, 0x0, 0x0, 0x0, 0x0, 0x0, 0x0, 0x0, false⟩,
  ⟨"CLK_CLKMON", 0x20020, 1, 0x0, 1, 0x0, 0x0, 0x0, 0x801FFFFF, 0x0, 0x0, 0x0, true⟩,
  ⟨"CLK_RCVDIV", 0x20024, 1, 0x0, 1, 0x0, 0x153, 0x0, 0x800003FF, 0x0, 0x0, 0x0, true⟩,
  ⟨"CLK_BAND_ADDR", 0x20030, 1, 0x0, 1, 0x0, 0x0, 0x1FF, 0x0, 0x0, 0x0, 0x0, false⟩,
  ⟨"CLK_BAND_DATA", 0x20034, 1, 0x0, 1, 0x0, 0x0, 0x0, 0x0, 0x0, 0x0, 0x0, false⟩,
  ⟨"CLK_LOOP_STATUS", 0x20040, 8, 0x10, 1, 0x0, 0x0, 0x0, 0x0, 0x0, 0x0, 0x0, false⟩,
  ⟨"CLK_LOOP_CFG", 0x20044, 8, 0x10, 1, 0x0, 0x1, 0x0, 0x3, 0x0, 0x0, 0x0, false⟩,
  ⟨"CLK_LOOP_PHERR", 0x20048, 8, 0x10, 1, 0x0, 0x0, 0x0, 0x0, 0x0, 0x0, 0x0, false⟩,
  ⟨"CLK_LOOP_UNLOCKS", 0x2004C, 8, 0x10, 1, 0x0, 0x0, 0x0, 0x0, 0x0, 0x0, 0x0, false⟩,
  ⟨"CLK_GATE_OPEN", 0x20200, 6, 0x4, 1, 0x0, 0x0, 0x0, 0x0, 0x0, 0x0, 0x0, false⟩,
  ⟨"CLK_GATE_PIN", 0x20220, 6, 0x4, 1, 0x0, 0x0, 0x0, 0xFFFFFFFF, 0x0, 0x0, 0x0, false⟩,
  ⟨"CLK_GATE_REFUSED", 0x20240, 1, 0x0, 1, 0x0, 0x0, 0x0, 0x0, 0x0, 0x0, 0x0, false⟩]

/-- The registers of Table 16-6. -/
def regsT16_6 : List RegDesc := [
  ⟨"TIM_STATUS", 0x30000, 1, 0x0, 1, 0x0, 0x0, 0x0, 0x0, 0x0, 0x0, 0x0, false⟩,
  ⟨"TIM_CTRL", 0x30004, 1, 0x0, 1, 0x0, 0x0, 0x0, 0x0, 0x0, 0x1, 0x0, false⟩,
  ⟨"TIM_SNAP_FRC_LO", 0x30008, 1, 0x0, 1, 0x0, 0x0, 0x0, 0x0, 0x0, 0x0, 0x0, false⟩,
  ⟨"TIM_SNAP_FRC_HI", 0x3000C, 1, 0x0, 1, 0x0, 0x0, 0x0, 0x0, 0x0, 0x0, 0x0, false⟩,
  ⟨"TIM_SNAP_SEC_LO", 0x30010, 1, 0x0, 1, 0x0, 0x0, 0x0, 0x0, 0x0, 0x0, 0x0, false⟩,
  ⟨"TIM_SNAP_SEC_HI", 0x30014, 1, 0x0, 1, 0x0, 0x0, 0x0, 0x0, 0x0, 0x0, 0x0, false⟩,
  ⟨"TIM_SNAP_NS", 0x30018, 1, 0x0, 1, 0x0, 0x0, 0x0, 0x0, 0x0, 0x0, 0x0, false⟩,
  ⟨"TIM_SNAP_SUB", 0x3001C, 1, 0x0, 1, 0x0, 0x0, 0x0, 0x0, 0x0, 0x0, 0x0, false⟩,
  ⟨"TIM_OFFSET", 0x30020, 3, 0x4, 1, 0x0, 0x0, 0x0, 0xFFFFFFFF, 0x0, 0x0, 0x0, false⟩,
  ⟨"TIM_RATE_LO", 0x30030, 1, 0x0, 1, 0x0, 0xD5555555, 0x0, 0xFFFFFFFF, 0x0, 0x0, 0x0, false⟩,
  ⟨"TIM_RATE_HI", 0x30034, 1, 0x0, 1, 0x0, 0x208, 0x0, 0xFFFF, 0x0, 0x0, 0x0, false⟩,
  ⟨"TIM_JUMP", 0x30038, 1, 0x0, 1, 0x0, 0x3E8, 0xFFFFFFFF, 0x0, 0x0, 0x0, 0x0, false⟩,
  ⟨"TIM_JUMP_REFUSED", 0x3003C, 1, 0x0, 1, 0x0, 0x0, 0x0, 0x0, 0x0, 0x0, 0x0, false⟩,
  ⟨"TIM_STEPS", 0x30040, 1, 0x0, 1, 0x0, 0x0, 0x0, 0x0, 0x0, 0x0, 0x0, false⟩,
  ⟨"TIM_PTP_CFG", 0x30044, 1, 0x0, 1, 0x0, 0x180000, 0xC0FFFFFF, 0x0, 0x0, 0x0, 0x0, false⟩,
  ⟨"TIM_PTP_STAT", 0x30048, 1, 0x0, 1, 0x0, 0xF, 0x0, 0x0, 0x0, 0x0, 0x0, false⟩,
  ⟨"TIM_PTP_OFS", 0x3004C, 1, 0x0, 1, 0x0, 0x0, 0x0, 0x0, 0x0, 0x0, 0x0, false⟩,
  ⟨"TIM_PTP_DELAY", 0x30050, 1, 0x0, 1, 0x0, 0x0, 0x0, 0x0, 0x0, 0x0, 0x0, false⟩,
  ⟨"TIM_ASYM", 0x30060, 8, 0x4, 1, 0x0, 0x0, 0xFFFFFFFF, 0x0, 0x0, 0x0, 0x0, false⟩,
  ⟨"TIM_RCV", 0x30080, 1, 0x0, 1, 0x0, 0x0, 0xF, 0x0, 0x0, 0x0, 0x0, false⟩,
  ⟨"TIM_ANC_HEAD", 0x30090, 1, 0x0, 1, 0x0, 0x0, 0x0, 0x0, 0x0, 0x0, 0x0, false⟩,
  ⟨"TIM_ANC_ADDR", 0x30094, 1, 0x0, 1, 0x0, 0x0, 0x7F, 0x0, 0x0, 0x0, 0x0, false⟩,
  ⟨"TIM_ANC_DATA", 0x30098, 1, 0x0, 1, 0x0, 0x0, 0x0, 0x0, 0x0, 0x0, 0x0, false⟩,
  ⟨"TIM_CMP_CTRL", 0x30100, 16, 0x20, 1, 0x0, 0x0, 0x0, 0xFFFF0700, 0x0, 0x0, 0x0, false⟩,
  ⟨"TIM_CMP_SEC_LO", 0x30104, 16, 0x20, 1, 0x0, 0x0, 0x0, 0xFFFFFFFF, 0x0, 0x0, 0x0, false⟩,
  ⟨"TIM_CMP_SEC_HI", 0x30108, 16, 0x20, 1, 0x0, 0x0, 0x0, 0xFFFF, 0x0, 0x0, 0x0, false⟩,
  ⟨"TIM_CMP_NS", 0x3010C, 16, 0x20, 1, 0x0, 0x0, 0x0, 0xFFFFFFFF, 0x0, 0x0, 0x0, false⟩,
  ⟨"TIM_CMP_PERIOD", 0x30110, 16, 0x20, 1, 0x0, 0x0, 0x0, 0xFFFFFFFF, 0x0, 0x0, 0x0, false⟩,
  ⟨"TIM_CMP_WIN", 0x30114, 16, 0x20, 1, 0x0, 0x0, 0x0, 0xFFFFFFFF, 0x0, 0x0, 0x0, false⟩,
  ⟨"TIM_CMP_TICKNO", 0x30118, 16, 0x20, 1, 0x0, 0x0, 0x0, 0xFFFFFFFF, 0x0, 0x0, 0x0, false⟩,
  ⟨"TIM_CMP_SFN", 0x3011C, 16, 0x20, 1, 0x0, 0x0, 0x0, 0x3FF, 0x0, 0x0, 0x0, false⟩]

/-- The registers of Table 17-8. -/
def regsT17_8 : List RegDesc := [
  ⟨"PWR_STATUS", 0x10000, 1, 0x0, 1, 0x0, 0x77500, 0x0, 0x0, 0x4, 0x0, 0x0, false⟩,
  ⟨"PWR_CTRL", 0x10004, 1, 0x0, 1, 0x0, 0x0, 0x0, 0x0, 0x0, 0x1, 0x0, false⟩,
  ⟨"PWR_RESET", 0x10008, 1, 0x0, 1, 0x0, 0x0, 0x0, 0x0, 0x0, 0x0, 0xFFFF, false⟩,
  ⟨"PWR_DOMAIN", 0x1000C, 1, 0x0, 1, 0x0, 0x1, 0x0, 0x0, 0x0, 0x0, 0x0, false⟩,
  ⟨"PWR_FAILED", 0x10010, 1, 0x0, 1, 0x0, 0x0, 0x0, 0x0, 0x0, 0x0, 0x0, false⟩,
  ⟨"PWR_BROWNOUT", 0x10014, 1, 0x0, 1, 0x0, 0x0, 0x0, 0x0, 0x1FFF, 0x0, 0x0, false⟩,
  ⟨"PWR_PRED", 0x10018, 1, 0x0, 1, 0x0, 0x0, 0x0, 0x0, 0x0, 0x0, 0x0, false⟩,
  ⟨"PWR_WAKE_FAIL", 0x1001C, 1, 0x0, 1, 0x0, 0x0, 0x0, 0x0, 0x0, 0x0, 0x0, false⟩,
  ⟨"PWR_TIME", 0x10020, 1, 0x0, 1, 0x0, 0x0, 0x0, 0x0, 0x0, 0x0, 0x0, false⟩,
  ⟨"PWR_CHANGE_TICK", 0x10024, 1, 0x0, 1, 0x0, 0x0, 0x0, 0x0, 0x0, 0x0, 0x0, false⟩,
  ⟨"PWR_BOOT_CFG", 0x10028, 1, 0x0, 1, 0x0, 0x3E8, 0xFFFF, 0x0, 0x0, 0x0, 0x0, false⟩]

/-- The registers of Table 18-8. -/
def regsT18_8 : List RegDesc := [
  ⟨"HK_STATUS", 0x60000, 1, 0x0, 1, 0x0, 0x0, 0x0, 0x0, 0x0, 0x0, 0x0, false⟩,
  ⟨"HK_SEQ_CFG", 0x60004, 1, 0x0, 1, 0x0, 0x0, 0x0, 0x7F, 0x0, 0x0, 0x0, false⟩,
  ⟨"HK_SEQ_ADDR", 0x60008, 1, 0x0, 1, 0x0, 0x0, 0x3F, 0x0, 0x0, 0x0, 0x0, false⟩,
  ⟨"HK_SEQ_DATA", 0x6000C, 1, 0x0, 1, 0x0, 0x0, 0x0, 0x0, 0x0, 0x0, 0x0, false⟩,
  ⟨"HK_FIFO_DATA", 0x60010, 1, 0x0, 1, 0x0, 0x0, 0x0, 0x0, 0x0, 0x0, 0x0, false⟩,
  ⟨"HK_FIFO_LEVEL", 0x60014, 1, 0x0, 1, 0x0, 0x0, 0x0, 0x0, 0x0, 0x0, 0x0, false⟩,
  ⟨"HK_FIFO_OVF", 0x60018, 1, 0x0, 1, 0x0, 0x0, 0x0, 0x0, 0x0, 0x0, 0x0, false⟩,
  ⟨"HK_FIFO_CTRL", 0x6001C, 1, 0x0, 1, 0x0, 0x0, 0x0, 0x0, 0x0, 0x1, 0x0, false⟩,
  ⟨"HK_URGENT", 0x60020, 1, 0x0, 1, 0x0, 0x0, 0x73F, 0x0, 0x0, 0x80000000, 0x0, false⟩,
  ⟨"HK_URGENT_RES", 0x60024, 1, 0x0, 1, 0x0, 0x0, 0x0, 0x0, 0x0, 0x0, 0x0, false⟩,
  ⟨"HK_AUX_PULL", 0x60028, 1, 0x0, 1, 0x0, 0x0, 0xFFFFFF, 0x0, 0x0, 0x0, 0x0, false⟩,
  ⟨"HK_AUX_OPEN", 0x6002C, 1, 0x0, 1, 0x0, 0x0, 0x0, 0x0, 0xFFF, 0x0, 0x0, false⟩,
  ⟨"HK_THERM_CFG", 0x60030, 1, 0x0, 1, 0x0, 0x7301, 0xFF01, 0x0, 0x0, 0x0, 0x0, false⟩,
  ⟨"HK_SUSPECT", 0x60034, 1, 0x0, 1, 0x0, 0x0, 0x0, 0x0, 0x0, 0x0, 0x0, false⟩,
  ⟨"HK_SENSOR_OUT", 0x60038, 1, 0x0, 1, 0x0, 0x0, 0x0, 0x0, 0x0, 0x0, 0x0, false⟩,
  ⟨"HK_TEMP", 0x60040, 25, 0x4, 1, 0x0, 0x0, 0x0, 0x0, 0x0, 0x0, 0x0, false⟩,
  ⟨"HK_SUPPLY", 0x600C0, 11, 0x4, 1, 0x0, 0x0, 0x0, 0x0, 0x0, 0x0, 0x0, false⟩,
  ⟨"HK_DOM_STAT", 0x60100, 5, 0x10, 1, 0x0, 0x2200000, 0x0, 0x0, 0x0, 0x0, 0x0, false⟩,
  ⟨"HK_DOM_RATE", 0x60104, 5, 0x10, 1, 0x0, 0x0, 0x0, 0x0, 0x0, 0x0, 0x0, false⟩]

/-- The registers of Table 18-9. -/
def regsT18_9 : List RegDesc := [
  ⟨"CAL_STATUS", 0x70000, 1, 0x0, 1, 0x0, 0x0, 0x0, 0x0, 0x0, 0x0, 0x0, false⟩,
  ⟨"CAL_XRES", 0x70004, 1, 0x0, 1, 0x0, 0x0, 0x0, 0x0, 0x0, 0x0, 0x0, false⟩,
  ⟨"CAL_POL", 0x70010, 6, 0x4, 1, 0x0, 0x83050400, 0x0, 0x8FFFFF00, 0x0, 0x0, 0x0, false⟩,
  ⟨"CAL_RUNS", 0x70030, 1, 0x0, 1, 0x0, 0x0, 0x0, 0x0, 0x0, 0x0, 0x0, false⟩,
  ⟨"CAL_DISAGREE", 0x70034, 1, 0x0, 1, 0x0, 0x0, 0x0, 0x0, 0x0, 0x0, 0x0, false⟩,
  ⟨"CAL_PREEMPT", 0x70038, 1, 0x0, 1, 0x0, 0x0, 0x0, 0x0, 0x0, 0x0, 0x0, false⟩,
  ⟨"CAL_RETIRED", 0x7003C, 1, 0x0, 1, 0x0, 0x0, 0x0, 0x0, 0x0, 0x0, 0x0, false⟩,
  ⟨"CAL_RES_ADDR", 0x70040, 1, 0x0, 1, 0x0, 0x0, 0x7FFF, 0x0, 0x0, 0x0, 0x0, false⟩,
  ⟨"CAL_RES_DATA", 0x70044, 1, 0x0, 1, 0x0, 0x0, 0x0, 0x0, 0x0, 0x0, 0x0, false⟩]

/-- The registers of Table 19-6. -/
def regsT19_6 : List RegDesc := [
  ⟨"EVR_STATUS", 0x50000, 1, 0x0, 1, 0x0, 0x0, 0x0, 0x0, 0x0, 0x0, 0x0, false⟩,
  ⟨"EVR_CTRL", 0x50004, 1, 0x0, 1, 0x0, 0x1, 0x1, 0x0, 0x0, 0x0, 0x0, false⟩,
  ⟨"EVR_FLOOR", 0x50008, 1, 0x0, 1, 0x0, 0x6303000, 0xFFFFFF00, 0x0, 0x0, 0x0, 0x0, false⟩,
  ⟨"EVR_REPLACE_CAUSE", 0x5000C, 1, 0x0, 1, 0x0, 0x0, 0x0, 0x0, 0x0, 0x0, 0x0, false⟩,
  ⟨"EVR_IRQ_STAT", 0x50010, 1, 0x0, 1, 0x0, 0x0, 0x0, 0x0, 0xF, 0x0, 0x0, false⟩,
  ⟨"EVR_IRQ_EN", 0x50014, 1, 0x0, 1, 0x0, 0x0, 0xF, 0x0, 0x0, 0x0, 0x0, false⟩,
  ⟨"EVR_NOTIFY", 0x50018, 1, 0x0, 1, 0x0, 0x0, 0x0, 0x0, 0x0, 0x0, 0x0, false⟩,
  ⟨"EVR_NOTIFY_OVF", 0x5001C, 1, 0x0, 1, 0x0, 0x0, 0x0, 0x0, 0x0, 0x0, 0x0, false⟩,
  ⟨"EVR_DROP", 0x50020, 6, 0x4, 1, 0x0, 0x0, 0x0, 0x0, 0x0, 0x0, 0x0, false⟩,
  ⟨"EVR_WIN_ADDR", 0x50040, 1, 0x0, 1, 0x0, 0x0, 0x80003FFF, 0x0, 0x0, 0x0, 0x0, false⟩,
  ⟨"EVR_WIN_DATA", 0x50044, 1, 0x0, 1, 0x0, 0x0, 0x0, 0x0, 0x0, 0x0, 0x0, false⟩,
  ⟨"EVR_WIN_STAT", 0x50048, 1, 0x0, 1, 0x0, 0x0, 0x0, 0x0, 0x0, 0x0, 0x0, false⟩,
  ⟨"EVR_POL", 0x50400, 34, 0x4, 1, 0x0, 0x0, 0xFFFFFFFF, 0x0, 0x0, 0x0, 0x0, false⟩,
  ⟨"EVR_INJ_CTRL", 0x50800, 34, 0x10, 1, 0x0, 0x0, 0x0, 0x3FFFFFFF, 0x0, 0x0, 0x0, false⟩,
  ⟨"EVR_INJ_VALUE", 0x50804, 34, 0x10, 1, 0x0, 0x0, 0x0, 0xFFFFFFFF, 0x0, 0x0, 0x0, false⟩,
  ⟨"EVR_INJ_INTERVAL", 0x50808, 34, 0x10, 1, 0x0, 0x0, 0x0, 0xFFFF, 0x0, 0x0, 0x0, false⟩,
  ⟨"EVR_INJ_DONE", 0x5080C, 34, 0x10, 1, 0x0, 0x0, 0x0, 0x0, 0x0, 0x0, 0x0, false⟩]

/-- The registers of Table 20-6. -/
def regsT20_6 : List RegDesc := [
  ⟨"REC_STATUS", 0x800000, 1, 0x0, 1, 0x0, 0x0, 0x0, 0x0, 0x0, 0x0, 0x0, false⟩,
  ⟨"REC_FIRST_TICK", 0x800004, 1, 0x0, 1, 0x0, 0x0, 0x0, 0x0, 0x0, 0x0, 0x0, false⟩,
  ⟨"REC_TICKS", 0x800008, 1, 0x0, 1, 0x0, 0x0, 0x0, 0x0, 0x0, 0x0, 0x0, false⟩,
  ⟨"REC_BYTES", 0x80000C, 1, 0x0, 1, 0x0, 0x0, 0x0, 0x0, 0x0, 0x0, 0x0, false⟩,
  ⟨"REC_RAW", 0x800010, 1, 0x0, 1, 0x0, 0x0, 0x0, 0x0, 0x0, 0x0, 0x0, false⟩,
  ⟨"REC_RPL_TICK", 0x800014, 1, 0x0, 1, 0x0, 0x0, 0x0, 0x0, 0x0, 0x0, 0x0, false⟩,
  ⟨"REC_RPL_MISMATCH", 0x800018, 1, 0x0, 1, 0x0, 0x0, 0x0, 0x0, 0x0, 0x0, 0x0, false⟩,
  ⟨"REC_RPL_FIRST", 0x80001C, 1, 0x0, 1, 0x0, 0xFFFFFFFF, 0x0, 0x0, 0x0, 0x0, 0x0, false⟩,
  ⟨"REC_RPL_WORD", 0x800020, 1, 0x0, 1, 0x0, 0x0, 0x0, 0x0, 0x0, 0x0, 0x0, false⟩]

/-- The registers of Table 21-8. -/
def regsT21_8 : List RegDesc := [
  ⟨"SEC_STATUS", 0xA0000, 1, 0x0, 1, 0x0, 0x0, 0x0, 0x0, 0x0, 0x0, 0x0, false⟩,
  ⟨"SEC_ARC", 0xA0004, 1, 0x0, 1, 0x0, 0x0, 0x0, 0x0, 0x0, 0x0, 0x0, false⟩,
  ⟨"SEC_SLOTS", 0xA0008, 1, 0x0, 1, 0x0, 0x0, 0x0, 0x0, 0x0, 0x0, 0x0, false⟩,
  ⟨"SEC_UNLOCK_LEFT", 0xA000C, 1, 0x0, 1, 0x0, 0x0, 0x0, 0x0, 0x0, 0x0, 0x0, false⟩,
  ⟨"SEC_AUTH_FAILS", 0xA0010, 1, 0x0, 1, 0x0, 0x0, 0x0, 0x0, 0x0, 0x0, 0x0, false⟩,
  ⟨"SEC_LAST_FAIL", 0xA0014, 1, 0x0, 1, 0x0, 0x0, 0x0, 0x0, 0x0, 0x0, 0x0, false⟩,
  ⟨"SEC_FW_SVN", 0xA0018, 1, 0x0, 1, 0x0, 0x0, 0x0, 0x0, 0x0, 0x0, 0x0, false⟩,
  ⟨"SEC_ID", 0xA0020, 4, 0x4, 1, 0x0, 0x0, 0x0, 0x0, 0x0, 0x0, 0x0, false⟩,
  ⟨"SEC_RECOV_CTRL", 0xA0030, 1, 0x0, 1, 0x0, 0x0, 0x0, 0x0, 0x0, 0x1, 0x0, false⟩,
  ⟨"SEC_RECOV_DATA", 0xA0034, 1, 0x0, 1, 0x0, 0x0, 0x0, 0x0, 0x0, 0x0, 0xFFFFFFFF, false⟩]

/-- The registers of Table 23-4. -/
def regsT23_4 : List RegDesc := [
  ⟨"ID_MAGIC", 0x0, 1, 0x0, 1, 0x0, 0x48554D45, 0x0, 0x0, 0x0, 0x0, 0x0, false⟩,
  ⟨"ID_PART", 0x4, 1, 0x0, 1, 0x0, 0x48556408, 0x0, 0x0, 0x0, 0x0, 0x0, false⟩,
  ⟨"ID_REV", 0x8, 1, 0x0, 1, 0x0, 0x0, 0x0, 0x0, 0x0, 0x0, 0x0, false⟩,
  ⟨"ID_FW_VERSION", 0xC, 1, 0x0, 1, 0x0, 0x0, 0x0, 0xFFFFFFFF, 0x0, 0x0, 0x0, false⟩,
  ⟨"ID_ROM_VERSION", 0x10, 1, 0x0, 1, 0x0, 0x0, 0x0, 0x0, 0x0, 0x0, 0x0, false⟩,
  ⟨"ID_MAP_VERSION", 0x14, 1, 0x0, 1, 0x0, 0x10000, 0x0, 0x0, 0x0, 0x0, 0x0, false⟩,
  ⟨"ID_DEVICE", 0x20, 4, 0x4, 1, 0x0, 0x0, 0x0, 0x0, 0x0, 0x0, 0x0, false⟩,
  ⟨"PAR_PATHS", 0x40, 1, 0x0, 1, 0x0, 0x84040, 0x0, 0x0, 0x0, 0x0, 0x0, false⟩,
  ⟨"PAR_UNITS", 0x44, 1, 0x0, 1, 0x0, 0x4100410, 0x0, 0x0, 0x0, 0x0, 0x0, false⟩,
  ⟨"PAR_LINKS", 0x48, 1, 0x0, 1, 0x0, 0x4040408, 0x0, 0x0, 0x0, 0x0, 0x0, false⟩,
  ⟨"PAR_ENGINE", 0x4C, 1, 0x0, 1, 0x0, 0x1040C, 0x0, 0x0, 0x0, 0x0, 0x0, false⟩,
  ⟨"PAR_STREAMS", 0x50, 1, 0x0, 1, 0x0, 0x20200504, 0x0, 0x0, 0x0, 0x0, 0x0, false⟩,
  ⟨"PAR_PRACH", 0x54, 1, 0x0, 1, 0x0, 0x1004, 0x0, 0x0, 0x0, 0x0, 0x0, false⟩,
  ⟨"PAR_TABLES", 0x58, 1, 0x0, 1, 0x0, 0x10000100, 0x0, 0x0, 0x0, 0x0, 0x0, false⟩,
  ⟨"PAR_EVR", 0x5C, 1, 0x0, 1, 0x0, 0x4002210, 0x0, 0x0, 0x0, 0x0, 0x0, false⟩,
  ⟨"PAR_CONTROL", 0x60, 1, 0x0, 1, 0x0, 0x100840, 0x0, 0x0, 0x0, 0x0, 0x0, false⟩,
  ⟨"PAR_MEM", 0x64, 1, 0x0, 1, 0x0, 0x8001000, 0x0, 0x0, 0x0, 0x0, 0x0, false⟩,
  ⟨"PAR_FEATURES", 0x68, 1, 0x0, 1, 0x0, 0x1F, 0x0, 0x0, 0x0, 0x0, 0x0, false⟩,
  ⟨"MAP_CTRL", 0x80, 1, 0x0, 1, 0x0, 0x0, 0x1, 0x0, 0x0, 0x0, 0x0, false⟩,
  ⟨"MAP_ERR_COUNT", 0x84, 1, 0x0, 1, 0x0, 0x0, 0x0, 0x0, 0x0, 0x0, 0x0, false⟩,
  ⟨"MAP_ERR_ADDR", 0x88, 1, 0x0, 1, 0x0, 0x0, 0x0, 0x0, 0x0, 0x0, 0x0, false⟩,
  ⟨"MAP_SCRATCH", 0x8C, 1, 0x0, 1, 0x0, 0x0, 0xFFFFFFFF, 0x0, 0x0, 0x0, 0x0, false⟩]

/-- Every register of the map, in the order of the chapters (R623: 6,724 registers in all). -/
def regTable : List RegDesc :=
  regsT02_8 ++ regsT03_10 ++ regsT04_11 ++ regsT04_12 ++ regsT05_13 ++ regsT05_14 ++ regsT05_15 ++ regsT06_9 ++ regsT07_12 ++ regsT07_13 ++ regsT08_6 ++ regsT09_8 ++ regsT10_9 ++ regsT10_10 ++ regsT11_8 ++ regsT12_6 ++ regsT13_13 ++ regsT14_8 ++ regsT15_10 ++ regsT16_6 ++ regsT17_8 ++ regsT18_8 ++ regsT18_9 ++ regsT19_6 ++ regsT20_6 ++ regsT21_8 ++ regsT23_4

end Sys2Proof.Machine
end

