-- ==== Sys2Proof/Config.lean ====
section
/-!
DEFINITION. Sys2Proof/Config.lean: what one part, one ROM or one firmware image fixes, and the free values of the spec. Each is
an opaque constant, so nothing can be proved about its value: a claim holds whatever it is.
-/
namespace Sys2Proof.Config

/-- Free values: the n-th value the spec leaves open, in the order in which the machine meets them (log entry 1). -/
opaque freeValue : Nat → Nat

/-- ID_REV bits 15:0, silicon revision major and minor (R610, R621). -/
opaque revision : Nat

/-- ID_ROM_VERSION, the boot ROM's version (R621). -/
opaque romVersion : Nat

/-- The 128-bit device ID of OTP (R81, R621). -/
opaque deviceId : Nat

/-- ETH_PTP_LAT of a port: measured per part (Table 10-9). -/
opaque ptpLatency : Nat → Nat

/-- The factory band centres: oscillator frequency [kHz] of loop and band, for the used bands b24 to b39 (R429). -/
opaque factoryBand : Nat → Nat → Nat

/-- OTP's SHA-384 of the keys of a vendor slot, as Skovaudal programs it (R568). -/
opaque slotHash : Nat → List Byte

/-- SHA-384 of bytes 0-511 of the firmware object that a slot holds from the factory (R578). -/
opaque firmwareHash : Nat → List Byte

/-- The signed object of Skovaudal's role kernel for an engine role (R386, R398): its content is not stated. -/
opaque roleObject : Nat → List Byte

/-- The kernel image in it, Table 13-9: its content is not stated. -/
opaque roleKernel : Nat → List Byte

/-- A byte of the certificate store's first MiB (R577): certificates are the device's own. -/
opaque certificate : Nat → Nat

/-- RSASSA-PSS and SLH-DSA are published algorithms whose verdicts come with the row; signatures Kraolien makes itself are
these bytes (R577, R578). -/
opaque signature : List Byte → List Byte

/-- Factory lane preset: byte of a lane's preset for a band (R328). -/
opaque factoryPreset : Nat → Nat → Nat → Nat

/-- Decision of the MLSE detector for a symbol of a tick (R321): its algorithm is not stated. -/
opaque mlse : List Int → Nat → Nat

/-- Symbol of SSPRQ, which IEEE 802.3 clause 120 defines (R333); and the register a pattern generator starts from. -/
opaque ssprq : Nat → Nat
opaque patternStart : Nat → Nat

/-- Default channel-filter coefficient of a rate code and tap, and the default OUT_SHIFT (R632): fixed per revision. -/
opaque rxCoef : Nat → Nat → Int
opaque rxShift : Nat → Int

/-- Default shaping-filter coefficient of a rate code and tap (first half), and its OUT_SHIFT (R632). -/
opaque txCoef : Nat → Nat → Int
opaque txShift : Nat → Int

/-- What the transforms' 28-bit datapath adds to the exact result of R182 [LSB of the output], by direction (true: inverse),
log2 N, FFT_SHIFT, the input and the bin or sample: `stray` holds it to Table 06-2 (log 142). -/
opaque fftStray : Bool → Nat → Nat → List (Int × Int) → Nat → Int × Int

/-- Tap [2^-24] of a stream's interpolator (R132), by rate code, output phase within a stream sample and how far back the stream
sample lies from the newest: not stated. -/
opaque interpTap : Nat → Nat → Nat → Int

/-- Stream samples that an interpolator of a rate code reaches back from its newest one: not stated. -/
opaque interpSpan : Nat → Nat

/-- A stream's band-limited kernel in Yarrow (R144) [2^-16], by its offset from the composite's centre [2^-48 of 24.576 GHz], its
bandwidth [MHz] and the distance from the pulse's peak in composite samples: not stated. -/
opaque cfrKernel : Int → Nat → Int → Int × Int

/-- Tap [2^-24] of the final interpolator (R132), by output phase of 25 and how far back the composite sample lies, and how far it
reaches: not stated. -/
opaque upTap : Nat → Nat → Int
opaque upSpan : Nat

/-- Cycles per tick that Crocus computes for Finef from its configuration word and the two loads (R627): no formula is
stated. -/
opaque cascadeReq : Nat → Nat → Nat → Nat

/-- Where a quotient that the spec does not say how to round is not exact: up, else down. Arguments: dividend and divisor. -/
opaque roundUp : Int → Nat → Bool

/-- A level in 0.01 dB, or an ACF in 0.1 dB, of a power that is 0: the logarithm of 0 is not stated (R217, R225). -/
opaque silentPower : Int

/-- Cluster byte address at which firmware lands an observation receiver's capture (R217, Table 13-5): not stated. -/
opaque captureAddr : Nat → Nat

/-- The scale of Poppy's transform, as a power of two, by SEQ, SCS and rate codes (R244): not stated. -/
opaque prachShift : Nat → Nat → Nat → Nat

/-- The clockIdentity of a part, and byte `i` of an Announce's body of a port, from its sequenceId (R466): data sets whose
values are not stated. -/
opaque clockIdentity : Nat
opaque announceBody : Nat → Nat → Nat → Nat

/-- The filterIndex that O-RAN assigns to the short formats of SEQ 2 and 3 (R285): taken from no source. -/
opaque filterIndex : Nat → Nat

/-- The noise floor of a symbol whose bins are all 0: the logarithm of 0 is not stated (R122). -/
opaque silentFloor : Int

/-- Tap [2^-24] of the band resampler (R101), by output phase of 4 and how far back the converter sample lies: its taps are fixed
and not stated. -/
opaque bandTap : Nat → Nat → Int

/-- What the resampler's 20-bit output holds for a result outside 20 bits (R101): not stated. -/
opaque bandClip : Int → Int

/-- The peak of a tick whose ADC codes are all 0 [0.1 dBFS]: the logarithm of 0 is not stated (R111). -/
opaque silentPeak : Int

/-- Converter samples that the band resampler's window reaches back from its newest one (R114): not stated. -/
opaque bandSpan : Nat

/-- What the decimator's 18-bit output holds where rounding gives 2^17 (R101): not stated. -/
opaque cicTop : Int

/-- Bytes of an input item's content in a tick record, by its type and what its length depends on (R547, R550): the
content formats are not stated. -/
opaque itemBytes : Nat → Nat → Nat

/-- Bytes of tap data per tick, by tap, unit and the payload of the unit's streams (R553): the formats are not stated. -/
opaque tapBytes : Nat → Nat → Nat → Nat

end Sys2Proof.Config
end

