-- ==== Sys2Proof/Machine/State.lean ====
section
/-!
DEFINITION. Sys2Proof/Machine/State.lean: the whole state of the HM6408 as plain data. Every architected register lives in
`regs` (with `shadow` for the shadow copies of R44); what the spec gives the block beside its registers (queues, buffers,
tables, timers, contents) stands in one structure per block. Also here: the closed reasons a step can stop, and `State.reset`.
-/
namespace Sys2Proof.Machine

/-- Stops of the machine: none. The HM6408 reports its own faults as events, statuses and register fields, which are
next states; no meaning of this model stops with a fault. The one constructor is the reason a meaning would give for an
access outside the part, which no row can name. SAFE. -/
inductive Fault where
  | outsideThePart
deriving DecidableEq, Repr

/-- Refusals. `notModelled`: raised by Dispatch alone, for a row that has no meaning yet; SAFE (the model stops where the
device goes on). -/
inductive Refusal where
  | notModelled (mnemonic : String)
deriving DecidableEq, Repr

/-! ### Commits (R44-R49, R631) -/

/-- The commit units of Table 02-9. -/
inductive CommitUnit where
  | rxPath (p : Nat)
  | txPath (p : Nat)
  | powerColumn (p column : Nat)
  | freqEntry (e : Nat)
  | frontEnd
  | beamEntry (e : Nat)
  | bfCarrier (downlink : Bool) (k : Nat)
  | ulBeam (b : Nat)
  | dlLayer (l : Nat)
  | dpd (p : Nat)
  | prach (c : Nat)
  | cmpCarrier (downlink : Bool) (k : Nat)
  | eaxcMap
  | windows
  | cascade
  | outputDividers
  | operatingPoint
  | gatingTree
deriving DecidableEq, Repr

/-! ### Crocus (R33-R43, R628) -/

/-- What Crocus holds beside its registers: the next boundary is the first one counted after RUN (R36); TSYNC aligns
TICKNO on the next boundary; what holds it in HELD (REFCLK, or PD_FAB's retention); and the dies whose samples of the open
tick are VOID (R24). -/
structure TickState where
  first    : Bool
  alignNext : Bool
  heldRef  : Bool
  heldFab  : Bool
  voidDies : List Nat
deriving DecidableEq, Repr

def TickState.init : TickState := ⟨true, false, false, false, []⟩

/-! ### Privi (R58-R90) -/

/-- Status codes of Table 03-7. -/
inductive Status where
  | ok | pending | busy | superseded | late | badOpcode | badLength | badParam | badCrc | notPermitted | locked | limit
  | resourceRetired | gateBusy | wakeFail | timeout | lateStart | authFail | internal
deriving DecidableEq, Repr

/-- What a command completes with (R60, R61, R70). -/
structure Outcome where
  status  : Status
  part    : Bool
  payload : List Byte
  tick    : Nat
deriving DecidableEq, Repr

/-- A command packet past acceptance checks 1 to 9 (Table 03-1), with its acceptance tick (R68), the tick it acts at (its
commit tick, or the earliest tick of its start, R69) and its place in acceptance order (R48). -/
structure Cmd where
  opcode  : Nat
  tag     : Nat
  flags   : Nat
  group   : Nat
  target  : Nat
  payload : List Byte
  via     : Transport
  sender  : ReplyTo
  accTick : Nat
  actTick : Nat
  seq     : Nat
deriving DecidableEq, Repr

/-- States of a result slot other than FREE (Table 03-5): a FREE slot is one not listed. -/
inductive SlotState where
  | pending | releasing | ready | read
deriving DecidableEq, Repr

/-- A result slot in use (R73, R74). `outcome` is the result of a command that has ended but whose result is not stored
yet; `degraded` and `generation` belong to the stored result. -/
structure Slot where
  tag        : Nat
  opcode     : Nat
  via        : Transport
  sender     : ReplyTo
  ackReq     : Bool
  st         : SlotState
  outcome    : Option Outcome
  generation : Nat
  degraded   : Bool
deriving DecidableEq, Repr

/-- An open atomic group (R75-R77): the transport and target that bind it, when its first member was accepted, and its
members in acceptance order. A group whose close is accepted is no longer open: it keeps its members under 2^16 plus the close's
tag until the close acts. -/
structure Group where
  id      : Nat
  via     : Transport
  target  : Nat
  opened  : Nat
  members : List Cmd
deriving DecidableEq, Repr

/-- Privi's transports and result store, beside the MBX registers. -/
structure PriviState where
  spiCmds     : List (List Byte)              -- the SPI command buffer, two packets (R64)
  spiReplies  : List (List Byte)              -- the SPI reply queue, eight replies (R64)
  spiWait     : List (List Byte)              -- SPI replies that wait for room in it (log entry 139)
  spiReads    : List (List Byte)              -- SPI result-read requests that wait for the end of a takeover (R85)
  inbPackets  : List (List Byte × ReplyTo)    -- the in-band input buffer, sixteen packets (R66)
  pcieReplies : List (List Byte)              -- PCIe replies waiting for the ring (R63)
  ringError   : Bool                          -- the producer ran more than 2^k ahead (R63)
  slots       : List Slot
  groups      : List Group
  accepted    : List Cmd                      -- accepted commands not performed yet, in acceptance order
  running     : List Cmd                      -- start commands that execute over several steps
  takenNow    : Nat                           -- packets accepted in the open tick (R67)
  served      : Transport                     -- the transport served last (R67)
  nextSeq     : Nat                           -- acceptance order of the next command (R48)
  fetchTag    : Option Nat                    -- the MBX_RES_TAG fetch in progress (R65)
  resWin      : List Byte                     -- MBX_RES_WIN's content (R89)
deriving DecidableEq, Repr

def PriviState.init : PriviState := ⟨[], [], [], [], [], [], false, [], [], [], [], 0, .inband, 0, none, []⟩

/-! ### Events and faults (R53, R54, R523-R546) -/

/-- One event: the tick it was raised in, its code and 32-bit value, its source code, its severity (R626), whether an
injection made it, and whether it counts under its detector's policy (R540). -/
structure Event where
  tick     : Nat
  code     : Nat
  value    : Nat
  source   : Nat
  sev      : Nat
  injected : Bool
  counts   : Bool
deriving DecidableEq, Repr

/-- A recorder record, Table 19-2; `valid` false is a free record. -/
structure EvRecord where
  gen        : Nat
  code       : Nat
  severity   : Nat
  valid      : Bool
  notifyPend : Bool
  injected   : Bool
  source     : Nat
  count      : Nat
  suppressed : Nat
  first      : Nat
  last       : Nat
  minVal     : Nat
  maxVal     : Nat
  value      : Nat
  hist       : List Nat
deriving DecidableEq, Repr

def EvRecord.free : EvRecord := ⟨0, 0, 0, false, false, false, 0, 0, 0, 0, 0, 0, 0, 0, [0, 0, 0, 0, 0, 0, 0, 0]⟩

/-- What EV_CONFIG_CODE sets for a code (R532-R534), its token bucket, and its notify timer. `notify` none: the default
of R534, by severity. -/
structure CodeCfg where
  notify   : Option Bool
  shift    : Nat
  rate     : Nat
  notifyMs : Nat
  tokens   : Nat      -- tokens held, in 1/3840 of a token
  refilled : Nat      -- elapsed tick of the last refill
  pushedAt : Option Nat
  due      : Bool     -- the record has changed since the code was last queued
  ovfSeen  : Bool     -- the failed push of this wait is counted
deriving DecidableEq, Repr

def CodeCfg.init : CodeCfg := ⟨none, 0, 64, 10, 64 * 3840, 0, none, false, false⟩

/-- Crocus's arbiter and Lavender, beside their registers. -/
structure EventState where
  waiting  : List Event                 -- at the sources' buffers, in the order raised (R54)
  srcDrops : List (Nat × Nat)           -- the sources' drop counts
  evseq    : Nat                        -- the next EVSEQ (R53)
  queue    : List (Event × Nat)         -- Lavender's input queue of 256 with their EVSEQ (R532)
  sram     : List (Nat × EvRecord)      -- the 1,024 SRAM records
  shadowB  : List (Nat × EvRecord)      -- the 16 shadow records (R537)
  eccBad   : List Nat                   -- SRAM words (16 * record + word) found uncorrectable
  codes    : List (Nat × CodeCfg)
  notify   : List Nat                   -- the 64-entry notify queue (R534)
  granted  : Nat                        -- source code served last: the round-robin position (R54)
  failDue  : Bool                       -- the shadow bank's first record, LOG_MEM_FAIL, is still to be written (R537)
deriving DecidableEq, Repr

def EventState.init : EventState := ⟨[], [], 0, [], [], [], [], [], [], 0, false⟩

/-- An armed injection on one detector (R540, R541); COUNT and INTERVAL are in its registers. -/
structure Injection where
  detector : Nat
  mode     : Nat
  unit     : Nat
  value    : Nat
  interval : Nat
  left     : Nat
  nextAt   : Nat
deriving DecidableEq, Repr

/-- A SYS_RESET_UNIT in progress (R530): its tag, the named unit, every unit it resets, the calibration attempts and wake
steps its tests still wait for, the units that failed with the detector that found them, and the elapsed tick it began
in. -/
structure UnitReset where
  tag    : Nat
  unit   : Nat
  units  : List Nat
  cals   : List Nat
  wakes  : List Nat
  failed : List (Nat × Nat)
  since  : Nat
deriving DecidableEq, Repr

/-- The fault manager (R523-R530). -/
structure FaultState where
  retired     : List Nat                  -- source codes of the retired units, rising
  occurred    : List (Nat × Nat × Nat)    -- (detector, unit, elapsed tick) of counted occurrences
  promoted    : List (Nat × Nat)          -- (unit, detector) to retire on the next boundary (R525)
  roleLost    : Bool                      -- R402
  coreFault   : Bool                      -- a CORE_BLOCK_FAULT has occurred
  repairDies  : List Nat                  -- dies retired by BRIDGE_REPAIR_FAIL (R25)
  wakeRetired : List Nat                  -- source codes retired by a wake failure (R489)
  injections  : List Injection
  forced      : List (Nat × Nat × Nat)    -- injections waiting for the tick's evaluation: detector, unit or block, value
  unitReset   : List UnitReset            -- SYS_RESET_UNITs in progress (R530)
  mismatchAt  : List (Nat × Nat)          -- control pair and elapsed tick of its last mismatch plus 1 (R84)
  lostPair    : Option Nat                -- the pair in reset while in TAKEOVER or SOLO
  bootWaiting : Bool                      -- that pair has booted and waits for a frame boundary (R84)
  bootFailed  : Bool                      -- that pair has failed its boot in TAKEOVER, and SOLO retires it (R84)
  lostAgain   : Bool                      -- that pair's mismatch followed another of its own within 1 s
  lost        : Bool                      -- control mode LOST
  lostLogged  : Bool                      -- CONTROL_LOST is still to be logged at the next boot
  ctlWakeFail : Bool                      -- PD_CTL failed its wake in a warm boot (R528)
  raised      : List Event                -- events raised since the open tick began (D_EV of Table 20-2)
deriving DecidableEq, Repr

def FaultState.init : FaultState := ⟨[], [], [], false, false, [], [], [], [], [], [], none, false, false, false, false, false, false, []⟩

/-! ### Clocks and power (R426-R453, R476-R497) -/

/-- The operating-point change in progress (R438): its commit tick, its target code, and the tick its ramp has ended. -/
structure OpChange where
  target  : Nat
  rampEnd : Nat
  applied : Bool
deriving DecidableEq, Repr

structure ClockState where
  bands     : List (Nat × Nat)      -- band tables by 64 * loop + band [kHz] (R429)
  attempts  : List (Nat × Nat)      -- attempts made in LOCKING, by loop (Table 15-3)
  opChange  : Option OpChange
  relocking : List (Nat × Nat)      -- (tag, loop mask) of CLK_SET_PLAN relocks in progress
  rxHoldoff : List (Nat × Nat)      -- how a die's receive samples stand to its loop, by die (R431)
  deferredTrip : List (Nat × Nat)   -- trips during the fallback count and the sources then held, logged when it completes (R445)
  laneSrc   : Bool                  -- LANECLK has been a source since the safe state was entered
  keptPhase : Bool                  -- the phase keeper still holds the divider phase (R482)
  rcvLane   : Nat                   -- the lane RCVCLK takes since the last boundary (R469)
  outs      : List Nat              -- loops whose outputs are enabled (Table 15-3)
  stuck     : List Nat              -- nodes that a PWR_GATE close left open for a busy bus (R442)
deriving DecidableEq, Repr

def ClockState.init : ClockState := ⟨[], [], none, [], [], [], false, true, 0, [], []⟩

/-- One step of a power transition (R480-R483, R488) or of bring-up (R491). -/
inductive PowerStep where
  | enterIdle | leaveIdle
  | enterQuiet | leaveQuiet
  | dozeFrontEnd | dozeDma | dozeConverters | dozeLanes | dozeFabric | dozeMemory | dozeControl
  | offAll
  | wake (domain : Nat)
  | resume
deriving DecidableEq, Repr

/-- The transition in progress, bring-up's domain enables among them (source 5): groups of steps in order; the steps of one
group run in parallel (R488). -/
structure Transition where
  source  : Nat
  target  : Nat
  tag     : Option Nat
  dropMd  : Bool
  steps   : List (List PowerStep)
  woken   : List Nat
  retired : Nat             -- mask of the domains this request retired
  begun   : Bool            -- the steps of the first group have begun (a transition waits for SEQ_BUSY, R485)
deriving DecidableEq, Repr

/-- A pending PWR_SET_STATE request (R484). -/
structure PowerRequest where
  tag    : Nat
  target : Nat
  dropMd : Bool
  inband : Bool
deriving DecidableEq, Repr

structure PowerState where
  trans     : Option Transition
  request   : Option PowerRequest
  retryOff  : List Nat             -- domains in their 100 µs off time before a retry (R489)
  failedOnce : List Nat            -- domains whose wake step failed once
  opHeld    : Nat                  -- the operating point to restore on return from QUIET or DOZE
  fallback  : Bool                 -- the fallback count has run since VAON rose
  off       : Bool                 -- OFF: the supplies are gone
  brownOff  : List Nat             -- domains in their 100 µs brown-out off time (R487)
  safePin   : Bool                 -- SAFE_N is low
  refPresent  : Bool               -- the REFCLK input toggles
  lanePresent : Bool               -- the LANECLK input toggles
  quietAt   : Bool                 -- the QUIET actions of R480 are in force
  idleGate  : Bool                 -- IDLE's per-tick gating is in force (R479)
  quietDue  : Option Bool          -- the QUIET actions begin or end on the next boundary
  gateDue   : Option Bool          -- IDLE's gating begins or ends on the next boundary
  dmaHold   : Bool                 -- Clematis's channels are paused, from DOZE's step to the return's (R422)
  frontLow  : Bool                 -- DOZE has driven the front-end outputs low (R481)
  repair    : List (Nat × List Nat) -- bridge repair maps by 2 * link + direction: the n-th failed signal is carried by spare n (R25)
deriving DecidableEq, Repr

def PowerState.init : PowerState :=
  ⟨none, none, [], [], 2, false, false, [], false, true, true, false, false, none, none, false, false, []⟩

/-! ### Aster time (R454-R475) -/

/-- An anchor entry, Table 16-3. -/
structure Anchor where
  evseq   : Nat
  tickno  : Nat
  sfn     : Nat
  flags   : Nat
  sec     : Nat
  ns      : Nat
  sub     : Nat
  seq     : Nat
deriving DecidableEq, Repr

def Anchor.blank : Anchor := ⟨0, 0, 0, 0, 0, 0, 0, 0⟩

structure TimeState where
  frc      : Nat                     -- FRC at the boundary that opened the current tick (R454)
  anchors  : List (Nat × Anchor)     -- the 16-entry ring
  written  : Nat                     -- anchors written since reset; the next anchor sequence
  stepped  : Bool                    -- a step or offset change since the last anchor (Table 16-3 STEP)
  loads    : List Nat                -- ACTION 4 comparators that fired before the next boundary (R464)
  pulses   : List (Nat × Nat)        -- comparators whose pulse is high, each with its outputs: a mask of GPIOs, bit 16 PPS_OUT
  inWindow : Nat                     -- consecutive servo updates with |offset| < 100 ns (R468)
  parent   : Option Nat              -- the servo's parent port, as in TIM_PTP_STAT
  ptpSeq   : List (Nat × Nat)        -- next sequenceId of the device's own PTP messages, by 16 * port + message type
  ptpRx    : List (Nat × (Nat × List Byte))   -- newest PTP message received of a type, by 16 * port + type, after its ingress timestamp (R303)
  ptpTx    : List (Nat × (Nat × Nat))   -- last Delay_Req sent, by port: its sequenceId and egress timestamp
deriving DecidableEq, Repr

def TimeState.init : TimeState := ⟨0, [], 0, false, [], [], 0, none, [], [], []⟩

/-! ### Housekeeping, temperature, calibration (R498-R522) -/

/-- An entry of the sequence table (R499); `repeats` is REPEAT - 1. -/
structure SeqEntry where
  channel : Nat
  repeats : Nat
  settle  : Nat
  avg     : Nat
deriving DecidableEq, Repr

/-- A result in the FIFO (R502). -/
structure HkResult where
  channel : Nat
  seq     : Nat
  value   : Nat
  isOpen  : Bool
deriving DecidableEq, Repr

/-- Hollyhock's record of one temperature domain (R506-R508). -/
structure DomainHist where
  temps    : List Int     -- the last 16 temperatures, oldest first [1/128 °C]
  valid    : List Nat     -- the sensors that were valid in the last round
  steep    : Nat          -- consecutive rounds with a slope of at least 2 °C/s
  flat     : Nat          -- consecutive rounds with a slope below 2 °C/s
deriving DecidableEq, Repr

def DomainHist.init : DomainHist := ⟨[], [], 0, 0⟩

structure HkState where
  table    : List SeqEntry
  newTable : Option (List SeqEntry × Bool)   -- HK_LOAD_SEQUENCE, taken up when the conversion ends (R518)
  owed     : Nat                             -- results the current entry has produced
  seqNo    : Nat
  fifo     : List HkResult
  devRounds : List (Nat × Nat)               -- rounds in a row a sensor differed from its median (R505)
  okRounds : List (Nat × Nat)                -- rounds in a row a suspect sensor agreed
  supplyBad : List (Nat × Nat)               -- rounds in a row a supply was outside its window (R504)
  domains  : List (Nat × DomainHist)
  highOn   : Bool                            -- THERMAL_HIGH raised and not re-armed (R509)
  limitOn  : Bool
deriving DecidableEq, Repr

def HkState.init : HkState := ⟨[], none, 0, 0, [], [], [], [], [], false, false⟩

/-- States of a calibration attempt (Table 18-5). -/
inductive CalPhase where
  | idle | due | running | holdoff | retired
deriving DecidableEq, Repr

/-- Why an attempt is due (R512), in the order of R513. -/
inductive CalCause where
  | command | firstGroup | preempted | temperature | bringUp
deriving DecidableEq, Repr

/-- One attempt: a unit, item and group (R511, R515). -/
structure CalEntry where
  phase   : CalPhase
  cause   : CalCause
  fore    : Bool           -- foreground: R513 does not apply
  valid   : Bool           -- an agreed result exists
  result  : List Int       -- its components
  staged  : Option (List Int) -- a result that takes effect on the next boundary
  temp    : Int            -- temperature of the last agreed result [1/128 °C]
  nowTemp : Int            -- temperature recorded when the attempt started
  count   : Nat            -- disagreement count
  runs    : List (List Int) -- runs of the attempt in progress
  since   : Nat            -- elapsed tick at which the attempt became DUE, or left RUNNING for HOLDOFF
  moved   : Int            -- temperature moved, for the order of R513
  starved : Bool
  scale   : Nat            -- TOL_SCALE as it stood when the attempt started
deriving DecidableEq, Repr

def CalEntry.init : CalEntry :=
  ⟨.idle, .temperature, false, false, [], none, 0, 0, 0, [], 0, 0, false, 4⟩

/-- A CAL_RUN in progress (R516): its tag, the attempts it waits for, its start, and the units that disagreed or were
retired so far. -/
structure CalCommand where
  tag       : Nat
  keys      : List Nat
  started   : Nat
  disagreed : Nat
  retired   : Nat
  part      : Nat
deriving DecidableEq, Repr

structure CalState where
  entries  : List (Nat × CalEntry)    -- by 4096 * item + 64 * unit + group
  commands : List CalCommand
deriving DecidableEq, Repr

def CalState.init : CalState := ⟨[], []⟩

/-! ### Security (R567-R584) -/

/-- State of an OTP key slot (R568). -/
inductive KeySlot where
  | empty | programmed | revoked
deriving DecidableEq, Repr

/-- An object being staged by SEC_INSTALL_IMAGE (R575). -/
structure Staging where
  kind   : Nat
  length : Nat
  data   : List (Nat × Byte)
deriving DecidableEq, Repr

/-- Steps of an activation in progress (R576). -/
inductive ActPhase where
  | restart23 | restart01
deriving DecidableEq, Repr

structure Activation where
  tag     : Nat
  advance : Bool
  phase   : ActPhase
  version : Nat
  svn     : Nat
deriving DecidableEq, Repr

structure SecState where
  keys       : List KeySlot            -- the eight key slots
  keyHash    : List (Nat × List Byte)  -- SHA-384 of each slot's keys
  arc        : Nat                     -- the anti-rollback count c (R574)
  rom        : RomFinding              -- what the boot ROM finds in the boot flash (R572)
  active     : Nat                     -- the slot the control record names
  runHead    : List Byte               -- bytes 0-511 of the running firmware object; empty: the factory's
  fwObjects  : List (Nat × List Byte)  -- firmware objects SEC_INSTALL_IMAGE has stored, by slot
  kernels    : List (Nat × List Byte)  -- kernel store entries 0-15
  staging    : Option Staging
  recovery   : Bool                    -- the ROM is in recovery (R573)
  recovBuf   : List Byte               -- the recovery object so far
  reinstalled : Bool                   -- firmware stored since the start from recovery (R573)
  activation : Option Activation
  report     : List Byte               -- the attestation report
  measure    : List Byte               -- configuration measurement C (R578)
  measured   : Nat                     -- configuration count
  challenge  : Option (List Byte)
  unlockUntil : Nat                    -- elapsed tick at which the unlock in force ends (R580)
  challengeAt : Nat                    -- elapsed tick of the outstanding challenge
  token      : List (Nat × Byte)       -- staged token bytes
  tokenLen   : Nat
deriving DecidableEq, Repr

def SecState.init : SecState :=
  ⟨[.programmed, .programmed, .programmed, .programmed, .empty, .empty, .empty, .empty], [], 0, RomFinding.normal, 0, [], [], [], none,
   false, [], true, none, [], List.replicate 48 0, 0, none, 0, 0, [], 0⟩


/-! ### Receive paths (R91-R131) -/

/-- A sample with its qualifier (R115): VALID, SETTLING, CLIPPED, VOID. -/
inductive Qual where
  | valid | settling | clipped | void
deriving DecidableEq, Repr

structure RxSample where
  v : Cplx
  q : Qual
deriving DecidableEq, Repr

/-- What one receive stream holds between ticks: its mixed samples of the last tick, as amplitude [1/16 ADC LSB] and phase
[2^-48 turn], which the band resampler still sees; the decimator's integrators and combs (R101); and the last `T - 1` samples
of the channel filter, newest first (R106). -/
structure RxStream where
  mixed : List (Int × Nat)
  integ : List Cplx
  comb  : List Cplx
  hist  : List RxSample
deriving DecidableEq, Repr

def RxStream.init : RxStream := ⟨[], [], [], []⟩

/-- Receive paths and quads beside their registers. Streams are keyed by 4 * path + stream. -/
structure RxState where
  streams : List (Nat × RxStream)
  dc      : List (Nat × Int × Int)       -- a path's DC estimate [1/16 ADC LSB], and what it holds below that unit (R97)
  ovr     : List (Nat × List Nat)        -- a path's converter samples of the last tick that overranged (R114)
  entry   : List (Nat × Nat)             -- active frequency entry of a path
  nco     : List (Nat × Nat)             -- phase accumulators at the boundary: receive streams, and 256 + transmit streams (R100)
  filters : List (Nat × List Int)        -- coefficients loaded by PATH_LOAD_FILTER; a stream not listed has the default filter
  restart : List (Nat × Nat)             -- the tick a STOPPED quad restarts at (R108)
  stepped : List Nat                     -- paths whose attenuator stepped on the boundary that opened this tick
  reload  : List Nat                     -- paths whose converter part is VOID in this tick
  flush   : List Nat                     -- quads whose receive front overran in this tick: its histories are flushed (Table 02-4)
  lowRun  : List (Nat × Nat)             -- consecutive low gap ticks of a path (Table 04-5)
  loopNext : List (Nat × Nat)            -- attenuation a loop has decided for the next boundary (R111)
  lowWas  : List (Nat × Nat)             -- 1 + low gap ticks of a path before its loop's row in this tick (log 178)
  clipSlot : List (Nat × Nat)            -- CLIPPED samples of a path in its slot while FROZEN (R114)
  floors  : List (Nat × List Int)        -- the last 16 noise-floor measurements of a path (R122)
  aligned : List (Nat × List RxSample)   -- what the alignment stage released for the last tick (R105)
deriving DecidableEq, Repr

def RxState.init : RxState := ⟨[], [], [], [], [], [], [], [], [], [], [], [], [], [], [], []⟩

/-! ### Transmit paths (R132-R176) -/

/-- A power-table entry, Table 05-4. -/
structure PowerEntry where
  backoff : Nat
  dacCur  : Nat
  padrv   : Nat
  expGain : Int
deriving DecidableEq, Repr

def PowerEntry.init : PowerEntry := ⟨4000, 0, 0, 0⟩

/-- A frequency entry, Table 05-6. -/
structure FreqEntry where
  rx      : List Nat
  tx      : List Nat
  calGroup : Nat
  dpdSet  : Nat
  defined : Bool
deriving DecidableEq, Repr

def FreqEntry.undefined : FreqEntry := ⟨[0, 0, 0, 0], [0, 0, 0, 0], 0, 0, false⟩

/-- Readiness of a transmit path (Table 05-7); `voids`: DL air ticks VOID so far in this wait. -/
inductive Ready where
  | ready
  | pllWait (voids : Nat)
  | cal
deriving DecidableEq, Repr

/-- A LATE_START decision that is open (R162): the command, what it completes with if no path is late, the paths still to
decide with the VOID DL air ticks each has met and its first DL air tick, and the late paths so far with the latest first
settled air tick and the largest count of VOID DL air ticks. -/
structure LateWait where
  tag     : Nat
  outcome : Outcome
  waiting : List (Nat × Nat × Nat)
  settled : Nat
  voids   : Nat
  mask    : Nat
deriving DecidableEq, Repr

/-- What a 3,840-tick window of Yarrow has measured (R148): per stream the mean and the largest EVM cost [0.01 %], the PAPR
[0.01 dB], and the PAPR-miss ticks. -/
structure CfrReport where
  evm    : List (Nat × Nat)
  papr   : Int
  misses : Nat
deriving DecidableEq, Repr

/-- Yarrow's measurements on one path (R144-R148): the energies of the composite and of its four streams over the last 32 DL
air ticks, newest first; the DL air ticks of the open window; per stream the sum of cost times power, the sum of powers, and the
largest cost; the highest output powers of the window, each over the mean power of its tick; and the report of a window that has
ended. -/
structure CfrPath where
  ticks  : List (Nat × List Nat)
  dl     : Nat
  costs  : List (Nat × Nat × Nat)
  top    : List (Nat × Nat)
  report : Option CfrReport
deriving DecidableEq, Repr

def CfrPath.init : CfrPath := ⟨[], 0, [], [], none⟩

/-- A transfer on the PA-driver bus (R152): the word, by path; the fine step in which its first bit is driven; and the fine step
in which the latch rises, if it is latched. Fine steps count from the boundary that opened elapsed tick 0. -/
structure PadrvShift where
  word    : List (Nat × Nat)
  start   : Nat
  latchAt : Option Nat
deriving DecidableEq, Repr

/-- Transmit paths, Yarrow and Zinnia beside their registers. Streams are keyed by 4 * path + stream. -/
structure TxState where
  shapes  : List (Nat × List Int)        -- coefficients of a stream; a stream not listed has the default filter
  hist    : List (Nat × List RxSample)   -- shaping-filter histories, newest first
  onLinks : List (Nat × List RxSample)   -- stream samples that crossed for the next chain tick
  links   : List (Nat × List RxSample)   -- those of the chain tick before, which the interpolators still see
  powers  : List (Nat × PowerEntry)      -- power tables by (6 * path + column) * 64 + entry
  masks   : List (Nat × Nat)             -- mask words by the index of R175
  freqs   : List (Nat × FreqEntry)
  ready   : List (Nat × Ready)
  settled : List (Nat × Nat)             -- first settled air tick of a path that has just become ready, an elapsed tick, plus 1
  settle  : List (Nat × Nat)             -- SETTLING stream samples still to come, by stream (Table 05-3)
  settleAir : List (Nat × Nat)           -- path and VOID air tick after which its streams are SETTLING (Table 05-3)
  entryDue : List Nat                    -- paths whose DAC_CUR and PADRV follow on the next boundary (R150)
  warmUp  : List (Nat × Nat)             -- DL air ticks left in which Yarrow passes (R147)
  voidAir : List (Nat × Nat)             -- air ticks that are VOID: path and air tick (Table 05-3)
  backoffDue : List (Nat × Nat)          -- paths with a mask back-off step due, and the elapsed tick of the violation plus 1 (R151, R156)
  columnDue : List (Nat × Nat)           -- paths whose column switches, and the elapsed tick of the band change plus 1
  misses  : List (Nat × Nat)             -- PAPR-miss ticks of a path in the open window
  padrv   : List (Nat × Nat)             -- PADRV bits latched on the bus, by path
  lastLatch : Option Nat                 -- elapsed tick of the last PADRV latch
  deferred : List Nat                    -- paths whose PADRV latch is deferred (R153)
  bus     : Option PadrvShift            -- the last transfer on the PA-driver bus
  waits   : List LateWait
  air     : List (Nat × List RxSample)   -- actuator output of the chain tick, per path
  lastAir : List (Nat × List Cplx)       -- that of the chain tick before, which the final interpolator still sees
  dac     : List (Nat × List Int)        -- DAC codes of the air tick that the chain tick has made: 6,400 per path (R132)
  cfr     : List (Nat × CfrPath)         -- Yarrow's measurements, by path
deriving DecidableEq, Repr

def TxState.init : TxState :=
  ⟨[], [], [], [], [], [], [], [], [], [], [], [], [], [], [], [], [], [], none, [], none, [], [], [], [], []⟩

/-! ### Beamforming (R177-R207) -/

/-- One weight group of a beam or layer on a carrier: PRBs `lo .. lo+n-1`, 64 weights, antenna 0 first (R193). -/
structure WGroup where
  car : Nat
  lo  : Nat
  n   : Nat
  w   : List Cplx
deriving DecidableEq, Repr

/-- A PRB region of a channel-store entry with its computed weights (R192). -/
structure ChanRegion where
  lo : Nat
  n  : Nat
  w  : List Cplx
deriving DecidableEq, Repr

/-- An entry of the channel store: regions with their weights; `next` are regions block 12 has accepted, each in use
from the tick given. -/
structure ChanEntry where
  ueId    : Nat
  regions : List ChanRegion
  next    : List (Nat × List ChanRegion)
  last    : Nat               -- arrival order of its last message
deriving DecidableEq, Repr

/-- An uplink symbol on its way through blocks 2 and 3: its carrier, its first tick, its place in the frame, and per
participating path the FFT input window, then the spectrum. -/
structure UlSymbol where
  car    : Nat
  start  : Nat
  apply  : Nat
  sfn    : Nat
  slot   : Nat
  sym    : Nat
  n      : Nat                            -- N, NRB, numerology and cyclic prefix of the configuration it was received under (R203)
  nrb    : Nat
  mu     : Nat
  cp     : Nat
  void   : Bool                           -- block 2 did not finish it (Table 02-4)
  data   : List (Nat × List Cplx)
  wins   : List (Nat × List RxSample)     -- a path's samples of the symbol, cyclic prefix first, until block 2 cuts the window (R119, R180)
deriving DecidableEq, Repr

/-- One PRB of a beam: 12 sums in LSBs of the 40-bit accumulator (R184), or VOID (R354). -/
structure UlBlock where
  void : Bool
  acc  : List Cplx
deriving DecidableEq, Repr

/-- U-plane data requested for a symbol (R293). -/
structure UlReq where
  beam  : Nat
  secId : Nat
  lo    : Nat
  n     : Nat
  eaxc  : Nat
  port  : Nat
  order : Nat
deriving DecidableEq, Repr

/-- A combined uplink symbol until the tick its total is formed in (R353). -/
structure UlHeld where
  due   : Nat
  car   : Nat
  start : Nat
  sfn   : Nat
  slot  : Nat
  sym   : Nat
  beams : List (Nat × List UlBlock)
  shifts : List (Nat × Nat)             -- SHIFT of each beam in the apply tick (R184, R203)
  mu    : Nat
  reqs  : List UlReq
deriving DecidableEq, Repr

/-- Antenna spectra or layer data of a downlink symbol: its carrier, first air tick, offset of its first sample in that
tick, cyclic prefix, N and NRB of the configuration it was expanded under, and the spectra by path. -/
structure DlSymbol where
  car    : Nat
  start  : Nat
  offset : Nat
  cp     : Nat
  n      : Nat
  nrb    : Nat
  data   : List (Nat × List Cplx)
deriving DecidableEq, Repr

/-- Dahlia beside its registers. -/
structure BfState where
  table    : List (Nat × List Cplx)     -- beam table, by entry (R190)
  ulActive : List (Nat × List WGroup)   -- banks, by beam or layer (R193)
  ulStaged : List (Nat × List WGroup)
  dlActive : List (Nat × List WGroup)
  dlStaged : List (Nat × List WGroup)
  chan     : List ChanEntry
  chanMsgs : List (Nat × Nat × List (Nat × Nat × WeightSet))   -- type-6 messages block 12 has not processed: received, ueId
  order    : Nat                        -- arrival order of sections and messages
  bufs     : List (Nat × List RxSample) -- stream samples, newest first, by 4 * path + carrier
  since    : List (Nat × Nat)           -- the elapsed tick an uplink carrier's configuration started in (R203)
  builtFor : Option Nat                 -- the apply tick a cascade member has built the staged banks for (R199)
  missing  : List Nat                   -- type-5 sections in the store that were staged without a channel entry, by order (R189)
  symSlots : List (Nat × Nat × Nat)     -- per-slot counts of a kind and carrier: the slot, and the count so far
  ulFft    : List UlSymbol              -- symbols block 2 works on
  ulComb   : List UlSymbol              -- symbols block 3 will combine
  held     : List UlHeld                -- combined symbols waiting for their total (R353)
  dlFft    : List DlSymbol              -- symbols block 5 works on
  txQueue  : List (Nat × List Cplx)     -- stream samples from the next shaping tick on, by 4 * path + carrier
  slots    : List (Nat × Nat)           -- counts of the open slot, by 8 * kind + 4 * direction + carrier
deriving DecidableEq, Repr

def BfState.init : BfState := ⟨[], [], [], [], [], [], [], 0, [], [], none, [], [], [], [], [], [], [], []⟩

/-! ### Predistortion and observation (R208-R238) -/

/-- State of a coefficient slot (R212), and the set it holds. -/
inductive SetState where
  | empty | loaded | accepted
deriving DecidableEq, Repr

structure CoefSet where
  st    : SetState
  coefs : List Cplx
  gen   : Nat
deriving DecidableEq, Repr

def CoefSet.empty : CoefSet := ⟨.empty, [], 0⟩

/-- A capture: its header (Table 07-4), the EXP_GAIN of the entry in force, the composite's centre word and the occupied edges of
the streams it saw [MHz * 125 * 2^49], and its 16,384 actuator input and 16,384 observed samples (R217). -/
structure Capture where
  path     : Nat
  slot     : Nat
  step     : Nat
  entry    : Nat
  airTick  : Nat
  power    : Int
  observed : Int
  papr     : Int
  atten    : Nat
  usable   : Bool
  weak     : Bool
  maskOnly : Bool
  gen      : Nat
  expGain  : Int
  centre   : Nat
  edges    : List (Nat × Int × Int)
  inputs   : List Cplx
  samples  : List Cplx
deriving DecidableEq, Repr

/-- What an observation receiver has taken of the capture it waits for or takes: the attenuation fixed at its start, its NCO's phase,
the mixed samples its resampler still sees, the actuator inputs and the observed samples so far, the energy at the power-step
input, whether an input was not VALID, SWSEL before the capture, and the capture once its last air tick has closed (R166, R215, R217,
R219). -/
structure OxCap where
  atten   : Nat
  phase   : Nat
  mixed   : List (Int × Nat)
  inputs  : List Cplx
  samples : List Cplx
  energy  : Nat
  spoilt  : Bool
  was     : Nat
  final   : Option Capture
deriving DecidableEq, Repr

def OxCap.init : OxCap := ⟨0, 0, [], [], [], 0, false, 0, none⟩

/-- A capture on its way to the core die: its ox, the elapsed tick it became ready in, and the ticks of bulk share it has had
(R26). -/
structure OxSend where
  ox    : Nat
  cap   : Capture
  ready : Nat
  sent  : Nat
deriving DecidableEq, Repr

/-- Figures of a signal over a capture: P_adj, P_occ, its power, and the actuator input's (R225, Table 07-8). -/
structure Measure where
  adj   : Nat
  occ   : Nat
  power : Nat
  input : Nat
deriving DecidableEq, Repr

/-- An accepted candidate, with the figures of the estimating capture for its confirmation. -/
structure Candidate where
  slot  : Nat
  coefs : List Cplx
  ref   : Measure
deriving DecidableEq, Repr

/-- Predistortion of one path beside its registers. -/
structure DpdPath where
  estCap    : Option Capture      -- the newest usable capture, newer than the last estimate, that waits for an engine
  waitSince : Nat                 -- elapsed tick since which it waits
  estimating : Option Nat         -- the engine at work on it
  estFrom   : Option Capture      -- the capture of the estimation in progress
  estSlot   : Nat
  pending   : Option Candidate    -- accepted, waiting for its commit
  confirm   : Option (Measure × Nat)  -- figures of the estimating capture, and the commit tick, for CONFIRM
  lastGood  : CoefSet
  capDue    : Option Nat          -- a cap change is due at the quiet boundary; ticks since
  degraded  : Bool                -- the cap that DEGRADED sets is in force (R213)
deriving DecidableEq, Repr

def DpdPath.init : DpdPath := ⟨none, 0, none, none, 0, none, none, CoefSet.empty, none, false⟩

/-- Foxglove and the observation receivers beside their registers. -/
structure DpdState where
  models : List (Nat × List Nat)       -- term descriptors; a path not listed has the default model (R209)
  sets   : List (Nat × CoefSet)        -- by 80 * path + slot
  gens   : Nat                         -- generations given so far
  paths  : List (Nat × DpdPath)
  past   : List (Nat × List RxSample)  -- the last 11 actuator inputs of a path before the tick, newest first
  inputs : List (Nat × List RxSample)  -- actuator input of the chain tick, per path
  capAt  : List (Nat × Nat)            -- air tick a of the capture an ox waits for or takes
  caps   : List (Nat × OxCap)          -- what an ox has taken so far
  meters : List (Nat × Nat)            -- energy of a path's composite at the power-step input in the chain tick (R217)
  swsel  : List (Nat × Nat)            -- selection that an ox's SWSEL outputs hold (R166)
  transfer : List OxSend               -- captures on their way, in the order in which they became ready
deriving DecidableEq, Repr

def DpdState.init : DpdState := ⟨[], [], 0, [], [], [], [], [], [], [], []⟩

/-! ### Random access (R239-R257) -/

/-- A PRACH occasion being collected: where its sections place it (R241), the configuration registers as they stood at its first
sample (R243), the ticks its first and last samples cross in, its beams with the sections that named them, and what it has
collected of each participating path. -/
structure Occasion where
  config : Nat
  start  : Nat                  -- the tick that opens its slot
  time   : Nat                  -- timeOffset
  cp     : Nat                  -- cpLength
  freq   : Int                  -- freqOffset
  reps   : Nat
  ctrl   : Nat
  det    : Nat
  thr    : Nat
  rate   : Nat                  -- rate code of the stream
  first  : Nat
  last   : Nat
  sfn    : Nat
  slot   : Nat
  sym    : Nat
  eaxc   : Nat
  beams  : List (Nat × Nat)     -- beamId and sectionId
  weights : List (List Cplx)    -- of each beam
  air    : List (Nat × List Cplx)   -- window samples of each participating path
  dropped : Bool
  late   : Bool
  qual   : Bool
  begun  : Bool
deriving DecidableEq, Repr

structure PrachState where
  occasions : List Occasion
  raw       : List (Nat × Occasion × List (List Cplx))   -- sums to frame in the tick given (R252)
  ring      : List (Nat × List Byte)    -- records in the ring, oldest first: OCCSEQ and bytes
deriving DecidableEq, Repr

def PrachState.init : PrachState := ⟨[], [], []⟩

/-! ### Fronthaul (R281-R314) -/

/-- An entry of the eAxC map (R286); kind as FRM_MAP_DATA codes it. -/
structure Eaxc where
  id    : Nat
  kind  : Nat
  port  : Nat
  car   : Nat
  index : Nat
deriving DecidableEq, Repr

def Eaxc.empty : Eaxc := ⟨0, 0, 0, 0, 0⟩

/-- A downlink U-plane section in the ingress buffer (R291): layer, carrier, the first air tick of its symbol, and its
content. -/
structure DlWait where
  part  : LayerPart
  secId : Nat
  recv  : Nat               -- the tick it was received in
  due   : Nat
  coding : Nat × Nat × Nat × Nat    -- method, width, csf and modCompScaler as it was parsed (R310)
deriving DecidableEq, Repr

/-- What an uplink U-plane section carries (R293). -/
structure UpOut where
  secId : Nat
  lo    : Nat
  n     : Nat
  comp  : Nat
  bytes : List Byte
deriving DecidableEq, Repr

/-- An uplink U-plane message. -/
structure UpMsg where
  port  : Nat
  eaxc  : Nat
  seqId : Nat
  sfn   : Nat
  slot  : Nat
  mu    : Nat
  sym   : Nat
  prach : Bool
  secs  : List UpOut
deriving DecidableEq, Repr

/-- A quality record waiting to enter the ring, Table 10-3, with its carrier; the sequence is given on entry. -/
structure QualRec where
  tick   : Nat
  kind   : Nat
  unit   : Nat
  stream : Nat
  flags  : Nat
  sfn    : Nat
  slot   : Nat
  sym    : Nat
  settling : Nat
  clipped  : Nat
  voided   : Nat
  car      : Nat
deriving DecidableEq, Repr

/-- Sections a downlink symbol of a layer has lost (R297, kind 2): late ones, dropped ones, and whether a block-9 overrun
took some. -/
structure LostRec where
  layer : Nat
  car   : Nat
  start : Nat
  late  : Nat
  dropped : Nat
  ovr  : Bool
deriving DecidableEq, Repr

/-- A downlink symbol being radiated by a path, with its samples that are not VALID so far (R297, kind 1): its carrier, first
and last air tick, flags, and the three counts. -/
structure AirRec where
  path  : Nat
  car   : Nat
  first : Nat
  last  : Nat
  late  : Bool
  settling : Nat
  clipped  : Nat
  voided   : Nat
deriving DecidableEq, Repr

/-- Framer, parser and ports beside their registers. -/
structure FhState where
  map      : List (Nat × Eaxc)        -- by map index 0-255
  csecs    : List CSection            -- the section stores, in arrival order
  ingress  : List DlWait
  seqRx    : List (Nat × Nat)         -- next sequence ID expected, by 2 * eAxC + direction
  seqTx    : List (Nat × Nat)
  lost     : List LostRec
  air      : List AirRec
  quality  : List QualRec             -- records to enter on the next boundary
  qrecSeq  : Nat
  egress   : List (Nat × UpMsg)       -- messages in the egress buffers, with the earliest tick whose closing boundary they leave on
  portCmd  : List (Nat × Nat × Nat)   -- FH_CONFIG_PORT waiting for alignment: port, tag, elapsed tick
deriving DecidableEq, Repr

def FhState.init : FhState := ⟨[], [], [], [], [], [], [], [], 0, [], []⟩
/-! ### Lanes (R315-R344) -/

/-- A lane's receiver and transmitter beside its registers: the preset it runs from, whether it has adapted since (its 35
adapted values are then the free values from this number on, log entry 31), the acquisition timer in ticks, and the state
before a freeze (true: TRACK); the figures of merit since the last report, newest first [0.01 dB]; the ticks in a row with the
figure at FOM_MIN or above in ACQUIRE, and below FOM_LOSS in TRACK; and the transition-density monitor: the last symbol before
the open window, the window's symbols, and the inadequate and the adequate windows in a row (R322, R323, R325). -/
structure LaneHw where
  loaded  : List Byte
  adapted : Option Nat
  timer   : Nat
  tracked : Bool
  foms    : List Int
  above   : Nat
  below   : Nat
  last    : Option Nat
  window  : List Nat
  low     : Nat
  good    : Nat
deriving DecidableEq, Repr

def LaneHw.init : LaneHw := ⟨[], none, 0, false, [], 0, 0, none, [], 0, 0⟩

/-- A lane's generator and checker (R333-R335): the generator's pattern register; the received bits a searching checker holds; the
register of a checker that has seeded itself and seen its error-free symbols; its open window's bits and errors; bits and errors not
yet counted; and the bits of the open tick that an injection inverts. -/
structure PatternHw where
  gen   : Option Nat
  hist  : List Bool
  own   : Option Nat
  bits  : Nat
  errs  : Nat
  pend  : Nat × Nat
  flip  : Nat
deriving DecidableEq, Repr

def PatternHw.init : PatternHw := ⟨none, [], none, 0, 0, (0, 0), 0⟩

/-- What changes on the boundary that closes a tick (R336, R338, R340). -/
inductive LaneChange where
  | prbs (lane gen chk : Nat) (clear : Bool) (mode len count interval : Nat)
  | slip (lane count : Nat)
  | mlse (lane : Nat) (on : Bool)
deriving DecidableEq, Repr

/-- A LANE_CONFIG_GROUP that waits for TRACK. -/
structure LaneWait where
  group : Nat
  tag   : Nat
  since : Nat
  part  : Bool
  mask  : List Byte
deriving DecidableEq, Repr

structure LaneState where
  presets  : List (Nat × List Byte)    -- by 5 * lane + band; a preset not listed is the factory's
  hw       : List (Nat × LaneHw)
  waits    : List LaneWait
  changes  : List LaneChange
  errs     : List (Nat × Nat)          -- bit errors and bits compared, 48 bits
  bits     : List (Nat × Nat)
  injLeft  : List (Nat × Nat)          -- injections left: 0 none, 1 without end, else left + 1
  injNext  : List (Nat × Nat)          -- elapsed tick of the next one
  pats     : List (Nat × PatternHw)    -- by lane
deriving DecidableEq, Repr

def LaneState.init : LaneState := ⟨[], [], [], [], [], [], [], [], []⟩


/-! ### Cascade (R345-R372) -/

/-- Staging content of one tick on its way out of the root (R361): stagings, channel slices, and the bits still waiting, by
port. -/
structure StageOut where
  parts : List StagedPart
  chans : List ChanPart
  left  : List (Nat × Nat)
deriving DecidableEq, Repr

/-- A PTP frame on its way out of a cascade port (R366): its message type and bytes, the ingress timestamp, or that of its making, its
residence counts from, and the bits still to go. -/
structure PtpOut where
  port  : Nat
  mtype : Nat
  bytes : List Byte
  since : Nat
  left  : Nat
deriving DecidableEq, Repr

/-- A discovery in progress at the root (R369): the tag, the elapsed tick it ends in, and the answers so far. -/
structure Discovery where
  tag     : Nat
  endsAt  : Nat
  answers : List CasRecord
deriving DecidableEq, Repr

/-- Finef beside its registers. -/
structure CasState where
  good     : List (Nat × Nat)            -- consecutive good frames of a port
  bad      : List (Nat × Nat)            -- consecutive failing or missing frames
  heard    : List Nat                    -- ports whose frame has come in the open tick
  voidNow  : List Nat                    -- ports whose frame of the open tick is void (R351)
  rejoin   : List (Nat × Nat)            -- elapsed tick from which a port contributes, plus 1 (R356)
  blocks   : List (Nat × List SumBlock)  -- blocks delivered in the open tick, by port
  sums     : List SumBlock               -- totals to send upstream when the open tick closes
  layers   : List LayerPart              -- layer data to send when the open tick closes
  outgoing : List StageOut               -- content waiting at the root; at a member, content to forward in this tick
  stagings : List StagedPart             -- stagings held, each with the sections that are new in it
  commits  : List (Nat × Nat)            -- commit records held: apply tick and generation
  commitOut : List (Nat × Nat)           -- commit records to send
  subtree  : List (Nat × List Nat)       -- slices behind a port
  ringUp   : List Nat                    -- downstream ports behind which a standby path to the root is UP
  rootSum  : Nat                         -- the root's digest and depth as frames brought them
  depthBad : Bool                        -- R346
  digestBad : Option Nat                 -- the digest that mismatched last (R348)
  lostOut  : List (Nat × Nat)
  request  : Bool
  answers  : List CasRecord
  discover : List Discovery
  reverse  : Bool                        -- a reversal request to pass on
  switchAt : Option Nat                  -- the announced switch tick
  ptpOut   : List PtpOut             -- PTP frames on their way out, in order
deriving DecidableEq, Repr

def CasState.init : CasState :=
  ⟨[], [], [], [], [], [], [], [], [], [], [], [], [], [], 0, false, none, [], false, [], [], false, none, []⟩
/-! ### Signal engines (R373-R406) -/

/-- What a load does at the end of the cycle after it (R381): a register takes a value (U0, U1 as 0, 1; V0-V3 as 2-5), the
delay line of form D takes one, or an integer register takes a word. -/
inductive LoadEff where
  | operand (r : Nat) (x : Int)
  | delay (x : Int)
  | int (r : IntReg) (x : Nat)
deriving DecidableEq, Repr

/-- A block move in flight (R393): its direction (true: into the local bank), bank, cluster word, local address, length, and the
engine cycles left. -/
structure Move where
  into  : Bool
  bank  : Bank
  word  : Nat
  local_ : Nat
  n     : Nat
  due   : Int                -- TLEFT at which it completes; below 0 in a later tick (R393)
deriving DecidableEq, Repr

/-- One engine: the registers of Table 13-2 (operands as 18-bit codes read as integers, accumulators in LSBs of 2^-34), its
memories, and its progress in the tick. -/
structure Engine where
  pc    : Nat
  sr    : Nat
  u     : List Int
  v     : List Int
  ac    : List Int
  p     : List Nat
  j     : List Nat
  g     : List Nat
  lf    : List Nat
  lfp   : Nat
  rpc   : Nat
  pbr   : Nat
  ira   : Nat
  ssr   : Nat
  dcnt  : Int
  tleft : Nat
  pm    : List (Nat × Nat)
  bu    : List (Nat × Nat)
  bv    : List (Nat × Nat)
  loads : List LoadEff       -- loads that end with the next instruction
  slots : Nat                -- delay slots still to execute
  reps  : Bool               -- RPC counts the repeats of the instruction at PC
  move  : Option Move
  begun : Bool               -- an instruction has executed in this tick
  ended : Bool               -- TEND has executed in this tick
  init_ : Bool               -- the next tick enters at the init entry
  halt  : Bool               -- stops at the next boundary (ENG_START operation 1)
  done  : Option Nat         -- the DONE code held for TEND
  params : List Byte         -- the last parameters of ENG_START
  own    : Bool              -- the kernel was loaded by host software (R394)
  irq    : Bool              -- in an interrupt service routine: interrupts do not nest (R389)
  rowed  : Bool              -- an instruction has executed since the job in progress began
deriving DecidableEq, Repr

def Engine.init : Engine :=
  { pc := 0, sr := 0, u := [0, 0], v := [0, 0, 0, 0], ac := [0, 0, 0, 0], p := [0, 0, 0, 0, 0, 0, 0, 0],
    j := [0, 0, 0, 0], g := [0, 0, 0, 0, 0, 0, 0, 0], lf := [0, 0, 0, 0], lfp := 0, rpc := 0, pbr := 0, ira := 0,
    ssr := 0, dcnt := 0, tleft := 0, pm := [], bu := [], bv := [], loads := [], slots := 0,
    reps := false, move := none, begun := false, ended := false, init_ := false, halt := false, done := none, params := [],
    own := false, irq := false, rowed := false }

/-- An estimation job as its parameter block gives it: the path, the job number, the output area's byte address, the number of terms
(R399). -/
structure EngJob where
  path : Nat
  job  : Nat
  out  : Nat
  n    : Nat
deriving DecidableEq, Repr

def EngJob.init : EngJob := ⟨0, 0, 0, 0⟩

/-- Words that a block move wrote to cluster memory in the open tick: whose, TLEFT at its completion, the first word and how many
(R394). -/
structure ClmSpan where
  eng : Nat
  due : Int
  lo  : Nat
  n   : Nat
deriving DecidableEq, Repr

/-- Lupin beside its registers: the engines, what each is loaded from, the cluster memory, jobs, and firmware's queue. -/
structure EngState where
  engines : List (Nat × Engine)
  images  : List (Nat × List Byte)    -- the object an engine is loaded from
  clm     : List (Nat × Nat)          -- cluster memory, by word; below word 0xC0000 its value plus 1, where it has been written
  booted  : Bool                      -- role kernels have been loaded: firmware uses the areas below 0x30_0000
  jobs    : List (Nat × EngJob)       -- an engine's estimation job
  results : List (Nat × Nat)          -- the last result of an engine in firmware's queue: its code plus 1 (R387)
  wrote   : List ClmSpan
deriving DecidableEq, Repr

def EngState.init : EngState := ⟨[], [], [], false, [], [], []⟩

/-! ### Clematis (R407-R425) -/

/-- The descriptor access of a channel that is outstanding: none, a whole descriptor at CUR, or its CTRL word alone
(R416). -/
inductive DmaFetch where
  | none | whole | ctrl
deriving DecidableEq, Repr

/-- A channel beside its registers: the descriptor at CUR as it was read (none before), the outstanding descriptor access,
whether a prefetch read is outstanding, the prefetched descriptor, the descriptors the chain has reached, source bytes
read and not written yet, source bytes read, the running CRC, the earliest control cycle of the next read and write
burst (R413), whether the descriptor's CRC has been written and its last word read back (R415), and the ticks of the back-off
still to pass (R419). -/
structure DmaChan where
  desc    : List Byte
  fetch   : DmaFetch
  preWait : Bool
  pre     : List Byte
  chain   : Nat
  buf     : List Byte
  got     : Nat
  crc     : Nat
  nextRd  : Nat
  nextWr  : Nat
  crcDone : Bool
  backDone : Bool
  backOff : Nat
deriving DecidableEq, Repr

def DmaChan.init : DmaChan := ⟨[], .none, false, [], 0, [], 0, 0xFFFFFFFF, 0, 0, false, false, 0⟩

/-- Clematis: its channels, the channel whose burst was granted last in each direction, the first control cycle in which each
direction of the bus is free again (R407), and the DMA_SUBMITs that wait, as channel and tag. -/
structure DmaState where
  chans  : List (Nat × DmaChan)
  lastRd : Nat
  lastWr : Nat
  freeRd : Nat
  freeWr : Nat
  waits  : List (Nat × Nat × Nat)     -- DMA_SUBMITs that wait: channel, tag, elapsed tick of their start (R423)
deriving DecidableEq, Repr

def DmaState.init : DmaState := ⟨[], 15, 15, 0, 0, []⟩


/-! ### What a commit changes -/

/-- One change of a commit (R44). `reg` replaces the masked bits of a shadowed register; the others change contents that
have no register. Streams are 4 * path + stream. -/
inductive Change where
  | reg (addr mask value : Nat)
  | gain (p mode atten : Nat) (dgain : Int) (comp : Nat)
  | filter (st : Nat) (coefs : List Int) (shift : Int)
  | shape (st : Nat) (coefs : List Int) (shift : Int)
  | select (p : Nat) (rx tx : Bool) (entry : Nat)
  | define (entry : Nat) (e : FreqEntry)
  | power (p step backMax : Nat)
  | column (p col : Nat) (entries : List PowerEntry)
  | mask (p stream flags : Nat) (words : List Nat)
  | retire (rx tx : Nat)
  | beam (entry : Nat) (w : List Cplx)
  | freeze (p : Nat)
  | model (p : Nat) (terms : List Nat)
  | coefs (p slot : Nat) (accepted : Bool) (c : List Cplx)
  | candidate (p : Nat)
  | revert (p : Nat)
  | eaxc (entries : List Eaxc)
  | opPoint (code : Nat)
  | gateClose (nodes busy : List Nat)     -- with the nodes whose bus stays busy at the commit (R442)
  | gateRelease (nodes : List Nat)
deriving DecidableEq, Repr
/-- Who armed a commit: a command or an atomic group, host software through TCK_COMMIT_CTRL (R57), or the device itself. -/
inductive CommitOwner where
  | command | host | device
deriving DecidableEq, Repr

/-- An armed commit (R44, R46): its tick, its place in acceptance order (R48), its commit units, what it changes, the bits
still queued for or crossing to each converter die, and what its commands complete with when it is applied. -/
structure Commit where
  tick    : Nat
  seq     : Nat
  owner   : CommitOwner
  units   : List CommitUnit
  changes : List Change
  bulk    : List (Nat × Nat)
  results : List (Nat × Outcome)
  late    : List (Nat × Nat)     -- commands whose LATE_START is still to be decided, with their transmit paths (R162)
deriving DecidableEq, Repr

/-! ### Recording and replay (R547-R566) -/

/-- What REC_ARM asked for (R561). -/
structure RecArm where
  raw      : Bool
  trigger  : Nat
  code     : Nat
  rawPaths : List Nat
  rawTicks : Nat
  tap      : Nat
  tapUnit  : Nat
  duration : Nat
deriving DecidableEq, Repr

/-- An input item of the open tick beside the receive streams (Table 20-1): an observation capture, a frame, a Finef frame, a
control write, the arming of a commit without its command's results, the cancellation of commits, a time item. -/
inductive RecItem where
  | capture (ox : Nat) (bytes : List Byte)
  | frame (port : Nat) (f : Frame)
  | finef (port : Nat) (f : FinefFrame)
  | write (addr value : Nat)
  | arm (k : Commit)
  | cancel (seqs : List Nat)
  | time (kind : Nat)
deriving DecidableEq, Repr

/-- What a tick produced at the points whose digests Table 20-2 lists: the stream samples toward the converter dies, the
uplink messages as framed, the Finef frames sent, the DAC codes, the events raised inside the boundary (code, source, value
and tick), the engines' publications, the PRACH records, the quality records, and the streams of the raw-captured paths. -/
structure RecPoints where
  br   : List (Nat × List RxSample)
  fh   : List UpMsg
  cp   : List (Nat × FinefFrame)
  dac  : List (Nat × List Int)
  ev   : List (Nat × Nat × Nat × Nat)
  eng  : List (Nat × Nat)
  pra  : List (Nat × List Byte)
  qrec : List QualRec
  raw  : List (Nat × List RxSample)
deriving DecidableEq, Repr

def RecPoints.none : RecPoints := ⟨[], [], [], [], [], [], [], [], []⟩

/-- One recorded tick (R550, Table 20-2): its place in md, length, TICKNO, frame position, flags, what crossed the boundary
from the converter dies, and its items in order. -/
structure RecTick where
  off    : Nat
  len    : Nat
  tickno : Nat
  sfn    : Nat
  ft     : Nat
  flags  : Nat
  ins    : TickIn
  items  : List RecItem
  points : RecPoints
deriving DecidableEq, Repr

/-- The snapshot of R551: the registers inside the core boundary and what its blocks hold. -/
structure Snapshot where
  regs   : List (Nat × Word)
  shadow : List (Nat × Word)
  armed  : List Commit
  rx     : RxState
  tx     : TxState
  bf     : BfState
  dpd    : DpdState
  pra    : PrachState
  fh     : FhState
  cas    : CasState
  eng    : EngState
deriving DecidableEq, Repr

/-- A replay in progress (R556, R563); `left` are the recorded ticks still to run. -/
structure ReplayRun where
  tag    : Nat
  full   : Bool
  stopOn : Bool
  warm   : Nat
  index  : Nat
  compared : Nat
  left   : List RecTick
deriving DecidableEq, Repr

structure RecState where
  arm      : Option RecArm
  startIn  : Option Nat          -- boundaries until recording starts (R554)
  stopNext : Option Nat          -- tag of a REC_STOP that takes effect on the next boundary
  items    : List RecItem        -- items of the open tick, oldest first
  tickFlags : Nat                -- flags of the open tick's record (Table 20-2)
  wptr     : Nat                 -- md offset of the next tick record
  ticks    : List RecTick        -- recorded ticks, newest first
  snap     : Option Snapshot
  rawPaths : List Nat            -- paths of the raw capture that is running, or has run (R549)
  rawLeft  : Nat                 -- raw ticks still to capture
  replay   : Option ReplayRun
  headerOk : Bool                -- the header's CRC-32C and revision are right (R555)
  md       : List (Nat × Option Byte)   -- bytes Clematis has written to capture memory (log entry 41)
  pubs     : List (Nat × Nat)    -- results the engines have published since the open tick began: engine and code (R387)
  buffered : Nat                 -- bytes of tick records in the 4 MiB buffer (R552)
  full     : Bool                -- a tick's record has found no room in md
deriving DecidableEq, Repr

def RecState.init : RecState := ⟨none, none, none, [], 0, 0x3000000, [], none, [], 0, none, false, [], [], 0, false⟩

/-! ### What leaves the device, and the state -/

/-- The level of an output pin: an output whose domain is off floats (R29). `driven`: the ball carries a signal whose levels the spec
leaves to a bus standard or to the boot flash. -/
inductive PinLevel where
  | low | high | floating | driven
deriving DecidableEq, Repr

/-- What an I²C master does at a module's address 0x50 (R330-R332): a write or a read at a byte address, or a CMIS software procedure,
whose bytes the CMIS standard gives: out of low power, or the data path of an application on host lanes. -/
inductive ModCall where
  | write (offset : Nat) (bytes : List Byte)
  | read (offset len : Nat)
  | exitLowPower
  | activate (app : Nat) (lanes : List Nat)
deriving DecidableEq, Repr

/-- Things that leave the device: bytes on SPI, an in-band reply, a word or bytes a read returns, an Ethernet frame, a
Finef frame, an uplink U-plane message with its frame's destination and tag (R301), a PTP frame with the residence time its correction has gained, an MSI-X
message: its vector, address and data (R612), and an I²C master's call to a module (R332). -/
inductive Output where
  | spi (bytes : List Byte)
  | inband (dest : ReplyTo) (bytes : List Byte)
  | readData (addr value : Nat)
  | frame (port : Nat) (bytes : List Byte)
  | finef (port : Nat) (f : FinefFrame)
  | uplane (dst : Nat) (tci : Option Nat) (m : UpMsg)
  | ptp (port mtype : Nat) (bytes : List Byte) (residence : Nat)
  | msix (vector addr data : Nat)
  | module (master : Nat) (c : ModCall)
deriving DecidableEq, Repr

/-- The whole part. `pending`: the commands that wait, first in first out. `regs` and `shadow`: the registers that differ from
their reset words, and the shadow copies that differ from the active ones (R44). `hostDirty`: shadowed registers the host has
written since its last commit (R57). `armed`: commits waiting for their tick (R44-R49). `elapsed`: ticks since reset;
`freeCtr`: free values used so far (the model's own, log entry 1). `outbox`: what left the part since the open tick began;
`hostMem`: bytes of host memory the part has written (log entry 2). Then one structure per block. -/
structure State where
  pending   : List Instr
  regs      : List (Nat × Word)
  shadow    : List (Nat × Word)
  hostDirty : List Nat
  armed     : List Commit
  elapsed   : Nat
  freeCtr   : Nat
  outbox    : List Output
  hostMem   : List Host.Cell
  tick      : TickState
  privi     : PriviState
  ev        : EventState
  fault     : FaultState
  clk       : ClockState
  pwr       : PowerState
  time      : TimeState
  hk        : HkState
  cal       : CalState
  recd      : RecState
  sec       : SecState
  rx        : RxState
  tx        : TxState
  bf        : BfState
  dpd       : DpdState
  pra       : PrachState
  fh        : FhState
  ln        : LaneState
  eng       : EngState
  dma       : DmaState
  cas       : CasState
deriving DecidableEq, Repr

/-- The machine right after reset (R491): every register at its reset word (nothing listed), but SEC_SLOTS, whose state
codes show the four factory key slots PROGRAMMED (R568); every queue and buffer empty; the fallback count not run yet; the
pins SAFE_N high and both reference clocks toggling (log entry 48). -/
def State.reset : State where
  pending   := []
  regs      := [(0xA0008, 0x55#32)]
  shadow    := []
  hostDirty := []
  armed     := []
  elapsed   := 0
  freeCtr   := 0
  outbox    := []
  hostMem   := []
  tick      := TickState.init
  privi     := PriviState.init
  ev        := EventState.init
  fault     := FaultState.init
  clk       := ClockState.init
  pwr       := PowerState.init
  time      := TimeState.init
  hk        := HkState.init
  cal       := CalState.init
  recd      := RecState.init
  sec       := SecState.init
  rx        := RxState.init
  tx        := TxState.init
  bf        := BfState.init
  dpd       := DpdState.init
  pra       := PrachState.init
  fh        := FhState.init
  ln        := LaneState.init
  eng       := EngState.init
  dma       := DmaState.init
  cas       := CasState.init

end Sys2Proof.Machine
end

