-- ==== Sys2Proof/Machine/Ops.lean ====
section
/-!
DEFINITION. Sys2Proof/Machine/Ops.lean: the named operations over the block's stores: sparse tables in one canonical form,
bit fields, little-endian bytes, the register file and its reset words, saturating counters, tick arithmetic (R8), events
raised at their sources (R53, R54), unit source codes (R526), retirement marks, and the words that leave the device.
-/
namespace Sys2Proof.Machine

/-! ### Sparse tables: keys strictly rising, no entry equal to what an unlisted key reads as -/

/-- What key `k` reads as; `d` gives the value of every unlisted key. -/
def sget {α : Type} (d : Nat → α) (m : List (Nat × α)) (k : Nat) : α :=
  match m with
  | [] => d k
  | (a, v) :: r => if a = k then v else sget d r k

/-- Writes `v` at key `k`, keeping the canonical form: a value equal to the unlisted one removes the entry. -/
def sput {α : Type} [DecidableEq α] (d : Nat → α) (m : List (Nat × α)) (k : Nat) (v : α) : List (Nat × α) :=
  match m with
  | [] => if v = d k then [] else [(k, v)]
  | (a, w) :: r =>
    if a < k then (a, w) :: sput d r k v
    else if a = k then (if v = d k then r else (k, v) :: r)
    else if v = d k then (a, w) :: r else (k, v) :: (a, w) :: r

/-- Every key of `m` is above `lo`, the keys rise strictly, and no value equals the unlisted one. -/
def swfFrom {α : Type} [DecidableEq α] (d : Nat → α) (lo : Nat) (m : List (Nat × α)) : Bool :=
  match m with
  | [] => true
  | (a, v) :: r => decide (lo ≤ a) && decide (v ≠ d a) && swfFrom d (a + 1) r

/-- The canonical form. -/
def swf {α : Type} [DecidableEq α] (d : Nat → α) (m : List (Nat × α)) : Bool := swfFrom d 0 m

/-- Removes every entry whose key satisfies `q`: those keys read as unlisted again. -/
def sclear {α : Type} (q : Nat → Bool) (m : List (Nat × α)) : List (Nat × α) :=
  m.filter (fun e => !q e.1)

/-! ### Bits, bytes and numbers -/

/-- Bits `lo+width-1 : lo` of a natural number. -/
def bitsAt (v lo width : Nat) : Nat := v / 2 ^ lo % 2 ^ width

/-- Bit `i` of a natural number. -/
def bitAt (v i : Nat) : Bool := v / 2 ^ i % 2 == 1

/-- `v` with bits `lo+width-1 : lo` replaced by the low bits of `x`. -/
def putBits (v lo width x : Nat) : Nat :=
  v / 2 ^ (lo + width) * 2 ^ (lo + width) + (x % 2 ^ width) * 2 ^ lo + v % 2 ^ lo

/-- 1 for true and 0 for false. -/
def b2n (b : Bool) : Nat := if b then 1 else 0

/-- A value of `w` bits read as two's complement. -/
def signed (w v : Nat) : Int := if 2 * (v % 2 ^ w) < 2 ^ w then (v % 2 ^ w : Nat) else (v % 2 ^ w : Nat) - (2 ^ w : Nat)

/-- The `w`-bit two's complement code of an integer (its low bits). -/
def encode2c (w : Nat) (v : Int) : Nat := (v % (2 ^ w : Nat)).toNat

/-- Little-endian value of a list of bytes (R9). -/
def leValue (bs : List Byte) : Nat :=
  match bs with
  | [] => 0
  | b :: r => b.toNat + 256 * leValue r

/-- Big-endian value of a list of bytes, for the fields of published standards (R9). -/
def beValue (bs : List Byte) : Nat := bs.foldl (fun a b => 256 * a + b.toNat) 0

/-- `n` little-endian bytes of a value. -/
def leBytes (n v : Nat) : List Byte :=
  match n with
  | 0 => []
  | k + 1 => BitVec.ofNat 8 v :: leBytes k (v / 256)

/-- `n` big-endian bytes of a value. -/
def beBytes (n v : Nat) : List Byte := (leBytes n v).reverse

/-- Bytes `off .. off+n-1`. -/
def slice (bs : List Byte) (off n : Nat) : List Byte := (bs.drop off).take n

/-- The `n`-byte little-endian field at offset `off` of a payload. -/
def leAt (bs : List Byte) (off n : Nat) : Nat := leValue (slice bs off n)

/-- The `n`-byte signed little-endian field at offset `off`. -/
def sleAt (bs : List Byte) (off n : Nat) : Int := signed (8 * n) (leAt bs off n)

/-- All bytes of a range are zero. -/
def zeroAt (bs : List Byte) (off n : Nat) : Bool := leAt bs off n == 0

/-- Indices below `n` whose bit is set in a mask. -/
def maskList (n m : Nat) : List Nat := (List.range n).filter (fun i => bitAt m i)

/-- The mask of a list of indices. -/
def listMask (n : Nat) (l : List Nat) : Nat :=
  ((List.range n).filter (fun i => l.contains i)).foldl (fun a i => a + 2 ^ i) 0

/-- Ceiling of a quotient. -/
def ceilDiv (a b : Nat) : Nat := (a + b - 1) / b

/-- A value held between two bounds. -/
def clampInt (lo hi v : Int) : Int := if v < lo then lo else if hi < v then hi else v

/-! ### Ticks -/

/-- R8: is tick `a` later than tick `b`? The signed 32-bit difference decides, and 2^31 counts as past. -/
def tickAfter (a b : Nat) : Bool :=
  let d := (a + (2 ^ 32 - b % 2 ^ 32)) % 2 ^ 32
  decide (0 < d) && decide (d < 2 ^ 31)

/-- R8: does tick `a` lie in the past of tick `b`? A difference of exactly 2^31 counts as past. -/
def tickBefore (a b : Nat) : Bool := decide (2 ^ 31 ≤ (a + (2 ^ 32 - b % 2 ^ 32)) % 2 ^ 32)

/-- `n` ticks after tick `t`, modulo 2^32. -/
def tickAdd (t n : Nat) : Nat := (t + n) % 2 ^ 32

/-- Ticks from `b` to `a`, modulo 2^32. -/
def tickSub (a b : Nat) : Nat := (a + (2 ^ 32 - b % 2 ^ 32)) % 2 ^ 32

/-! ### The register file -/

/-- Does address `a` name an instance of register `d` (Table 23-1, R622)? -/
def RegDesc.matches (d : RegDesc) (a : Nat) : Bool :=
  if a < d.base then false
  else
    let off := a - d.base
    let i := if d.stride1 = 0 then 0 else off / d.stride1
    let r := if d.stride1 = 0 then off else off % d.stride1
    let j := if d.stride2 = 0 then 0 else r / d.stride2
    let q := if d.stride2 = 0 then r else r % d.stride2
    decide (q = 0) && decide (i < d.count1) && decide (j < d.count2)

/-- The register at an address, or none where the map assigns nothing (R614). -/
def findReg (a : Nat) : Option RegDesc := regTable.find? (fun d => d.matches a)

/-- Detector policies of Table 19-4 as (ATTEMPTS, WINDOW [ms]); index 14 and 31 are counted by their own chapters and
index 33's policy is the one it has when class T. -/
def policyDefault (i : Nat) : Nat × Nat :=
  match i with
  | 0 | 1 => (1, 1000)
  | 3 => (1, 1000)
  | 4 | 5 | 6 | 8 | 9 | 17 | 22 | 33 => (3, 1000)
  | 15 | 18 => (8, 10000)
  | 16 => (16, 1000)
  | 24 => (2, 1000)
  | 27 => (3, 3600000)
  | _ => (0, 0)

/-- The word a register reads after reset: the reset column of its field table, and the per-part or per-image values of
Config where the table says OTP, per part, per ROM or per revision (R625). -/
def resetWord (a : Nat) : Word :=
  if 0x50400 ≤ a ∧ a < 0x50400 + 4 * 34 ∧ a % 4 = 0 then
    let p := policyDefault ((a - 0x50400) / 4)
    BitVec.ofNat 32 (p.1 + 256 * p.2)
  else if a = 0x20200 then 0x10#32
  else if a = 0x8 then BitVec.ofNat 32 (Config.revision % 2 ^ 16)
  else if a = 0x10 then BitVec.ofNat 32 Config.romVersion
  else if 0x20 ≤ a ∧ a < 0x30 ∧ a % 4 = 0 then BitVec.ofNat 32 (bitsAt Config.deviceId (8 * (a - 0x20)) 32)
  else if 0xA0020 ≤ a ∧ a < 0xA0030 ∧ a % 4 = 0 then BitVec.ofNat 32 (bitsAt Config.deviceId (8 * (a - 0xA0020)) 32)
  else if a ∈ [0x30001C, 0x30101C, 0x30201C, 0x30301C] then BitVec.ofNat 32 (Config.ptpLatency ((a - 0x30001C) / 0x1000))
  else if a = 0xF00C ∨ a = 0xF01C ∨ a = 0xF02C then 1#32
  else match findReg a with
    | some d => BitVec.ofNat 32 d.reset
    | none => 0#32

/-- The active word at an address. -/
def State.reg (s : State) (a : Nat) : Word := sget resetWord s.regs a

/-- Stores an active word. -/
def State.setReg (s : State) (a : Nat) (w : Word) : State := { s with regs := sput resetWord s.regs a w }

/-- One field of the active copy, as a number. -/
def State.fld (s : State) (f : Fld) : Nat := bitsAt (s.reg f.addr).toNat f.lo f.width

/-- One field, read as two's complement. -/
def State.sfld (s : State) (f : Fld) : Int := signed f.width (s.fld f)

/-- One field, read as a flag. -/
def State.flag (s : State) (f : Fld) : Bool := s.fld f != 0

/-- Writes one field of the active copy; the register's other bits stay. -/
def State.setFld (s : State) (f : Fld) (v : Nat) : State :=
  s.setReg f.addr (BitVec.ofNat 32 (putBits (s.reg f.addr).toNat f.lo f.width v))

/-- Adds to a counter field, which saturates at its largest value. -/
def State.addFld (s : State) (f : Fld) (n : Nat) : State :=
  s.setFld f (min (s.fld f + n) (2 ^ f.width - 1))

/-- The shadow word at an address: the shadow copy where one stands, else the active word (R44). -/
def State.shadowReg (s : State) (a : Nat) : Word := sget (fun k => s.reg k) s.shadow a

/-- The bits of a register that are written through its shadow copy (R44, R617). -/
def shadowMask (a : Nat) : Word :=
  match findReg a with
  | some d => BitVec.ofNat 32 d.rw ||| BitVec.ofNat 32 d.fw
  | none => 0#32

/-- A shadowed register as a read of its shadow copy shows it: the fields that are written, and the others as they stand. -/
def State.shadowView (s : State) (a : Nat) : Word :=
  (s.shadowReg a &&& shadowMask a) ||| (s.reg a &&& ~~~(shadowMask a))

/-- The address lies in one of the block ranges of Table 23-1 (base and limit). -/
def inRange (lo hi a : Nat) : Bool := decide (lo ≤ a) && decide (a ≤ hi)

/-- Returns every register of an address range to its reset word, shadow copies included. -/
def State.resetRange (s : State) (lo hi : Nat) : State :=
  { s with regs := sclear (inRange lo hi) s.regs, shadow := sclear (inRange lo hi) s.shadow }

/-- TICKNO as it stands. -/
def State.tickno (s : State) : Nat := s.fld F.TCK_TICKNO_TICKNO

/-! ### Where registers lie (Table 23-1, R614, R615) -/

/-- State of a power domain in PWR_DOMAIN: 0 off, 1 on, 2 low-power, 3 retention or self-refresh (R497). -/
def State.domain (s : State) (d : Nat) : Nat := bitsAt (s.fld F.PWR_DOMAIN_STATE) (2 * d) 2

/-- The power domain that holds the registers at an address: PD_AON 0, PD_CTL 1, PD_FAB 2; none where nothing is mapped. -/
def regDomain (a : Nat) : Option Nat :=
  if a < 0x10000 then some 1
  else if a < 0x20000 then some 0
  else if a < 0x40000 then some 1
  else if a < 0x50000 then some 2
  else if a < 0xB0000 then some 1
  else if a < 0x100000 then none
  else if a < 0x250000 then some 2
  else if a < 0x300000 then none
  else if a < 0x310000 then some 2
  else if a < 0x320000 then some 1
  else if a < 0x330000 then some 2
  else if a < 0x400000 then none
  else if a < 0x510000 then some 2
  else if a < 0x800000 then none
  else if a < 0x810000 then some 2
  else none

/-- An access that MAP logs, while the block runs: 0 unmapped, 1 domain in retention or off, 2 partial write. -/
def State.logAccess (s : State) (kind a : Nat) : State :=
  if s.domain 1 = 0 then s
  else ((s.addFld F.MAP_ERR_COUNT_COUNT 1).setFld F.MAP_ERR_ADDR_KIND kind).setFld F.MAP_ERR_ADDR_ADDR a

/-- The register bus reaches a register of the domain: outside PD_AON only while PD_CTL runs. -/
def State.busReaches (s : State) (d : Nat) : Bool := !s.pwr.off && (d == 0 || s.domain 1 != 0)

/-- A host write to a register acts, or is ignored and logged (R614, R615). -/
def State.onReg (s : State) (a : Nat) (f : State → State) : State :=
  match regDomain a with
  | none => s.logAccess 0 a
  | some d =>
    if !s.busReaches d then s
    else if s.domain d = 0 ∨ s.domain d = 3 then s.logAccess 1 a
    else f s

/-! ### Free values -/

/-- A fresh free value of `w` bits, and the state with the counter advanced: nothing constrains the value. -/
def State.fresh (s : State) (w : Nat) : Nat × State :=
  (Config.freeValue s.freeCtr % 2 ^ w, { s with freeCtr := s.freeCtr + 1 })

/-! ### What leaves the device -/

/-- A write to host memory by the device, byte by byte (log entry 2). -/
def State.hostWrite (s : State) (addr : Nat) (bs : List Byte) : State :=
  { s with hostMem := (bs.zip (List.range bs.length)).foldl (fun m (b, i) =>
    sput (fun _ => (0 : Byte)) m ((addr + i) % 2 ^ 64) b) s.hostMem }

/-- Host memory's canonical form: addresses strictly rising, and no byte listed that equals what an unlisted address reads as
(0, log entry 2). -/
def Memory.wf (m : List Host.Cell) : Bool := swf (fun _ => (0 : Byte)) m

/-- The byte of host memory at an address, as the device has left it. -/
def State.hostByte (s : State) (addr : Nat) : Byte := sget (fun _ => (0 : Byte)) s.hostMem addr

/-- Records something that leaves the device in this tick. -/
def State.emit (s : State) (o : Output) : State := { s with outbox := s.outbox ++ [o] }

/-- A PCIe interrupt's status and enable registers, by MSI-X vector: mailbox, Clematis, Lavender (R89, R425, R544). -/
def irqRegs (v : Nat) : Nat × Nat := [(0x90048, 0x9004C), (0x80008, 0x8000C), (0x50010, 0x50014)].getD v (0, 0)

/-- Some enabled status bit of a vector is set. -/
def State.irqOn (s : State) (v : Nat) : Bool := (s.reg (irqRegs v).1 &&& s.reg (irqRegs v).2) != 0#32

/-- One vector's message: sent, or held in the pending-bit array while the table masks the vector (R612). -/
def State.sendMsix (s : State) (v : Nat) : State :=
  let a := 0xF000 + 16 * v
  if (s.reg (a + 12)).toNat % 2 = 1 then s.setReg 0xF800 (BitVec.ofNat 32 (putBits (s.reg 0xF800).toNat v 1 1))
  else s.emit (.msix v ((s.reg a).toNat + 2 ^ 32 * (s.reg (a + 4)).toNat) (s.reg (a + 8)).toNat)

/-- Every vector that has come on since `old` sends its message. -/
def State.irqEdges (s old : State) : State :=
  (List.range 3).foldl (fun s v => if !old.irqOn v && s.irqOn v then s.sendMsix v else s) s

/-- A field of an interrupt status register changes. -/
def State.setIrq (s : State) (f : Fld) (v : Nat) : State := (s.setFld f v).irqEdges s

/-- A vector's table entry has been written: unmasked, it sends what is pending (R612). -/
def State.msixUnmask (s : State) (v : Nat) : State :=
  if bitAt (s.reg 0xF800).toNat v && (s.reg (0xF00C + 16 * v)).toNat % 2 == 0 then
    (s.setReg 0xF800 (BitVec.ofNat 32 (putBits (s.reg 0xF800).toNat v 1 0))).sendMsix v
  else s

/-- Adds an input item to the record of the open tick while the recorder is RECORDING (R547). -/
def State.noteItem (s : State) (i : RecItem) : State :=
  if s.fld F.REC_STATUS_STATE = 2 then { s with recd := { s.recd with items := s.recd.items ++ [i] } } else s

/-- The device is replaying (R556), and it is off air: replaying, or in POST_REPLAY (R558). -/
def State.replaying (s : State) : Bool := s.fld F.REC_STATUS_STATE == 4
def State.offAir (s : State) : Bool := s.replaying || s.fld F.REC_STATUS_STATE == 5

/-! ### Units, sources and events -/

/-- The source code of a unit: type in bits 11:8, index in bits 7:0 (R526). -/
def srcCode (ty ix : Nat) : Nat := 256 * ty + ix

/-- Inserts into a rising list without repeats. -/
def insertNat (l : List Nat) (x : Nat) : List Nat :=
  match l with
  | [] => [x]
  | y :: r => if y < x then y :: insertNat r x else if y = x then y :: r else x :: y :: r

/-- Is the unit with this source code retired? -/
def State.isRetired (s : State) (src : Nat) : Bool := s.fault.retired.contains src

/-- Raises an event at its source: the source's buffer holds four, and an event that finds it full is lost and counted
(R53, R54). Either way it was raised in the open tick (D_EV of Table 20-2). -/
def State.raiseEv (s : State) (e : Event) : State :=
  let s := { s with fault := { s.fault with raised := s.fault.raised ++ [e] } }
  if (s.ev.waiting.filter (fun x => x.source == e.source)).length < 4 then
    { s with ev := { s.ev with waiting := s.ev.waiting ++ [e] } }
  else
    let t := s.addFld F.TCK_ARB_DROP_COUNT 1
    { t with ev := { t.ev with
        srcDrops := sput (fun _ => 0) t.ev.srcDrops e.source (sget (fun _ => 0) t.ev.srcDrops e.source + 1) } }

/-- Raises an event of a block in the tick that is open (R53). -/
def State.raise (s : State) (code value source sev : Nat) : State :=
  s.raiseEv ⟨s.tickno, code, value % 2 ^ 32, source, sev, false, true⟩

end Sys2Proof.Machine
end

