-- ==== Sys2Proof/Machine/Commands.lean ====
section
/-!
DEFINITION. Sys2Proof/Machine/Commands.lean: the shared operations of Privi's commands: replies (R60, R61), result slots (R73,
R74), taking an accepted command up, completing it, and arming, discarding and numbering commits (R44-R49, R631).
-/
namespace Sys2Proof.Machine

/-- The code of a status, Table 03-7. -/
def Status.code : Status → Nat
  | .ok => 0x00 | .pending => 0x01 | .busy => 0x03 | .superseded => 0x04 | .late => 0x05
  | .badOpcode => 0x10 | .badLength => 0x11 | .badParam => 0x12 | .badCrc => 0x13 | .notPermitted => 0x14
  | .locked => 0x15 | .limit => 0x16 | .resourceRetired => 0x20 | .gateBusy => 0x21 | .wakeFail => 0x22
  | .timeout => 0x23 | .lateStart => 0x24 | .authFail => 0x30 | .internal => 0x3F

/-- The bytes of a reply, Table 03-2. -/
def replyBytes (opcode tag status rflags generation tick : Nat) (payload : List Byte) : List Byte :=
  let h := leBytes 1 0x70 ++ leBytes 1 0x02 ++ leBytes 2 opcode ++ leBytes 2 tag ++ leBytes 1 status ++
    leBytes 1 rflags ++ leBytes 2 generation ++ leBytes 2 payload.length ++ leBytes 4 tick ++ payload
  h ++ crcBytes h

/-- Slots of a ring whose size register holds `k` (R63). -/
def ringSlots (k : Nat) : Nat := 2 ^ k

/-- The reply ring has no room (R63). -/
def State.replyRingFull (s : State) : Bool :=
  decide (ringSlots (s.fld F.MBX_RPL_SIZE_LOG2) ≤
    (s.fld F.MBX_RPL_PROD_INDEX + 2 ^ 16 - s.fld F.MBX_RPL_CONS_INDEX) % 2 ^ 16)

/-- Stores Privi's state with the counts that MBX_STATUS and MBX_SLOT_USE show of it (Table 03-10). -/
def State.putPrivi (s : State) (p : PriviState) : State :=
  let t := { s with privi := p }
  let t := t.setFld F.MBX_SLOT_USE_USED p.slots.length
  let t := t.setFld F.MBX_SLOT_USE_GROUPS (p.groups.filter (fun g => decide (g.id < 65536))).length
  t.setFld F.MBX_STATUS_RPL_FULL (b2n (!p.pcieReplies.isEmpty && t.replyRingFull))

/-- A fronthaul port lets frames out: it is UP, and no remote fault lasts (Table 10-5). -/
def State.egressOpen (s : State) (k : Nat) : Bool := s.fld (F.ETH_STATUS_STATE k) == 2 && !s.flag (F.ETH_STATUS_REMOTE_FAULT k)

/-- Sends a reply on the transport of its command (R62); in-band, on the port that received it, whose egress may be discarded (R302). One that finds the SPI reply queue full waits (R64, log 139). -/
def State.sendReply (s : State) (via : Transport) (sender : ReplyTo) (bs : List Byte) : State :=
  match via with
  | .pcie => s.putPrivi { s.privi with pcieReplies := s.privi.pcieReplies ++ [bs] }
  | .spi =>
    if s.privi.spiReplies.length < 8 then s.putPrivi { s.privi with spiReplies := s.privi.spiReplies ++ [bs] }
    else s.putPrivi { s.privi with spiWait := s.privi.spiWait ++ [bs] }
  | .inband => if s.egressOpen sender.port then s.emit (.inband sender bs) else s

/-- The control system is not in NORMAL (R61): the DEGRADED flag of a command that completes now. -/
def State.degraded (s : State) : Bool := s.fld F.MBX_STATUS_MODE != 0

/-- RFLAGS of a reply (R61). -/
def rflagsOf (rep deg part : Bool) : Nat := b2n rep + 2 * b2n deg + 4 * b2n part

/-- Sends a reply that no slot stores. The spec gives such a reply no generation: it is a free value (log entry 6). -/
def State.sendUnstored (s : State) (via : Transport) (sender : ReplyTo) (opcode tag : Nat) (st : Status)
    (payload : List Byte) (tick : Option Nat) : State :=
  let (g, s) := s.fresh 16
  match tick with
  | some t => s.sendReply via sender (replyBytes opcode tag st.code (rflagsOf false s.degraded false) g t payload)
  | none =>
    let (t, s) := s.fresh 32
    s.sendReply via sender (replyBytes opcode tag st.code (rflagsOf false s.degraded false) g t payload)

/-- The slot of a tag, where one is in use (R73). -/
def State.slotOf (s : State) (tag : Nat) : Option Slot := s.privi.slots.find? (fun x => x.tag == tag)

/-- Replaces the slot of a tag; none frees it. -/
def putSlot (l : List Slot) (tag : Nat) (n : Option Slot) : List Slot :=
  match l with
  | [] => n.toList
  | x :: r => if x.tag == tag then n.toList ++ r else x :: putSlot r tag n

/-- Records what a command ends with; its result is stored when COMMAND_COMPLETE runs. The first end stands. -/
def State.finish (s : State) (tag : Nat) (o : Outcome) : State :=
  match s.slotOf tag with
  | some x =>
    if (x.st = .pending ∨ x.st = .releasing) ∧ x.outcome = none then
      s.putPrivi { s.privi with slots := putSlot s.privi.slots tag (some { x with outcome := some o }) }
    else s
  | none => s

/-- A command ends in the open tick. -/
def State.finishNow (s : State) (tag : Nat) (st : Status) (payload : List Byte) : State :=
  s.finish tag ⟨st, false, payload, s.tickno⟩

/-- A command that acted on part of its units ends in the open tick (R61). -/
def State.finishPart (s : State) (tag : Nat) (st : Status) (part : Bool) (payload : List Byte) : State :=
  s.finish tag ⟨st, part, payload, s.tickno⟩

/-- Stores the result of a command that has ended (Table 03-5): the next generation, READY or READ, the reply if ACK_REQ
is set, and a RELEASING slot freed. -/
def State.storeResult (s : State) (tag : Nat) : State :=
  match s.slotOf tag with
  | none => s
  | some x =>
    match x.outcome with
    | none => s
    | some o =>
      let deg := s.degraded
      if x.st = .pending then
        let g := (s.fld F.MBX_RES_GEN_GEN + 1) % 2 ^ 16
        let s := s.setFld F.MBX_RES_GEN_GEN g
        let y := { x with st := if x.ackReq then .read else .ready, generation := g, degraded := deg }
        let s := s.putPrivi { s.privi with slots := putSlot s.privi.slots tag (some y) }
        if x.ackReq then
          s.sendReply x.via x.sender
            (replyBytes x.opcode x.tag o.status.code (rflagsOf false deg o.part) g o.tick o.payload)
        else s
      else if x.st = .releasing then
        let s := s.putPrivi { s.privi with slots := putSlot s.privi.slots tag none }
        if x.ackReq then
          let (g, s) := s.fresh 16
          s.sendReply x.via x.sender
            (replyBytes x.opcode x.tag o.status.code (rflagsOf false deg o.part) g o.tick o.payload)
        else s
      else s

/-- The reply a result read returns, and the slot's change (Table 03-5); a RELEASING slot answers PENDING (log 160). -/
def State.readResult (s : State) (tag : Nat) : List Byte × State :=
  match s.slotOf tag with
  | none =>
    let (g, s) := s.fresh 16
    let (t, s) := s.fresh 32
    (replyBytes 0 tag Status.badParam.code 0 g t [], s)
  | some x =>
    match x.st, x.outcome with
    | .ready, some o =>
      (replyBytes x.opcode x.tag o.status.code (rflagsOf false x.degraded o.part) x.generation o.tick o.payload,
        s.putPrivi { s.privi with slots := putSlot s.privi.slots tag (some { x with st := .read }) })
    | .read, some o =>
      (replyBytes x.opcode x.tag o.status.code (rflagsOf true x.degraded o.part) x.generation o.tick o.payload, s)
    | _, _ =>
      let (g, s) := s.fresh 16
      let (t, s) := s.fresh 32
      (replyBytes x.opcode x.tag Status.pending.code 0 g t [], s)

/-! ### Accepted commands -/

/-- The operation a payload names in byte 0. -/
def Cmd.op (c : Cmd) : Nat := leAt c.payload 0 1

/-- ACK_REQ, ATOMIC_GROUP, DRY_RUN and LATE_OK of the flags (Table 03-1). -/
def Cmd.ackReq (c : Cmd) : Bool := bitAt c.flags 0
def Cmd.atomic (c : Cmd) : Bool := bitAt c.flags 1
def Cmd.dryRun (c : Cmd) : Bool := bitAt c.flags 2
def Cmd.lateOk (c : Cmd) : Bool := bitAt c.flags 3

/-- Drops the first command with this opcode and tag. -/
def dropCmd (l : List Cmd) (opcode tag : Nat) : List Cmd :=
  match l with
  | [] => []
  | x :: r => if x.opcode == opcode && x.tag == tag then r else x :: dropCmd r opcode tag

/-- The accepted command of an opcode and tag that the row performs. -/
def State.acceptedCmd (s : State) (opcode tag : Nat) : Option Cmd :=
  s.privi.accepted.find? (fun c => c.opcode == opcode && c.tag == tag)

/-- Takes a command off the accepted list. -/
def State.takeCmd (s : State) (c : Cmd) : State :=
  s.putPrivi { s.privi with accepted := dropCmd s.privi.accepted c.opcode c.tag }

/-- The commands whose executed starts enter the configuration measurement: PATH, BF, DPD, PRACH, FH, LANE, CAS, CAL, HK,
CLK and PWR (R578). -/
def measuredStart (opcode : Nat) : Bool :=
  [0x0200, 0x0201, 0x0300, 0x0502, 0x0600, 0x0603, 0x0681, 0x0700, 0x0800, 0x0801, 0x0802, 0x0803, 0x0901,
   0x0A00, 0x0A01, 0x0A02].contains opcode

/-- Extends the configuration measurement: C becomes SHA-384 of C, the opcode and the payload (R578). -/
def State.measureCmd (s : State) (opcode : Nat) (payload : List Byte) : State :=
  { s with sec := { s.sec with
      measure := sha384 (s.sec.measure ++ leBytes 2 opcode ++ payload)
      measured := (s.sec.measured + 1) % 2 ^ 32 } }

/-- Performs an accepted start command (R69): not before its target tick, and nothing where no such command was accepted.
`sel` tells operations of one opcode apart by their payload. -/
def State.performStart (s : State) (opcode tag : Nat) (sel : Cmd → Bool) (f : Cmd → State → State) : State :=
  match s.acceptedCmd opcode tag with
  | none => s
  | some c =>
    if sel c && !tickAfter c.actTick s.tickno then
      let t := s.takeCmd c
      f c (if measuredStart opcode then t.measureCmd opcode c.payload else t)
    else s

/-- Performs an accepted commit command: nothing where no such command was accepted. -/
def State.performCommit (s : State) (opcode tag : Nat) (sel : Cmd → Bool) (f : Cmd → State → State) : State :=
  match s.acceptedCmd opcode tag with
  | none => s
  | some c => if sel c then f c (s.takeCmd c) else s

/-- Every payload of the opcode is this row's. -/
def anyOp (_ : Cmd) : Bool := true

/-- The row performs operation `n`. -/
def isOp (n : Nat) (c : Cmd) : Bool := c.op == n

/-! ### Commits -/

/-- The tick a commit can still take: its own, or the next boundary's where that has been opened already. -/
def State.commitTick (s : State) (t : Nat) : Nat :=
  if tickAfter t s.tickno then t else tickAdd s.tickno 1

/-! ### Frequency entries -/

def State.freqEntry (s : State) (e : Nat) : FreqEntry := sget (fun _ => FreqEntry.undefined) s.tx.freqs e

/-- The active entry of a receive path, and of a transmit path. -/
def State.rxEntry (s : State) (p : Nat) : Nat := sget (fun _ => 0) s.rx.entry p
def State.txEntry (s : State) (p : Nat) : Nat := s.fld (F.TXP_FREQ_ENTRY p)

/-- The words of NCO_LO and NCO_HI that a path's streams take from its active entry (R123). -/
def State.rxWords (s : State) (p : Nat) : List (Fld × Nat) :=
  (List.range 4).flatMap (fun k =>
    let w := (s.freqEntry (s.rxEntry p)).rx.getD k 0
    [(F.RXP_STR_NCO_LO_WORD p k, w % 2 ^ 32), (F.RXP_STR_NCO_HI_WORD p k, w / 2 ^ 32)])

def State.txWords (s : State) (p : Nat) : List (Fld × Nat) :=
  (List.range 4).flatMap (fun k =>
    let w := (s.freqEntry (s.txEntry p)).tx.getD k 0
    [(F.TXP_STR_NCO_LO_WORD p k, w % 2 ^ 32), (F.TXP_STR_NCO_HI_WORD p k, w / 2 ^ 32)])

/-- The frequency entries, and the entry in use on each path, as a change leaves them. -/
def State.entryAfter (s : State) (c : Change) : State :=
  match c with
  | .select p rx tx e =>
    let s := if rx then { s with rx := { s.rx with entry := sput (fun _ => 0) s.rx.entry p e } } else s
    if tx then s.setFld (F.TXP_FREQ_ENTRY p) e else s
  | .define n e => { s with tx := { s.tx with freqs := sput (fun _ => FreqEntry.undefined) s.tx.freqs n e } }
  | _ => s

/-- The bits of a field, as the mask of its register. -/
def Fld.mask (f : Fld) : Nat := 2 ^ f.lo * (2 ^ f.width - 1)

/-- The fields of shadowed registers that a change carries: address, mask and value. -/
def Change.regs (c : Change) : List (Nat × Nat × Nat) :=
  match c with
  | .reg a m v => [(a, m, v)]
  | .gain p mode atten dgain comp =>
    [((F.RXP_GAIN_MODE p).addr, 0x3F01FFFF, comp * 2 ^ 29 + atten * 2 ^ 24 + mode * 2 ^ 16 + encode2c 16 dgain)]
  | .power p step bm => [((F.TXP_POWER_STEP p).addr, 0xF3F, step + 256 * bm)]
  | .mask p k flags _ => [((F.TXP_STR_SHAPE_MASK_EN p k).addr, 0x1800, flags % 2 * 2 ^ 12 + flags / 2 % 2 * 2 ^ 11)]
  | .opPoint code => [(0x20008, 3, code)]
  | _ => []

/-- The same with the NCO words of the paths that a selection or a definition of frequency entries reaches; `v` has the entries as
the change leaves them (R44, R123, R617). -/
def State.changeRegs (v : State) (c : Change) : List (Nat × Nat × Nat) :=
  let words := fun (l : List (Fld × Nat)) => l.map (fun (w : Fld × Nat) => (w.1.addr, Fld.mask w.1, 2 ^ w.1.lo * (w.2 % 2 ^ w.1.width)))
  match c with
  | .select p rx tx _ => (if rx then words (v.rxWords p) else []) ++ (if tx then words (v.txWords p) else [])
  | .define n _ => (List.range 64).flatMap (fun p =>
      (if v.rxEntry p = n then words (v.rxWords p) else []) ++ (if v.txEntry p = n then words (v.txWords p) else []))
  | _ => c.regs

/-- What changes carry, in order; `v` has the frequency entries as they stand before them. -/
def State.changesRegs (v : State) (chs : List Change) : List (Nat × Nat × Nat) :=
  match chs with
  | [] => []
  | c :: r => (v.entryAfter c).changeRegs c ++ (v.entryAfter c).changesRegs r

/-- The masked bits of a word replaced. -/
def maskWord (old mask value : Nat) : Word :=
  (BitVec.ofNat 32 old &&& ~~~ (BitVec.ofNat 32 mask)) ||| (BitVec.ofNat 32 value &&& BitVec.ofNat 32 mask)

/-- A write reaches the shadow copy of a register (R44). -/
def State.writeShadow (s : State) (a m v : Nat) : State :=
  { s with shadow := sput (fun k => s.reg k) s.shadow a (maskWord (s.shadowReg a).toNat m v) }

/-- A field that a commit loads from contents: its active and its shadow copy take the value, unless host software has written the
shadow copy since, whose value the commit then copies (R44, R48). -/
def State.loadFld (s : State) (f : Fld) (v : Nat) : State :=
  if s.hostDirty.contains f.addr then s.setFld f (bitsAt (s.shadowReg f.addr).toNat f.lo f.width)
  else (s.setFld f v).writeShadow f.addr (Fld.mask f) (2 ^ f.lo * (v % 2 ^ f.width))

/-- The shadow copies take what changes carry, in order, after the changes `first`; a register they write whole holds no write of
the host's any more. -/
def State.markShadow (s : State) (first chs : List Change) : State :=
  ((first.foldl State.entryAfter s).changesRegs chs).foldl (fun s r =>
    let s := s.writeShadow r.1 r.2.1 r.2.2
    if r.2.1 = 2 ^ 32 - 1 then { s with hostDirty := s.hostDirty.filter (fun a => a != r.1) } else s) s

/-- Puts a commit among the armed ones in acceptance order (R46, R48). -/
def insertCommit (l : List Commit) (k : Commit) : List Commit :=
  match l with
  | [] => [k]
  | x :: r => if k.seq < x.seq then k :: x :: r else x :: insertCommit r k

/-- A commit is armed: its writes, and then those of commits accepted later, stand in the shadow copies (R44, R48). -/
def State.armCommit (s : State) (k : Commit) : State :=
  let s := { s.noteItem (.arm { k with results := [], late := [] }) with armed := insertCommit s.armed k }
  let earlier := s.armed.filter (fun x => tickAfter k.tick x.tick || (x.tick == k.tick && decide (x.seq < k.seq)))
  s.markShadow (earlier.flatMap (·.changes)) (k.changes ++ (s.armed.filter (fun x => decide (k.seq < x.seq))).flatMap (·.changes))

/-- Arms a commit of a command (R44): what it changes at its tick, and the command's result once it is applied. -/
def State.armCmd (s : State) (c : Cmd) (units : List CommitUnit) (changes : List Change) (bulk : List (Nat × Nat))
    (st : Status) (part : Bool) (payload : List Byte) : State :=
  let t := s.commitTick c.actTick
  s.armCommit ⟨t, c.seq, .command, units, changes, bulk, [(c.tag, ⟨st, part, payload, t⟩)], []⟩

/-- A commit unit has a commit pending for a tick other than `t` (R48). -/
def State.unitBusy (s : State) (t : Nat) (u : CommitUnit) : Bool :=
  s.armed.any (fun k => k.tick != t && k.units.contains u)

/-- Bits queued toward a converter die, in ticks of the bulk auxiliary share (R46, Table 01-4). -/
def bulkShare : Nat := 24576

/-- Bits waiting for, or crossing to, a die. -/
def State.bulkQueued (s : State) (die : Nat) : Nat :=
  s.armed.foldl (fun a k => (k.bulk.filter (fun b => b.1 == die)).foldl (fun a b => a + b.2) a) 0

/-- The earliest commit tick E of R46 for content of `bulk` bits per die, accepted in the open tick. -/
def State.earliest (s : State) (bulk : List (Nat × Nat)) : Nat :=
  let d := bulk.foldl (fun m b =>
    if b.2 = 0 then m else max m (ceilDiv (s.bulkQueued b.1 + b.2) bulkShare + 1)) 2
  tickAdd s.tickno d

/-- One tick of crossing: each die's queue, in acceptance order, loses a share of 24,576 bits (R46). -/
def crossOne (l : List Commit) (die left : Nat) : List Commit :=
  match l with
  | [] => []
  | k :: r =>
    let q := (k.bulk.filter (fun b => b.1 == die)).foldl (fun a b => a + b.2) 0
    let take := min q left
    let rest := k.bulk.filter (fun b => b.1 != die)
    { k with bulk := if q - take = 0 then rest else rest ++ [(die, q - take)] } :: crossOne r die (left - take)

/-- The crossing of one tick on all four links. -/
def crossBulk (l : List Commit) : List Commit :=
  (List.range 4).foldl (fun l d => crossOne l d bulkShare) l

/-- Discards commits: their commands complete with TIMEOUT, in their commit tick (R70), and a host commit reads `hostResult`
(R38, R628). -/
def State.discard (s : State) (ks : List Commit) (hostResult : Nat) : State :=
  let s := if ks.isEmpty then s else s.noteItem (.cancel (ks.map (·.seq)))
  ks.foldl (fun s k =>
    let s := k.results.foldl (fun s r => s.finish r.1 ⟨.timeout, false, [], r.2.tick⟩) s
    if k.owner = .host then s.setFld F.TCK_COMMIT_STAT_RESULT hostResult else s) s

/-- Discards every armed commit, on entry to HELD (R38). -/
def State.discardAll (s : State) : State :=
  { s.discard s.armed 5 with armed := [] }

end Sys2Proof.Machine
end

