-- ==== Sys2Proof/Machine/Crocus.lean ====
section
/-!
DEFINITION. Sys2Proof/Machine/Crocus.lean: the tick sequencer's own operations (R33-R43): its states, starting, holding and
resuming the count, overruns, and the host commit of R57.
-/
namespace Sys2Proof.Machine

/-- Crocus's states, in the code of TCK_STATUS.STATE. -/
inductive TickMode where
  | stopped | free | aligned | held
deriving DecidableEq, Repr

def TickMode.code : TickMode → Nat
  | .stopped => 0 | .free => 1 | .aligned => 2 | .held => 3

def TickMode.ofCode : Nat → TickMode
  | 0 => .stopped | 1 => .free | 2 => .aligned | _ => .held

def State.tickMode (s : State) : TickMode := .ofCode (s.fld F.TCK_STATUS_STATE)

/-- Crocus counts (R34). -/
def State.counting (s : State) : Bool := s.tickMode = .free ∨ s.tickMode = .aligned

def State.setTickMode (s : State) (m : TickMode) : State := s.setFld F.TCK_STATUS_STATE m.code

/-- An event whose value the spec does not state: the value is free (log entry 5). -/
def State.raiseFree (s : State) (code source sev : Nat) : State :=
  let (v, s) := s.fresh 32
  s.raise code v source sev

/-- Event severities (R626). -/
def sevDebug : Nat := 0
def sevInfo : Nat := 1
def sevNotice : Nat := 2
def sevWarning : Nat := 3
def sevError : Nat := 4
def sevCritical : Nat := 5

/-- The source of a core-die block (type 14): a block ID, 16 Lavender or 17 other (Table 19-1). -/
def srcBlock (b : Nat) : Nat := srcCode 14 b
def srcOther : Nat := srcCode 14 17

/-- Engines as Crocus stops counting: they do no work until the next boundary, and the tick does not count as an overrun (R400). -/
def State.holdEngines (s : State) : State :=
  { s with eng := { s.eng with engines := s.eng.engines.map (fun e => (e.1, { e.2 with begun := false, ended := true })) } }

/-- Counting stops with TICKNO held, and pending commits are discarded (Table 02-1, R38); an alignment or a comparator's
load that waits for its boundary stays waiting (log 157). -/
def State.holdTick (s : State) (byRef : Bool) : State :=
  let s := { s with tick := { s.tick with
    heldRef := s.tick.heldRef || byRef, heldFab := s.tick.heldFab || !byRef } }
  if s.counting then
    let s := s.setTickMode .held
    let s := s.discardAll.holdEngines
    let s := { s with clk := { s.clk with opChange := none } }
    let s := s.setFld F.CLK_STATUS_SEQ_BUSY 0
    s.raiseFree 0x1004 srcOther (if byRef then sevError else sevInfo)
  else s

/-- The fabric clock is valid again: counting resumes at the held TICKNO plus 1, in FREE (Table 02-1). -/
def State.resumeTick (s : State) (byRef : Bool) : State :=
  let s := { s with tick := { s.tick with
    heldRef := s.tick.heldRef && !byRef, heldFab := s.tick.heldFab && byRef } }
  if s.tickMode = .held ∧ s.tick.heldRef = false ∧ s.tick.heldFab = false then s.setTickMode .free else s

/-- RUN set to 1 (Table 02-1): FREE if the fabric loop is locked, else RUN returns to 0 and TICK_START_REFUSED. In the other
states the field takes the write, and nothing else follows. -/
def State.startTick (s : State) : State :=
  if s.tickMode = .stopped then
    if s.fld (F.CLK_LOOP_STATUS_STATE 4) = 3 then
      { (s.setFld F.TCK_CTRL_RUN 1).setTickMode .free with tick := { s.tick with first := true } }
    else (s.setFld F.TCK_CTRL_RUN 0).raiseFree 0x1001 srcOther sevError
  else s.setFld F.TCK_CTRL_RUN 1

/-- Frame arithmetic of R34: the next FRAME_TICK and SFN. -/
def nextFrame (ft sfn : Nat) : Nat × Nat :=
  if ft + 1 = 38400 then (0, (sfn + 1) % 1024) else (ft + 1, sfn)

/-- Cycles per tick of the fabric at an operating point (Table 02-2, Table 15-5). -/
def opCycles (op : Nat) : Nat :=
  match op with
  | 0 => 384
  | 1 => 256
  | _ => 128

/-- Cycles per tick of a tick-scheduled block at the point in force (Table 02-2). -/
def State.blockCycles (s : State) (b : Nat) : Nat :=
  if b = 14 ∨ b = 15 then 256 else opCycles (s.fld F.CLK_STATUS_OP)

/-- A block has overrun (R42): the event, the count, the last overrun and PEAK. The caller applies Table 02-4. -/
def State.noteOverrun (s : State) (b unit : Nat) : State :=
  let s := s.addFld F.TCK_OVR_COUNT_COUNT 1
  let s := s.setFld F.TCK_OVR_LAST_TICK_LO (s.tickno % 2 ^ 16)
  let s := s.setFld F.TCK_OVR_LAST_UNIT unit
  let s := s.setFld F.TCK_OVR_LAST_BLOCK b
  let s := s.setFld (F.TCK_LOAD_PEAK b) (max (s.fld (F.TCK_LOAD_PEAK b)) (s.blockCycles b))
  s.raise 0x1005 (b % 16 + 256 * (unit % 256)) (srcBlock b) sevWarning

/-- Cycles a block used in a tick: PEAK keeps the most since PEAK_CLR (R627). -/
def State.notePeak (s : State) (b used : Nat) : State :=
  s.setFld (F.TCK_LOAD_PEAK b) (max (s.fld (F.TCK_LOAD_PEAK b)) (used % 2 ^ 16))

/-- TCK_CTRL.PEAK_CLR: every PEAK to 0, those of the quads and engines included (Tables 02-8, 04-12, 05-14, 13-13). -/
def State.clearPeaks (s : State) : State :=
  let s := (List.range 16).foldl (fun s b => s.setFld (F.TCK_LOAD_PEAK b) 0) s
  let s := (List.range 16).foldl (fun s n => s.setFld (F.QFE_LOAD_PEAK n) 0) s
  let s := (List.range 16).foldl (fun s n => s.setFld (F.QFE_TX_LOAD_PEAK n) 0) s
  (List.range 16).foldl (fun s e => s.setFld (F.LE_CYCLES_PEAK e) 0) s

/-! ### The host commit (R57) -/

/-- The commit unit of a shadowed register (Table 02-9, Table 23-6). -/
def unitOfReg (a : Nat) : Option CommitUnit :=
  if inRange 0x100000 0x13FFFF a then some (.rxPath ((a - 0x100000) / 0x1000))
  else if inRange 0x140000 0x17FFFF a then some (.txPath ((a - 0x140000) / 0x1000))
  else if inRange 0x200100 0x2002FF a then
    let n := (a - 0x200100) / 0x40
    some (.bfCarrier (decide (4 ≤ n)) (n % 4))
  else if inRange 0x200300 0x20037F a then some (.ulBeam ((a - 0x200300) / 4))
  else if inRange 0x200380 0x2003FF a then some (.dlLayer ((a - 0x200380) / 4))
  else if inRange 0x230100 0x23017F a then some (.prach ((a - 0x230100) / 0x20))
  else if inRange 0x240100 0x24013F a then some (.cmpCarrier false ((a - 0x240100) / 0x10))
  else if inRange 0x240200 0x24023F a then some (.cmpCarrier true ((a - 0x240200) / 0x10))
  else if inRange 0x320000 0x320007 a then some .cascade
  else if a = 0x20020 ∨ a = 0x20024 then some .outputDividers
  else if a = 0x20008 then some .operatingPoint
  else none

/-- The units of the shadowed registers host software has written and not yet committed. -/
def State.hostUnits (s : State) : List CommitUnit := (s.hostDirty.filterMap unitOfReg).eraseDups

/-- ARM: a host commit at TCK_COMMIT_TICK under R46 to R49, with E always n + 2 (R57). While one is armed, an ARM for the same
tick merges with it and one for another tick is busy (R48, log 134). What host software has written stays noted until it is applied. -/
def State.armHostCommit (s : State) : State :=
  let t := s.fld F.TCK_COMMIT_TICK_TICK
  if tickBefore t (tickAdd s.tickno 2) then s.setFld F.TCK_COMMIT_STAT_RESULT 3
  else if s.armed.any (fun k => k.owner = CommitOwner.host ∧ k.tick ≠ t) ∨ s.hostUnits.any (s.unitBusy t) then
    s.setFld F.TCK_COMMIT_STAT_RESULT 6
  else
    let ch := s.hostDirty.map (fun a => Change.reg a (shadowMask a).toNat (s.shadowReg a).toNat)
    let s := s.setFld F.TCK_COMMIT_STAT_RESULT 1
    let s := { s with privi := { s.privi with nextSeq := s.privi.nextSeq + 1 } }
    { ({ s with armed := s.armed.filter (fun k => k.owner != CommitOwner.host) }).armCommit
        ⟨t, s.privi.nextSeq - 1, CommitOwner.host, s.hostUnits, ch, [], [], []⟩ with
      hostDirty := s.hostDirty }

/-- CANCEL: up to and including tick c - 2 the armed host commit is dropped; its shadow copies stay (R49). -/
def State.cancelHostCommit (s : State) : State :=
  match s.armed.find? (fun k => k.owner = .host) with
  | some k =>
    if tickAfter k.tick (tickAdd s.tickno 1) then
      { (s.noteItem (.cancel [k.seq])).setFld F.TCK_COMMIT_STAT_RESULT 4 with
        armed := s.armed.filter (fun x => x.owner != CommitOwner.host) }
    else s
  | none => s

/-- A read of TCK_EVSEQ_LO returns bits 31:0 of the next EVSEQ and latches bits 63:32 into TCK_EVSEQ_HI (R57). -/
def State.readEvseqLo (s : State) : Nat × State :=
  (s.ev.evseq % 2 ^ 32, s.setFld F.TCK_EVSEQ_HI_VALUE (s.ev.evseq / 2 ^ 32))

end Sys2Proof.Machine
end

