-- ==== Sys2Proof/Machine/Kraolien.lean ====
section
/-!
DEFINITION. Sys2Proof/Machine/Kraolien.lean: signed objects (Table 21-1), the checks of R569 in their order, key slots (R568,
R570) and the rules of key records and unlock tokens (Tables 21-3, 21-5).
-/
namespace Sys2Proof.Machine

/-- Fields of a signed object (Table 21-1). -/
def objKind (b : List Byte) : Nat := leAt b 4 1
def objSlot (b : List Byte) : Nat := leAt b 5 1
def objSvn (b : List Byte) : Nat := leAt b 6 1
def objLen (b : List Byte) : Nat := leAt b 8 4
def objVersion (b : List Byte) : Nat := leAt b 12 4
def objBody (b : List Byte) : List Byte := slice b 512 (objLen b)

/-- The body length of a kind. -/
def bodyLenOk (kind n : Nat) : Bool :=
  match kind with
  | 0 => decide (n ≤ 2097152)
  | 1 => decide (n ≤ 327744)
  | 2 => n == 52
  | 3 => n == 56
  | _ => false

/-- Reason 1: MAGIC, KIND, the length rules and the zero fields. -/
def objFormOk (b : List Byte) : Bool :=
  let k := objKind b
  leAt b 0 4 == 0x4B524C02 && decide (k < 4) && b.length == 17120 + objLen b && bodyLenOk k (objLen b) &&
  zeroAt b 7 1 && zeroAt b 500 12 && decide (objSvn b ≤ 64) && (decide (k < 2) || (objSvn b == 0 && objVersion b == 0))

def KeySlot.code : KeySlot → Nat
  | .empty => 0 | .programmed => 1 | .revoked => 2

def State.keySlot (s : State) (i : Nat) : KeySlot := s.sec.keys.getD i .empty
def State.slotHash (s : State) (i : Nat) : List Byte := sget Config.slotHash s.sec.keyHash i

/-- Classes: vendor slots 0-3 and owner slots 4-7. -/
def ownerSlot (i : Nat) : Bool := decide (4 ≤ i)

/-- Reason 3: what a slot may sign (R570). -/
def maySign (b : List Byte) : Bool :=
  !ownerSlot (objSlot b) ||
  (match objKind b with
   | 1 => decide (0x8000 ≤ objVersion b % 2 ^ 16)
   | 2 => ownerSlot (leAt (objBody b) 1 1)
   | 3 => true
   | _ => false)

/-- Programmed slots of a class other than `i`. -/
def State.programmedBeside (s : State) (i : Nat) : Nat :=
  ((List.range 8).filter (fun j => j != i && ownerSlot j == ownerSlot i && s.keySlot j == .programmed)).length

/-- A key record's body (Table 21-3). -/
def State.recordOk (s : State) (b : List Byte) : Bool :=
  let d := objBody b
  let t := leAt d 1 1
  decide (leAt d 0 1 < 2 ∧ t < 8) && zeroAt d 2 2 && (!ownerSlot (objSlot b) || ownerSlot t) &&
  (if leAt d 0 1 = 0 then s.keySlot t == .empty
   else s.keySlot t == .programmed && zeroAt d 4 48 && t != objSlot b && s.programmedBeside t != 0)

/-- An unlock token's body (Table 21-5). -/
def State.tokenOk (s : State) (b : List Byte) : Bool :=
  let d := objBody b
  leAt d 0 16 == Config.deviceId % 2 ^ 128 && s.sec.challenge == some (slice d 16 32) &&
  decide (0 < leAt d 48 1 ∧ leAt d 48 1 < 16) && zeroAt d 49 3 && decide (1 ≤ leAt d 52 4 ∧ leAt d 52 4 ≤ 86400)

/-- The first reason of R569 for which an object fails; none where it passes. The verdicts of the two signature algorithms
come from outside (RSASSA-PSS and SLH-DSA are published standards). -/
def State.objReason (s : State) (b : List Byte) (v : SigVerdict) : Option Nat :=
  if !objFormOk b then some 1
  else if !(decide (objSlot b < 8) && s.keySlot (objSlot b) == .programmed && s.slotHash (objSlot b) == sha384 (slice b 64 436)) then
    some 2
  else if !maySign b then some 3
  else if sha384 (objBody b) != slice b 16 48 then some 4
  else if !v.rsa then some 5
  else if !v.slh then some 6
  else if objKind b < 2 ∧ objSvn b < s.sec.arc then some 7
  else if (objKind b = 2 ∧ !s.recordOk b) ∨ (objKind b = 3 ∧ !s.tokenOk b) then some 8
  else none

/-- A failure of R569: counted, kept and reported. -/
def State.authFail (s : State) (kind reason : Nat) : State :=
  let s := (s.addFld F.SEC_AUTH_FAILS_COUNT 1).setFld F.SEC_LAST_FAIL_KIND kind
  (s.setFld F.SEC_LAST_FAIL_REASON reason).raise 0xE802 (256 * (kind % 256) + reason) srcOther sevWarning

/-- SEC_SLOTS shows the slots' states. -/
def State.refreshSlots (s : State) : State :=
  s.setFld F.SEC_SLOTS_STATE ((List.range 8).foldl (fun a i => a + (s.keySlot i).code * 4 ^ i) 0)

/-- The scope of a maintenance unlock in force has bit `b` (R579). -/
def State.unlocked (s : State) (b : Nat) : Bool := s.fld F.SEC_STATUS_UNLOCK == 2 && bitAt (s.fld F.SEC_STATUS_SCOPE) b

/-! ### Kernels in the store (R397, R398, Table 13-9) -/

/-- The kernel ID an object's VERSION holds (Table 21-1). -/
def objKernelId (b : List Byte) : Nat := objVersion b % 2 ^ 16

/-- The stored object of a kernel ID. -/
def State.kernelObj (s : State) (id : Nat) : Option (List Byte) :=
  (s.sec.kernels.find? (fun e => objKernelId e.2 == id)).map Prod.snd

/-- R569 on an object that is to be of kind `kind`: another KIND fails reason 1. -/
def State.kindReason (s : State) (kind : Nat) (b : List Byte) (v : SigVerdict) : Option Nat :=
  if objKind b = kind then s.objReason b v else some 1

/-- A kernel image's own rules: MAGIC, CLASS, sizes within the memories, and a body of that length. -/
def kernelOk (k : List Byte) : Bool :=
  leAt k 0 4 == 0x4B50554C && decide (leAt k 8 1 < 2 ∧ leAt k 9 1 < 2 ∧ 1 ≤ leAt k 12 2 ∧ leAt k 12 2 ≤ 8192 ∧
    leAt k 14 2 ≤ 32768 ∧ leAt k 16 2 ≤ 32768 ∧ 64 + 8 * leAt k 12 2 + 4 * (leAt k 14 2 + leAt k 16 2) ≤ k.length)

end Sys2Proof.Machine
end

