-- ==== Sys2Proof/Machine/Flags.lean ====
section
/-!
DEFINITION. Sys2Proof/Machine/Flags.lean: rounding, saturation and scaling as the data path does them (R10, R102, R106), the
sample qualifiers (R115, R116), the receive decimator (R101) and the FIR of the shaping and channel filters (R106, R140).
-/
namespace Sys2Proof

/-! ### Complex integers -/

def Cplx.add (a b : Cplx) : Cplx := ⟨a.re + b.re, a.im + b.im⟩
def Cplx.mul (a b : Cplx) : Cplx := ⟨a.re * b.re - a.im * b.im, a.re * b.im + a.im * b.re⟩
def Cplx.conj (a : Cplx) : Cplx := ⟨a.re, -a.im⟩
def Cplx.scale (k : Int) (a : Cplx) : Cplx := ⟨k * a.re, k * a.im⟩
def Cplx.map (f : Int → Int) (a : Cplx) : Cplx := ⟨f a.re, f a.im⟩
/-- Squared magnitude. -/
def Cplx.norm (a : Cplx) : Nat := (a.re * a.re + a.im * a.im).toNat

end Sys2Proof

namespace Sys2Proof.Machine

/-! ### Rounding and saturation -/

/-- `a / 2^n`, ties to the even value (convergent rounding, R106). -/
def roundEven (a : Int) (n : Nat) : Int :=
  let q := a / (2 ^ n : Nat)
  let r := 2 * (a % (2 ^ n : Nat))
  if r < (2 ^ n : Nat) then q
  else if ((2 ^ n : Nat) : Int) < r then q + 1
  else if q % 2 = 0 then q else q + 1

/-- `a * 2^k` for `k` of either sign, divided by `2^n` with convergent rounding. -/
def scaleRound (a : Int) (k : Int) (n : Nat) : Int :=
  if 0 ≤ k then roundEven (a * (2 ^ k.toNat : Nat)) n else roundEven a (n + (-k).toNat)

/-- A quotient that the spec does not say how to round: itself where it is exact, else one of its two neighbours (log 22). -/
def openRound (a : Int) (d : Nat) : Int := a / d + (if a % d = 0 then 0 else (b2n (Config.roundUp a d) : Int))

/-- Is `n <= m log10 (a / b)`? -/
def belowLog (m : Nat) (n : Int) (a b : Nat) : Bool :=
  if 0 ≤ n then decide (10 ^ n.toNat * b ^ m ≤ a ^ m) else decide (b ^ m ≤ a ^ m * 10 ^ (-n).toNat)

/-- m log10 (a / b), for positive `a` and `b`: the units it reaches, and one more where the logarithm is not exact and rounds up
(log 22). A power ratio in 0.1 dB has `m` 100, in 0.01 dB 1000. -/
def openLog (m a b : Nat) : Int :=
  let f := (List.range 16).reverse.foldl (fun (y : Int) i =>
    if belowLog m (y + ((2 ^ i : Nat) : Int)) a b then y + ((2 ^ i : Nat) : Int) else y) (-32768)
  if 0 ≤ f ∧ 10 ^ f.toNat * b ^ m = a ^ m ∨ f < 0 ∧ b ^ m = a ^ m * 10 ^ (-f).toNat then f
  else f + b2n (Config.roundUp a b)

/-- Saturation to `w` bits of two's complement, and whether it acted. -/
def saturate (w : Nat) (v : Int) : Int × Bool :=
  let hi : Int := (2 ^ (w - 1) : Nat) - 1
  let lo : Int := -((2 ^ (w - 1) : Nat) : Int)
  if v < lo then (lo, true) else if hi < v then (hi, true) else (v, false)

/-- How many components of a sample two values differ in. -/
def movedParts (a b : Cplx) : Nat := b2n (a.re != b.re) + b2n (a.im != b.im)

/-- Both components saturated to 16 bits. -/
def sat16 (c : Cplx) : Cplx × Bool :=
  let a := saturate 16 c.re
  let b := saturate 16 c.im
  (⟨a.1, b.1⟩, a.2 || b.2)

/-- Is `y^den <= x^den * 10^num`? -/
def belowPower (y x : Nat) (num : Int) (den : Nat) : Bool :=
  if 0 ≤ num then decide (y ^ den ≤ x ^ den * 10 ^ num.toNat)
  else decide (y ^ den * 10 ^ (-num).toNat ≤ x ^ den)

/-- The largest `y` of `w` bits with `d * y <= x * 10^(num/den)`, bit by bit. -/
def floorPower (w d x : Nat) (num : Int) (den : Nat) : Nat :=
  (List.range w).reverse.foldl (fun y b => if belowPower (d * (y + 2 ^ b)) x num den then y + 2 ^ b else y) 0

/-- `x * 10^(num/den) / d` rounded convergently to an integer (R102, R149): the exact real product decides. -/
def scaleTen (d : Nat) (x : Int) (num : Int) (den : Nat) : Int :=
  let m := x.natAbs
  let y2 := floorPower 26 d (2 * m) num den
  let exact := decide (0 ≤ num ∧ (d * y2) ^ den = (2 * m) ^ den * 10 ^ num.toNat) ||
    decide (num < 0 ∧ (d * y2) ^ den * 10 ^ (-num).toNat = (2 * m) ^ den)
  let q := y2 / 2
  let r : Nat := if y2 % 2 = 0 then q else if exact && q % 2 == 0 then q else q + 1
  if x < 0 then -(r : Int) else r

/-! ### Qualifiers (R115, R116) -/

/-- Qualifier codes. -/
def Qual.code : Qual → Nat
  | .valid => 0 | .settling => 1 | .clipped => 2 | .void => 3

/-- The higher of two qualifier codes. -/
def Qual.worst (a b : Qual) : Qual := if a.code < b.code then b else a

/-- How an input counts toward an output that is not VOID: a VOID input counts as SETTLING. -/
def Qual.asInput : Qual → Qual
  | .void => .settling
  | q => q

/-- The qualifier of an output formed from several inputs, the newest first, by a stage that runs (R116). -/
def combineQual (newest : Qual) (older : List Qual) : Qual :=
  if newest = .void then .void else older.foldl (fun a q => a.worst q.asInput) newest

/-- A VOID sample has I and Q 0 (R115). -/
def RxSample.void : RxSample := ⟨Cplx.zero, .void⟩

/-- A saturated component marks its sample CLIPPED. -/
def markClipped (c : Bool) (q : Qual) : Qual := if c then q.worst .clipped else q

/-- A sample with its qualifier: VOID ones are set to 0. -/
def mkSample (v : Cplx) (q : Qual) : RxSample := if q = .void then RxSample.void else ⟨v, q⟩

/-! ### The DC blocker and the mixers (R97-R99) -/

/-- One step of the DC blocker's estimate [1/16 ADC LSB, and 2^-20 of that]: it moves by 2^-TC of its distance from the code, so its
time constant is 2^TC converter samples (R97); what that division rounds is left open (log 52). -/
def dcStep (tc : Nat) (e : Int × Int) (x : Int) : Int × Int :=
  let acc := e.1 * 2 ^ 20 + e.2
  let f := acc + openRound (16 * x * 2 ^ 20 - acc) (2 ^ tc)
  (f / 2 ^ 20, f % 2 ^ 20)

/-- A tick's codes through the DC blocker [1/16 ADC LSB]: each less the estimate, which then takes it in unless it is frozen. -/
def dcBlock (tc : Nat) (freeze : Bool) (e : Int × Int) (codes : List Int) : List Int × (Int × Int) :=
  match codes with
  | [] => ([], e)
  | x :: r =>
    let (ys, f) := dcBlock tc freeze (if freeze then e else dcStep tc e x) r
    ((16 * x - e.1) :: ys, f)

/-- The word an NCO steps by: in the second zone the alias word (R99). -/
def ncoWord (word zone : Nat) : Nat := if zone = 2 then (2 ^ 48 - word) % 2 ^ 48 else word

/-- Real samples mixed down by an NCO from phase `acc` on: amplitude and phase. In the second zone the mixer output is
conjugated; the phase offset follows (R98, R99, log 140). -/
def mixDown (zone word phi acc : Nat) (xs : List Int) : List (Int × Nat) :=
  match xs with
  | [] => []
  | x :: r =>
    let t := if zone = 2 then acc else 2 ^ 48 - acc
    (x, (t + (2 ^ 16 - phi) * 2 ^ 32) % 2 ^ 48) :: mixDown zone word phi ((acc + ncoWord word zone) % 2 ^ 48) r

/-- Output `i` of a stream decimated by `d` has the converter sample `o` of its tick in its decimation window (R114): `d`
resampler outputs, the 5 (d - 1) before them that the combs still hold, and what the resampler reaches back. -/
def windowHolds (d i : Nat) (o : Int) : Bool :=
  let hi : Int := ((i + 1) * d : Nat) - 1
  decide ((hi - 5 * ((d : Int) - 1)) * 25 / 4 - Config.bandSpan ≤ o) && decide (o ≤ hi * 25 / 4)

/-! ### The integrator-comb decimator (R101) -/

/-- Two's complement wrap to 50 bits. -/
def wrap50 (v : Int) : Int := signed 50 (v % (2 ^ 50 : Nat)).toNat

def wrap50c (c : Cplx) : Cplx := c.map wrap50

/-- One input through the integrators, in order: each adds its input to its state. -/
def integrate (l : List Cplx) (x : Cplx) : List Cplx × Cplx :=
  match l with
  | [] => ([], x)
  | a :: r =>
    let y := wrap50c (a.add x)
    let (r', o) := integrate r y
    (y :: r', o)

/-- One sample through the combs: each subtracts its previous input. -/
def combs (l : List Cplx) (x : Cplx) : List Cplx × Cplx :=
  match l with
  | [] => ([], x)
  | a :: r =>
    let y := wrap50c (x.add (a.scale (-1)))
    let (r', o) := combs r y
    (x :: r', o)

/-- The state of a five-stage decimator, cleared. -/
def cicClear : List Cplx := List.replicate 5 Cplx.zero

/-- `n` inputs through the integrators, keeping the last output. -/
def integrateMany (l : List Cplx) (xs : List Cplx) : List Cplx × Cplx :=
  xs.foldl (fun p x => integrate p.1 x) (l, Cplx.zero)

/-- The comb output of 20-bit scale divided by the gain `d^5` with convergent rounding to 18 bits (R101). -/
def cicOut (lg : Nat) (v : Int) : Int :=
  let q := roundEven v (5 * lg + 2)
  if q = 2 ^ 17 then signed 18 Config.cicTop.toNat else q

/-- A tick's inputs decimated by `d` (`lg = log2 d`): after every `d` inputs one output. `n` bounds the outputs. -/
def decimate (d lg n : Nat) (ig cb : List Cplx) (xs : List Cplx) : List Cplx × List Cplx × List Cplx :=
  match n with
  | 0 => (ig, cb, [])
  | k + 1 =>
    let (ig, y) := integrateMany ig (xs.take d)
    let (cb, z) := combs cb y
    let (ig', cb', os) := decimate d lg k ig cb (xs.drop d)
    (ig', cb', z.map (cicOut lg) :: os)

/-! ### The FIR of R106 -/

/-- The sum of products of taps with samples, newest sample first. -/
def dot (cs : List Int) (xs : List Cplx) : Cplx :=
  match cs, xs with
  | c :: cr, x :: xr => (x.scale c).add (dot cr xr)
  | _, _ => Cplx.zero

/-- One output from the newest-first window of `cs.length` samples: accumulator times 2^shift / 2^17, rounded convergently
and saturated to 16 bits; and how many components saturated. -/
def firOut (cs : List Int) (shift : Int) (win : List RxSample) : RxSample × Nat :=
  match win with
  | [] => (RxSample.void, 0)
  | w :: _ =>
    let q := combineQual w.q (win.map (·.q))
    let raw := (dot cs (win.map (·.v))).map (fun a => scaleRound a shift 17)
    let (v, c) := sat16 raw
    if q = .void then (RxSample.void, 0) else (mkSample v (markClipped c q), movedParts raw v)

/-- A tick's samples through the FIR: the history holds the samples before, newest first, as many as the longest filter reaches
back, so a change of `T` finds them (R141); outputs in time order, the new history and the saturated components. -/
def firRun (cs : List Int) (shift : Int) (hist : List RxSample) (xs : List RxSample) :
    List RxSample × List RxSample × Nat :=
  match xs with
  | [] => ([], hist, 0)
  | x :: r =>
    let win := (x :: hist).take cs.length
    let (y, c) := firOut cs shift win
    let (ys, h, n) := firRun cs shift ((x :: hist).take 383) r
    (y :: ys, h, n + c)

/-- A flushed history: `T - 1` VOID samples (R108). -/
def flushed (taps : Nat) : List RxSample := List.replicate (taps - 1) RxSample.void

/-- How many samples carry a qualifier. -/
def countQual (q : Qual) (xs : List RxSample) : Nat := (xs.filter (fun x => x.q == q)).length

end Sys2Proof.Machine
end

