-- ==== Sys2Proof/Machine/Clocks.lean ====
section
/-!
DEFINITION. Sys2Proof/Machine/Clocks.lean: Tulip loops, band tables, divider phase, output dividers, operating points, the
gating tree, the clock monitor and the safe state (R426-R453).
-/
namespace Sys2Proof.Machine

/-! ### Loops (R428-R431) -/

/-- States of a Tulip loop, in the code of CLK_LOOPl_STATUS.STATE (Table 15-3). -/
inductive LoopState where
  | off | search | locking | locked | holdover | failed
deriving DecidableEq, Repr

def LoopState.code : LoopState → Nat
  | .off => 0 | .search => 1 | .locking => 2 | .locked => 3 | .holdover => 4 | .failed => 5

def LoopState.ofCode : Nat → LoopState
  | 0 => .off | 1 => .search | 2 => .locking | 3 => .locked | 4 => .holdover | _ => .failed

def State.loop (s : State) (l : Nat) : LoopState := .ofCode (s.fld (F.CLK_LOOP_STATUS_STATE l))

/-- A loop's outputs in a state: enabled at LOCKED, held off in OFF, SEARCH and FAILED, and as they were in LOCKING and HOLDOVER
(Table 15-3, log 166). -/
def outputsAfter (l : Nat) (x : LoopState) (outs : List Nat) : List Nat :=
  match x with
  | .locked => insertNat outs l
  | .locking | .holdover => outs
  | .off | .search | .failed => outs.filter (fun y => y != l)

/-- A loop takes a state, and its outputs with it; its phase error reads 0 in OFF, SEARCH and FAILED (Table 15-10). While the control
loop is not LOCKED the control clock runs from the fallback oscillator (R431). -/
def State.setLoop (s : State) (l : Nat) (x : LoopState) : State :=
  let s := s.setFld (F.CLK_LOOP_STATUS_STATE l) x.code
  let s := { s with clk := { s.clk with outs := outputsAfter l x s.clk.outs } }
  let s := if l = 5 ∧ x ≠ .locked then s.setFld F.CLK_STATUS_CTL_FALLBACK 1 else s
  if x = .off ∨ x = .search ∨ x = .failed then s.setFld (F.CLK_LOOP_PHERR_ERR l) 0 else s

/-- Source code of a loop (type 11, Table 19-1). -/
def srcLoop (l : Nat) : Nat := srcCode 11 l

/-- The oscillator frequency of a loop [kHz] (Table 15-2). -/
def oscillator (l : Nat) : Nat :=
  if l < 4 then 24576000 else if l = 4 then 2949120 else if l = 5 then 1966080 else 53125000

/-- The centre of used band `24 + n` of a loop's factory table [kHz]: the sixteen rise, the first lies 4 % or more below the
oscillator's frequency and the last 4 % or more above it; where they stand in that is the part's own (R429, log 16). -/
def factoryCentre (l n : Nat) : Nat :=
  match n with
  | 0 => Config.factoryBand l 24 % (oscillator l * 96 / 100) + 1
  | k + 1 =>
    let low := factoryCentre l k + 1
    let low := if n = 15 then max low (ceilDiv (oscillator l * 104) 100) else low
    low + Config.factoryBand l (24 + n) % (2 ^ 26 - (15 - n) - low)

/-- The factory table of a loop: b24 to b39 are used, at centres measured for the part; the others are 0 (R429). -/
def factoryBandOf (i : Nat) : Nat :=
  let b := i % 64
  if 24 ≤ b ∧ b ≤ 39 then factoryCentre (i / 64) (b - 24) else 0

/-- A band-table entry [kHz]. -/
def State.band (s : State) (l b : Nat) : Nat := sget factoryBandOf s.clk.bands (64 * l + b)

/-- Distance of a band's centre from the loop's oscillator target. -/
def State.bandDist (s : State) (l b : Nat) : Nat :=
  let f := s.band l b
  let o := oscillator l
  if f < o then o - f else f - o

/-- The used entry nearest the target, ties to the lower band, leaving `skip` out (R429, Table 15-3). -/
def State.nearestBand (s : State) (l : Nat) (skip : Option Nat) : Option Nat :=
  (List.range 64).foldl (fun best b =>
    if s.band l b = 0 ∨ some b = skip then best
    else match best with
      | none => some b
      | some a => if s.bandDist l b < s.bandDist l a then some b else best) none

/-- The reference of a loop is present: REFCLK for loops 0 to 5, LANECLK for 6 and 7 (Table 15-2). -/
def State.refPresent (s : State) (l : Nat) : Bool := if l < 6 then s.pwr.refPresent else s.pwr.lanePresent

/-- SEARCH: the band nearest the target is set and the loop starts LOCKING on a first attempt, or FAILED without a used
entry (Table 15-3). -/
def State.searchLoop (s : State) (l : Nat) : State :=
  match s.nearestBand l none with
  | some b =>
    let s := (s.setLoop l .search).setLoop l .locking
    let s := s.setFld (F.CLK_LOOP_STATUS_BAND l) b
    { s with clk := { s.clk with attempts := sput (fun _ => 0) s.clk.attempts l 1 } }
  | none => (s.setLoop l .failed).raise 0x2002 l (srcLoop l) sevError

/-- Bring-up or a wake starts a loop: from OFF where its reference is present, from FAILED in any case (Table 15-3). -/
def State.startLoop (s : State) (l : Nat) : State :=
  if s.refPresent l ∨ s.loop l = .failed then s.searchLoop l else s

/-- CLK_SET_PLAN relocks a loop: SEARCH from every state, but for one that is OFF, which needs its reference (R447, Table 15-3). -/
def State.planLoop (s : State) (l : Nat) : State :=
  if s.refPresent l ∨ s.loop l ≠ .off then s.searchLoop l else s

/-- A named loop that a relock found OFF without its reference enters SEARCH once the reference is there (log 172). -/
def State.lateRelocks (s : State) : State :=
  (List.range 8).foldl (fun s l =>
    if s.loop l = .off ∧ s.clk.relocking.any (fun e => bitAt e.2 l) then s.planLoop l else s) s

/-- A loop whose domain is off is OFF. -/
def State.stopLoop (s : State) (l : Nat) : State := s.setLoop l .off

/-- The safe state keeps the control cores on the fallback oscillator: REFCLK among its sources, or the relock after it, which ends
with the release (R444, Table 15-7). -/
def State.fallbackKept (s : State) : Bool :=
  bitAt (s.fld F.CLK_STATUS_SAFE_SRC) 0 || decide (2 ≤ s.fld F.CLK_STATUS_MON)

/-- The lock criterion is met in LOCKING: LOCKED, CLK_LOCK, and for the control loop the control clock back from the
fallback oscillator unless the safe state keeps it there (Table 15-3, R431, R444). -/
def State.lockLoop (s : State) (l : Nat) : State :=
  if s.loop l = .locking then
    let s := s.setLoop l .locked
    let s := s.addFld (F.CLK_LOOP_STATUS_LOCKS l) 1
    let s := s.raise 0x2001 l (srcLoop l) sevInfo
    if l = 5 ∧ !s.fallbackKept then s.setFld F.CLK_STATUS_CTL_FALLBACK 0 else s
  else s

/-- The lock-time maximum elapses in LOCKING: a retry on the next-nearest used band, or FAILED after the second attempt
(Table 15-3). -/
def State.lockTimeout (s : State) (l : Nat) : State :=
  if s.loop l = .locking then
    if sget (fun _ => 0) s.clk.attempts l < 2 then
      let b := s.fld (F.CLK_LOOP_STATUS_BAND l)
      let s := s.setFld (F.CLK_LOOP_STATUS_BAND l) ((s.nearestBand l (some b)).getD b)
      { s with clk := { s.clk with attempts := sput (fun _ => 0) s.clk.attempts l 2 } }
    else (s.setLoop l .failed).raise 0x2002 l (srcLoop l) sevError
  else s

/-- The unlock criterion is met in LOCKED with the reference present: back to LOCKING, a first attempt on the band in use
(Table 15-3). -/
def State.unlockLoop (s : State) (l : Nat) : State :=
  if s.loop l = .locked ∧ s.refPresent l then
    let s := s.setLoop l .locking
    let s := { s with clk := { s.clk with attempts := sput (fun _ => 0) s.clk.attempts l 1 } }
    let s := s.addFld (F.CLK_LOOP_UNLOCKS_COUNT l) 1
    s.raise 0x2003 l (srcLoop l) sevWarning
  else s

/-- Loss of the reference: a LOCKED or LOCKING loop freezes its word and runs on in HOLDOVER (Table 15-3). -/
def State.holdLoop (s : State) (l : Nat) : State :=
  if s.loop l = .locked ∨ s.loop l = .locking then s.setLoop l .holdover else s

/-- A loop in HOLDOVER is closed from the held word: LOCKING, a first attempt on the band in use (Table 15-3). -/
def State.relockLoop (s : State) (l : Nat) : State :=
  if s.loop l = .holdover then
    { s.setLoop l .locking with clk := { s.clk with attempts := sput (fun _ => 0) s.clk.attempts l 1 } }
  else s

/-- CLK_SET_PLAN relocks end: OK once every named loop is LOCKED, TIMEOUT with the mask of failed loops once one has
FAILED and none still searches (R447). -/
def State.settleRelocks (s : State) : State :=
  s.clk.relocking.foldl (fun s e =>
    let ls := maskList 8 e.2
    let failed := ls.filter (fun l => s.loop l = .failed)
    let open_ := ls.filter (fun l => s.loop l = .search ∨ s.loop l = .locking)
    let drop := fun (s : State) => { s with clk := { s.clk with
      relocking := s.clk.relocking.filter (fun x => x.1 != e.1) } }
    if ls.all (fun l => s.loop l = .locked) then drop (s.finishNow e.1 .ok [])
    else if !failed.isEmpty && open_.isEmpty then
      drop (s.finishNow e.1 .timeout (leBytes 4 (listMask 8 failed)))
    else s) s

/-! ### The clock monitor and the safe state (R443, R444, Table 15-7) -/

/-- States of the monitor, in the code of CLK_STATUS.MON. -/
inductive MonState where
  | normal | safe | relock | resync
deriving DecidableEq, Repr

def MonState.code : MonState → Nat
  | .normal => 0 | .safe => 1 | .relock => 2 | .resync => 3

def MonState.ofCode : Nat → MonState
  | 0 => .normal | 1 => .safe | 2 => .relock | _ => .resync

def State.mon (s : State) : MonState := .ofCode (s.fld F.CLK_STATUS_MON)

/-- Bits of CLK_STATUS.SAFE_SRC. -/
def safeRef : Nat := 0
def safeLane : Nat := 1
def safePin : Nat := 2
def safeCtl : Nat := 3

/-- The safe state holds (R444). -/
def State.inSafe (s : State) : Bool := s.flag F.CLK_STATUS_SAFE

/-- The safe state holds with this source among its sources. -/
def State.safeBy (s : State) (b : Nat) : Bool := s.inSafe && bitAt (s.fld F.CLK_STATUS_SAFE_SRC) b

/-- REFCLK's loop actions of R444: converter, fabric and control loops in HOLDOVER, Crocus HELD, the control cores on the
fallback oscillator; time is not valid from here while REF_SEL is 0 (R458), and a trip in DOZE loses the kept phase
(R482). -/
def State.refLost (s : State) : State :=
  let s := (List.range 6).foldl State.holdLoop s
  let s := s.holdTick true
  let s := s.setFld F.CLK_STATUS_CTL_FALLBACK 1
  let s := if s.fld F.CLK_CFG_REF_SEL = 0 then s.setFld F.TIM_STATUS_VALID 0 else s
  if s.fld F.PWR_STATUS_STATE = 3 then { s with clk := { s.clk with keptPhase := false } } else s

/-- TXP_STATUS.MUTED of every path: the DACs are at mid-scale from now on (R173, R444). -/
def State.muteAll (s : State) : State := (List.range 64).foldl (fun s p => s.setFld (F.TXP_STATUS_MUTED p) 1) s

/-- A source trips: the safe state, in which the lane loops hold their words (R327, log 186), the source's mark and count, REFCLK's loop
actions, and the events of Table 15-7; before the fallback oscillator is stable the events wait for the count to complete (R445). -/
def State.trip (s : State) (b : Nat) : State :=
  if bitAt (s.fld F.CLK_STATUS_SAFE_SRC) b then s
  else
    let s := if s.mon = .normal then
        { s.addFld F.CLK_SAFE_COUNT_COUNT 1 with clk := { s.clk with laneSrc := false } } else s
    let m := s.fld F.CLK_STATUS_SAFE_SRC + 2 ^ b
    let s := s.setFld F.CLK_STATUS_SAFE_SRC m
    let s := (((s.setFld F.CLK_STATUS_SAFE 1).muteAll).holdLoop 6).holdLoop 7
    let s := s.setFld F.CLK_STATUS_MON MonState.safe.code
    let s := if b = safeRef then (s.addFld F.CLK_LOSS_REF 1).refLost
      else if b = safeLane then
        let s := s.addFld F.CLK_LOSS_LANE 1
        { s with clk := { s.clk with laneSrc := true } }
      else s
    if s.pwr.fallback then
      let s := if b = safeRef then s.raiseFree 0x2005 srcOther sevError
        else if b = safeLane then s.raiseFree 0x2006 srcOther sevError else s
      s.raise 0x2007 m srcOther sevWarning
    else { s with clk := { s.clk with deferredTrip := s.clk.deferredTrip ++ [(b, m)] } }

/-- The safe state is released: Crocus resumes and the control clock returns to the control PLL (Table 15-7). -/
def State.releaseSafe (s : State) : State :=
  let s := s.setFld F.CLK_STATUS_SAFE 0
  let s := s.setFld F.CLK_STATUS_MON MonState.normal.code
  let s := if s.loop 5 = .locked then s.setFld F.CLK_STATUS_CTL_FALLBACK 0 else s
  let s := s.raiseFree 0x2008 srcOther sevInfo
  s.resumeTick true

/-- In RELOCK: once the fabric and control loops (and the lane loops, if LANECLK was a source) are LOCKED, wait for TSYNC
when an arm stands, else release (Table 15-7). The loops that DOZE has turned off stand for themselves (log entry 8). -/
def State.tryRelease (s : State) : State :=
  if s.mon = .relock then
    let up := fun l => s.loop l = .locked ∨ (s.loop l = .off ∧ s.fld F.PWR_STATUS_STATE = 3)
    if up 4 ∧ up 5 ∧ (s.clk.laneSrc = false ∨ (up 6 ∧ up 7)) then
      if s.flag F.CLK_SYNC_ARM then s.setFld F.CLK_STATUS_MON MonState.resync.code else s.releaseSafe
    else s
  else s

/-- A source clears; with the last one gone the loops in HOLDOVER relock (Table 15-7). -/
def State.clearSource (s : State) (b : Nat) : State :=
  let m := s.fld F.CLK_STATUS_SAFE_SRC
  if s.mon = .safe ∧ bitAt m b then
    let m := m - 2 ^ b
    let s := s.setFld F.CLK_STATUS_SAFE_SRC m
    if m = 0 then
      let s := (List.range 8).foldl State.relockLoop s
      (s.setFld F.CLK_STATUS_MON MonState.relock.code).tryRelease
    else s
  else s

/-- The divider reset of R432: CLK_SYNC.DONE, the arm consumed, and the release that RESYNC waits for. -/
def State.dividerReset (s : State) : State :=
  let s := s.setFld F.CLK_SYNC_DONE 1
  let s := s.setFld F.CLK_SYNC_ARM 0
  let s := { s with clk := { s.clk with keptPhase := true } }
  if s.mon = .resync then s.releaseSafe else s

/-- CLK_SYNC.OFFSET as R432 uses it: modulo the tick's REFCLK periods. -/
def State.syncOffset (s : State) : Nat :=
  s.fld F.CLK_SYNC_OFFSET % (if s.fld F.CLK_CFG_REF_SEL = 0 then 128 else 32)

/-- ARM written as 1: accepted while Crocus is STOPPED or while the safe state holds with REFCLK among its sources, else
REFUSED (R433). -/
def State.armSync (s : State) : State :=
  if s.tickMode = .stopped ∨ s.safeBy safeRef then s.setFld F.CLK_SYNC_ARM 1 else s.setFld F.CLK_SYNC_REFUSED 1

/-- CANCEL written as 1: clears an arm, and releases RESYNC (R433, Table 15-7). -/
def State.cancelSync (s : State) : State :=
  let s := s.setFld F.CLK_SYNC_ARM 0
  if s.mon = .resync then s.releaseSafe else s

/-! ### Output dividers (R435, R436) -/

/-- Frequency of a CLKMON source [Hz], Table 15-4; `rcv` is that of the recovered clock. -/
def clkmonSource (s : State) (rcv sel : Nat) : Nat :=
  if sel < 4 then 24576000000
  else if sel < 8 then 983040000
  else if sel < 12 then 1536000000
  else match sel with
    | 12 => opCycles (s.fld F.CLK_STATUS_OP) * 3840000
    | 13 => 983040000
    | 14 | 15 => 53125000000
    | 16 => 491520000
    | 17 => 100000000
    | 18 => if s.fld F.CLK_CFG_REF_SEL = 0 then 491520000 else 122880000
    | 19 => 156250000
    | 20 => 3840000
    | 21 => 100
    | 22 => 2949120000
    | _ => rcv

/-- The recovered clock of a lane [Hz]: 53.125 GHz at 106.25 GBd or while the group is OFF, half that at
53.125 GBd (R436). -/
def State.recoveredOf (s : State) (l : Nat) : Nat :=
  if s.fld (F.LN_STATUS_MODE l) ≠ 0 ∧ s.fld (F.LN_STATUS_RATE l) = 1 then 26562500000 else 53125000000

/-- That of the lane TIM_RCV.LANE names, which a change to it takes up on the next boundary (R469). -/
def State.recovered (s : State) : Nat := s.recoveredOf (s.fld F.TIM_RCV_LANE)

/-- An output at source frequency `f` divided by `div + 1` stays within `lim` [Hz]. -/
def withinLimit (f div lim : Nat) : Bool := decide (f ≤ lim * (div + 1))

/-- The holds of R436: an enabled output beyond its limit is held low; RCVCLK is also held low while its lane is not in
TRACK (R469). -/
def State.outputHolds (s : State) : State :=
  let monBad := s.flag F.CLK_CLKMON_EN &&
    !withinLimit (clkmonSource s (s.recoveredOf s.clk.rcvLane) (s.fld F.CLK_CLKMON_SEL)) (s.fld F.CLK_CLKMON_DIV) 800000000
  let s := s.setFld F.CLK_CLKMON_LIMIT_HOLD (b2n monBad)
  let rcvBad := s.flag F.CLK_RCVDIV_EN && !withinLimit (s.recoveredOf s.clk.rcvLane) (s.fld F.CLK_RCVDIV_DIV) 200000000
  let lane := s.clk.rcvLane
  let noTrack := s.flag F.TIM_RCV_EN && decide (s.fld (F.LN_STATUS_ADAPT lane) ≠ 3)
  s.setFld F.TIM_RCV_SQUELCH (b2n (rcvBad || noTrack))

/-- A boundary takes up the lane that TIM_RCV names (R469). -/
def State.rcvBoundary (s : State) : State :=
  { s with clk := { s.clk with rcvLane := s.fld F.TIM_RCV_LANE } }.outputHolds

/-! ### Operating points (R437-R439) -/

/-- Steps of 80 mV between two points: their codes are one step apart (Table 15-5). -/
def opSteps (a b : Nat) : Nat := if a < b then b - a else a - b

/-- Every REQ, and DECL of every engine that holds a kernel, fits `cycles` (R40, R386, R439). -/
def State.loadsFit (s : State) (cycles : Nat) : Bool :=
  (List.range 14).all (fun b => decide (s.fld (F.TCK_LOAD_REQ b) ≤ cycles)) &&
  (List.range 16).all (fun e => decide (s.fld (F.LE_STATUS_STATE e) = 0 ∨ 4 ≤ s.fld (F.LE_STATUS_STATE e) ∨ s.fld (F.LE_DECL_DECL e) ≤ cycles))

/-- A step of the operating-point change at its commit: the divider changes, CLK_OP's point is in force (R438). -/
def State.applyOp (s : State) (code : Nat) : State :=
  let s := s.setFld F.CLK_STATUS_OP code
  let s := s.setFld F.CLK_OP_OP code
  { s with clk := { s.clk with opChange := s.clk.opChange.map (fun o => { o with applied := true }) } }

/-- The ramp ends: SEQ_BUSY clears (R438). -/
def State.endRamp (s : State) : State :=
  match s.clk.opChange with
  | some o =>
    if o.applied ∧ ¬ tickAfter o.rampEnd s.tickno then
      { s.setFld F.CLK_STATUS_SEQ_BUSY 0 with clk := { s.clk with opChange := none } }
    else s
  | none => s

/-! ### The gating tree (R440-R442, Table 15-6) -/

/-- The parent of a node; the root is 192. -/
def gateParent (n : Nat) : Nat :=
  if n < 6 then 192
  else if n < 10 then n - 6
  else if n < 12 then 4
  else if n < 28 then 6 + (n - 12) / 4
  else if n < 32 then 10
  else if n < 96 then 12 + (n - 32) / 4
  else if n < 160 then 12 + (n - 96) / 4
  else if n < 168 then 6 + (n - 160) / 2
  else if n < 176 then 28 + (n - 168) / 2
  else 11

/-- Children of a node. -/
def gateChildren (n : Nat) : List Nat := (List.range 192).filter (fun c => gateParent c == n)

/-- The retirable unit a node gates, as a source code (Tables 15-6, 19-1). -/
def gateUnit (n : Nat) : Option Nat :=
  if n < 4 then some (srcCode 8 n)
  else if n = 5 then some (srcCode 9 0)
  else if 6 ≤ n ∧ n < 10 then some (srcCode 8 (n - 6))
  else if 12 ≤ n ∧ n < 28 then some (srcCode 2 (n - 12))
  else if 32 ≤ n ∧ n < 96 then some (srcCode 0 (n - 32))
  else if 96 ≤ n ∧ n < 160 then some (srcCode 1 (n - 96))
  else if 160 ≤ n ∧ n < 168 then some (srcCode 3 (n - 160))
  else if 168 ≤ n ∧ n < 176 then some (srcCode 5 (n - 168))
  else if 176 ≤ n ∧ n < 192 then some (srcCode 4 (n - 176))
  else none

/-- The node's unit is retired. -/
def State.gateRetired (s : State) (n : Nat) : Bool :=
  match gateUnit n with
  | some u => s.isRetired u
  | none => false

/-- The node is pinned closed. -/
def State.gatePinned (s : State) (n : Nat) : Bool := bitAt (s.fld (F.CLK_GATE_PIN_PIN (n / 32))) (n % 32)

/-- The node is open. -/
def State.gateOpen (s : State) (n : Nat) : Bool := bitAt (s.fld (F.CLK_GATE_OPEN_OPEN (n / 32))) (n % 32)

/-- A Clematis channel in RUN or RETRY uses CAPTURE space (Table 15-6, node 5). -/
def State.captureInUse (s : State) : Bool :=
  let r := s.fld F.REC_STATUS_STATE
  decide (r = 1 ∨ r = 2 ∨ r = 4)

/-- The condition of Table 15-6 under which a node itself, apart from its children, is in use. -/
def State.nodeUsed (s : State) (capture : Bool) (n : Nat) : Bool :=
  if n = 4 then true
  else if n = 5 then s.captureInUse || capture
  else if 12 ≤ n ∧ n < 28 then decide (s.fld (F.QFE_STATUS_STATE (n - 12)) = 1 ∨ s.fld (F.QFE_STATUS_STATE (n - 12)) = 2)
  else if 32 ≤ n ∧ n < 96 then (List.range 4).any (fun k => s.flag (F.RXP_STR_CFG_EN (n - 32) k))
  else if 96 ≤ n ∧ n < 160 then (List.range 4).any (fun k => s.flag (F.TXP_STR_CFG_EN (n - 96) k))
  else if 160 ≤ n ∧ n < 168 then
    decide (s.fld (F.OBS_STATUS_STATE (n - 160)) ≠ 0 ∧ s.fld (F.OBS_STATUS_STATE (n - 160)) ≠ 4)
  else if 168 ≤ n ∧ n < 176 then
    decide (s.fld (F.LN_STATUS_ADAPT (n - 168)) ≠ 0 ∧ s.fld (F.LN_STATUS_ADAPT (n - 168)) ≠ 6)
  else if 176 ≤ n ∧ n < 192 then
    let e := n - 176
    let st := s.fld (F.LE_STATUS_STATE e)
    let ro := s.fld (F.LE_ROLE_ROLE e)
    decide (st = 1 ∨ st = 2 ∨ (st ≠ 4 ∧ ro ≠ 0 ∧ ro ≠ 5))
  else false

/-- The open nodes: in use, itself or through an open child, not pinned and not retired; from the stems upward. -/
def State.openNodes (s : State) (capture : Bool) : List Nat :=
  (List.range 192).reverse.foldl (fun open_ n =>
    let used := s.nodeUsed capture n || open_.any (fun c => gateParent c == n)
    if used && !s.gatePinned n && !s.gateRetired n then n :: open_ else open_) []

/-- CLK_GATE_OPEN as the tree stands (R440). A node that a close left open stays so until it comes into use, or its unit retires
(R442, log 173). -/
def State.refreshGates (s : State) (capture : Bool) : State :=
  let used := s.openNodes capture
  let stuck := s.clk.stuck.filter (fun n => !used.contains n && !s.gatePinned n && !s.gateRetired n)
  let s := { s with clk := { s.clk with stuck := stuck } }
  let o := used ++ stuck
  (List.range 6).foldl (fun s i =>
    s.setFld (F.CLK_GATE_OPEN_OPEN i) (listMask 32 ((o.filter (fun n => n / 32 == i)).map (fun n => n % 32)))) s

/-- Pins nodes closed. -/
def State.pinNodes (s : State) (ns : List Nat) (pin : Bool) : State :=
  ns.foldl (fun s n =>
    s.setFld (F.CLK_GATE_PIN_PIN (n / 32)) (putBits (s.fld (F.CLK_GATE_PIN_PIN (n / 32))) (n % 32) 1 (b2n pin))) s

/-- The node and all its ancestors. -/
def gateAncestors (n : Nat) : List Nat :=
  let a := gateParent n
  let b := gateParent a
  let c := gateParent b
  let d := gateParent c
  [n, a, b, c, d].filter (fun x => decide (x < 192))

/-- The named nodes that a close leaves open: those whose bus stays busy for 64 cycles of the tick, and their named ancestors
(R442). -/
def State.gateStuck (s : State) (ns busy : List Nat) : List Nat :=
  ns.filter (fun n => s.gateOpen n && ns.any (fun m => busy.contains m && (gateAncestors m).contains n))

/-- A close acts: the nodes that can close are pinned, the others stay open, and a close that leaves any open is counted (R442). -/
def State.closeNodes (s : State) (ns busy : List Nat) : State :=
  let stuck := s.gateStuck ns busy
  let s := s.pinNodes (ns.filter (fun n => !stuck.contains n)) true
  let s := { s with clk := { s.clk with stuck := s.clk.stuck.filter (fun n => !ns.contains n) ++ stuck } }
  if stuck.isEmpty then s else s.addFld F.CLK_GATE_REFUSED_COUNT 1

/-- A unit named by a command has a pinned node on its way to the root: putting it in use is refused (R441). -/
def State.pinnedUnit (s : State) (n : Nat) : Bool := (gateAncestors n).any s.gatePinned

/-! ### Commands (R447-R450) -/

/-- The node mask of PWR_GATE. -/
def gateMask (c : Cmd) : List Nat := maskList 192 (leAt c.payload 4 24)

/-- Check 11 of CLK_SET_PLAN (R447). -/
def chkClkSetPlan (s : State) (c : Cmd) : Option Status :=
  if c.op = 0 then
    if c.payload.length ≠ 260 ∨ 8 ≤ leAt c.payload 1 1 ∨ !zeroAt c.payload 2 2 ∨
        (List.range 64).any (fun b => decide (2 ^ 26 ≤ leAt c.payload (4 + 4 * b) 4)) then some .badParam
    else
      let l := leAt c.payload 1 1
      if s.loop l = .search ∨ s.loop l = .locking then some .notPermitted else none
  else if c.op = 1 then
    if c.payload.length ≠ 4 ∨ leAt c.payload 1 1 = 0 ∨ 2 ≤ leAt c.payload 2 1 ∨ 4 ≤ leAt c.payload 3 1 then some .badParam
    else
      let m := leAt c.payload 1 1
      let coreLoop := bitAt m 4 || bitAt m 5 || leAt c.payload 2 1 != s.fld F.CLK_CFG_REF_SEL
      let laneUse := (List.range 8).any (fun k => s.flag (F.LN_CFG_EN k) && bitAt m (6 + k / 4))
      if (coreLoop ∧ s.tickMode ≠ .stopped) ∨ laneUse ∨ s.inSafe ∨ s.fld F.PWR_STATUS_STATE = 3 then
        some .notPermitted
      else none
  else some .badParam

/-- CLK_SET_PLAN operation 0: the loop's band table is replaced (R447). -/
def execClkSetBandTable (tag : Nat) (s : State) : Host.Outcome State Fault Refusal :=
  .next (s.performStart 0x0300 tag (isOp 0) (fun c s =>
    let l := leAt c.payload 1 1
    let bs := (List.range 64).foldl (fun m b =>
      sput factoryBandOf m (64 * l + b) (leAt c.payload (4 + 4 * b) 4)) s.clk.bands
    { s with clk := { s.clk with bands := bs } }.finishNow c.tag .ok []))

/-- CLK_SET_PLAN operation 1: REF_SEL, the bandwidth code, and SEARCH for the named loops (R447). -/
def State.planLoops (s : State) (c : Cmd) : State :=
  let m := leAt c.payload 1 1
  let s := s.setFld F.CLK_CFG_REF_SEL (leAt c.payload 2 1)
  let s := (maskList 8 m).foldl (fun s l =>
    (s.setFld (F.CLK_LOOP_CFG_BW l) (leAt c.payload 3 1)).planLoop l) s
  { s with clk := { s.clk with relocking := s.clk.relocking ++ [(c.tag, m)] } }

/-- Check 11 of CLK_UPDATE_DIVIDERS (R448): ranges, and the limits of R436 for outputs updated and enabled. -/
def chkClkUpdateDividers (s : State) (c : Cmd) : Option Status :=
  let b0 := leAt c.payload 0 1
  let b1 := leAt c.payload 1 1
  let sel := b1 % 32
  let monBad := bitAt b0 0 && bitAt b1 7 &&
    !withinLimit (clkmonSource s s.recovered sel) (leAt c.payload 2 2) 800000000
  let rcvBad := bitAt b0 1 && bitAt (leAt c.payload 6 1) 0 &&
    !withinLimit s.recovered (leAt c.payload 4 2) 200000000
  if c.payload.length ≠ 8 ∨ 4 ≤ b0 ∨ bitsAt b1 5 2 ≠ 0 ∨ 24 ≤ sel ∨ 1024 ≤ leAt c.payload 4 2 ∨
      2 ≤ leAt c.payload 6 1 ∨ !zeroAt c.payload 7 1 ∨ monBad ∨ rcvBad then some .badParam
  else none

/-- CLK_UPDATE_DIVIDERS: the commit of the dividers the command updates (R435, R448). -/
def execClkUpdateDividers (tag : Nat) (s : State) : Host.Outcome State Fault Refusal :=
  .next (s.performCommit 0x0301 tag anyOp (fun c s =>
    let b0 := leAt c.payload 0 1
    let b1 := leAt c.payload 1 1
    let mon := if bitAt b0 0 then
      [Change.reg 0x20020 0x801FFFFF (leAt c.payload 2 2 + 2 ^ 16 * (b1 % 32) + 2 ^ 31 * (b1 / 128))] else []
    let rcv := if bitAt b0 1 then
      [Change.reg 0x20024 0x800003FF (leAt c.payload 4 2 + 2 ^ 31 * leAt c.payload 6 1)] else []
    s.armCmd c [.outputDividers] (mon ++ rcv) [] .ok false []))

/-- Check 11 of PWR_SET_OP (R449). -/
def chkPwrSetOp (c : Cmd) : Option Status :=
  if c.payload.length ≠ 4 ∨ 3 ≤ c.op ∨ !zeroAt c.payload 1 3 then some .badParam else none

/-- Check 12 of PWR_SET_OP: every REQ and DECL fits the target's cycles (R439). -/
def limitPwrSetOp (s : State) (c : Cmd) : Bool :=
  c.op == s.fld F.CLK_STATUS_OP || s.loadsFit (opCycles c.op)

/-- The earliest commit tick of PWR_SET_OP: n + 1 + 32 s for a raise, R46's otherwise (R438). -/
def earliestOp (s : State) (c : Cmd) : Nat :=
  let cur := s.fld F.CLK_STATUS_OP
  if c.op < cur then tickAdd s.tickno (1 + 32 * opSteps c.op cur) else tickAdd s.tickno 2

/-- An accepted PWR_SET_OP that changes the point holds SEQ_BUSY from its acceptance on (R438). -/
def State.opPending (s : State) (c : Cmd) : State :=
  if c.opcode = 0x0202 ∧ c.op ≠ s.fld F.CLK_STATUS_OP then s.setFld F.CLK_STATUS_SEQ_BUSY 1 else s

/-- PWR_SET_OP: the commit that moves the operating point; SEQ_BUSY until the ramp ends (R438, R449). A request
for the point in force changes nothing. -/
def execPwrSetOp (tag : Nat) (s : State) : Host.Outcome State Fault Refusal :=
  .next (s.performCommit 0x0202 tag anyOp (fun c s =>
    let cur := s.fld F.CLK_STATUS_OP
    if c.op = cur then s.armCmd c [.operatingPoint] [] [] .ok false []
    else
      let t := s.commitTick c.actTick
      let fin := if c.op < cur then t else tickAdd t (1 + 32 * opSteps c.op cur)
      let s := s.setFld F.CLK_STATUS_SEQ_BUSY 1
      let s := { s with clk := { s.clk with opChange := some ⟨c.op, fin, false⟩ } }
      s.armCmd c [.operatingPoint] [.opPoint c.op] [] .ok false []))

/-- Check 11 of PWR_GATE (R442, R450): ranges; then a node in use or with a child open that is not being closed; then
every named node retired; `capture`: a Clematis channel uses CAPTURE (Table 15-6). -/
def chkPwrGate (s : State) (capture : Bool) (c : Cmd) : Option Status :=
  let ns := gateMask c
  if c.payload.length ≠ 28 ∨ 2 ≤ c.op ∨ !zeroAt c.payload 1 3 ∨ ns.isEmpty ∨ ns.contains 4 then some .badParam
  else if ns.all s.gateRetired then some .resourceRetired
  else if c.op = 0 ∧ ns.any (fun n => s.nodeUsed capture n ||
      (gateChildren n).any (fun k => s.gateOpen k && !ns.contains k)) then some .notPermitted
  else none

/-- The reply of a PWR_GATE that named retired nodes (R450). -/
def gatePart (s : State) (c : Cmd) : Bool × List Byte :=
  let r := (gateMask c).filter s.gateRetired
  if r.isEmpty then (false, []) else (true, leBytes 24 (listMask 192 r))

/-- PWR_GATE operation 0: the named nodes close and are pinned at the commit, but for those that the buses keep open there; `busy`:
the nodes whose bus will stay busy for 64 cycles at the commit (R442). -/
def execPwrGateClose (tag : Nat) (busy : List Nat) (s : State) : Host.Outcome State Fault Refusal :=
  .next (s.performCommit 0x0203 tag (isOp 0) (fun c s =>
    let ns := (gateMask c).filter (fun n => !s.gateRetired n)
    let (part, pl) := gatePart s c
    s.armCmd c [.gatingTree] [.gateClose ns busy] [] .ok part pl))

/-- PWR_GATE operation 1: the named nodes are unpinned at the commit (R442). -/
def execPwrGateRelease (tag : Nat) (s : State) : Host.Outcome State Fault Refusal :=
  .next (s.performCommit 0x0203 tag (isOp 1) (fun c s =>
    let ns := (gateMask c).filter (fun n => !s.gateRetired n)
    let (part, pl) := gatePart s c
    s.armCmd c [.gatingTree] [.gateRelease ns] [] .ok part pl))

/-- A read of CLK_BAND_DATA returns the entry INDEX names and advances INDEX modulo 512 (R452). -/
def State.readBandData (s : State) : Nat × State :=
  let i := s.fld F.CLK_BAND_ADDR_INDEX
  (sget factoryBandOf s.clk.bands i, s.setFld F.CLK_BAND_ADDR_INDEX ((i + 1) % 512))

end Sys2Proof.Machine
end

