-- ==== Sys2Proof/Machine/Time.lean ====
section
/-!
DEFINITION. Sys2Proof/Machine/Time.lean: Aster time: FRC and linear time, offset and rate changes with the jump threshold, the
comparators, the frame anchor ring and the PTP servo (R454-R475).
-/
namespace Sys2Proof.Machine

/-- The free-running counter counts the edges of the time clock: REFCLK, or with REF_SEL 1 the output of the control PLL, which a
search, DOZE and a failed lock hold off (R428, Table 15-3, R454, log 166). -/
def State.frcRuns (s : State) : Bool :=
  if s.fld F.CLK_CFG_REF_SEL = 0 then s.pwr.refPresent else s.clk.outs.contains 5

/-- FRC on edge `e` (0 to 127) of the open tick (R454). -/
def State.frcAt (s : State) (e : Nat) : Nat := (s.time.frc + (if s.frcRuns then e % 128 else 0)) % 2 ^ 64

/-- OFFSET, in 2^-16 ns (R455). -/
def State.offset (s : State) : Nat :=
  s.fld (F.TIM_OFFSET_OFFSET 0) + 2 ^ 32 * s.fld (F.TIM_OFFSET_OFFSET 1) + 2 ^ 64 * s.fld (F.TIM_OFFSET_OFFSET 2)

def State.setOffset (s : State) (v : Nat) : State :=
  let s := s.setFld (F.TIM_OFFSET_OFFSET 0) v
  let s := s.setFld (F.TIM_OFFSET_OFFSET 1) (v / 2 ^ 32)
  s.setFld (F.TIM_OFFSET_OFFSET 2) (v / 2 ^ 64)

/-- RATE, in 2^-40 ns (R455). -/
def State.rate (s : State) : Nat := s.fld F.TIM_RATE_LO_RATE + 2 ^ 32 * s.fld F.TIM_RATE_HI_RATE

def State.setRate (s : State) (v : Nat) : State :=
  (s.setFld F.TIM_RATE_LO_RATE v).setFld F.TIM_RATE_HI_RATE (v / 2 ^ 32)

/-- Nominal RATE (R455). -/
def nominalRate : Nat := 0x0208D5555555

/-- Linear time L of an FRC value: OFFSET + floor(FRC * RATE / 2^24), modulo 2^96 (R455). -/
def State.linear (s : State) (frc : Nat) : Nat := (s.offset + frc * s.rate / 2 ^ 24) % 2 ^ 96

/-- The three parts of the time format (R455). -/
def secondsOf (l : Nat) : Nat := l / (10 ^ 9 * 2 ^ 16) % 2 ^ 48
def nanosOf (l : Nat) : Nat := l / 2 ^ 16 % 10 ^ 9
def subNanosOf (l : Nat) : Nat := l % 2 ^ 16

/-- L of a time given in seconds, nanoseconds and sub-nanoseconds. -/
def linearOf (sec ns sub : Nat) : Nat := ((sec * 10 ^ 9 + ns) * 2 ^ 16 + sub) % 2 ^ 96

/-- Time valid (R458). -/
def State.timeValid (s : State) : Bool := s.flag F.TIM_STATUS_VALID

/-- A step in 2^-16 ns as nanoseconds, truncated toward zero and saturated to 32 bits, as the two's complement word an
event carries (R460, R461). -/
def stepNs (d : Int) : Nat := encode2c 32 (clampInt (-2 ^ 31) (2 ^ 31 - 1) (d.tdiv (2 ^ 16)))

/-- Aster's source code in events. -/
def srcAster : Nat := srcOther

/-- OFFSET moves by a step: L moves by exactly the change (R456), and timestamps taken before it measure nothing any more (R461). -/
def State.moveOffset (s : State) (d : Int) : State :=
  let s := s.setOffset (((s.offset : Int) + d) % (2 ^ 96 : Nat)).toNat
  let s := s.setFld F.TIM_STATUS_VALID 1
  { s with time := { s.time with stepped := true, ptpRx := [], ptpTx := [] } }

/-- RATE changes on the edge of an FRC value, with L kept continuous (R456). -/
def State.changeRate (s : State) (frc rate : Nat) : State :=
  let l := s.linear frc
  let s := s.setRate rate
  s.setOffset ((((l : Int) - ((frc * rate / 2 ^ 24 : Nat) : Int)) % (2 ^ 96 : Nat)).toNat)

/-- The jump threshold, in 2^-16 ns (R460). -/
def State.jumpLimit (s : State) : Nat := s.fld F.TIM_JUMP_THR * 2 ^ 16

/-- A change of OFFSET of this size is refused while time is valid (R460). -/
def State.jumpRefused (s : State) (d : Int) : Bool := s.timeValid && decide ((s.jumpLimit : Int) < (d.natAbs : Int))

/-- What a refused step leaves: the event, the count, JUMP_PENDING (R460). -/
def State.refuseJump (s : State) (d : Int) : State :=
  let s := s.raise 0x2010 (stepNs d) srcAster sevWarning
  let s := s.addFld F.TIM_JUMP_REFUSED_COUNT 1
  s.setFld F.TIM_STATUS_JUMP_PENDING 1

/-- A forced step (R461): the event, the count, JUMP_PENDING cleared, and the servo's filter restarted. -/
def State.forceStep (s : State) (d : Int) : State :=
  let s := s.moveOffset d
  let s := s.raise 0x2011 (stepNs d) srcAster sevNotice
  let s := s.addFld F.TIM_STEPS_COUNT 1
  let s := s.setFld F.TIM_STATUS_JUMP_PENDING 0
  { s with time := { s.time with inWindow := 0 } }

/-- The step a TIME command asks for on an edge: MODE 0 its adjustment, MODE 1 the difference to the absolute time. -/
def State.askedStep (s : State) (c : Cmd) (frc : Nat) : Int :=
  if c.op = 0 then sleAt c.payload 4 8
  else
    let l := linearOf (leAt c.payload 4 6) (leAt c.payload 10 4) (leAt c.payload 14 2)
    signed 96 ((l + (2 ^ 96 - s.linear frc)) % 2 ^ 96)

/-- The reply of a TIME command: the step applied and the FRC of the edge (R471). -/
def timeReply (d : Int) (frc : Nat) : List Byte := leBytes 8 (encode2c 64 d) ++ leBytes 8 frc

/-- Check 11 of TIME_SET_OFFSET and TIME_STEP_FORCE (R471, R472). -/
def chkTimeSet (force : Bool) (c : Cmd) : Option Status :=
  let p := c.payload
  if p.length ≠ 16 ∨ !zeroAt p 1 3 then some .badParam
  else match c.op with
    | 0 => if zeroAt p 12 4 then none else some .badParam
    | 1 => if leAt p 10 4 < 10 ^ 9 then none else some .badParam
    | 2 =>
      let r := leAt p 4 6
      let d := if r < nominalRate then nominalRate - r else r - nominalRate
      if force ∨ !zeroAt p 10 6 ∨ 200 * nominalRate < d * 10 ^ 6 then some .badParam else none
    | _ => some .badParam

/-- TIME_SET_OFFSET is not permitted while the servo is ACQUIRING or LOCKED, or in DOZE (R459, R471). -/
def ctxTimeSet (s : State) : Option Status :=
  if s.fld F.TIM_STATUS_SERVO = 1 ∨ s.fld F.TIM_STATUS_SERVO = 2 ∨ s.fld F.PWR_STATUS_STATE = 3 then
    some .notPermitted else none

/-- TIME_SET_OFFSET MODE 0 or 1 within the threshold, or LIMIT (R460, R471). -/
def State.setOffsetCmd (s : State) (c : Cmd) (edge : Nat) : State :=
  let frc := s.frcAt edge
  let d := s.askedStep c frc
  if s.jumpRefused d then (s.refuseJump d).finishNow c.tag .limit []
  else (s.moveOffset d).finishNow c.tag .ok (timeReply d frc)

def execTimeAdjust (tag : Nat) (edge : Nat) (s : State) : Host.Outcome State Fault Refusal :=
  .next (s.performStart 0x0302 tag (isOp 0) (fun c s => s.setOffsetCmd c edge))

def execTimeSetAbsolute (tag : Nat) (edge : Nat) (s : State) : Host.Outcome State Fault Refusal :=
  .next (s.performStart 0x0302 tag (isOp 1) (fun c s => s.setOffsetCmd c edge))

/-- TIME_SET_OFFSET MODE 2: RATE on one edge, with L continuous (R456, R471). -/
def execTimeSetRate (tag : Nat) (edge : Nat) (s : State) : Host.Outcome State Fault Refusal :=
  .next (s.performStart 0x0302 tag (isOp 2) (fun c s =>
    let frc := s.frcAt edge
    (s.changeRate frc (leAt c.payload 4 6)).finishNow c.tag .ok (timeReply 0 frc)))

/-- TIME_STEP_FORCE: the step, whatever its size (R461, R472). -/
def State.stepForceCmd (s : State) (c : Cmd) (edge : Nat) : State :=
  let frc := s.frcAt edge
  let d := s.askedStep c frc
  (s.forceStep d).finishNow c.tag .ok (timeReply d frc)

def execTimeStepForceAdjust (tag : Nat) (edge : Nat) (s : State) : Host.Outcome State Fault Refusal :=
  .next (s.performStart 0x0303 tag (isOp 0) (fun c s => s.stepForceCmd c edge))

def execTimeStepForceAbsolute (tag : Nat) (edge : Nat) (s : State) : Host.Outcome State Fault Refusal :=
  .next (s.performStart 0x0303 tag (isOp 1) (fun c s => s.stepForceCmd c edge))

/-- A write of 1 to TIM_CTRL.SNAP latches FRC and L of one edge (R457). -/
def State.snapshot (s : State) (edge : Nat) : State :=
  let frc := s.frcAt edge
  let l := s.linear frc
  let s := s.setFld F.TIM_SNAP_FRC_LO_FRC frc
  let s := s.setFld F.TIM_SNAP_FRC_HI_FRC (frc / 2 ^ 32)
  let s := s.setFld F.TIM_SNAP_SEC_LO_SEC (secondsOf l)
  let s := s.setFld F.TIM_SNAP_SEC_HI_SEC (secondsOf l / 2 ^ 32)
  let s := s.setFld F.TIM_SNAP_NS_NS (nanosOf l)
  let s := s.setFld F.TIM_SNAP_SUB_SUB (subNanosOf l)
  s.setFld F.TIM_STATUS_SNAP_VALID 1

/-! ### Comparators (R462-R464) -/

/-- States of a comparator, in the code of TIM_CMPi_CTRL.STATE. -/
inductive CmpState where
  | idle | armed | fired | missed
deriving DecidableEq, Repr

def CmpState.code : CmpState → Nat
  | .idle => 0 | .armed => 1 | .fired => 2 | .missed => 3

def CmpState.ofCode : Nat → CmpState
  | 0 => .idle | 1 => .armed | 2 => .fired | _ => .missed

def State.cmpState (s : State) (i : Nat) : CmpState := .ofCode (s.fld (F.TIM_CMP_CTRL_STATE i))
def State.setCmp (s : State) (i : Nat) (x : CmpState) : State := s.setFld (F.TIM_CMP_CTRL_STATE i) x.code

/-- A comparator's target as L (R462). -/
def State.cmpTarget (s : State) (i : Nat) : Nat :=
  linearOf (s.fld (F.TIM_CMP_SEC_LO_SEC i) + 2 ^ 32 * s.fld (F.TIM_CMP_SEC_HI_SEC i)) (s.fld (F.TIM_CMP_NS_NS i)) 0

/-- Stores a target, in seconds and nanoseconds. -/
def State.setCmpTarget (s : State) (i : Nat) (totalNs : Nat) : State :=
  let sec := totalNs / 10 ^ 9 % 2 ^ 48
  let s := s.setFld (F.TIM_CMP_SEC_LO_SEC i) sec
  let s := s.setFld (F.TIM_CMP_SEC_HI_SEC i) (sec / 2 ^ 32)
  s.setFld (F.TIM_CMP_NS_NS i) (totalNs % 10 ^ 9)

/-- The signed 64-bit difference of R462, for a target given as L. -/
def timeDelta (l lt : Nat) : Int := signed 64 ((l % 2 ^ 64 + (2 ^ 64 - lt % 2 ^ 64)) % 2 ^ 64)

/-- WINDOW in 2^-16 ns. -/
def windowOf (us : Nat) : Int := ((us * 1000 * 2 ^ 16 : Nat) : Int)

/-- The nanoseconds a comparator's target stands at. -/
def State.cmpNs (s : State) (i : Nat) : Nat :=
  (s.fld (F.TIM_CMP_SEC_LO_SEC i) + 2 ^ 32 * s.fld (F.TIM_CMP_SEC_HI_SEC i)) * 10 ^ 9 + s.fld (F.TIM_CMP_NS_NS i)

/-- Check 11 of TIME_ARM_TRIGGER (R473, Table 16-1, Table 16-2); ACTION 0 only disarms, and its other fields are not
tested beyond MASK (log entry 9). -/
def chkTimeArm (s : State) (c : Cmd) : Option Status :=
  let p := c.payload
  let a := leAt p 1 1
  let mask := leAt p 2 2
  let period := leAt p 16 4
  let width := leAt p 22 2
  let lt := linearOf (leAt p 4 6) (leAt p 10 4) 0
  let d := timeDelta (s.linear (s.frcAt 0)) lt
  if p.length ≠ 32 ∨ 16 ≤ c.op ∨ 6 ≤ a ∨ (a ≠ 2 ∧ a ≠ 5 ∧ mask ≠ 0) then some .badParam
  else if a = 0 then none
  else if 10 ^ 9 ≤ leAt p 10 4 ∨ !zeroAt p 14 2 ∨ leAt p 20 2 = 0 ∨ !zeroAt p 30 2 ∨ 1024 ≤ leAt p 28 2 ∨
      ((a = 1 ∨ a = 2) ∧ width = 0) ∨ (a ≠ 1 ∧ a ≠ 2 ∧ width ≠ 0) ∨
      (period ≠ 0 ∧ (period < 1000 ∨ period ≤ width * 10000)) ∨
      (s.timeValid ∧ (2 ^ 62 : Int) ≤ (d.natAbs : Int)) then some .badParam
  else if s.cmpState c.op = .armed then some .notPermitted
  else none

/-- TIME_ARM_TRIGGER with ACTION 1 to 5: the fields are loaded, and the comparator is ARMED, or MISSED where its target
has passed beyond the window (Table 16-2). -/
def execTimeArmTrigger (tag : Nat) (edge : Nat) (s : State) : Host.Outcome State Fault Refusal :=
  .next (s.performStart 0x0304 tag (fun c => leAt c.payload 1 1 != 0) (fun c s =>
    let p := c.payload
    let i := c.op
    let s := s.setFld (F.TIM_CMP_CTRL_ACTION i) (leAt p 1 1)
    let s := s.setFld (F.TIM_CMP_CTRL_MASK i) (leAt p 2 2)
    let s := s.setCmpTarget i (leAt p 4 6 * 10 ^ 9 + leAt p 10 4)
    let s := s.setFld (F.TIM_CMP_PERIOD_PERIOD i) (leAt p 16 4)
    let s := s.setFld (F.TIM_CMP_WIN_WINDOW i) (leAt p 20 2)
    let s := s.setFld (F.TIM_CMP_WIN_WIDTH i) (leAt p 22 2)
    let s := s.setFld (F.TIM_CMP_TICKNO_TICKNO i) (leAt p 24 4)
    let s := s.setFld (F.TIM_CMP_SFN_SFN i) (leAt p 28 2)
    let d := timeDelta (s.linear (s.frcAt edge)) (s.cmpTarget i)
    if s.timeValid ∧ windowOf (s.fld (F.TIM_CMP_WIN_WINDOW i)) < d then
      ((s.setCmp i .missed).raise 0x2013 0 srcAster sevWarning).finishNow c.tag .ok (leBytes 4 CmpState.missed.code)
    else (s.setCmp i .armed).finishNow c.tag .ok (leBytes 4 CmpState.armed.code)))

/-- TIME_ARM_TRIGGER with ACTION 0: IDLE (Table 16-2). -/
def execTimeDisarmTrigger (tag : Nat) (s : State) : Host.Outcome State Fault Refusal :=
  .next (s.performStart 0x0304 tag (fun c => leAt c.payload 1 1 == 0) (fun c s =>
    let s := s.setFld (F.TIM_CMP_CTRL_ACTION c.op) 0
    let s := s.setFld (F.TIM_CMP_CTRL_MASK c.op) 0
    (s.setCmp c.op .idle).finishNow c.tag .ok (leBytes 4 CmpState.idle.code)))

/-- ACTION 3 starts the capture that REC_ARM armed for a comparator trigger: on the boundary that opens the next tick
(Table 16-1, R554). -/
def State.triggerRecorder (s : State) (kind : Nat) (boundaries : Nat) : State :=
  match s.recd.arm with
  | some a =>
    if a.trigger = kind ∧ s.fld F.REC_STATUS_STATE = 1 ∧ s.recd.startIn = none then
      { s with recd := { s.recd with startIn := some boundaries } }
    else s
  | none => s

/-- Interrupt source 3 of the engines of a mask (Table 16-1, ACTION 5). -/
def ringEngines (s : State) (mask : Nat) : State :=
  (maskList 16 mask).foldl (fun s e => s.setFld (F.LE_IRQ_PEND e) (putBits (s.fld (F.LE_IRQ_PEND e)) 3 1 1)) s

/-- What a firing comparator does (Table 16-1); the recorder notes ACTIONs 4 and 5 as time items of kinds 1 and 2, the latter with
the mask above bit 4. A load of ACTION 4 while Crocus is STOPPED waits for the first counted boundary (log 157). -/
def State.cmpAct (s : State) (i : Nat) : State :=
  match s.fld (F.TIM_CMP_CTRL_ACTION i) with
  | 1 => { s with time := { s.time with pulses := sput (fun _ => 0) s.time.pulses i (2 ^ 16) } }
  | 2 => { s with time := { s.time with pulses := sput (fun _ => 0) s.time.pulses i (s.fld (F.TIM_CMP_CTRL_MASK i)) } }
  | 3 => s.triggerRecorder 2 1
  | 4 => { s.noteItem (.time 1) with time := { (s.noteItem (.time 1)).time with loads := insertNat s.time.loads i } }
  | 5 => ringEngines (s.noteItem (.time (16 * s.fld (F.TIM_CMP_CTRL_MASK i) + 2))) (s.fld (F.TIM_CMP_CTRL_MASK i))
  | _ => s

/-- A comparator's target is reached within its window on an edge of the open tick (Table 16-2). -/
def execTimeCmpFired (i : Fin 16) (edge : Nat) (s : State) : Host.Outcome State Fault Refusal :=
  let i := i.val
  let d := timeDelta (s.linear (s.frcAt edge)) (s.cmpTarget i)
  if s.cmpState i = .armed ∧ s.timeValid ∧ 0 ≤ d ∧ d ≤ windowOf (s.fld (F.TIM_CMP_WIN_WINDOW i)) then
    let t := (s.cmpAct i).raise 0x2012 i srcAster sevDebug
    let per := s.fld (F.TIM_CMP_PERIOD_PERIOD i)
    .next (if per = 0 then t.setCmp i .fired else t.setCmpTarget i (s.cmpNs i + per))
  else .next s

/-- A comparator's target has passed beyond its window: MISSED, or advanced by the fewest whole periods that put it in the
future (Table 16-2). -/
def execTimeCmpMissed (i : Fin 16) (edge : Nat) (s : State) : Host.Outcome State Fault Refusal :=
  let i := i.val
  let d := timeDelta (s.linear (s.frcAt edge)) (s.cmpTarget i)
  if s.cmpState i = .armed ∧ s.timeValid ∧ windowOf (s.fld (F.TIM_CMP_WIN_WINDOW i)) < d then
    let per := s.fld (F.TIM_CMP_PERIOD_PERIOD i)
    if per = 0 then .next ((s.setCmp i .missed).raise 0x2013 0 srcAster sevWarning)
    else
      let n := d.toNat / (per * 2 ^ 16) + 1
      .next ((s.setCmpTarget i (s.cmpNs i + n * per)).raise 0x2013 n srcAster sevWarning)
  else .next s

/-- A comparator's pulse falls, WIDTH after its last firing (R464). -/
def execTimePulseEnd (i : Fin 16) (s : State) : Host.Outcome State Fault Refusal :=
  .next { s with time := { s.time with pulses := s.time.pulses.filter (fun x => x.1 != i.val) } }

/-- PPS_OUT is high while a pulse of an ACTION 1 comparator is: pulses on one output are ORed (R464). -/
def State.ppsOut (s : State) : Bool :=
  s.time.pulses.any (fun p => bitAt p.2 16)

/-- A GPIO carries a pulse of a masked ACTION 2 comparator; GPIO0 to GPIO5 serve the boot flash at all times (R571), and
GPIO8 to GPIO13 the PA-driver bus while it is on (R152). -/
def State.gpioPulse (s : State) (g : Nat) : Bool :=
  decide (6 ≤ g ∧ g < 16) && !(s.flag F.FES_PADRV_CTRL_EN && decide (8 ≤ g ∧ g ≤ 13)) &&
  s.time.pulses.any (fun p => bitAt p.2 g)

/-! ### Anchors (R465) -/

def State.anchor (s : State) (i : Nat) : Anchor := sget (fun _ => Anchor.blank) s.time.anchors i

/-- Writes the anchor of the frame boundary that has just opened. Its EVSEQ is free until the first event at or after the
boundary is numbered (EVSEQ_VALID 0). -/
def State.writeAnchor (s : State) : State :=
  let l := s.linear s.time.frc
  let (ev, s) := s.fresh 64
  let fl := 2 * b2n s.timeValid + 4 * b2n s.time.stepped + 8 * b2n (s.fld F.TIM_STATUS_SERVO == 3)
  let a : Anchor := ⟨ev, s.tickno, s.fld F.TCK_FRAME_SFN, fl, secondsOf l, nanosOf l, subNanosOf l, s.time.written % 2 ^ 32⟩
  let i := s.time.written % 16
  let s := { s with time := { s.time with
    anchors := sput (fun _ => Anchor.blank) s.time.anchors i a
    written := s.time.written + 1
    stepped := false } }
  let s := s.setFld F.TIM_ANC_HEAD_NEWEST i
  s.setFld F.TIM_ANC_HEAD_COUNT (min s.time.written 15)

/-- An event of tick `t` has taken EVSEQ `n`: every anchor still waiting whose boundary does not lie after `t` takes it. -/
def State.numberAnchors (s : State) (t n : Nat) : State :=
  (List.range (min s.time.written 16)).foldl (fun s i =>
    let a := s.anchor i
    if bitAt a.flags 0 ∨ tickAfter a.tickno t then s
    else { s with time := { s.time with
      anchors := sput (fun _ => Anchor.blank) s.time.anchors i { a with evseq := n, flags := a.flags + 1 } } }) s

/-- The 32 bytes of an anchor entry, Table 16-3. -/
def Anchor.bytes (a : Anchor) : List Byte :=
  leBytes 8 a.evseq ++ leBytes 4 a.tickno ++ leBytes 2 a.sfn ++ leBytes 1 a.flags ++ leBytes 1 0 ++
  leBytes 6 a.sec ++ leBytes 4 a.ns ++ leBytes 2 a.sub ++ leBytes 4 a.seq

/-- A read of TIM_ANC_DATA returns word INDEX mod 8 of entry INDEX / 8 and advances INDEX modulo 128 (R475). -/
def State.readAncData (s : State) : Nat × State :=
  let i := s.fld F.TIM_ANC_ADDR_INDEX
  (leAt (s.anchor (i / 8)).bytes (4 * (i % 8)) 4, s.setFld F.TIM_ANC_ADDR_INDEX ((i + 1) % 128))

/-! ### The PTP servo (R466-R468) -/

/-- The servo's states, in the code of TIM_STATUS.SERVO. -/
inductive ServoState where
  | off | acquiring | locked | holdover
deriving DecidableEq, Repr

def ServoState.code : ServoState → Nat
  | .off => 0 | .acquiring => 1 | .locked => 2 | .holdover => 3

def ServoState.ofCode : Nat → ServoState
  | 0 => .off | 1 => .acquiring | 2 => .locked | _ => .holdover

def State.servo (s : State) : ServoState := .ofCode (s.fld F.TIM_STATUS_SERVO)
def State.setServo (s : State) (x : ServoState) : State := s.setFld F.TIM_STATUS_SERVO x.code

/-- The servo may run: PTP is enabled and some port is a slave candidate (R468). -/
def State.servoEnabled (s : State) : Bool := s.flag F.TIM_PTP_CFG_EN && decide (s.fld F.TIM_PTP_CFG_SLAVE ≠ 0)

/-- Entry into HOLDOVER: RATE is held and TIME_HOLDOVER raised (R468). -/
def State.servoHoldover (s : State) : State :=
  if s.servo = .acquiring ∨ s.servo = .locked then
    let s := s.setServo .holdover
    let s := s.setFld F.TIM_PTP_STAT_PARENT 0xF
    let s := { s with time := { s.time with parent := none, inWindow := 0 } }
    s.raiseFree 0x2015 srcAster sevWarning
  else s

/-- RATE held within 50 ppm of nominal, as the servo steers it (R468). -/
def clampRate (r : Nat) : Nat :=
  let d := nominalRate * 50 / 10 ^ 6
  max (nominalRate - d) (min (nominalRate + d) r)

/-- The offset from the measured master-to-slave and slave-to-master times [2^-16 ns], corrected for the parent port's
asymmetry [ps] (R467): the mean path delay and the offset. -/
def servoMeasure (ms sm asymPs : Int) : Int × Int :=
  let mean := (ms + sm) / 2
  let asym := asymPs * 2 ^ 16 / 1000
  (mean, ms - mean - asym / 2)

/-- What an update with a selected parent does once time is valid: an offset beyond the threshold refuses its step, a
smaller one may step the phase, RATE is steered, and the lock count advances (R468). -/
def State.servoSteer (s : State) (off phase : Int) (rate frc : Nat) : State :=
  let s :=
    if (s.jumpLimit : Int) < (off.natAbs : Int) then s.refuseJump (-off)
    else
      let s := s.setFld F.TIM_STATUS_JUMP_PENDING 0
      if phase = 0 then s else s.moveOffset (clampInt (-(s.jumpLimit : Int)) s.jumpLimit phase)
  s.changeRate frc (clampRate rate)

/-- ACQUIRING becomes LOCKED after 16 consecutive updates with the offset below 100 ns (R468). -/
def State.servoCount (s : State) (off : Int) : State :=
  let n := if off.natAbs < 100 * 65536 then s.time.inWindow + 1 else 0
  let s := { s with time := { s.time with inWindow := n } }
  if s.servo = .acquiring ∧ 16 ≤ n then (s.setServo .locked).raiseFree 0x2014 srcAster sevInfo else s

/-- A latency [ps] in 2^-16 ns. -/
def fineOf (ps : Int) : Int := ps * 65536 / 1000

/-- Aster time at which a frame passes a port's balls: an instant of the open tick (log 156), corrected by the fixed latency [ps] between
the PCS and the balls: later by it on the way out, earlier on the way in (R303). -/
def State.stampAt (s : State) (latPs : Int) : Nat × State :=
  let (v, t) := s.fresh 24
  ((((s.linear (s.frcAt 0) + v % 17066667 : Nat) + fineOf latPs) % (2 ^ 96 : Nat)).toNat, t)

/-- A big-endian field of a PTP message. -/
def beAt (bs : List Byte) (off n : Nat) : Nat := leAt (slice bs off n).reverse 0 n

/-- correctionField [2^-16 ns]. -/
def ptpCorrection (bs : List Byte) : Int := signed 64 (beAt bs 8 8)

/-- A timestamp in a PTP message [2^-16 ns]. -/
def ptpTimeAt (bs : List Byte) : Nat := (beAt bs 34 6 * 1000000000 + beAt bs 40 4) * 65536

/-- Sync and Delay_Req with a residence time added to correctionField in flight; other messages unchanged (R305). -/
def withResidence (mtype : Nat) (bs : List Byte) (r : Int) : List Byte :=
  if mtype ≤ 1 ∧ 16 ≤ bs.length then bs.take 8 ++ beBytes 8 (encode2c 64 (ptpCorrection bs + r)) ++ bs.drop 16 else bs

/-- A received message of the device's domain goes to the PTP stack with its ingress timestamp; management and signalling messages
are discarded (R303, R466). -/
def State.notePtp (s : State) (port mtype : Nat) (bs : List Byte) (stamp : Nat) : State :=
  if mtype = 12 ∨ mtype = 13 ∨ leAt bs 4 1 ≠ s.fld F.TIM_PTP_CFG_DOMAIN then s
  else { s with time := { s.time with ptpRx := sput (fun _ => (0, [])) s.time.ptpRx (16 * port + mtype) (stamp, bs) } }

/-- The newest message of a type on a port, and its ingress timestamp. -/
def State.ptpHeld (s : State) (port mtype : Nat) : Option (Nat × List Byte) :=
  let m := sget (fun _ => (0, [])) s.time.ptpRx (16 * port + mtype)
  if m.2.isEmpty then none else some m

/-- The time at the master of the held Sync, with its corrections: its own originTimestamp, or two-step the Follow_Up's (R466). -/
def State.syncOrigin (s : State) (port : Nat) (sync : List Byte) : Option Int :=
  if bitAt (leAt sync 6 1) 1 then
    match s.ptpHeld port 8 with
    | some (_, fu) =>
      if beAt fu 30 2 = beAt sync 30 2 then some (ptpTimeAt fu + ptpCorrection sync + ptpCorrection fu) else none
    | none => none
  else some (ptpTimeAt sync + ptpCorrection sync)

/-- Master-to-slave and slave-to-master times on a port, from its Sync, the device's own Delay_Req and the answer to it (R455, R466): none
before such an exchange. -/
def State.servoTimes (s : State) (port : Nat) : Option (Int × Int) :=
  match s.ptpHeld port 0, s.ptpHeld port 9, sget (fun _ => (0, 0)) s.time.ptpTx port with
  | some (t2, sync), some (_, resp), (q, t3) =>
    if beAt resp 30 2 = q ∧ beAt resp 44 8 = Config.clockIdentity % 2 ^ 64 ∧ beAt resp 52 2 = port + 1 then
      (s.syncOrigin port sync).map (fun t1 => ((t2 : Int) - t1, (ptpTimeAt resp : Int) - ptpCorrection resp - t3))
    else none
  | _, _, _ => none

/-- A parent is selected: the port and clockClass of the alternate BMCA. -/
def State.adoptParent (s : State) (port cls : Nat) : State :=
  let s := if s.servo = .off ∨ s.servo = .holdover then s.setServo .acquiring else s
  let s := (s.setFld F.TIM_PTP_STAT_PARENT port).setFld F.TIM_PTP_STAT_CLASS cls
  { s with time := { s.time with parent := some port } }

/-- An update with a parent and a measurement. -/
def State.servoParent (s : State) (port cls : Nat) (ms sm phase : Int) (rate edge : Nat) : State :=
  let s := s.adoptParent port cls
  let m := servoMeasure ms sm (s.sfld (F.TIM_ASYM_ASYM port))
  let s := s.setFld F.TIM_PTP_OFS_OFS (stepNs m.2)
  let s := s.setFld F.TIM_PTP_DELAY_DELAY (encode2c 32 (m.1 / 65536))
  if s.timeValid then (s.servoSteer m.2 phase rate (s.frcAt edge)).servoCount m.2
  else s.moveOffset (-m.2)

/-- One update of the servo (R468): `parent` is the port and clockClass the alternate BMCA selected, `phase` and `rate` the corrections of
the servo's filter, which the spec bounds and does not state. Before a whole exchange there is nothing to measure. -/
def State.servoUpdate (s : State) (parent : Option (Nat × Nat)) (phase : Int) (rate edge : Nat) : State :=
  if !s.servoEnabled then
    { (s.setServo .off).setFld F.TIM_PTP_STAT_PARENT 0xF with time := { s.time with parent := none, inWindow := 0 } }
  else if s.fld F.MBX_STATUS_MODE = 1 then s.servoHoldover
  else match parent with
    | none => s
    | some (port, cls) =>
      match s.servoTimes port with
      | some (ms, sm) => s.servoParent port cls ms sm phase rate edge
      | none => s.adoptParent port cls

/-- The port that the servo takes a measurement from: on a cascade member its upstream port (R366). -/
def State.slavePort (s : State) (port : Nat) : Nat := if s.fld F.CAS_CFG_ROLE = 2 then 4 + s.fld F.CAS_CFG_UP_PORT else port

/-- PTP_SERVO_UPDATE. The one-way times are those of the port's last exchange; the row's are not read (log 171). -/
def execPtpServoUpdate (parent : Option (Fin 8 × Nat)) (_ms _sm phase : Int) (rate edge : Nat) (s : State) :
    Host.Outcome State Fault Refusal :=
  .next (s.servoUpdate (parent.map (fun p => (s.slavePort p.1.val, p.2))) phase rate edge)

/-! ### Messages of the device's own (R303, R304, R466) -/

/-- The common header of a PTP message (log 156). -/
def State.ptpHeader (s : State) (mtype length port seq correction : Nat) (interval : Nat) : List Byte :=
  leBytes 1 mtype ++ leBytes 1 0x12 ++ beBytes 2 length ++ leBytes 1 (s.fld F.TIM_PTP_CFG_DOMAIN) ++ leBytes 1 0 ++
  beBytes 2 0 ++ beBytes 8 correction ++ beBytes 4 0 ++ beBytes 8 Config.clockIdentity ++ beBytes 2 (port + 1) ++
  beBytes 2 seq ++ leBytes 1 0 ++ leBytes 1 interval

/-- A timestamp of PTP: seconds and nanoseconds. -/
def ptpTime (l : Nat) : List Byte := beBytes 6 (secondsOf l) ++ beBytes 4 (nanosOf l)

/-- The next sequenceId of a port's messages of a type. -/
def State.ptpNext (s : State) (port mtype : Nat) : Nat × State :=
  let q := sget (fun _ => 0) s.time.ptpSeq (16 * port + mtype)
  (q, { s with time := { s.time with ptpSeq := sput (fun _ => 0) s.time.ptpSeq (16 * port + mtype) ((q + 1) % 2 ^ 16) } })

/-- A one-step Sync that leaves at `l`: originTimestamp from the egress timestamp, twoStepFlag 0 (R304). -/
def State.syncMessage (s : State) (port l : Nat) : List Byte × State :=
  let (q, s) := s.ptpNext port 0
  (s.ptpHeader 0 44 port q (subNanosOf l) 0xFC ++ ptpTime l, s)

/-- A Delay_Req of the slave port. -/
def State.delayRequest (s : State) (port : Nat) : List Byte × State :=
  let (q, s) := s.ptpNext port 1
  (s.ptpHeader 1 44 port q 0 0x7F ++ ptpTime 0, s)

/-- An Announce of a master port. -/
def State.announce (s : State) (port : Nat) : List Byte × State :=
  let (q, s) := s.ptpNext port 11
  (s.ptpHeader 11 64 port q 0 0xFD ++ (List.range 30).map (fun i => BitVec.ofNat 8 (Config.announceBody port q i)), s)

/-- The Delay_Resp to a Delay_Req that came at `l`: its receiveTimestamp and requestingPortIdentity, and its correctionField less the
sub-nanoseconds. -/
def State.delayResponse (s : State) (port l : Nat) (req : List Byte) : List Byte :=
  s.ptpHeader 9 54 port (beAt req 30 2) (encode2c 64 (ptpCorrection req - subNanosOf l)) 0x7F ++ ptpTime l ++ slice req 20 10

/-- The device's own PTP messages of a tick: Sync on master ports and Delay_Req on the parent's 16 times a second, Announce 8
times (R466). -/
def State.ptpDue (s : State) (per : Nat) : Bool :=
  s.flag F.TIM_PTP_CFG_EN && s.fld F.MBX_STATUS_MODE != 1 && s.elapsed % (3840000 / per) == 0

/-- A boundary clock's master ports. -/
def State.ptpMaster (s : State) (port : Nat) : Bool :=
  s.flag F.TIM_PTP_CFG_EN && s.flag F.TIM_PTP_CFG_BC && bitAt (s.fld F.TIM_PTP_CFG_MASTER) port

/-- No Announce for three intervals, or no Sync for 1 s (R468). -/
def execPtpParentLoss (s : State) : Host.Outcome State Fault Refusal := .next s.servoHoldover

end Sys2Proof.Machine
end

