-- ==== Sys2Proof/Machine/Apply.lean ====
section
/-!
DEFINITION. Sys2Proof/Machine/Apply.lean: what commits write. Stream rates and default filters, the tables a change goes to,
the state as it will stand at a commit tick (for checks 11 and 12 of Table 03-4), PARTIAL masks, and the front-end
schedule's classes (R164).
-/
namespace Sys2Proof.Machine

/-! ### Streams (Table 04-3, Table 05-2) -/

/-- Samples per tick of a rate code. -/
def rateS (code : Nat) : Nat := 16 * 2 ^ code

/-- Maximum taps, default receive taps and default shaping taps of a rate code. -/
def maxTaps (code : Nat) : Nat := [384, 192, 96, 48, 24, 12].getD code 0
def rxDefaultTaps (code : Nat) : Nat := [96, 96, 96, 48, 24, 12].getD code 0
def txDefaultTaps (code : Nat) : Nat := [72, 72, 72, 36, 18, 9].getD code 0

/-- The default channel filter of a rate code (R632). -/
def rxDefault (code : Nat) : List Int :=
  (List.range (rxDefaultTaps code)).map (fun i => clampInt (-131072) 131071 (Config.rxCoef code i))

/-- All taps of a symmetric filter of `T` taps from its first half (R140). -/
def mirror (taps : Nat) (half : List Int) : List Int :=
  (List.range taps).map (fun i => half.getD (min i (taps - 1 - i)) 0)

/-- The default shaping filter of a rate code (R632). -/
def txDefault (code : Nat) : List Int :=
  let t := txDefaultTaps code
  mirror t ((List.range ((t + 1) / 2)).map (fun i => clampInt (-131072) 131071 (Config.txCoef code i)))

/-- Source codes of paths, quads, observation receivers, engines, lanes, ports and dies (Table 19-1). -/
def srcRx (p : Nat) : Nat := srcCode 0 p
def srcTx (p : Nat) : Nat := srcCode 1 p
def srcQuad (n : Nat) : Nat := srcCode 2 n
def srcOx (j : Nat) : Nat := srcCode 3 j
def srcEngine (e : Nat) : Nat := srcCode 4 e
def srcLane (l : Nat) : Nat := srcCode 5 l
def srcEth (k : Nat) : Nat := srcCode 6 k
def srcCas (k : Nat) : Nat := srcCode 7 k
def srcDie (d : Nat) : Nat := srcCode 8 d
def srcMd : Nat := srcCode 9 0

/-- Active coefficients of receive stream `4 * p + k`, and of a transmit stream. -/
def State.rxCoefs (s : State) (st : Nat) : List Int :=
  match sget (fun _ => []) s.rx.filters st with
  | [] => if s.flag (F.RXP_STR_CFG_EN (st / 4) (st % 4)) then rxDefault (s.fld (F.RXP_STR_CFG_RATE (st / 4) (st % 4))) else []
  | c => c

def State.txCoefs (s : State) (st : Nat) : List Int :=
  match sget (fun _ => []) s.tx.shapes st with
  | [] => if s.flag (F.TXP_STR_CFG_EN (st / 4) (st % 4)) then txDefault (s.fld (F.TXP_STR_CFG_RATE (st / 4) (st % 4))) else []
  | c => c

/-- A receive stream takes the default filter of its rate, or none when disabled. -/
def State.rxDefaults (s : State) (st : Nat) : State :=
  let p := st / 4
  let k := st % 4
  let s := { s with rx := { s.rx with filters := sput (fun _ => []) s.rx.filters st [] } }
  if s.flag (F.RXP_STR_CFG_EN p k) then
    let r := s.fld (F.RXP_STR_CFG_RATE p k)
    let s := s.setFld (F.RXP_STR_FILT_TAPS p k) (rxDefaultTaps r)
    s.setFld (F.RXP_STR_FILT_OUT_SHIFT p k) (encode2c 3 (clampInt (-4) 3 (Config.rxShift r)))
  else (s.setFld (F.RXP_STR_FILT_TAPS p k) 0).setFld (F.RXP_STR_FILT_OUT_SHIFT p k) 0

/-- A transmit stream takes the default filter of its rate, or none when disabled. -/
def State.txDefaults (s : State) (st : Nat) : State :=
  let p := st / 4
  let k := st % 4
  let s := { s with tx := { s.tx with shapes := sput (fun _ => []) s.tx.shapes st [] } }
  if s.flag (F.TXP_STR_CFG_EN p k) then
    let r := s.fld (F.TXP_STR_CFG_RATE p k)
    let s := s.setFld (F.TXP_STR_SHAPE_TAPS p k) (txDefaultTaps r)
    s.setFld (F.TXP_STR_SHAPE_OUT_SHIFT p k) (encode2c 3 (clampInt (-4) 3 (Config.txShift r)))
  else (s.setFld (F.TXP_STR_SHAPE_TAPS p k) 0).setFld (F.TXP_STR_SHAPE_OUT_SHIFT p k) 0

/-- EN or RATE of a stream differs between two states. -/
def rxReshaped (old new : State) (st : Nat) : Bool :=
  old.fld (F.RXP_STR_CFG_EN (st / 4) (st % 4)) != new.fld (F.RXP_STR_CFG_EN (st / 4) (st % 4)) ||
  old.fld (F.RXP_STR_CFG_RATE (st / 4) (st % 4)) != new.fld (F.RXP_STR_CFG_RATE (st / 4) (st % 4))

def txReshaped (old new : State) (st : Nat) : Bool :=
  old.fld (F.TXP_STR_CFG_EN (st / 4) (st % 4)) != new.fld (F.TXP_STR_CFG_EN (st / 4) (st % 4)) ||
  old.fld (F.TXP_STR_CFG_RATE (st / 4) (st % 4)) != new.fld (F.TXP_STR_CFG_RATE (st / 4) (st % 4))

/-! ### Frequency entries -/

/-- The NCO words of a receive path follow its active entry; PHASE stays (R123). -/
def State.loadRxWords (s : State) (p : Nat) : State := (s.rxWords p).foldl (fun s w => s.loadFld w.1 w.2) s

def State.loadTxWords (s : State) (p : Nat) : State := (s.txWords p).foldl (fun s w => s.loadFld w.1 w.2) s

/-- Two entries share their stored calibration (R157). -/
def sharesCal (a b : FreqEntry) : Bool := a.defined && b.defined && a.calGroup == b.calGroup

/-! ### Changes -/

/-- A register change on the boundary: the marked bits of the shadow copy are copied to the active copy (R44). -/
def State.applyReg (s : State) (a m : Nat) : State :=
  s.setReg a (maskWord (s.reg a).toNat m (s.shadowReg a).toNat)

/-- NLOG of BF_CAR_CFG: N = 256 S / 2^mu (R178, Table 06-1), as 0 for 512 to 3 for 4,096. -/
def fftSize (rate mu : Nat) : Nat := 256 * rateS rate / 2 ^ mu
def nlogOf (rate mu : Nat) : Nat :=
  match fftSize rate mu with
  | 1024 => 1
  | 2048 => 2
  | 4096 => 3
  | _ => 0

/-- Writes map entries: a deletion or a replacement of the entry with the same eAxC ID and direction, else a free index
(R286, R308). -/
def eaxcDown (k : Nat) : Bool := k == 2

def putEaxc (m : List (Nat × Eaxc)) (e : Eaxc) : List (Nat × Eaxc) :=
  let same := fun (x : Eaxc) => x.kind != 0 && x.id == e.id && (e.kind == 0 || eaxcDown x.kind == eaxcDown e.kind)
  let m := sclear (fun i => same (sget (fun _ => Eaxc.empty) m i)) m
  if e.kind = 0 then m
  else match (List.range 256).find? (fun i => (sget (fun _ => Eaxc.empty) m i).kind == 0) with
    | some i => sput (fun _ => Eaxc.empty) m i e
    | none => m

/-- What one change writes, but for the filters, which follow the stream changes of the same tick (R108), and for effects
of the blocks that their own chapters state. -/
def State.store1 (s : State) (c : Change) : State :=
  match c with
  | .reg a m _ => s.applyReg a m
  | .gain p _ _ _ _ => s.applyReg (F.RXP_GAIN_MODE p).addr 0x3F01FFFF
  | .select p rx tx _ =>
    let s := s.entryAfter c
    let s := if rx then s.loadRxWords p else s
    if tx then s.loadTxWords p else s
  | .define n _ =>
    let s := s.entryAfter c
    (List.range 64).foldl (fun s p =>
      let s := if s.rxEntry p = n then s.loadRxWords p else s
      if s.txEntry p = n then s.loadTxWords p else s) s
  | .power p _ _ => s.applyReg (F.TXP_POWER_STEP p).addr 0xF3F
  | .column p col es =>
    { s with tx := { s.tx with powers :=
        ((List.range 64).foldl (fun m i =>
          sput (fun _ => PowerEntry.init) m ((6 * p + col) * 64 + i) (es.getD i PowerEntry.init)) s.tx.powers) } }
  | .mask p k _ ws =>
    let s := s.applyReg (F.TXP_STR_SHAPE_MASK_EN p k).addr 0x1800
    { s with tx := { s.tx with masks :=
        ((List.range 128).foldl (fun m i => sput (fun _ => 0) m ((p * 4 + k) * 128 + i) (ws.getD i 0)) s.tx.masks) } }
  | .beam e w => { s with bf := { s.bf with table := sput (fun _ => []) s.bf.table e w } }
  | .model p ts =>
    { s with dpd := { s.dpd with
        models := sput (fun _ => []) s.dpd.models p ts
        sets := sclear (fun i => i / 80 == p) s.dpd.sets } }
  | .coefs p slot acc c =>
    { s with dpd := { s.dpd with
        gens := s.dpd.gens + 1
        sets := sput (fun _ => CoefSet.empty) s.dpd.sets (80 * p + slot)
          ⟨if acc then .accepted else .loaded, c, (s.dpd.gens + 1) % 2 ^ 32⟩ } }
  | .eaxc es => { s with fh := { s.fh with map := es.foldl putEaxc s.fh.map } }
  | .opPoint _ => s.applyReg 0x20008 3
  | .filter _ _ _ | .shape _ _ _ | .retire _ _ | .freeze _ | .candidate _ | .revert _ | .gateClose _ _
  | .gateRelease _ => s

/-- What a filter change writes. An empty shaping set is the default of the stream's rate. -/
def State.store2 (s : State) (c : Change) : State :=
  match c with
  | .filter st cs sh =>
    let s := { s with rx := { s.rx with filters := sput (fun _ => []) s.rx.filters st cs } }
    (s.setFld (F.RXP_STR_FILT_TAPS (st / 4) (st % 4)) cs.length).setFld
      (F.RXP_STR_FILT_OUT_SHIFT (st / 4) (st % 4)) (encode2c 3 sh)
  | .shape st cs sh =>
    if cs.isEmpty then s.txDefaults st
    else
      let s := { s with tx := { s.tx with shapes := sput (fun _ => []) s.tx.shapes st cs } }
      (s.setFld (F.TXP_STR_SHAPE_TAPS (st / 4) (st % 4)) cs.length).setFld
        (F.TXP_STR_SHAPE_OUT_SHIFT (st / 4) (st % 4)) (encode2c 3 sh)
  | _ => s

/-- All changes of one boundary: contents, then default filters of streams whose EN or RATE changed, then filter loads. -/
def State.storeAll (s : State) (chs : List Change) : State :=
  let t := chs.foldl State.store1 s
  let t := (List.range 256).foldl (fun t st =>
    let t := if rxReshaped s t st then t.rxDefaults st else t
    if txReshaped s t st then t.txDefaults st else t) t
  chs.foldl State.store2 t

/-- The state as the armed commits up to tick `t`, and then `chs`, will leave it. -/
def State.prospect (s : State) (t : Nat) (chs : List Change) : State :=
  let first := (s.armed.filter (fun k => !tickAfter k.tick t)).flatMap (·.changes)
  (s.markShadow first chs).storeAll (first ++ chs)

/-! ### Masks of units -/

/-- The paths of a quad, and of a converter die. -/
def quadPaths (n : Nat) : List Nat := (List.range 4).map (fun i => 4 * n + i)
def diePaths (d : Nat) : List Nat := (List.range 16).map (fun i => 16 * d + i)

/-- The 64-bit path mask at an offset of the payload. -/
def Cmd.paths (c : Cmd) (off : Nat) : List Nat := maskList 64 (leAt c.payload off 8)

/-- Retired units of a list become the PARTIAL mask of R123. -/
def partialMask (n bytes : Nat) (retired : List Nat) : Bool × List Byte :=
  if retired.isEmpty then (false, []) else (true, leBytes bytes (listMask n retired))

/-- The commit tick a command asks for: its target, or the earliest tick where the target is immediate. -/
def Cmd.when (c : Cmd) : Nat := c.actTick

/-! ### Limits (R40) -/

/-- Cycles per tick of the fabric at the operating point in force. -/
def State.budget (s : State) : Nat := opCycles (s.fld F.CLK_STATUS_OP)

/-! ### The front-end schedule (R164) -/

/-- The run that holds position `pos` of the period, of `n` runs from run `i` on. -/
def State.runAt (s : State) (n i pos : Nat) : Nat :=
  match n with
  | 0 => i
  | k + 1 => if pos < s.fld (F.FES_RUN_LENGTH i) then i else s.runAt k (i + 1) (pos - s.fld (F.FES_RUN_LENGTH i))

/-- Classes of a tick; `none` where no schedule runs. -/
inductive TickClass where
  | gap | dl | ul
deriving DecidableEq, Repr

def TickClass.ofCode : Nat → TickClass
  | 0 => .gap | 1 => .dl | _ => .ul

/-- Class of a tick by its FRAME_TICK (R164). -/
def State.classAt (s : State) (ft : Nat) : Option TickClass :=
  if s.fld F.FES_CFG_PERIOD = 0 then none
  else some (.ofCode (s.fld (F.FES_RUN_CLASS (s.runAt (s.fld F.FES_CFG_NRUNS) 0 (ft % s.fld F.FES_CFG_PERIOD)))))

/-- Class of a tick for a path: none while its quad is not in FES_QUADS. -/
def State.pathClass (s : State) (p ft : Nat) : Option TickClass :=
  if bitAt (s.fld F.FES_QUADS_QUADS) (p / 4) then s.classAt ft else none

def State.frameTick (s : State) : Nat := s.fld F.TCK_FRAME_FRAME_TICK

/-- The FRAME_TICK `n` ticks on. -/
def State.frameTickIn (s : State) (n : Nat) : Nat := (s.frameTick + n) % 38400

/-- A path mutes its outputs: retired. -/
def State.rxRetired (s : State) (p : Nat) : Bool := s.isRetired (srcRx p)
def State.txRetired (s : State) (p : Nat) : Bool := s.isRetired (srcTx p)

/-- A path's air tick `n` ticks on is a DL air tick. -/
def State.dlIn (s : State) (p n : Nat) : Bool := s.pathClass p (s.frameTickIn n) == some .dl

/-- Ticks to the first tick, counted from `i` ticks on, for which `f` holds; none within `n`. -/
def firstWhere (f : Nat → Bool) (n i : Nat) : Option Nat :=
  match n with
  | 0 => none
  | k + 1 => if f i then some i else firstWhere f k (i + 1)

end Sys2Proof.Machine
end

