-- ==== Sys2Proof/Machine/Waves.lean ====
section
/-!
DEFINITION. Sys2Proof/Machine/Waves.lean: square roots, roots of unity and the discrete Fourier transform, with 96 fractional
bits (log 142): the transforms of R180 and R182, the spectra of R155 and R225, the mixers of R137 and Poppy's transforms.
-/
namespace Sys2Proof.Machine

/-- The largest `y` of `w` bits with `y^2 <= n`. -/
def isqrtW (w n : Nat) : Nat :=
  (List.range w).reverse.foldl (fun y b => if (y + 2 ^ b) ^ 2 ≤ n then y + 2 ^ b else y) 0

/-- A wave's value: a complex number in units of 2^-96. -/
def waveOne : Cplx := ⟨2 ^ 96, 0⟩

/-- A product with a factor in units of 2^-96. -/
def waveMul (a w : Cplx) : Cplx := (a.mul w).map (fun v => v / 2 ^ 96)

/-- Energy of samples. -/
def energyOf (xs : List Cplx) : Nat := xs.foldl (fun a v => a + v.norm) 0

/-- Half the angle of a root of unity in the upper half plane, but for -1: `cos h = sqrt ((1 + cos) / 2)` and
`sin h = sin / (2 cos h)`. -/
def halfAngle (w : Cplx) : Cplx :=
  let c := isqrtW 97 (2 ^ 95 * (2 ^ 96 + w.re)).toNat
  ⟨c, w.im * 2 ^ 95 / c⟩

/-- e^(j 2 pi / 2^b). -/
def rootOf : Nat → Cplx
  | 0 => waveOne
  | 1 => ⟨-2 ^ 96, 0⟩
  | 2 => ⟨0, 2 ^ 96⟩
  | b + 3 => halfAngle (rootOf (b + 2))

/-- The roots of unity of orders 2^0 to 2^96. -/
def rootTable : List Cplx := (List.range 97).map rootOf

/-- e^(j 2 pi t / 2^b), for `b` up to 96. -/
def cis (b t : Nat) : Cplx :=
  (List.range b).foldl (fun a i => if bitAt t i then waveMul a (rootTable.getD (b - i) waveOne) else a) waveOne

/-- `v / 2^n` rounded convergently; a wave's value within 2^-60 of a tie is that tie. -/
def roundWave (v : Int) (n : Nat) : Int :=
  let q := v / (2 ^ n : Nat)
  let r := v % (2 ^ n : Nat)
  if r + (2 ^ (n - 60) : Nat) < (2 ^ (n - 1) : Nat) then q
  else if ((2 ^ (n - 1) + 2 ^ (n - 60) : Nat) : Int) < r then q + 1
  else if q % 2 = 0 then q else q + 1

/-- `v / 2^n` where the spec does not say how to round; a wave's value within 2^-60 of an integer is that integer. -/
def openWave (v : Int) (n : Nat) : Int :=
  let e : Int := (2 ^ (n - 60) : Nat)
  let q := (v + e) / (2 ^ n : Nat)
  if (v + e) % (2 ^ n : Nat) ≤ 2 * e then q else q + (b2n (Config.roundUp v (2 ^ n)) : Int)

/-! ### Filters whose taps are not stated -/

/-- A filter of gain 1 at its band's centre over a window, newest first [2^-24]: the taps weigh what the older samples differ by from
the newest, so a steady input passes as it is (R95, R138, log 177). -/
def firUnity (tap : Nat → Int) (win : List Cplx) : Cplx :=
  match win with
  | [] => Cplx.zero
  | x :: r => (r.zip (List.range r.length)).foldl (fun a (y, i) => a.add ((y.add (x.scale (-1))).scale (tap i))) (x.scale (2 ^ 24))

/-- The newest-first window of a filter at sample `n` of a tick, reaching back `span` samples into the tick before. -/
def windowAt {α : Type} (span n : Nat) (prev cur : List α) : List α :=
  ((cur.take (n + 1)).reverse ++ prev.reverse).take (span + 1)

/-- A resampler component at 20 bits. -/
def band20 (v : Int) : Int := if (saturate 20 v).2 then signed 20 (Config.bandClip v % 2 ^ 20).toNat else v

/-- The band resampler's output over a tick, in the ratio 4/25: 1,024 complex samples of 20 bits (R101). A real sine at 0 dBFS,
which is 2^15 in 1/16 ADC LSB, gives 2^14 at its frequency and with the scale of 16 the magnitude 2^18, which is 2^14 at 16 bits
(R95). -/
def resample (prev cur : List (Int × Nat)) : List Cplx :=
  (List.range 1024).map (fun m =>
    let win := (windowAt Config.bandSpan (25 * m / 4) prev cur).map (fun (x : Int × Nat) => (cis 48 x.2).scale x.1)
    (firUnity (Config.bandTap (m % 4)) win).map (fun v => band20 (openWave v 116)))

/-- Every other element, from the first. -/
def evens {α : Type} : List α → List α
  | [] => []
  | [x] => [x]
  | x :: _ :: r => x :: evens r

/-- The exact DFT of `2^lg` samples, in units of 2^-96: bin `k` is the sum of `x_n e^(-j 2 pi k n / 2^lg)`. -/
def dft : Nat → List Cplx → List Cplx
  | 0, xs => [(xs.headD Cplx.zero).scale (2 ^ 96)]
  | lg + 1, xs =>
    let a := dft lg (evens xs)
    let b := (dft lg (evens (xs.drop 1))).zip (List.range (2 ^ lg))
    let t := b.map (fun (v, k) => waveMul v (cis (lg + 1) (2 ^ (lg + 1) - k)))
    (a.zip t).map (fun (x, y) => x.add y) ++ (a.zip t).map (fun (x, y) => x.add (y.scale (-1)))

/-- The unnormalised inverse. -/
def idft (lg : Nat) (xs : List Cplx) : List Cplx := (dft lg (xs.map Cplx.conj)).map Cplx.conj

def toPair (c : Cplx) : Int × Int := (c.re, c.im)
def ofPair (p : Int × Int) : Cplx := ⟨p.1, p.2⟩

/-- Errors within Table 06-2: at most 2 LSB in a component of the receive transform, and at most 0.40 LSB RMS over the components of a
symbol; other errors the datapath does not make. -/
def strayOk (inverse : Bool) (es : List Cplx) : Bool :=
  (inverse || es.all (fun e => decide (e.re.natAbs ≤ 2 ∧ e.im.natAbs ≤ 2))) && decide (energyOf es * 100 ≤ 32 * es.length)

/-- What the datapath's own arithmetic adds to each bin or sample (Table 06-2, log 142). -/
def stray (inverse : Bool) (lg sh : Nat) (xs ys : List Cplx) : List Cplx :=
  let es := (List.range ys.length).map (fun k => ofPair (Config.fftStray inverse lg sh (xs.map toPair) k))
  if strayOk inverse es then (ys.zip es).map (fun (y, e) => y.add e) else ys

/-- The receive transform (R180, R182): the DFT with the phase of a window `wb` samples early removed, divided by 2^sh and
rounded convergently, before saturation. -/
def fftBins (lg sh wb : Nat) (xs : List Cplx) : List Cplx :=
  stray false lg sh xs (((dft lg xs).zip (List.range (2 ^ lg))).map (fun (v, k) =>
    (waveMul v (cis lg (k * wb % 2 ^ lg))).map (fun c => roundWave c (96 + sh))))

/-- The transmit transform (R182): the unnormalised inverse DFT divided by 2^sh and rounded convergently, before saturation. -/
def ifftSamples (lg sh : Nat) (xs : List Cplx) : List Cplx :=
  stray true lg sh xs ((idft lg xs).map (fun v => v.map (fun c => roundWave c (96 + sh))))

/-- Powers of the bins of a spectrum, in units of 2^-64 of a squared LSB. -/
def binPowers (lg : Nat) (xs : List Cplx) : List Nat := (dft lg xs).map (fun v => (v.map (fun c => c / 2 ^ 64)).norm)

end Sys2Proof.Machine
end

