-- ==== Sys2Proof/Machine/Rx.lean ====
section
/-!
DEFINITION. Sys2Proof/Machine/Rx.lean: receive paths and quad filter engines (R91-R131): the data path of one tick, the filter
engine's states (Table 04-4), the gain loop (Table 04-5), and the receive PATH commands.
-/
namespace Sys2Proof.Machine

/-! ### Zones (R94) -/

/-- The Nyquist zone that holds an occupied band: 1, 2, or 0 for none. Frequencies are compared in units of
1 MHz / 2^49: the word is W * 24,576 MHz / 2^48. -/
def zoneOf (w bw : Nat) : Nat :=
  let c := 2 * w * 24576
  let h := bw * 2 ^ 48
  let u := 2 ^ 49
  if 400 * u + h ≤ c ∧ c + h ≤ 11500 * u then 1
  else if 12900 * u + h ≤ c ∧ c + h ≤ 15400 * u then 2 else 0

/-- The word of a stream, from its NCO registers. -/
def State.rxWord (s : State) (p k : Nat) : Nat :=
  s.fld (F.RXP_STR_NCO_LO_WORD p k) + 2 ^ 32 * s.fld (F.RXP_STR_NCO_HI_WORD p k)

def State.rxEn (s : State) (p k : Nat) : Bool := s.flag (F.RXP_STR_CFG_EN p k)

/-- The zone that holds a stream's occupied band. -/
def State.rxZone (s : State) (p k : Nat) : Nat := zoneOf (s.rxWord p k) (s.fld (F.RXP_STR_CFG_BW p k))

/-- Zones of a path's enabled streams. -/
def State.rxZones (s : State) (p : Nat) : List Nat := ((List.range 4).filter (s.rxEn p)).map (s.rxZone p)

/-- All in one zone (R94). -/
def zonesOk (zs : List Nat) : Bool :=
  match zs with
  | [] => true
  | z :: r => z != 0 && r.all (· == z)

/-! ### Loads (R107) -/

/-- Sum of taps times samples over the enabled streams of a quad. -/
def State.rxTaps (s : State) (n : Nat) : Nat :=
  ((List.range 16).filter (fun i => s.rxEn (4 * n + i / 4) (i % 4))).foldl (fun a i =>
    a + s.fld (F.RXP_STR_FILT_TAPS (4 * n + i / 4) (i % 4)) * rateS (s.fld (F.RXP_STR_CFG_RATE (4 * n + i / 4) (i % 4)))) 0

def State.quadRxUsed (s : State) (n : Nat) : Bool := (List.range 16).any (fun i => s.rxEn (4 * n + i / 4) (i % 4))

/-- REQ of a quad's filter engine (R107, R627). -/
def State.rxReq (s : State) (n : Nat) : Nat :=
  if s.quadRxUsed n then 16 + ceilDiv (s.rxTaps n) 256 else 0

/-! ### Checks of the receive PATH commands (R103, R123-R128, R630) -/

/-- A stream descriptor at an offset: EN, RATE, BW. -/
def descEn (c : Cmd) (o : Nat) : Bool := bitAt (leAt c.payload o 1) 0
def descRate (c : Cmd) (o : Nat) : Nat := leAt c.payload (o + 1) 1
def descBw (c : Cmd) (o : Nat) : Nat := leAt c.payload (o + 2) 2

/-- Bandwidth rules of one carrier (R103, R139): 5 to 400 MHz, at most 0.82 times the rate. -/
def bwOk (en : Bool) (rate bw : Nat) : Bool :=
  if en then decide (5 ≤ bw ∧ bw ≤ 400 ∧ bw * 10000 ≤ 82 * 6144 * 2 ^ rate) else bw == 0

def rxDescOk (c : Cmd) (o : Nat) : Bool :=
  decide (leAt c.payload o 1 < 4 ∧ descRate c o < 6) && bwOk (descEn c o) (descRate c o) (descBw c o) &&
  zeroAt c.payload (o + 6) 10

/-- What PATH_CONFIG_CARRIERS direction 0 changes on path `p`. -/
def rxConfigChanges (c : Cmd) (p : Nat) : List Change :=
  (List.range 4).flatMap (fun k =>
    let o := 12 + 16 * k
    [Change.reg (F.RXP_STR_CFG_EN p k).addr 0xFFFF0F01
        (descBw c o * 2 ^ 16 + descRate c o * 2 ^ 9 + leAt c.payload o 1 / 2 * 2 ^ 8 + b2n (descEn c o)),
     Change.reg (F.RXP_STR_NCO_HI_PHASE p k).addr 0xFFFF0000 (leAt c.payload (o + 4) 2 * 2 ^ 16)])

/-- Paths in service of a mask. -/
def State.rxLive (s : State) (l : List Nat) : List Nat := l.filter (fun p => !s.rxRetired p)
def State.txLive (s : State) (l : List Nat) : List Nat := l.filter (fun p => !s.txRetired p)

/-- Check 11 of PATH_CONFIG_CARRIERS direction 0. -/
def chkPathConfigRx (s : State) (c : Cmd) : Option Status :=
  let ps := c.paths 4
  if c.payload.length ≠ 76 ∨ !zeroAt c.payload 1 3 ∨ ps.isEmpty ∨
      !((List.range 4).all (fun k => rxDescOk c (12 + 16 * k))) then some .badParam
  else
    let live := s.rxLive ps
    let t := s.prospect c.actTick (live.flatMap (rxConfigChanges c))
    if live.any (fun p => !zonesOk (t.rxZones p)) then some .badParam
    else if live.isEmpty then some .resourceRetired else none

/-- Check 12: sums of bandwidths and rates (R22, R103). -/
def limitPathConfigRx (c : Cmd) : Bool :=
  let ks := (List.range 4).filter (fun k => descEn c (12 + 16 * k))
  decide ((ks.map (fun k => descBw c (12 + 16 * k))).foldl (· + ·) 0 ≤ 1600) &&
  decide ((ks.map (fun k => 2 ^ descRate c (12 + 16 * k))).foldl (· + ·) 0 ≤ 32)

/-- Converter-die content of a command per path (R46): bits toward each die. -/
def bulkOf (ps : List Nat) (bits : Nat) : List (Nat × Nat) :=
  ((List.range 4).map (fun d => (d, bits * (ps.filter (fun p => p / 16 == d)).length))).filter (fun b => b.2 != 0)

/-- The PARTIAL reply of R123 for paths named and retired. -/
def State.rxPartial (s : State) (ps : List Nat) : Bool × List Byte := partialMask 64 8 (ps.filter s.rxRetired)
def State.txPartial (s : State) (ps : List Nat) : Bool × List Byte := partialMask 64 8 (ps.filter s.txRetired)

/-- PATH_CONFIG_CARRIERS, receive. -/
def execPathConfigCarriersRx (tag : Nat) (s : State) : Host.Outcome State Fault Refusal :=
  .next (s.performCommit 0x0400 tag (isOp 0) (fun c s =>
    let live := s.rxLive (c.paths 4)
    let (part, pl) := s.rxPartial (c.paths 4)
    s.armCmd c (live.map CommitUnit.rxPath) (live.flatMap (rxConfigChanges c)) (bulkOf live 384) .ok part pl))

/-- Check 11 of PATH_SET_GAIN (R124). -/
def chkPathSetGain (s : State) (c : Cmd) : Option Status :=
  let ps := c.paths 0
  let d := sleAt c.payload 10 2
  if c.payload.length ≠ 16 ∨ ps.isEmpty ∨ 2 ≤ leAt c.payload 8 1 ∨ 31 ≤ leAt c.payload 9 1 ∨ d < -96 ∨ 96 < d ∨
      2 ≤ leAt c.payload 12 1 ∨ !zeroAt c.payload 13 3 then some .badParam
  else if (s.rxLive ps).isEmpty then some .resourceRetired else none

/-- PATH_SET_GAIN. -/
def execPathSetGain (tag : Nat) (s : State) : Host.Outcome State Fault Refusal :=
  .next (s.performCommit 0x0401 tag anyOp (fun c s =>
    let live := s.rxLive (c.paths 0)
    let (part, pl) := s.rxPartial (c.paths 0)
    s.armCmd c (live.map CommitUnit.rxPath)
      (live.map (fun p => Change.gain p (leAt c.payload 8 1) (leAt c.payload 9 1) (sleAt c.payload 10 2)
        (leAt c.payload 12 1)))
      (bulkOf live 64) .ok part pl))

/-- Coefficients of PATH_LOAD_FILTER, and its change. -/
def filterTaps (c : Cmd) : List Int :=
  (List.range (leAt c.payload 2 2)).map (fun i => sleAt c.payload (8 + 4 * i) 4)

def filterStream (c : Cmd) : Nat := 4 * leAt c.payload 0 1 + leAt c.payload 1 1

def filterChange (c : Cmd) : Change := .filter (filterStream c) (filterTaps c) (sleAt c.payload 4 1)

/-- Check 11 of PATH_LOAD_FILTER (R125). -/
def chkPathLoadFilter (s : State) (c : Cmd) : Option Status :=
  let p := leAt c.payload 0 1
  let k := leAt c.payload 1 1
  let t := leAt c.payload 2 2
  let sh := sleAt c.payload 4 1
  if c.payload.length ≠ 8 + 4 * t ∨ 64 ≤ p ∨ 4 ≤ k ∨ t = 0 ∨ sh < -4 ∨ 3 < sh ∨ !zeroAt c.payload 5 3 ∨
      (filterTaps c).any (fun v => decide (v < -131072 ∨ 131071 < v)) then some .badParam
  else if !(s.rxEn p k || (s.prospect c.actTick []).rxEn p k) then some .badParam
  else if s.rxRetired p then some .resourceRetired else none

/-- Check 12 of PATH_LOAD_FILTER: T within Table 04-3. -/
def limitPathLoadFilter (s : State) (c : Cmd) : Bool :=
  let t := s.prospect c.actTick [filterChange c]
  let p := leAt c.payload 0 1
  decide (leAt c.payload 2 2 ≤ maxTaps (t.fld (F.RXP_STR_CFG_RATE p (leAt c.payload 1 1))))

/-- PATH_LOAD_FILTER. -/
def execPathLoadFilter (tag : Nat) (s : State) : Host.Outcome State Fault Refusal :=
  .next (s.performCommit 0x0403 tag anyOp (fun c s =>
    s.armCmd c [.rxPath (leAt c.payload 0 1)] [filterChange c] [] .ok false []))

/-- Check 11 of PATH_RETIRE (R126, R630). -/
def chkPathRetire (c : Cmd) : Option Status :=
  if c.payload.length ≠ 16 ∨ (zeroAt c.payload 0 8 ∧ zeroAt c.payload 8 8) then some .badParam else none

/-- The retired masks. -/
def State.rxRetMask (s : State) : Nat := listMask 64 ((List.range 64).filter s.rxRetired)
def State.txRetMask (s : State) : Nat := listMask 64 ((List.range 64).filter s.txRetired)

/-- PATH_RETIRE: its reply takes the resulting masks at the commit (State.endCommit, R126). -/
def execPathRetire (tag : Nat) (s : State) : Host.Outcome State Fault Refusal :=
  .next (s.performCommit 0x0405 tag anyOp (fun c s =>
    let rx := leAt c.payload 0 8
    let tx := leAt c.payload 8 8
    s.armCmd c (((maskList 64 rx).map CommitUnit.rxPath) ++ ((maskList 64 tx).map CommitUnit.txPath))
      [Change.retire rx tx] [] .ok false []))

/-! ### The filter engine (Table 04-4) -/

/-- States of a quad's filter engine, in the code of QFE_STATUS.STATE. -/
inductive QuadState where
  | idle | running | stopped | retired
deriving DecidableEq, Repr

def QuadState.code : QuadState → Nat
  | .idle => 0 | .running => 1 | .stopped => 2 | .retired => 3

def QuadState.ofCode : Nat → QuadState
  | 0 => .idle | 1 => .running | 2 => .stopped | _ => .retired

def State.quad (s : State) (n : Nat) : QuadState := .ofCode (s.fld (F.QFE_STATUS_STATE n))
def State.setQuad (s : State) (n : Nat) (x : QuadState) : State :=
  (s.setFld (F.QFE_STATUS_STATE n) x.code).setFld (F.QFE_STATUS_RETIRED n) (b2n (x == .retired))

/-- The engine stops on the boundary that opens the open tick, or its restart moves (R108). -/
def State.stopQuad (s : State) (n : Nat) : State :=
  match s.quad n with
  | .retired => s
  | q =>
    let s := if q = .stopped then s else s.addFld (F.QFE_STOPS_COUNT n) 1
    let s := s.setQuad n .stopped
    { s with rx := { s.rx with restart := sput (fun _ => 0) s.rx.restart n (tickAdd s.tickno 2) } }

/-- The restart boundary, the tick noted as the quad stopped (log 179): RUNNING with flushed histories, or IDLE. -/
def State.restartQuad (s : State) (n : Nat) : State :=
  if s.quad n = .stopped ∧ sget (fun _ => 0) s.rx.restart n = s.tickno then
    if s.quadRxUsed n then
      let s := s.setQuad n .running
      let m := (List.range 16).foldl (fun m i =>
        let x := sget (fun _ => RxStream.init) m (16 * n + i)
        sput (fun _ => RxStream.init) m (16 * n + i) { x with hist := flushed (s.rxCoefs (16 * n + i)).length }) s.rx.streams
      { s with rx := { s.rx with streams := m } }
    else s.setQuad n .idle
  else s

/-- REQ figures of the quads and of block 0 (R107, R627). -/
def State.refreshRxLoad (s : State) : State :=
  let s := (List.range 16).foldl (fun s n => s.setFld (F.QFE_LOAD_REQ n) (s.rxReq n)) s
  s.setFld (F.TCK_LOAD_REQ 0) ((List.range 16).foldl (fun m n => max m (s.rxReq n)) 0)

/-- RXP_STATUS.STREAMS and ZONE as the registers stand. -/
def State.refreshRxStatus (s : State) (p : Nat) : State :=
  let s := s.setFld (F.RXP_STATUS_STREAMS p) (listMask 4 ((List.range 4).filter (s.rxEn p)))
  s.setFld (F.RXP_STATUS_ZONE p) ((s.rxZones p).headD 0)

/-! ### The gain loop (Table 04-5) -/

/-- States of the loop, in the code of RXP_STATUS.AGC. -/
inductive GainState where
  | off | track | frozen | hold
deriving DecidableEq, Repr

def GainState.code : GainState → Nat
  | .off => 0 | .track => 1 | .frozen => 2 | .hold => 3

def GainState.ofCode : Nat → GainState
  | 0 => .off | 1 => .track | 2 => .frozen | _ => .hold

def State.agc (s : State) (p : Nat) : GainState := .ofCode (s.fld (F.RXP_STATUS_AGC p))
def State.setAgc (s : State) (p : Nat) (x : GainState) : State := s.setFld (F.RXP_STATUS_AGC p) x.code

/-- The loop's state in a tick of a class. -/
def gainClass : Option TickClass → GainState
  | some .gap => .track
  | some .ul => .frozen
  | _ => .hold

def State.setLow (s : State) (p n : Nat) : State :=
  { s with rx := { s.rx with lowRun := sput (fun _ => 0) s.rx.lowRun p n } }

/-- The attenuator takes a setting on this boundary; COMP moves the digital gain the other way within 12 dB (R111). A change
marks the first two front samples SETTLING, which the filter spreads to T + 1 (Table 04-6). -/
def State.setAtten (s : State) (p a : Nat) (dgain : Int) : State :=
  let old := s.fld (F.RXP_GAIN_STAT_ATTEN p)
  let s := s.setFld (F.RXP_GAIN_STAT_ATTEN p) a
  let s := s.setFld (F.RXP_GAIN_STAT_DGAIN p) (encode2c 16 dgain)
  if a = old then s else { s with rx := { s.rx with stepped := insertNat s.rx.stepped p } }

/-- Digital gain that keeps the stream scale constant at attenuation `a` while the range of 12 dB allows (R111). -/
def State.compGain (s : State) (p a : Nat) : Int :=
  let d := s.sfld (F.RXP_GAIN_DGAIN p)
  if s.flag (F.RXP_GAIN_COMP p) then
    clampInt (-96) 96 (d + 8 * ((a : Int) - (s.fld (F.RXP_GAIN_ATTEN p) : Int)))
  else d

/-- A PATH_SET_GAIN commit (Table 04-5). -/
def State.gainCommit (s : State) (p : Nat) : State :=
  let s := s.setAtten p (s.fld (F.RXP_GAIN_ATTEN p)) (s.sfld (F.RXP_GAIN_DGAIN p))
  let s := { s with rx := { s.rx with loopNext := sput (fun _ => 0) s.rx.loopNext p 0 } }
  if s.flag (F.RXP_GAIN_MODE p) then (s.setLow p 0).setAgc p (gainClass (s.pathClass p s.frameTick))
  else s.setAgc p .off

/-- The loop on the boundary that opens a tick: the step it decided, and TRACK, FROZEN or HOLD by the tick's class. -/
def State.gainBoundary (s : State) (p : Nat) : State :=
  if s.agc p = .off then s
  else
    let n := sget (fun _ => 0) s.rx.loopNext p
    let s := if n = 0 then s else
      { s.setAtten p (n - 1) (s.compGain p (n - 1)) with
        rx := { (s.setAtten p (n - 1) (s.compGain p (n - 1))).rx with loopNext := sput (fun _ => 0) s.rx.loopNext p 0 } }
    let x := gainClass (s.pathClass p s.frameTick)
    if x = s.agc p then s
    else if x = .track then (s.setLow p 0).setAgc p .track else s.setAgc p x

/-- G of R112, from the enabled stream with the largest value. -/
def State.guardTicks (s : State) (p : Nat) : Nat :=
  ((List.range 4).filter (s.rxEn p)).foldl (fun m k =>
    max m (ceilDiv (s.fld (F.RXP_STR_FILT_TAPS p k) + 1) (rateS (s.fld (F.RXP_STR_CFG_RATE p k))))) 0 + 1

/-- Gap ticks that follow the open one in its run, and the class after them. -/
def State.gapAhead (s : State) (p n i : Nat) : Nat × Option TickClass :=
  match n with
  | 0 => (i, none)
  | k + 1 =>
    let c := s.pathClass p (s.frameTickIn (i + 1))
    if c = some .gap then s.gapAhead p k (i + 1) else (i, c)

/-- R112 allows a change at the end of the open gap tick. -/
def State.gapAllows (s : State) (p : Nat) : Bool :=
  let (n, c) := s.gapAhead p 38400 0
  !(c == some .ul && decide (n < s.guardTicks p))

/-- The end of a gap tick of the GUARDED loop; `peak` is what the loop reads [0.1 dBFS] (R111, R113). -/
def State.gapTickEnd (s : State) (p : Nat) (peak : Int) : State :=
  if s.agc p = .track ∧ s.pathClass p s.frameTick = some .gap then
    let s := s.setFld (F.RXP_PEAK_PEAK p) (encode2c 16 peak)
    let excess := peak + 120
    let a := s.fld (F.RXP_GAIN_STAT_ATTEN p)
    let next := fun (s : State) (n : Nat) =>
      { s with rx := { s.rx with loopNext := sput (fun _ => 0) s.rx.loopNext p (n + 1) } }
    if (5 * s.fld (F.RXP_AGC_CFG_UP_MARGIN p) : Nat) < excess then
      let s := s.setLow p 0
      if a < 30 ∧ s.gapAllows p then
        next s (a + min (min (ceilDiv excess.toNat 10) (s.fld (F.RXP_AGC_CFG_MAX_STEP p))) (30 - a))
      else s
    else if excess < -((5 * s.fld (F.RXP_AGC_CFG_DOWN_MARGIN p) : Nat) : Int) then
      let n := sget (fun _ => 0) s.rx.lowRun p + 1
      if s.fld (F.RXP_AGC_CFG_DOWN_TICKS p) ≤ n ∧ 0 < a ∧ s.gapAllows p then next (s.setLow p 0) (a - 1)
      else s.setLow p n
    else s.setLow p 0
  else s

/-- GAIN_LOOP_GAP_TICK_END: the loop of one path reads its peak at the end of the open gap tick. The count of low ticks is kept for the
tick's close, whose codes decide where the row brings them (log 178). -/
def execGainLoopGapTickEnd (p : Fin 64) (peak : Int) (s : State) : Host.Outcome State Fault Refusal :=
  let low := sget (fun _ => 0) s.rx.lowRun p.val
  let t := s.gapTickEnd p.val peak
  .next { t with rx := { t.rx with lowWas := sput (fun _ => 0) t.rx.lowWas p.val (low + 1) } }

/-- The largest magnitude of a tick's raw ADC codes [0.1 dBFS]; full scale is 2^11 (R111, log 178). -/
def peakOf (codes : List Int) : Int :=
  let m := codes.foldl (fun a c => max a c.natAbs) 0
  if m = 0 then Config.silentPeak else openLog 200 m 2048

/-- The loop reads the codes of the tick that closes (R111): what a row of the same tick made it decide is decided anew. -/
def State.gapCodes (s : State) (p : Nat) (codes : List Int) : State :=
  let n := sget (fun _ => 0) s.rx.lowWas p
  let s := if n = 0 then s else
    { s.setLow p (n - 1) with
      rx := { (s.setLow p (n - 1)).rx with loopNext := sput (fun _ => 0) s.rx.loopNext p 0 } }
  if codes.isEmpty then s else s.gapTickEnd p (peakOf codes)

/-! ### A tick of the data path -/

/-- The correction of R96 [0.01 dB]: measured less nominal attenuation, from the step table of the path's active
calibration group where it exists (calibration item 2; the unit is log entry 12). -/
def State.stepCorrection (s : State) (p : Nat) : Int :=
  let a := s.fld (F.RXP_GAIN_STAT_ATTEN p)
  let e := sget (fun _ => CalEntry.init) s.cal.entries (4096 * 2 + 64 * p + (s.freqEntry (s.rxEntry p)).calGroup)
  if e.valid then e.result.getD a (100 * a) - 100 * a else 0

/-- The converter samples of a path that overranged, counted from the open tick's first. -/
def State.overSamples (s : State) (p : Nat) (ovr : List Nat) : List Int :=
  (sget (fun _ => []) s.rx.ovr p).map (fun (o : Nat) => (o : Int) - 6400) ++ ovr.map Int.ofNat

/-- Front part of a stream: mixing, resampling, decimation, digital gain and the marks of the converter die (R98 to R102, R114,
Table 04-6); with the samples that an overrange marks. -/
def State.rxFront (s : State) (p k : Nat) (voidPath : Bool) (inp : List Int) (ovr : List Int) (x : RxStream) :
    List RxSample × RxStream × Nat :=
  let r := s.fld (F.RXP_STR_CFG_RATE p k)
  let cur := mixDown (s.fld (F.RXP_STATUS_ZONE p)) (s.rxWord p k) (s.fld (F.RXP_STR_NCO_HI_PHASE p k))
    (sget (fun _ => 0) s.rx.nco (4 * p + k)) inp
  let ig := if x.integ.isEmpty then cicClear else x.integ
  let cb := if x.comb.isEmpty then cicClear else x.comb
  let (ig, cb, ys) := decimate (64 / 2 ^ r) (6 - r) (rateS r) ig cb (resample x.mixed cur)
  let num := 25 * s.sfld (F.RXP_GAIN_STAT_DGAIN p) + 2 * s.stepCorrection p
  let stepped := s.rx.stepped.contains p
  let hit := fun (i : Nat) => ovr.any (windowHolds (64 / 2 ^ r) i)
  let out := (ys.zip (List.range ys.length)).map (fun (y, i) =>
    let (v, c) := sat16 (y.map (fun a => scaleTen 4 a num 4000))
    let q : Qual := if voidPath then .void
      else markClipped (c || hit i) (if stepped && decide (i < 2) then .settling else .valid)
    mkSample v q)
  (out, { x with mixed := cur, integ := ig, comb := cb }, ((List.range ys.length).filter hit).length)

/-- A Primrose attempt holds the ADC or the attenuator of a receive path: items 1 and 2 of the path, item 0 of its die
(Table 18-4). -/
def State.calHoldsRx (s : State) (p : Nat) : Bool :=
  s.cal.entries.any (fun e => e.2.phase == .running &&
    (((e.1 / 4096 == 1 || e.1 / 4096 == 2) && e.1 / 64 % 64 == p) || (e.1 / 4096 == 0 && e.1 / 64 % 64 == p / 16)))

/-- R479: converter and front stages of a scheduled path are gated in DL ticks in IDLE, unless a Primrose item holds the
stem. -/
def State.rxGated (s : State) (p : Nat) : Bool :=
  s.pwr.idleGate && s.pathClass p s.frameTick == some .dl && !s.calHoldsRx p

/-- One enabled stream for the tick that closes. -/
def State.rxStream (s : State) (overrun : List Nat) (p k : Nat) (inp : List Int) (ovr : List Int) : State :=
  let st := 4 * p + k
  let n := p / 4
  let x := sget (fun _ => RxStream.init) s.rx.streams st
  let voidPath := s.rxRetired p || s.rx.reload.contains p || s.tick.voidDies.contains (p / 16) || s.pwr.quietAt ||
    s.rxGated p || decide (sget (fun _ => 0) s.clk.rxHoldoff (p / 16) ∈ [2, 3, 4])
  let (xs, x, c) := s.rxFront p k voidPath inp ovr x
  let cs := s.rxCoefs st
  let runs := s.quad n = .running ∧ !overrun.contains n
  let (ys, h, sat) := firRun cs (s.sfld (F.RXP_STR_FILT_OUT_SHIFT p k)) x.hist xs
  let ys := if runs then ys else List.replicate xs.length RxSample.void
  let h := if runs ∧ !s.rx.flush.contains n then h else flushed cs.length
  let x := if s.rx.flush.contains n then { x with mixed := [], integ := [], comb := [] } else x
  let s := { s with rx := { s.rx with
    streams := sput (fun _ => RxStream.init) s.rx.streams st { x with hist := h }
    aligned := sput (fun _ => []) s.rx.aligned st ys } }
  let s := if runs then s.addFld (F.QFE_SAT_COUNT n) sat else s
  let s := s.addFld (F.RXP_QUAL_SETTLING_COUNT p) (countQual .settling ys)
  let s := s.addFld (F.RXP_QUAL_VOID_COUNT p) (countQual .void ys)
  if s.agc p = .frozen then
    { s.addFld (F.RXP_CLIP_UL_COUNT p) c with
      rx := { s.rx with clipSlot := sput (fun _ => 0) s.rx.clipSlot p (sget (fun _ => 0) s.rx.clipSlot p + c) } }
  else s.addFld (F.RXP_CLIP_GAP_COUNT p) c

/-- The phase accumulators over one tick: 6,400 converter samples at the word mixed with (R99, R100). -/
def ncoStep (phase word zone : Nat) : Nat :=
  (phase + 6400 * ncoWord word zone) % 2 ^ 48

/-- The converter of a path runs in the tick that closes: its domain is on, and neither QUIET nor IDLE's gating holds it. -/
def State.rxConverts (s : State) (p : Nat) : Bool := s.domain (8 + p / 16) == 1 && !s.pwr.quietAt && !s.rxGated p

/-- A path's codes through its DC blocker; the estimate is what RXP_DC_EST shows (R97). -/
def State.dcTick (s : State) (p : Nat) (codes : List Int) : List Int × State :=
  let e := sget (fun _ => ((0, 0) : Int × Int)) s.rx.dc p
  let (ys, f) := dcBlock (s.fld (F.RXP_DC_CTRL_TC p)) (s.flag (F.RXP_DC_CTRL_FREEZE p)) e codes
  let s := { s with rx := { s.rx with dc := sput (fun _ => ((0, 0) : Int × Int)) s.rx.dc p f } }
  (ys, s.setFld (F.RXP_DC_EST_EST p) (encode2c 16 f.1))

/-- A stream's NCO over one tick. -/
def State.rxNco (s : State) (p k : Nat) : State :=
  let m := sput (fun _ => 0) s.rx.nco (4 * p + k)
    (ncoStep (sget (fun _ => 0) s.rx.nco (4 * p + k)) (s.rxWord p k) (s.fld (F.RXP_STATUS_ZONE p)))
  { s with rx := { s.rx with nco := m } }

/-- A path's part of a tick: the DC blocker on what its ADC delivers, and its enabled streams. A converter that is off, or a
path whose codes the row does not bring, gives zeros (log 141). -/
def State.rxPath (s : State) (ins : List RxPathIn) (overrun : List Nat) (p : Nat) : State :=
  let i := if s.rxConverts p then ins.find? (fun i => i.path == p) else none
  let ks := (List.range 4).filter (s.rxEn p)
  match i with
  | none =>
    let s := ks.foldl (fun s k => (s.rxStream overrun p k (List.replicate 6400 0) (s.overSamples p [])).rxNco p k) s
    { s with rx := { s.rx with ovr := sput (fun _ => []) s.rx.ovr p [] } }
  | some i =>
    let (ys, s) := (s.gapCodes p i.codes).dcTick p i.codes
    let s := ks.foldl (fun s k => (s.rxStream overrun p k ys (s.overSamples p i.ovr)).rxNco p k) s
    { s with rx := { s.rx with ovr := sput (fun _ => []) s.rx.ovr p i.ovr } }

/-- Receive side of a tick that closes. -/
def State.rxTick (s : State) (ins : List RxPathIn) (overrun : List Nat) : State :=
  let s := { s with rx := { s.rx with aligned := [] } }
  let s := (List.range 64).foldl (fun s p => s.rxPath ins overrun p) s
  { s with rx := { s.rx with stepped := [], reload := [], flush := [], lowWas := [] } }

/-- RX_CLIP at the end of a path's slot (R114). -/
def State.clipSlotEnd (s : State) (p : Nat) : State :=
  let n := sget (fun _ => 0) s.rx.clipSlot p
  if n = 0 then s
  else
    let s := s.raise 0x3001 n (srcRx p) sevWarning
    { s with rx := { s.rx with clipSlot := sput (fun _ => 0) s.rx.clipSlot p 0 } }

/-- A receive path is retired from this boundary (R126). -/
def State.retireRx (s : State) (p : Nat) : State :=
  if s.rxRetired p then s
  else
    let s := { s with fault := { s.fault with retired := insertNat s.fault.retired (srcRx p) } }
    let s := s.setFld (F.RXP_STATUS_RETIRED p) 1
    let s := s.setFld F.BF_RET_TICK_TICK s.tickno
    let m := s.rxRetMask
    let s := (s.setFld F.BF_RET_RX_LO_MASK m).setFld F.BF_RET_RX_HI_MASK (m / 2 ^ 32)
    let n := p / 4
    if (List.range 4).all (fun i => s.rxRetired (4 * n + i)) ∧ s.quad n ≠ .retired then s.setQuad n .idle else s

/-- The path whose RXP_GAIN a written register is: PATH_SET_GAIN's, or a host commit's (R129, R57). -/
def gainPath (r : Nat × Nat × Nat) : Option Nat :=
  (List.range 64).find? (fun p => (F.RXP_GAIN_MODE p).addr == r.1)

/-- The receive side of a commit: engine stops, NCO phases, gain, and calibration reloads (R100, R108, R127). `old` is the
state before the boundary's changes. -/
def State.rxCommit (s old : State) (chs : List Change) : State :=
  let loads := chs.filterMap (fun c => match c with | .filter st _ _ => some st | _ => none)
  let s := (List.range 16).foldl (fun s n =>
    if (List.range 16).any (fun i => rxReshaped old s (16 * n + i) || loads.contains (16 * n + i)) then s.stopQuad n
    else s) s
  let s := (List.range 256).foldl (fun s st =>
    let m := sput (fun _ => 0) s.rx.nco st 0
    if s.rxEn (st / 4) (st % 4) ∧ !old.rxEn (st / 4) (st % 4) then { s with rx := { s.rx with nco := m } } else s) s
  let s := ((chs.flatMap Change.regs).filterMap gainPath).foldl State.gainCommit s
  let s := (List.range 64).foldl (fun s p =>
    let a := old.freqEntry (old.rxEntry p)
    let b := s.freqEntry (s.rxEntry p)
    if (old.rxEntry p = s.rxEntry p ∧ a = b) ∨ sharesCal a b then s
    else
      let m := (List.range 4).foldl (fun m k => sput (fun _ => 0) m (4 * p + k) 0) s.rx.nco
      { s with rx := { s.rx with reload := insertNat s.rx.reload p, nco := m } }) s
  let s := (List.range 64).foldl State.refreshRxStatus s
  s.refreshRxLoad

/-- The boundary's step of a die's hold-off after an unlock of its loop: a lock within tick t leaves the first valid tick at
t + 2 (R431). -/
def rxHoldNext (h : Nat) : Nat :=
  match h with
  | 1 => 2
  | 3 => 4
  | 5 => 4
  | 4 => 0
  | n => n

/-- The loops and restarts of a boundary. -/
def State.rxBoundary (s : State) : State :=
  let hs := (List.range 4).foldl (fun m d => sput (fun _ => 0) m d (rxHoldNext (sget (fun _ => 0) m d))) s.clk.rxHoldoff
  let s := { s with clk := { s.clk with rxHoldoff := hs } }
  let s := (List.range 16).foldl State.restartQuad s
  (List.range 64).foldl State.gainBoundary s

/-- A read of QFE_COEF_DATA returns the active coefficient at INDEX and advances INDEX modulo 6,144 (R130); an
INDEX of 6,144 to 8,191, a position beyond T and a disabled stream are log 162. -/
def State.readQfeCoef (s : State) (n : Nat) : Nat × State :=
  let i := s.fld (F.QFE_COEF_ADDR_INDEX n)
  (encode2c 32 ((s.rxCoefs (16 * n + i / 384)).getD (i % 384) 0), s.setFld (F.QFE_COEF_ADDR_INDEX n) ((i + 1) % 6144))

end Sys2Proof.Machine
end

