-- ==== Sys2Proof/Machine/Tx.lean ====
section
/-!
DEFINITION. Sys2Proof/Machine/Tx.lean: transmit paths, output power, masks, frequency entries, transmit readiness and the
front-end sequencer Zinnia (R132-R176), but for the actuator, which Dpd.lean holds.
-/
namespace Sys2Proof.Machine

def State.txEn (s : State) (p k : Nat) : Bool := s.flag (F.TXP_STR_CFG_EN p k)
def State.txUsed (s : State) (p : Nat) : Bool := (List.range 4).any (s.txEn p)

def State.txWord (s : State) (p k : Nat) : Nat :=
  s.fld (F.TXP_STR_NCO_LO_WORD p k) + 2 ^ 32 * s.fld (F.TXP_STR_NCO_HI_WORD p k)

def State.txZones (s : State) (p : Nat) : List Nat :=
  ((List.range 4).filter (s.txEn p)).map (fun k => zoneOf (s.txWord p k) (s.fld (F.TXP_STR_CFG_BW p k)))

/-- The occupied edges of a path's enabled streams, lower and upper, in the units of zoneOf. -/
def State.txEdges (s : State) (p : Nat) : List (Int × Int) :=
  ((List.range 4).filter (s.txEn p)).map (fun k =>
    let c : Int := (2 * s.txWord p k * 24576 : Nat)
    let b : Int := (s.fld (F.TXP_STR_CFG_BW p k) * 2 ^ 48 : Nat)
    (c - b, c + b))

/-- The span of a path's enabled streams stays within 1,600 MHz (R139). -/
def State.spanOk (s : State) (p : Nat) : Bool :=
  (s.txEdges p).all (fun a => (s.txEdges p).all (fun b => decide (a.2 - b.1 ≤ ((1600 * 2 ^ 49 : Nat) : Int))))

/-- The composite's centre: the mid-point of the span on the word grid (R139); a mid-point between two words goes to either
(log 143). -/
def State.centreWord (s : State) (p : Nat) : Nat :=
  match s.txEdges p with
  | [] => 0
  | e :: r =>
    let lo := r.foldl (fun m x => min m x.1) e.1
    let hi := r.foldl (fun m x => max m x.2) e.2
    let q := (lo + hi) / (4 * 24576)
    let d := (lo + hi) % (4 * 24576)
    (if d < 2 * 24576 then q else if 2 * 24576 < d then q + 1
      else q + (b2n (Config.roundUp (lo + hi) (4 * 24576)) : Int)).toNat % 2 ^ 48

/-- REQ of a quad's shaping engine (R142, R627). -/
def State.quadTxUsed (s : State) (n : Nat) : Bool := (List.range 4).any (fun i => s.txUsed (4 * n + i))
def State.txReq (s : State) (n : Nat) : Nat :=
  if s.quadTxUsed n then
    12 + ceilDiv (((List.range 16).filter (fun i => s.txEn (4 * n + i / 4) (i % 4))).foldl (fun a i =>
      a + s.fld (F.TXP_STR_SHAPE_TAPS (4 * n + i / 4) (i % 4)) *
        rateS (s.fld (F.TXP_STR_CFG_RATE (4 * n + i / 4) (i % 4)))) 0) 256
  else 0

def State.refreshTxLoad (s : State) : State :=
  let s := (List.range 16).foldl (fun s n => s.setFld (F.QFE_TX_LOAD_REQ n) (s.txReq n)) s
  s.setFld (F.TCK_LOAD_REQ 6) ((List.range 16).foldl (fun m n => max m (s.txReq n)) 0)

/-! ### Checks and changes of the transmit PATH commands (R139, R167-R172) -/

def txDesc (k : Nat) : Nat := 16 + 16 * k
def txDescT (c : Cmd) (k : Nat) : Nat := leAt c.payload (txDesc k + 8) 2
def txShiftOf (c : Cmd) (k : Nat) : Int := sleAt c.payload (txDesc k + 10) 1

/-- Bytes of the coefficient block before stream `k`. -/
def coefOffset (c : Cmd) (k : Nat) : Nat :=
  80 + 4 * ((List.range k).foldl (fun a j => a + (txDescT c j + 1) / 2) 0)

/-- The half filter of stream `k`. -/
def txHalf (c : Cmd) (k : Nat) : List Int :=
  (List.range ((txDescT c k + 1) / 2)).map (fun i => sleAt c.payload (coefOffset c k + 4 * i) 4)

def txDescOk (c : Cmd) (k : Nat) : Bool :=
  let o := txDesc k
  decide (leAt c.payload o 1 < 2 ∧ descRate c o < 6 ∧ leAt c.payload (o + 6) 2 ≤ 1000 ∧
    -4 ≤ txShiftOf c k ∧ txShiftOf c k ≤ 3) &&
  bwOk (descEn c o) (descRate c o) (descBw c o) && zeroAt c.payload (o + 11) 5 &&
  (txHalf c k).all (fun v => decide (-131072 ≤ v ∧ v ≤ 131071))

/-- What PATH_CONFIG_CARRIERS direction 1 changes on path `p`. -/
def txConfigChanges (c : Cmd) (p : Nat) : List Change :=
  Change.reg (F.TXP_CFR_CFG_ITER p).addr 0x37F (leAt c.payload 12 2 + 256 * leAt c.payload 14 1) ::
  (List.range 4).flatMap (fun k =>
    let o := txDesc k
    [Change.reg (F.TXP_STR_CFG_EN p k).addr 0xFFFF0E01
        (descBw c o * 2 ^ 16 + descRate c o * 2 ^ 9 + b2n (descEn c o)),
     Change.reg (F.TXP_STR_NCO_HI_PHASE p k).addr 0xFFFF0000 (leAt c.payload (o + 4) 2 * 2 ^ 16),
     Change.reg (F.TXP_STR_SHAPE_EVM_LIMIT p k).addr 0xFFFF0000 (leAt c.payload (o + 6) 2 * 2 ^ 16)] ++
    (if descEn c o then [Change.shape (4 * p + k) (mirror (txDescT c k) (txHalf c k)) (txShiftOf c k)] else []))

/-- Check 11 of PATH_CONFIG_CARRIERS direction 1. -/
def chkPathConfigTx (s : State) (c : Cmd) : Option Status :=
  let ps := c.paths 4
  if c.payload.length ≠ coefOffset c 4 ∨ !zeroAt c.payload 1 3 ∨ ps.isEmpty ∨ leAt c.payload 12 2 < 65 ∨
      100 < leAt c.payload 12 2 ∨ 4 ≤ leAt c.payload 14 1 ∨ !zeroAt c.payload 15 1 ∨
      !((List.range 4).all (txDescOk c)) then some .badParam
  else
    let live := s.txLive ps
    let t := s.prospect c.actTick (live.flatMap (txConfigChanges c))
    if live.any (fun p => !zonesOk (t.txZones p)) then some .badParam
    else if live.isEmpty then some .resourceRetired else none

/-- Check 12: the sum of rates, the span and the taps (R139, R142). -/
def limitPathConfigTx (s : State) (c : Cmd) : Bool :=
  let live := s.txLive (c.paths 4)
  let ks := (List.range 4).filter (fun k => descEn c (txDesc k))
  let t := s.prospect c.actTick (live.flatMap (txConfigChanges c))
  decide ((ks.map (fun k => 2 ^ descRate c (txDesc k))).foldl (· + ·) 0 ≤ 32) &&
  (List.range 4).all (fun k => decide (txDescT c k ≤ maxTaps (descRate c (txDesc k)))) &&
  live.all t.spanOk

/-- Arms a commit whose command may end in LATE_START on the given transmit paths (R162). -/
def State.armLate (s : State) (c : Cmd) (units : List CommitUnit) (chs : List Change) (bulk : List (Nat × Nat))
    (part : Bool) (pl : List Byte) (paths : List Nat) : State :=
  let t := s.commitTick c.actTick
  s.armCommit ⟨t, c.seq, .command, units, chs, bulk, [(c.tag, ⟨.ok, part, pl, t⟩)], [(c.tag, listMask 64 paths)]⟩

/-- PATH_CONFIG_CARRIERS, transmit. -/
def execPathConfigCarriersTx (tag : Nat) (s : State) : Host.Outcome State Fault Refusal :=
  .next (s.performCommit 0x0400 tag (isOp 1) (fun c s =>
    let live := s.txLive (c.paths 4)
    let (part, pl) := s.txPartial (c.paths 4)
    s.armLate c (live.map CommitUnit.txPath) (live.flatMap (txConfigChanges c)) (bulkOf live 512) part pl live))

/-- Directions of a select, and the paths in service in each. -/
def selRx (c : Cmd) : Bool := bitAt (leAt c.payload 1 1) 0
def selTx (c : Cmd) : Bool := bitAt (leAt c.payload 1 1) 1

def selectChanges (s : State) (c : Cmd) : List Change :=
  (c.paths 4).map (fun p => Change.select p (selRx c && !s.rxRetired p) (selTx c && !s.txRetired p) (leAt c.payload 2 1))

/-- Paths of which a named direction is retired; paths with no named direction in service. -/
def selPart (s : State) (c : Cmd) : List Nat :=
  (c.paths 4).filter (fun p => (selRx c && s.rxRetired p) || (selTx c && s.txRetired p))
def selDead (s : State) (c : Cmd) (p : Nat) : Bool := !(selRx c && !s.rxRetired p) && !(selTx c && !s.txRetired p)

/-- The entry a define command writes. -/
def definedEntry (c : Cmd) : FreqEntry :=
  ⟨(List.range 4).map (fun k => leAt c.payload (8 + 8 * k) 6), (List.range 4).map (fun k => leAt c.payload (40 + 8 * k) 6),
    leAt c.payload 3 1, leAt c.payload 4 1, true⟩

/-- Check 11 of PATH_SELECT_FREQ_ENTRY (R127, R158, R168, R630). -/
def chkPathSelectFreq (s : State) (c : Cmd) : Option Status :=
  if c.op = 0 then
    let t := s.prospect c.actTick (selectChanges s c)
    let was := s.prospect (tickAdd c.actTick (2 ^ 32 - 1)) []
    if c.payload.length ≠ 12 ∨ 4 ≤ leAt c.payload 1 1 ∨ leAt c.payload 1 1 = 0 ∨ !zeroAt c.payload 3 1 ∨
        (c.paths 4).isEmpty ∨ !(t.freqEntry (leAt c.payload 2 1)).defined ∨
        (c.paths 4).any (fun p => (selRx c && !zonesOk (t.rxZones p)) || (selTx c && !zonesOk (t.txZones p)) ||
          (selRx c && !s.rxRetired p && (List.range 4).any (fun k => was.rxEn p k && t.rxEn p k &&
            was.rxZone p k != t.rxZone p k))) then some .badParam
    else if (c.paths 4).all (selDead s c) then some .resourceRetired else none
  else if c.op = 1 then
    let e := leAt c.payload 2 1
    if c.payload.length ≠ 72 ∨ !zeroAt c.payload 1 1 ∨ !zeroAt c.payload 5 3 ∨ 64 ≤ leAt c.payload 3 1 ∨
        16 ≤ leAt c.payload 4 1 ∨ !((List.range 8).all (fun i => zeroAt c.payload (14 + 8 * i) 2)) then some .badParam
    else if [s, s.prospect c.actTick []].any (fun s =>
        (s.freqEntry e).defined && (List.range 64).any (fun p => s.rxEntry p == e || s.txEntry p == e)) then
      some .notPermitted
    else
      let t := s.prospect c.actTick [.define e (definedEntry c)]
      if (List.range 64).any (fun p => (t.rxEntry p == e && !zonesOk (t.rxZones p)) ||
          (t.txEntry p == e && !zonesOk (t.txZones p))) then some .badParam else none
  else some .badParam

/-- Check 12 of PATH_SELECT_FREQ_ENTRY: the span (R158). -/
def limitPathSelectFreq (s : State) (c : Cmd) : Bool :=
  c.op != 0 || !selTx c || (s.txLive (c.paths 4)).all (s.prospect c.actTick (selectChanges s c)).spanOk

/-- PATH_SELECT_FREQ_ENTRY operation 0. -/
def execPathSelectFreqEntry (tag : Nat) (s : State) : Host.Outcome State Fault Refusal :=
  .next (s.performCommit 0x0402 tag (isOp 0) (fun c s =>
    let act := (c.paths 4).filter (fun p => !selDead s c p)
    let (part, pl) := partialMask 64 8 (selPart s c)
    let ru := if selRx c then (s.rxLive act).map CommitUnit.rxPath else []
    let tu := if selTx c then (s.txLive act).map CommitUnit.txPath else []
    s.armLate c (ru ++ tu) (selectChanges s c) (bulkOf act 64) part pl (if selTx c then s.txLive act else [])))

/-- PATH_SELECT_FREQ_ENTRY operation 1. -/
def execPathDefineFreqEntry (tag : Nat) (s : State) : Host.Outcome State Fault Refusal :=
  .next (s.performCommit 0x0402 tag (isOp 1) (fun c s =>
    let e := leAt c.payload 2 1
    let act := (s.prospect (s.commitTick c.actTick) []).txLive ((List.range 64).filter (fun p =>
      (s.prospect (s.commitTick c.actTick) []).txEntry p == e))
    s.armLate c [.freqEntry e] [.define e (definedEntry c)] ((List.range 4).map (fun d => (d, 576))) false [] act))

/-- Table 05-4: entry `i` of a column load. -/
def powerEntry (c : Cmd) (i : Nat) : PowerEntry :=
  let o := 8 + 8 * i
  ⟨leAt c.payload o 2, leAt c.payload (o + 2) 1, leAt c.payload (o + 3) 1, sleAt c.payload (o + 4) 2⟩

/-- Check 11 of PATH_SET_POWER_STEP (R169). -/
def chkPathSetPower (s : State) (c : Cmd) : Option Status :=
  if c.op = 0 then
    if c.payload.length ≠ 16 ∨ !zeroAt c.payload 1 3 ∨ (c.paths 4).isEmpty ∨ 64 ≤ leAt c.payload 12 1 ∨
        9 ≤ leAt c.payload 13 1 ∨ !zeroAt c.payload 14 2 then some .badParam
    else if (s.txLive (c.paths 4)).isEmpty then some .resourceRetired else none
  else if c.op = 1 then
    if c.payload.length ≠ 520 ∨ 64 ≤ leAt c.payload 1 1 ∨ 6 ≤ leAt c.payload 2 1 ∨ !zeroAt c.payload 3 5 ∨
        !((List.range 64).all (fun i => decide ((powerEntry c i).backoff ≤ 4000 ∧ (powerEntry c i).dacCur < 64 ∧
          (powerEntry c i).padrv < 4) && zeroAt c.payload (14 + 8 * i) 2)) then some .badParam
    else if s.txRetired (leAt c.payload 1 1) then some .resourceRetired else none
  else some .badParam

/-- PATH_SET_POWER_STEP operation 0. -/
def execPathSetPowerStep (tag : Nat) (s : State) : Host.Outcome State Fault Refusal :=
  .next (s.performCommit 0x0404 tag (isOp 0) (fun c s =>
    let live := s.txLive (c.paths 4)
    let (part, pl) := s.txPartial (c.paths 4)
    s.armLate c (live.map CommitUnit.txPath)
      (live.map (fun p => Change.power p (leAt c.payload 12 1) (leAt c.payload 13 1))) (bulkOf live 64) part pl live))

/-- PATH_SET_POWER_STEP operation 1. -/
def execPathLoadPowerColumn (tag : Nat) (s : State) : Host.Outcome State Fault Refusal :=
  .next (s.performCommit 0x0404 tag (isOp 1) (fun c s =>
    let p := leAt c.payload 1 1
    let col := leAt c.payload 2 1
    s.armLate c [.powerColumn p col] [.column p col ((List.range 64).map (powerEntry c))] (bulkOf [p] 4096) false [] [p]))

/-- START and LIMIT of segment `i` (0-31 lower, 32-63 upper edge) of PATH_SET_MASK. -/
def maskStart (c : Cmd) (i : Nat) : Nat := leAt c.payload (12 + 8 * i) 4
def maskLimit (c : Cmd) (i : Nat) : Nat := leAt c.payload (16 + 8 * i) 2

/-- Check 11 of PATH_SET_MASK (R154, R170). -/
def chkPathSetMask (s : State) (c : Cmd) : Option Status :=
  if c.payload.length ≠ 524 ∨ 4 ≤ c.op ∨ 4 ≤ leAt c.payload 1 1 ∨ !zeroAt c.payload 2 2 ∨ (c.paths 4).isEmpty ∨
      !((List.range 64).all (fun i => decide (maskStart c i ≤ 1966080) && zeroAt c.payload (18 + 8 * i) 2)) ∨
      (List.range 64).any (fun i => i % 32 != 0 && decide (maskStart c i < maskStart c (i - 1))) then some .badParam
  else if (s.txLive (c.paths 4)).isEmpty then some .resourceRetired else none

/-- PATH_SET_MASK. -/
def execPathSetMask (tag : Nat) (s : State) : Host.Outcome State Fault Refusal :=
  .next (s.performCommit 0x0406 tag anyOp (fun c s =>
    let live := s.txLive (c.paths 4)
    let (part, pl) := s.txPartial (c.paths 4)
    let ws := (List.range 64).flatMap (fun i => [maskStart c i, maskLimit c i])
    s.armCmd c (live.map CommitUnit.txPath) (live.map (fun p => Change.mask p c.op (leAt c.payload 1 1) ws)) []
      .ok part pl))

/-- Runs of a schedule as (length, class code). -/
def schedRuns (c : Cmd) : List (Nat × Nat) :=
  (List.range (leAt c.payload 2 1)).map (fun i => (leAt c.payload (16 + 4 * i) 2, leAt c.payload (18 + 4 * i) 1))

/-- Consecutive runs of one class form one span (R165). -/
def mergeRuns (l : List (Nat × Nat)) : List (Nat × Nat) :=
  match l with
  | [] => []
  | (n, c) :: r =>
    match mergeRuns r with
    | (m, d) :: q => if c = d then (n + m, c) :: q else (n, c) :: (m, d) :: q
    | [] => [(n, c)]

/-- The spans of the cyclic pattern: a last span of the first one's class joins it. -/
def spansOf (l : List (Nat × Nat)) : List (Nat × Nat) :=
  match mergeRuns l with
  | (n, c) :: x :: r =>
    match (x :: r).getLast? with
    | some (m, d) => if c = d then (n + m, c) :: (x :: r).dropLast else (n, c) :: x :: r
    | none => (n, c) :: x :: r
  | l => l

/-- The tests of R165 on a schedule. -/
def scheduleOk (runs : List (Nat × Nat)) (paLead paLag trLead trLag : Nat) : Bool :=
  let sp := spansOf runs
  let pairs := match sp with
    | [] => []
    | [_] => []
    | a :: r => sp.zip (r ++ [a])
  decide (paLead + 1 ≤ trLead) && decide (paLag + 1 ≤ trLag) &&
  pairs.all (fun (a, b) =>
    !(a.2 == 1 && b.2 == 2) && !(a.2 == 2 && b.2 == 1) &&
    (!(a.2 == 1 && b.2 == 0) || decide (trLag ≤ 32 * b.1)) &&
    (!(a.2 == 0 && b.2 == 1) || decide (trLead ≤ 32 * a.1)))

/-- Check 11 of PATH_SET_FRONTEND_SCHEDULE (R165, R171). -/
def chkPathSetSchedule (c : Cmd) : Option Status :=
  let per := leAt c.payload 0 2
  let n := leAt c.payload 2 1
  let rs := schedRuns c
  if n = 0 ∨ 64 < n ∨ c.payload.length ≠ 16 + 4 * n ∨ !zeroAt c.payload 3 1 ∨ !zeroAt c.payload 6 2 ∨
      !zeroAt c.payload 13 3 ∨ per = 0 ∨ 38400 % per ≠ 0 ∨ (rs.map (·.1)).foldl (· + ·) 0 ≠ per ∨
      rs.any (fun r => decide (r.1 = 0 ∨ 38400 < r.1 ∨ 3 ≤ r.2)) ∨
      !((List.range n).all (fun i => zeroAt c.payload (19 + 4 * i) 1)) ∨
      !scheduleOk rs (leAt c.payload 8 1) (leAt c.payload 9 1) (leAt c.payload 10 1) (leAt c.payload 11 1) then
    some .badParam
  else none

/-- The registers a schedule writes. -/
def scheduleChanges (c : Cmd) : List Change :=
  [Change.reg 0x221004 0xFFFFFF (leAt c.payload 0 2 + 2 ^ 16 * leAt c.payload 2 1),
   Change.reg 0x221008 0xFFFFFFFF (leAt c.payload 8 4),
   Change.reg 0x22100C 0xFFFF (leAt c.payload 4 2),
   Change.reg 0x221010 0xFF (leAt c.payload 12 1)] ++
  ((schedRuns c).zip (List.range 64)).map (fun (r, i) => Change.reg (0x221100 + 4 * i) 0x3FFFF (r.1 + 2 ^ 16 * r.2))

/-- PATH_SET_FRONTEND_SCHEDULE. -/
def execPathSetFrontendSchedule (tag : Nat) (s : State) : Host.Outcome State Fault Refusal :=
  .next (s.performCommit 0x0407 tag anyOp (fun c s =>
    let ps := (List.range 64).filter (fun p => bitAt (leAt c.payload 4 2) (p / 4) && !s.txRetired p)
    s.armLate c [.frontEnd] (scheduleChanges c) [] false [] ps))

/-! ### Output power (R149-R153, R156) -/

/-- The step in force (R150). -/
def State.stepInForce (s : State) (p : Nat) : Nat :=
  min (s.fld (F.TXP_POWER_STEP p) + s.fld (F.TXP_POWER_STAT_BACKOFF p)) 63

/-- An entry of a path's power table. -/
def State.powerAt (s : State) (p col step : Nat) : PowerEntry :=
  sget (fun _ => PowerEntry.init) s.tx.powers ((6 * p + col) * 64 + step)

def State.cfrPath (s : State) (p : Nat) : CfrPath := sget (fun _ => CfrPath.init) s.tx.cfr p
def State.putCfr (s : State) (p : Nat) (y : CfrPath) : State :=
  { s with tx := { s.tx with cfr := sput (fun _ => CfrPath.init) s.tx.cfr p y } }

/-- Yarrow rescales its mean powers by a change in BACKOFF (R147). -/
def State.rescaleCfr (s : State) (p before after : Nat) : State :=
  if before = after then s
  else
    let y := s.cfrPath p
    let f := fun (e : Nat) => floorPower 80 1 e ((before : Int) - after) 1000
    s.putCfr p { y with ticks := y.ticks.map (fun t => (f t.1, t.2.map f)) }

/-- The entry in force: BACKOFF and EXP_GAIN at once, DAC_CUR and PADRV on the next boundary (R150). -/
def State.refreshPower (s : State) (p : Nat) : State :=
  let st := s.stepInForce p
  let s := s.setFld (F.TXP_POWER_STAT_STEP p) st
  let e := s.powerAt p (s.fld (F.TXP_POWER_STAT_COLUMN p)) st
  let s := s.rescaleCfr p (s.fld (F.TXP_ENTRY_LO_BACKOFF p)) e.backoff
  let s := s.setFld (F.TXP_ENTRY_LO_BACKOFF p) e.backoff
  let s := s.setFld (F.TXP_ENTRY_HI_EXP_GAIN p) (encode2c 16 e.expGain)
  { s with tx := { s.tx with entryDue := insertNat s.tx.entryDue p } }

/-- DAC_CUR and PADRV of entries changed on the last boundary. -/
def State.settleEntries (s : State) : State :=
  let ps := s.tx.entryDue
  let s := ps.foldl (fun s p =>
    let e := s.powerAt p (s.fld (F.TXP_POWER_STAT_COLUMN p)) (s.fld (F.TXP_POWER_STAT_STEP p))
    (s.setFld (F.TXP_ENTRY_LO_DAC_CUR p) e.dacCur).setFld (F.TXP_ENTRY_LO_PADRV p) e.padrv) s
  { s with tx := { s.tx with entryDue := [] } }

/-- The quiet boundary of a change made at elapsed tick `since` has come on this boundary: one that opens no DL tick, within 38,400
ticks, or else the first frame boundary from then on (R151). -/
def State.quietNow (s : State) (p since : Nat) : Bool :=
  decide (since < s.elapsed) &&
  ((!(s.dlIn p 0) && decide (s.elapsed ≤ since + 38400)) || (decide (since + 38400 ≤ s.elapsed) && s.frameTick == 0))

/-- Back-off steps and column switches that were waiting for the path's quiet boundary (R151, R156). -/
def State.quietSteps (s : State) (p : Nat) : State :=
  let b := sget (fun _ => 0) s.tx.backoffDue p
  let s := if b ≠ 0 ∧ s.quietNow p (b - 1) then
      let k := s.fld (F.TXP_POWER_STAT_BACKOFF p)
      let s := { s with tx := { s.tx with backoffDue := sput (fun _ => 0) s.tx.backoffDue p 0 } }
      if k < s.fld (F.TXP_POWER_BACKOFF_MAX p) ∧ s.fld (F.TXP_POWER_STEP p) + k < 63 then
        (s.setFld (F.TXP_POWER_STAT_BACKOFF p) (k + 1)).refreshPower p
      else s
    else s
  s

/-- The PADRV bits a path drives: 00 when retired or muted, that is, with no stream enabled (log 144). -/
def State.padrvOf (s : State) (p : Nat) : Nat :=
  if s.txRetired p ∨ !s.txUsed p then 0 else s.fld (F.TXP_ENTRY_LO_PADRV p)

/-- The whole word of the PA-driver bus, by path. -/
def State.padrvWord (s : State) : List (Nat × Nat) :=
  (List.range 64).foldl (fun m p => sput (fun _ => 0) m p (s.padrvOf p)) []

/-- Latches the whole word on the PA-driver bus LEAD fine steps before the boundary that opened elapsed tick `n`, shifted in
the 64 fine steps that end one before the latch (R152). -/
def State.latchPadrv (s : State) (n : Nat) : State :=
  let t := 32 * n - s.fld F.FES_PADRV_CTRL_LEAD
  { s with tx := { s.tx with
      padrv := s.padrvWord
      lastLatch := some n
      deferred := []
      bus := some ⟨s.padrvWord, t - 65, some t⟩ } }

/-- The PA-driver bus on the boundary that closes a tick, before its successor's commits: a change that the tick brought is latched, or deferred where its latch would fall within three ticks of the
previous one; what joins a deferred latch waits with it (R152, R153). -/
def State.padrvBoundary (s : State) : State :=
  if s.flag F.FES_PADRV_CTRL_EN then
    let ch := (List.range 64).filter (fun p => s.padrvOf p != sget (fun _ => 0) s.tx.padrv p)
    if ch.isEmpty then { s with tx := { s.tx with deferred := [] } }
    else match s.tx.lastLatch with
      | some l =>
        if s.elapsed < l + 3 then { s with tx := { s.tx with deferred := ch } }
        else if s.tx.deferred.isEmpty then s.latchPadrv s.elapsed else s
      | none => s.latchPadrv s.elapsed
  else s

/-- Setting FES_PADRV_CTRL.EN: GPIO8 to GPIO13 become the bus, and the current word is shifted at once (R152): from the next
boundary on, and without a latch (log 144). A latch follows the next change. -/
def State.padrvEnable (s : State) : State :=
  let s := s.setFld F.FES_PADRV_CTRL_EN 1
  { s with tx := { s.tx with padrv := s.padrvWord, deferred := [], bus := some ⟨s.padrvWord, 32 * (s.elapsed + 1), none⟩ } }

/-- A deferred latch at the first permitted instant: PADRV_LATE for each path whose change it carries (R153). -/
def State.padrvLate (s : State) : State :=
  if s.tx.deferred.isEmpty then s
  else match s.tx.lastLatch with
    | some l =>
      if s.elapsed < l + 3 then s
      else
        let ps := s.tx.deferred
        let s := s.latchPadrv (l + 3)
        ps.foldl (fun s p => (s.addFld F.FES_PADRV_LATE_COUNT 1).raise 0x4003 p (srcTx p) sevNotice) s
    | none => s

def execPadrvDeferredLatch (s : State) : Host.Outcome State Fault Refusal := .next s.padrvLate

/-! ### Readiness (Table 05-7) and LATE_START (R162) -/

def State.txReady (s : State) (p : Nat) : Ready := sget (fun _ => Ready.ready) s.tx.ready p

def State.setReady (s : State) (p : Nat) (r : Ready) : State :=
  let s := { s with tx := { s.tx with ready := sput (fun _ => Ready.ready) s.tx.ready p r } }
  s.setFld (F.TXP_STATUS_NOT_READY p) (b2n (r != .ready))

/-- First settled air tick of a path, where it has become ready, as an elapsed tick. -/
def State.settledTick (s : State) (p : Nat) : Option Nat :=
  match sget (fun _ => 0) s.tx.settled p with
  | 0 => none
  | n + 1 => some n

def State.setSettled (s : State) (p t : Nat) : State :=
  { s with tx := { s.tx with settled := sput (fun _ => 0) s.tx.settled p (t + 1) } }

/-! ### What the cascade holds VOID (R346, R348, R354, R358) -/

/-- Role codes of the cascade. -/
def State.casRole (s : State) : Nat := s.fld F.CAS_CFG_ROLE

/-- A port whose data share is open: UP, and its rejoin tick has come (R352, R356). -/
def State.casOpen (s : State) (k : Nat) : Bool :=
  s.fld (F.CAS_P_STATUS_STATE k) == 2 && !s.cas.rejoin.any (fun r => r.1 == k)

/-- The cascade marks this device's own sums VOID (R354). -/
def State.ownVoid (s : State) : Bool :=
  s.casRole == 2 && (s.pwr.quietAt || s.cas.depthBad || s.cas.digestBad.isSome || s.cas.reverse || !s.casOpen (s.fld F.CAS_CFG_UP_PORT))

/-- A member's downlink is VOID while R346, R348 or R358 holds it. -/
def State.dlHeld (s : State) : Bool := s.ownVoid

/-- The path radiates in the next air tick: it is ready and settled by then. -/
def State.airReadyNext (s : State) (p : Nat) : Bool :=
  s.txReady p == .ready && (match s.settledTick p with
    | some t => decide (t ≤ s.elapsed + 1)
    | none => true)

/-- The path radiates in the open air tick: it is ready and settled. -/
def State.airReady (s : State) (p : Nat) : Bool :=
  s.txReady p == .ready && (match s.settledTick p with
    | some t => decide (t ≤ s.elapsed)
    | none => true)

/-- A late start of a path (Table 05-7). -/
def State.lateStart (s : State) (p voids : Nat) : State :=
  (s.addFld (F.TXP_LATE_STARTS_COUNT p) 1).raise 0x4004 voids (srcTx p) sevNotice

/-- A calibration attempt that holds a path's DAC is pre-empted: its runs are discarded and it is DUE again (R161,
Table 18-5). -/
def State.preemptTx (s : State) (p : Nat) : State :=
  let hit := fun (key : Nat) (e : CalEntry) =>
    decide (e.phase = .running) && (key / 4096 == 3 || key / 4096 == 4) && key / 64 % 64 == p
  let any := s.cal.entries.any (fun e => hit e.1 e.2)
  let s := { s with cal := { s.cal with entries := s.cal.entries.map (fun e =>
    if hit e.1 e.2 then (e.1, { e.2 with phase := .due, cause := .preempted, runs := [], since := s.elapsed }) else e) } }
  if any then (s.addFld F.CAL_PREEMPT_COUNT 1).raiseFree 0xD022 (srcTx p) sevInfo else s

/-- How the receive samples of a die stand to its loop (R431): 0 valid; 1 VOID from the next boundary; 2 VOID while the loop is
not LOCKED; 3 locked in the open tick; 4 VOID in this tick and valid from the next; 5 locked in the tick of the unlock. -/
def State.rxHold (s : State) (die : Nat) : Nat := sget (fun _ => 0) s.clk.rxHoldoff die

def State.setRxHold (s : State) (die h : Nat) : State :=
  { s with clk := { s.clk with rxHoldoff := sput (fun _ => 0) s.clk.rxHoldoff die h } }

/-- The converter PLL of a die reports unlock. -/
def State.pllUnlock (s : State) (die : Nat) : State :=
  let h := s.rxHold die
  let s := s.setRxHold die (if h = 0 ∨ h = 1 ∨ h = 5 then 1 else 2)
  (List.range 16).foldl (fun s i =>
    let p := 16 * die + i
    match s.txReady p with
    | .ready => s.setReady p (.pllWait 0)
    | .cal => (s.preemptTx p).setReady p (.pllWait 0)
    | .pllWait _ => s) s

/-- DL air ticks among the open one and the `n` after it in which a path with an enabled stream would transmit. -/
def State.requests (s : State) (p n : Nat) : Nat :=
  if s.txUsed p then ((List.range (n + 1)).filter (s.dlIn p)).length else 0

/-- The converter PLL of a die reports lock in the open tick `t`: the first settled air tick is t + 3. -/
def State.pllLock (s : State) (die : Nat) : State :=
  let h := s.rxHold die
  let s := s.setRxHold die (if h = 1 then 5 else if h = 2 then 3 else h)
  (List.range 16).foldl (fun s i =>
    let p := 16 * die + i
    match s.txReady p with
    | .pllWait v =>
      let n := v + s.requests p 2
      let s := (s.setReady p .ready).setSettled p (s.elapsed + 3)
      if n = 0 then s else s.lateStart p n
    | _ => s) s

/-- A DL air tick that is VOID for want of readiness, as it closes. -/
def State.countNotReady (s : State) (p : Nat) : State :=
  if s.airReady p ∨ !s.dlIn p 0 ∨ !s.txUsed p then s
  else
    let s := s.addFld (F.TXP_NOTREADY_TICKS_COUNT p) 1
    match s.txReady p with
    | .pllWait v => s.setReady p (.pllWait (v + 1))
    | _ => s

/-- The boundary that opens chain tick x - 1 pre-empts an item before a DL air tick x (Table 05-7). -/
def State.calBoundary (s : State) (p : Nat) : State :=
  if s.txReady p = .cal ∧ s.dlIn p 1 ∧ s.txUsed p then
    let s := (s.preemptTx p).setReady p .ready
    (s.setSettled p (s.elapsed + 2)).lateStart p 1
  else s

/-- Opens the LATE_START decision of a command whose commit has just been applied (R162). -/
def State.openLate (s : State) (tag mask : Nat) (o : Outcome) : State :=
  let ws := (maskList 64 mask).filterMap (fun p =>
    (firstWhere (s.dlIn p) 38400 1).map (fun n => (p, tickAdd s.tickno n, 0)))
  if ws.isEmpty then s.finish tag o
  else { s with tx := { s.tx with waits := s.tx.waits ++ [⟨tag, o, ws, s.tickno, 0, 0⟩] } }

/-- One path of an open decision on the boundary that opens its air tick. -/
def State.stepLate (s : State) (w : LateWait) (e : Nat × Nat × Nat) : LateWait :=
  let (p, x, v) := e
  if tickAfter x s.tickno then { w with waiting := w.waiting ++ [e] }
  else if s.airReady p then
    if v = 0 then w
    else { w with
      mask := w.mask + 2 ^ p
      voids := max w.voids v
      settled := if w.mask = 0 ∨ tickAfter s.tickno w.settled then s.tickno else w.settled }
  else { w with waiting := w.waiting ++ [(p, x, v + b2n (s.dlIn p 0))] }

/-- The open decisions on a boundary: a command is stored once its last path is decided. -/
def State.lateBoundary (s : State) : State :=
  let ws := s.tx.waits.map (fun w => w.waiting.foldl s.stepLate { w with waiting := [] })
  let s := { s with tx := { s.tx with waits := ws.filter (fun w => !w.waiting.isEmpty) } }
  (ws.filter (fun w => w.waiting.isEmpty)).foldl (fun s w =>
    if w.mask = 0 then s.finish w.tag w.outcome
    else s.finish w.tag ⟨.lateStart, w.outcome.part,
      leBytes 4 w.settled ++ leBytes 4 w.voids ++ leBytes 8 w.mask, w.outcome.tick⟩) s

/-! ### Zinnia's outputs (R163-R166, Table 05-9) -/

/-- A DL run is in force `fine` fine steps into tick `f`, widened by a lead before it and a lag after it. -/
def State.dlWindow (s : State) (n f fine lead lag : Nat) : Bool :=
  let on := fun (d : Int) =>
    let g := (f : Int) + d
    bitAt (s.fld F.FES_QUADS_QUADS) n && s.classAt (g % 38400).toNat == some .dl
  on 0 || (List.range 9).any (fun i =>
    (on (i + 1) && decide (32 * (i + 1) ≤ fine + lead)) ||
    (on (-(i + 1 : Int)) && decide (32 * i + fine < lag)))

/-- Outputs are forced low: SAFE_N or the safe state (Table 05-9). -/
def State.frontSafe (s : State) : Bool := s.pwr.safePin || s.inSafe || s.pwr.frontLow || s.fld F.PWR_STATUS_STATE == 3 || s.offAir

/-- PAEN_p at a fine step of the open tick: low while the path is retired or muted, that is, has no stream enabled (log 144). -/
def State.paen (s : State) (p fine : Nat) : Bool :=
  !s.frontSafe && !s.txRetired p && s.txUsed p &&
  s.dlWindow (p / 4) s.frameTick fine (s.fld F.FES_TIMING_PA_LEAD) (s.fld F.FES_TIMING_PA_LAG)

/-- TRSW_n at a fine step of the open tick. -/
def State.trsw (s : State) (n fine : Nat) : Bool :=
  !s.frontSafe && s.dlWindow n s.frameTick fine (s.fld F.FES_TIMING_TR_LEAD) (s.fld F.FES_TIMING_TR_LAG)

/-- FES_STATUS for the open tick. -/
def State.refreshFes (s : State) : State :=
  let per := s.fld F.FES_CFG_PERIOD
  if per = 0 then (s.setFld F.FES_STATUS_RUN 0).setFld F.FES_STATUS_CLASS 0
  else
    let r := s.runAt (s.fld F.FES_CFG_NRUNS) 0 (s.frameTick % per)
    (s.setFld F.FES_STATUS_RUN r).setFld F.FES_STATUS_CLASS (s.fld (F.FES_RUN_CLASS r))

/-! ### Qualifiers and retirement -/

/-- Marks an air tick of a path VOID (Table 05-3). -/
def State.voidAirTick (s : State) (p t : Nat) : State :=
  { s with tx := { s.tx with voidAir := s.tx.voidAir ++ [(p, t)] } }

/-- SETTLING samples to come on a stream. -/
def State.settleStream (s : State) (st : Nat) : State :=
  { s with tx := { s.tx with settle := sput (fun _ => 0) s.tx.settle st (s.fld (F.TXP_STR_SHAPE_TAPS (st / 4) (st % 4)) - 1) } }

/-- A VOID air tick of a path, after which its streams are SETTLING (Table 05-3). -/
def State.voidThenSettle (s : State) (p t : Nat) : State :=
  let s := s.voidAirTick p t
  { s with tx := { s.tx with settleAir := s.tx.settleAir ++ [(p, t)] } }

/-- SETTLING samples after the chain tick that made air tick `x`: those of a stream go by with its samples, and a VOID air tick
is followed by a filter's length of them. -/
def State.settleTick (s : State) (x : Nat) : State :=
  let hit := fun (p : Nat) => s.tx.settleAir.any (fun e => e.1 == p && e.2 == x)
  let s := (List.range 256).foldl (fun (s : State) st =>
    if hit (st / 4) && s.txEn (st / 4) (st % 4) then s.settleStream st
    else
      let n := sget (fun _ => 0) s.tx.settle st
      { s with tx := { s.tx with
          settle := sput (fun _ => 0) s.tx.settle st (n - rateS (s.fld (F.TXP_STR_CFG_RATE (st / 4) (st % 4)))) } }) s
  { s with tx := { s.tx with settleAir := s.tx.settleAir.filter (fun e => tickAfter e.2 x) } }

/-- A transmit path is retired from this boundary: muted (R126). -/
def State.retireTx (s : State) (p : Nat) : State :=
  if s.txRetired p then s
  else
    let s := { s with fault := { s.fault with retired := insertNat s.fault.retired (srcTx p) } }
    let s := (s.setFld (F.TXP_STATUS_RETIRED p) 1).setFld (F.TXP_STATUS_MUTED p) 1
    let s := s.setFld (F.DPD_P_STATUS_STATE p) 5
    let s := s.setFld F.BF_RET_TICK_TICK s.tickno
    let m := s.txRetMask
    (s.setFld F.BF_RET_TX_LO_MASK m).setFld F.BF_RET_TX_HI_MASK (m / 2 ^ 32)

/-- TXP_STATUS of the open tick: STREAMS, ZONE, WARM and MUTED. -/
def State.refreshTxStatus (s : State) (p : Nat) : State :=
  let s := s.setFld (F.TXP_STATUS_STREAMS p) (listMask 4 ((List.range 4).filter (s.txEn p)))
  let s := s.setFld (F.TXP_STATUS_ZONE p) ((s.txZones p).headD 0)
  let s := s.setFld (F.TXP_STATUS_WARM p) (b2n (sget (fun _ => 0) s.tx.warmUp p != 0))
  s.setFld (F.TXP_STATUS_MUTED p) (b2n (s.txRetired p || !s.txUsed p || !s.dlIn p 0 || s.pwr.quietAt || s.offAir || s.inSafe ||
    !s.airReady p || s.tx.voidAir.contains (p, s.tickno)))

/-- The transmit side of a commit (R100, R141, R147, R150, R156, R158, Table 05-3). -/
def State.txCommit (s old : State) (chs : List Change) : State :=
  let c1 := tickAdd s.tickno 1
  let shaped := chs.filterMap (fun c => match c with | .shape st _ _ => some st | _ => none)
  let s := (List.range 64).foldl (fun s p =>
    let re := (List.range 4).any (fun k => txReshaped old s (4 * p + k))
    let s := if re then
        let h := (List.range 4).foldl (fun m k =>
          if txReshaped old s (4 * p + k) then sput (fun _ => []) m (4 * p + k) [] else m) s.tx.hist
        { s.voidThenSettle p c1 with tx := { (s.voidThenSettle p c1).tx with hist := h } }
      else (shaped.filter (fun st => st / 4 == p && decide (old.txCoefs st ≠ s.txCoefs st ∨
          old.fld (F.TXP_STR_SHAPE_OUT_SHIFT p (st % 4)) ≠ s.fld (F.TXP_STR_SHAPE_OUT_SHIFT p (st % 4))))).foldl
        State.settleStream s
    let on := (List.range 4).filter (fun k => s.txEn p k && !old.txEn p k)
    let nco := on.foldl (fun m k => sput (fun _ => 0) m (256 + 4 * p + k) 0) s.rx.nco
    let s := if on.isEmpty then s else
      { s with tx := { s.tx with warmUp := sput (fun _ => 0) s.tx.warmUp p 32 }, rx := { s.rx with nco := nco } }
    let a := old.freqEntry (old.txEntry p)
    let b := s.freqEntry (s.txEntry p)
    if (old.txEntry p = s.txEntry p ∧ a = b) ∨ sharesCal a b then s
    else
      let m := (List.range 4).foldl (fun m k => sput (fun _ => 0) m (256 + 4 * p + k) 0) s.rx.nco
      { s.voidAirTick p c1 with rx := { s.rx with nco := m } }) s
  let s := chs.foldl (fun s c => match c with
    | .power p _ _ =>
      let s := { s with tx := { s.tx with backoffDue := sput (fun _ => 0) s.tx.backoffDue p 0 } }
      (s.setFld (F.TXP_POWER_STAT_BACKOFF p) 0).refreshPower p
    | .column p _ _ => s.refreshPower p
    | .reg a _ _ => ((List.range 64).filter (fun p => (F.TXP_POWER_STEP p).addr == a)).foldl State.refreshPower s
    | _ => s) s
  let s := (List.range 64).foldl (fun s p =>
    let e := s.freqEntry (s.txEntry p)
    let v := e.defined && (List.range 2).all (fun i =>
      (sget (fun _ => CalEntry.init) s.cal.entries (4096 * (3 + i) + 64 * p + e.calGroup)).valid)
    (s.setFld (F.TXP_FREQ_CAL_VALID p) (b2n v)).refreshTxStatus p) s
  s.refreshTxLoad

/-! ### Windows -/

/-- What a window of Yarrow has measured reaches the registers (R148). -/
def State.showCfr (s : State) (p : Nat) (r : CfrReport) : State :=
  let s := (List.range 4).foldl (fun s k =>
    let e := r.evm.getD k (0, 0)
    (s.setFld (F.TXP_STR_EVM_MEAN p k) e.1).setFld (F.TXP_STR_EVM_MAX p k) e.2) s
  let s := s.setFld (F.TXP_CFR_STAT_PAPR p) (encode2c 16 r.papr)
  let s := s.setFld (F.TXP_CFR_STAT_PAPR_MISS p) (min r.misses 0xFFFF)
  if r.misses = 0 then s else s.raise 0x4001 r.misses (srcTx p) sevNotice

/-- CFR_WINDOW_REPORT: Yarrow reports the window of a path that has ended; nothing where none waits. The figures the row shows are
not read (log entry 171). -/
def execCfrWindowReport (p : Fin 64) (_evm : List (Nat × Nat)) (_papr _misses : Nat) (s : State) : Host.Outcome State Fault Refusal :=
  match (s.cfrPath p.val).report with
  | some r => .next ((s.putCfr p.val { s.cfrPath p.val with report := none }).showCfr p.val r)
  | none => .next s

/-- A read of QFE_TX_COEF_DATA (R174); an INDEX of 6,144 to 8,191 and a position beyond T are log 162. -/
def State.readQfeTxCoef (s : State) (n : Nat) : Nat × State :=
  let i := s.fld (F.QFE_TX_COEF_ADDR_INDEX n)
  (encode2c 32 ((s.txCoefs (16 * n + i / 384)).getD (i % 384) 0),
    s.setFld (F.QFE_TX_COEF_ADDR_INDEX n) ((i + 1) % 6144))

def State.readMask (s : State) : Nat × State :=
  let i := s.fld F.CFR_MASK_ADDR_INDEX
  (sget (fun _ => 0) s.tx.masks i, s.setFld F.CFR_MASK_ADDR_INDEX ((i + 1) % 2 ^ 15))

/-- Word `w` of a frequency entry (R175). -/
def freqWord (e : FreqEntry) (w : Nat) : Nat :=
  if w < 8 then e.rx.getD (w / 2) 0 / 2 ^ (32 * (w % 2)) % 2 ^ 32
  else if w < 16 then e.tx.getD ((w - 8) / 2) 0 / 2 ^ (32 * (w % 2)) % 2 ^ 32
  else if w = 16 then e.calGroup + 256 * e.dpdSet + 2 ^ 31 * b2n e.defined
  else 0

def State.readFreq (s : State) : Nat × State :=
  let i := s.fld F.FRQ_ADDR_INDEX
  (freqWord (s.freqEntry (i / 32)) (i % 32), s.setFld F.FRQ_ADDR_INDEX ((i + 1) % 2 ^ 13))

end Sys2Proof.Machine
end

