-- ==== Sys2Proof/Machine/Chain.lean ====
section
/-!
DEFINITION. Sys2Proof/Machine/Chain.lean: the transmit chain of a converter die up to the actuator's input (R132-R149):
interpolation and mixing of the streams into the composite, the power step, Yarrow and its measurements.
-/
namespace Sys2Proof.Machine

/-- A list brought to `n` samples. -/
def fit (n : Nat) (xs : List Cplx) : List Cplx := (xs ++ List.replicate n Cplx.zero).take n

/-! ### The composite (R132, R137-R139) -/

/-- Phase [2^-50 turn] at composite sample `m` of a stream's NCO at word and accumulator, seen from the composite's centre. -/
def mixPhase (zone word acc centre accC m : Nat) : Nat :=
  (4 * (acc + 2 ^ 48 - accC) + 25 * m * (ncoWord word zone + 2 ^ 48 - ncoWord centre zone)) % 2 ^ 50

/-- A stream's part of composite sample `m` [2^-112], from its interpolated sample [2^-16]: turned by its phase offset, conjugated
in the second zone, and mixed (R98, R137). -/
def mixUp (zone phi theta : Nat) (v : Cplx) : Cplx :=
  let u := v.mul (cis 50 (phi * 2 ^ 34))
  let u := (if zone = 2 then u.conj else u).map (fun c => c / 2 ^ 48)
  (u.mul (cis 50 theta)).map (fun c => c / 2 ^ 48)

def State.txPhase (s : State) (p k : Nat) : Nat := s.fld (F.TXP_STR_NCO_HI_PHASE p k)
def State.txAcc (s : State) (p k : Nat) : Nat := sget (fun _ => 0) s.rx.nco (256 + 4 * p + k)

/-- Phase accumulator of a composite's centre. -/
def State.centreAcc (s : State) (p : Nat) : Nat := sget (fun _ => 0) s.rx.nco (512 + p)

/-- A stream's interpolated samples of the chain tick [2^-16 of its LSB]: a magnitude of 2^14 stays that (R138, log 177). -/
def State.interpolated (s : State) (p k : Nat) : List Cplx :=
  let get := fun (m : List (Nat × List RxSample)) => (sget (fun _ => []) m (4 * p + k)).map RxSample.v
  let r := s.fld (F.TXP_STR_CFG_RATE p k)
  (List.range 1024).map (fun m =>
    let win := windowAt (Config.interpSpan r) (m * rateS r / 1024) (get s.tx.links) (get s.tx.onLinks)
    (firUnity (Config.interpTap r (m % (1024 / rateS r))) win).map (fun v => openRound v (2 ^ 8)))

/-- The composite of interpolated streams, at 16-bit scale (R138, R139); its rounding is log 143. -/
def State.compose (s : State) (p : Nat) (xs : List (Nat × List Cplx)) : List Cplx :=
  let z := s.fld (F.TXP_STATUS_ZONE p)
  let c := s.centreWord p
  (List.range 1024).map (fun m =>
    (xs.foldl (fun a (k, us) =>
      a.add (mixUp z (s.txPhase p k) (mixPhase z (s.txWord p k) (s.txAcc p k) c (s.centreAcc p) m) (us.getD m Cplx.zero)))
      Cplx.zero).map (fun v => openWave v 112))

/-- The composite times 10^(-BACKOFF/2000), rounded convergently (Table 05-4) and held to 16 bits (R208, log 143). -/
def powerStage (backoff : Nat) (xs : List Cplx) : List Cplx :=
  xs.map (fun v => (sat16 (v.map (fun a => scaleTen 1 a (-(backoff : Int)) 2000))).1)

/-! ### Qualifiers at the actuator's input (R143) -/

/-- Is the air tick the chain works on (the next one) VOID for a path? A member's are while R346, R348 or R358 holds them. -/
def State.airVoid (s : State) (p : Nat) : Bool :=
  let x := tickAdd s.tickno 1
  s.dlHeld || s.tx.voidAir.contains (p, x) || s.txReady p != .ready ||
  (match s.settledTick p with
    | some t => decide (s.elapsed + 1 < t)
    | none => false)

/-- The qualifiers of a stream's samples of the chain tick, with those still settling (Table 05-3). -/
def State.streamQuals (s : State) (st : Nat) : List Qual :=
  let n := sget (fun _ => 0) s.tx.settle st
  let xs := sget (fun _ => []) s.tx.onLinks st
  (xs.zip (List.range xs.length)).map (fun (x, j) => x.q.worst (if j < n then Qual.settling else Qual.valid))

/-- The qualifier that a stream gives composite sample `m`: its newest stream sample decides VOID, and those the interpolator
reaches back to count as R116 says. -/
def State.streamQual (s : State) (p k m : Nat) (old new : List Qual) : Qual :=
  let r := s.fld (F.TXP_STR_CFG_RATE p k)
  let j := m * rateS r / 1024
  let seen := windowAt (Config.interpSpan r) j old new
  combineQual (new.getD j .void) (seen.drop 1)

/-! ### Yarrow (R144-R147) -/

/-- A stream in Yarrow for one air tick: its index, EVM_LIMIT, energy over the measured ticks, kernel (offset from the composite's
centre and bandwidth), its cancellation so far, and whether it still takes a share. -/
structure CfrShare where
  stream : Nat
  limit  : Nat
  energy : Nat
  offset : Int
  bw     : Nat
  taken  : List Cplx
  live   : Bool
deriving DecidableEq, Repr

/-- EVM_LIMIT_k times the square root of P_k, to a common scale (R144). -/
def CfrShare.weight (h : CfrShare) : Nat := if h.live then h.limit * isqrtW 56 (h.energy * 2 ^ 32) else 0

/-- Cancellation energy in the tick. -/
def CfrShare.spent (h : CfrShare) : Nat := energyOf h.taken

/-- The squared EVM cost over the squared limit, as a comparison: above it, or at it (R146); `n` is the number of ticks that
`energy` spans. -/
def CfrShare.above (h : CfrShare) (n : Nat) : Bool := decide (h.limit ^ 2 * h.energy < h.spent * 10 ^ 8 * n)
def CfrShare.reached (h : CfrShare) (n : Nat) : Bool := decide (h.limit ^ 2 * h.energy ≤ h.spent * 10 ^ 8 * n)

/-- The EVM cost of the tick [0.01 %] (R146). -/
def CfrShare.cost (h : CfrShare) (n : Nat) : Nat :=
  if h.energy = 0 then 0
  else
    let a := h.spent * 10 ^ 8 * n
    let r := isqrtW 24 (a / h.energy)
    if r ^ 2 * h.energy = a then r else r + b2n (Config.roundUp a h.energy)

/-- The stream's part of a cancellation pulse at peak `i` of value `v`, magnitude `mag` and threshold `thr` (both in 2^-32):
its share of the excess over the threshold, shaped by its kernel. -/
def CfrShare.pulse (h : CfrShare) (total mag thr i : Nat) (v : Cplx) : List Cplx :=
  (List.range 1024).map (fun (m : Nat) =>
    let g := ofPair (Config.cfrKernel h.offset h.bw ((m : Int) - i))
    ((v.mul g).scale (((mag - thr) * h.weight : Nat) : Int)).map (fun c => openRound c (mag * total * 2 ^ 16)))

/-- A share takes its part of a pulse; where that would exceed its limit it takes none and is out for the rest of the tick, and
so it is once its cost has reached the limit (R146, log 145). -/
def CfrShare.take (h : CfrShare) (n : Nat) (part : List Cplx) : CfrShare × List Cplx :=
  let base := fit part.length h.taken
  let h' : CfrShare := { h with taken := (base.zip part).map (fun (a, b) => a.add b) }
  if !h.live then (h, [])
  else if h'.above n then ({ h with live := false }, [])
  else ({ h' with live := !h'.reached n }, part)

/-- What Yarrow works on in one iteration: the samples, the shares, and whether a peak stays above the threshold for want of a share
(R146). -/
structure CfrWork where
  xs     : List Cplx
  shares : List CfrShare
  missed : Bool
deriving DecidableEq, Repr

/-- The peaks above the threshold: samples over it that no neighbour exceeds (log 145). `lim` is the squared threshold times
`scale`. -/
def cfrPeaks (lim scale : Nat) (xs : List Cplx) : List Nat :=
  let ns := xs.map Cplx.norm
  (List.range xs.length).filter (fun i =>
    let a := ns.getD i 0
    decide (lim < a * scale) && (i == 0 || decide (ns.getD (i - 1) 0 < a)) && decide (ns.getD (i + 1) 0 ≤ a))

/-- One peak: every share takes its part of the pulse, which is subtracted. -/
def CfrWork.cancel (w : CfrWork) (n thr i : Nat) : CfrWork :=
  let v := w.xs.getD i Cplx.zero
  let mag := isqrtW 50 (v.norm * 2 ^ 64)
  let total : Nat := w.shares.foldl (fun (a : Nat) (h : CfrShare) => a + h.weight) 0
  if total = 0 then { w with missed := true }
  else
    let rs := w.shares.map (fun h => h.take n (h.pulse total mag thr i v))
    { w with
      xs := rs.foldl (fun (xs : List Cplx) r =>
        if r.2.isEmpty then xs else (xs.zip r.2).map (fun (a, b) => a.add (b.scale (-1)))) w.xs
      shares := rs.map Prod.fst }

/-- Iterations of Yarrow; peaks that the last one leaves with no share live are a miss (R146). The squared threshold is the mean power times 10^(TARGET/100) (R144): `sum` is the energy of `n`
ticks. -/
def CfrWork.iterate (w : CfrWork) (n sum target : Nat) : Nat → CfrWork
  | 0 => if (w.shares.foldl (fun (a : Nat) (h : CfrShare) => a + h.weight) 0) = 0 ∧
      !(cfrPeaks (floorPower 80 1 sum target 100) (1024 * n) w.xs).isEmpty then { w with missed := true } else w
  | k + 1 =>
    let lim := floorPower 80 1 sum target 100
    let thr := isqrtW 56 (lim * 2 ^ 64 / (1024 * n))
    ((cfrPeaks lim (1024 * n) w.xs).foldl (fun w i => w.cancel n thr i) w).iterate n sum target k

/-- The shares of a path's enabled streams; EVM_LIMIT 0 takes none (R144). -/
def State.cfrShares (s : State) (p : Nat) (y : CfrPath) : List CfrShare :=
  ((List.range 4).filter (fun k => s.txEn p k && decide (0 < s.fld (F.TXP_STR_SHAPE_EVM_LIMIT p k)))).map (fun k =>
    let d := (s.txWord p k : Int) - s.centreWord p
    ⟨k, s.fld (F.TXP_STR_SHAPE_EVM_LIMIT p k), y.ticks.foldl (fun a t => a + t.2.getD k 0) 0,
      if s.fld (F.TXP_STATUS_ZONE p) = 2 then -d else d, s.fld (F.TXP_STR_CFG_BW p k), [], true⟩)

/-- Yarrow on the composite of a DL air tick: it passes while it is off or warming up (R145, R147). -/
def State.yarrow (s : State) (p : Nat) (xs : List Cplx) : CfrWork :=
  let y := s.cfrPath p
  let it := s.fld (F.TXP_CFR_CFG_ITER p)
  let w : CfrWork := ⟨xs, s.cfrShares p y, false⟩
  if it = 0 ∨ sget (fun _ => 0) s.tx.warmUp p ≠ 0 ∨ y.ticks.isEmpty then w
  else
    let w := w.iterate y.ticks.length (y.ticks.foldl (fun a t => a + t.1) 0) (s.fld (F.TXP_CFR_CFG_TARGET p)) it
    { w with xs := w.xs.map (fun v => (sat16 v).1) }

/-! ### Measurements of the window (R148) -/

/-- A power ratio in its place among the highest, of which 394 are kept: 0.01 % of a window's samples, and one. -/
def insertTop (l : List (Nat × Nat)) (a : Nat × Nat) : List (Nat × Nat) :=
  (l.takeWhile (fun b => decide (a.1 * b.2 ≤ b.1 * a.2)) ++ a :: l.dropWhile (fun b => decide (a.1 * b.2 ≤ b.1 * a.2))).take 394

/-- A DL air tick joins the window: energies of the tick, costs weighed with the stream's power in the tick, and the outputs
over the mean power. -/
def CfrPath.note (y : CfrPath) (energy : Nat) (streams : List Nat) (w : CfrWork) : CfrPath :=
  let n := y.ticks.length
  let sum := y.ticks.foldl (fun a t => a + t.1) 0
  { y with
    ticks := ((energy, streams) :: y.ticks).take 32
    dl := y.dl + 1
    costs := (List.range 4).map (fun k =>
      let (a, b, m) := y.costs.getD k (0, 0, 0)
      let c := match w.shares.find? (fun h => h.stream == k) with
        | some h => h.cost n
        | none => 0
      (a + c * streams.getD k 0, b + streams.getD k 0, max m c))
    top := if sum = 0 then y.top else w.xs.foldl (fun l v => insertTop l (v.norm * 1024 * n, sum)) y.top }

/-- The window's report, and a new window. -/
def CfrPath.close (y : CfrPath) (misses : Nat) : CfrPath :=
  let papr : Int := match y.top[1024 * y.dl / 10000]? with
    | some (a, b) => if a = 0 then 0 else openLog 1000 a b
    | none => 0
  { y with
    dl := 0, costs := [], top := []
    report := some ⟨y.costs.map (fun (a, b, m) => (if b = 0 then 0 else (openRound a b).toNat, m)), papr, misses⟩ }

/-- The window of a path in the chain tick: windows start at air ticks whose FRAME_TICK divides by 3,840. -/
def State.cfrWindow (s : State) (p : Nat) : State :=
  if s.frameTickIn 1 % 3840 = 3839 then
    let s := s.putCfr p ((s.cfrPath p).close (sget (fun _ => 0) s.tx.misses p))
    { s with tx := { s.tx with misses := sput (fun _ => 0) s.tx.misses p 0 } }
  else s

/-! ### A chain tick up to the actuator -/

/-- A path delivers nothing to its DAC. -/
def State.chainSilent (s : State) (p : Nat) : Bool :=
  !s.txUsed p || s.txRetired p || s.pwr.quietAt || (s.offAir && !s.recd.replay.any (·.full))

/-- The actuator's input of a path for the next air tick: composite, power step, Yarrow and qualifiers; in a DL air tick Yarrow
measures. -/
def State.chainInput (s : State) (p : Nat) : State :=
  let put := fun (s : State) (xs : List RxSample) =>
    { s with dpd := { s.dpd with inputs := sput (fun _ => []) s.dpd.inputs p xs } }
  if s.chainSilent p then put s (List.replicate 1024 RxSample.void)
  else
    let ks := (List.range 4).filter (s.txEn p)
    let us : List (Nat × List Cplx) := ks.map (fun k => (k, s.interpolated p k))
    let bo := s.fld (F.TXP_ENTRY_LO_BACKOFF p)
    let void := s.airVoid p
    let raw : List Cplx := if void then List.replicate 1024 Cplx.zero else s.compose p us
    let comp := powerStage bo raw
    let s := { s with dpd := { s.dpd with meters := sput (fun _ => 0) s.dpd.meters p (energyOf raw) } }
    let w : CfrWork := if s.dlIn p 1 then s.yarrow p comp else ⟨comp, [], false⟩
    let qs := ks.map (fun k => (k, (sget (fun _ => []) s.tx.links (4 * p + k)).map (·.q), s.streamQuals (4 * p + k)))
    let out := (w.xs.zip (List.range 1024)).map (fun (v, m) =>
      mkSample v (if void then .void else qs.foldl (fun q (k, a, b) => q.worst (s.streamQual p k m a b)) .valid))
    let s := if s.dlIn p 1 then
        let streams := (List.range 4).map (fun k => if void then 0 else match us.find? (fun u => u.1 == k) with
          | some u => floorPower 60 1 (energyOf u.2 / 2 ^ 32) (-(bo : Int)) 1000
          | none => 0)
        let s := s.putCfr p ((s.cfrPath p).note (energyOf comp) streams w)
        if w.missed then { s with tx := { s.tx with
          misses := sput (fun _ => 0) s.tx.misses p (sget (fun _ => 0) s.tx.misses p + 1) } } else s
      else s
    let links := ks.foldl (fun m k =>
      sput (fun _ => []) m (4 * p + k) (((sget (fun _ => []) s.tx.onLinks (4 * p + k)).zip (s.streamQuals (4 * p + k))).map
        (fun (x, q) => ⟨x.v, q⟩))) s.tx.links
    put { s with tx := { s.tx with links := links } } out

end Sys2Proof.Machine
end

