-- ==== Sys2Proof/Machine/Capture.lean ====
section
/-!
DEFINITION. Sys2Proof/Machine/Capture.lean: what an observation capture holds and measures: its form in cluster memory (Table
07-4), meter figures, the 240 kHz spectrum, the mask segments of R154 to R156, and the powers of the acceptance guard.
-/
namespace Sys2Proof.Machine

/-! ### Powers and levels -/

/-- A level in 0.01 dB; the logarithm of 0 is not stated (log 148). -/
def level (a b : Nat) : Int := if a = 0 ∨ b = 0 then Config.silentPower else openLog 1000 a b

/-- Peak to mean of samples [0.01 dB]. -/
def paprOf (xs : List Cplx) : Int := level ((xs.foldl (fun m v => max m v.norm) 0) * xs.length) (energyOf xs)

/-- The header of Table 07-4. -/
def captureHeader (c : Capture) : List Byte :=
  leBytes 1 c.path ++ leBytes 1 c.slot ++ leBytes 1 c.step ++ leBytes 1 c.entry ++ leBytes 4 c.airTick ++
  leBytes 2 (encode2c 16 c.power) ++ leBytes 2 (encode2c 16 c.observed) ++ leBytes 2 (encode2c 16 c.papr) ++
  leBytes 1 c.atten ++ leBytes 1 (b2n c.usable + 2 * b2n c.weak + 4 * b2n c.maskOnly) ++ leBytes 4 c.gen ++ leBytes 44 0

/-- A stored sample: I in bits 15:0, Q in bits 31:16 (R217). -/
def sampleWord (v : Cplx) : Nat := encode2c 16 v.re + 2 ^ 16 * encode2c 16 v.im

/-- A capture as it reaches cluster memory: the header, the actuator input samples, the observed samples (R217). -/
def captureBytes (c : Capture) : List Byte :=
  captureHeader c ++ (c.inputs ++ c.samples).flatMap (fun v => leBytes 4 (sampleWord v))

/-! ### The spectrum of a capture: 16,384 bins of 240 kHz about the composite's centre -/

/-- Place of bin `k` [MHz * 125 * 2^49]; the edges of a capture are in the same units. -/
def binAt (centre k : Nat) : Int :=
  125 * ((2 * centre * 24576 : Nat) : Int) + 30 * (if k < 8192 then (k : Int) else (k : Int) - 16384) * ((2 ^ 49 : Nat) : Int)

/-- A bin lies in an interval: its place does (log 148). -/
def binIn (centre k : Nat) (lo hi : Int) : Bool := decide (lo ≤ binAt centre k) && decide (binAt centre k ≤ hi)

/-- Sum of the bins of a spectrum that satisfy a test. -/
def binSum (f : Nat → Bool) (ps : List Nat) : Nat :=
  (ps.zip (List.range ps.length)).foldl (fun a (p, k) => if f k then a + p else a) 0

/-- 1,800 MHz about the centre. -/
def checkedLo (centre : Nat) : Int := binAt centre 0 - ((125 * 1800 * 2 ^ 49 : Nat) : Int)
def checkedHi (centre : Nat) : Int := binAt centre 0 + ((125 * 1800 * 2 ^ 49 : Nat) : Int)

/-- P_occ and P_adj of a signal over a capture's carriers (the acceptance guard's figures). -/
def occupied (c : Capture) (ps : List Nat) : Nat :=
  binSum (fun k => c.edges.any (fun e => binIn c.centre k e.2.1 e.2.2)) ps

def adjacent (c : Capture) (ps : List Nat) : Nat :=
  match c.edges with
  | [] => 0
  | e :: r =>
    let lo := r.foldl (fun m x => min m x.2.1) e.2.1
    let hi := r.foldl (fun m x => max m x.2.2) e.2.2
    let w := hi - lo
    binSum (fun k => !binIn c.centre k lo hi && binIn c.centre k (lo - w) (hi + w) &&
      binIn c.centre k (checkedLo c.centre) (checkedHi c.centre)) ps

/-- What the guard and the confirmation measure of a signal over a capture. -/
def measureOf (c : Capture) (ys : List Cplx) : Measure :=
  let ps := binPowers 14 ys
  ⟨adjacent c ps, occupied c ps, energyOf ys, energyOf c.inputs⟩

/-- ACF [0.1 dB] and GAIN [0.01 dB] as the registers show them. -/
def Measure.acf (m : Measure) : Int := if m.adj = 0 ∨ m.occ = 0 then Config.silentPower else openLog 100 m.adj m.occ
def Measure.gain (m : Measure) : Int := level m.power m.input

/-- |10 log10 (a / b)| <= 0.50 dB. -/
def withinHalf (a b : Nat) : Bool := decide (a ^ 20 ≤ 10 * b ^ 20) && decide (b ^ 20 ≤ 10 * a ^ 20)

/-- The ACF of one signal is at most another's plus a margin [0.1 dB]. -/
def acfWithin (m ref : Measure) (margin : Nat) : Bool :=
  decide ((m.adj * ref.occ) ^ 100 ≤ (ref.adj * m.occ) ^ 100 * 10 ^ margin)

/-! ### The mask (R154, R155) -/

/-- A segment's extent about a carrier: outward from its edge, from START [kHz] to the next segment's, and for segment 31 to the end
of the checked range. -/
def segmentOf (c : Capture) (e : Nat × Int × Int) (upper : Bool) (seg start next : Nat) : Int × Int :=
  let off := fun (khz : Nat) => ((khz * 2 ^ 46 : Nat) : Int)
  if upper then (e.2.2 + off start, if seg = 31 then checkedHi c.centre else e.2.2 + off next)
  else (if seg = 31 then checkedLo c.centre else e.2.1 - off next, e.2.1 - off start)

/-- The largest power of 5 consecutive bins of the capture that lie in an interval and in no other carrier's occupied band: `none`
where there are none. -/
def densest (c : Capture) (own : Nat) (ps : List Nat) (lo hi : Int) : Option Nat :=
  let ok := fun (k : Nat) => binIn c.centre k lo hi && binIn c.centre k (checkedLo c.centre) (checkedHi c.centre) &&
    c.edges.all (fun e => e.1 == own || !binIn c.centre k e.2.1 e.2.2)
  let ks := (List.range 16384).map (fun i => (i + 8192) % 16384)
  let run := ks.foldl (fun (a : List Nat × Option Nat) k =>
    if ok k then
      let w := (ps.getD k 0 :: a.1).take 5
      let sum := w.foldl (· + ·) 0
      (w, if w.length = 5 then some (max sum (a.2.getD 0)) else a.2)
    else ([], a.2)) ([], none)
  run.2

/-- The excess of a segment over its limit [0.1 dB], where the power of 5 bins scaled by 1/1.2 to 1 MHz exceeds the carrier's power
plus LIMIT. -/
def maskExcess (five carrier : Nat) (limit : Int) : Option Int :=
  if carrier = 0 ∨ five = 0 ∨ belowLog 100 (-limit) (12 * carrier) (10 * five) then none
  else some (openLog 100 (10 * five) (12 * carrier) - limit)

end Sys2Proof.Machine
end

