-- ==== Sys2Proof/Machine/Dpd.lean ====
section
/-!
DEFINITION. Sys2Proof/Machine/Dpd.lean: the actuator (R208-R211), coefficient sets and the cap (R212-R214), observation
receivers (R215-R221), estimation and the acceptance guard (R223-R226), adaptation states (Table 07-8), the DPD commands,
and the transmit chain of one tick.
-/
namespace Sys2Proof.Machine

/-! ### The actuator -/

/-- A term descriptor's fields (Table 07-2). -/
def termType (d : Nat) : Nat := bitsAt d 28 4
def termK (d : Nat) : Nat := bitsAt d 24 4
def termM (d : Nat) : Nat := bitsAt d 20 4
def termL (d : Nat) : Int := signed 4 (bitsAt d 12 4)
def termSrc (d : Nat) : Nat := bitsAt d 0 4

/-- The default model: K 1, 3, 5, 7, 9 with M 0 to 3, by K then M (R209). -/
def defaultModel : List Nat := [1, 3, 5, 7, 9].flatMap (fun k => (List.range 4).map (fun m => k * 2 ^ 24 + m * 2 ^ 20))

def State.model (s : State) (p : Nat) : List Nat :=
  match sget (fun _ => []) s.dpd.models p with
  | [] => defaultModel
  | m => m

/-- A descriptor is legal for path `p` (R208, R209, Table 07-1). -/
def termOk (p d : Nat) : Bool :=
  let k := termK d
  let m := termM d
  let l := termL d
  bitsAt d 16 4 == 0 && bitsAt d 4 8 == 0 && decide (m ≤ 11 ∧ 1 ≤ k ∧ k ≤ 9) &&
  match termType d with
  | 0 => decide (l = 0 ∧ termSrc d = 0)
  | 1 => decide (2 ≤ k ∧ l ≠ 0 ∧ -3 ≤ l ∧ l ≤ 3 ∧ 0 ≤ (m : Int) + l ∧ (m : Int) + l ≤ 11 ∧ termSrc d = 0)
  | 2 => decide ((k = 1 ∨ k = 3) ∧ l = 0 ∧ 16 * (p / 16) + termSrc d ≠ p)
  | _ => false

/-- A model is legal (R209). -/
def modelOk (p : Nat) (ts : List Nat) : Bool :=
  decide (1 ≤ ts.length ∧ ts.length ≤ 96) && ts.headD 0 == 2 ^ 24 && ts.all (termOk p) && decide (ts.eraseDups = ts) &&
  decide ((ts.filter (fun d => termType d == 2)).length ≤ 8)

/-- The square root of a number below 2^48, rounded down. -/
def isqrt (n : Nat) : Nat := isqrtW 24 n

/-- The envelope to 17 fractional bits, limited to 1 - 2^-17 (R208). No tie arises: 4 * 64 * norm is never an odd square's
neighbour by a quarter. -/
def envelope (x : Cplx) : Nat := min ((isqrt (256 * x.norm) + 1) / 2) (2 ^ 17 - 1)

/-- `r^n` with 17 fractional bits, rounded after each multiplication (R210). -/
def powQ17 (r n : Nat) : Int :=
  match n with
  | 0 => (2 ^ 17 : Nat)
  | 1 => r
  | k + 1 => roundEven (powQ17 r k * r) 17

/-- One basis component with 16 fractional bits from newest-first inputs of its own and its source path (R208, R210). -/
def basis (own src : List Cplx) (d : Nat) : Cplx :=
  let m := termM d
  let xs := if termType d = 2 then src else own
  let u := xs.getD m Cplx.zero
  let e := if termType d = 1 then xs.getD ((m : Int) + termL d).toNat Cplx.zero else u
  let w := powQ17 (envelope e) (termK d - 1)
  u.map (fun v => roundEven (v * w) 15)

/-- The actuator output as a DAC code, and whether it saturated (R210). -/
def actuate (terms : List Nat) (coefs : List Cplx) (own : List Cplx) (srcs : Nat → List Cplx) : Cplx × Bool :=
  let acc := (terms.zip coefs).foldl (fun a (d, c) => a.add (c.mul (basis own (srcs (termSrc d)) d))) Cplx.zero
  let a := saturate 14 (roundEven acc.re 17)
  let b := saturate 14 (roundEven acc.im 17)
  (⟨a.1, b.1⟩, a.2 || b.2)

/-- The identity set of `n` terms. -/
def identitySet (n : Nat) : List Cplx := ⟨16384, 0⟩ :: List.replicate (n - 1) Cplx.zero

def State.coefSet (s : State) (p slot : Nat) : CoefSet := sget (fun _ => CoefSet.empty) s.dpd.sets (80 * p + slot)
def State.slotInForce (s : State) (p : Nat) : Nat := s.fld (F.DPD_P_STATUS_SLOT p)

/-- The coefficients of the set in force. -/
def State.setInForce (s : State) (p : Nat) : List Cplx :=
  match s.coefSet p (s.slotInForce p) with
  | ⟨.empty, _, _⟩ => identitySet (s.model p).length
  | x => x.coefs

/-! ### The transmit chain of one tick (R133-R143) -/

/-- DAC codes of a path for an air tick: the final interpolator, 25/4, and the mixer at the composite's centre, from the actuator's
outputs of the chain tick before and of this one (R132, R138, R139); an actuator output of 8,192 reaches full scale (R210). -/
def dacCodes (zone word acc : Nat) (prev cur : List Cplx) : List Int :=
  (List.range 6400).map (fun i =>
    let u := firUnity (Config.upTap (4 * i % 25)) (windowAt Config.upSpan (4 * i / 25) prev cur)
    (saturate 14 (openWave (u.mul (cis 48 ((acc + i * ncoWord word zone) % 2 ^ 48))).re 120)).1)

/-- The qualifiers of the inputs that a model's terms take an output from: its own path's and its source paths', newest first (R116,
R208). -/
def termQuals (terms : List Nat) (own : List RxSample) (src : Nat → List RxSample) : List Qual :=
  terms.flatMap (fun d =>
    let xs := if termType d = 2 then src (termSrc d) else own
    (termM d :: (if termType d = 1 then [((termM d : Int) + termL d).toNat] else [])).filterMap (fun m => (xs[m]?).map (·.q)))

/-- The chain tick of one path: its actuator output, its DAC codes and counters. -/
def State.chainPath (s : State) (p : Nat) : State :=
  let dl := s.dlIn p 1
  let inp := sget (fun _ => []) s.dpd.inputs p
  let die := 16 * (p / 16)
  let own := fun (q : Nat) => sget (fun _ => []) s.dpd.past q
  let ahead : Nat → Nat → List RxSample := fun q i => ((sget (fun _ => []) s.dpd.inputs q).take (i + 1)).reverse ++ own q
  let terms := s.model p
  let cs := s.setInForce p
  let outs : List (RxSample × Bool) := (List.range 1024).map (fun i =>
    let srcs : Nat → List RxSample := fun src =>
      if s.txUsed (die + src) && !s.txRetired (die + src) then ahead (die + src) i else []
    let q : Qual := combineQual (inp.getD i RxSample.void).q (termQuals terms (ahead p i) srcs)
    let o := actuate terms cs ((ahead p i).map RxSample.v) (fun src => (srcs src).map RxSample.v)
    if q = Qual.void ∨ dl = false then (RxSample.void, false) else (mkSample o.1 (markClipped o.2 q), o.2))
  let cur := outs.map (fun o => o.1.v)
  let silent := !dl || inp.all (fun x => x.q == .void)
  let dac := if silent then List.replicate 6400 0
    else dacCodes (s.fld (F.TXP_STATUS_ZONE p)) (s.centreWord p) (s.centreAcc p) (sget (fun _ => []) s.tx.lastAir p) cur
  let s : State := { s with tx := { s.tx with
    air := sput (fun _ => []) s.tx.air p (outs.map Prod.fst)
    lastAir := sput (fun _ => []) s.tx.lastAir p cur
    dac := sput (fun _ => []) s.tx.dac p dac } }
  if dl ∧ s.txUsed p then
    let s := s.addFld (F.TXP_DAC_SAT_COUNT p) ((outs.filter Prod.snd).length)
    let s := s.addFld (F.TXP_QUAL_SETTLING_COUNT p) (countQual .settling inp)
    let s := s.addFld (F.TXP_QUAL_VOID_COUNT p) (countQual .void inp)
    let w := sget (fun _ => 0) s.tx.warmUp p
    { s with tx := { s.tx with warmUp := sput (fun _ => 0) s.tx.warmUp p (w - 1) } }
  else s

/-- The phase accumulators of a path's transmit NCOs, and of its composite's centre, over one tick (R99, R100, R139). -/
def State.txNco (s : State) (p : Nat) : State :=
  let z := s.fld (F.TXP_STATUS_ZONE p)
  let f := fun (m : List (Nat × Nat)) (key word : Nat) => sput (fun _ => 0) m key (ncoStep (sget (fun _ => 0) m key) word z)
  let m := ((List.range 4).filter (s.txEn p)).foldl (fun m k => f m (256 + 4 * p + k) (s.txWord p k)) s.rx.nco
  { s with rx := { s.rx with nco := f m (512 + p) (s.centreWord p) } }

/-- The shaping engines of the tick that closes: a tick of stream samples from the beamformer, filtered (R140). -/
def State.shapeStream (s : State) (overrun : List Nat) (st : Nat) : State :=
  let p := st / 4
  let k := st % 4
  if s.txEn p k then
    let n := rateS (s.fld (F.TXP_STR_CFG_RATE p k))
    let q := sget (fun _ => []) s.bf.txQueue st
    let xs := (fit n q).map (fun v => (⟨v, .valid⟩ : RxSample))
    let cs := s.txCoefs st
    let lost := overrun.contains (p / 4)
    let (ys, h, sat) := firRun cs (s.sfld (F.TXP_STR_SHAPE_OUT_SHIFT p k)) (sget (fun _ => []) s.tx.hist st) xs
    let ys := if lost then List.replicate n RxSample.void else ys
    let h := if lost then flushed cs.length else h
    let s := { s with
      bf := { s.bf with txQueue := sput (fun _ => []) s.bf.txQueue st (q.drop n) }
      tx := { s.tx with
        onLinks := sput (fun _ => []) s.tx.onLinks st ys
        hist := sput (fun _ => []) s.tx.hist st h } }
    s.addFld (F.QFE_TX_SAT_COUNT (p / 4)) (if lost then 0 else sat)
  else s

/-- Transmit side of a tick that closes: `over6` are quads whose shaping overran, `crc` dies whose core-to-converter CRC
failed, which makes the air tick of the open chain tick VOID (R24, R143). -/
def State.txTick (s : State) (over6 crc : List Nat) : State :=
  let x := tickAdd s.tickno 1
  let s := (List.range 64).foldl State.countNotReady s
  let s := crc.foldl (fun s d => (List.range 16).foldl (fun s i => s.voidAirTick (16 * d + i) x) s) s
  let s := { s with dpd := { s.dpd with inputs := [] }, tx := { s.tx with air := [], dac := [] } }
  let s := ((List.range 64).filter s.txUsed).foldl State.chainInput s
  let s := ((List.range 64).filter (fun p => s.txUsed p || (s.cfrPath p).dl != 0)).foldl State.cfrWindow s
  let s := ((List.range 64).filter s.txUsed).foldl (fun s p => (s.chainPath p).txNco p) s
  let s := { s with dpd := { s.dpd with past := (List.range 64).foldl (fun m p =>
    sput (fun _ => []) m p ((sget (fun _ => []) s.dpd.inputs p).reverse.take 11)) [] } }
  let s := s.settleTick x
  let s := (List.range 256).foldl (fun s st => s.shapeStream over6 st) s
  let s := (over6.flatMap quadPaths).foldl (fun s p => s.voidThenSettle p (tickAdd s.tickno 2)) s
  { s with tx := { s.tx with voidAir := s.tx.voidAir.filter (fun e => tickAfter e.2 s.tickno) } }

/-! ### Sets, slots and the cap (R212-R214) -/

/-- Adaptation states, in the code of DPD_Pp_STATUS.STATE. -/
inductive Adapt where
  | off | run | confirm | held | degraded | retired
deriving DecidableEq, Repr

def Adapt.code : Adapt → Nat
  | .off => 0 | .run => 1 | .confirm => 2 | .held => 3 | .degraded => 4 | .retired => 5

def Adapt.ofCode : Nat → Adapt
  | 0 => .off | 1 => .run | 2 => .confirm | 3 => .held | 4 => .degraded | _ => .retired

def State.adapt (s : State) (p : Nat) : Adapt := .ofCode (s.fld (F.DPD_P_STATUS_STATE p))

def State.dpdPath (s : State) (p : Nat) : DpdPath := sget (fun _ => DpdPath.init) s.dpd.paths p

/-- A path waits for an engine: it is in RUN with a usable capture newer than its last estimate, and is not being estimated
(R223). -/
def State.waitsEngine (s : State) (p : Nat) : Bool :=
  (s.dpdPath p).estCap.isSome && (s.dpdPath p).estimating.isNone && s.adapt p == .run

def State.refreshQueue (s : State) : State :=
  s.setFld F.DPD_QUEUE_DEPTH ((s.dpd.paths.filter (fun e => s.waitsEngine e.1)).length)

def State.setAdapt (s : State) (p : Nat) (x : Adapt) : State := (s.setFld (F.DPD_P_STATUS_STATE p) x.code).refreshQueue
def State.putDpd (s : State) (p : Nat) (d : DpdPath) : State :=
  { s with dpd := { s.dpd with paths := sput (fun _ => DpdPath.init) s.dpd.paths p d } }.refreshQueue

/-- Writes a coefficient set with the next generation. -/
def State.writeSet (s : State) (p slot : Nat) (st : SetState) (cs : List Cplx) : State :=
  { s with dpd := { s.dpd with
      gens := s.dpd.gens + 1
      sets := sput (fun _ => CoefSet.empty) s.dpd.sets (80 * p + slot) ⟨st, cs, (s.dpd.gens + 1) % 2 ^ 32⟩ } }

/-- Temperature band of a path: that of its converter die. -/
def State.bandOf (s : State) (p : Nat) : Nat := s.fld (F.HK_DOM_STAT_BAND (p / 16))

/-- DPD_Pp_STATUS.ACCEPTED: the slot in force holds an accepted set. -/
def State.refreshAccepted (s : State) (p : Nat) : State :=
  s.setFld (F.DPD_P_STATUS_ACCEPTED p) (b2n ((s.coefSet p (s.slotInForce p)).st == .accepted))

/-- The cap and the column as the set in force asks for (R213): CAPPED while the slot is not ACCEPTED, or while the cap of DEGRADED is
in force, which changes at the quiet boundary alone. The band in force is that of the slot in force (R151, R214). -/
def State.refreshCap (s : State) (p : Nat) : State :=
  let acc := (s.coefSet p (s.slotInForce p)).st == .accepted
  let capped := !acc || (s.dpdPath p).degraded
  let s := s.refreshAccepted p
  let s := (s.setFld (F.DPD_P_STATUS_CAPPED p) (b2n capped)).setFld (F.TXP_STATUS_CAPPED p) (b2n capped)
  let col := if capped then 5 else s.slotInForce p / 16
  if s.fld (F.TXP_POWER_STAT_COLUMN p) = col then s else (s.setFld (F.TXP_POWER_STAT_COLUMN p) col).refreshPower p

/-- An estimate or a waiting candidate is discarded as stale; the path goes back to RUN from the CONFIRM of a candidate that
was never committed (R214, R226). -/
def State.staleCandidate (s : State) (p : Nat) : State :=
  let d := s.dpdPath p
  let n := b2n d.pending.isSome
  let s := if n = 0 then s else s.addFld (F.DPD_P_SKIP_STALE p) n
  let s := if d.pending.isSome ∧ s.adapt p = .confirm then s.setAdapt p .run else s
  s.putDpd p { s.dpdPath p with pending := none }

def State.staleEstimate (s : State) (p : Nat) : State :=
  let d := s.dpdPath p
  let s := if d.estimating.isSome then s.addFld (F.DPD_P_SKIP_STALE p) 1 else s
  s.putDpd p { s.dpdPath p with estimating := none, estFrom := none }

/-- The slot in force changes (R214): an EMPTY target takes the set in force and its state; a candidate for another slot is
stale. -/
def State.switchSlot (s : State) (p slot : Nat) : State :=
  let old := s.slotInForce p
  if old = slot then s
  else
    let cur := s.coefSet p old
    let s := if (s.coefSet p slot).st = .empty ∧ cur.st ≠ .empty then s.writeSet p slot cur.st cur.coefs else s
    let s := s.setFld (F.DPD_P_STATUS_SLOT p) slot
    let s := match (s.dpdPath p).pending with
      | some k => if k.slot = slot then s else s.staleCandidate p
      | none => s
    s.refreshCap p

/-- The slot that the band and the active entry select (R212). -/
def State.wantedSlot (s : State) (p band : Nat) : Nat := 16 * band + (s.freqEntry (s.txEntry p)).dpdSet

/-- A band switch at the path's quiet boundary, and a due cap change (R151, R213). -/
def State.dpdQuiet (s : State) (p : Nat) : State :=
  let b := sget (fun _ => 0) s.tx.columnDue p
  let s := if b ≠ 0 ∧ s.quietNow p (b - 1) then
      let s := { s with tx := { s.tx with columnDue := sput (fun _ => 0) s.tx.columnDue p 0 } }
      (s.switchSlot p (s.wantedSlot p (s.bandOf p))).refreshCap p
    else s
  match (s.dpdPath p).capDue with
  | some t =>
    if s.quietNow p t then (s.putDpd p { s.dpdPath p with capDue := none, degraded := s.adapt p == .degraded }).refreshCap p else s
  | none => s

/-! ### Divergence (R225-R228) -/

/-- The commit tick of R226: not before E, with an air tick after it that is not DL; else the frame boundary of R151. -/
def State.quietCommit (s : State) (p e : Nat) : Nat :=
  let d := tickSub e s.tickno
  match firstWhere (fun i => !(s.dlIn p (i + 1))) 38400 d with
  | some i => tickAdd s.tickno i
  | none =>
    match firstWhere (fun i => s.frameTickIn (i + 1) == 0) 38401 (d + 38400) with
    | some i => tickAdd s.tickno i
    | none => e

/-- Arms a commit of the device for a path's predistortion (R226): 3,456 bits of converter-die content. -/
def State.armDpd (s : State) (p : Nat) (ch : Change) : State :=
  let bulk := [(p / 16, 3456)]
  let t := s.quietCommit p (s.earliest bulk)
  s.armCommit ⟨t, s.privi.nextSeq, .device, [.dpd p], [ch], bulk, [], []⟩

/-- A divergence with its reason (Tables 07-8, 07-9): `back` when the last good set is to be restored. -/
def State.diverge (s : State) (p reason : Nat) (back : Bool) : State :=
  let n := s.fld (F.DPD_P_STATUS_DIV_COUNT p) + 1
  let s := s.setFld (F.DPD_P_STATUS_DIV_COUNT p) (min n 3)
  let s := s.addFld (F.DPD_P_DIVERGE_COUNT p) 1
  let s := s.raise 0x6003 (p * 2 ^ 24 + min n 3 * 2 ^ 8 + reason) (srcTx p) sevWarning
  let s := if back then s.armDpd p (.revert p) else s
  if n < 3 then s.setAdapt p .run
  else
    let s := (s.setAdapt p .degraded).raiseFree 0x6004 (srcTx p) sevError
    s.putDpd p { s.dpdPath p with capDue := some s.elapsed }

/-! ### Observation receivers (Table 07-5) -/

/-- States of an observation receiver, in the code of OBS_STATUS.STATE. -/
inductive OxState where
  | idle | wait | capture | transfer | retired
deriving DecidableEq, Repr

def OxState.code : OxState → Nat
  | .idle => 0 | .wait => 1 | .capture => 2 | .transfer => 3 | .retired => 4

def OxState.ofCode : Nat → OxState
  | 0 => .idle | 1 => .wait | 2 => .capture | 3 => .transfer | _ => .retired

def State.ox (s : State) (j : Nat) : OxState := .ofCode (s.fld (F.OBS_STATUS_STATE j))
def State.setOx (s : State) (j : Nat) (x : OxState) : State := s.setFld (F.OBS_STATUS_STATE j) x.code

/-- The path an ox has selected. -/
def State.oxPath (s : State) (j : Nat) : Nat := 8 * j + s.fld (F.OBS_STATUS_SEL j)

/-- A selection is eligible (R218). -/
def State.oxEligible (s : State) (j sel : Nat) : Bool :=
  let p := 8 * j + sel
  !s.txRetired p && s.txUsed p && bitAt (s.fld F.FES_QUADS_QUADS) (p / 4) && !bitAt (s.fld (F.OBS_CFG_SKIP j)) sel &&
  !s.pinnedUnit (160 + j)

/-- The first air tick at or after `i` ticks on from which 16 are DL. -/
def State.captureStart (s : State) (p i : Nat) : Option Nat :=
  (firstWhere (fun i => (List.range 16).all (fun k => s.dlIn p (i + k))) 38400 i).map (fun i => tickAdd s.tickno i)

def State.oxCap (s : State) (j : Nat) : OxCap := sget (fun _ => OxCap.init) s.dpd.caps j
def State.putOxCap (s : State) (j : Nat) (x : OxCap) : State :=
  { s with dpd := { s.dpd with caps := sput (fun _ => OxCap.init) s.dpd.caps j x } }

/-- An ox waits for air tick `a`, with nothing taken. -/
def State.setCapAt (s : State) (j a : Nat) : State :=
  { s with dpd := { s.dpd with capAt := sput (fun _ => 0) s.dpd.capAt j a } }.putOxCap j OxCap.init

def State.capTick (s : State) (j : Nat) : Nat := sget (fun _ => 0) s.dpd.capAt j

/-- Attenuation of an ox for a selection. -/
def State.oxAtten (s : State) (j sel : Nat) : Nat :=
  let w := if sel < 4 then (s.reg (F.OBS_ATTEN_LO_S0 j).addr).toNat else (s.reg (F.OBS_ATTEN_HI_S7_S4 j).addr).toNat
  bitsAt w (8 * (sel % 4)) 5

/-- A capture starts: SWSEL takes the selection, and the attenuation is that of the selection from here on (R166, R215, R238). -/
def State.oxStart (s : State) (j : Nat) : State :=
  let sel := s.fld (F.OBS_STATUS_SEL j)
  let s := s.putOxCap j { s.oxCap j with atten := s.oxAtten j sel, was := sget (fun _ => 0) s.dpd.swsel j }
  { s with dpd := { s.dpd with swsel := sput (fun _ => 0) s.dpd.swsel j sel } }.setOx j .capture

/-- A buffer whose last bit has crossed is free from the boundary on, so the ox is IDLE there (Tables 07-5, 07-6). -/
def State.oxFree (s : State) (j : Nat) : State :=
  if s.ox j = .transfer ∧ s.dpd.transfer.any (fun x => x.ox == j && decide (43 ≤ x.sent)) then s.setOx j .idle else s

/-- An IDLE ox on a boundary takes the next eligible selection; in QUIET no captures are taken (R231). A waiting one starts its
capture on the boundary that opens its air tick, if its lead has not started it before (R218). -/
def State.oxBoundary (s : State) (j : Nat) : State :=
  let s := s.oxFree j
  if s.ox j = .wait ∧ s.capTick j = s.tickno then s.oxStart j
  else if s.ox j = .idle ∧ !s.pwr.quietAt then
    match (List.range 8).find? (fun i => s.oxEligible j ((s.fld (F.OBS_STATUS_SEL j) + 1 + i) % 8)) with
    | some i =>
      let sel := (s.fld (F.OBS_STATUS_SEL j) + 1 + i) % 8
      match s.captureStart (8 * j + sel) 2 with
      | some a => ((s.setFld (F.OBS_STATUS_SEL j) sel).setOx j .wait).setCapAt j a
      | none => s
    | none => s
  else s

/-- A capture is discarded and its turn lost (R219). -/
def State.oxDiscard (s : State) (j : Nat) (ovr : Bool) : State :=
  let s := (s.addFld (F.OBS_DISCARD_COUNT j) 1).addFld (F.OBS_CLIP_COUNT j) (b2n ovr)
  s.setOx j .idle

/-- The actuator inputs that the chain tick has made for air tick `tickno + 1` join the capture of an ox that covers it, with the power
meter (R217). -/
def State.oxInputs (s : State) (j : Nat) : State :=
  let p := s.oxPath j
  if (s.ox j = .wait ∨ s.ox j = .capture) ∧ tickSub (tickAdd s.tickno 1) (s.capTick j) < 16 then
    let x := s.oxCap j
    let xs := sget (fun _ => []) s.dpd.inputs p
    s.putOxCap j { x with
      inputs := x.inputs ++ fit 1024 (xs.map (·.v))
      energy := x.energy + sget (fun _ => 0) s.dpd.meters p
      spoilt := x.spoilt || xs.length != 1024 || xs.any (fun v => v.q != .valid) }
  else s

/-- An ox's observed samples of a tick: mixed with the composite's centre as R99 has it for the path's zone, resampled, and
rounded to 16 bits (R215, log 148); phase and history start from 0 with the capture (log 182). A converter whose codes the row does not bring gives zeros (log 141). -/
def State.oxSamples (s : State) (j : Nat) (codes : List Int) : State :=
  let p := s.oxPath j
  let x := s.oxCap j
  let z := s.fld (F.TXP_STATUS_ZONE p)
  let cur := mixDown z (s.centreWord p) 0 x.phase (codes.map (fun c => 16 * c))
  s.putOxCap j { x with
    phase := ncoStep x.phase (s.centreWord p) z
    mixed := cur
    samples := x.samples ++ (resample x.mixed cur).map (fun v => (sat16 (v.map (fun c => roundEven c 4))).1) }

/-- The capture that an ox's buffer holds as its last air tick closes, with what is in force then (R217-R220). USABLE and MASK_ONLY are
log 184. -/
def State.captureOf (s : State) (j : Nat) : Capture :=
  let p := s.oxPath j
  let x := s.oxCap j
  let observed := level (energyOf x.samples) (16384 * 2 ^ 28) + 100 * x.atten
  let papr := paprOf x.inputs
  let weak := decide (observed < 100 * signed 8 (s.fld F.DPD_CFG_MIN_POWER)) ||
    decide (papr < 10 * (s.fld F.DPD_CFG_MIN_PAPR : Int))
  let usable := !weak && (s.adapt p == .run || s.adapt p == .confirm)
  let ks := (List.range 4).filter (s.txEn p)
  ⟨p, s.slotInForce p, s.fld (F.TXP_POWER_STAT_STEP p), s.txEntry p, s.capTick j, level x.energy (16384 * 2 ^ 30), observed, papr,
    x.atten, usable, weak, !usable, (s.coefSet p (s.slotInForce p)).gen, s.sfld (F.TXP_ENTRY_HI_EXP_GAIN p), s.centreWord p,
    (ks.zip (s.txEdges p)).map (fun (k, e) => (k, 125 * e.1, 125 * e.2)), x.inputs, x.samples⟩

/-- An air tick of a capture as it closes: its discard conditions (R219), else its observed samples; the last one completes the
capture, header and all, before the boundary changes anything. -/
def State.oxTick (s : State) (ins : List ObsIn) (j : Nat) : State :=
  let p := s.oxPath j
  let i := ins.find? (fun i => i.ox == j)
  let d := tickSub s.tickno (s.capTick j)
  if s.ox j = .capture ∧ d < 16 then
    if i.any (·.clipped) then s.oxDiscard j true
    else if !(s.dlIn p 0) || !s.airReady p || (s.oxCap j).spoilt then s.oxDiscard j false
    else
      let s := s.oxSamples j ((i.map (·.codes)).getD (List.replicate 6400 0))
      if d = 15 then s.putOxCap j { s.oxCap j with final := some (s.captureOf j) } else s
  else s

/-- Commits that spoil a capture of path `p` (R219). -/
def captureSpoiled (old new : State) (p : Nat) : Bool :=
  old.fld (F.TXP_POWER_STAT_STEP p) != new.fld (F.TXP_POWER_STAT_STEP p) ||
  old.fld (F.TXP_POWER_STAT_COLUMN p) != new.fld (F.TXP_POWER_STAT_COLUMN p) ||
  old.slotInForce p != new.slotInForce p || old.txEntry p != new.txEntry p ||
  (List.range 4).any (fun k => old.reg (F.TXP_STR_CFG_EN p k).addr != new.reg (F.TXP_STR_CFG_EN p k).addr)

/-- Captures that a boundary's changes spoil; `old` is the state before it (R219). -/
def State.oxSpoiled (s old : State) : State :=
  (List.range 8).foldl (fun s j =>
    if s.ox j = .capture ∧ tickSub s.tickno (s.capTick j) < 16 ∧ captureSpoiled old s (s.oxPath j) then s.oxDiscard j false
    else s) s

/-- OBS_CAPTURE_START: the instant SW_LEAD fine steps before air tick a has come in the open tick, SWSEL takes the selection and the
capture begins (R166, Table 07-5). -/
def execObsCaptureStart (j : Fin 8) (s : State) : Host.Outcome State Fault Refusal :=
  .next (if s.ox j.val = .wait ∧ 32 * tickSub (s.capTick j.val) s.tickno ≤ s.fld F.FES_SW_SW_LEAD + 31 then s.oxStart j.val else s)

/-- A capture joins the transfers: where two of a die became ready in one tick, the lower ox goes first (R26, log 149). -/
def queueSend (l : List OxSend) (x : OxSend) : List OxSend :=
  let later := fun (y : OxSend) => y.ox / 2 == x.ox / 2 && y.ready == x.ready && y.sent == 0 && decide (x.ox < y.ox)
  l.filter (fun y => !later y) ++ x :: l.filter later

/-- OBS_CAPTURE_END: the buffer is full once air tick a + 15 has closed, and waits for the bulk share. The figures the row
shows are not read (log entry 171). -/
def execObsCaptureEnd (j : Fin 8) (_power _observed _papr : Int) (_ovr : Bool) (s : State) : Host.Outcome State Fault Refusal :=
  let j := j.val
  let d := tickSub s.tickno (s.capTick j)
  if s.ox j = .capture ∧ 16 ≤ d ∧ d < 2 ^ 31 then
    .next { s.setOx j .transfer with dpd := { s.dpd with transfer := queueSend s.dpd.transfer ⟨j, (s.oxCap j).final.getD (s.captureOf j), s.elapsed, 0⟩ } }
  else .next s

/-- A tick of each die's bulk share toward the core: the first transfer that is not complete has it; one takes 43 ticks (R26). -/
def State.bulkTick (s : State) : State :=
  (List.range 4).foldl (fun s d =>
    match s.dpd.transfer.find? (fun x => x.ox / 2 == d && decide (x.sent < 43)) with
    | none => s
    | some y => { s with dpd := { s.dpd with transfer := s.dpd.transfer.map (fun x =>
        if x.ox = y.ox ∧ x.sent < 43 then { x with sent := x.sent + 1 } else x) } }) s

/-- One violated segment (R156). -/
def State.maskViolation (s : State) (p k edge seg : Nat) (excess : Int) : State :=
  let v := p * 2 ^ 24 + k * 2 ^ 22 + edge * 2 ^ 21 + seg * 2 ^ 16 + min excess.toNat 0xFFFF
  let s := s.raise 0x4002 v (srcTx p) sevWarning
  let s := (s.addFld (F.TXP_MASK_VIOL_COUNT p) 1).setFld (F.TXP_MASK_LAST_VALUE p) v
  if s.flag (F.TXP_STR_SHAPE_BO_EN p k) ∧ sget (fun _ => 0) s.tx.backoffDue p = 0 then
    { s with tx := { s.tx with backoffDue := sput (fun _ => 0) s.tx.backoffDue p (s.elapsed + 1) } }
  else s

/-- By how much a capture's spectrum exceeds the limit of a segment beside a stream it saw, in 0.1 dB; none where the segment is empty
or unchecked, or the limit holds (R154, R155). -/
def State.segmentExcess (s : State) (c : Capture) (e : Nat × Int × Int) (ps : List Nat) (edge seg : Nat) : Option Int :=
  let word := fun (j : Nat) => sget (fun _ => 0) s.tx.masks (((c.path * 4 + e.1) * 2 + edge) * 64 + j)
  let lim := word (2 * seg + 1) % 2 ^ 16
  let (lo, hi) := segmentOf c e (edge == 1) seg (word (2 * seg)) (word (2 * seg + 2))
  if lim = 0x7FFF ∨ (seg < 31 ∧ word (2 * seg) = word (2 * seg + 2)) then none
  else
    let carrier := binSum (fun b => binIn c.centre b e.2.1 e.2.2) ps
    (densest c e.1 ps lo hi).bind (fun five => maskExcess five carrier (signed 16 lim))

/-- The mask check of a capture (R154-R156): its spectrum against the segments of each checked stream it saw. -/
def State.maskCheck (s : State) (c : Capture) : State :=
  let ps := binPowers 14 c.samples
  let checked := c.edges.filter (fun e => s.flag (F.TXP_STR_SHAPE_MASK_EN c.path e.1))
  (checked.flatMap (fun e => (List.range 64).map (fun i => (e, i / 32, i % 32)))).foldl (fun s x =>
    match s.segmentExcess c x.1 ps x.2.1 x.2.2 with
    | some d => s.maskViolation c.path x.1.1 x.2.1 x.2.2 d
    | none => s) s

/-- The measured-power check (R221); DEV takes a deviation that is reported (log 183). -/
def State.powerCheck (s : State) (c : Capture) : State :=
  let d := (c.observed - c.power) - c.expGain
  if 100 < d.natAbs then
    let s := s.raise 0x6001 (c.path * 2 ^ 24 + encode2c 16 d) (srcTx c.path) sevWarning
    (s.addFld (F.DPD_P_PWR_COUNT c.path) 1).setFld (F.DPD_P_PWR_DEV c.path) (encode2c 16 d)
  else s

/-- Confirmation by the first capture after the commit that is not WEAK (Table 07-8): its measured ACF and gain against the
estimating capture's (log 183 where both fail). -/
def State.confirmCheck (s : State) (c : Capture) : State :=
  let p := c.path
  match (s.dpdPath p).confirm with
  | some (ref, t) =>
    if s.adapt p = .confirm ∧ (s.dpdPath p).pending.isNone ∧ tickAfter c.airTick t then
      let m := measureOf c c.samples
      let s := s.setFld (F.DPD_P_ACF_MEAS p) (encode2c 16 m.acf)
      let s := s.setFld (F.DPD_P_GAIN_MEAS p) (encode2c 16 (level (m.power * ref.input) (m.input * ref.power)))
      let s := s.putDpd p { s.dpdPath p with confirm := none }
      if !withinHalf (m.power * ref.input) (m.input * ref.power) then s.diverge p 3 true
      else if !acfWithin m ref (s.fld F.DPD_CFG_DIV_MARGIN) then s.diverge p 4 true
      else
        let s := s.putDpd p { s.dpdPath p with lastGood := s.coefSet p (s.slotInForce p) }
        let s := (s.setFld (F.DPD_P_STATUS_DIV_COUNT p) 0).addFld (F.DPD_P_UPDATES_COUNT p) 1
        s.setAdapt p .run
    else s
  | none => s

/-- A capture in cluster memory serves its purposes (R220). -/
def State.useCapture (s : State) (c : Capture) : State :=
  let p := c.path
  let s := s.maskCheck c
  let s := if c.observed < 100 * signed 8 (s.fld F.DPD_CFG_MIN_POWER) then s else s.powerCheck c
  if c.weak then s.addFld (F.DPD_P_SKIP_WEAK p) 1
  else
    let d := s.dpdPath p
    let s := if s.adapt p = .run ∨ s.adapt p = .confirm then
        s.putDpd p { d with estCap := some c, waitSince := if d.estCap.isSome then d.waitSince else s.elapsed } else s
    s.confirmCheck c

/-- Estimation may start: the control system is NORMAL (R229). -/
def State.controlNormal (s : State) : Bool := s.fld F.MBX_STATUS_MODE == 0

/-- A free engine of DPD_ENGINES takes the path that has waited longest (R223); the path it has taken. -/
def State.estimationStart (s : State) (e : Nat) : Option Nat × State :=
  let busy := s.dpd.paths.any (fun x => x.2.estimating == some e)
  if bitAt (s.fld F.DPD_ENGINES_MASK) e ∧ !busy ∧ s.controlNormal ∧ !s.replaying ∧ s.fld (F.LE_STATUS_STATE e) = 2 then
    let cands := s.dpd.paths.filter (fun x => s.waitsEngine x.1)
    let best := cands.foldl (fun (b : Option (Nat × DpdPath)) x =>
      match b with
      | none => some x
      | some y => if x.2.waitSince < y.2.waitSince then some x else b) none
    match best with
    | some (p, d) =>
      (some p, s.putDpd p { d with estimating := some e, estFrom := d.estCap, estCap := none, estSlot := s.slotInForce p })
    | none => (none, s)
  else (none, s)

/-- An estimation ends without a candidate: the kernel failed or exceeded its declared worst case (R224, Table 07-9). -/
def State.failEstimation (s : State) (p : Nat) : State :=
  let s := s.putDpd p { s.dpdPath p with estimating := none, estFrom := none }
  if s.adapt p = .run then s.diverge p 5 false else s

/-- The guard on a candidate and its predicted observation of the estimating capture (R225, R226); where both tests fail the gain's reason is reported (log 183). -/
def State.guardCandidate (s : State) (p : Nat) (c : Capture) (coefs predicted : List Cplx) : State :=
  let m := measureOf c c.samples
  let y := measureOf c (fit 16384 predicted)
  let s := (s.setFld (F.DPD_P_ACF_PRED p) (encode2c 16 y.acf)).setFld (F.DPD_P_ACF_MEAS p) (encode2c 16 m.acf)
  let s := s.setFld (F.DPD_P_GAIN_PRED p) (encode2c 16 (level y.power m.power))
  if !withinHalf y.power m.power then s.diverge p 1 false
  else if !acfWithin y m 0 then s.diverge p 2 false
  else
    let s := s.putDpd p { s.dpdPath p with pending := some ⟨s.slotInForce p, coefs, m⟩ }
    let s := s.armDpd p (.candidate p)
    (s.setAdapt p .confirm).raiseFree 0x6002 (srcTx p) sevDebug

/-! ### Commits of predistortion -/

/-- One predistortion change on its boundary (R226, R227, R233, R234). -/
def State.dpdChange (s : State) (c : Change) : State :=
  match c with
  | .freeze p =>
    match s.adapt p with
    | .run => ((s.staleEstimate p).staleCandidate p).setAdapt p .held
    | .confirm =>
      let s := (s.staleEstimate p).staleCandidate p
      (s.putDpd p { s.dpdPath p with lastGood := s.coefSet p (s.slotInForce p), confirm := none }).setAdapt p .held
    | _ => s
  | .model p _ =>
    let d := s.dpdPath p
    let s := s.putDpd p { DpdPath.init with degraded := d.degraded, capDue := if d.degraded then some s.elapsed else none }
    (s.setAdapt p .off).refreshCap p
  | .coefs p slot _ _ =>
    let s := s.staleCandidate p
    let s := if s.adapt p = .confirm then s.setAdapt p .run else s
    if slot = s.slotInForce p then
      (s.putDpd p { s.dpdPath p with lastGood := s.coefSet p slot, confirm := none }).refreshCap p
    else s
  | .candidate p =>
    match (s.dpdPath p).pending with
    | some k =>
      if k.slot = s.slotInForce p then
        let s := s.writeSet p k.slot .accepted k.coefs
        (s.putDpd p { s.dpdPath p with pending := none, confirm := some (k.ref, s.tickno) }).refreshCap p
      else s.staleCandidate p
    | none => s
  | .revert p =>
    let g := (s.dpdPath p).lastGood
    let s := if g.st = .empty then
        { s with dpd := { s.dpd with sets := sput (fun _ => CoefSet.empty) s.dpd.sets (80 * p + s.slotInForce p) CoefSet.empty } }
      else s.writeSet p (s.slotInForce p) g.st g.coefs
    s.refreshCap p
  | _ => s

/-- A register of the front-end schedule (Table 02-9). -/
def schedReg (a : Nat) : Bool := decide (0x221004 ≤ a ∧ a < 0x221014) || decide (0x221100 ≤ a ∧ a < 0x221200)

/-- The predistortion side of a commit: its own changes, slots of switched entries, and the captures that a schedule commit moves; a
selection that then finds no air ticks is given up (log 148). -/
def State.dpdCommit (s old : State) (chs : List Change) : State :=
  let s := chs.foldl State.dpdChange s
  let s := (List.range 64).foldl (fun s p =>
    if s.freqEntry (s.txEntry p) = old.freqEntry (old.txEntry p) then s
    else s.switchSlot p (s.wantedSlot p (s.slotInForce p / 16))) s
  if (chs.flatMap Change.regs).any (fun r => schedReg r.1) then
    (List.range 8).foldl (fun s j =>
      if s.ox j = .wait then
        match s.captureStart (s.oxPath j) 2 with
        | some a => s.setCapAt j a
        | none => s.setOx j .idle
      else s) s
  else s

/-- An observation receiver is retired: SWSEL low, and its eight paths NO_OBS (R230). -/
def State.retireOx (s : State) (j : Nat) : State :=
  if s.isRetired (srcOx j) then s
  else
    let s := { s with fault := { s.fault with retired := insertNat s.fault.retired (srcOx j) } }
    let s := (s.setOx j .retired).setFld (F.OBS_STATUS_RETIRED j) 1
    let s := { s with dpd := { s.dpd with transfer := s.dpd.transfer.filter (fun e => e.ox != j) } }
    (List.range 8).foldl (fun s i =>
      let p := 8 * j + i
      let s := s.setFld (F.DPD_P_STATUS_NO_OBS p) 1
      if s.adapt p = .confirm then s.putDpd p { s.dpdPath p with lastGood := s.coefSet p (s.slotInForce p) } else s) s

/-- Estimations in progress at a lockstep mismatch are stale (R229). -/
def State.staleEstimates (s : State) : State := (List.range 64).foldl State.staleEstimate s

/-! ### Commands (R232-R236) -/

/-- Check 8 of DPD_START: NORMAL control, and not in DOZE (R86, R232). -/
def ctxDpdStart (s : State) : Option Status :=
  if !s.controlNormal ∨ s.fld F.PWR_STATUS_STATE = 3 then some .notPermitted else none

def chkDpdStart (s : State) (c : Cmd) : Option Status :=
  if c.payload.length ≠ 16 ∨ 2 ≤ leAt c.payload 8 1 ∨ !zeroAt c.payload 9 7 then some .badParam
  else if !(c.paths 0).isEmpty ∧ (s.txLive (c.paths 0)).isEmpty then some .resourceRetired
  else if leAt c.payload 8 1 = 0 ∧ (c.paths 0).any (fun p => s.adapt p == .degraded) then some .notPermitted
  else none

/-- DPD_START on one path (Table 07-8): a DEGRADED one restarts with RESTART alone. -/
def State.dpdStart (restart : Bool) (s : State) (p : Nat) : State :=
  match s.adapt p with
  | .off | .held => s.setAdapt p .run
  | .degraded =>
    if !restart then s else
    let s := (s.setFld (F.DPD_P_STATUS_DIV_COUNT p) 0).setAdapt p .run
    s.putDpd p { s.dpdPath p with capDue := some s.elapsed }
  | _ => s

def execDpdStart (tag : Nat) (s : State) : Host.Outcome State Fault Refusal :=
  .next (s.performStart 0x0600 tag anyOp (fun c s =>
    let (part, pl) := s.txPartial (c.paths 0)
    ((s.txLive (c.paths 0)).foldl (State.dpdStart (leAt c.payload 8 1 == 1)) s).finishPart c.tag .ok part pl))

def chkDpdFreeze (s : State) (c : Cmd) : Option Status :=
  if c.payload.length ≠ 8 then some .badParam
  else if !(c.paths 0).isEmpty ∧ (s.txLive (c.paths 0)).isEmpty then some .resourceRetired else none

/-- DPD_FREEZE: core-die content only (R233). -/
def execDpdFreeze (tag : Nat) (s : State) : Host.Outcome State Fault Refusal :=
  .next (s.performCommit 0x0601 tag anyOp (fun c s =>
    let live := s.txLive (c.paths 0)
    let (part, pl) := s.txPartial (c.paths 0)
    s.armCmd c (live.map CommitUnit.dpd) (live.map Change.freeze) [] .ok part pl))

/-- Descriptors of DPD_LOAD_SET operation 0 and coefficients of operation 1. -/
def loadTerms (c : Cmd) : List Nat := (List.range (leAt c.payload 2 2)).map (fun i => leAt c.payload (8 + 4 * i) 4)
def loadCoefs (c : Cmd) : List Cplx :=
  (List.range (leAt c.payload 4 2)).map (fun i => ⟨sleAt c.payload (8 + 8 * i) 4, sleAt c.payload (12 + 8 * i) 4⟩)

/-- Check 11 of DPD_LOAD_SET (R234). -/
def chkDpdLoadSet (s : State) (c : Cmd) : Option Status :=
  let p := leAt c.payload 1 1
  if c.op = 0 then
    let n := leAt c.payload 2 2
    if c.payload.length ≠ 8 + 4 * n ∨ 64 ≤ p ∨ !zeroAt c.payload 4 4 ∨ !modelOk p (loadTerms c) then some .badParam
    else if s.txRetired p then some .resourceRetired
    else if s.adapt p = .off ∨ s.adapt p = .held ∨ s.adapt p = .degraded then none else some .notPermitted
  else if c.op = 1 then
    let n := leAt c.payload 4 2
    if c.payload.length ≠ 8 + 8 * n ∨ 64 ≤ p ∨ 80 ≤ leAt c.payload 2 1 ∨ 2 ≤ leAt c.payload 3 1 ∨ !zeroAt c.payload 6 2 ∨
        n ≠ ((s.prospect c.actTick []).model p).length ∨
        (loadCoefs c).any (fun v => decide (v.re < -131072 ∨ 131071 < v.re ∨ v.im < -131072 ∨ 131071 < v.im)) then
      some .badParam
    else if s.txRetired p then some .resourceRetired else none
  else some .badParam

/-- Converter-die content of DPD_LOAD_SET. -/
def dpdBulk (s : State) (c : Cmd) : List (Nat × Nat) :=
  let p := leAt c.payload 1 1
  if c.op = 0 then [(p / 16, 32 * leAt c.payload 2 2 + 3456)]
  else if leAt c.payload 2 1 = s.slotInForce p then [(p / 16, 3456)] else []

/-- DPD_LOAD_SET operation 0. -/
def execDpdLoadModel (tag : Nat) (s : State) : Host.Outcome State Fault Refusal :=
  .next (s.performCommit 0x0602 tag (isOp 0) (fun c s =>
    s.armCmd c [.dpd (leAt c.payload 1 1)] [.model (leAt c.payload 1 1) (loadTerms c)] (dpdBulk s c) .ok false []))

/-- DPD_LOAD_SET operation 1. -/
def execDpdLoadCoefficients (tag : Nat) (s : State) : Host.Outcome State Fault Refusal :=
  .next (s.performCommit 0x0602 tag (isOp 1) (fun c s =>
    s.armCmd c [.dpd (leAt c.payload 1 1)]
      [.coefs (leAt c.payload 1 1) (leAt c.payload 2 1) (bitAt (leAt c.payload 3 1) 0) (loadCoefs c)]
      (dpdBulk s c) .ok false []))

def chkDpdGetStatus (c : Cmd) : Option Status := if c.payload.length ≠ 8 then some .badParam else none

/-- A record of DPD_GET_STATUS (Table 07-10). -/
def State.dpdRecord (s : State) (p : Nat) : List Byte :=
  leBytes 1 (s.fld (F.DPD_P_STATUS_STATE p)) ++
  leBytes 1 (s.fld (F.DPD_P_STATUS_DIV_COUNT p) + 4 * s.fld (F.DPD_P_STATUS_CAPPED p) +
    8 * s.fld (F.DPD_P_STATUS_ACCEPTED p) + 16 * s.fld (F.DPD_P_STATUS_NO_OBS p)) ++
  leBytes 1 (s.slotInForce p) ++ leBytes 1 0 ++ leBytes 2 (s.fld (F.DPD_P_ACF_MEAS p)) ++
  leBytes 2 (min (s.fld (F.DPD_P_UPDATES_COUNT p)) 0xFFFF)

def execDpdGetStatus (tag : Nat) (s : State) : Host.Outcome State Fault Refusal :=
  .next (s.performStart 0x0603 tag anyOp (fun c s =>
    s.finishNow c.tag .ok ((c.paths 0).flatMap s.dpdRecord)))

/-! ### Windows (R237) -/

/-- Word `w` of slot `slot` of path `p`. -/
def State.coefWord (s : State) (p slot w : Nat) : Nat :=
  let x := s.coefSet p slot
  let cs := if x.st = .empty then identitySet (s.model p).length else x.coefs
  if w < 192 then
    let c := cs.getD (w / 2) Cplx.zero
    encode2c 32 (if w % 2 = 0 then c.re else c.im)
  else if w = 192 then (match x.st with | .empty => 0 | .loaded => 1 | .accepted => 2)
  else x.gen

def State.readDpdCoef (s : State) : Nat × State :=
  let i := s.fld F.DPD_COEF_ADDR_INDEX
  let n := i / 194
  (s.coefWord (n / 80) (n % 80) (i % 194), s.setFld F.DPD_COEF_ADDR_INDEX ((i + 1) % 2 ^ 20))

def State.readDpdTerm (s : State) : Nat × State :=
  let i := s.fld F.DPD_TERM_ADDR_INDEX
  ((s.model (i / 96)).getD (i % 96) 0, s.setFld F.DPD_TERM_ADDR_INDEX ((i + 1) % 2 ^ 13))

end Sys2Proof.Machine
end

