-- ==== Sys2Proof/Machine/Compress.lean ====
section
/-!
DEFINITION. Sys2Proof/Machine/Compress.lean: the compression methods and their exact losses (R258-R276): bit streams, block
floating point, μ-law, modulation compression, Petunia's widths and Petunia-sum, and the figures of blocks 8 and 9 (R278).
-/
namespace Sys2Proof.Machine

/-! ### Bit streams (R260) -/

/-- The low `w` bits of a number, most significant first. -/
def bitsMsb (w v : Nat) : List Bool := (List.range w).reverse.map (bitAt v)

/-- Value of bits, most significant first. -/
def bitsValue (l : List Bool) : Nat := l.foldl (fun a b => 2 * a + b2n b) 0

/-- Bits packed into bytes, padded with zero bits; `n` bounds the bytes. -/
def packBits (n : Nat) (l : List Bool) : List Byte :=
  match n with
  | 0 => []
  | k + 1 => if l.isEmpty then [] else
      BitVec.ofNat 8 (bitsValue ((l ++ List.replicate 8 false).take 8)) :: packBits k (l.drop 8)

/-- The bits of bytes. -/
def unpackBits (bs : List Byte) : List Bool := bs.flatMap (fun b => bitsMsb 8 b.toNat)

/-- `n` fields of `w` bits from a bit stream; bits past its end read 0. -/
def fieldsOf (w n : Nat) (l : List Bool) : List Nat :=
  match n with
  | 0 => []
  | k + 1 => bitsValue ((l ++ List.replicate w false).take w) :: fieldsOf w k (l.drop w)

/-- `w`-bit fields of integers, packed. -/
def packInts (w : Nat) (vs : List Int) : List Byte :=
  packBits (w * vs.length) (vs.flatMap (fun v => bitsMsb w (encode2c w v)))

/-- I before Q within each resource element. -/
def comps (xs : List Cplx) : List Int := xs.flatMap (fun c => [c.re, c.im])

/-- Pairs of components as complex values. -/
def pairUp (vs : List Int) : List Cplx :=
  match vs with
  | a :: b :: r => ⟨a, b⟩ :: pairUp r
  | _ => []

/-- The first exponent from `e` on, of `n`, at which every component fits `w` bits after rounding. -/
def fitExp (w : Nat) (vs : List Int) (n e : Nat) : Nat :=
  match n with
  | 0 => e
  | k + 1 => if vs.all (fun v => !(saturate w (roundEven v e)).2) then e else fitExp w vs k (e + 1)

/-! ### Methods (Table 09-1) -/

/-- Width codes: 0 stands for 16. -/
def width16 (w : Nat) : Nat := if w = 0 then 16 else w

/-- Methods and widths of Table 09-1 in a direction. -/
def methodOk (dl : Bool) (meth width : Nat) : Bool :=
  match meth with
  | 0 => width == 16
  | 1 | 15 => decide (8 ≤ width ∧ width ≤ 16)
  | 3 => decide (8 ≤ width ∧ width ≤ 12)
  | 4 => dl && decide (1 ≤ width ∧ width ≤ 4)
  | _ => false

/-- Bytes of one PRB. -/
def prbBytes (meth width : Nat) : Nat :=
  match meth with
  | 0 => 48
  | 4 => 3 * width
  | _ => 1 + 3 * width

/-- A BFP PRB (R262, R263). -/
def bfpPrb (m : Nat) (xs : List Cplx) : List Byte :=
  let vs := comps xs
  let e := fitExp m vs 15 0
  BitVec.ofNat 8 e :: packInts m (vs.map (fun v => roundEven v e))

/-- compShift: the largest from `c` down at which every component stays within 32,768 (R267). -/
def muShift (vs : List Int) (c : Nat) : Nat :=
  match c with
  | 0 => 0
  | k + 1 => if vs.all (fun v => decide (v.natAbs * 2 ^ (k + 1) ≤ 32768)) then k + 1 else muShift vs k

/-- Base and step of a μ-law segment (Table 09-4), for `k = m - 4`. -/
def muBase (s : Nat) : Nat := if s = 0 then 0 else 2 ^ (s + 7)
def muStep (k s : Nat) : Nat := if s = 0 then 2 ^ (8 - k) else 2 ^ (s + 7 - k)

/-- Segment of a magnitude. -/
def muSegment (a : Nat) : Nat := ((List.range 8).filter (fun s => decide (muBase s ≤ a))).length - 1

/-- The μ-law code of a component. -/
def muCode (m c : Nat) (v : Int) : Nat :=
  let k := m - 4
  let a := min (v.natAbs * 2 ^ c) 32767
  let s := muSegment a
  (if v < 0 then 2 ^ (m - 1) else 0) + s * 2 ^ k + (a - muBase s) / muStep k s

/-- A μ-law PRB (R267). -/
def muPrb (m : Nat) (xs : List Cplx) : List Byte :=
  let vs := comps xs
  let c := muShift vs 15
  BitVec.ofNat 8 (16 * m + c) :: packBits (24 * m) (vs.flatMap (fun v => bitsMsb m (muCode m c v)))

/-- The value of a μ-law code. -/
def muValue (m c code : Nat) : Int :=
  let k := m - 4
  let s := bitsAt code k 3
  let twice := 2 * muBase s + (2 * bitsAt code 0 k + 1) * muStep k s
  let r := roundEven twice (c + 1)
  if bitAt code (m - 1) then -r else r

/-- One PRB compressed (R258 to R267). -/
def compressPrb (meth width : Nat) (xs : List Cplx) : List Byte :=
  match meth with
  | 0 => packInts 16 (comps xs)
  | 3 => muPrb width xs
  | _ => bfpPrb width xs

/-- One PRB decompressed, and the components that saturated (R265). -/
def expandPrb (meth width csf scaler : Nat) (bs : List Byte) : List Cplx × Nat :=
  match meth with
  | 0 => (pairUp ((fieldsOf 16 24 (unpackBits bs)).map (signed 16)), 0)
  | 4 =>
    let vs := (fieldsOf width 24 (unpackBits bs)).map (fun x =>
      let l : Int := 2 * signed width x + (if csf = 0 then 1 else 0)
      scaleRound (l * (scaler % 2048 : Nat)) (4 - (width : Int) - (scaler / 2048 % 16 : Nat)) 0)
    (pairUp vs, 0)
  | 3 =>
    let c := bitsAt (leAt bs 0 1) 0 4
    (pairUp ((fieldsOf width 24 (unpackBits (bs.drop 1))).map (muValue width c)), 0)
  | _ =>
    let e := bitsAt (leAt bs 0 1) 0 4
    let rs := (fieldsOf width 24 (unpackBits (bs.drop 1))).map (fun q => saturate 16 (signed width q * (2 ^ e : Nat)))
    (pairUp (rs.map Prod.fst), (rs.filter Prod.snd).length)

/-- `n` PRBs decompressed. -/
def expandSection (meth width csf scaler n : Nat) (bs : List Byte) : List Cplx × Nat :=
  (List.range n).foldl (fun (a : List Cplx × Nat) i =>
    let r := expandPrb meth width csf scaler (slice bs (i * prbBytes meth width) (prbBytes meth width))
    (a.1 ++ r.1, a.2 + r.2)) ([], 0)

/-! ### Petunia (R271) -/

/-- Bits of `p` PRBs at width `m`. -/
def petCost (m p : Nat) : Nat := p * (8 + 24 * m)

def petTotal (m : Nat) (ps : List (Nat × Nat)) : Nat := ps.foldl (fun a b => a + petCost m b.2) 0

/-- The largest width from `m` down to `lo` whose total fits; `n` bounds the search. -/
def petWidth (lo bud : Nat) (ps : List (Nat × Nat)) (n m : Nat) : Nat :=
  match n with
  | 0 => lo
  | k + 1 => if m ≤ lo then lo else if petTotal m ps ≤ bud then m else petWidth lo bud ps k (m - 1)

/-- The widths of the requested beams, each with its PRB count, in ascending beam index. -/
def petWidths (lo hi bud : Nat) (ps : List (Nat × Nat)) : List (Nat × Nat) :=
  let m := petWidth lo bud ps 16 hi
  (ps.foldl (fun (a : List (Nat × Nat) × Nat) b =>
    let t := a.2 - petCost m b.2 + petCost (m + 1) b.2
    if m < hi ∧ t ≤ bud then (a.1 ++ [(b.1, m + 1)], t) else (a.1 ++ [(b.1, m)], a.2))
    ([], petTotal m ps)).1

/-! ### Petunia-sum (R273, R274) -/

/-- The header byte of a block at exponent E (Table 09-5, R274). -/
def sumHeader (void : Bool) (e : Nat) : Nat :=
  let g := ceilDiv (e - 15) 8
  64 * b2n void + 16 * g + (e - 8 * g)

/-- The 37 bytes of a block of 12 sums: the least exponent at which all fit, or VOID with mantissas 0. -/
def sumBytes (void : Bool) (acc : List Cplx) : List Byte :=
  let e := if void then 0 else fitExp 12 (comps acc) 39 0
  BitVec.ofNat 8 (sumHeader void e) :: packInts 12 (if void then List.replicate 24 0 else (comps acc).map (fun v => roundEven v e))

/-- A block of 12 sums as it crosses the cascade. -/
def sumBlock (beam car prb : Nat) (void : Bool) (acc : List Cplx) : SumBlock := ⟨beam, car, prb, sumBytes void acc⟩

/-- The VOID bit of a block. -/
def sumVoid (b : SumBlock) : Bool := bitAt (leAt b.bytes 0 1) 6

/-- The exponent of a block: E = e + 8 G, of any pair (R274). -/
def sumExp (b : SumBlock) : Nat := bitsAt (leAt b.bytes 0 1) 0 4 + 8 * bitsAt (leAt b.bytes 0 1) 4 2

/-- The sums a block carries. -/
def sumValue (b : SumBlock) : List Cplx :=
  pairUp ((fieldsOf 12 24 (unpackBits (b.bytes.drop 1))).map (fun q => signed 12 q * (2 ^ sumExp b : Nat)))

/-- Components that a saturation changed. -/
def satCount (raw v : List Cplx) : Nat :=
  (raw.zip v).foldl (fun (a : Nat) (x : Cplx × Cplx) => a + b2n (x.1.re != x.2.re) + b2n (x.1.im != x.2.im)) 0

/-! ### Carriers and loads -/

/-- Index of a carrier's BF registers. -/
def carIx (dl : Bool) (k : Nat) : Nat := 4 * b2n dl + k

def State.carEn (s : State) (dl : Bool) (k : Nat) : Bool := s.flag (F.BF_CAR_CFG_EN (carIx dl k))
def State.carMu (s : State) (dl : Bool) (k : Nat) : Nat := s.fld (F.BF_CAR_CFG_MU (carIx dl k))
def State.carRate (s : State) (dl : Bool) (k : Nat) : Nat := s.fld (F.BF_CAR_CFG_RATE (carIx dl k))
def State.carNrb (s : State) (dl : Bool) (k : Nat) : Nat := s.fld (F.BF_CAR_CFG_NRB (carIx dl k))
def State.carN (s : State) (dl : Bool) (k : Nat) : Nat := fftSize (s.carRate dl k) (s.carMu dl k)

/-- Beams or layers enabled with a carrier in their set. -/
def State.unitOn (s : State) (dl : Bool) (b k : Nat) : Bool :=
  if dl then s.flag (F.BF_DL_LAYER_EN b) && bitAt (s.fld (F.BF_DL_LAYER_CARRIERS b)) k
  else s.flag (F.BF_UL_BEAM_EN b) && bitAt (s.fld (F.BF_UL_BEAM_CARRIERS b)) k

def State.unitsOn (s : State) (dl : Bool) (k : Nat) : Nat := ((List.range 32).filter (fun b => s.unitOn dl b k)).length

/-- Sum of NRB times beams or layers over the enabled carriers of a direction. -/
def State.unitPrbs (s : State) (dl : Bool) : Nat :=
  ((List.range 4).filter (s.carEn dl)).foldl (fun a k => a + s.unitsOn dl k * s.carNrb dl k) 0

/-- REQ of blocks 3 and 4 (R187), and of blocks 8 and 9 (R278). -/
def State.combineReq (s : State) (dl : Bool) : Nat :=
  if s.unitPrbs dl = 0 then 0 else 8 + ceilDiv (12 * s.unitPrbs dl) 1152

def State.compressReq (s : State) (dl : Bool) : Nat :=
  if s.unitPrbs dl = 0 then 0 else 8 + ceilDiv (s.unitPrbs dl) 176

/-- The paths that take part in a carrier (R177), retired or not. -/
def State.participates (s : State) (dl : Bool) (k p : Nat) : Bool :=
  if dl then s.txEn p k && decide (s.fld (F.TXP_STR_CFG_RATE p k) = s.carRate dl k)
  else s.rxEn p k && decide (s.fld (F.RXP_STR_CFG_RATE p k) = s.carRate dl k)

def State.pathOut (s : State) (dl : Bool) (p : Nat) : Bool := if dl then s.txRetired p else s.rxRetired p

/-- REQ of blocks 2 and 5 (R183). -/
def State.fftReq (s : State) (dl : Bool) : Nat :=
  let ks := (List.range 4).filter (s.carEn dl)
  if ks.isEmpty then 0
  else 10 + ceilDiv (ks.foldl (fun a k =>
    let n := s.carN dl k
    a + ((List.range 64).filter (fun p => s.participates dl k p && !s.pathOut dl p)).length * n *
      (nlogOf (s.carRate dl k) (s.carMu dl k) + 9)) 0) 36864

/-- Excluded paths of a carrier (R177). -/
def State.excluded (s : State) (dl : Bool) (k : Nat) : Nat :=
  if s.carEn dl k then ((List.range 64).filter (fun p => !s.pathOut dl p && !s.participates dl k p)).length else 0

/-- Carriers of the mapped eAxCs of a kind (1 uplink beam, 2 downlink layer), with their ports. -/
def State.mappedCars (s : State) (kind : Nat) : List (Nat × Nat) :=
  (s.fh.map.filter (fun e => e.2.kind == kind)).map (fun e => (e.2.car, e.2.port))

/-- Λ of a direction in 1/3840 PRB per tick. -/
def State.loadOf (s : State) (dl : Bool) : Nat :=
  (s.mappedCars (if dl then 2 else 1)).foldl (fun a e =>
    a + (if s.carEn dl e.1 then s.carNrb dl e.1 * 14 * 2 ^ s.carMu dl e.1 else 0)) 0

/-- REQ of block 11 (R627): 0 without a role, else a figure for the configured ports and loads whose formula is not stated
(log 137). -/
def State.cascadeReq (s : State) : Nat :=
  if s.fld F.CAS_CFG_ROLE = 0 then 0
  else Config.cascadeReq (s.reg 0x320000).toNat (s.loadOf false) (s.loadOf true) % 2 ^ 16

/-- REQ of block 12: its overhead per tick while any beamformer carrier is enabled (R627). -/
def State.weightReq (s : State) : Nat :=
  if (List.range 4).any (fun k => s.carEn false k || s.carEn true k) then 8 else 0

/-- The loads of blocks 2 to 5, 8, 9, 11 and 12. -/
def State.refreshBfLoad (s : State) : State :=
  let s := s.setFld (F.TCK_LOAD_REQ 2) (s.fftReq false)
  let s := s.setFld (F.TCK_LOAD_REQ 5) (s.fftReq true)
  let s := s.setFld (F.TCK_LOAD_REQ 3) (s.combineReq false)
  let s := s.setFld (F.TCK_LOAD_REQ 4) (s.combineReq true)
  let s := s.setFld (F.TCK_LOAD_REQ 8) (s.compressReq false)
  let s := s.setFld (F.TCK_LOAD_REQ 9) (s.compressReq true)
  (s.setFld (F.TCK_LOAD_REQ 11) s.cascadeReq).setFld (F.TCK_LOAD_REQ 12) s.weightReq

/-! ### The fronthaul load (R295, R363) -/

/-- Bytes per PRB that R295 counts for an uplink carrier. -/
def State.ulBytes (s : State) (k : Nat) : Nat :=
  match s.fld (F.CMP_UL_CAR_METH k) with
  | 0 => 48
  | 15 => 1 + 3 * width16 (s.fld (F.CMP_UL_PET_PMAX k))
  | _ => 1 + 3 * width16 (s.fld (F.CMP_UL_CAR_WIDTH k))

/-- Bytes per PRB of downlink data on the cascade (R363). -/
def State.dlBytes (s : State) (k : Nat) : Nat :=
  if s.flag (F.CMP_DL_CAR_DYN k) then 48
  else prbBytes (s.fld (F.CMP_DL_CAR_METH k)) (width16 (s.fld (F.CMP_DL_CAR_WIDTH k)))

/-- Uplink bits of a port per tick, times 3840. -/
def State.portBits (s : State) (port : Nat) : Nat :=
  ((s.mappedCars 1).filter (fun e => e.2 == port)).foldl (fun a e =>
    a + (if s.carEn false e.1 then s.carNrb false e.1 * 14 * 2 ^ s.carMu false e.1 * 8 * s.ulBytes e.1 else 0)) 0

/-- Gb/s of an Ethernet rate code. -/
def ethRate (code : Nat) : Nat := 200 * 2 ^ code

/-- 0.95 of a port's rate over one tick, times 3840, in bits: 1 tick is 10^6 / 3840 ns. -/
def portBudget (code : Nat) : Nat := ethRate code * 950000

/-- R295, and R363 at a cascade root. -/
def State.fhFits (s : State) : Bool :=
  let lim := if s.fld F.CAS_CFG_ROLE = 1 then 256 else 512
  decide (s.loadOf false ≤ lim * 3840) && decide (s.loadOf true ≤ lim * 3840) &&
  (List.range 4).all (fun p => decide (s.portBits p ≤ portBudget (s.fld (F.ETH_CFG_RATE p)))) &&
  (s.fld F.CAS_CFG_ROLE != 1 ||
    (decide (s.loadOf false * 296 ≤ 81920 * 3840) &&
     decide ((s.mappedCars 2).foldl (fun a e =>
       a + (if s.carEn true e.1 then s.carNrb true e.1 * 14 * 2 ^ s.carMu true e.1 * 8 * s.dlBytes e.1 else 0)) 0
         ≤ 81920 * 3840)))

/-- FRM_LOAD and CAS_LOAD (units of 1/16 PRB per tick). -/
def State.refreshFhLoad (s : State) : State :=
  let ul := (s.loadOf false + 120) / 240
  let dl := (s.loadOf true + 120) / 240
  let s := (s.setFld F.FRM_LOAD_UL ul).setFld F.FRM_LOAD_DL dl
  if s.fld F.CAS_CFG_ROLE = 1 then (s.setFld F.CAS_LOAD_UL ul).setFld F.CAS_LOAD_DL dl
  else (s.setFld F.CAS_LOAD_UL 0).setFld F.CAS_LOAD_DL 0

/-- R272: all enabled beams of an uplink Petunia carrier at NRB PRBs and width PMIN stay within its budget. -/
def State.petuniaFits (s : State) (k : Nat) : Bool :=
  s.fld (F.CMP_UL_CAR_METH k) != 15 ||
  decide (s.unitsOn false k * petCost (width16 (s.fld (F.CMP_UL_PET_PMIN k))) (s.carNrb false k) ≤
    64 * s.fld (F.CMP_UL_PET_BUDGET k))

end Sys2Proof.Machine
end

