-- ==== Sys2Proof/Machine/Beam.lean ====
section
/-!
DEFINITION. Sys2Proof/Machine/Beam.lean: Dahlia: symbol timing (R177-R181), weight sources and staging (R189-R199), block 12
(R192), combination and expansion of a tick (R184, R185), the idle noise floor (R121, R122), and the BF commands (R202-R206).
-/
namespace Sys2Proof.Machine

/-! ### Symbols (R178-R180) -/

/-- A carrier's geometry: N, the two cyclic prefixes, samples per tick and numerology. -/
structure Geo where
  n   : Nat
  cpn : Nat
  cpl : Nat
  spt : Nat
  mu  : Nat
deriving DecidableEq, Repr

def State.geo (s : State) (dl : Bool) (k : Nat) : Geo :=
  ⟨s.carN dl k, s.fld (F.BF_CAR_CP_CP_NORM (carIx dl k)), s.fld (F.BF_CAR_CP_CP_LONG (carIx dl k)),
    rateS (s.carRate dl k), s.carMu dl k⟩

/-- Symbols of a half-subframe. -/
def Geo.count (g : Geo) : Nat := 7 * 2 ^ g.mu
/-- First sample, cyclic prefix and end of symbol `m`, from the half-subframe boundary. -/
def Geo.start (g : Geo) (m : Nat) : Nat := if m = 0 then 0 else (g.cpl - g.cpn) + m * (g.n + g.cpn)
def Geo.cp (g : Geo) (m : Nat) : Nat := if m = 0 then g.cpl else g.cpn
def Geo.stop (g : Geo) (m : Nat) : Nat := g.start m + g.cp m + g.n

/-- The symbol whose first sample lies in tick `pos` of the half-subframe, and the one whose last sample does. -/
def Geo.startsIn (g : Geo) (pos : Nat) : Option Nat := (List.range g.count).find? (fun m => g.start m / g.spt == pos)
def Geo.endsIn (g : Geo) (pos : Nat) : Option Nat := (List.range g.count).find? (fun m => (g.stop m - 1) / g.spt == pos)

/-- Ticks from the open one to tick `t`, signed. -/
def State.ticksTo (s : State) (t : Nat) : Int := signed 32 (tickSub t s.tickno)

/-- FRAME_TICK and SFN of tick `t`. -/
def State.frameAt (s : State) (t : Nat) : Nat := (((s.frameTick : Int) + s.ticksTo t) % 38400).toNat
def State.sfnAt (s : State) (t : Nat) : Nat :=
  (((s.fld F.TCK_FRAME_SFN : Nat) : Int) + ((s.frameTick : Int) + s.ticksTo t) / 38400).toNat % 1024

/-- Slot within the frame and symbol within the slot of symbol `m` of the half-subframe that holds frame tick `ft`. -/
def slotIx (mu ft m : Nat) : Nat := (ft / 1920 * (7 * 2 ^ mu) + m) / 14
def symOfSlot (mu ft m : Nat) : Nat := (ft / 1920 * (7 * 2 ^ mu) + m) % 14

/-- First tick of the symbol after `start` within its carrier: of symbol `m + j` of the frame from symbol 0 of tick 0. -/
def Geo.tickOf (g : Geo) (j : Nat) : Nat := j / g.count * 1920 + g.start (j % g.count) / g.spt

/-- Depth D in use (R194, R372). -/
def State.depth (s : State) : Nat := s.fld F.BF_DEPTH_DEPTH

/-- Receive symbols of a carrier that have ended and wait for blocks 2 and 3. -/
def State.inFlight (s : State) (k : Nat) : List UlSymbol := (s.bf.ulFft ++ s.bf.ulComb).filter (fun y => y.car == k)

/-- The apply tick of the symbol of a carrier that starts in tick `start` (R194): on transmit three ticks before its first
air tick, on receive two ticks after its last tick, under the configuration it was received under (R203). -/
def State.applyOf (s : State) (dl : Bool) (k start : Nat) : Nat :=
  if dl then tickAdd start (2 ^ 32 - 3)
  else match (s.inFlight k).find? (fun y => y.start == start) with
    | some y => y.apply
    | none =>
      let g := s.geo false k
      let pos := s.frameAt start % 1920
      let m := (g.startsIn pos).getD 0
      tickAdd start ((g.stop m - 1) / g.spt - pos + 2)

/-- A receive symbol that starts in tick `start` crosses whole since the carrier's configuration came (R203). -/
def State.gathersFrom (s : State) (k start : Nat) : Bool :=
  decide (((sget (fun _ => 0) s.bf.since k : Nat) : Int) ≤ (s.elapsed : Int) + s.ticksTo start)

/-- The symbol of a carrier with apply tick `v`: its first tick. A transmit symbol has the configuration of tick `v`; a receive symbol
the one it was received under, which is that of its last tick, two ticks before `v` (R203). -/
def State.symbolFor (s : State) (dl : Bool) (k v : Nat) : Option Nat :=
  if dl then
    let t := s.prospect v []
    let x := tickAdd v 3
    if t.carEn true k then ((t.geo true k).startsIn (s.frameAt x % 1920)).map (fun _ => x) else none
  else match (s.inFlight k).find? (fun y => y.apply == v) with
    | some y => some y.start
    | none =>
      let u := tickAdd v (2 ^ 32 - 2)
      let t := s.prospect u []
      let g := t.geo false k
      let pos := s.frameAt u % 1920
      let start := fun (m : Nat) => tickAdd u (2 ^ 32 - (pos - g.start m / g.spt))
      if t.carEn false k then ((g.endsIn pos).map start).filter (s.gathersFrom k) else none

/-! ### Slots: events once per slot -/

/-- Kinds of per-slot counts. -/
def slotSat : Nat := 0
def slotExt : Nat := 1
def slotLate : Nat := 2
def slotMeth : Nat := 3
def slotQrec : Nat := 4
def slotPsum : Nat := 5

def State.slotAdd (s : State) (kind : Nat) (dl : Bool) (k n : Nat) : State :=
  let key := 8 * kind + carIx dl k
  { s with bf := { s.bf with slots := sput (fun _ => 0) s.bf.slots key (sget (fun _ => 0) s.bf.slots key + n) } }

/-- Event code and severity of a kind. -/
def slotEvent (kind : Nat) : Nat × Nat :=
  match kind with
  | 0 => (0x5002, sevNotice)
  | 1 => (0x8002, sevNotice)
  | 2 => (0x8003, sevWarning)
  | 3 => (0x8001, sevNotice)
  | 4 => (0x8005, sevNotice)
  | _ => (0xA006, sevNotice)

/-- Source block of a kind. -/
def slotBlock (kind : Nat) (dl : Bool) : Nat :=
  match kind with
  | 0 => if dl then 4 else 3
  | 1 | 2 | 3 => 9
  | 4 => 8
  | _ => 11

/-- Slot `slot` of frame `sfn`, as one number. -/
def slotId (sfn slot : Nat) : Nat := 160 * sfn + slot

/-- A count that belongs to a symbol's own slot, whatever tick the symbol is worked on (R184, R185): the slot's event is raised with
its last symbol, or when a symbol of another slot follows. Slots are those of a carrier and direction (log 181). -/
def State.symbolAdd (s : State) (kind : Nat) (dl : Bool) (k sfn slot sym n : Nat) : State :=
  let key := 8 * kind + carIx dl k
  let put := fun (s : State) (i c : Nat) => { s with bf := { s.bf with symSlots := sput (fun _ => (0, 0)) s.bf.symSlots key (i, c) } }
  let say := fun (s : State) (c : Nat) =>
    if c = 0 then s else s.raise (slotEvent kind).1 c (srcBlock (slotBlock kind dl)) (slotEvent kind).2
  let (i, c) := sget (fun _ => (0, 0)) s.bf.symSlots key
  let id := slotId sfn slot
  let (s, c) := if i = id then (s, c) else (say s c, 0)
  if sym = 13 then put (say s (c + n)) id 0 else put s id (c + n)

/-- The slots that end with the open tick raise their events. -/
def State.slotsEnd (s : State) : State :=
  (List.range 48).foldl (fun s key =>
    let n := sget (fun _ => 0) s.bf.slots key
    let kind := key / 8
    let dl := key / 4 % 2 == 1
    let per := 3840 / 2 ^ s.carMu dl (key % 4)
    if n = 0 ∨ (s.frameTick + 1) % per ≠ 0 then s
    else
      let t := { s with bf := { s.bf with slots := sput (fun _ => 0) s.bf.slots key 0 } }
      t.raise (slotEvent kind).1 n (srcBlock (slotBlock kind dl)) (slotEvent kind).2) s

/-! ### Weights (R189-R192) -/

/-- Devices of the array and this device's slice (R191, R349). -/
def State.arrayM (s : State) : Nat := if s.fld F.CAS_CFG_ROLE = 1 then s.fld F.CAS_ARRAY_M else 1
def State.slice0 (s : State) : Nat := if s.fld F.CAS_CFG_ROLE = 0 then 0 else s.fld F.CAS_ARRAY_SLICE

/-- The values a weight set carries, if its form is one R191 accepts with `n` values. -/
def weightValues (w : WeightSet) (n : Nat) : Option (List Cplx) :=
  let wd := width16 w.width
  if w.mant.length ≠ n then none
  else match w.meth with
    | 0 => if wd = 16 then some (w.mant.map (fun c => (sat16 c).1)) else none
    | 1 => if 8 ≤ wd ∧ wd ≤ 16 then some (w.mant.map (fun c => (sat16 (c.scale ((2 ^ w.expo : Nat) : Int))).1)) else none
    | _ => none

/-- Values cut into slices of 64. -/
def toSlices (m : Nat) (xs : List Cplx) : List (Nat × List Cplx) :=
  (List.range m).map (fun i => (i, (xs.drop (64 * i)).take 64))

/-- 64 zero weights. -/
def zeroWeights : List Cplx := List.replicate 64 Cplx.zero

/-- The conjugate weights of R192 for channel values `h` scaled by the largest component `m`. -/
def conjWeights (m : Nat) (h : List Cplx) : List Cplx :=
  if m = 0 then zeroWeights
  else h.map (fun c => c.conj.map (fun v =>
    let a := v * 16383
    let q := a / (m : Int)
    let r := 2 * (a % (m : Int))
    if r < m then q else if (m : Int) < r then q + 1 else if q % 2 = 0 then q else q + 1))

/-- The largest component magnitude. -/
def maxComp (h : List Cplx) : Nat := h.foldl (fun m c => max m (max c.re.natAbs c.im.natAbs)) 0

/-- The channel-store entry of a ueId. -/
def State.chanEntry (s : State) (ue : Nat) : Option ChanEntry := s.bf.chan.find? (fun e => e.ueId == ue)

/-- Puts regions for a ueId that serve from a tick on; a new ueId in a full store replaces the entry whose last message is
oldest (R192). -/
def State.putChan (s : State) (ue serves : Nat) (rs : List ChanRegion) : State :=
  let o := s.bf.order
  let l := if s.bf.chan.any (fun e => e.ueId == ue) then
      s.bf.chan.map (fun e => if e.ueId = ue then { e with next := e.next ++ [(serves, rs)], last := o } else e)
    else if s.bf.chan.length < 256 then s.bf.chan ++ [⟨ue, [], [(serves, rs)], o⟩]
    else
      let old := s.bf.chan.foldl (fun m e => min m e.last) o
      s.bf.chan.map (fun e => if e.last = old then ⟨ue, [], [(serves, rs)], o⟩ else e)
  { s with bf := { s.bf with chan := l, order := o + 1 } }

/-- Regions whose tick has come are in use. -/
def ChanEntry.promote (n : Nat) (e : ChanEntry) : ChanEntry :=
  let due := e.next.filter (fun x => !tickAfter x.1 n)
  { e with regions := (due.getLast?.map Prod.snd).getD e.regions, next := e.next.filter (fun x => tickAfter x.1 n) }

/-- The region of an entry that covers a PRB, by number. -/
def regionFor (rs : List ChanRegion) (prb i : Nat) : Option (Nat × ChanRegion) :=
  match rs with
  | [] => none
  | r :: q => if r.lo ≤ prb ∧ prb < r.lo + r.n then some (i, r) else regionFor q prb (i + 1)

/-- What a section gives a PRB: a key that tells its groups apart, and the weights; none for type 0 (Table 06-5). -/
def State.prbSource (s : State) (c : CSection) (prb : Nat) : Option (Nat × List Cplx) :=
  match c.kind with
  | 1 =>
    match c.weights with
    | some ws => some (0, ((ws.find? (fun x => x.1 == s.slice0)).map Prod.snd).getD zeroWeights)
    | none =>
      some (0, if c.beamId < 4096 then
        (match sget (fun _ => []) s.bf.table c.beamId with | [] => zeroWeights | w => w) else zeroWeights)
  | 5 =>
    match (s.chanEntry c.ueId).bind (fun e => regionFor e.regions prb 1) with
    | some (i, r) => some (i, r.w)
    | none => some (0, zeroWeights)
  | _ => none

/-- A section covers a PRB. -/
def secCovers (c : CSection) (prb : Nat) : Bool := decide (c.lo ≤ prb) && decide (prb < c.lo + c.n)

/-- The group runs of PRBs `prb ..` (`n` of them): the later-received section wins (R194); reversed list of groups with
their keys. -/
def State.groupRuns (s : State) (k : Nat) (secs : List CSection) (n prb : Nat) (acc : List ((Nat × Nat) × WGroup)) :
    List ((Nat × Nat) × WGroup) :=
  match n with
  | 0 => acc
  | m + 1 =>
    let c := secs.foldl (fun (b : Option CSection) x =>
      if secCovers x prb then (match b with
        | some y => if x.order < y.order then some y else some x
        | none => some x) else b) none
    match c.bind (fun c => (s.prbSource c prb).map (fun x => (c.order, x))) with
    | none => s.groupRuns k secs m (prb + 1) acc
    | some (o, key, w) =>
      match acc with
      | ((o', key'), g) :: r =>
        if o' = o ∧ key' = key ∧ g.lo + g.n = prb then
          s.groupRuns k secs m (prb + 1) (((o, key), { g with n := g.n + 1 }) :: r)
        else s.groupRuns k secs m (prb + 1) (((o, key), ⟨k, prb, 1, w⟩) :: acc)
      | [] => s.groupRuns k secs m (prb + 1) [((o, key), ⟨k, prb, 1, w⟩)]

/-! ### Staging (R194-R199) -/

/-- The staged bank of a direction, and of the other one. -/
def State.staged (s : State) (dl : Bool) (b : Nat) : List WGroup :=
  sget (fun _ => []) (if dl then s.bf.dlStaged else s.bf.ulStaged) b

def State.activeBank (s : State) (dl : Bool) (b : Nat) : List WGroup :=
  sget (fun _ => []) (if dl then s.bf.dlActive else s.bf.ulActive) b

def State.putStaged (s : State) (dl : Bool) (b : Nat) (gs : List WGroup) : State :=
  if dl then { s with bf := { s.bf with dlStaged := sput (fun _ => []) s.bf.dlStaged b gs } }
  else { s with bf := { s.bf with ulStaged := sput (fun _ => []) s.bf.ulStaged b gs } }

/-- One beam or layer rebuilt for carrier `k` from its sections: its group table has 128 places for all its carriers (R193). -/
def State.stageUnit (s : State) (dl : Bool) (k b : Nat) (secs : List CSection) : State :=
  let gs := (s.groupRuns k secs (s.carNrb dl k) 0 []).reverse.map Prod.snd
  let others := (s.staged dl b).filter (fun g => g.car != k && s.carEn dl g.car)
  let s := if 128 < others.length + gs.length then
      (s.addFld F.BF_GROUP_OVF_COUNT 1).raiseFree 0x5007 (srcBlock 12) sevNotice else s
  s.putStaged dl b (others ++ gs.take (128 - others.length))

/-- A type-5 section some of whose PRBs have no computed entry. -/
def State.ciMissing (s : State) (c : CSection) : Bool :=
  c.kind == 5 && (List.range c.n).any (fun i =>
    ((s.chanEntry c.ueId).bind (fun e => regionFor e.regions (c.lo + i) 1)).isNone)

/-- A section was received before the cut-off of apply tick `v`. -/
def State.meets (s : State) (c : CSection) (v : Nat) : Bool :=
  !tickAfter c.received (tickAdd v (2 ^ 32 - (2 + s.depth)))

/-- Sections of the store that cover the symbol of a carrier with apply tick `v` and met its cut-off. -/
def State.sectionsFor (s : State) (dl : Bool) (k v : Nat) : List CSection :=
  match s.symbolFor dl k v with
  | some st => s.fh.csecs.filter (fun c => c.dl == dl && c.car == k && c.syms.contains st && s.meets c v)
  | none => []

/-- Builds the staged bank from the sections for an apply tick: each beam or layer with one is rebuilt on its carrier. A type-5
section staged without a channel entry counts once (Table 06-5, log 147). -/
def State.stageFrom (s : State) (secs : List CSection) : State :=
  let s := secs.foldl (fun s c =>
    if s.ciMissing c && !s.bf.missing.contains c.order then
      let s := { s with bf := { s.bf with missing := c.order :: s.bf.missing } }
      (s.addFld F.BF_CI_MISSING_COUNT 1).raiseFree 0x5005 (srcBlock 12) sevNotice
    else s) s
  (List.range 256).foldl (fun s i =>
    let dl := i / 128 == 1
    let k := i / 32 % 4
    let b := i % 32
    match secs.filter (fun c => c.dl == dl && c.car == k && c.unit == b) with
    | [] => s
    | l => s.stageUnit dl k b l) s

/-- All sections of the store for apply tick `v`, both directions. -/
def State.allSections (s : State) (v : Nat) : List CSection :=
  [false, true].flatMap (fun dl => (List.range 4).flatMap (fun k => s.sectionsFor dl k v))

/-- Some symbol has apply tick `v`. -/
def State.isApply (s : State) (v : Nat) : Bool :=
  [false, true].any (fun dl => (List.range 4).any (fun k => (s.symbolFor dl k v).isSome))

/-- The active banks take the staged ones, and staging starts from them (R194). -/
def State.swapBanks (s : State) : State :=
  { s with bf := { s.bf with ulActive := s.bf.ulStaged, dlActive := s.bf.dlStaged } }

/-- The staging that apply tick `v` is built from in a cascade: the sections up to the generation its commit record names
(R199). -/
def State.namedStaging (s : State) (v : Nat) : List CSection :=
  match s.cas.commits.find? (fun c => c.1 == v) with
  | some (_, g) => (s.cas.stagings.filter (fun p => p.u == v && !tickAfter p.gen g)).flatMap (·.secs)
  | none => []

/-- A cascade member holds the commit record for apply tick `v`. -/
def State.hasCommit (s : State) (v : Nat) : Bool := s.cas.commits.any (fun c => c.1 == v)

/-- BF_STAGE_GEN of a member: the newest generation it has built a staging of (R198, R206). -/
def State.namedGen (s : State) (v : Nat) : State :=
  match s.cas.commits.find? (fun c => c.1 == v) with
  | some (_, g) => if (s.namedStaging v).isEmpty then s else s.setFld F.BF_STAGE_GEN_GEN g
  | none => s

/-- A member on the boundary that opens apply tick `n`: a commit record that came after its stager's tick still acts; without one the
active weights stay (R199). While the upstream port is not UP nothing is raised (R358). -/
def State.memberApply (s : State) (n : Nat) : State :=
  if !s.isApply n || s.bf.builtFor == some n then s
  else if s.hasCommit n then (s.stageFrom (s.namedStaging n)).namedGen n
  else
    let s := s.addFld F.CAS_NOCOMMIT_COUNT 1
    if s.fld (F.CAS_P_STATUS_STATE (s.fld F.CAS_CFG_UP_PORT)) = 2 then
      s.raise 0x5009 (s.fld F.CAS_STATUS_HOP) (srcBlock 12) sevError
    else s

/-- The stager builds the staged bank for apply tick `v` during the tick before it (R194, R199). -/
def State.stageFor (s : State) (v : Nat) : State :=
  match s.casRole with
  | 0 =>
    let secs := s.allSections v
    if secs.isEmpty then s
    else (s.setFld F.BF_STAGE_GEN_GEN ((s.fld F.BF_STAGE_GEN_GEN + 1) % 2 ^ 32)).stageFrom secs
  | 1 => s.stageFrom (s.namedStaging v)
  | _ =>
    if s.isApply v && s.hasCommit v then
      let t := (s.stageFrom (s.namedStaging v)).namedGen v
      { t with bf := { t.bf with builtFor := some v } }
    else s

/-- The banks on the boundary that opens tick `n` (R194, R199): they swap, and the stager builds for `n + 1`. -/
def State.bankBoundary (s : State) : State :=
  let n := s.tickno
  let s := { s with bf := { s.bf with chan := s.bf.chan.map (ChanEntry.promote n) } }
  let s := if s.casRole = 2 then s.memberApply n else s
  let s := s.swapBanks
  let v := tickAdd n 1
  let s := s.stageFor v
  let s := { s with fh := { s.fh with csecs := s.fh.csecs.filter (fun c =>
    c.syms.any (fun st => !tickAfter n (s.applyOf c.dl c.car st))) } }
  { s with bf := { s.bf with missing := s.bf.missing.filter (fun o =>
    s.fh.csecs.any (fun c => c.order == o) || s.cas.stagings.any (fun p => p.secs.any (fun c => c.order == o))) } }

/-! ### Staging content on its way out of a cascade root (R359-R361) -/

/-- Downstream ports that are UP. -/
def State.casDown (s : State) : List Nat :=
  (List.range 4).filter (fun k => bitAt (s.fld F.CAS_CFG_DOWN) k && s.fld (F.CAS_P_STATUS_STATE k) == 2)

/-- Device slices behind a port. -/
def State.casBehind (s : State) (k : Nat) : List Nat := sget (fun _ => []) s.cas.subtree k

/-- Staging bits of sections on a port that leads to `n` devices: 32 per group and 2,048 per device slice of a group with
explicit weights (R359). -/
def State.stageBits (s : State) (secs : List CSection) (n : Nat) : Nat :=
  (List.range 256).foldl (fun a i =>
    let dl := i / 128 == 1
    let k := i / 32 % 4
    match secs.filter (fun c => c.dl == dl && c.car == k && c.unit == i % 32) with
    | [] => a
    | l => (s.groupRuns k l (s.carNrb dl k) 0 []).foldl (fun a g =>
      a + 32 + (if l.any (fun c => c.order == g.1.1 && c.weights.isSome) then 2048 * n else 0)) a) 0

/-- Content joins the queue of every downstream port: stagings, channel slices at 2,080 bits per region and device (R360), and
the sections whose content is new. -/
def State.queueStage (s : State) (parts : List StagedPart) (chans : List ChanPart) (fresh : List CSection) : State :=
  let regions := chans.foldl (fun a c => a + c.regions.length) 0
  let left := s.casDown.map (fun k =>
    (k, s.stageBits fresh (s.casBehind k).length + 2080 * regions * (s.casBehind k).length))
  { s with cas := { s.cas with outgoing := s.cas.outgoing ++ [⟨parts, chans, left⟩] } }

/-! ### Block 12: type-6 messages (R192, R360) -/

/-- The regions of a message with this device's weights, and with every slice's values; a region of wrong form has zero
weights, and the others of its message keep theirs (log 180). -/
def State.chanRegions (s : State) (rs : List (Nat × Nat × WeightSet)) : List (ChanRegion × Option ChanPiece) :=
  rs.map (fun (lo, n, w) =>
    match weightValues w (64 * s.arrayM) with
    | none => (⟨lo, n, zeroWeights⟩, none)
    | some h =>
      let m := maxComp h
      let own := (h.drop (64 * s.slice0)).take 64
      (⟨lo, n, conjWeights m own⟩, some ⟨lo, n, m, toSlices s.arrayM h⟩))

/-- The messages that the parser completed in the tick before are processed in the tick that closes; `over` is an overrun
of block 12, which also loses the staging that the open tick built, for the next one (R194, log 146). -/
def State.block12 (s : State) (ovr : Bool) : State :=
  let r := tickAdd s.tickno (2 ^ 32 - 1)
  let work := s.bf.chanMsgs.filter (fun m => m.1 == r)
  let s := { s with bf := { s.bf with chanMsgs := s.bf.chanMsgs.filter (fun m => m.1 != r) } }
  if ovr then
    { s with bf := { s.bf with
      ulStaged := s.bf.ulActive, dlStaged := s.bf.dlActive, builtFor := some (tickAdd s.tickno 1) } }
  else if work.isEmpty then s
  else
    let out := work.foldl (fun (a : State × Nat) (_, ue, rs) =>
      let (s, used) := a
      if s.blockCycles 12 < used + 2 * rs.length then
        ((s.addFld F.BF_CI_REFUSED_COUNT 1).raiseFree 0x5006 (srcBlock 12) sevWarning, used)
      else
        let cs := s.chanRegions rs
        let bad := (cs.filter (fun c => c.2.isNone)).length
        let s := if bad = 0 then s else (s.addFld F.BF_BAD_WEIGHTS_COUNT 1).raiseFree 0x5004 (srcBlock 12) sevNotice
        let serves := tickAdd r (2 + s.depth)
        let s := s.putChan ue serves (cs.map Prod.fst)
        let s := if s.casRole = 1 then s.queueStage [] [⟨ue, serves, cs.map (fun c => c.2.getD ⟨c.1.lo, c.1.n, 0, []⟩)⟩] [] else s
        (s, used + 2 * rs.length)) (s, 8)
    out.1.notePeak 12 out.2

/-! ### Quality records (R119, R297) -/

def State.queueQual (s : State) (q : QualRec) : State := { s with fh := { s.fh with quality := s.fh.quality ++ [q] } }

/-! ### A tick of the receive side (R177-R184) -/

/-- Samples kept of a stream: enough for the longest symbol and a tick. -/
def bufLength (g : Geo) : Nat := g.n + g.cpl + g.spt

/-- The samples that crossed in the tick that closes join the buffers of their carriers. -/
def State.bufferStreams (s : State) : State :=
  { s with bf := { s.bf with bufs := (List.range 256).foldl (fun m st =>
    let k := st % 4
    if s.carEn false k ∧ s.participates false k (st / 4) then
      sput (fun _ => []) m st
        (((sget (fun _ => []) s.rx.aligned st).reverse ++ sget (fun _ => []) m st).take (bufLength (s.geo false k)))
    else sput (fun _ => []) m st []) s.bf.bufs } }

/-- The `n` samples of a symbol's FFT window, `wb` samples early, from its cyclic prefix of `cp` samples on (R180). -/
def cutWindow (cp n wb : Nat) (xs : List RxSample) : List RxSample := (xs.drop (cp - wb)).take n

/-- The last `n` samples before `skip` newer ones of a newest-first buffer, oldest first; what the buffer lacks is VOID. -/
def lastSamples (n skip : Nat) (buf : List RxSample) : List RxSample :=
  let w := ((buf.drop skip).take n).reverse
  List.replicate (n - w.length) RxSample.void ++ w

/-- The FFT input of one path: window, policy, and the counts of R119. -/
def fftWindow (keep : Bool) (w : List RxSample) : List Cplx × (Nat × Nat × Nat) :=
  (w.map (fun x => if keep || x.q == .valid then x.v else Cplx.zero),
    (countQual .settling w, countQual .clipped w, countQual .void w))

/-- Symbols whose last sample crossed in the tick that closes (R177, R203). -/
def State.gatherSymbols (s : State) : State :=
  let pos := s.frameTick % 1920
  (List.range 4).foldl (fun s k =>
    let g := s.geo false k
    match (if s.carEn false k then g.endsIn pos else none) with
    | none => s
    | some m =>
      let start := tickAdd s.tickno (2 ^ 32 - (pos - g.start m / g.spt))
      if s.elapsed < sget (fun _ => 0) s.bf.since k + (pos - g.start m / g.spt) then s
      else
        let skip := (pos + 1) * g.spt - g.stop m
        let ds := ((List.range 64).filter (s.participates false k)).map (fun p =>
          (p, lastSamples (g.cp m + g.n) skip (sget (fun _ => []) s.bf.bufs (4 * p + k))))
        let sy : UlSymbol := ⟨k, start, tickAdd s.tickno 2, s.sfnAt start, slotIx g.mu s.frameTick m, symOfSlot g.mu s.frameTick m,
          g.n, s.carNrb false k, g.mu, g.cp m, false, [], ds⟩
        { s with bf := { s.bf with ulFft := s.bf.ulFft ++ [sy] } }) s

/-- The active subcarriers of a spectrum (R181). -/
def activeBins (n nrb : Nat) (xs : List Cplx) : List Cplx :=
  (List.range (12 * nrb)).map (fun i => xs.getD ((i + n - 6 * nrb) % n) Cplx.zero)

/-- R121: the symbol is designated idle for a path and stream. -/
def State.designated (s : State) (p : Nat) (y : UlSymbol) : Bool :=
  s.flag (F.RXP_NF_CTRL_EN p) && s.fld (F.RXP_NF_CTRL_STREAM p) == y.car &&
  bitAt (s.fld (F.RXP_NF_CTRL_SYMMASK p)) y.sym &&
  (let per := s.fld (F.RXP_NF_CTRL_PERIOD p)
   let ix := y.sfn * (10 * 2 ^ y.mu) + y.slot
   per != 0 && ix % per == s.fld (F.RXP_NF_OFFSET_OFFSET p) % per)

/-- One noise-floor measurement (R122); the rounding of the mean of 16 is left open (log 161). -/
def State.noteFloor (s : State) (p : Nat) (v : Int) : State :=
  let l := ((sget (fun _ => []) s.rx.floors p) ++ [v]).reverse.take 16 |>.reverse
  let s := { s with rx := { s.rx with floors := sput (fun _ => []) s.rx.floors p l } }
  let s := (s.setFld (F.RXP_NF_LAST p) (encode2c 16 v)).addFld (F.RXP_NF_COUNT p) 1
  let s := if l.length = 16 then s.setFld (F.RXP_NF_AVG_AVG p) (encode2c 16 (openRound (l.foldl (· + ·) 0) 16)) else s
  s.raise 0x3002 v.natAbs (srcRx p) sevDebug

/-- The noise floor of R122 [0.1 dBFS/Hz] from the summed power of `bins` bins of an `n`-point transform shifted by `sh`: the
mean, relative to a full-scale complex exponential in one bin, which is 2^15 N / 2^sh, less the subcarrier spacing. -/
def floorOf (power bins sh n mu : Nat) : Int :=
  if power = 0 then Config.silentFloor else openLog 100 (power * 2 ^ (2 * sh)) (bins * 2 ^ 30 * n ^ 2 * (15000 * 2 ^ mu))

/-- The bins within a carrier's bandwidth `bw` [MHz] of an `n`-point transform with spacing 15 * 2^mu kHz, those on its edges among them
(R122, log 199). -/
def bandBins (n mu bw : Nat) (xs : List Cplx) : List Cplx :=
  ((xs.zip (List.range n)).filter (fun x =>
    decide (2 * (if x.2 < n / 2 then x.2 else n - x.2) * 15 * 2 ^ mu ≤ 1000 * bw))).map Prod.fst

/-- log2 of a power of two. -/
def log2Of (n : Nat) : Nat := ((List.range 16).filter (fun i => decide (2 ^ i < n))).length

/-- Block 2: one symbol's windows under the policy and WB of its tick, its transforms, quality records and idle measurements. After an overrun the symbol is VOID: it is measured
on no path, and its sums are VOID (Table 02-4). -/
def State.fftSymbol (s : State) (ovr : Bool) (y : UlSymbol) : State :=
  let k := y.car
  let n := y.n
  let lg := log2Of n
  let sh := s.fld (F.BF_CAR_CFG_FFT_SHIFT k)
  let wb := s.fld (F.BF_CAR_WIN_WB k)
  let cuts : List (Nat × List Cplx × Nat × Nat × Nat) := y.wins.map (fun d =>
    (d.1, fftWindow (s.flag (F.RXP_STR_CFG_POLICY d.1 k)) (cutWindow y.cp n wb d.2)))
  let outs : List (Nat × List Cplx × Nat) := cuts.map (fun d =>
    let raw := fftBins lg sh wb (fit n d.2.1)
    let v := raw.map (fun c => (sat16 c).1)
    (d.1, v, satCount raw v))
  let s := s.addFld F.BF_FFT_SAT_COUNT (if ovr then 0 else outs.foldl (fun a o => a + o.2.2) 0)
  let s := cuts.foldl (fun s (p, _, a, b, c) =>
    if s.flag (F.RXP_STR_CFG_POLICY p k) ∧ 0 < a + b + c then
      s.queueQual ⟨tickAdd y.apply (2 ^ 32 - 2), 0, p, k, 0, y.sfn, y.slot, y.sym, a, b, c, k⟩
    else s) s
  let s := outs.foldl (fun s (p, xs, _) =>
    if s.designated p y then
      match cuts.find? (fun q => q.1 == p) with
      | some (_, _, 0, 0, 0) =>
        if ovr then s.addFld (F.RXP_NF_SKIP_COUNT p) 1 else
        let bins := bandBins n y.mu (s.fld (F.RXP_STR_CFG_BW p k)) xs
        s.noteFloor p (floorOf (bins.foldl (fun a c => a + c.norm) 0) bins.length sh n y.mu)
      | _ => s.addFld (F.RXP_NF_SKIP_COUNT p) 1
    else s) s
  let z := { y with void := ovr, wins := [], data := if ovr then [] else outs.map (fun o => (o.1, activeBins n y.nrb o.2.1)) }
  { s with bf := { s.bf with ulComb := s.bf.ulComb ++ [z] } }

/-- The group of a bank that holds a PRB of a carrier. -/
def groupFor (gs : List WGroup) (k prb : Nat) : Option WGroup :=
  gs.find? (fun g => g.car == k && decide (g.lo ≤ prb) && decide (prb < g.lo + g.n))

/-- The 12 sums of one PRB of a beam (R184). -/
def combinePrb (w : List Cplx) (xs : List (Nat × List Cplx)) (prb : Nat) : List Cplx :=
  (List.range 12).map (fun i =>
    xs.foldl (fun a (p, x) => a.add ((w.getD p Cplx.zero).mul (x.getD (12 * prb + i) Cplx.zero))) Cplx.zero)

/-- A carrier's sums of one beam; retired paths contribute zero (R200). -/
def State.combineBeam (s : State) (void : Bool) (b k nrb : Nat) (xs : List (Nat × List Cplx)) : List UlBlock :=
  let live := xs.filter (fun x => !s.rxRetired x.1)
  let gs := s.activeBank false b
  (List.range nrb).map (fun prb =>
    match groupFor gs k prb with
    | some g => ⟨void, combinePrb g.w live prb⟩
    | none => ⟨void, List.replicate 12 Cplx.zero⟩)

/-- U-plane data that sections of types 1 and 5 request for a symbol (R293). -/
def State.requests1 (s : State) (k start : Nat) : List UlReq :=
  (s.fh.csecs.filter (fun c => !c.dl && c.car == k && (c.kind == 1 || c.kind == 5) && c.syms.contains start)).map
    (fun c => ⟨c.unit, c.secId, c.lo, c.n, c.eaxc, c.port, c.order⟩)

/-- Block 3: one symbol combined in its apply tick. -/
def State.combineSymbol (s : State) (ovr : Bool) (y : UlSymbol) : State :=
  let k := y.car
  let void := ovr || y.void || s.ownVoid || (s.casRole == 2 && !s.cas.commits.any (fun c => c.1 == y.apply))
  let bs := ((List.range 32).filter (fun b => s.unitOn false b k)).map (fun b => (b, s.combineBeam void b k y.nrb y.data))
  let h : UlHeld := ⟨tickAdd y.apply (s.depth - s.fld F.CAS_STATUS_HOP), k, y.start, y.sfn, y.slot, y.sym, bs,
    bs.map (fun b => (b.1, s.fld (F.BF_UL_BEAM_SHIFT b.1))), y.mu, s.requests1 k y.start⟩
  { s with bf := { s.bf with held := s.bf.held ++ [h] } }

/-- Receive side of Dahlia for the tick that closes: block 3, block 2, then the symbols that have just ended; `over` lists
the blocks that overran. -/
def State.ulTick (s : State) (ovr : List Nat) : State :=
  let cs := s.bf.ulComb
  let fs := s.bf.ulFft
  let s := { s with bf := { s.bf with ulComb := [], ulFft := [] } }
  let s := cs.foldl (fun s y => s.combineSymbol (ovr.contains 3) y) s
  let s := fs.foldl (fun s y => s.fftSymbol (ovr.contains 2) y) s
  let s := if ovr.contains 2 then { s with bf := { s.bf with bufs := [] } } else s
  s.bufferStreams.gatherSymbols

/-! ### A tick of the transmit side (R185) -/

/-- `xs` written over `base` from position `lo`. -/
def placeAt (base : List Cplx) (lo : Nat) (xs : List Cplx) : List Cplx :=
  base.take lo ++ (xs.take (base.length - lo)) ++ base.drop (lo + xs.length)

/-- csf and modCompScaler for a section: those of extension 4 that came with it or with the C-plane section of the same symbol and
sectionId, else the carrier's default (R269). -/
def State.scalerFor (s : State) (w : DlWait) : Option (Nat × Nat) :=
  match w.part.scaler with
  | some x => some x
  | none => (s.fh.csecs.find? (fun c => c.dl && c.unit == w.part.layer && c.car == w.part.car && c.secId == w.secId &&
      c.syms.contains w.part.start && c.scaler.isSome)).bind (·.scaler)

/-- How a section is coded: as its carrier stands in the tick that parses it, four ticks before its symbol's air tick (R259, R269,
R310). -/
def State.parse (s : State) (w : DlWait) : DlWait :=
  let k := w.part.car
  let hdr := w.part.hdr.getD 0
  let dyn := s.flag (F.CMP_DL_CAR_DYN k)
  let meth := if dyn then hdr % 16 else s.fld (F.CMP_DL_CAR_METH k)
  let width := width16 (if dyn then hdr / 16 % 16 else s.fld (F.CMP_DL_CAR_WIDTH k))
  let (csf, sc) := (s.scalerFor w).getD (0, s.fld (F.CMP_DL_CAR_MODSCALE k))
  { w with coding := (meth, width, csf, sc) }

/-- Sections whose symbol is parsed in the tick that closes. -/
def State.parseTick (s : State) : State :=
  let x := tickAdd s.tickno 4
  { s with fh := { s.fh with ingress := s.fh.ingress.map (fun w => if w.part.start = x then s.parse w else w) } }

/-- Block 9 restores a section's samples (R259, R265, R269). -/
def State.decompress (s : State) (w : DlWait) : State × DlWait × List Cplx :=
  let k := w.part.car
  let (meth, width, csf, sc) := w.coding
  if methodOk true meth width then
    let (xs, sat) := expandSection meth width csf sc w.part.n w.part.bytes
    (s.addFld F.CMP_DEC_SAT_COUNT sat, w, xs)
  else ((s.addFld F.CMP_BAD_METH_COUNT 1).slotAdd slotMeth true k 1, w, List.replicate (12 * w.part.n) Cplx.zero)

/-- Layer data of a carrier's symbol from its sections. -/
def State.layerData (s : State) (k : Nat) (ws : List (DlWait × List Cplx)) : List (Nat × List Cplx) :=
  let ws := ws.filter (fun w => w.1.part.car == k)
  (((List.range 32).filter (fun l => s.unitOn true l k && ws.any (fun w => w.1.part.layer == l)))).map (fun l =>
    (l, (ws.filter (fun w => w.1.part.layer == l)).foldl (fun b w => placeAt b (12 * w.1.part.lo) w.2)
      (List.replicate (12 * s.carNrb true k) Cplx.zero)))

/-- The antenna spectrum of a path (R185), and its saturated components. -/
def State.expandPath (s : State) (k a : Nat) (ls : List (Nat × List Cplx)) : List Cplx × Nat :=
  let sh := 14 + s.fld (F.BF_CAR_CFG_OUT_SHIFT (carIx true k))
  let rs := (List.range (s.carNrb true k)).flatMap (fun prb =>
    let gs := ls.filterMap (fun (l, xs) => (groupFor (s.activeBank true l) k prb).map (fun g => (g.w.getD a Cplx.zero, xs)))
    (List.range 12).map (fun i =>
      let acc := gs.foldl (fun c (w, xs) => c.add (w.mul (xs.getD (12 * prb + i) Cplx.zero))) Cplx.zero
      let raw := acc.map (fun v => roundEven v sh)
      let v := (sat16 raw).1
      (v, b2n (v.re != raw.re) + b2n (v.im != raw.im))))
  (rs.map Prod.fst, rs.foldl (fun n r => n + r.2) 0)

/-- Blocks 9 and 4 in apply tick `n`: each carrier's symbol that starts in air tick `n + 3`. -/
def State.expandTick (s : State) (ovr : Bool) : State :=
  let x := tickAdd s.tickno 3
  let ft := s.frameAt x
  let (s, ws) := (s.fh.ingress.filter (fun w => w.part.start == x)).foldl (fun (a : State × List (DlWait × List Cplx)) w =>
    let (t, d) := a.1.decompress w
    (t, a.2 ++ [d])) (s, [])
  let s := (List.range 4).foldl (fun s k =>
    let g := s.geo true k
    match (if s.carEn true k then g.startsIn (ft % 1920) else none) with
    | none => s
    | some m =>
      let ls := s.layerData k ws
      let ps := (List.range 64).filter (s.participates true k)
      let out := if ovr then [] else ps.map (fun a => (a, s.expandPath k a ls))
      let sat := out.foldl (fun n o => n + o.2.2) 0
      let s := (s.addFld F.BF_DL_SAT_COUNT sat).symbolAdd slotSat true k (s.sfnAt x) (slotIx g.mu ft m) (symOfSlot g.mu ft m) sat
      let y : DlSymbol := ⟨k, x, g.start m % g.spt, g.cp m, g.n, s.carNrb true k, out.map (fun o => (o.1, o.2.1))⟩
      { s with bf := { s.bf with dlFft := s.bf.dlFft ++ [y] } }) s
  { s with fh := { s.fh with ingress := s.fh.ingress.filter (fun w => tickAfter w.part.start x) } }

/-- The bins of a spectrum (R181). -/
def spreadBins (n nrb : Nat) (xs : List Cplx) : List Cplx :=
  (List.range n).map (fun b =>
    let i := (b + 6 * nrb) % n
    if i < 12 * nrb then xs.getD i Cplx.zero else Cplx.zero)

/-- Block 5: one symbol's inverse transforms and cyclic prefix, joined to the stream samples (R51, R182). -/
def State.ifftSymbol (s : State) (ovr : Bool) (y : DlSymbol) : State :=
  let k := y.car
  let n := y.n
  let nrb := y.nrb
  let lg := log2Of n
  let sh := s.fld (F.BF_CAR_CFG_FFT_SHIFT (carIx true k))
  if ovr then s
  else
    y.data.foldl (fun s (p, xs) =>
      let raw := ifftSamples lg sh (spreadBins n nrb xs)
      let v := raw.map (fun c => (sat16 c).1)
      let sat := satCount raw v
      let q := sget (fun _ => []) s.bf.txQueue (4 * p + k)
      let s := s.addFld F.BF_IFFT_SAT_COUNT sat
      let m := sput (fun _ => []) s.bf.txQueue (4 * p + k) (fit y.offset q ++ v.drop (n - y.cp) ++ v)
      { s with bf := { s.bf with txQueue := m } }) s

/-- An overrun of block 4 or 5: the air tick it worked on is VOID on every path with a stream (Table 05-3). -/
def State.overrunAir (s : State) (x : Nat) : State :=
  ((List.range 64).filter s.txUsed).foldl (fun s p => s.voidThenSettle p x) s

/-- Transmit side of Dahlia for the tick that closes: block 5, then block 4. -/
def State.dlTick (s : State) (ovr : List Nat) : State :=
  let s := if ovr.contains 5 then s.overrunAir (tickAdd s.tickno 2) else s
  let s := if ovr.contains 4 then s.overrunAir (tickAdd s.tickno 3) else s
  let ys := s.bf.dlFft
  let s := { s with bf := { s.bf with dlFft := [] } }
  let s := ys.foldl (fun s y => s.ifftSymbol (ovr.contains 5) y) s
  (s.expandTick (ovr.contains 4)).parseTick

/-! ### Commits (R177, R203) -/

/-- EXCL of every carrier, and the loads, as the paths in service change (R177, R183). -/
def State.refreshExcl (s : State) : State :=
  ((List.range 8).foldl (fun s i => s.setFld (F.BF_CAR_STAT_EXCL i) (s.excluded (i / 4 == 1) (i % 4))) s).refreshBfLoad

/-- A commit on carrier `k` of a direction: its excluded paths, compared with those before it under the retirements of now, since a
retirement raises nothing (R177), and NLOG where it wrote the carrier's configuration (R206). -/
def State.carrierCommit (s old : State) (dl : Bool) (k : Nat) : State :=
  let i := carIx dl k
  let same := { old with fault := { old.fault with retired := s.fault.retired } }
  let n := s.excluded dl k
  let s := s.setFld (F.BF_CAR_STAT_EXCL i) n
  let s := if old.reg (F.BF_CAR_CFG_EN i).addr = s.reg (F.BF_CAR_CFG_EN i).addr then s
    else s.setFld (F.BF_CAR_CFG_NLOG i) (nlogOf (s.carRate dl k) (s.carMu dl k))
  if s.carEn dl k ∧ n ≠ same.excluded dl k then s.raise 0x5001 n (srcBlock (if dl then 5 else 2)) sevWarning else s

/-- An uplink carrier that a commit changes or enables gathers anew from here on; a symbol under way is dropped (R203). -/
def State.gatherAnew (s old : State) (k : Nat) : State :=
  let moved := old.geo false k != s.geo false k || old.carNrb false k != s.carNrb false k ||
    (s.carEn false k && !old.carEn false k)
  if !moved then s
  else
    let g := old.geo false k
    let pos := s.frameTick % 1920
    let straddles := old.carEn false k && (List.range g.count).any (fun m =>
      decide (g.start m < pos * g.spt) && decide (pos * g.spt < g.stop m))
    let s := { s with bf := { s.bf with since := sput (fun _ => 0) s.bf.since k s.elapsed } }
    if straddles then s.addFld (F.BF_CAR_STAT_DROPPED k) 1 else s

/-- The beamformer's side of a commit; `old` is the state before it. -/
def State.bfCommit (s old : State) : State :=
  let s := (List.range 8).foldl (fun s i => s.carrierCommit old (i / 4 == 1) (i % 4)) s
  let s := (List.range 4).foldl (fun s k => s.gatherAnew old k) s
  let s := s.setFld F.BF_STATUS_UL_CARRIERS (listMask 4 ((List.range 4).filter (s.carEn false)))
  let s := s.setFld F.BF_STATUS_DL_CARRIERS (listMask 4 ((List.range 4).filter (s.carEn true)))
  let s := s.refreshBfLoad.refreshFhLoad
  let touched := (List.range 8).any (fun i => old.reg (0x200100 + 0x40 * i) != s.reg (0x200100 + 0x40 * i)) ||
    (List.range 64).any (fun i => old.reg (0x200300 + 4 * i) != s.reg (0x200300 + 4 * i))
  if touched ∧ !s.fhFits then s.raiseFree 0x8004 (srcBlock 8) sevError else s

/-! ### Commands (R202-R204) -/

/-- Record `i` of BF_LOAD_BEAM_TABLE. -/
def beamRecord (c : Cmd) (i : Nat) : Nat × List Cplx :=
  let o := 4 + 260 * i
  (leAt c.payload o 2, (List.range 64).map (fun a => ⟨sleAt c.payload (o + 4 + 4 * a) 2, sleAt c.payload (o + 6 + 4 * a) 2⟩))

def chkBfLoadBeamTable (c : Cmd) : Option Status :=
  let n := leAt c.payload 0 1
  if n = 0 ∨ 15 < n ∨ c.payload.length ≠ 4 + 260 * n ∨ !zeroAt c.payload 1 3 ∨
      (List.range n).any (fun i => decide (4096 ≤ (beamRecord c i).1) || !zeroAt c.payload (6 + 260 * i) 2) then some .badParam
  else none

def execBfLoadBeamTable (tag : Nat) (s : State) : Host.Outcome State Fault Refusal :=
  .next (s.performCommit 0x0500 tag anyOp (fun c s =>
    let rs := (List.range (leAt c.payload 0 1)).map (beamRecord c)
    s.armCmd c (rs.map (fun r => .beamEntry r.1)) (rs.map (fun r => .beam r.1 r.2)) [] .ok false []))

def setEn (c : Cmd) : Bool := bitAt (leAt c.payload 3 1) 0
def setDl (c : Cmd) : Bool := leAt c.payload 1 1 == 1
def setIx (c : Cmd) : Nat := leAt c.payload 2 1

/-- Rules of R178 to R181 for an enabled carrier. -/
def carrierOk (s : State) (c : Cmd) : Bool :=
  let p := c.payload
  let rate := leAt p 4 1
  let mu := leAt p 5 1
  let nrb := leAt p 6 2
  let n := fftSize rate mu
  let cpn := leAt p 10 2
  let cpl := leAt p 12 2
  let t := s.prospect c.actTick []
  let k := setIx c
  decide (rate ≤ 4 ∧ mu ≤ 4 ∧ (n = 512 ∨ n = 1024 ∨ n = 2048 ∨ n = 4096) ∧ 1 ≤ nrb ∧ nrb ≤ 275 ∧
    12 * nrb * 1000 ≤ 825 * n ∧ leAt p 8 1 ≤ nlogOf rate mu + 9 ∧ leAt p 9 1 ≤ (if setDl c then 5 else 0) ∧
    cpn ≤ cpl ∧ 4 * cpl ≤ n ∧ 7 * 2 ^ mu * (n + cpn) + (cpl - cpn) ≤ rateS rate * 1920 ∧
    leAt p 14 2 ≤ (if setDl c then 0 else cpn)) &&
  (List.range 64).all (fun q =>
    if setDl c then !(t.txEn q k && decide (t.fld (F.TXP_STR_CFG_RATE q k) = rate)) ||
      decide (12 * nrb * 15 * 2 ^ mu ≤ 1000 * t.fld (F.TXP_STR_CFG_BW q k))
    else !(t.rxEn q k && decide (t.fld (F.RXP_STR_CFG_RATE q k) = rate)) ||
      decide (12 * nrb * 15 * 2 ^ mu ≤ 1000 * t.fld (F.RXP_STR_CFG_BW q k)))

/-- Check 11 of BF_SET_LAYERS (R203). -/
def chkBfSetLayers (s : State) (c : Cmd) : Option Status :=
  let p := c.payload
  if c.op = 0 then
    if p.length ≠ 16 ∨ 2 ≤ leAt p 1 1 ∨ 4 ≤ leAt p 2 1 ∨ 2 ≤ leAt p 3 1 ∨ (setEn c ∧ !carrierOk s c) then some .badParam
    else none
  else if c.op = 1 then
    if p.length ≠ 8 ∨ 2 ≤ leAt p 1 1 ∨ 32 ≤ leAt p 2 1 ∨ 2 ≤ leAt p 3 1 ∨
        (setEn c ∧ (16 ≤ leAt p 4 1 ∨ (if setDl c then 0 else 7) < leAt p 5 1 ∨ !zeroAt p 6 2)) then some .badParam
    else none
  else some .badParam

/-- What BF_SET_LAYERS changes: with EN 0, EN alone. -/
def layerChanges (c : Cmd) : List Change :=
  let p := c.payload
  if c.op = 0 then
    let i := carIx (setDl c) (setIx c)
    if setEn c then
      let rate := leAt p 4 1
      let mu := leAt p 5 1
      [.reg (0x200100 + 0x40 * i) 0xFFFF01FF
        (2 ^ 31 + mu * 2 ^ 28 + rate * 2 ^ 25 + nlogOf rate mu * 2 ^ 23 + leAt p 8 1 * 2 ^ 19 + leAt p 9 1 * 2 ^ 16 + leAt p 6 2),
       .reg (0x200104 + 0x40 * i) 0xFFFFFFFF (leAt p 12 2 * 2 ^ 16 + leAt p 10 2),
       .reg (0x200108 + 0x40 * i) 0xFFFF (leAt p 14 2)]
    else [.reg (0x200100 + 0x40 * i) 0x80000000 0]
  else
    let a := (if setDl c then 0x200380 else 0x200300) + 4 * setIx c
    if setEn c then [.reg a 0x8700000F (2 ^ 31 + leAt p 5 1 * 2 ^ 24 + leAt p 4 1)] else [.reg a 0x80000000 0]

/-- Check 12: R363 at a cascade root. -/
def limitBfSetLayers (s : State) (c : Cmd) : Bool :=
  let t := s.prospect c.actTick (layerChanges c)
  t.casRole != 1 || t.fhFits

def layerUnit (c : Cmd) : CommitUnit :=
  if c.op = 0 then .bfCarrier (setDl c) (setIx c) else if setDl c then .dlLayer (setIx c) else .ulBeam (setIx c)

/-- BF_SET_LAYERS operations 0 and 1. -/
def execBfSetCarrier (tag : Nat) (s : State) : Host.Outcome State Fault Refusal :=
  .next (s.performCommit 0x0501 tag (isOp 0) (fun c s => s.armCmd c [layerUnit c] (layerChanges c) [] .ok false []))

def execBfSetBeamLayer (tag : Nat) (s : State) : Host.Outcome State Fault Refusal :=
  .next (s.performCommit 0x0501 tag (isOp 1) (fun c s => s.armCmd c [layerUnit c] (layerChanges c) [] .ok false []))

def chkBfGetRetiredMask (c : Cmd) : Option Status := if c.payload.isEmpty then none else some .badParam

/-- BF_GET_RETIRED_MASK (R204). -/
def execBfGetRetiredMask (tag : Nat) (s : State) : Host.Outcome State Fault Refusal :=
  .next (s.performStart 0x0502 tag anyOp (fun c s =>
    s.finishNow c.tag .ok (leBytes 8 s.rxRetMask ++ leBytes 8 s.txRetMask ++ leBytes 4 (s.fld F.BF_RET_TICK_TICK) ++ leBytes 4 0)))

/-! ### The window (R206) -/

/-- The word of a weight: I in bits 15:0, Q in bits 31:16. -/
def weightWord (c : Cplx) : Nat := encode2c 16 c.re + 2 ^ 16 * encode2c 16 c.im

def bankWord (bank : List (Nat × List WGroup)) (i : Nat) : Nat :=
  match (sget (fun _ => []) bank (i / 8192 % 32))[i % 128]? with
  | some g => weightWord (g.w.getD (i / 128 % 64) Cplx.zero)
  | none => 0

/-- The word at BF_WIN_ADDR. Regions 6 to 15 are reserved and read 0. -/
def State.bfWindow (s : State) (region i : Nat) : Nat :=
  match region with
  | 0 => bankWord s.bf.ulActive i
  | 1 => bankWord s.bf.ulStaged i
  | 2 => bankWord s.bf.dlActive i
  | 3 => bankWord s.bf.dlStaged i
  | 4 => weightWord ((sget (fun _ => []) s.bf.table (i / 64)).getD (i % 64) Cplx.zero)
  | 5 =>
    match s.bf.chan[i / 1024]? with
    | some e => (match e.regions[i / 64 % 16]? with
      | some r => weightWord (r.w.getD (i % 64) Cplx.zero)
      | none => 0)
    | none => 0
  | _ => 0

def State.readBfWin (s : State) : Nat × State :=
  let i := s.fld F.BF_WIN_ADDR_INDEX
  (s.bfWindow (s.fld F.BF_WIN_ADDR_REGION) i, s.setFld F.BF_WIN_ADDR_INDEX ((i + 1) % 2 ^ 18))

end Sys2Proof.Machine
end

