-- ==== Sys2Proof/Machine/Zadoff.lean ====
section
/-!
DEFINITION. Sys2Proof/Machine/Zadoff.lean: Poppy's arithmetic: the roots and Zadoff-Chu sequences of the preambles (R240), the
transform of a repetition to the PRACH spacing (R244), and the correlation with a root and its peaks (R245, R246).
-/
namespace Sys2Proof.Machine

/-! ### Roots (R240) -/

/-- Every second physical root of length 839 in the order of the logical index, as TS 38.211 tabulates them; the root after `u` is
`839 - u` (log 150). -/
def roots839a : List Nat :=
  [129, 140, 120, 210, 168, 84, 105, 93, 70, 60, 2, 1, 56, 112, 148, 80, 42, 40, 35, 73, 146, 31, 28, 30, 27, 29, 24, 48,
   68, 74, 178, 136, 86, 78, 43, 39, 20, 21, 95, 202, 190, 181, 137, 125, 151, 217, 128, 142, 122, 203, 118, 110, 89,
   103, 61, 55, 15, 14, 12, 23, 34, 37, 46, 207, 179, 145, 130, 223, 228, 227, 132, 133, 143, 135, 161, 201, 173, 106,
   83, 91, 66, 53, 10, 9]

def roots839b : List Nat :=
  [7, 8, 16, 47, 64, 57, 104, 101, 108, 208, 184, 197, 191, 121, 141, 149, 216, 218, 152, 144, 134, 138, 199, 162, 176,
   119, 158, 164, 174, 171, 170, 87, 169, 88, 107, 81, 82, 100, 98, 71, 59, 65, 50, 49, 26, 17, 13, 6, 5, 33, 51, 75, 99,
   96, 97, 166, 172, 175, 187, 163, 185, 200, 114, 189, 115, 194, 195, 192, 182, 157, 156, 211, 154, 123, 139, 212, 153,
   213, 215, 150, 225, 224, 221, 220]

def roots839c : List Nat :=
  [127, 147, 124, 193, 205, 206, 116, 160, 186, 167, 79, 85, 77, 92, 58, 62, 69, 54, 36, 32, 25, 18, 11, 4, 3, 19, 22,
   41, 38, 44, 52, 45, 63, 67, 72, 76, 94, 102, 90, 109, 165, 111, 209, 204, 117, 188, 159, 198, 113, 183, 180, 177, 196,
   155, 214, 126, 131, 219, 222, 226, 230, 232, 262, 252, 418, 416, 413, 411, 376, 395, 283, 285, 379, 390, 363, 384,
   388, 386, 361, 387, 360, 310, 354, 328]

def roots839d : List Nat :=
  [315, 337, 349, 335, 324, 323, 320, 334, 359, 295, 385, 292, 291, 381, 399, 380, 397, 369, 377, 410, 407, 281, 414,
   247, 277, 271, 272, 264, 259, 237, 239, 244, 243, 275, 278, 250, 246, 417, 248, 394, 393, 370, 365, 300, 299, 364,
   362, 298, 312, 313, 314, 353, 352, 343, 327, 350, 326, 319, 332, 333, 348, 347, 322, 330, 338, 341, 340, 342, 301,
   366, 401, 371, 408, 375, 249, 269, 238, 234, 257, 273, 255, 254, 245, 251]

def roots839e : List Nat :=
  [412, 372, 282, 403, 396, 392, 391, 382, 389, 294, 297, 311, 344, 345, 318, 331, 325, 321, 346, 339, 351, 306, 289,
   400, 378, 374, 415, 270, 241, 231, 260, 268, 276, 409, 398, 290, 304, 308, 358, 316, 293, 288, 284, 368, 253, 256,
   263, 242, 274, 402, 383, 357, 329, 317, 307, 286, 287, 266, 261, 236, 303, 356, 355, 405, 404, 406, 235, 267, 302,
   309, 265, 233, 367, 296, 336, 305, 373, 280, 279, 419, 240, 258, 229]

def roots839 : List Nat := roots839a ++ roots839b ++ roots839c ++ roots839d ++ roots839e

/-- The physical root of a logical index for a sequence length (log 150): pairs `u`, `L - u`, in the order of their table, or
with `u` rising from 1. -/
def physicalRoot (len logical : Nat) : Nat :=
  let u := if len = 839 then roots839.getD (logical / 2) 1 else logical / 2 + 1
  if logical % 2 = 0 then u else len - u

/-- Cyclic shifts of a root (R240); preamble `i` is shift `i % n` of the root `i / n` after ROOT. -/
def rootShifts (len ncs : Nat) : Nat := if ncs = 0 then 1 else len / ncs

/-- The physical root that is `j` roots after the logical index ROOT, with wrap. -/
def rootAfter (len root j : Nat) : Nat := physicalRoot len ((root + j) % (len - 1))

/-! ### Sequences -/

/-- e^(j 2 pi p / q), by the nearest 96 bits of the turn below it. -/
def turn (p q : Nat) : Cplx := cis 96 (p % q * 2 ^ 96 / q)

/-- The Zadoff-Chu sequence of a root: e^(-j pi u i (i + 1) / L), in units of 2^-96. -/
def zadoff (len u : Nat) : List Cplx :=
  (List.range len).map (fun i => turn (len - u * (i * (i + 1) / 2) % len) len)

/-- Its spectrum, of magnitude sqrt L. -/
def zadoffSpectrum (len u : Nat) : List Cplx :=
  let xs := zadoff len u
  (List.range len).map (fun k =>
    (xs.zip (List.range len)).foldl (fun a (x, i) => a.add (waveMul x (turn (len - i * k % len) len))) Cplx.zero)

/-! ### The transform of a repetition (R244) -/

/-- The DFT of `3 * 2^lg` samples, in units of 2^-96. -/
def dft3 (lg : Nat) (xs : List Cplx) : List Cplx :=
  let n := 3 * 2 ^ lg
  let part := fun (i : Nat) => dft lg ((List.range (2 ^ lg)).map (fun m => xs.getD (3 * m + i) Cplx.zero))
  let a := part 0
  let b := part 1
  let c := part 2
  (List.range n).map (fun k =>
    let at_ := fun (l : List Cplx) => l.getD (k % 2 ^ lg) Cplx.zero
    ((at_ a).add (waveMul (at_ b) (turn (n - k % n) n))).add (waveMul (at_ c) (turn (n - 2 * k % n) n)))

/-- The DFT of a repetition: its length is a power of two, or three times one. -/
def dftRep (xs : List Cplx) : List Cplx :=
  let n := xs.length
  if n % 3 = 0 then dft3 ((List.range 20).countP (fun i => decide (3 * 2 ^ i < n))) xs
  else dft ((List.range 20).countP (fun i => decide (2 ^ i < n))) xs

/-- The occasion's subcarriers in a repetition: the first lies `freq` half subcarriers from the stream's centre. The transform's
scale and rounding are not stated (log 151). -/
def prachBins (len sh : Nat) (freq : Int) (xs : List Cplx) : List Cplx :=
  let n := xs.length
  let half := (freq % 2).toNat
  let turned := if half = 0 then xs.map (fun x => x.scale (2 ^ 96)) else
    (xs.zip (List.range n)).map (fun (x, i) => x.mul (turn (2 * n - i) (2 * n)))
  let spec := dftRep turned
  (List.range len).map (fun (k : Nat) =>
    (sat16 ((spec.getD (((freq - half) / 2 + k) % n).toNat Cplx.zero).map (fun c => openWave c (192 + sh)))).1)

/-- One subcarrier of a beam's spectrum in a repetition: the arithmetic of R184 with SHIFT 6. -/
def prachBeamBin (w : List Cplx) (specs : List (Nat × List Cplx)) (k : Nat) : Cplx :=
  (sat16 ((specs.foldl (fun a (p, x) => a.add ((w.getD p Cplx.zero).mul (x.getD k Cplx.zero))) Cplx.zero).map
    (fun c => roundEven c 20))).1

/-! ### Correlation (R245) -/

/-- Squared magnitudes [2^-64] of the correlation of a summed spectrum with a root, at delays in 1/8 bin; a unit spectrum of the
root would give them divided by L. -/
def correlation (len u : Nat) (sums : List Cplx) : List Nat :=
  let ps := (sums.zip (zadoffSpectrum len u)).map (fun (s, y) => s.mul y.conj)
  (List.range (8 * len)).map (fun t =>
    (((ps.zip (List.range len)).foldl (fun a (p, n) => a.add (waveMul p (turn (n * t) (8 * len)))) Cplx.zero).map
      (fun c => c / 2 ^ 64)).norm)

/-- Delays from `lo` on, `n` of them, at which a correlation has a peak: no neighbour exceeds it (log 152). -/
def peaksAt (c : List Nat) (lo n : Nat) : List Nat :=
  let len := c.length
  ((List.range n).map (fun i => lo + i)).filter (fun t =>
    let v := c.getD t 0
    decide (c.getD ((t + len - 1) % len) 0 < v) && decide (c.getD ((t + 1) % len) 0 ≤ v))

/-- The noise power per PRACH subcarrier that a floor `f` [0.1 dBFS/Hz] implies for a transform of `n` samples at `hz` spacing, in
units of 2^-64 of a squared LSB (R246). -/
def noiseOf (f : Int) (hz n sh : Nat) : Nat := floorPower 160 (4 ^ sh) (2 ^ 94 * hz * n ^ 2) f 100

end Sys2Proof.Machine
end

