-- ==== Sys2Proof/Machine/Prach.lean ====
section
/-!
DEFINITION. Sys2Proof/Machine/Prach.lean: Poppy: configurations (R239, R254), occasions and their beams (R241-R243), combination
and detection (R244-R247), the forming of reports (R249, R250), the report ring (R253) and PRACH_READ_REPORT (R255).
-/
namespace Sys2Proof.Machine

/-! ### Configurations -/

/-- Sequence length of a SEQ code, and subcarrier spacing [Hz] of an SCS code (Table 08-1). -/
def zcLength (seq : Nat) : Nat := [839, 139, 571, 1151].getD seq 0
def scsHz (scs : Nat) : Nat := [1250, 5000, 15000, 30000, 60000, 120000].getD scs 1
def scsAllowed (seq scs : Nat) : Bool :=
  match seq with
  | 0 => scs == 0 || scs == 1
  | 1 => decide (2 ≤ scs ∧ scs ≤ 5)
  | 2 => scs == 3
  | 3 => scs == 2
  | _ => false

/-- REQ of block 7 (R248). -/
def State.praSum (s : State) : Nat :=
  ((List.range 4).filter (fun c => s.flag (F.PRA_CFG_CTRL_EN c))).foldl (fun a c => a + s.fld (F.PRA_CFG_CTRL_MAXB c)) 0

def State.praReq (s : State) : Nat := if s.praSum = 0 then 0 else 16 + 5 * s.praSum

/-- Check 8 of the PRACH opcodes: not in DOZE (R256). -/
def ctxPrach (s : State) : Option Status := if s.fld F.PWR_STATUS_STATE = 3 then some .notPermitted else none

/-- The receive paths in service that have a stream enabled. -/
def State.streamPaths (s : State) (k : Nat) : List Nat := (List.range 64).filter (fun p => s.rxEn p k && !s.rxRetired p)

/-- An enabled configuration's stream is enabled, at rate codes 0 to 3 (R239, log 154). -/
def State.prachStreamOk (s : State) (k : Nat) : Bool :=
  !(s.streamPaths k).isEmpty && (s.streamPaths k).all (fun p => decide (s.fld (F.RXP_STR_CFG_RATE p k) ≤ 3))

/-- Check 11 of PRACH_CONFIG (R254). -/
def chkPrachConfig (s : State) (c : Cmd) : Option Status :=
  let p := c.payload
  let fl := leAt p 1 1
  let nz := zcLength (leAt p 2 1)
  let ncs := leAt p 8 2
  let floor := sleAt p 12 2
  let t := s.prospect c.actTick []
  let k := leAt p 4 1
  if p.length ≠ 24 ∨ 4 ≤ leAt p 0 1 ∨ 8 ≤ fl ∨ fl / 2 = 0 ∨ 4 ≤ leAt p 2 1 ∨ !scsAllowed (leAt p 2 1) (leAt p 3 1) ∨
      4 ≤ k ∨ leAt p 5 1 = 0 ∨ 16 < leAt p 5 1 ∨ nz < leAt p 6 2 + 2 ∨ nz ≤ ncs ∨ leAt p 10 2 < 30 ∨ 300 < leAt p 10 2 ∨
      floor < -1800 ∨ -1000 < floor ∨ leAt p 14 1 = 0 ∨ 63 < leAt p 14 1 ∨ !zeroAt p 15 9 ∨ (0 < ncs ∧ ncs < leAt p 14 1) ∨
      (bitAt fl 0 ∧ !t.prachStreamOk k) ∨
      (List.range 64).any (fun q => t.rxEn q k &&
        decide (t.fld (F.RXP_STR_CFG_BW q k) * 1000000 < nz * scsHz (leAt p 3 1))) then some .badParam
  else none

/-- The registers PRACH_CONFIG writes. -/
def prachChanges (c : Cmd) : List Change :=
  let p := c.payload
  let i := leAt p 0 1
  let fl := leAt p 1 1
  [.reg (0x230100 + 0x20 * i) 0xFFDF07FF
    (fl % 2 * 2 ^ 31 + fl / 2 * 2 ^ 29 + leAt p 4 1 * 2 ^ 27 + leAt p 2 1 * 2 ^ 25 + leAt p 3 1 * 2 ^ 22 +
      leAt p 5 1 * 2 ^ 16 + leAt p 6 2),
   .reg (0x230104 + 0x20 * i) 0x07FF003F (leAt p 8 2 * 2 ^ 16 + leAt p 14 1),
   .reg (0x230108 + 0x20 * i) 0xFFFFFFFF (leAt p 12 2 * 2 ^ 16 + leAt p 10 2)]

/-- Check 12: the sum of MAXB (R248). -/
def limitPrachConfig (s : State) (c : Cmd) : Bool :=
  decide ((s.prospect c.actTick (prachChanges c)).praSum ≤ 16)

def execPrachConfig (tag : Nat) (s : State) : Host.Outcome State Fault Refusal :=
  .next (s.performCommit 0x0680 tag anyOp (fun c s =>
    s.armCmd c [.prach (leAt c.payload 0 1)] (prachChanges c) [] .ok false []))

/-- The random-access side of a commit. -/
def State.praCommit (s : State) : State :=
  let s := s.setFld F.PRA_STATUS_EN (listMask 4 ((List.range 4).filter (fun c => s.flag (F.PRA_CFG_CTRL_EN c))))
  s.setFld (F.TCK_LOAD_REQ 7) s.praReq

/-! ### Occasions (R241-R243) -/

/-- Samples of one repetition without its cyclic prefix. -/
def repSamples (rate scs : Nat) : Nat := 3840000 * rateS rate / scsHz scs

/-- The rate code at which a configuration takes stream `k`: that of the lowest path that has it enabled. -/
def State.prachRate (s : State) (k : Nat) : Nat :=
  match s.streamPaths k with
  | [] => 0
  | p :: _ => s.fld (F.RXP_STR_CFG_RATE p k)

/-- Samples of an occasion's window, at a rate and spacing. -/
def Occasion.length (o : Occasion) (rate scs : Nat) : Nat := o.reps * (o.cp + repSamples rate scs)

/-- The ticks that an occasion's first and last samples cross in. -/
def Occasion.span (o : Occasion) (rate scs : Nat) : Nat × Nat :=
  let spt := rateS rate
  (tickAdd o.start (o.time / spt), tickAdd o.start ((o.time + o.length rate scs - 1) / spt))

/-- The span of an occasion under its configuration as it stands. -/
def State.spanOf (s : State) (o : Occasion) : Nat × Nat :=
  o.span (s.prachRate (s.fld (F.PRA_CFG_CTRL_STREAM o.config))) (s.fld (F.PRA_CFG_CTRL_SCS o.config))

/-- Two sections name one occasion: same configuration, time and frequency (R241). -/
def Occasion.same (a b : Occasion) : Bool :=
  a.config == b.config && a.start == b.start && a.time == b.time && a.cp == b.cp && a.freq == b.freq && a.reps == b.reps

/-- A type-3 section that names occasion `o`, for a beam: late once the occasion's first sample has crossed, under the configuration it
began with or would begin with (R241-R243). -/
def State.prachBeam (s : State) (o : Occasion) (beam sec : Nat) : State :=
  if s.pra.occasions.any (fun x => x.same o && x.begun) || !tickAfter (s.spanOf o).1 s.tickno then
    let s := (s.addFld F.PRA_LATE_SECTION_COUNT 1).raiseFree 0x7001 (srcBlock 7) sevWarning
    { s with pra := { s.pra with occasions := s.pra.occasions.map (fun x => if x.same o then { x with late := true } else x) } }
  else
    let ok := decide (beam < 4096)
    let s := if ok then s else s.addFld F.PRA_BEAM_DROP_COUNT 1
    let add := if ok then [(beam, sec)] else []
    if s.pra.occasions.any o.same then
      { s with pra := { s.pra with occasions := s.pra.occasions.map (fun x =>
        if x.same o then { x with beams := x.beams ++ add } else x) } }
    else { s with pra := { s.pra with occasions := s.pra.occasions ++ [{ o with beams := add }] } }

/-- An occasion begins: its configuration, paths and weights are fixed, and beams beyond MAXB are dropped. Samples that crossed
before, where a commit has moved the span, are missing (log 155). -/
def State.beginOccasion (s : State) (o : Occasion) : Occasion :=
  let c := o.config
  let k := s.fld (F.PRA_CFG_CTRL_STREAM c)
  let rate := s.prachRate k
  let scs := s.fld (F.PRA_CFG_CTRL_SCS c)
  let beams := o.beams.take (s.fld (F.PRA_CFG_CTRL_MAXB c))
  let (first, last) := o.span rate scs
  let gone := min (o.length rate scs) (tickSub s.tickno first * rateS rate - o.time % rateS rate)
  let ps := (s.streamPaths k).filter (fun p => s.fld (F.RXP_STR_CFG_RATE p k) == rate && decide (rate ≤ 3))
  { o with
    begun := true, ctrl := (s.reg (0x230100 + 0x20 * c)).toNat, det := (s.reg (0x230104 + 0x20 * c)).toNat
    thr := (s.reg (0x230108 + 0x20 * c)).toNat, rate := rate, first := first, last := last, sfn := s.sfnAt first
    beams := beams, dropped := o.dropped || decide (beams.length < o.beams.length)
    weights := beams.map (fun b => match sget (fun _ => []) s.bf.table b.1 with
      | [] => zeroWeights
      | w => w)
    air := ps.map (fun p => (p, List.replicate gone Cplx.zero)), qual := decide (0 < gone) }

/-- The boundary that opens an occasion's first tick (R243). -/
def State.praBoundary (s : State) : State :=
  s.pra.occasions.foldl (fun s o =>
    if o.begun ∨ tickAfter (s.spanOf o).1 s.tickno then s
    else
      let o' := s.beginOccasion o
      let s := s.addFld F.PRA_BEAM_DROP_COUNT (o.beams.length - o'.beams.length)
      let l := s.pra.occasions.map (fun x => if x = o then o' else x)
      let l := if s.flag (F.PRA_CFG_CTRL_EN o.config) then l else l.filter (fun x => x != o')
      { s with pra := { s.pra with occasions := l } }) s

/-- What the tick that closes adds to an occasion: of each path, its window's samples, with zero in place of those that are not
VALID (R244). -/
def State.collect (s : State) (o : Occasion) : Occasion :=
  if !o.begun ∨ tickAfter o.first s.tickno ∨ tickAfter s.tickno o.last then o
  else
    let spt := rateS o.rate
    let base := tickSub s.tickno o.first * spt
    let off := o.time % spt
    let stop := off + o.length o.rate (bitsAt o.ctrl 22 3)
    let take := fun (p : Nat) =>
      let xs := sget (fun _ => []) s.rx.aligned (4 * p + bitsAt o.ctrl 27 2)
      let xs := if xs.length = spt ∧ !s.rxRetired p then xs else List.replicate spt RxSample.void
      (xs.take (stop - base)).drop (off - base)
    { o with
      qual := o.qual || o.air.any (fun e => (take e.1).any (fun x => x.q != .valid))
      air := o.air.map (fun e => (e.1, e.2 ++ (take e.1).map (fun x => if x.q == .valid then x.v else Cplx.zero))) }

/-! ### Combination and correlation (R244-R247) -/

/-- The summed spectra of an occasion's beams, with a 40-bit accumulator for its repetitions (R244). -/
def Occasion.sums (o : Occasion) : List (List Cplx) :=
  let seq := bitsAt o.ctrl 25 2
  let scs := bitsAt o.ctrl 22 3
  let n := repSamples o.rate scs
  let specs := (List.range o.reps).map (fun r => o.air.map (fun (p, xs) =>
    (p, prachBins (zcLength seq) (Config.prachShift seq scs o.rate) o.freq ((xs.drop (r * (o.cp + n) + o.cp)).take n))))
  o.weights.map (fun w => (List.range (zcLength seq)).map (fun k =>
    specs.foldl (fun a rep => a.add (prachBeamBin w rep k)) Cplx.zero))

/-- A path's floor: RXP_NF_AVG, or ABS_FLOOR while that reads 0x8000 (R247). -/
def State.floorIn (s : State) (o : Occasion) (p : Nat) : Int :=
  if s.fld (F.RXP_NF_AVG_AVG p) = 0x8000 then signed 16 (bitsAt o.thr 16 16) else s.sfld (F.RXP_NF_AVG_AVG p)

/-- Some participating path used ABS_FLOOR. -/
def State.praFallback (s : State) (o : Occasion) : Bool := o.air.any (fun e => s.fld (F.RXP_NF_AVG_AVG e.1) == 0x8000)

/-- The noise power of a beam [2^-92 of a squared LSB of the path's spectrum] (R246). -/
def State.beamNoise (s : State) (o : Occasion) (w : List Cplx) : Nat :=
  let scs := bitsAt o.ctrl 22 3
  o.air.foldl (fun a (p, _) => a + (w.getD p Cplx.zero).norm *
    noiseOf (s.floorIn o p) (scsHz scs) (repSamples o.rate scs) (Config.prachShift (bitsAt o.ctrl 25 2) scs o.rate)) 0

/-! ### Reports (R249, R250) -/

/-- A candidate: beam position, delay [1/8 bin], metric and power [0.1 dB]. -/
structure PraCand where
  pos   : Nat
  delay : Nat
  m     : Int
  power : Int
deriving DecidableEq, Repr

structure PraReport where
  preamble : Nat
  multi    : Bool
  top      : PraCand
  mask     : Nat
  count    : Nat
deriving DecidableEq, Repr

/-- `a` comes before `b`: higher metric, then lower delay, then lower position. -/
def candBefore (a b : PraCand) : Bool :=
  decide (b.m < a.m) || (a.m == b.m && (decide (a.delay < b.delay) || (a.delay == b.delay && decide (a.pos < b.pos))))

def bestCand (cs : List PraCand) : Option PraCand :=
  cs.foldl (fun (b : Option PraCand) c => match b with
    | none => some c
    | some x => if candBefore c x then some c else some x) none

/-- Distance of two delays. -/
def delayDist (a b : PraCand) : Nat := if a.delay < b.delay then b.delay - a.delay else a.delay - b.delay

/-- The reports of one preamble; `n` bounds the clusters. -/
def clusters (tw preamble n : Nat) (cs : List PraCand) : List PraReport :=
  match n with
  | 0 => []
  | k + 1 =>
    match bestCand cs with
    | none => []
    | some p =>
      let cl := cs.filter (fun c => decide (delayDist c p ≤ 8 * tw))
      ⟨preamble, cl.any (fun c => decide (8 < delayDist c p)), p, listMask 16 (cl.map (·.pos)), cl.length⟩ ::
        clusters tw preamble k (cs.filter (fun c => !decide (delayDist c p ≤ 8 * tw)))

/-- `a` outranks `b` when an occasion forms more than 64 reports: higher metric, then lower preamble, then earlier. -/
def outranks (a b : Nat × PraReport) : Bool :=
  decide (b.2.top.m < a.2.top.m) || (a.2.top.m == b.2.top.m && (decide (a.2.preamble < b.2.preamble) ||
    (a.2.preamble == b.2.preamble && decide (a.1 < b.1))))

/-- The 64 reports kept. -/
def keepReports (rs : List PraReport) : List PraReport :=
  let ix := (List.range rs.length).zip rs
  (ix.filter (fun a => decide ((ix.filter (fun b => outranks b a)).length < 64))).map Prod.snd

/-- The 16 bytes of a report (Table 08-3). -/
def PraReport.bytes (r : PraReport) : List Byte :=
  leBytes 1 r.preamble ++ leBytes 1 (b2n r.multi) ++ leBytes 1 r.top.pos ++ leBytes 1 0 ++ leBytes 4 r.top.delay ++
  leBytes 2 (encode2c 16 r.top.m) ++ leBytes 2 (encode2c 16 r.top.power) ++ leBytes 2 r.mask ++ leBytes 2 r.count

/-- A record enters the ring of 32 KiB: the oldest make room (R253). -/
def State.ringAdd (s : State) (seq : Nat) (bs : List Byte) (n : Nat) : State :=
  match n with
  | 0 => s
  | k + 1 =>
    let used := s.pra.ring.foldl (fun a r => a + r.2.length) 0
    if used + bs.length ≤ 32768 then { s with pra := { s.pra with ring := s.pra.ring ++ [(seq, bs)] } }
    else
      let s := { s with pra := { s.pra with ring := s.pra.ring.drop 1 } }
      (s.addFld F.PRA_RING_OVF_COUNT 1).ringAdd seq bs k

/-- Candidates of a preamble on a beam: peaks of its delays whose metric reaches THR. `noise` is the beam's noise power, `c` the
correlation with the preamble's root; the beam's spectrum is 2^6 below its paths' (R246, log 151). -/
def candidates (len ncs reps thr pos shift noise : Nat) (c : List Nat) : List PraCand :=
  let lo := 8 * ncs * shift
  ((peaksAt c lo (if ncs = 0 then 8 * len else 8 * ncs)).map (fun t => (t, c.getD t 0))).filterMap (fun (t, v) =>
    let a := v * 2 ^ 40
    let b := len ^ 2 * reps * noise
    if b = 0 ∨ v = 0 ∨ !belowLog 100 thr a b then none
    else some ⟨pos, t - lo, openLog 100 a b, openLog 100 v (2 ^ 94 * len ^ 3 * reps ^ 2)⟩)

/-- The candidates of every preamble on every beam (R240, R245, R246). -/
def State.detect (s : State) (o : Occasion) (sums : List (List Cplx)) : List (Nat × List PraCand) :=
  let len := zcLength (bitsAt o.ctrl 25 2)
  let ncs := bitsAt o.det 16 11
  let n := rootShifts len ncs
  let beams := (sums.zip o.weights).map (fun (xs, w) =>
    (s.beamNoise o w, (List.range (ceilDiv 64 n)).map (fun j => correlation len (rootAfter len (bitsAt o.ctrl 0 11) j) xs)))
  (List.range 64).map (fun i => (i, ((beams.zip (List.range beams.length)).flatMap (fun ((noise, cs), pos) =>
    candidates len ncs o.reps (bitsAt o.thr 0 16) pos (i % n) noise (cs.getD (i / n) [])))))

/-- Evaluates an occasion in the tick after its last sample (R249 to R253). -/
def State.evaluate (s : State) (void : Bool) (o : Occasion) : State :=
  let c := o.config
  let tw := bitsAt o.det 0 6
  let sums := if void then [] else o.sums
  let cands := if void then [] else s.detect o sums
  let all := cands.flatMap (fun (p, cs) => clusters tw p cs.length cs)
  let trunc := decide (64 < all.length)
  let rs := if trunc then keepReports all else all
  let fb := !void && s.praFallback o
  let seq := s.fld F.PRA_OCCSEQ_NEXT
  let flags := b2n void + 2 * b2n trunc + 4 * b2n fb + 8 * b2n o.qual + 16 * b2n o.dropped + 32 * b2n o.late
  let head := leBytes 4 seq ++ leBytes 4 o.last ++ leBytes 1 c ++ leBytes 1 rs.length ++ leBytes 1 flags ++
    leBytes 1 o.beams.length ++ leBytes 2 o.sfn ++ leBytes 1 o.slot ++ leBytes 1 0 ++
    (List.range 16).flatMap (fun b => leBytes 2 ((o.beams.map Prod.fst).getD b 0xFFFF))
  let s := s.setFld F.PRA_OCCSEQ_NEXT ((seq + 1) % 2 ^ 32)
  let s := s.addFld (F.PRA_CFG_OCC_COUNT c) 1
  let s := if void then s.addFld F.PRA_VOID_OCC_COUNT 1 else s
  let s := s.setFld F.PRA_STATUS_FALLBACK (putBits (s.fld F.PRA_STATUS_FALLBACK) c 1 (b2n fb))
  let s := if trunc then (s.addFld F.PRA_TRUNC_COUNT 1).raiseFree 0x7002 (srcBlock 7) sevNotice else s
  let s := if bitAt o.ctrl 29 then
      let s := s.ringAdd seq (head ++ rs.flatMap PraReport.bytes) 700
      let s := s.addFld (F.PRA_CFG_DETS_COUNT c) rs.length
      s.raise 0x7003 rs.length (srcBlock 7) sevDebug
    else s
  if bitAt o.ctrl 30 then { s with pra := { s.pra with raw := s.pra.raw ++ [(tickAdd s.tickno 1, o, sums)] } } else s

/-- Random-access work of the tick that closes: samples join their occasions, and those whose last sample crossed in the tick
before are evaluated. -/
def State.praTick (s : State) (void : Bool) : State :=
  let due := s.pra.occasions.filter (fun o => o.begun && tickAdd o.last 1 == s.tickno)
  let l := (s.pra.occasions.filter (fun o => !(o.begun && tickAdd o.last 1 == s.tickno))).map s.collect
  due.foldl (fun s o => s.evaluate void o) { s with pra := { s.pra with occasions := l } }

/-! ### PRACH_READ_REPORT (R255) -/

def chkPrachReadReport (c : Cmd) : Option Status :=
  if c.payload.length ≠ 8 ∨ 16 ≤ leAt c.payload 4 1 ∨ !zeroAt c.payload 5 3 then some .badParam else none

/-- Records that fit in what is left of 4,096 bytes, and the OCCSEQ to ask for next. -/
def takeRecords (next room : Nat) (l : List (Nat × List Byte)) : List Byte × Nat :=
  match l with
  | [] => ([], next)
  | (q, bs) :: r =>
    if bs.length ≤ room then
      let (o, n) := takeRecords next (room - bs.length) r
      (bs ++ o, n)
    else ([], q)

def State.readReports (s : State) (first mask : Nat) : List Byte :=
  let next := s.fld F.PRA_OCCSEQ_NEXT
  let oldest := (s.pra.ring.head?.map Prod.fst).getD next
  let l := s.pra.ring.filter (fun r => !tickAfter first r.1 && bitAt mask (leAt r.2 8 1))
  let (bs, n) := takeRecords next (4096 - 8) l
  leBytes 4 n ++ leBytes 4 oldest ++ bs

def execPrachReadReport (tag : Nat) (s : State) : Host.Outcome State Fault Refusal :=
  .next (s.performStart 0x0681 tag anyOp (fun c s =>
    s.finishNow c.tag .ok (s.readReports (leAt c.payload 0 4) (leAt c.payload 4 1))))

end Sys2Proof.Machine
end

