-- ==== Sys2Proof/Machine/Fronthaul.lean ====
section
/-!
DEFINITION. Sys2Proof/Machine/Fronthaul.lean: Ethernet ports (R299-R305), eCPRI and O-RAN sections (R281-R292), uplink
U-plane framing (R293, R294), quality records (R297, R298) and the FH commands (R307-R313).
-/
namespace Sys2Proof.Machine

/-! ### Ports (Table 10-5) -/

inductive PortState where
  | disabled | aligning | up | retired
deriving DecidableEq, Repr

def PortState.code : PortState → Nat
  | .disabled => 0 | .aligning => 1 | .up => 2 | .retired => 3

def PortState.ofCode : Nat → PortState
  | 0 => .disabled | 1 => .aligning | 2 => .up | _ => .retired

def State.port (s : State) (k : Nat) : PortState := .ofCode (s.fld (F.ETH_STATUS_STATE k))
def State.setPort (s : State) (k : Nat) (x : PortState) : State := s.setFld (F.ETH_STATUS_STATE k) x.code

/-- Lanes of a port at a rate, placement and symbol rate (0: 106.25 GBd), Table 10-4; empty where none is listed. -/
def portLanes (k rate place baud : Nat) : List Nat :=
  let g := [2 * k, 2 * k + 1]
  let pair := if k % 2 = 0 then g ++ [2 * k + 2, 2 * k + 3] else []
  match baud, rate with
  | 0, 0 =>
    if place = 0 then [2 * k] else if k = 1 then [1] else if k = 3 then [5] else []
  | 0, 1 => if place = 0 then g else []
  | 0, 2 => if place = 0 then pair else []
  | 1, 0 => if place = 0 then g else []
  | 1, 1 => if place = 0 then pair else []
  | _, _ => []

/-- A lane carries Ethernet at this symbol rate. -/
def State.laneFits (s : State) (baud l : Nat) : Bool :=
  s.fld (F.LN_STATUS_MODE l) == 1 && s.fld (F.LN_STATUS_RATE l) == baud && s.flag (F.LN_CFG_EN l)

/-- The lanes an enabled port uses. -/
def State.lanesOf (s : State) (k : Nat) : List Nat :=
  if !s.flag (F.ETH_CFG_EN k) then []
  else
    let a := portLanes k (s.fld (F.ETH_CFG_RATE k)) (s.fld (F.ETH_CFG_PLACE k)) 0
    let b := portLanes k (s.fld (F.ETH_CFG_RATE k)) (s.fld (F.ETH_CFG_PLACE k)) 1
    if !a.isEmpty && a.all (s.laneFits 0) then a
    else if !b.isEmpty && b.all (s.laneFits 1) then b
    else if a.isEmpty then b else a

def portRetired (s : State) (k : Nat) : Bool := s.isRetired (srcEth k)

/-- A 6-byte address given first octet first, as a number. -/
def macAt (bs : List Byte) (off : Nat) : Nat := beValue (slice bs off 6)

/-- The port's registers as FH_CONFIG_PORT sets them. -/
def State.storePort (s : State) (c : Cmd) : State :=
  let p := c.payload
  let k := leAt p 0 1
  let fl := leAt p 1 1
  let s := (s.setFld (F.ETH_CFG_EN k) fl).setFld (F.ETH_CFG_INBAND k) (fl / 2)
  let s := (s.setFld (F.ETH_CFG_PTP k) (fl / 4)).setFld (F.ETH_CFG_TC k) (fl / 8)
  let s := (s.setFld (F.ETH_CFG_TAGGED k) (fl / 16)).setFld (F.ETH_CFG_RATE k) (leAt p 2 1)
  let s := (s.setFld (F.ETH_CFG_PLACE k) (leAt p 3 1)).setFld (F.ETH_CFG_MAXFRAME k) (leAt p 18 2)
  let m := macAt p 4
  let d := macAt p 10
  let s := (s.setFld (F.ETH_MAC_LO_ADDR k) m).setFld (F.ETH_MAC_HI_ADDR k) (m / 2 ^ 32)
  let s := (s.setFld (F.ETH_DST_LO_ADDR k) d).setFld (F.ETH_DST_HI_ADDR k) (d / 2 ^ 32)
  (s.setFld (F.ETH_VLAN_VID k) (leAt p 16 2)).setFld (F.ETH_VLAN_PCP k) (leAt p 16 2 / 2 ^ 13)

/-- Check 11 of FH_CONFIG_PORT (R301, R307): the combination is listed; with EN 1 its lanes overlap no other port's, and are configured for
it. -/
def chkFhConfigPort (s : State) (c : Cmd) : Option Status :=
  let p := c.payload
  let k := leAt p 0 1
  let fl := leAt p 1 1
  let rate := leAt p 2 1
  let place := leAt p 3 1
  let mf := leAt p 18 2
  let lo := if bitAt fl 1 then 4142 else 1522
  let cand := [0, 1].filter (fun b => !(portLanes k rate place b).isEmpty)
  let fits := cand.filter (fun b => (portLanes k rate place b).all (s.laneFits b))
  let others := ((List.range 4).filter (fun j => j != k)).flatMap s.lanesOf
  let meets := fun (b : Nat) => (portLanes k rate place b).any others.contains
  if p.length ≠ 24 ∨ 4 ≤ k ∨ 32 ≤ fl ∨ 3 ≤ rate ∨ 2 ≤ place ∨ bitAt (leAt p 16 2) 12 ∨ mf < lo ∨ 9216 < mf ∨ !zeroAt p 20 4 ∨ cand.isEmpty then
    some .badParam
  else if portRetired s k then some .resourceRetired
  else if !bitAt fl 0 then none
  else match fits with
    | [] => if cand.all meets then some .badParam else some .notPermitted
    | b :: _ => if meets b then some .badParam else none

def ctxFhConfigPort (s : State) : Option Status := if s.fld F.PWR_STATUS_STATE = 3 then some .notPermitted else none

/-- Check 12 of FH_CONFIG_PORT (R295): the port's budget at the rate it would have, enabled or not. -/
def limitFhConfigPort (s : State) (c : Cmd) : Bool :=
  (s.setFld (F.ETH_CFG_RATE (leAt c.payload 0 1)) (leAt c.payload 2 1)).fhFits

/-- Ends the FH_CONFIG_PORT commands that wait on a port. -/
def State.endPortCmds (s : State) (k : Nat) (st : Status) : State :=
  let l := s.fh.portCmd.filter (fun e => e.1 == k)
  let s := { s with fh := { s.fh with portCmd := s.fh.portCmd.filter (fun e => e.1 != k) } }
  l.foldl (fun s e => s.finishNow e.2.1 st []) s

/-- The egress of a port is discarded (R296). -/
def State.dropEgress (s : State) (k : Nat) : State :=
  let n := (s.fh.egress.filter (fun e => e.2.port == k)).length
  { s with fh := { s.fh with egress := s.fh.egress.filter (fun e => e.2.port != k) } }.addFld F.FRM_EGR_DROP_COUNT n

/-- What a port still had to send is gone. -/
def State.clearEgress (s : State) (k : Nat) : State :=
  { s with fh := { s.fh with egress := s.fh.egress.filter (fun e => e.2.port != k) } }

/-- A port aligns, and the command of a tag waits for it (R307). -/
def State.alignPort (s : State) (k tag : Nat) : State :=
  { s.setPort k .aligning with fh := { s.fh with portCmd := s.fh.portCmd ++ [(k, tag, s.elapsed)] } }

/-- FH_CONFIG_PORT (R307, Table 10-5). -/
def State.configPort (s : State) (c : Cmd) : State :=
  let p := c.payload
  let k := leAt p 0 1
  let moved := leAt p 2 1 != s.fld (F.ETH_CFG_RATE k) || leAt p 3 1 != s.fld (F.ETH_CFG_PLACE k)
  let s := s.storePort c
  if !bitAt (leAt p 1 1) 0 then
    ((((s.clearEgress k).setFld (F.ETH_STATUS_REMOTE_FAULT k) 0).setFld (F.ETH_STATUS_LOCAL_FAULT k) 0).setPort k .disabled).finishNow c.tag .ok []
  else if s.port k = .up ∧ !moved then s.finishNow c.tag .ok []
  else
    ((s.clearEgress k).setFld (F.ETH_STATUS_REMOTE_FAULT k) 0).alignPort k c.tag

def execFhConfigPort (tag : Nat) (s : State) : Host.Outcome State Fault Refusal :=
  .next (s.performStart 0x0700 tag anyOp (fun c s => (s.configPort c).refreshFhLoad))

/-- Alignment markers locked on every lane, and FEC codewords locked. -/
def execPortAligned (k : Fin 4) (s : State) : Host.Outcome State Fault Refusal :=
  let k := k.val
  if s.port k = .aligning ∧ !s.inSafe then
    let s := (s.setPort k .up).setFld (F.ETH_STATUS_LOCAL_FAULT k) 0
    .next ((s.endPortCmds k .ok).raiseFree 0x8006 (srcEth k) sevInfo)
  else .next s

/-- 384,000 ticks since the command: TIMEOUT, and alignment goes on. -/
def execPortAlignTimeout (k : Fin 4) (s : State) : Host.Outcome State Fault Refusal :=
  let due := s.fh.portCmd.filter (fun e => e.1 == k.val && decide (e.2.2 + 384000 ≤ s.elapsed))
  let s := { s with fh := { s.fh with portCmd := s.fh.portCmd.filter (fun e => !due.contains e) } }
  .next (due.foldl (fun s e => s.finishNow e.2.1 .timeout []) s)

/-- An UP port loses alignment: local fault, egress discarded. -/
def State.portDown (s : State) (k : Nat) : State :=
  if s.port k = .up then
    let s := ((s.setPort k .aligning).setFld (F.ETH_STATUS_LOCAL_FAULT k) 1).setFld (F.ETH_STATUS_REMOTE_FAULT k) 0
    (s.dropEgress k).raiseFree 0x8007 (srcEth k) sevError
  else s

def execFhLinkDown (k : Fin 4) (s : State) : Host.Outcome State Fault Refusal := .next (s.portDown k.val)

/-- A remote fault on an UP port. -/
def execFhRemoteFault (k : Fin 4) (s : State) : Host.Outcome State Fault Refusal :=
  let k := k.val
  if s.port k = .up ∧ !s.flag (F.ETH_STATUS_REMOTE_FAULT k) then
    .next (((s.setFld (F.ETH_STATUS_REMOTE_FAULT k) 1).dropEgress k).raiseFree 0x8008 (srcEth k) sevWarning)
  else .next s

def execFhRemoteFaultCleared (k : Fin 4) (s : State) : Host.Outcome State Fault Refusal :=
  .next (s.setFld (F.ETH_STATUS_REMOTE_FAULT k.val) 0)

/-- The safe state on the ports: local fault, ALIGNING (Table 10-5). -/
def State.portsSafe (s : State) : State :=
  (List.range 4).foldl (fun s k =>
    if s.port k = .up ∨ s.port k = .aligning then
      (((s.setPort k .aligning).setFld (F.ETH_STATUS_LOCAL_FAULT k) 1).setFld (F.ETH_STATUS_REMOTE_FAULT k) 0).dropEgress k
    else s) s

/-- A retired port: its lanes are silent and its eAxCs carry nothing (Table 19-1). -/
def State.retirePort (s : State) (k : Nat) : State :=
  { ((s.setPort k .retired).setFld (F.ETH_STATUS_REMOTE_FAULT k) 0).dropEgress k with fault := { s.fault with retired := insertNat s.fault.retired (srcEth k) } }

/-! ### The eAxC map (R286, R308) -/

def mapRecord (c : Cmd) (i : Nat) : Eaxc :=
  let o := 4 + 8 * i
  ⟨leAt c.payload o 2, leAt c.payload (o + 2) 1, leAt c.payload (o + 5) 1, leAt c.payload (o + 4) 1, leAt c.payload (o + 3) 1⟩

def mapRecords (c : Cmd) : List Eaxc := (List.range (leAt c.payload 0 1)).map (mapRecord c)

/-- Check 11 of FH_MAP_EAXC. -/
def chkFhMapEaxc (s : State) (c : Cmd) : Option Status :=
  let n := leAt c.payload 0 1
  let rs := mapRecords c
  if n = 0 ∨ 32 < n ∨ c.payload.length ≠ 4 + 8 * n ∨ !zeroAt c.payload 1 3 ∨
      !((List.range n).all (fun i => zeroAt c.payload (10 + 8 * i) 2)) ∨
      rs.any (fun e => decide (4 ≤ e.kind ∨ 4 ≤ e.port ∨ 4 ≤ e.car ∨ (if e.kind = 3 then 4 else 32) ≤ e.index ∨
        (e.kind = 3 ∧ e.car ≠ 0))) ∨
      (List.range n).any (fun i => (List.range i).any (fun j =>
        let a := mapRecord c i
        let b := mapRecord c j
        a.id == b.id && a.kind != 0 && b.kind != 0 && eaxcDown a.kind == eaxcDown b.kind)) then some .badParam
  else if rs.any (fun e => e.kind != 0 && !s.flag (F.ETH_CFG_EN e.port)) then some .notPermitted
  else none

/-- Check 12: at most 256 entries, and R295. -/
def limitFhMapEaxc (s : State) (c : Cmd) : Bool :=
  let t := s.prospect c.actTick [.eaxc (mapRecords c)]
  let news := ((mapRecords c).filter (fun e => e.kind != 0)).all (fun e => t.fh.map.any (fun x => x.2 == e))
  decide (t.fh.map.length ≤ 256) && news && t.fhFits

def execFhMapEaxc (tag : Nat) (s : State) : Host.Outcome State Fault Refusal :=
  .next (s.performCommit 0x0701 tag anyOp (fun c s => s.armCmd c [.eaxcMap] [.eaxc (mapRecords c)] [] .ok false []))

/-- The mapping of an eAxC ID in a direction. -/
def State.eaxcFor (s : State) (id : Nat) (dl : Bool) : Option Eaxc :=
  (s.fh.map.find? (fun e => e.2.id == id && e.2.kind != 0 && eaxcDown e.2.kind == dl)).map Prod.snd

/-- The word of a map entry (Table 10-10). -/
def Eaxc.word (e : Eaxc) : Nat := e.id * 2 ^ 16 + e.kind * 2 ^ 14 + e.port * 2 ^ 12 + e.car * 2 ^ 10 + e.index

def State.readMap (s : State) : Nat × State :=
  let i := s.fld F.FRM_MAP_ADDR_INDEX
  ((sget (fun _ => Eaxc.empty) s.fh.map i).word, s.setFld F.FRM_MAP_ADDR_INDEX ((i + 1) % 256))

/-! ### Windows and compression (R309, R310) -/

def chkFhSetWindows (c : Cmd) : Option Status :=
  let p := c.payload
  if p.length ≠ 16 ∨ (List.range 4).any (fun i => decide (leAt p (2 * i) 2 = 0 ∨ 3840 < leAt p (2 * i) 2)) ∨
      leAt p 8 1 = 0 ∨ 8 < leAt p 8 1 ∨ !zeroAt p 9 7 then some .badParam else none

def execFhSetWindows (tag : Nat) (s : State) : Host.Outcome State Fault Refusal :=
  .next (s.performCommit 0x0702 tag anyOp (fun c s =>
    let p := c.payload
    s.armCmd c [.windows]
      [.reg 0x241000 0x0FFF0FFF (leAt p 0 2 + leAt p 2 2 * 2 ^ 16), .reg 0x241004 0x0FFF0FFF (leAt p 4 2 + leAt p 6 2 * 2 ^ 16),
       .reg 0x241008 0xF (leAt p 8 1)] [] .ok false []))

/-- What FH_SET_COMPRESSION writes. -/
def cmpChanges (c : Cmd) : List Change :=
  let p := c.payload
  let k := leAt p 1 1
  if leAt p 0 1 = 0 then
    [.reg (0x240100 + 0x10 * k) 0xF0F (leAt p 2 1 + leAt p 3 1 % 16 * 256),
     .reg (0x240104 + 0x10 * k) 0xFFFF0F0F (leAt p 8 2 * 2 ^ 16 + leAt p 6 1 % 16 * 256 + leAt p 5 1 % 16)]
  else
    [.reg (0x240200 + 0x10 * k) 0xFFFF0F0F
      (leAt p 10 2 * 2 ^ 17 + leAt p 4 1 * 2 ^ 16 + leAt p 3 1 % 16 * 256 + leAt p 2 1)]

/-- Check 11 of FH_SET_COMPRESSION: methods and widths of Table 09-1, Petunia's range of widths. -/
def chkFhSetCompression (c : Cmd) : Option Status :=
  let p := c.payload
  let dl := leAt p 0 1 == 1
  let meth := leAt p 2 1
  let lo := width16 (leAt p 5 1)
  let hi := width16 (leAt p 6 1)
  let okW := if meth = 15 ∧ !dl then decide (8 ≤ lo ∧ lo ≤ hi ∧ hi ≤ 16 ∧ leAt p 5 1 < 16 ∧ leAt p 6 1 < 16)
    else methodOk dl meth (width16 (leAt p 3 1))
  if p.length ≠ 12 ∨ 2 ≤ leAt p 0 1 ∨ 4 ≤ leAt p 1 1 ∨ 16 ≤ leAt p 3 1 ∨ 2 ≤ leAt p 4 1 ∨ (!dl ∧ leAt p 4 1 ≠ 0) ∨
      !zeroAt p 7 1 ∨ 2 ^ 15 ≤ leAt p 10 2 ∨ !okW then some .badParam else none

/-- Check 12: R272 for the carrier that the command configures, and R295. -/
def limitFhSetCompression (s : State) (c : Cmd) : Bool :=
  let t := s.prospect c.actTick (cmpChanges c)
  t.fhFits && (leAt c.payload 0 1 != 0 || t.petuniaFits (leAt c.payload 1 1))

def execFhSetCompression (tag : Nat) (s : State) : Host.Outcome State Fault Refusal :=
  .next (s.performCommit 0x0703 tag anyOp (fun c s =>
    s.armCmd c [.cmpCarrier (leAt c.payload 0 1 == 1) (leAt c.payload 1 1)] (cmpChanges c) [] .ok false []))

/-! ### Placing sections (R287-R289) -/

/-- Tick `ft` of the frame with SFN mod 256 `frame` nearest to the open tick; a tie takes the later (R287). -/
def State.resolveTick (s : State) (frame ft : Nat) : Nat :=
  let cyc := 256 * 38400
  let here := s.fld F.TCK_FRAME_SFN % 256 * 38400 + s.frameTick
  let there := frame % 256 * 38400 + ft
  let d := (there + cyc - here % cyc) % cyc
  if d ≤ cyc / 2 then tickAdd s.tickno d else tickAdd s.tickno (2 ^ 32 - (cyc - d))

/-- The first tick of a frame's symbol `j`. -/
def State.resolve (s : State) (g : Geo) (frame j : Nat) : Nat := s.resolveTick frame (g.tickOf j)

/-- The symbol number within the frame of a header and a symbol offset. -/
def symIndex (mu : Nat) (h : AppHdr) (o : Nat) : Nat := h.subframe * (14 * 2 ^ mu) + h.slot * 14 + h.sym + o

/-- Symbol durations of K, in ticks (R289). -/
def State.earlyTicks (s : State) (g : Geo) : Nat := ceilDiv (s.fld F.FRM_WIN2_EARLY_SYMS * (g.n + g.cpn)) g.spt

inductive Arrival where
  | onTime | early | tooEarly | late
deriving DecidableEq, Repr

/-- R289's class of a section received in the open tick. -/
def State.arrival (s : State) (rf open_ k : Nat) : Arrival :=
  let d := signed 32 (tickSub rf s.tickno)
  if d < 0 then .late else if d ≤ open_ then .onTime else if d ≤ open_ + k then .early else .tooEarly

/-- PRBs of a section: numPrb 0 means every PRB from startPrb. -/
def prbCount (nrb start num : Nat) : Nat := if num = 0 then nrb - start else num

def State.badSection (s : State) : State := s.addFld F.FRM_BAD_SECTION_COUNT 1

/-- The mapping of an eAxC ID that a message of a direction meets, and the mapping's own direction: its direction's first (R285). -/
def State.mappingOf (s : State) (id : Nat) (dl : Bool) : Option (Eaxc × Bool) :=
  match s.eaxcFor id dl with
  | some e => some (e, dl)
  | none => (s.eaxcFor id (!dl)).map (fun e => (e, !dl))

/-- Checks the sequence ID of a message (R282). -/
def State.noteSeq (s : State) (id : Nat) (dl : Bool) (seq : Nat) : State :=
  let key := 2 * id + b2n dl
  let e := sget (fun _ => 0) s.fh.seqRx key
  let s := if e ≠ 0 ∧ e ≠ seq + 1 then s.addFld F.FRM_SEQ_GAP_COUNT 1 else s
  { s with fh := { s.fh with seqRx := sput (fun _ => 0) s.fh.seqRx key ((seq + 1) % 256 + 1) } }

/-! ### Limits of sections (R285) -/

/-- The carrier whose numerology a mapped eAxC follows: a PRACH configuration's is that of its stream. -/
def State.eaxcCar (s : State) (e : Eaxc) : Nat := if e.kind = 3 then s.fld (F.PRA_CFG_CTRL_STREAM e.index) else e.car

/-- filterIndex of an eAxC: 0, or on a PRACH eAxC the value that O-RAN assigns to the configuration's format (R285, log 21). -/
def State.filterOk (s : State) (e : Eaxc) (f : Nat) : Bool :=
  f == 0 || (e.kind == 3 && f == (match s.fld (F.PRA_CFG_CTRL_SEQ e.index) with
    | 0 => s.fld (F.PRA_CFG_CTRL_SCS e.index) + 1
    | 1 => 3
    | q => Config.filterIndex q))

/-- The limits of R285 that the header carries. -/
def State.headerOk (s : State) (e : Eaxc) (h : AppHdr) : Bool := h.version == 1 && s.filterOk e h.filter

/-! ### Downlink U-plane -/

/-- A lost section of a downlink symbol (R291, R292): counted for its quality record and its slot. -/
def State.loseSection (s : State) (layer car start : Nat) (dropped ovr : Bool) : State :=
  let hit := fun (r : LostRec) => r.layer == layer && r.car == car && r.start == start
  let l := if s.fh.lost.any hit then s.fh.lost else s.fh.lost ++ [⟨layer, car, start, 0, 0, false⟩]
  let l := l.map (fun r => if hit r then
    { r with late := r.late + b2n (!dropped), dropped := r.dropped + b2n dropped, ovr := r.ovr || ovr } else r)
  let s := { s with fh := { s.fh with lost := l } }
  (s.addFld F.FRM_UP_LATE_COUNT 1).slotAdd slotLate true car 1

/-- Bytes of the sections that wait in the ingress buffer for their due tick (R291). -/
def State.ingressUsed (s : State) : Nat :=
  (s.fh.ingress.filter (fun w => tickAfter w.due s.tickno)).foldl (fun a w => a + w.part.bytes.length) 0

/-- The ingress store, in bytes. -/
def ingressBytes : Nat := 8 * 2 ^ 20

/-- A downlink U-plane section waits for its symbol, unless the ingress buffer is full. -/
def State.storeSection (s : State) (e : Eaxc) (x due : Nat) (u : UpSection) : State :=
  let k := e.car
  if ingressBytes < s.ingressUsed + u.bytes.length then
    (s.addFld F.FRM_ING_DROP_COUNT 1).loseSection e.index k x true false
  else
    { s with fh := { s.fh with ingress := s.fh.ingress ++
      [⟨⟨e.index, k, x, u.startPrb, prbCount (s.carNrb true k) u.startPrb u.numPrb, u.compHdr, none, u.bytes⟩, u.secId, s.tickno,
        due, 0, 0, 0, 0⟩] } }

/-- The tick by which a downlink U-plane section of the symbol of tick `x` must have come. -/
def State.dueTick (s : State) (x : Nat) : Nat := tickAdd x (2 ^ 32 - (4 + s.depth))

/-- One downlink U-plane section, its symbol `o` symbols after the header's. -/
def State.upSection (s : State) (e : Eaxc) (h : AppHdr) (o : Nat) (u : UpSection) : State :=
  let g := s.geo true e.car
  let nrb := s.carNrb true e.car
  let x := s.resolve g h.frameId (symIndex g.mu h o)
  let a := s.arrival (s.dueTick x) (s.fld F.FRM_WIN0_DL_UP_OPEN) (s.earlyTicks g)
  if u.rb ≠ 0 ∨ nrb < u.startPrb + prbCount nrb u.startPrb u.numPrb ∨ nrb ≤ u.startPrb then s.badSection
  else if a = .tooEarly then s.addFld F.FRM_TOO_EARLY_COUNT 1
  else if a = .late then s.loseSection e.index e.car x false false
  else (if a = .early then s.addFld F.FRM_UP_EARLY_COUNT 1 else s).storeSection e x (s.dueTick x) u

/-- A U-plane message (R282, R285, R286). -/
def State.upMessage (s : State) (port eaxc seq : Nat) (seqOk : Bool) (h : AppHdr) (secs : List UpSection) : State :=
  if s.casRole = 2 then s
  else match s.mappingOf eaxc h.dl with
  | none => s.addFld F.FRM_UNMAPPED_COUNT 1
  | some (e, dl) =>
    if e.port ≠ port then s.addFld F.FRM_UNMAPPED_COUNT 1
    else
      let s := s.noteSeq eaxc dl seq
      if !seqOk then s.badSection
      else if dl ≠ h.dl ∨ !s.headerOk e h ∨ !h.dl then s.addFld F.FRM_BAD_SECTION_COUNT secs.length
      else (secs.foldl (fun (a : State × Nat) u =>
        let o := a.2 + b2n u.symInc
        (a.1.upSection e h o u, o)) (s, 0)).1

/-! ### C-plane -/

/-- Sections of a direction in the section store. -/
def State.storeUsed (s : State) (dl : Bool) : Nat := (s.fh.csecs.filter (fun c => c.dl == dl)).length

/-- The value of LATE_CPLANE (R195). -/
def lateValue (lateness : Nat) (dl : Bool) (unit : Nat) : Nat := min lateness 0xFFFF * 2 ^ 16 + 128 * b2n dl + unit % 32

/-- A section of type 0, 1 or 5 that passed R284 and R285: classified, checked against the cut-offs, stored.
One late for several symbols reports the lateness of the first late one (R195, log 163). -/
def State.cpStore (s : State) (e : Eaxc) (port kind : Nat) (h : AppHdr) (o : Nat) (c : CpSection) : State :=
  let dl := eaxcDown e.kind
  let k := e.car
  let g := s.geo dl k
  let n := prbCount (s.carNrb dl k) c.startPrb c.numPrb
  let j := symIndex g.mu h o
  let x := s.resolve g h.frameId j
  let syms := (List.range (max c.numSym 1)).map (fun i => tickAdd x (g.tickOf (j + i) + 2 ^ 32 - g.tickOf j))
  let back := 2 ^ 32 - (2 + s.depth)
  let rf := tickAdd (s.applyOf dl k x) back
  match s.arrival rf (if dl then s.fld F.FRM_WIN0_DL_CP_OPEN else s.fld F.FRM_WIN1_UL_CP_OPEN) (s.earlyTicks g) with
  | .tooEarly => s.addFld F.FRM_TOO_EARLY_COUNT 1
  | a =>
    let s := if a = .early then s.addFld F.FRM_UP_EARLY_COUNT 1 else s
    if 16384 ≤ s.storeUsed dl then s.addFld F.FRM_CP_FULL_COUNT 1
    else
      let lates := syms.filter (fun st => tickAfter s.tickno (tickAdd (s.applyOf dl k st) back))
      let s := match lates with
        | [] => s
        | st :: _ =>
          let v := lateValue (tickSub s.tickno (tickAdd (s.applyOf dl k st) back)) dl e.index
          ((s.addFld F.BF_LATE_CPLANE_COUNT lates.length).setFld F.BF_LATE_LAST_VALUE v).raise 0x5008 v (srcBlock 12) sevWarning
      let s := if kind = 1 ∧ c.ext1.isNone ∧ 4096 ≤ c.beamId then
          (s.addFld F.BF_BAD_BEAMID_COUNT 1).raiseFree 0x5003 (srcBlock 12) sevNotice else s
      let ws := c.ext1.map (fun w => weightValues w (64 * s.arrayM))
      let s := if ws = some none then (s.addFld F.BF_BAD_WEIGHTS_COUNT 1).raiseFree 0x5004 (srcBlock 12) sevNotice else s
      let weights := ws.map (fun w => match w with
        | some l => toSlices s.arrayM l
        | none => toSlices s.arrayM (List.replicate (64 * s.arrayM) Cplx.zero))
      let sec : CSection := ⟨dl, e.index, k, kind, c.secId, e.id, port, c.startPrb, n, c.beamId, c.ueId, weights, c.ext4,
        s.tickno, s.bf.order, syms⟩
      let b := { s.bf with order := s.bf.order + 1 }
      { s with bf := b, fh := { s.fh with csecs := s.fh.csecs ++ [sec] } }

/-- A type-6 section: it joins block 12's work with at most 16 regions (R192, log 180). -/
def State.cpChannel (s : State) (e : Eaxc) (h : AppHdr) (o : Nat) (c : CpSection) : State :=
  let dl := eaxcDown e.kind
  let k := s.eaxcCar e
  let g := s.geo dl k
  let x := s.resolve g h.frameId (symIndex g.mu h o)
  let rf := tickAdd (s.applyOf dl k x) (2 ^ 32 - (2 + s.depth))
  match s.arrival rf (s.fld F.FRM_WIN1_UL_CP_OPEN) (s.earlyTicks g) with
  | .tooEarly => s.addFld F.FRM_TOO_EARLY_COUNT 1
  | a =>
    let s := if a = .early then s.addFld F.FRM_UP_EARLY_COUNT 1 else s
    { s with bf := { s.bf with chanMsgs := s.bf.chanMsgs ++ [(s.tickno, c.ueId, c.regions.take 16)] } }

/-- The occasion that a type-3 section names, its symbol `o` symbols after the header's: slots count at the section's spacing, and in
whole subframes for the spacings below 15 kHz (R241, log 153). -/
def State.occasionOf (s : State) (e : Eaxc) (h : AppHdr) (o : Nat) (c : CpSection) : Occasion :=
  let mu := if c.scs ≤ 4 then c.scs else 0
  let slot := h.slot + (h.sym + o) / 14
  let start := s.resolveTick h.frameId (h.subframe * 3840 + slot * (3840 / 2 ^ mu))
  ⟨e.index, start, c.timeOffset, c.cpLength, c.freqOffset, max c.numSym 1, 0, 0, 0, 0, 0, 0, 0, h.subframe * 2 ^ mu + slot,
    (h.sym + o) % 14, e.id, [], [], [], false, false, false, false⟩

/-- The tick before. -/
def prevTick (t : Nat) : Nat := tickAdd t (2 ^ 32 - 1)

/-- Where a type-3 section stands in its message window. -/
def State.prachArrival (s : State) (e : Eaxc) (first : Nat) : Arrival :=
  s.arrival (prevTick first) (s.fld F.FRM_WIN1_PRA_CP_OPEN) (s.earlyTicks (s.geo false (s.fld (F.PRA_CFG_CTRL_STREAM e.index))))

/-- A type-3 section: its occasion's beam, unless it comes too early. -/
def State.cpPrach (s : State) (e : Eaxc) (h : AppHdr) (o : Nat) (c : CpSection) : State :=
  let x := s.occasionOf e h o c
  let a := s.prachArrival e (s.spanOf x).1
  if a = .tooEarly then s.addFld F.FRM_TOO_EARLY_COUNT 1
  else
    let s := if a = .early then s.addFld F.FRM_UP_EARLY_COUNT 1 else s
    s.prachBeam x c.beamId c.secId

/-- One C-plane section (R283 to R286): type 3 belongs on a PRACH eAxC, type 6 on any, the others on a beam's or layer's. -/
def State.cpSection (s : State) (e : Eaxc) (port : Nat) (h : AppHdr) (o : Nat) (c : CpSection) : State :=
  let dl := eaxcDown e.kind
  let nrb := s.carNrb dl (s.eaxcCar e)
  let here := if e.kind = 3 then h.secType == 3 || h.secType == 6 else h.secType != 3
  if c.otherExt then (s.addFld F.FRM_EXT_DROP_COUNT 1).slotAdd slotExt dl (s.eaxcCar e) 1
  else if !s.headerOk e h ∨ c.rb ≠ 0 ∨ c.reMask ≠ 0xFFF ∨ !here ∨
      nrb < c.startPrb + prbCount nrb c.startPrb c.numPrb ∨ nrb ≤ c.startPrb then s.badSection
  else match h.secType with
    | 3 => s.cpPrach e h o c
    | 6 => s.cpChannel e h o c
    | t => s.cpStore e port t h o c

/-- A C-plane message (R282 to R286): sections that break a limit count each. -/
def State.cpMessage (s : State) (port eaxc seq : Nat) (seqOk : Bool) (h : AppHdr) (secs : List CpSection) : State :=
  if s.casRole = 2 then s
  else match s.mappingOf eaxc h.dl with
  | none => s.addFld F.FRM_UNMAPPED_COUNT 1
  | some (e, dl) =>
    if e.port ≠ port then s.addFld F.FRM_UNMAPPED_COUNT 1
    else
      let s := s.noteSeq eaxc dl seq
      if !seqOk ∨ (dl = h.dl ∧ ¬ (h.secType ∈ [0, 1, 3, 5, 6])) then s.badSection
      else if dl ≠ h.dl then s.addFld F.FRM_BAD_SECTION_COUNT secs.length
      else (secs.foldl (fun (a : State × Nat) c =>
        let o := a.2 + b2n c.symInc
        (a.1.cpSection e port h o c, o)) (s, 0)).1

/-! ### Frames (R281, R301, R303, R305) -/

/-- A cascade port that carries PTP: TIME set, and UP (R366). -/
def State.timeCas (s : State) (j : Nat) : Bool := bitAt (s.fld F.CAS_CFG_TIME) j && s.fld (F.CAS_P_STATUS_STATE j) == 2

/-- A PTP frame joins a cascade port's control share; its residence counts from `since`. -/
def State.queuePtp (s : State) (j mtype : Nat) (bs : List Byte) (since : Nat) : State :=
  { s with cas := { s.cas with ptpOut := s.cas.ptpOut ++ [⟨j, mtype, bs, since, 8 * bs.length⟩] } }

/-- A PTP frame that came in on port `k` (4 and up: a cascade port) at `stamp` leaves on a fronthaul port, `wait` [2^-16 ns] after it passed
the PCS, with the fixed latencies of both ports (R303, R305). -/
def State.forwardTo (s : State) (mtype : Nat) (bs : List Byte) (wait rx : Int) (j : Nat) : State :=
  let r := wait + rx + fineOf (s.fld (F.ETH_PTP_LAT_TX j))
  ((s.emit (.ptp j mtype (withResidence mtype bs r) (if mtype ≤ 1 then r.toNat else 0))).addFld (F.ETH_PTP_FWD_COUNT j) 1).addFld
    (F.ETH_TX_FRAMES_COUNT j) 1

/-- The Pdelay messages of IEEE 1588, which are not forwarded (R305). -/
def pdelay (mtype : Nat) : Bool := mtype == 2 || mtype == 3 || mtype == 10

/-- A transparent clock forwards a PTP frame that came in at `stamp` to the other open ports with TC set, and to cascade ports; `res`: the
time to each port's PCS (R305). -/
def State.forwardPtp (s : State) (k mtype : Nat) (bs : List Byte) (stamp : Nat) (res : List (Nat × Nat)) : State :=
  if s.offAir ∨ !s.flag (F.ETH_CFG_TC k) ∨ pdelay mtype then s
  else
    let wait := fun (j : Nat) => ((res.find? (fun r => r.1 == j)).map Prod.snd).getD 0
    let rx := fineOf (s.fld (F.ETH_PTP_LAT_RX k))
    let s := ((List.range 4).filter (fun j => j != k && s.egressOpen j && s.flag (F.ETH_CFG_TC j))).foldl (fun s j =>
      s.forwardTo mtype bs (wait j) rx j) s
    ((List.range 4).filter s.timeCas).foldl (fun s j => s.queuePtp j mtype bs stamp) s

/-- A PTP message of the device's own, made at `stamp`, leaves a fronthaul port, or a cascade port with TIME set (R366). -/
def State.sendPtp (s : State) (port mtype : Nat) (bs : List Byte) (stamp : Nat) : State :=
  if port < 4 then
    if s.egressOpen port ∧ s.flag (F.ETH_CFG_PTP port) then
      (s.emit (.ptp port mtype bs 0)).addFld (F.ETH_TX_FRAMES_COUNT port) 1
    else s
  else if s.timeCas (port - 4) then s.queuePtp (port - 4) mtype bs stamp
  else s

/-- Fixed egress latency of a port [ps]. -/
def State.ptpTxLat (s : State) (port : Nat) : Nat := if port < 4 then s.fld (F.ETH_PTP_LAT_TX port) else 0

/-- The device's own PTP messages of the tick that closes (R304, R466). -/
def State.ptpTick (s : State) : State :=
  let masters := (List.range 8).filter s.ptpMaster
  let s := if s.ptpDue 8 then masters.foldl (fun s k =>
      let (bs, s) := s.announce k
      s.sendPtp k 11 bs 0) s else s
  if s.ptpDue 16 then
    let s := masters.foldl (fun s k =>
      let (l, s) := s.stampAt (s.ptpTxLat k)
      let (bs, s) := s.syncMessage k l
      s.sendPtp k 0 bs l) s
    match s.time.parent with
    | some k =>
      let (l, s) := s.stampAt (s.ptpTxLat k)
      let (bs, s) := s.delayRequest k
      let s := { s with time := { s.time with ptpTx := sput (fun _ => (0, 0)) s.time.ptpTx k (beAt bs 30 2, l) } }
      s.sendPtp k 1 bs l
    | none => s
  else s

/-- A master port answers a Delay_Req of its domain that came in at `stamp` (R466). -/
def State.answerDelay (s : State) (k mtype : Nat) (bs : List Byte) (stamp : Nat) : State :=
  if mtype = 1 ∧ s.ptpMaster k ∧ leAt bs 4 1 = s.fld F.TIM_PTP_CFG_DOMAIN then s.sendPtp k 9 (s.delayResponse k stamp bs) stamp
  else s

/-- A received PTP frame: stamped at ingress, forwarded by a transparent clock, and with PTP set handed to the PTP stack (R303, R305). -/
def State.ptpIn (s : State) (k mtype : Nat) (bs : List Byte) (res : List (Nat × Nat)) : State :=
  let (l, s) := s.stampAt (-(s.fld (F.ETH_PTP_LAT_RX k) : Int))
  let s := s.forwardPtp k mtype bs l res
  if s.flag (F.ETH_CFG_PTP k) then (s.notePtp k mtype bs l).answerDelay k mtype bs l else s

/-- An accepted frame is handed on; an in-band message of a port with in-band control off is dropped uncounted (log 176). -/
def State.handFrame (s : State) (k : Nat) (f : Frame) : State :=
  let disc := fun (s : State) => s.addFld (F.ETH_DISC_TYPE k) 1
  match f.body with
  | .ecpri rev conc mt body =>
    if rev ≠ 1 ∨ conc then disc s
    else match mt, body with
      | 0, .uplane e q ok h l => if s.pwr.quietAt then s else s.upMessage k e q ok h l
      | 2, .cplane e q ok h l => if s.pwr.quietAt then s else s.cpMessage k e q ok h l
      | 0xC0, .privi bs =>
        if !s.flag F.MBX_CTRL_INB_EN then s.addFld F.MBX_DISC_INB 1
        else if s.flag (F.ETH_CFG_INBAND k) then
          if s.privi.inbPackets.length < 16 then
            let dest : ReplyTo := ⟨k, f.smac, (f.tci.getD 0) % 4096, (f.tci.getD 0) / 8192⟩
            s.putPrivi { s.privi with inbPackets := s.privi.inbPackets ++ [(bs, dest)] }
          else s.addFld F.MBX_DISC_INB 1
        else s
      | _, _ => disc s
  | .ptp mt bs => if s.flag (F.ETH_CFG_PTP k) ∨ s.flag (F.ETH_CFG_TC k) then s.ptpIn k mt bs f.residence else disc s
  | .pause => s
  | .other => disc s

/-- FRAME_RECEIVED. -/
def State.frameIn (s : State) (k : Nat) (f : Frame) : State :=
  if s.port k ≠ .up then s
  else if !f.fcsOk then s.addFld (F.ETH_RX_FCS_COUNT k) 1
  else if f.length < 64 ∨ s.fld (F.ETH_CFG_MAXFRAME k) < f.length then s.addFld (F.ETH_DISC_SIZE k) 1
  else if f.body = .pause then s.addFld (F.ETH_PAUSE_COUNT k) 1
  else
    let mac := s.fld (F.ETH_MAC_LO_ADDR k) + 2 ^ 32 * s.fld (F.ETH_MAC_HI_ADDR k)
    if ¬ (f.dmac = mac ∨ f.dmac = 0x011B19000000 ∨ f.dmac = 0x0180C200000E) then s.addFld (F.ETH_DISC_DMAC k) 1
    else if f.stag ∨ (f.tci.any (fun t => t % 4096 != s.fld (F.ETH_VLAN_VID k))) then s.addFld (F.ETH_DISC_VLAN k) 1
    else ((s.addFld (F.ETH_RX_FRAMES_COUNT k) 1).noteItem (.frame k f)).handFrame k f

/-- FRAME_RECEIVED; while the device replays, everything that ports receive is discarded (R556). -/
def execFrameReceived (port : Fin 4) (f : Frame) (s : State) : Host.Outcome State Fault Refusal :=
  .next (if s.replaying then s else s.frameIn port.val f)

/-! ### Uplink framing (R293, R294) -/

/-- A beam output rounded once (R184), and its saturated components. -/
def roundBeam (shift : Nat) (b : UlBlock) : List Cplx × Nat :=
  let raw := b.acc.map (fun c => c.map (fun v => roundEven v (14 + shift)))
  let v := raw.map (fun c => (sat16 c).1)
  if b.void then (List.replicate 12 Cplx.zero, 0) else (v, satCount raw v)

/-- The widths of a symbol's beams on a carrier: Petunia's, or the carrier's. -/
def State.beamWidths (s : State) (k : Nat) (reqs : List UlReq) : Nat → Nat :=
  if s.fld (F.CMP_UL_CAR_METH k) = 15 then
    let bs := (List.range 32).filter (fun b => reqs.any (fun r => r.beam == b))
    let ps := bs.map (fun b => (b, (reqs.filter (fun r => r.beam == b)).foldl (fun a r => a + r.n) 0))
    let ws := petWidths (width16 (s.fld (F.CMP_UL_PET_PMIN k))) (width16 (s.fld (F.CMP_UL_PET_PMAX k)))
      (64 * s.fld (F.CMP_UL_PET_BUDGET k)) ps
    fun b => ((ws.find? (fun w => w.1 == b)).map Prod.snd).getD (width16 (s.fld (F.CMP_UL_PET_PMIN k)))
  else fun _ => width16 (s.fld (F.CMP_UL_CAR_WIDTH k))

/-- Bytes of a U-plane frame without its sections: Ethernet header, tag, eCPRI and application headers, FCS. -/
def State.frameOverhead (s : State) (port : Nat) : Nat := (if s.flag (F.ETH_CFG_TAGGED port) then 18 else 14) + 8 + 4 + 4

/-- Bytes of a section header: with udCompHdr for Petunia. -/
def secOverhead (pet : Bool) : Nat := if pet then 6 else 4

/-- Bytes of a U-plane message on its port; only a Petunia section, whose udCompHdr is never 0, carries that header. -/
def State.messageSize (s : State) (m : UpMsg) : Nat :=
  s.frameOverhead m.port + m.secs.foldl (fun a x => a + secOverhead (x.comp != 0) + x.bytes.length) 0

/-- Fills messages up to `room` bytes: PRB ranges split where the message or 255 PRBs end them. `cur` is the open message's
sections and size, the result the finished messages; `n` bounds the pieces. -/
def fillMessages (room head n : Nat) (work : List (Nat × Nat × Nat × Nat × List (List Byte))) (cur : List UpOut) (size : Nat) :
    List (List UpOut) :=
  match n with
  | 0 => if cur.isEmpty then [] else [cur]
  | m + 1 =>
    match work with
    | [] => if cur.isEmpty then [] else [cur]
    | (sec, lo, comp, pb, prbs) :: r =>
      if prbs.isEmpty then fillMessages room head m r cur size
      else
        let fit := min 255 (min prbs.length (if pb = 0 then 255 else (room - size - head) / pb))
        if fit = 0 ∨ room < size + head then
          if cur.isEmpty then fillMessages room head m r cur size
          else cur :: fillMessages room head m ((sec, lo, comp, pb, prbs) :: r) [] 0
        else
          fillMessages room head m ((sec, lo + fit, comp, pb, prbs.drop fit) :: r)
            (cur ++ [⟨sec, lo, fit, comp, (prbs.take fit).flatten⟩]) (size + head + fit * pb)

/-- Queues a port's messages, in order, for the boundary that closes tick `t`; a message that finds the egress buffer full, or
its port not UP or in remote fault, is discarded (R296). -/
def State.queueMsgs (s : State) (t : Nat) (ms : List UpMsg) : State :=
  ms.foldl (fun s m =>
    let used := ((s.fh.egress.filter (fun e => e.2.port == m.port)).map (fun e => s.messageSize e.2)).foldl (· + ·) 0
    if s.port m.port ≠ .up ∨ s.flag (F.ETH_STATUS_REMOTE_FAULT m.port) ∨
        2 ^ 20 * (s.lanesOf m.port).length < used + s.messageSize m then s.addFld F.FRM_EGR_DROP_COUNT 1
    else
      let q := sget (fun _ => 0) s.fh.seqTx m.eaxc
      { s with fh := { s.fh with
        seqTx := sput (fun _ => 0) s.fh.seqTx m.eaxc ((q + 1) % 256)
        egress := s.fh.egress ++ [(t, { m with seqId := q })] } }) s

/-- A request under the eAxC map as it stands: its eAxC where that still carries the beam, else another that does (R308). -/
def State.route (s : State) (k : Nat) (r : UlReq) : Option UlReq :=
  let es := (s.fh.map.map Prod.snd).filter (fun e => e.kind == 1 && e.car == k && e.index == r.beam)
  match es.find? (fun e => e.id == r.eaxc) with
  | some e => some { r with port := e.port }
  | none => es.head?.map (fun e => { r with port := e.port, eaxc := e.id })

/-- Frames an uplink symbol whose totals are formed in the tick that closes. -/
def State.frameSymbol (s : State) (h : UlHeld) : State :=
  let k := h.car
  let meth := s.fld (F.CMP_UL_CAR_METH k)
  let pet := meth == 15
  let w := s.beamWidths k h.reqs
  let outs : List (Nat × List (List Cplx × Nat)) :=
    h.beams.map (fun b => (b.1, b.2.map (roundBeam (sget (fun _ => 0) h.shifts b.1))))
  let sat := outs.foldl (fun a o => a + o.2.foldl (fun a x => a + x.2) 0) 0
  let s := (s.addFld F.BF_UL_SAT_COUNT sat).symbolAdd slotSat false k h.sfn h.slot h.sym sat
  let ws := (h.reqs.map (fun r => w r.beam))
  let s := if pet ∧ !ws.isEmpty then
      (s.setFld (F.CMP_UL_PSTAT_WMAX k) (ws.foldl max 0)).setFld (F.CMP_UL_PSTAT_WMIN k) (ws.foldl min 255)
    else s
  let prbs := fun (r : UlReq) =>
    let xs := ((outs.find? (fun o => o.1 == r.beam)).map Prod.snd).getD []
    (List.range r.n).map (fun i => compressPrb meth (w r.beam) ((xs[r.lo + i]?.map Prod.fst).getD (List.replicate 12 Cplx.zero)))
  let reqs := h.reqs.filterMap (s.route k)
  let ids := (reqs.map (fun r => (r.port, r.eaxc))).eraseDups
  let sorted := ((List.range 4).flatMap (fun p => (ids.filter (fun i => i.1 == p)).mergeSort (fun a b => a.2 ≤ b.2)))
  let msgs := sorted.flatMap (fun (port, id) =>
    let rs := reqs.filter (fun r => r.port == port && r.eaxc == id)
    let work := rs.map (fun r =>
      (r.secId, r.lo, if pet then 16 * (w r.beam % 16) + 15 else 0, prbBytes meth (w r.beam), prbs r))
    let room := s.fld (F.ETH_CFG_MAXFRAME port) - s.frameOverhead port
    (fillMessages room (secOverhead pet) (4 * (rs.foldl (fun a r => a + r.n) 0) + 4 * rs.length + 4) work [] 0).map (fun l =>
      (⟨port, id, 0, h.sfn, h.slot, h.mu, h.sym, false, l⟩ : UpMsg)))
  s.queueMsgs (tickAdd s.tickno 1) msgs

/-- Frames an occasion's raw sums (R294). -/
def State.frameRaw (s : State) (o : Occasion) (sums : List (List Cplx)) : State :=
  let k := bitsAt o.ctrl 27 2
  let nz := zcLength (bitsAt o.ctrl 25 2)
  let meth := s.fld (F.CMP_UL_CAR_METH k)
  let (m, w) := if meth = 15 then (1, width16 (s.fld (F.CMP_UL_PET_PMAX k))) else (meth, width16 (s.fld (F.CMP_UL_CAR_WIDTH k)))
  let lg := ((List.range 16).filter (fun i => decide (2 ^ i < o.reps))).length
  match s.eaxcFor o.eaxc false with
  | none => s
  | some e =>
    let n := ceilDiv nz 12
    let work := (o.beams.zip (List.range o.beams.length)).map (fun ((_, sec), i) =>
      let xs := fit (12 * n) ((sums.getD i []).map (fun c => (sat16 (c.map (fun v => roundEven v lg))).1))
      (sec, 0, 0, prbBytes m w, (List.range n).map (fun j => compressPrb m w ((xs.drop (12 * j)).take 12))))
    let room := s.fld (F.ETH_CFG_MAXFRAME e.port) - s.frameOverhead e.port
    let msgs := (fillMessages room (secOverhead false) (4 * n * work.length + 64) work [] 0).map (fun l =>
      (⟨e.port, o.eaxc, 0, o.sfn, o.slot, s.carMu false k, o.sym, true, l⟩ : UpMsg))
    s.queueMsgs (tickAdd s.tickno 1) msgs

/-- Raw sums whose framing tick closes. -/
def State.rawTick (s : State) : State :=
  let due := s.pra.raw.filter (fun r => r.1 == s.tickno)
  let s := { s with pra := { s.pra with raw := s.pra.raw.filter (fun r => r.1 != s.tickno) } }
  due.foldl (fun s r => s.frameRaw r.2.1 r.2.2) s

/-- Bytes a port sends per tick at its rate. -/
def portBytes (rate : Nat) : Nat := ethRate rate * 1000000 / 3840 / 8

/-- The messages that leave on the boundary that closes the tick: those due, back to back within the port's rate (R293). -/
def State.egressTick (s : State) : State :=
  (List.range 4).foldl (fun s k =>
    let q := s.fh.egress.filter (fun e => e.2.port == k && !tickAfter e.1 s.tickno)
    let go := (q.foldl (fun (a : List (Nat × UpMsg) × Nat) e =>
      if a.2 < portBytes (s.fld (F.ETH_CFG_RATE k)) then (a.1 ++ [e], a.2 + s.messageSize e.2) else a) ([], 0)).1
    let s := { s with fh := { s.fh with egress := s.fh.egress.filter (fun e => !go.contains e) } }
    go.foldl (fun s e => (s.emit (.uplane (s.fld (F.ETH_DST_LO_ADDR k) + 2 ^ 32 * s.fld (F.ETH_DST_HI_ADDR k))
      (if s.flag (F.ETH_CFG_TAGGED k) then some (s.fld (F.ETH_VLAN_VID k) + 2 ^ 13 * s.fld (F.ETH_VLAN_PCP k)) else none) e.2)).addFld (F.ETH_TX_FRAMES_COUNT k) 1) s) s

/-- Sections received in the tick that closes are lost to a block-9 overrun (Table 02-4). -/
def State.overrun9 (s : State) : State :=
  let l := s.fh.ingress.filter (fun w => w.recv == s.tickno)
  let s := { s with fh := { s.fh with ingress := s.fh.ingress.filter (fun w => w.recv != s.tickno) } }
  l.foldl (fun s w => s.loseSection w.part.layer w.part.car w.part.start false true) s

/-! ### Quality records (R297, R298) -/

/-- Composite samples `[lo, hi)` of the 1,024 of a half-subframe tick that belong to a symbol. -/
def Geo.overlap (g : Geo) (m pos : Nat) : Nat × Nat :=
  let a := g.start m * 1024 / g.spt
  let b := g.stop m * 1024 / g.spt
  (max a (1024 * pos) - 1024 * pos, min b (1024 * (pos + 1)) - 1024 * pos)

/-- Kind 1: the samples of the next air tick at the DAC inputs, a retired path's among them, charged to the symbols they belong to (R297). -/
def State.airQuality (s : State) : State :=
  if !bitAt (s.fld F.FRM_QREC_CFG_EN) 1 then s
  else
    let x := tickAdd s.tickno 1
    let pos := s.frameAt x % 1920
    (List.range 256).foldl (fun s i =>
      let p := i / 4
      let k := i % 4
      if !(s.txUsed p && s.carEn true k && s.participates true k p && s.dlIn p 1) then s
      else
        let g := s.geo true k
        let xs := sget (fun _ => []) s.tx.air p
        (List.range g.count).foldl (fun s m =>
          let (lo, hi) := g.overlap m pos
          if hi ≤ lo then s
          else
            let w := (xs.drop lo).take (hi - lo)
            let (a, b, c) := (countQual .settling w, countQual .clipped w, countQual .void w)
            let first := tickAdd x (2 ^ 32 - (pos - g.start m / g.spt))
            let last := tickAdd first ((g.stop m - 1) / g.spt - g.start m / g.spt)
            let hit := fun (r : AirRec) => r.path == p && r.car == k && r.first == first
            let l := if s.fh.air.any hit then s.fh.air else s.fh.air ++ [⟨p, k, first, last, false, 0, 0, 0⟩]
            let late := decide (0 < c) && !s.txRetired p && !s.airReadyNext p
            { s with fh := { s.fh with air := l.map (fun r => if hit r then
              { r with late := r.late || late, settling := r.settling + a, clipped := r.clipped + b, voided := r.voided + c }
              else r) } }) s) s

/-- Symbols whose last air tick has closed hand in their records of kinds 1 and 2. -/
def State.closeSymbols (s : State) : State :=
  let done := s.fh.air.filter (fun r => !tickAfter r.last s.tickno)
  let s := { s with fh := { s.fh with air := s.fh.air.filter (fun r => tickAfter r.last s.tickno) } }
  let name := fun (s : State) (k first : Nat) =>
    let g := s.geo true k
    let ft := s.frameAt first
    let m := (g.startsIn (ft % 1920)).getD 0
    (s.sfnAt first, slotIx g.mu ft m, symOfSlot g.mu ft m)
  let s := done.foldl (fun s r =>
    if r.settling + r.clipped + r.voided = 0 then s
    else
      let (f, sl, sy) := name s r.car r.first
      s.queueQual ⟨tickAdd r.first (2 ^ 32 - (4 + s.depth)), 1, r.path, 0xFF, b2n r.late, f, sl, sy, r.settling, r.clipped, r.voided, r.car⟩) s
  let ovr := s.fh.lost.filter (fun r =>
    let g := s.geo true r.car
    let m := (g.startsIn (s.frameAt r.start % 1920)).getD 0
    !tickAfter (tickAdd r.start ((g.stop m - 1) / g.spt - g.start m / g.spt)) s.tickno)
  let s := { s with fh := { s.fh with lost := s.fh.lost.filter (fun r => !ovr.contains r) } }
  ovr.foldl (fun s r =>
    let (f, sl, sy) := name s r.car r.start
    s.queueQual ⟨tickAdd r.start (2 ^ 32 - (4 + s.depth)), 2, r.layer, r.car,
      2 * b2n (decide (0 < r.late)) + 4 * b2n (decide (0 < r.dropped)) + 8 * b2n r.ovr, f, sl, sy, r.late, r.dropped, 0, r.car⟩) s

/-- The order records enter in. -/
def qualBefore (a b : QualRec) : Bool :=
  if a.tick ≠ b.tick then tickAfter b.tick a.tick
  else if a.kind ≠ b.kind then decide (a.kind < b.kind)
  else if a.unit ≠ b.unit then decide (a.unit < b.unit) else decide (a.stream ≤ b.stream)

/-- The 32 bytes of a record (Table 10-3). -/
def qualBytes (q : QualRec) (seq : Nat) : List Byte :=
  leBytes 4 q.tick ++ leBytes 1 q.kind ++ leBytes 1 q.unit ++ leBytes 1 q.stream ++ leBytes 1 q.flags ++ leBytes 2 q.sfn ++
  leBytes 1 q.slot ++ leBytes 1 q.sym ++ leBytes 4 q.settling ++ leBytes 4 q.clipped ++ leBytes 4 q.voided ++ leBytes 4 0 ++
  leBytes 4 seq

/-- Waiting records enter the ring. -/
def State.enterQuality (s : State) : State :=
  let l := s.fh.quality.mergeSort qualBefore
  let s := { s with fh := { s.fh with quality := [] } }
  l.foldl (fun s q =>
    if !bitAt (s.fld F.FRM_QREC_CFG_EN) q.kind then s
    else
      let prod := s.fld F.FRM_QREC_PROD_INDEX
      let n := 2 ^ s.fld F.FRM_QREC_CFG_LOG2
      let seq := s.fh.qrecSeq
      let s := { s with fh := { s.fh with qrecSeq := (seq + 1) % 2 ^ 32 } }
      if tickSub prod (s.fld F.FRM_QREC_CONS_INDEX) = n then
        (s.addFld F.FRM_QREC_DROP_COUNT 1).slotAdd slotQrec (q.kind != 0) q.car 1
      else
        let base := s.fld F.FRM_QREC_BASE_LO_BASE * 4096 + s.fld F.FRM_QREC_BASE_HI_BASE * 2 ^ 32
        (s.hostWrite (base + 32 * (prod % n)) (qualBytes q seq)).setFld F.FRM_QREC_PROD_INDEX ((prod + 1) % 2 ^ 32)) s

end Sys2Proof.Machine
end

