-- ==== Sys2Proof/Machine/Cascade.lean ====
section
/-!
DEFINITION. Sys2Proof/Machine/Cascade.lean: Finef: ports (R352), frames (R350, R351), partial sums (R353-R356), downlink data
(R357), staging and commit records (R198, R359-R361), ring reversal (R364) and the CAS commands (R368, R369).
-/
namespace Sys2Proof.Machine

/-! ### Ports (Table 12-2) -/

inductive CasPort where
  | disabled | training | up | standby | down | retired
deriving DecidableEq, Repr

def CasPort.code : CasPort → Nat
  | .disabled => 0 | .training => 1 | .up => 2 | .standby => 3 | .down => 4 | .retired => 5

def CasPort.ofCode : Nat → CasPort
  | 0 => .disabled | 1 => .training | 2 => .up | 3 => .standby | 4 => .down | _ => .retired

def State.casPort (s : State) (k : Nat) : CasPort := .ofCode (s.fld (F.CAS_P_STATUS_STATE k))
def State.setCasPort (s : State) (k : Nat) (x : CasPort) : State := s.setFld (F.CAS_P_STATUS_STATE k) x.code

/-- Both lanes of a group are in TRACK (Table 11-1). -/
def State.bothTrack (s : State) (k : Nat) : Bool :=
  s.fld (F.LN_STATUS_ADAPT (2 * k)) == 3 && s.fld (F.LN_STATUS_ADAPT (2 * k + 1)) == 3

/-- Hop index in use. -/
def State.hop (s : State) : Nat := s.fld F.CAS_STATUS_HOP

/-- The upstream port of a member. -/
def State.casUp (s : State) : Nat := s.fld F.CAS_CFG_UP_PORT
def State.isUpstream (s : State) (k : Nat) : Bool := s.casRole == 2 && s.casUp == k
def State.isDownstream (s : State) (k : Nat) : Bool := s.casRole != 0 && bitAt (s.fld F.CAS_CFG_DOWN) k
/-- A port configured as STANDBY: until a reversal gives it another part. -/
def State.isStandby (s : State) (k : Nat) : Bool :=
  s.casRole != 0 && s.flag F.CAS_CFG_RING && s.fld F.CAS_CFG_STBY_PORT == k && !s.isUpstream k && !s.isDownstream k
def State.casNamed (s : State) (k : Nat) : Bool := s.isUpstream k || s.isDownstream k || s.isStandby k

/-- Devices that contribute at the root, itself included (R355). -/
def State.refreshPresent (s : State) : State :=
  if s.casRole = 1 then
    s.setFld F.CAS_STATUS_PRESENT (1 + ((List.range 4).filter (fun k => s.isDownstream k && s.casOpen k)).foldl
      (fun a k => a + (s.casBehind k).length) 0)
  else s.setFld F.CAS_STATUS_PRESENT 0

/-- CAS_STATUS.STATE: a member whose upstream port is not UP is ISOLATED. -/
def State.refreshCasState (s : State) : State :=
  s.setFld F.CAS_STATUS_STATE (if s.casRole = 2 ∧ s.casPort s.casUp ≠ .up then 3 else s.casRole)

/-- D in use (R194, R346). -/
def State.setDepth (s : State) (d : Nat) : State := (s.setFld F.CAS_STATUS_DEPTH d).setFld F.BF_DEPTH_DEPTH d

/-- The digest of R348: CRC-32C over the active words in the order the rule lists them, each little-endian (log entry 30). -/
def State.casDigest (s : State) : Nat :=
  let words := (List.range 8).map (fun i => 0x200100 + 0x40 * i) ++ (List.range 8).map (fun i => 0x200104 + 0x40 * i) ++
    (List.range 8).map (fun i => 0x200108 + 0x40 * i) ++ (List.range 32).map (fun i => 0x200300 + 4 * i) ++
    (List.range 32).map (fun i => 0x200380 + 4 * i) ++ (List.range 4).map (fun i => 0x240200 + 0x10 * i)
  (crc32c (words.flatMap (fun a => leBytes 4 (s.reg a).toNat))).toNat

/-- A standby path to the root is UP here or behind a downstream port (R364). -/
def State.standbyPath (s : State) : Bool :=
  (List.range 4).any (fun k => (s.isStandby k && s.casPort k == .standby) ||
    (s.isDownstream k && s.casPort k == .up && s.cas.ringUp.contains k))

/-- Ticks from the open one to the first tick at least `n` on whose FRAME_TICK is a multiple of 3,840. -/
def State.toSubframe (s : State) (n : Nat) : Nat := n + (3840 - (s.frameTick + n) % 3840) % 3840

/-! ### Link up, link down, rejoin (R352, R355-R358) -/

/-- 16 good frames and both lanes in TRACK. A reversal that has been requested over a standby path, or announced, takes its course (R364). -/
def State.casLinkUp (s : State) (k : Nat) : State :=
  if (s.casPort k = .training ∨ s.casPort k = .down) ∧ 16 ≤ sget (fun _ => 0) s.cas.good k ∧ s.bothTrack k then
    let back := s.elapsed + s.toSubframe (s.depth + 2) + 1
    let s := if s.isStandby k then s.setCasPort k .standby
      else { s.setCasPort k .up with cas := { s.cas with
        rejoin := sput (fun _ => 0) s.cas.rejoin k back
        reverse := s.cas.reverse && (!s.isUpstream k || s.standbyPath || s.cas.switchAt.isSome) } }
    s.refreshCasState.raiseFree 0xA001 (srcCas k) sevInfo
  else s

def execCasLinkUp (k : Fin 4) (s : State) : Host.Outcome State Fault Refusal := .next (s.casLinkUp k.val)

/-- A subtree's contributions are lost: the root raises the event, a member reports it upstream (R355). -/
def State.loseSubtree (s : State) (h k : Nat) : State :=
  if s.casRole = 1 then s.raise 0xA007 (256 * h + k) (srcCas k) sevError
  else { s with cas := { s.cas with lostOut := s.cas.lostOut ++ [(h, k)] } }

/-- What a port's leaving UP or STANDBY brings with it; `x` is the state it takes. -/
def State.casLeave (s : State) (k : Nat) (x : CasPort) : State :=
  let was := s.casPort k
  let s := s.setCasPort k x
  let trees := if was = .up then sput (fun _ => []) s.cas.subtree k [] else s.cas.subtree
  let s := { s with cas := { s.cas with
    good := sput (fun _ => 0) s.cas.good k 0
    rejoin := sput (fun _ => 0) s.cas.rejoin k 0
    blocks := sput (fun _ => []) s.cas.blocks k []
    subtree := trees
    ringUp := s.cas.ringUp.filter (fun j => j != k)
    outgoing := s.cas.outgoing.map (fun (o : StageOut) => { o with left := o.left.filter (fun e => e.1 != k) }) } }
  let s := if was = .up ∧ s.isDownstream k then s.loseSubtree s.hop k else s
  let s := if was = .up ∧ s.isUpstream k ∧ !s.flag F.CAS_STATUS_REVERSED ∧ s.standbyPath then
      { s with cas := { s.cas with reverse := true } } else s
  s.refreshCasState.refreshPresent

/-- 4 failing or missing frames (a received link fault counts as four), or a lane that left TRACK. -/
def State.casLinkDown (s : State) (k : Nat) : State :=
  if (s.casPort k = .up ∨ s.casPort k = .standby) ∧ (4 ≤ sget (fun _ => 0) s.cas.bad k ∨ !s.bothTrack k) then
    ((s.casLeave k .down).addFld (F.CAS_P_DOWNS_COUNT k) 1).raiseFree 0xA002 (srcCas k) sevError
  else s

def execCasLinkDown (k : Fin 4) (s : State) : Host.Outcome State Fault Refusal := .next (s.casLinkDown k.val)

/-- The rejoin tick: the port contributes from now on. -/
def State.casRejoin (s : State) (k : Nat) : State :=
  let t := sget (fun _ => 0) s.cas.rejoin k
  if s.casPort k = .up ∧ t ≠ 0 ∧ t ≤ s.elapsed + 1 then
    { s with cas := { s.cas with rejoin := sput (fun _ => 0) s.cas.rejoin k 0 } }.refreshPresent
  else s

def execCasRejoin (k : Fin 4) (s : State) : Host.Outcome State Fault Refusal := .next (s.casRejoin k.val)

/-- A retired port (Table 19-1). -/
def State.retireCas (s : State) (k : Nat) : State :=
  { s.casLeave k .retired with fault := { s.fault with retired := insertNat s.fault.retired (srcCas k) } }

/-! ### Received frames (R351) -/

/-- Control content a member takes from its upstream neighbour: hop index, D, digest, commit records, discovery. -/
def State.casFromUp (s : State) (f : FinefFrame) : State :=
  let h := (f.hop + 1) % 256
  let s := (s.setFld F.CAS_STATUS_HOP h).setDepth f.depth
  let deep := decide (f.depth < h)
  let s := if deep ∧ !s.cas.depthBad then s.raiseFree 0xA004 (srcBlock 11) sevError else s
  let key := if s.casDigest = f.digest then none else some (s.casDigest * 2 ^ 32 + f.digest)
  let s := if key.isSome ∧ key ≠ s.cas.digestBad then s.raiseFree 0xA005 (srcBlock 11) sevError else s
  let flags := b2n (s.flag F.CAS_STATUS_REVERSED) + 2 * b2n key.isSome + 8 * b2n deep
  let own : CasRecord := ⟨Config.deviceId % 2 ^ 128, h, s.fld F.CAS_ARRAY_SLICE, s.casUp, flags, 2 ^ 128⟩
  { s with cas := { s.cas with
    depthBad := deep, digestBad := key, rootSum := f.digest, reverse := f.reversal
    commits := s.cas.commits ++ f.commits, commitOut := s.cas.commitOut ++ f.commits
    request := s.cas.request || f.request
    answers := if f.request then s.cas.answers ++ [own] else s.cas.answers } }

/-- Data and staging content of an upstream neighbour: stored, and forwarded in this tick's frames. -/
def State.casDataDown (s : State) (k : Nat) (f : FinefFrame) : State :=
  let wait := f.layers.map (fun l => (⟨l, 0, s.tickno, tickAdd l.start (2 ^ 32 - (4 + s.depth)), 0, 0, 0, 0⟩ : DlWait))
  let s := if s.casOpen k then
      { s with
        fh := { s.fh with ingress := s.fh.ingress ++ wait }
        cas := { s.cas with layers := s.cas.layers ++ f.layers } }
    else s
  let s := f.chans.foldl (fun (s : State) c =>
    s.putChan c.ueId c.serves (c.regions.map (fun r =>
      ⟨r.lo, r.n, conjWeights r.peak (((r.vals.find? (fun v => v.1 == s.slice0)).map Prod.snd).getD zeroWeights)⟩))) s
  let s := { s with cas := { s.cas with stagings := s.cas.stagings ++ f.staged } }
  if f.staged.isEmpty ∧ f.chans.isEmpty then s
  else s.queueStage f.staged f.chans (f.staged.flatMap (·.secs)).eraseDups

/-- Discovery answers from downstream: the receiver is the parent of a record that names none. -/
def State.takeAnswers (s : State) (as : List CasRecord) : State :=
  let me := Config.deviceId % 2 ^ 128
  let as := as.map (fun a => if a.parent = 2 ^ 128 then { a with parent := me } else a)
  if s.casRole = 1 then
    { s with cas := { s.cas with discover := s.cas.discover.map (fun d =>
      { d with answers := d.answers.filter (fun x => !as.any (fun a => a.id == x.id)) ++ as }) } }
  else { s with cas := { s.cas with answers := s.cas.answers ++ as } }

/-- What a downstream neighbour sends: partial sums, its subtree, answers and lost subtrees. -/
def State.casFromDown (s : State) (k : Nat) (f : FinefFrame) : State :=
  let s := { s with cas := { s.cas with
    subtree := sput (fun _ => []) s.cas.subtree k f.subtree
    ringUp := (s.cas.ringUp.filter (fun j => j != k)) ++ (if f.ringUp then [k] else [])
    blocks := if s.casOpen k then sput (fun _ => []) s.cas.blocks k f.blocks else s.cas.blocks } }
  let s := s.takeAnswers f.answers
  (f.lost.foldl (fun s l => s.loseSubtree l.1 l.2) s).refreshPresent

/-- A reversal request reaches the root: the switch tick is chosen and announced (R364). -/
def State.chooseSwitch (s : State) : State :=
  if s.flag F.CAS_STATUS_REVERSED ∨ s.cas.switchAt.isSome then s
  else
    let t := tickAdd s.tickno (s.toSubframe (s.depth + 8))
    { s with cas := { s.cas with switchAt := some t } }

/-- A PTP frame of the control share that has come whole: stamped, forwarded by the transparent clock, and handed to the PTP stack (R305,
R366). -/
def State.casPtpIn (s : State) (k mt : Nat) (bs : List Byte) (res : List (Nat × Nat)) : State :=
  let (l, s) := s.stampAt 0
  let wait := fun (j : Nat) => ((res.find? (fun r => r.1 == j)).map Prod.snd).getD 0
  let s := if s.offAir ∨ pdelay mt then s
    else
      let s := ((List.range 4).filter (fun j => s.egressOpen j && s.flag (F.ETH_CFG_TC j))).foldl (fun s j => s.forwardTo mt bs (wait j) 0 j) s
      ((List.range 4).filter (fun j => j != k && s.timeCas j)).foldl (fun s j => s.queuePtp j mt bs l) s
  (s.notePtp (4 + k) mt bs l).answerDelay (4 + k) mt bs l

def State.casPtp (s : State) (k : Nat) (f : FinefFrame) : State :=
  if !bitAt (s.fld F.CAS_CFG_TIME) k then s
  else f.ptp.foldl (fun s (mt, bs, res) => s.casPtpIn k mt (withResidence mt bs res) f.residence) s

/-- A member's stager in the tick before an apply tick, once the commit record has come (R194, R198). -/
def State.stageNext (s : State) : State :=
  let v := tickAdd s.tickno 1
  if s.bf.builtFor == some v then s else s.stageFor v

/-- A frame that passed R351 on a port that is UP or STANDBY. -/
def State.casUse (s : State) (k : Nat) (f : FinefFrame) : State :=
  let s := if s.cas.switchAt.isNone ∧ s.casRole = 2 then { s with cas := { s.cas with switchAt := f.switchAt } } else s
  let s := if f.reversal ∧ s.casRole = 1 then s.chooseSwitch else s
  if s.casPort k ≠ .up then s
  else
    let s := s.casPtp k f
    if s.isUpstream k then ((s.casFromUp f).casDataDown k f).stageNext
    else if s.isDownstream k then s.casFromDown k f else s

/-- Counts a frame that failed a check, or that is missing. -/
def State.casBad (s : State) (k n : Nat) : State :=
  { s with cas := { s.cas with
    good := sput (fun _ => 0) s.cas.good k 0
    bad := sput (fun _ => 0) s.cas.bad k (min 4 (sget (fun _ => 0) s.cas.bad k + n))
    voidNow := insertNat s.cas.voidNow k } }

/-- FINEF_FRAME_RECEIVED: the checks of R351, then the frame's content. A frame that carries the link fault of R327 takes
the port down. -/
def State.finefIn (s : State) (k : Nat) (f : FinefFrame) : State :=
  if s.casPort k = .disabled ∨ s.casPort k = .retired then s
  else
    let s := { s with cas := { s.cas with heard := insertNat s.cas.heard k } }
    if f.fault then s.casBad k 4
    else if f.tickno % 2 ^ 32 ≠ tickAdd s.tickno (2 ^ 32 - 1) then
      ((s.casBad k 1).addFld (F.CAS_P_SKEW_COUNT k) 1).raiseFree 0xA003 (srcCas k) sevError
    else if !f.crcOk ∨ !f.fecOk then (s.casBad k 1).addFld (F.CAS_P_CRC_COUNT k) 1
    else
      let s := { s with cas := { s.cas with
        good := sput (fun _ => 0) s.cas.good k (min 16 (sget (fun _ => 0) s.cas.good k + 1))
        bad := sput (fun _ => 0) s.cas.bad k 0 } }
      let s := s.setFld (F.CAS_P_STATUS_PEER_HOP k) f.hop
      if s.casPort k = .up ∨ s.casPort k = .standby then s.casUse k f else s

def execFinefFrameReceived (port : Fin 4) (f : FinefFrame) (s : State) : Host.Outcome State Fault Refusal :=
  .next (if s.replaying then s else (s.noteItem (.finef port.val f)).finefIn port.val f)

/-! ### The cut-off at the root (R198, R361) -/

/-- Stagings of the tick that closes: each apply tick whose cut-off a new section meets takes a generation, and the content
joins the queues. -/
def State.makeStagings (s : State) : State :=
  let news := s.fh.csecs.filter (fun c => c.received == s.tickno)
  let us := (news.flatMap (fun c => (c.syms.map (s.applyOf c.dl c.car)).filter (s.meets c))).eraseDups
  if us.isEmpty then s
  else
    let g0 := s.fld F.BF_STAGE_GEN_GEN
    let parts := (us.zip (List.range us.length)).map (fun (u, i) =>
      (⟨(g0 + 1 + i) % 2 ^ 32, u, news.filter (fun c => s.meets c u && (c.syms.map (s.applyOf c.dl c.car)).contains u)⟩ : StagedPart))
    let s := s.setFld F.BF_STAGE_GEN_GEN ((g0 + us.length) % 2 ^ 32)
    let s := { s with cas := { s.cas with stagings := s.cas.stagings ++ parts } }
    s.queueStage parts [] (parts.flatMap (·.secs)).eraseDups

/-- On the boundary that opens tick `n`: for apply tick `n + 1 + D` the root names the newest generation whose content has fully left on
every port, whatever apply tick that content is for: generations wait in order, so it is the one before the oldest that waits. -/
def State.cutoff (s : State) : State :=
  let v := tickAdd s.tickno (1 + s.depth)
  if s.casRole ≠ 1 ∨ !s.isApply v then s
  else
    let g := match (s.cas.outgoing.flatMap (·.parts)).head? with
      | some p => tickAdd p.gen (2 ^ 32 - 1)
      | none => s.fld F.BF_STAGE_GEN_GEN
    let s := if s.cas.stagings.any (fun p => p.u == v && tickAfter p.gen g) then (s.addFld F.CAS_STAGE_LATE_COUNT 1).raiseFree 0xA008 (srcBlock 11) sevWarning else s
    { s with cas := { s.cas with commits := s.cas.commits ++ [(v, g)], commitOut := s.cas.commitOut ++ [(v, g)] } }

/-- The cascade on an opening boundary, before the banks: records of past apply ticks go, and the root's cut-off. -/
def State.casBoundary (s : State) : State :=
  let n := s.tickno
  let keep := fun (u : Nat) => !tickAfter n u
  { s with cas := { s.cas with
    stagings := s.cas.stagings.filter (fun p => keep p.u)
    commits := s.cas.commits.filter (fun c => keep c.1)
    heard := [], voidNow := [], blocks := [] } }.cutoff

/-! ### Totals (R353, R354) -/

/-- What a port adds to a PRB of a beam in the tick that closes: none where it adds zero, else a block. -/
def State.portBlock (s : State) (k beam car prb : Nat) : Option SumBlock :=
  if !(s.isDownstream k && s.casOpen k) then none
  else if s.cas.voidNow.contains k ∨ !s.cas.heard.contains k then
    some (sumBlock beam car prb true [])
  else (sget (fun _ => []) s.cas.blocks k).find? (fun b => b.beam == beam && b.car == car && b.prb == prb)

/-- Sums of two lists. -/
def addAll (a b : List Cplx) : List Cplx := (a.zip b).map (fun x => x.1.add x.2)

/-- The total of one PRB: downstream ports in ascending order, the own contribution last (R275). -/
def State.totalPrb (s : State) (beam car prb : Nat) (own : UlBlock) : UlBlock :=
  let ins := (List.range 4).filterMap (fun k => s.portBlock k beam car prb)
  let acc := addAll (ins.foldl (fun a b => addAll a (sumValue b)) (List.replicate 12 Cplx.zero)) own.acc
  ⟨own.void || s.ownVoid || ins.any sumVoid, acc⟩

/-- VOID blocks that ports delivered for a symbol (R354). -/
def State.voidsIn (s : State) (h : UlHeld) : Nat :=
  h.beams.foldl (fun a b => a + ((List.range b.2.length).flatMap (fun i =>
    (List.range 4).filterMap (fun k => s.portBlock k b.1 h.car i))).countP sumVoid) 0

/-- CMP_PSUM_VOID, and at the root the slot's count (R279, R354). -/
def State.countVoids (s : State) (h : UlHeld) : State :=
  let n := s.voidsIn h
  let s := s.addFld F.CMP_PSUM_VOID_COUNT n
  if s.casRole = 1 then s.symbolAdd slotPsum false h.car h.sfn h.slot h.sym n else s

/-- A symbol with its totals. -/
def State.totalSymbol (s : State) (h : UlHeld) : UlHeld :=
  { h with beams := h.beams.map (fun b =>
      (b.1, (b.2.zip (List.range b.2.length)).map (fun (x, i) => s.totalPrb b.1 h.car i x))) }

/-- The order blocks are sent in (R353). -/
def blockBefore (a b : SumBlock) : Bool :=
  if a.beam ≠ b.beam then decide (a.beam < b.beam)
  else if a.car ≠ b.car then decide (a.car < b.car) else decide (a.prb ≤ b.prb)

/-- The totals due in the tick that closes: a member sends them upstream, any other device frames them. -/
def State.totals (s : State) : State :=
  let due := s.bf.held.filter (fun h => !tickAfter h.due s.tickno)
  let s := { s with bf := { s.bf with held := s.bf.held.filter (fun h => tickAfter h.due s.tickno) } }
  let ts := due.map s.totalSymbol
  let s := due.foldl State.countVoids s
  if s.casRole = 2 then
    let bs := (ts.flatMap (fun h => h.beams.flatMap (fun b =>
      (b.2.zip (List.range b.2.length)).map (fun (x, i) => sumBlock b.1 h.car i x.void x.acc)))).mergeSort blockBefore
    let s := s.addFld F.CAS_PSUM_VOID_TX_COUNT (bs.filter sumVoid).length
    { s with cas := { s.cas with sums := bs } }
  else ts.foldl State.frameSymbol s

/-! ### Frames sent (R350) -/

/-- Staging bits of a tick and direction (Table 12-1). -/
def stageShare : Nat := 12288

/-- One tick of a port's staging share: what is left of each item, in order, and the items that have left whole. -/
def shareOut (k room : Nat) (l : List StageOut) : List StageOut × List StageOut :=
  match l with
  | [] => ([], [])
  | o :: r =>
    match o.left.find? (fun e => e.1 == k) with
    | none => let (a, d) := shareOut k room r; (o :: a, d)
    | some (_, b) =>
      if b ≤ room then
        let (a, d) := shareOut k (room - b) r
        ({ o with left := o.left.filter (fun e => e.1 != k) } :: a, o :: d)
      else ({ o with left := o.left.map (fun e => if e.1 = k then (k, b - room) else e) } :: r, [])

/-- Bits waiting on a port. -/
def State.stageQueued (s : State) (k : Nat) : Nat :=
  s.cas.outgoing.foldl (fun a o => (o.left.filter (fun e => e.1 == k)).foldl (fun a e => a + e.2) a) 0

/-- A section with the slices of a subtree alone. -/
def sliceSec (subs : List Nat) (c : CSection) : CSection :=
  { c with weights := c.weights.map (fun ws => ws.filter (fun w => subs.contains w.1)) }

def sliceChan (subs : List Nat) (c : ChanPart) : ChanPart :=
  { c with regions := c.regions.map (fun r => { r with vals := r.vals.filter (fun v => subs.contains v.1) }) }

/-- The control share of a tick and direction (Table 12-1), and the bits of its fields that every frame carries (log 194): TICKNO, hop index,
D, digest, port states and the switch announcement. -/
def controlShare : Nat := 4096
def controlHead : Nat := 160

/-- Room that commit records and lost subtrees leave in a port's control share. -/
def State.controlRoom (s : State) (up down : Bool) : Nat :=
  controlShare - controlHead - (if down then 64 * s.cas.commitOut.length else 0) - (if up then 16 * s.cas.lostOut.length else 0)

/-- Discovery answers, 192 bits each, that fit in the room. -/
def State.answersOut (s : State) (up : Bool) (room : Nat) : Nat := if up then min s.cas.answers.length (room / 192) else 0

/-- PTP frames, fragmented over consecutive ticks (R366): those whose last bits leave in the room, and what is left of the others. -/
def ptpShare (room : Nat) : List PtpOut → List PtpOut × List PtpOut
  | [] => ([], [])
  | o :: r =>
    if o.left ≤ room then
      let x := ptpShare (room - o.left) r
      (o :: x.1, x.2)
    else ([], { o with left := o.left - room } :: r)

/-- Aster time at the Finef frame boundary that closes the open tick. -/
def State.closeStamp (s : State) : Nat := s.linear ((s.time.frc + (if s.frcRuns then 128 else 0)) % 2 ^ 64)

/-- A PTP frame as it leaves a cascade port, its residence up to the frame boundary of its last fragment in correctionField. -/
def State.ptpLeaves (s : State) (o : PtpOut) : Nat × List Byte × Nat :=
  (o.mtype, withResidence o.mtype o.bytes (signed 96 ((s.closeStamp + 2 ^ 96 - o.since) % 2 ^ 96)), 0)

/-- The frame of a port for the tick that closes; `done` is the staging content that leaves whole, `answers` the discovery answers and `ptp`
the PTP frames whose last bits leave. -/
def State.finefOut (s : State) (k : Nat) (done : List StageOut) (answers : List CasRecord) (ptp : List PtpOut) : FinefFrame :=
  let up := s.isUpstream k
  let down := s.isDownstream k && s.casPort k == .up
  let subs := s.casBehind k
  let open_ := s.casOpen k
  { crcOk := true, fecOk := true, fault := s.inSafe, tickno := s.tickno, hop := s.hop,
    depth := s.fld F.CAS_STATUS_DEPTH,
    digest := if s.casRole = 2 ∧ !up then s.cas.rootSum else s.casDigest,
    standby := s.isStandby k, ringUp := up && s.standbyPath,
    subtree := if up then s.fld F.CAS_ARRAY_SLICE ::
        ((List.range 4).filter (fun j => s.isDownstream j && s.casOpen j)).flatMap s.casBehind else [],
    blocks := if up && open_ then s.cas.sums else [],
    layers := if down && open_ then s.cas.layers else [],
    staged := if down then done.flatMap (fun o => o.parts.map (fun p => { p with secs := p.secs.map (sliceSec subs) })) else [],
    chans := if down then done.flatMap (fun o => o.chans.map (sliceChan subs)) else [],
    commits := if down then s.cas.commitOut else [],
    request := down && s.cas.request,
    answers := answers,
    lost := if up then s.cas.lostOut else [],
    reversal := s.cas.reverse && !up,
    switchAt := s.cas.switchAt,
    ptp := ptp.map s.ptpLeaves,
    residence := [] }

/-- Sends one port's frame and keeps its peaks. A member passes staging content on as its fragments come, so an item that has come whole
leaves whole (log 195). -/
def State.sendFinef (s : State) (k : Nat) : State :=
  match s.casPort k with
  | .disabled | .retired => s
  | x =>
    let before := s.stageQueued k
    let room := if x ≠ .up then 0 else if s.casRole = 2 then before else stageShare
    let (rest, done) := shareOut k room s.cas.outgoing
    let up := s.isUpstream k
    let space := s.controlRoom up (s.isDownstream k && x == .up)
    let n := s.answersOut up space
    let (gone, wait) := ptpShare (space - 192 * n) (s.cas.ptpOut.filter (fun (o : PtpOut) => o.port == k))
    let f := s.finefOut k done (s.cas.answers.take n) gone
    let s := { s with cas := { s.cas with
      outgoing := rest, answers := s.cas.answers.drop n
      ptpOut := s.cas.ptpOut.filter (fun (o : PtpOut) => o.port != k) ++ wait } }
    let stage := ceilDiv (min (before - s.stageQueued k) stageShare) 64
    let data := ceilDiv (296 * f.blocks.length + f.layers.foldl (fun a l => a + 8 * l.bytes.length) 0) 64
    let s := s.setFld (F.CAS_P_PEAK_STAGING k) (max (s.fld (F.CAS_P_PEAK_STAGING k)) (min stage 0xFFFF))
    let s := s.setFld (F.CAS_P_PEAK_DATA k) (max (s.fld (F.CAS_P_PEAK_DATA k)) (min data 0xFFFF))
    s.emit (.finef k f)

/-- The upstream frame of the tick that closes is void: so are the layer data it would have brought (R351), those of the symbols that start
D + 4 - h ticks on. Their air ticks are VOID on every path of the carrier, and the streams then SETTLING (log 196). -/
def State.voidLayers (s : State) : State :=
  if s.casRole ≠ 2 ∨ !s.casOpen s.casUp ∨ !s.cas.voidNow.contains s.casUp then s
  else
    let x := tickAdd s.tickno (4 + s.depth - s.hop)
    (List.range 4).foldl (fun s k =>
      let g := s.geo true k
      match (if s.carEn true k then g.startsIn (s.frameAt x % 1920) else none) with
      | none => s
      | some m =>
        let n := (g.stop m - 1) / g.spt - g.start m / g.spt
        ((List.range 64).filter (s.participates true k)).foldl (fun s p =>
          ((List.range n).foldl (fun s i => s.voidAirTick p (tickAdd x i)) s).voidThenSettle p (tickAdd x n)) s) s

/-- The cascade in the tick that closes: frames that did not come, totals, the root's layer data and stagings, and the frames
sent. -/
def State.casTick (s : State) : State :=
  if s.casRole = 0 then s.totals
  else
    let s := (List.range 4).foldl (fun s k =>
      if (s.casPort k = .disabled ∨ s.casPort k = .retired) ∨ s.cas.heard.contains k then s else s.casBad k 1) s
    let s := s.voidLayers.totals
    let s := if s.casRole = 1 then
        let parts := (s.fh.ingress.filter (fun w => w.due == s.tickno)).map (fun w => { w.part with scaler := s.scalerFor w })
        ({ s with cas := { s.cas with layers := parts } }).makeStagings
      else s
    let s := (List.range 4).foldl State.sendFinef s
    let q := (List.range 4).foldl (fun m k => max m (s.stageQueued k)) 0
    let s := s.setFld F.CAS_STAGE_QUEUED (min (ceilDiv q 64) 0xFFFF)
    { s with cas := { s.cas with
      outgoing := s.cas.outgoing.filter (fun o => !o.left.isEmpty)
      sums := [], layers := [], commitOut := [], lostOut := [], request := false
      answers := if s.casRole = 2 ∧ s.casPort s.casUp ≠ .disabled ∧ s.casPort s.casUp ≠ .retired then s.cas.answers else []
      ptpOut := s.cas.ptpOut.filter (fun (o : PtpOut) => s.timeCas o.port) } }

/-! ### Ring reversal (R364, R366) -/

/-- A member beyond the break takes its standby or former downstream port as the upstream one. -/
def State.turnAround (s : State) : State :=
  let old := s.casUp
  let new := if s.flag F.CAS_CFG_RING then s.fld F.CAS_CFG_STBY_PORT
    else ((List.range 4).find? s.isDownstream).getD old
  let s := (s.setFld F.CAS_CFG_UP_PORT new).setFld F.CAS_CFG_DOWN (2 ^ old)
  let s := if s.casPort new = .standby then s.setCasPort new .up else s
  let s := { s with time := { s.time with parent := s.time.parent.map (fun p => if p = 4 + old then 4 + new else p) } }
  let sl := s.fld F.TIM_PTP_CFG_SLAVE
  if bitAt sl (4 + old) then s.setFld F.TIM_PTP_CFG_SLAVE (putBits (putBits sl (4 + old) 1 0) (4 + new) 1 1) else s

/-- The announced switch tick has come. -/
def State.ringReversal (s : State) : State :=
  match s.cas.switchAt with
  | none => s
  | some t =>
    if tickAfter t s.tickno then s
    else
      let s := { s with cas := { s.cas with switchAt := none } }
      if s.casRole = 1 then
        let m := s.fld F.CAS_ARRAY_M
        let near := s.fld F.CAS_STATUS_PRESENT - 1
        let k := s.fld F.CAS_CFG_STBY_PORT
        let s := s.setFld F.CAS_CFG_DOWN (putBits (s.fld F.CAS_CFG_DOWN) k 1 1)
        let s := if s.casPort k = .standby then s.setCasPort k .up else s
        let s := (s.setFld F.CAS_STATUS_REVERSED 1).addFld F.CAS_REVERSALS_COUNT 1
        s.refreshPresent.raise 0xA009 (max near (m - 1 - near)) (srcBlock 11) sevWarning
      else if s.cas.reverse then
        let s := { s.turnAround with cas := { s.cas with reverse := false } }
        (s.setFld F.CAS_STATUS_REVERSED 1).refreshCasState
      else s

def execRingReversal (s : State) : Host.Outcome State Fault Refusal := .next s.ringReversal

/-! ### Commands (R368, R369) -/

/-- Check 8: DOZE. -/
def ctxCasConfig (s : State) : Option Status := if s.fld F.PWR_STATUS_STATE = 3 then some .notPermitted else none

/-- Ports a CAS_CONFIG payload names. -/
def casPorts (c : Cmd) : List Nat :=
  let p := c.payload
  (List.range 4).filter (fun k => leAt p 2 1 == k || bitAt (leAt p 3 1) k || leAt p 4 1 == k)

/-- Check 11 of CAS_CONFIG. -/
def chkCasConfig (s : State) (c : Cmd) : Option Status :=
  let p := c.payload
  let role := leAt p 0 1
  let ring := leAt p 1 1 == 1
  let up := leAt p 2 1
  let down := leAt p 3 1
  let stby := leAt p 4 1
  let ports := casPorts c
  if p.length ≠ 12 ∨ 3 ≤ role ∨ 2 ≤ leAt p 1 1 ∨ (if role = 2 then 4 ≤ up else up ≠ 0xFF) ∨ 16 ≤ down ∨
      (if ring then 4 ≤ stby else stby ≠ 0xFF) ∨ 16 ≤ leAt p 5 1 ∨ (if role = 1 then leAt p 6 1 = 0 else leAt p 6 1 ≠ 0) ∨
      32 ≤ leAt p 7 1 ∨ (if role = 1 then leAt p 8 1 < 2 ∨ 32 < leAt p 8 1 else leAt p 8 1 ≠ 0) ∨ !zeroAt p 9 3 ∨
      (up < 4 ∧ (bitAt down up ∨ up = stby)) ∨ (stby < 4 ∧ bitAt down stby) ∨ (role = 1 ∧ down = 0) ∨
      (ring ∧ 1 < (maskList 4 down).length) then some .badParam
  else if ports.any (fun k => s.fld (F.LN_STATUS_MODE (2 * k)) != 2) then some .notPermitted
  else if !ports.isEmpty ∧ ports.all (fun k => s.isRetired (srcCas k)) then some .resourceRetired
  else none

/-- What CAS_CONFIG writes. -/
def casChanges (c : Cmd) : List Change :=
  let p := c.payload
  let two := fun (v : Nat) => if v < 4 then v else 0
  [.reg 0x320000 0xFFFF3E03 (leAt p 6 1 * 2 ^ 24 + leAt p 5 1 * 2 ^ 20 + leAt p 3 1 * 2 ^ 16 + two (leAt p 4 1) * 2 ^ 12 +
     two (leAt p 2 1) * 2 ^ 10 + leAt p 1 1 * 2 ^ 9 + leAt p 0 1),
   .reg 0x320004 0x3F1F (leAt p 8 1 * 2 ^ 8 + leAt p 7 1)]

/-- Check 12: R363. -/
def limitCasConfig (s : State) (c : Cmd) : Bool :=
  leAt c.payload 0 1 != 1 || (s.prospect c.actTick (casChanges c)).fhFits

def execCasConfig (tag : Nat) (s : State) : Host.Outcome State Fault Refusal :=
  .next (s.performCommit 0x0900 tag anyOp (fun c s =>
    let (part, pl) := partialMask 4 1 ((casPorts c).filter (fun k => s.isRetired (srcCas k)))
    s.armCmd c [.cascade] (casChanges c) [] .ok part pl))

/-- A change is one of CAS_CONFIG's. -/
def Change.cascades (c : Change) : Bool :=
  match c with
  | .reg a _ _ => a == 0x320000 || a == 0x320004
  | _ => false

/-- The cascade's side of a commit of CAS_CONFIG: ports named and no longer named (Table 12-2), the role and D. -/
def State.casCommit (s : State) (chs : List Change) : State :=
  if !chs.any Change.cascades then s
  else
    let s := (List.range 4).foldl (fun s k =>
      match s.casPort k with
      | .retired => s
      | .disabled =>
        if s.casNamed k ∧ s.fld (F.LN_STATUS_MODE (2 * k)) = 2 ∧ !s.isRetired (srcCas k) then s.setCasPort k .training else s
      | x =>
        if !s.casNamed k then s.casLeave k .disabled
        else if x = .up ∧ s.isStandby k then s.setCasPort k .standby
        else if x = .standby ∧ !s.isStandby k then s.setCasPort k .up else s) s
    let s := if s.casRole = 1 then (s.setFld F.CAS_STATUS_HOP 0).setDepth (s.fld F.CAS_CFG_DEPTH)
      else if s.casRole = 0 then (s.setFld F.CAS_STATUS_HOP 0).setDepth 0 else s
    let s := s.setFld F.CAS_STATUS_REVERSED 0
    let s := if s.casRole = 0 then { s with cas := { CasState.init with discover := s.cas.discover } } else s
    s.refreshCasState.refreshPresent.refreshBfLoad.refreshFhLoad

/-- The cascade as every device reset and every exit from STANDBY leaves it: every port DISABLED, whatever is retired (R372). -/
def State.resetCas (s : State) : State :=
  { s.resetRange 0x320000 0x32FFFF with cas := CasState.init }.setDepth 0

/-- A device reset leaves every port of both kinds DISABLED, whatever is retired (R302, R352). -/
def State.resetLinks (s : State) : State := (List.range 4).foldl (fun s k => s.setPort k .disabled) s.resetCas

def ctxCasDiscover (s : State) : Option Status := if s.casRole = 1 then none else some .notPermitted
def chkCasDiscover (c : Cmd) : Option Status := if c.payload.isEmpty then none else some .badParam

/-- CAS_DISCOVER: the request goes out in this tick's frames. -/
def execCasDiscover (tag : Nat) (s : State) : Host.Outcome State Fault Refusal :=
  .next (s.performStart 0x0901 tag anyOp (fun c s =>
    { s with cas := { s.cas with
      request := true, discover := s.cas.discover ++ [⟨c.tag, s.elapsed + 2 * s.depth + 4, []⟩] } }))

/-- The payload of a discovery (R369, Table 12-4). -/
def State.discoverBytes (s : State) (d : Discovery) : List Byte :=
  let me : CasRecord := ⟨Config.deviceId % 2 ^ 128, 0, s.fld F.CAS_ARRAY_SLICE, 0xFF, b2n (s.flag F.CAS_STATUS_REVERSED), 2 ^ 128⟩
  let l := me :: d.answers.mergeSort (fun a b => decide (a.hop ≤ b.hop))
  let parent := fun (r : CasRecord) => match l.findIdx? (fun x => x.id == r.parent) with
    | some i => i
    | none => 0xFF
  let dup := fun (r : CasRecord) => decide (1 < (l.filter (fun x => x.slice == r.slice)).length)
  leBytes 1 l.length ++ leBytes 1 s.depth ++ leBytes 2 0 ++ l.flatMap (fun r =>
    leBytes 16 r.id ++ leBytes 1 r.hop ++ leBytes 1 r.slice ++ leBytes 1 r.up ++ leBytes 1 (r.flags + 4 * b2n (dup r)) ++
    leBytes 1 (parent r) ++ leBytes 3 0)

/-- Discoveries whose time has come complete. -/
def State.discoverComplete (s : State) : State :=
  let due := s.cas.discover.filter (fun d => decide (d.endsAt ≤ s.elapsed))
  let s := { s with cas := { s.cas with discover := s.cas.discover.filter (fun d => decide (s.elapsed < d.endsAt)) } }
  due.foldl (fun s d => s.finishNow d.tag .ok (s.discoverBytes d)) s

def execCasDiscoverComplete (s : State) : Host.Outcome State Fault Refusal := .next s.discoverComplete

end Sys2Proof.Machine
end

