-- ==== Sys2Proof/Machine/Patterns.lean ====
section
/-!
DEFINITION. Sys2Proof/Machine/Patterns.lean: the symbols of a lane: what the slicer decides, the figure of merit and the density of
transitions (R321-R323), and the test patterns as generators and checkers (R333-R335).
-/
namespace Sys2Proof.Machine

/-! ### Symbols (R321-R323) -/

/-- The level, 0 to 3, nearest to a slicer input [1/256]. -/
def slice4 (v : Int) : Nat := if v < -512 then 0 else if v < 0 then 1 else if v < 512 then 2 else 3

/-- The ideal value of a level [1/256]. -/
def idealOf (x : Nat) : Int := 512 * (x : Int) - 768

/-- The decisions of a tick: the slicer's, or those of the MLSE detector, which the spec does not give (log 188). -/
def decide4 (mlse : Bool) (vs : List Int) : List Nat :=
  if mlse then (List.range vs.length).map (fun i => Config.mlse vs i % 4) else vs.map slice4

/-- The slicer SNR over symbols [0.01 dB] (R322). -/
def meritOf (vs : List Int) (xs : List Nat) : Int :=
  let e := vs.zip xs
  level (e.foldl (fun a (x : Int × Nat) => a + (idealOf x.2).natAbs ^ 2) 0)
    (e.foldl (fun a (x : Int × Nat) => a + (x.1 - idealOf x.2).natAbs ^ 2) 0)

/-- A window of 1,024 symbols after `prev` is adequate (R323). -/
def adequate (prev : Option Nat) (xs : List Nat) : Bool :=
  let before := prev.toList ++ xs
  decide (256 ≤ ((before.zip (before.drop 1)).filter (fun x => x.1 != x.2)).length) &&
  (List.range 4).all (fun v => decide (64 ≤ xs.count v))

/-- The transition-density monitor takes a symbol. -/
def LaneHw.density (h : LaneHw) (x : Nat) : LaneHw :=
  let w := h.window ++ [x]
  if w.length < 1024 then { h with window := w }
  else if adequate h.last w then { h with window := [], last := some x, good := h.good + 1, low := 0 }
  else { h with window := [], last := some x, low := h.low + 1, good := 0 }

/-- Symbols that a rate moves in 1 µs. -/
def symbolsPerUs (rate : Nat) : Nat := if rate = 0 then 106250 else 53125

/-- Consecutive inadequate windows span more than 1 µs; consecutive adequate ones at least 10 µs (R323). -/
def LaneHw.lowContent (h : LaneHw) (rate : Nat) : Bool := decide (symbolsPerUs rate < 1024 * h.low)
def LaneHw.goodContent (h : LaneHw) (rate : Nat) : Bool := decide (10 * symbolsPerUs rate ≤ 1024 * h.good)

/-- The symbols that a lane moves in elapsed tick `n`: 27,669 13/48 a tick at 106.25 GBd, half at 53.125 GBd. -/
def symbolsIn (rate n : Nat) : Nat :=
  let d := if rate = 0 then 48 else 96
  1328125 * (n + 1) / d - 1328125 * n / d

/-! ### Patterns (R333, Table 11-4) -/

/-- Two bits as a PAM4 level, Gray coded, the first bit as MSB; and back. -/
def grayLevel (a b : Bool) : Nat := 2 * b2n a + b2n (a != b)
def grayBits (x : Nat) : List Bool := [decide (2 ≤ x), x == 1 || x == 2]

/-- The taps of a pattern that a shift register makes: its length first. PRBS13Q is IEEE 802.3's x^13 + x^12 + x^2 + x + 1 (log 189). -/
def patTaps : Nat → List Nat
  | 1 => [7, 6] | 2 => [9, 5] | 3 => [13, 12, 2, 1] | 4 => [15, 14] | 5 => [31, 28] | 6 => [31, 28] | _ => []

def patLen (code : Nat) : Nat := (patTaps code).headD 0

/-- The standards send these patterns inverted (log 189). -/
def patInverted (code : Nat) : Bool := code == 4 || code == 5 || code == 6

/-- Bits after which a pattern without a shift register repeats: SQ8's 16 symbols, SSPRQ's 65,535. -/
def patPeriod (code : Nat) : Nat := if code = 8 then 32 else 131070

/-- The next bit of a pattern and the register after it: a shift register's newest bits, the latest in bit 0, or a position. -/
def patNext (code r : Nat) : Bool × Nat :=
  if patLen code = 0 then
    let x := if code = 8 then (if r < 16 then 0 else 3) else Config.ssprq (r / 2) % 4
    ((grayBits x).getD (r % 2) false, (r + 1) % patPeriod code)
  else
    let b := (patTaps code).foldl (fun b t => b != bitAt r (t - 1)) false
    (b != patInverted code, (2 * r + b2n b) % 2 ^ patLen code)

/-- `n` bits of a pattern from a register. -/
def patRun (code : Nat) : Nat → Nat → List Bool × Nat
  | 0, r => ([], r)
  | n + 1, r =>
    let x := patNext code r
    let rest := patRun code n x.2
    (x.1 :: rest.1, rest.2)

/-- Where a generator starts: not stated (log 189). -/
def patStart (code : Nat) : Nat :=
  if patLen code = 0 then Config.patternStart code % patPeriod code
  else
    let r := Config.patternStart code % 2 ^ patLen code
    if r = 0 then 1 else r

/-! ### The checker (R334) -/

/-- Symbols a checker seeds itself from. -/
def seedSymbols (code : Nat) : Nat := (patLen code + 1) / 2

/-- The registers that received seed bits leave open: a shift register's own, but not all zeros; any position otherwise. -/
def seedsOf (code : Nat) (bits : List Bool) : List Nat :=
  if patLen code = 0 then List.range (patPeriod code)
  else
    let r := bits.foldl (fun r b => (2 * r + b2n (b != patInverted code)) % 2 ^ patLen code) 0
    if r = 0 then [] else [r]

/-- Received bits: a seed and 1,024 error-free symbols after it; the register that follows them. -/
def seeded (code : Nat) (bits : List Bool) : Option Nat :=
  let k := 2 * seedSymbols code
  (seedsOf code (bits.take k)).findSome? (fun r =>
    let x := patRun code 2048 r
    if x.1 = bits.drop k then some x.2 else none)

/-- The checker takes the two bits of a symbol; `search`: its state is SEARCH, so that it seeds itself when it has no register. -/
def PatternHw.check (h : PatternHw) (code : Nat) (search : Bool) (x : List Bool) : PatternHw :=
  match h.own with
  | some r =>
    let y := patRun code 2 r
    let e := ((y.1.zip x).filter (fun z => z.1 != z.2)).length
    let h : PatternHw := { h with own := some y.2, bits := h.bits + 2, errs := h.errs + e, pend := (h.pend.1 + 2, h.pend.2 + e) }
    if h.bits < 2048 then h
    else if 256 < h.errs then { h with own := none, hist := [], bits := 0, errs := 0, pend := if search then (0, 0) else h.pend }
    else { h with bits := 0, errs := 0 }
  | none =>
    if !search then h
    else
      let want := 2 * seedSymbols code + 2048
      let bits := h.hist ++ x
      let bits := bits.drop (bits.length - want)
      match (if bits.length = want then seeded code bits else none) with
      | some r => { h with own := some r, hist := [], bits := 0, errs := 0, pend := (0, 0) }
      | none => { h with hist := bits }

/-- A checker that starts to search. -/
def PatternHw.research (h : PatternHw) : PatternHw := { h with hist := [], own := none, bits := 0, errs := 0, pend := (0, 0) }

/-! ### The generator (R333, R335) -/

/-- The bits a generator sends in `n` symbols, the first `flip` of them inverted by an injection. -/
def PatternHw.sends (h : PatternHw) (code n : Nat) : List Bool :=
  match h.gen with
  | none => []
  | some r =>
    let bits := (patRun code (2 * n) r).1
    (bits.take h.flip).map (!·) ++ bits.drop h.flip

/-- Bits as PAM4 levels, two a symbol; `inv` inverts the lane's polarity (R320). -/
def levelsOf (inv : Bool) : List Bool → List Nat
  | a :: b :: r => (if inv then 3 - grayLevel a b else grayLevel a b) :: levelsOf inv r
  | _ => []

/-- The tick's symbols have left the generator. -/
def PatternHw.sent (h : PatternHw) (code n : Nat) : PatternHw :=
  { h with gen := h.gen.map (fun r => (patRun code (2 * n) r).2), flip := 0 }

end Sys2Proof.Machine
end

