-- ==== Sys2Proof/Machine/Lanes.lean ====
section
/-!
DEFINITION. Sys2Proof/Machine/Lanes.lean: Iris: lane groups, adaptation (Table 11-1), presets (R328), modules (R330-R332), test
patterns, injection and bit slip (R333-R336) and the LANE commands (R338-R341).
-/
namespace Sys2Proof.Machine

/-! ### Lane states (Table 11-1) -/

inductive LaneAdapt where
  | off | los | acquire | track | frozen | held | retired
deriving DecidableEq, Repr

def LaneAdapt.code : LaneAdapt → Nat
  | .off => 0 | .los => 1 | .acquire => 2 | .track => 3 | .frozen => 4 | .held => 5 | .retired => 6

def LaneAdapt.ofCode : Nat → LaneAdapt
  | 0 => .off | 1 => .los | 2 => .acquire | 3 => .track | 4 => .frozen | 5 => .held | _ => .retired

def State.lane (s : State) (l : Nat) : LaneAdapt := .ofCode (s.fld (F.LN_STATUS_ADAPT l))
def State.setLane (s : State) (l : Nat) (x : LaneAdapt) : State := s.setFld (F.LN_STATUS_ADAPT l) x.code
def State.laneHw (s : State) (l : Nat) : LaneHw := sget (fun _ => LaneHw.init) s.ln.hw l
def State.putLaneHw (s : State) (l : Nat) (h : LaneHw) : State :=
  { s with ln := { s.ln with hw := sput (fun _ => LaneHw.init) s.ln.hw l h } }
def State.pat (s : State) (l : Nat) : PatternHw := sget (fun _ => PatternHw.init) s.ln.pats l
def State.putPat (s : State) (l : Nat) (h : PatternHw) : State :=
  { s with ln := { s.ln with pats := sput (fun _ => PatternHw.init) s.ln.pats l h } }

/-- The group of a lane is in RAW. -/
def State.laneRaw (s : State) (l : Nat) : Bool := s.fld (F.LN_STATUS_MODE l) == 3

/-! ### Presets (R328, Table 11-2) -/

/-- Fields of a preset in range, with the transmit taps as R319 bounds them. -/
def presetOk (p : List Byte) : Bool :=
  let taps := (List.range 7).map (fun i => sleAt p (4 + i) 1)
  decide (leAt p 0 1 ≤ 31 ∧ leAt p 1 1 ≤ 63 ∧ leAt p 2 1 ≤ 15 ∧ 0 < sleAt p 6 1 ∧
    taps.foldl (fun a t => a + t.natAbs) 0 ≤ 64) && zeroAt p 11 1 && zeroAt p 44 4

/-- A factory preset: bytes that the spec does not state, but in the ranges of Table 11-2 and R319; a constant out of range stands for
a lone main tap (log 190). -/
def factoryPreset (l b : Nat) : List Byte :=
  let raw := (List.range 48).map (fun i => BitVec.ofNat 8 (if i = 11 ∨ 44 ≤ i then 0 else Config.factoryPreset l b i))
  if presetOk raw then raw else (List.range 48).map (fun i => if i = 6 then 64#8 else 0#8)

def State.preset (s : State) (l b : Nat) : List Byte :=
  match sget (fun _ => []) s.ln.presets (5 * l + b) with
  | [] => factoryPreset l b
  | p => p

/-- The band in force for the lanes (Table 18-3). -/
def State.laneBand (s : State) : Nat := s.fld (F.HK_DOM_STAT_BAND 4)

/-- A lane runs from a preset afresh: nothing adapted, the timer and the spans of the figure of merit at 0. -/
def LaneHw.runsFrom (h : LaneHw) (p : List Byte) : LaneHw :=
  { h with loaded := p, adapted := none, timer := 0, tracked := false, above := 0, below := 0 }

/-- A load of receiver and transmitter from the preset of the band in force, with the timer at 0. -/
def State.loadPreset (s : State) (l : Nat) : State :=
  s.putLaneHw l ((s.laneHw l).runsFrom (s.preset l s.laneBand))

/-- A reload of the receiver alone: the transmitter keeps what it runs with (R319). -/
def State.reloadRx (s : State) (l : Nat) : State :=
  let h := s.laneHw l
  let p := s.preset l s.laneBand
  s.putLaneHw l (h.runsFrom (p.take 2 ++ slice h.loaded 2 1 ++ slice p 3 1 ++ slice h.loaded 4 8 ++ p.drop 12))

/-- An equaliser value in force: index 0-31 the FFE taps and 32 the DFE tap in 1/256, 33 CTLE, 34 VGA. -/
def State.eqValue (s : State) (l i : Nat) : Int :=
  let h := s.laneHw l
  match h.adapted with
  | some g =>
    if i < 33 then signed 10 (Config.freeValue (g + i)) else if i = 33 then (Config.freeValue (g + i) % 32 : Nat)
    else (Config.freeValue (g + i) % 64 : Nat)
  | none =>
    if i < 32 then 4 * sleAt h.loaded (12 + i) 1 else if i = 32 then 2 * sleAt h.loaded 3 1
    else (leAt h.loaded (i - 33) 1 : Nat)

/-! ### Transitions -/

/-- The loop that clocks a lane is up: LOCKED, or HOLDOVER, which leaves the lanes running. -/
def State.laneClock (s : State) (l : Nat) : Bool :=
  let x := s.loop (if l < 4 then 6 else 7)
  decide (x = .locked ∨ x = .holdover)

/-- A lane stops: transmitter squelched, OFF. -/
def State.laneOff (s : State) (l : Nat) : State :=
  if s.lane l = .retired then s
  else ((s.setLane l .off).setFld (F.LN_STATUS_HOLD_HOST l) 0).setFld (F.LN_STATUS_HOLD_SAFE l) 0

/-- An enabled lane starts from OFF once its PLL is up. -/
def State.laneStart (s : State) (l : Nat) : State :=
  if s.lane l = .off ∧ s.flag (F.LN_CFG_EN l) ∧ s.fld (F.LN_STATUS_MODE l) ≠ 0 ∧ s.laneClock l then
    (s.loadPreset l).setLane l .los
  else s

/-- Enabled lanes of a group that are in service. -/
def State.groupLive (s : State) (k : Nat) : List Nat :=
  [2 * k, 2 * k + 1].filter (fun l => s.flag (F.LN_CFG_EN l) && s.lane l != .retired)

/-- LANE_CONFIG_GROUP commands whose lanes are all in TRACK complete OK. -/
def State.laneDone (s : State) : State :=
  let ok := fun (w : LaneWait) => (s.groupLive w.group).all (fun l => s.lane l == .track)
  let due := s.ln.waits.filter ok
  let s := { s with ln := { s.ln with waits := s.ln.waits.filter (fun w => !due.contains w) } }
  due.foldl (fun s w => s.finishPart w.tag .ok w.part w.mask) s

/-- SIGNAL sets: a lane in LOS starts to acquire. -/
def State.signalSet (s : State) (l : Nat) : State :=
  let s := s.setFld (F.LN_STATUS_SIGNAL l) 1
  if s.lane l = .los then (s.reloadRx l).setLane l .acquire else s

def execLaneSignalSet (l : Fin 8) (s : State) : Host.Outcome State Fault Refusal := .next (s.signalSet l.val)

/-- SIGNAL clears. -/
def State.signalLost (s : State) (l : Nat) : State :=
  let s := s.setFld (F.LN_STATUS_SIGNAL l) 0
  if s.lane l = .acquire ∨ s.lane l = .track ∨ s.lane l = .frozen then
    (s.setLane l .los).raiseFree 0x9004 (srcLane l) sevNotice
  else s

def execLaneLos (l : Fin 8) (s : State) : Host.Outcome State Fault Refusal := .next (s.signalLost l.val)

/-- FOM at or above FOM_MIN in every tick of 1 ms (3,840 ticks). -/
def State.laneLock (s : State) (l : Nat) : State :=
  if s.lane l = .acquire ∧ 3840 ≤ (s.laneHw l).above then
    (((s.setLane l .track).addFld (F.LN_LOCKS_COUNT l) 1).raiseFree 0x9001 (srcLane l) sevInfo).laneDone
  else s

def execLaneLock (l : Fin 8) (s : State) : Host.Outcome State Fault Refusal := .next (s.laneLock l.val).outputHolds

/-- The acquisition timer at 20 ms. -/
def State.acqFail (s : State) (l : Nat) : State :=
  if s.lane l = .acquire ∧ 76800 ≤ (s.laneHw l).timer then
    ((s.reloadRx l).addFld (F.LN_ACQ_FAILS_COUNT l) 1).raiseFree 0x9003 (srcLane l) sevWarning
  else s

def execLaneAcqFail (l : Fin 8) (s : State) : Host.Outcome State Fault Refusal := .next (s.acqFail l.val)

/-- FOM below FOM_LOSS in every tick of 100 µs (384 ticks). -/
def State.laneUnlock (s : State) (l : Nat) : State :=
  if s.lane l = .track ∧ 384 ≤ (s.laneHw l).below then
    (((s.reloadRx l).setLane l .acquire).addFld (F.LN_UNLOCKS_COUNT l) 1).raiseFree 0x9002 (srcLane l) sevWarning
  else s

def execLaneUnlock (l : Fin 8) (s : State) : Host.Outcome State Fault Refusal := .next (s.laneUnlock l.val).outputHolds

/-- Content low: adaptation freezes. -/
def State.laneFreeze (s : State) (l : Nat) : State :=
  if (s.lane l = .acquire ∨ s.lane l = .track) ∧ (s.laneHw l).lowContent (s.fld (F.LN_STATUS_RATE l)) then
    ((s.putLaneHw l { s.laneHw l with tracked := s.lane l == .track }).setLane l .frozen).addFld (F.LN_FREEZES_COUNT l) 1
  else s

def execLaneFreeze (l : Fin 8) (s : State) : Host.Outcome State Fault Refusal := .next (s.laneFreeze l.val).outputHolds

/-- Content adequate: the state before the freeze. -/
def State.laneUnfreeze (s : State) (l : Nat) : State :=
  if s.lane l = .frozen ∧ (s.laneHw l).goodContent (s.fld (F.LN_STATUS_RATE l)) then (s.setLane l (if (s.laneHw l).tracked then .track else .acquire)).laneDone else s

def execLaneUnfreeze (l : Fin 8) (s : State) : Host.Outcome State Fault Refusal := .next (s.laneUnfreeze l.val).outputHolds

/-- The last hold source has cleared. -/
def State.laneResume (s : State) (l : Nat) : State :=
  if s.lane l ≠ .held ∨ s.flag (F.LN_STATUS_HOLD_HOST l) ∨ s.flag (F.LN_STATUS_HOLD_SAFE l) then s
  else if s.flag (F.LN_STATUS_SIGNAL l) ∧ s.fld (F.LN_ADAPT_CFG_FOM_LOSS l) ≤ s.fld (F.LN_FOM_CUR l) then
    (s.setLane l .track).laneDone
  else (s.reloadRx l).setLane l (if s.flag (F.LN_STATUS_SIGNAL l) then .acquire else .los)

/-- The safe state begins, and ends (R327). -/
def State.lanesSafe (s : State) : State :=
  (List.range 8).foldl (fun s l =>
    if s.lane l = .off ∨ s.lane l = .retired then s
    else (s.setFld (F.LN_STATUS_HOLD_SAFE l) 1).setLane l .held) s

def State.lanesUnsafe (s : State) : State :=
  (List.range 8).foldl (fun s l => (s.setFld (F.LN_STATUS_HOLD_SAFE l) 0).laneResume l) s

/-- A lane PLL leaves LOCKED other than for HOLDOVER, and locks again. -/
def State.lanePllUnlock (s : State) (loop : Nat) : State :=
  ((List.range 4).map (fun i => 4 * (loop - 6) + i)).foldl (fun s l =>
    if s.lane l = .retired then s else (s.laneOff l).raiseFree 0x9005 (srcLane l) sevError) s

def State.lanePllLock (s : State) (loop : Nat) : State :=
  ((List.range 4).map (fun i => 4 * (loop - 6) + i)).foldl State.laneStart s

/-- PD_LN goes off. -/
def State.lanesDown (s : State) : State := (List.range 8).foldl State.laneOff s

/-- A lane in one of the states that report the FOM (R322). -/
def State.reports (s : State) (l : Nat) : Bool :=
  let x := s.lane l
  x == .acquire || x == .track || x == .frozen || x == .held

/-- The mean of 16 ticks' figures [1/16 dB], within the field. -/
def meanMerit (xs : List Int) : Nat := min (openRound (xs.foldl (· + ·) 0) 100).toNat 1023

/-- The FOM of the last 16 ticks, once they have passed since the last report (R322). -/
def State.fomReport (s : State) (l : Nat) : State :=
  let h := s.laneHw l
  if s.reports l ∧ 16 ≤ h.foms.length then
    let v := meanMerit (h.foms.take 16)
    let s := s.putLaneHw l { h with foms := [] }
    let s := s.setFld (F.LN_FOM_CUR l) v
    let s := s.setFld (F.LN_FOM_MIN l) (min (s.fld (F.LN_FOM_MIN l)) v)
    s.addFld (F.LN_FOM_HIST_COUNT l (if v < 144 then 0 else if 368 ≤ v then 15 else v / 16 - 8)) 1
  else s

/-- LANE_FOM_REPORT; the figure the row shows is not read (log 171). -/
def execLaneFomReport (l : Fin 8) (_fom : Nat) (s : State) : Host.Outcome State Fault Refusal := .next (s.fomReport l.val)

def State.histClear (s : State) (l : Nat) : State :=
  (List.range 16).foldl (fun s i => s.setFld (F.LN_FOM_HIST_COUNT l i) 0) (s.setFld (F.LN_FOM_MIN l) 0x3FF)

/-! ### Modules (R330-R332) -/

/-- The master that serves a lane's module. -/
def State.masterOf (s : State) (l : Nat) : Nat := if s.flag (F.LN_MOD_CFG_WIDE 0) then 0 else l / 4

/-- A master at work: enabled, and not master 1 beside a WIDE master 0 (R330). -/
def State.masterOn (s : State) (m : Nat) : Bool := s.flag (F.LN_MOD_CFG_EN m) && !(m == 1 && s.flag (F.LN_MOD_CFG_WIDE 0))

/-- The lanes in use of the module that a master serves: enabled, in a group that is not OFF. -/
def State.moduleLanes (s : State) (m : Nat) : List Nat :=
  (List.range 8).filter (fun l => s.masterOf l == m && s.flag (F.LN_CFG_EN l) && s.fld (F.LN_STATUS_MODE l) != 0)

/-- The first advertised application, counted from 1, whose host lane count and rate are those of the lanes in use (R331). -/
def State.appFor (s : State) (m : Nat) (apps : List (Nat × Nat)) : Option Nat :=
  let ls := s.moduleLanes m
  ((List.range apps.length).find? (fun i =>
    let a := apps.getD i (0, 0)
    a.1 == ls.length && ls.all (fun l => s.fld (F.LN_STATUS_RATE l) == a.2))).map (· + 1)

/-- Firmware selects the application that matches the lanes in use among the advertised ones, each a host lane count and a host lane
rate as LN_STATUS.RATE codes it, and activates its data path; or none does. -/
def State.appSelect (s : State) (m : Nat) (apps : List (Nat × Nat)) : State :=
  if s.masterOn m ∧ s.flag (F.LN_MOD_STATUS_PRESENT m) then
    match s.appFor m apps with
    | some a => (s.setFld (F.LN_MOD_STATUS_APP m) a).emit (.module m (.activate a (s.moduleLanes m)))
    | none => s.raiseFree 0x9011 (srcBlock 10) sevWarning
  else s

/-- A module's answer at address 0x50: its CMIS revision's major part (none: no acknowledge), its state and fault, and the
applications it advertises. One that has just come is brought out of low power, and an application selected for lanes in use. -/
def State.modulePoll (s : State) (m : Nat) (rev : Option Nat) (st : Nat) (bad : Bool) (apps : List (Nat × Nat)) : State :=
  if !s.masterOn m then s
  else if rev.any (fun r => decide (5 ≤ r)) then
    let new := !s.flag (F.LN_MOD_STATUS_PRESENT m)
    let s := ((s.setFld (F.LN_MOD_STATUS_PRESENT m) 1).setFld (F.LN_MOD_STATUS_STATE m) st).setFld (F.LN_MOD_STATUS_FAULT m) (b2n bad)
    if new then
      let s := s.emit (.module m .exitLowPower)
      if (s.moduleLanes m).isEmpty then s else s.appSelect m apps
    else s
  else
    let s := ((s.setFld (F.LN_MOD_STATUS_PRESENT m) 0).setFld (F.LN_MOD_STATUS_STATE m) 0).setFld (F.LN_MOD_STATUS_APP m) 0
    s.raiseFree 0x9010 (srcBlock 10) sevNotice

def execModulePresencePoll (m : Fin 2) (rev : Option Nat) (st : Nat) (bad : Bool) (apps : List (Nat × Nat))
    (s : State) : Host.Outcome State Fault Refusal := .next (s.modulePoll m.val rev st bad apps)

/-- The module's latched flags, by page and byte. -/
def execModuleFlagPoll (m : Fin 2) (flags : List (Nat × Nat)) (s : State) : Host.Outcome State Fault Refusal :=
  if s.masterOn m.val ∧ s.flag (F.LN_MOD_STATUS_PRESENT m.val) then
    .next (flags.foldl (fun s f =>
      (s.addFld (F.LN_MOD_FLAGS_COUNT m.val) 1).raise 0x9012 (f.1 % 256 * 256 + f.2 % 256) (srcBlock 10) sevNotice) s)
  else .next s

/-- Module temperature and supply, and bias, transmit power and receive power by lane. -/
def execModuleMonitorPoll (m : Fin 2) (temp vcc : Nat) (lanes : List (Nat × Nat × Nat × Nat)) (s : State) :
    Host.Outcome State Fault Refusal :=
  let m := m.val
  if s.masterOn m ∧ s.flag (F.LN_MOD_STATUS_PRESENT m) then
    let s := (s.setFld (F.LN_MOD_MON_TEMP m) temp).setFld (F.LN_MOD_MON_VCC m) vcc
    .next (lanes.foldl (fun s (l, bias, tx, rx) =>
      if l < 8 ∧ s.masterOf l = m then
        ((s.setFld (F.LN_OPT_BIAS_BIAS l) bias).setFld (F.LN_OPT_TXPWR l) tx).setFld (F.LN_OPT_RXPWR l) rx
      else s) s)
  else .next s

/-- LN_MOD_XFER written with GO on a master at work: bank select byte and page select byte, at CMIS's addresses 126 and 127 (log 191), then
the access itself; GO reads 1 until it has ended (R12, R332). -/
def State.modXfer (s : State) (m : Nat) : State :=
  if s.masterOn m then
    let n := s.fld (F.LN_MOD_XFER_LEN m) + 1
    let at_ := s.fld (F.LN_MOD_XFER_OFFSET m)
    let call := if s.flag (F.LN_MOD_XFER_WRITE m) then ModCall.write at_ (leBytes n (s.fld (F.LN_MOD_XDATA_DATA m))) else .read at_ n
    let s := (s.setFld (F.LN_MOD_XFER_GO m) 1).setFld (F.LN_MOD_XSTAT_BUSY m) 1
    let s := s.emit (.module m (.write 126 (leBytes 1 (s.fld (F.LN_MOD_XFER_BANK m)))))
    (s.emit (.module m (.write 127 (leBytes 1 (s.fld (F.LN_MOD_XFER_PAGE m)))))).emit (.module m call)
  else s

/-- The access has ended; `data` is what a read returned. -/
def execModuleAccessComplete (m : Fin 2) (nack : Bool) (data : Word) (s : State) : Host.Outcome State Fault Refusal :=
  let m := m.val
  if s.flag (F.LN_MOD_XSTAT_BUSY m) then
    let s := (s.setFld (F.LN_MOD_XFER_GO m) 0).setFld (F.LN_MOD_XSTAT_BUSY m) 0
    let s := s.setFld (F.LN_MOD_XSTAT_NACK m) (b2n nack)
    if !s.flag (F.LN_MOD_XFER_WRITE m) ∧ !nack then
      .next (s.setFld (F.LN_MOD_XDATA_DATA m) (data.toNat % 2 ^ (8 * (s.fld (F.LN_MOD_XFER_LEN m) + 1))))
    else .next s
  else .next s

/-! ### LANE_CONFIG_GROUP (R338) -/

/-- An unlock with a scope bit is in force. -/
def State.unlockedFor (s : State) (b : Nat) : Bool := s.fld F.SEC_STATUS_UNLOCK == 2 && bitAt (s.fld F.SEC_STATUS_SCOPE) b

/-- The group carries an enabled Ethernet port or a cascade port in use. -/
def State.groupBusy (s : State) (k : Nat) : Bool :=
  (List.range 4).any (fun j => (s.lanesOf j).any (fun l => l == 2 * k || l == 2 * k + 1)) || s.casNamed k

def ctxLane (s : State) : Option Status := if s.fld F.PWR_STATUS_STATE = 3 then some .notPermitted else none

def chkLaneConfigGroup (s : State) (c : Cmd) : Option Status :=
  let p := c.payload
  let k := leAt p 0 1
  let mode := leAt p 1 1
  let lanes := leAt p 3 1
  if p.length ≠ 8 ∨ 4 ≤ k ∨ 4 ≤ mode ∨ 2 ≤ leAt p 2 1 ∨ 4 ≤ lanes ∨ 4 ≤ leAt p 4 1 ∨ 4 ≤ leAt p 5 1 ∨ 4 ≤ leAt p 6 1 ∨
      !zeroAt p 7 1 ∨ (mode = 0 ∧ lanes ≠ 0) ∨ (mode ≠ 0 ∧ lanes = 0) ∨ (mode = 2 ∧ (lanes ≠ 3 ∨ leAt p 2 1 ≠ 0)) then
    some .badParam
  else if s.groupBusy k then some .notPermitted
  else if s.lane (2 * k) = .retired ∧ s.lane (2 * k + 1) = .retired then some .resourceRetired else none

/-- Stops a lane's generator, checker and injection. -/
def State.stopPrbs (s : State) (l : Nat) : State :=
  let s := ((s.setFld (F.LN_PRBS_CTRL_GEN l) 0).setFld (F.LN_PRBS_CTRL_CHK l) 0).setFld (F.LN_PRBS_STAT_STATE l) 0
  { s with ln := { s.ln with
      injLeft := sput (fun _ => 0) s.ln.injLeft l 0
      pats := sput (fun _ => PatternHw.init) s.ln.pats l PatternHw.init } }

/-- Takes both lanes of a group to OFF. -/
def State.groupOff (s : State) (k : Nat) : State := (s.laneOff (2 * k)).laneOff (2 * k + 1)

/-- LANE_CONFIG_GROUP on a group; `apps`: the applications its module advertises. -/
def State.setGroup (s : State) (c : Cmd) (apps : List (Nat × Nat)) : State :=
  let p := c.payload
  let k := leAt p 0 1
  let mode := leAt p 1 1
  let rate := leAt p 2 1
  let ls := [0, 1]
  let ln := fun i => 2 * k + i
  let bit := fun o i => b2n (bitAt (leAt p o 1) i)
  let moved := mode != s.fld (F.LN_STATUS_MODE (ln 0)) || rate != s.fld (F.LN_STATUS_RATE (ln 0))
  let whole := moved || ls.any (fun i => bit 3 i != s.fld (F.LN_CFG_EN (ln i)))
  let turned := fun i => bit 5 i != s.fld (F.LN_CFG_TX_INV (ln i)) || bit 6 i != s.fld (F.LN_CFG_RX_INV (ln i))
  let again := ls.filter (fun i => whole || turned i)
  let gone := ls.filter (fun i => s.lane (ln i) == .retired)
  let (part, mask) := partialMask 2 1 gone
  let s := again.foldl (fun s i => s.laneOff (ln i)) s
  let s := ls.foldl (fun s i =>
    let l := ln i
    let s := ((s.setFld (F.LN_STATUS_MODE l) mode).setFld (F.LN_STATUS_RATE l) rate).setFld (F.LN_CFG_EN l) (bit 3 i)
    let s := ((s.setFld (F.LN_CFG_MLSE l) (bit 4 i)).setFld (F.LN_CFG_TX_INV l) (bit 5 i)).setFld (F.LN_CFG_RX_INV l) (bit 6 i)
    let s := if mode = 3 then s else s.stopPrbs l
    if again.contains i then s.setFld (F.LN_STATUS_MLSE l) (bit 4 i)
    else { s with ln := { s.ln with changes := s.ln.changes ++ [LaneChange.mlse l (bit 4 i == 1)] } }) s
  let s := again.foldl (fun s i => s.laneStart (ln i)) s
  let s := if moved ∧ mode ≠ 0 then s.appSelect (s.masterOf (ln 0)) apps else s
  let s := s.outputHolds
  let live := s.groupLive k
  if mode = 0 ∨ again.all (fun i => !live.contains (ln i)) then s.finishPart c.tag .ok part mask
  else
    let w : LaneWait := ⟨k, c.tag, s.elapsed, part, mask⟩
    let s := { s with ln := { s.ln with waits := s.ln.waits ++ [w] } }
    s.laneDone

/-- LANE_CONFIG_GROUP in the tick it executes in: RAW is permitted only while the unlock is in force then, too (R315). -/
def State.configGroup (s : State) (c : Cmd) (apps : List (Nat × Nat)) : State :=
  if leAt c.payload 1 1 = 3 ∧ !s.unlockedFor 2 then s.finishNow c.tag .locked [] else s.setGroup c apps

def execLaneConfigGroup (tag : Nat) (apps : List (Nat × Nat)) (s : State) : Host.Outcome State Fault Refusal :=
  .next (s.performStart 0x0800 tag anyOp (fun c s => s.configGroup c apps))

/-- 153,600 ticks since the command: TIMEOUT with both lanes' states. -/
def execLaneConfigTimeout (k : Fin 4) (s : State) : Host.Outcome State Fault Refusal :=
  let k := k.val
  let due := s.ln.waits.filter (fun w => w.group == k && decide (w.since + 153600 ≤ s.elapsed))
  let s := { s with ln := { s.ln with waits := s.ln.waits.filter (fun w => !due.contains w) } }
  .next (due.foldl (fun s w => s.finishPart w.tag .timeout w.part
    (leBytes 1 (s.lane (2 * k)).code ++ leBytes 1 (s.lane (2 * k + 1)).code ++ leBytes 2 0)) s)

/-- The end of a maintenance unlock takes RAW groups to OFF (R317). -/
def State.rawEnd (s : State) : State :=
  (List.range 4).foldl (fun s k =>
    if s.laneRaw (2 * k) ∨ s.laneRaw (2 * k + 1) then
      let s := s.groupOff k
      let s := [2 * k, 2 * k + 1].foldl (fun s l => ((s.stopPrbs l).setFld (F.LN_STATUS_MODE l) 0).setFld (F.LN_CFG_EN l) 0) s
      s.raiseFree 0x9006 (srcLane (2 * k)) sevInfo
    else s) s

/-! ### LANE_ADAPT (R339) -/

def adaptLanes (c : Cmd) : List Nat := maskList 8 (leAt c.payload 1 1)

def chkLaneAdapt (s : State) (c : Cmd) : Option Status :=
  let p := c.payload
  if c.op ≤ 3 then
    let ls := adaptLanes c
    if p.length ≠ 4 ∨ !zeroAt p 2 2 then some .badParam
    else if c.op = 3 ∧ ls.any (fun l => s.lane l != .track && s.lane l != .held && s.lane l != .off && s.lane l != .retired) then
      some .notPermitted
    else if !ls.isEmpty ∧ ls.all (fun l => s.lane l == .retired) then some .resourceRetired
    else none
  else if c.op = 4 then
    if p.length ≠ 52 ∨ 8 ≤ leAt p 1 1 ∨ 5 ≤ leAt p 2 1 ∨ !zeroAt p 3 1 ∨ !presetOk (p.drop 4) then some .badParam
    else if s.lane (leAt p 1 1) = .retired then some .resourceRetired else none
  else some .badParam

/-- One LANE_ADAPT operation on its named lanes that are in service and not OFF. -/
def State.adaptOp (s : State) (c : Cmd) (f : State → Nat → State) : State :=
  let ls := adaptLanes c
  let s := (ls.filter (fun l => s.lane l != .off && s.lane l != .retired)).foldl f s
  s.finishPart c.tag .ok (ls.any (fun l => s.lane l == .retired)) []

/-- Restart: holds cleared, receiver from its preset, LOS. -/
def State.laneRestart (s : State) (l : Nat) : State :=
  ((((s.setFld (F.LN_STATUS_HOLD_HOST l) 0).setFld (F.LN_STATUS_HOLD_SAFE l) 0).reloadRx l).setLane l .los)

def execLaneAdaptRestart (tag : Nat) (s : State) : Host.Outcome State Fault Refusal :=
  .next (s.performStart 0x0801 tag (isOp 0) (fun c s => (s.adaptOp c State.laneRestart).outputHolds))

/-- Hold: HOST set; a lane that acquires, tracks or is frozen becomes HELD. -/
def State.laneHold (s : State) (l : Nat) : State :=
  let s := s.setFld (F.LN_STATUS_HOLD_HOST l) 1
  if s.lane l = .acquire ∨ s.lane l = .track ∨ s.lane l = .frozen then s.setLane l .held else s

def execLaneAdaptHold (tag : Nat) (s : State) : Host.Outcome State Fault Refusal :=
  .next (s.performStart 0x0801 tag (isOp 1) (fun c s => (s.adaptOp c State.laneHold).outputHolds))

def State.laneRelease (s : State) (l : Nat) : State := (s.setFld (F.LN_STATUS_HOLD_HOST l) 0).laneResume l

def execLaneAdaptRelease (tag : Nat) (s : State) : Host.Outcome State Fault Refusal :=
  .next (s.performStart 0x0801 tag (isOp 2) (fun c s => (s.adaptOp c State.laneRelease).outputHolds))

/-- A value rounded to a preset's unit: outside its 8 bits the spec states none (log entry 32). -/
def State.toPreset (s : State) (v : Int) : Byte × State :=
  if (saturate 8 v).2 then
    let (x, s) := s.fresh 8
    (BitVec.ofNat 8 x, s)
  else (BitVec.ofNat 8 (encode2c 8 v), s)

/-- Stores the receiver's values into the preset of the band in force. -/
def State.laneStore (s : State) (l : Nat) : State :=
  let p := s.preset l s.laneBand
  let (d, s) := s.toPreset (roundEven (s.eqValue l 32) 1)
  let (taps, s) := (List.range 32).foldl (fun (a : List Byte × State) i =>
    let (x, t) := a.2.toPreset (roundEven (a.2.eqValue l i) 2)
    (a.1 ++ [x], t)) ([], s)
  let q := leBytes 1 (s.eqValue l 33).toNat ++ leBytes 1 (s.eqValue l 34).toNat ++ slice p 2 1 ++ [d] ++ slice p 4 8 ++ taps ++
    slice p 44 4
  { s with ln := { s.ln with presets := sput (fun _ => []) s.ln.presets (5 * l + s.laneBand) q } }

def execLaneAdaptStore (tag : Nat) (s : State) : Host.Outcome State Fault Refusal :=
  .next (s.performStart 0x0801 tag (isOp 3) (fun c s => s.adaptOp c State.laneStore))

def execLaneLoadPreset (tag : Nat) (s : State) : Host.Outcome State Fault Refusal :=
  .next (s.performStart 0x0801 tag (isOp 4) (fun c s =>
    let p := c.payload
    let s := { s with ln := { s.ln with
      presets := sput (fun _ => []) s.ln.presets (5 * leAt p 1 1 + leAt p 2 1) (p.drop 4) } }
    s.finishNow c.tag .ok []))

/-! ### Test patterns (R333-R336, R340, R341) -/

def chkLanePrbs (s : State) (c : Cmd) : Option Status :=
  let p := c.payload
  let ls := maskList 8 (leAt p 0 1)
  if p.length ≠ 16 ∨ ls.isEmpty ∨ 9 ≤ leAt p 1 1 ∨ 9 ≤ leAt p 2 1 ∨ 2 ≤ leAt p 3 1 ∨ 3 ≤ leAt p 4 1 ∨
      (leAt p 4 1 = 2 ∧ leAt p 5 1 = 0) ∨ 2 ^ 24 ≤ leAt p 8 4 ∨ (leAt p 4 1 ≠ 0 ∧ leAt p 8 4 = 0) ∨ !zeroAt p 12 4 then
    some .badParam
  else if ls.all (fun l => s.lane l == .retired) then some .resourceRetired
  else if ls.any (fun l => !s.laneRaw l) then some .notPermitted else none

def execLanePrbs (tag : Nat) (s : State) : Host.Outcome State Fault Refusal :=
  .next (s.performStart 0x0803 tag anyOp (fun c s =>
    let p := c.payload
    let ls := maskList 8 (leAt p 0 1)
    let live := ls.filter (fun l => s.lane l != .retired)
    let chs := live.map (fun l => LaneChange.prbs l (leAt p 1 1) (leAt p 2 1) (bitAt (leAt p 3 1) 0) (leAt p 4 1) (leAt p 5 1)
      (leAt p 6 2) (leAt p 8 4))
    { s with ln := { s.ln with changes := s.ln.changes ++ chs } }.finishPart c.tag .ok (live.length != ls.length) []))

def chkLaneBitSlip (s : State) (c : Cmd) : Option Status :=
  let p := c.payload
  let l := leAt p 0 1
  if p.length ≠ 4 ∨ 8 ≤ l ∨ leAt p 1 1 = 0 ∨ 128 ≤ leAt p 1 1 ∨ !zeroAt p 2 2 then some .badParam
  else if s.lane l = .retired then some .resourceRetired
  else if !s.laneRaw l then some .notPermitted else none

/-- Bits a lane's waiting slips will discard. -/
def State.slipsWaiting (s : State) (l : Nat) : Nat :=
  s.ln.changes.foldl (fun a x => match x with
    | .slip j n => if j = l then a + n else a
    | _ => a) 0

def execLaneBitSlip (tag : Nat) (s : State) : Host.Outcome State Fault Refusal :=
  .next (s.performStart 0x0802 tag anyOp (fun c s =>
    let l := leAt c.payload 0 1
    let n := leAt c.payload 1 1
    let o := (s.fld (F.LN_SLIP_OFFSET l) + s.slipsWaiting l + n) % 128
    { s with ln := { s.ln with changes := s.ln.changes ++ [LaneChange.slip l n] } }.finishNow c.tag .ok (leBytes 4 o)))

/-- Adds to a lane's counts of bits compared and bit errors, which stop at 48 bits. -/
def State.countBits (s : State) (l : Nat) (n : Nat × Nat) : State :=
  let top := 2 ^ 48 - 1
  { s with ln := { s.ln with
      bits := sput (fun _ => 0) s.ln.bits l (min (sget (fun _ => 0) s.ln.bits l + n.1) top)
      errs := sput (fun _ => 0) s.ln.errs l (min (sget (fun _ => 0) s.ln.errs l + n.2) top) } }

/-- A LOCKED checker returns to SEARCH. -/
def State.checkerLoss (s : State) (l : Nat) : State :=
  if s.fld (F.LN_PRBS_STAT_STATE l) = 2 then
    ((s.putPat l (s.pat l).research).setFld (F.LN_PRBS_STAT_STATE l) 1).addFld (F.LN_PRBS_STAT_LOSSES l) 1
  else s

/-- A searching checker that has seeded itself and seen its error-free symbols enters LOCKED; what it has compared since counts. -/
def State.checkerLock (s : State) (l : Nat) : State :=
  let h := s.pat l
  if s.fld (F.LN_PRBS_STAT_STATE l) = 1 ∧ h.own.isSome then
    ((s.countBits l h.pend).putPat l { h with pend := (0, 0) }).setFld (F.LN_PRBS_STAT_STATE l) 2
  else s

def execPrbsCheckerLock (l : Fin 8) (s : State) : Host.Outcome State Fault Refusal := .next (s.checkerLock l.val)

/-- PRBS_CHECKER_LOSS: the window with too many errors has passed, and the checker has dropped its register. -/
def execPrbsCheckerLoss (l : Fin 8) (s : State) : Host.Outcome State Fault Refusal :=
  .next (if (s.pat l.val).own.isNone then s.checkerLoss l.val else s)

/-- One change on the boundary that closes a tick. -/
def State.laneChange (s : State) (x : LaneChange) : State :=
  match x with
  | .mlse l on => s.setFld (F.LN_STATUS_MLSE l) (b2n on)
  | .slip l n => (s.setFld (F.LN_SLIP_OFFSET l) ((s.fld (F.LN_SLIP_OFFSET l) + n) % 128)).checkerLoss l
  | .prbs l gen chk clear mode len count interval =>
    if !s.laneRaw l then s
    else
      let fresh := clear || chk != s.fld (F.LN_PRBS_CTRL_CHK l)
      let h := if gen = s.fld (F.LN_PRBS_CTRL_GEN l) then s.pat l
        else { s.pat l with gen := if gen = 0 then none else some (patStart gen) }
      let s := s.putPat l (if fresh then h.research else h)
      let s := (s.setFld (F.LN_PRBS_CTRL_GEN l) gen).setFld (F.LN_PRBS_CTRL_CHK l) chk
      let s := if chk = 0 then s.setFld (F.LN_PRBS_STAT_STATE l) 0
        else if fresh then s.setFld (F.LN_PRBS_STAT_STATE l) 1 else s
      let s := if clear then
          { s.setFld (F.LN_PRBS_STAT_LOSSES l) 0 with ln := { s.ln with
            errs := sput (fun _ => 0) s.ln.errs l 0, bits := sput (fun _ => 0) s.ln.bits l 0 } }
        else s
      let s := ((s.setFld (F.LN_INJ_CFG_MODE l) mode).setFld (F.LN_INJ_CFG_LEN l) len).setFld (F.LN_INJ_CFG_COUNT l) count
      let s := s.setFld (F.LN_INJ_INTERVAL_INTERVAL l) interval
      let left := if mode = 0 then 0 else if count = 0 then 1 else count + 1
      { s with ln := { s.ln with
        injLeft := sput (fun _ => 0) s.ln.injLeft l left
        injNext := sput (fun _ => 0) s.ln.injNext l (s.elapsed + 1) } }

/-- An injection of a lane falls due: one bit, or a burst of LEN, is inverted from the first bit of the open tick on. -/
def State.laneInject (s : State) (l : Nat) : State :=
  let left := sget (fun _ => 0) s.ln.injLeft l
  let next := sget (fun _ => 0) s.ln.injNext l
  if left = 0 ∨ s.elapsed < next then s
  else
    let rest := if left = 1 then 1 else if left = 2 then 0 else left - 1
    let s := s.putPat l { s.pat l with flip := if s.fld (F.LN_INJ_CFG_MODE l) = 1 then 1 else s.fld (F.LN_INJ_CFG_LEN l) }
    { s.addFld (F.LN_INJ_DONE_COUNT l) 1 with ln := { s.ln with
      injLeft := sput (fun _ => 0) s.ln.injLeft l rest
      injNext := sput (fun _ => 0) s.ln.injNext l (next + s.fld (F.LN_INJ_INTERVAL_INTERVAL l)) } }

def execLaneErrorInject (l : Fin 8) (s : State) : Host.Outcome State Fault Refusal := .next (s.laneInject l.val)

/-- LN_CTRL.RAW_CAP: the next complete received word. -/
def State.rawCapture (s : State) (l : Nat) (word : Nat) : State :=
  if s.laneRaw l then
    (List.range 4).foldl (fun s i => s.setFld (F.LN_RAW_WORD l i) (bitsAt word (32 * i) 32)) s
  else s

/-- The checker of a lane on the symbols that a tick has brought; LOCKED, it counts. -/
def State.checkTick (s : State) (l : Nat) (xs : List Nat) : State :=
  let st := s.fld (F.LN_PRBS_STAT_STATE l)
  if st = 0 then s
  else
    let code := s.fld (F.LN_PRBS_CTRL_CHK l)
    let h := xs.foldl (fun h x => h.check code (st == 1) (grayBits x)) (s.pat l)
    if st = 2 then (s.countBits l h.pend).putPat l { h with pend := (0, 0) } else s.putPat l h

/-- A tick's figure of merit of a lane: held for the next report, and the spans of Table 11-1 that it goes on or ends (R322, R325). -/
def State.meritTick (s : State) (l : Nat) (m : Int) : State :=
  let h := s.laneHw l
  let hold := fun (f : Fld) => decide (100 * (s.fld f : Int) ≤ 16 * m)
  if s.reports l then
    s.putLaneHw l { h with
      foms := (m :: h.foms).take 16
      above := if s.lane l = .acquire ∧ hold (F.LN_ADAPT_CFG_FOM_MIN l) then h.above + 1 else 0
      below := if s.lane l = .track ∧ !hold (F.LN_ADAPT_CFG_FOM_LOSS l) then h.below + 1 else 0 }
  else s.putLaneHw l { h with foms := [], above := 0, below := 0 }

/-- What a lane received in a tick, its polarity as RX_INV turns it (R320): decisions, merit, content and checker. -/
def State.receive (s : State) (x : LaneIn) : State :=
  let l := x.lane
  if s.lane l = .off ∨ s.lane l = .retired ∨ x.slicer.isEmpty then s
  else
    let vs := if s.flag (F.LN_CFG_RX_INV l) then x.slicer.map (- ·) else x.slicer
    let xs := decide4 (s.flag (F.LN_STATUS_MLSE l)) vs
    let s := s.meritTick l (meritOf vs xs)
    let s := s.putLaneHw l (xs.foldl LaneHw.density (s.laneHw l))
    s.checkTick l xs

/-- The lanes in the tick that closes: what they received and sent, a lane in LOS whose SIGNAL is set (log 192), acquisition timers, adapted
values, and the changes that wait for this boundary. -/
def State.laneTick (s : State) (ins : List LaneIn) : State :=
  let s := ins.foldl State.receive s
  let s := (List.range 8).foldl (fun s l =>
    if s.pat l = PatternHw.init then s
    else s.putPat l ((s.pat l).sent (s.fld (F.LN_PRBS_CTRL_GEN l)) (symbolsIn (s.fld (F.LN_STATUS_RATE l)) s.elapsed))) s
  let s := (List.range 8).foldl (fun s l =>
    if s.lane l = .los ∧ s.flag (F.LN_STATUS_SIGNAL l) then (s.reloadRx l).setLane l .acquire else s) s
  let s := (List.range 8).foldl (fun s l =>
    let h := s.laneHw l
    if s.lane l = .acquire then
      { s.putLaneHw l { h with timer := h.timer + 1, adapted := some s.freeCtr } with freeCtr := s.freeCtr + 35 }
    else if s.lane l = .track then { s.putLaneHw l { h with adapted := some s.freeCtr } with freeCtr := s.freeCtr + 35 }
    else s) s
  let chs := s.ln.changes
  chs.foldl State.laneChange { s with ln := { s.ln with changes := [] } }

/-! ### Reads with effects (R343) -/

/-- The window word. -/
def State.laneWord (s : State) (l i : Nat) : Nat :=
  let h := s.laneHw l
  if i < 33 then encode2c 32 (s.eqValue l i)
  else if i = 33 then (s.eqValue l 33).toNat + 256 * (s.eqValue l 34).toNat
  else if i < 41 then encode2c 32 (sleAt h.loaded (i - 30) 1)
  else if i = 41 then leAt h.loaded 2 1 % 16
  else if i < 64 ∨ 124 ≤ i then 0
  else leAt (s.preset l ((i - 64) / 12)) (4 * ((i - 64) % 12)) 4

def State.readLaneCoef (s : State) (l : Nat) : Nat × State :=
  let i := s.fld (F.LN_COEF_ADDR_INDEX l)
  (s.laneWord l i, s.setFld (F.LN_COEF_ADDR_INDEX l) ((i + 1) % 128))

def State.readPrbsErr (s : State) (l : Nat) : Nat × State :=
  let v := sget (fun _ => 0) s.ln.errs l
  (v % 2 ^ 32, s.setFld (F.LN_PRBS_ERR_HI_COUNT l) (v / 2 ^ 32))

def State.readPrbsBits (s : State) (l : Nat) : Nat × State :=
  let v := sget (fun _ => 0) s.ln.bits l
  (v % 2 ^ 32, s.setFld (F.LN_PRBS_BITS_HI_COUNT l) (v / 2 ^ 32))

/-! ### Retirement (R318) -/

/-- A retired lane, with the port or cascade port that uses it. -/
def State.retireLane (s : State) (l : Nat) : State :=
  let ports := (List.range 4).filter (fun k => (s.lanesOf k).contains l && s.port k != .retired)
  let s := { s.setLane l .retired with fault := { s.fault with retired := insertNat s.fault.retired (srcLane l) } }
  let s := ports.foldl State.retirePort s
  if s.fld (F.LN_STATUS_MODE l) = 2 ∧ s.casPort (l / 2) ≠ .retired then s.retireCas (l / 2) else s

end Sys2Proof.Machine
end

