-- ==== Sys2Proof/Machine/Operands.lean ====
section
/-!
DEFINITION. Sys2Proof/Machine/Operands.lean: operand forms of the signal engines: the register file (Table 13-2), status bits,
accumulator moves (R379), pointer updates (R376), parallel moves (Table 13-7) and the load-use slot (R381).
-/
namespace Sys2Proof.Machine

/-! ### The engine in State -/

def State.engine (s : State) (e : Nat) : Engine := sget (fun _ => Engine.init) s.eng.engines e

/-- Stores an engine; LE_PC and LE_STATUS.OVR show its PC and SR.OVR. -/
def State.putEngine (s : State) (e : Nat) (x : Engine) : State :=
  let t := { s with eng := { s.eng with engines := sput (fun _ => Engine.init) s.eng.engines e x } }
  (t.setFld (F.LE_PC_PC e) x.pc).setFld (F.LE_STATUS_OVR e) (bitsAt x.sr 14 1)

/-! ### SR (Table 13-2) -/

def Engine.flag (x : Engine) (b : Nat) : Bool := bitAt x.sr b
def Engine.setFlag (x : Engine) (b v : Nat) : Engine := { x with sr := putBits x.sr b 1 v }
def srIE : Nat := 15
def srOVR : Nat := 14
def srV : Nat := 13
def srAV : Nat := 12
def srN : Nat := 1
def srZ : Nat := 0

/-- Bits of SR that exist. -/
def srMask (v : Nat) : Nat := bitsAt v 8 8 * 2 ^ 8 + bitsAt v 0 2

/-- N and Z of a 32-bit result. -/
def Engine.setNZ (x : Engine) (r : Nat) : Engine :=
  (x.setFlag srN (bitsAt r 31 1)).setFlag srZ (b2n (r % 2 ^ 32 == 0))

/-! ### Accumulators (R378, R379) -/

/-- A sum into accumulator `i`: outside the 60-bit range it wraps and sets SR.AV. -/
def Engine.putAc (x : Engine) (i : Nat) (v : Int) : Engine :=
  let w := signed 60 (encode2c 60 v)
  let y := { x with ac := x.ac.set i w }
  if w = v then y else y.setFlag srAV 1

def Engine.acc (x : Engine) (i : Nat) : Int := x.ac.getD i 0
def Engine.uAt (x : Engine) (i : Nat) : Int := x.u.getD i 0
def Engine.vAt (x : Engine) (i : Nat) : Int := x.v.getD i 0

/-- The scale a move of `a` takes: places up (1), down (-1) or none, by SR.SCM and in AUTO by the value itself. -/
def Engine.scaleOf (x : Engine) (a : Int) : Int :=
  match bitsAt x.sr 10 2 with
  | 0 => 0
  | 1 => -1
  | 2 => 1
  | _ => if 2 ^ 34 ≤ a.natAbs then -1 else if a.natAbs < 2 ^ 33 then 1 else 0

/-- What AUTO notes of its choice: SR.SCL and DCNT. -/
def Engine.noteScale (x : Engine) (k : Int) : Engine :=
  if bitsAt x.sr 10 2 ≠ 3 then x
  else
    { x with
      sr := putBits x.sr 8 2 (if k = 0 then 0 else if k < 0 then 1 else 2)
      dcnt := clampInt (-127) 127 (x.dcnt - k) }

/-- A move of accumulator `i` to a destination of `w` bits whose LSB is 2^-(w-1): scaled, rounded convergently, saturated with
SR.V (R379). -/
def Engine.moveAc (x : Engine) (i w : Nat) : Int × Engine :=
  let a := x.acc i
  let k := x.scaleOf a
  let r := saturate w (roundEven a (((35 - w : Nat) : Int) - k).toNat)
  let y := x.noteScale k
  (r.1, if r.2 then y.setFlag srV 1 else y)

/-! ### Pointers (R376) -/

/-- Reverses the low `n` bits. -/
def revBits (n v : Nat) : Nat := (List.range n).foldl (fun a i => 2 * a + bitsAt v i 1) 0

/-- log2 of the next power of two at or above `n`. -/
def ceilLog (n : Nat) : Nat := ((List.range 16).filter (fun i => decide (2 ^ i < n))).length

/-- A pointer post-modified through stepper word `j`; none for the reserved mode. -/
def stepPtr (p j : Nat) : Option Nat :=
  let step := signed 15 (bitsAt j 0 15)
  let m := if bitsAt j 15 15 = 0 then 32768 else bitsAt j 15 15
  match bitsAt j 30 2 with
  | 0 => some (((p : Int) + step) % 32768).toNat
  | 1 =>
    let size := 2 ^ ceilLog m
    some ((p / size * size + (((p % size : Nat) : Int) + step) % (m : Nat)).toNat % 32768)
  | 2 =>
    let n := ceilLog m
    let q := p % 2 ^ n
    some (p / 2 ^ n * 2 ^ n + revBits n ((revBits n q + revBits n (encode2c 15 step % 2 ^ n)) % 2 ^ n))
  | _ => none

/-! ### Banks -/

def Engine.bankOf (x : Engine) (b : Bank) : List (Nat × Nat) :=
  match b with
  | .u => x.bu
  | .v => x.bv

def Engine.word (x : Engine) (b : Bank) (a : Nat) : Nat := sget (fun _ => 0) (x.bankOf b) (a % 32768)

def Engine.putWord (x : Engine) (b : Bank) (a w : Nat) : Engine :=
  match b with
  | .u => { x with bu := sput (fun _ => 0) x.bu (a % 32768) (w % 2 ^ 32) }
  | .v => { x with bv := sput (fun _ => 0) x.bv (a % 32768) (w % 2 ^ 32) }

/-! ### Parallel moves (Table 13-7) -/

/-- A 20-bit parallel move field, by its parts. -/
structure PMove where
  en   : Bool
  st   : Bool
  form : Nat
  half : Nat
  reg  : Nat
  ptr  : Nat
  mod  : Nat
  jreg : Nat
  rest : Nat
deriving DecidableEq, Repr

def pmove (f : Nat) : PMove :=
  ⟨bitAt f 19, bitAt f 18, bitsAt f 16 2, bitsAt f 15 1, bitsAt f 12 3, bitsAt f 9 3, bitsAt f 7 2, bitsAt f 5 2, bitsAt f 0 5⟩

/-- A field whose values are all defined (R396): form D only as a load in the bank-V field, registers that exist, zeros where
Table 13-7 has zeros. A move that is not performed is not judged. -/
def PMove.ok (m : PMove) (b : Bank) : Bool :=
  !m.en || (m.rest == 0 && (m.form != 3 || (b == .v && !m.st)) &&
    (if m.st then decide (m.reg < 4) && (m.form != 2 || decide (m.reg < 3))
     else m.form == 2 || m.form == 3 || decide (m.reg < (if b = .u then 2 else 4))))

/-- A half of a word as form H loads it: times 4. -/
def halfOf (w half : Nat) : Int := 4 * signed 16 (bitsAt w (16 * half) 16)

/-- What a load of a move field reads. -/
def PMove.load (m : PMove) (b : Bank) (w : Nat) : List LoadEff :=
  let base := if b = .u then 0 else 2
  match m.form with
  | 0 => [.operand (base + m.reg) (halfOf w m.half)]
  | 1 => [.operand (base + m.reg) (signed 18 w)]
  | 2 => [.operand base (halfOf w 0), .operand (base + 1) (halfOf w 1)]
  | _ => [.delay (halfOf w m.half)]

/-- The word a store leaves, from the word before; bits 31:18 of form W are open (log entry 36) and come as `hi`. -/
def PMove.store (m : PMove) (x : Engine) (old hi : Nat) : Nat × Engine :=
  match m.form with
  | 0 =>
    let (v, x) := x.moveAc m.reg 16
    (putBits old (16 * m.half) 16 (encode2c 16 v), x)
  | 1 =>
    let (v, x) := x.moveAc m.reg 18
    (encode2c 18 v + hi % 2 ^ 14 * 2 ^ 18, x)
  | _ =>
    let (a, x) := x.moveAc m.reg 16
    let (c, x) := x.moveAc (m.reg + 1) 16
    (encode2c 16 a + 2 ^ 16 * encode2c 16 c, x)

/-- The pointer after a move; `free` stands for what the reserved stepper mode leaves. -/
def PMove.after (m : PMove) (x : Engine) (p free : Nat) : Nat :=
  match m.mod with
  | 0 => p
  | 1 => (p + 1) % 32768
  | 2 => (p + 32767) % 32768
  | _ => (stepPtr p (x.j.getD m.jreg 0)).getD (free % 32768)

/-- One parallel move: its loads, and the engine after its store and pointer update. `hi` and `free` are the open values. -/
def PMove.run (m : PMove) (b : Bank) (x : Engine) (hi free : Nat) : List LoadEff × Engine :=
  if !m.en then ([], x)
  else
    let p := x.p.getD m.ptr 0
    let old := x.word b p
    let q := m.after x p free
    if m.st then
      let (w, x) := m.store x old hi
      let x := x.putWord b p w
      ([], { x with p := x.p.set m.ptr q })
    else (m.load b old, { x with p := x.p.set m.ptr q })

/-! ### Loads that end (R381) -/

def Engine.getInt (x : Engine) (r : IntReg) : Nat :=
  match r with
  | .g i => x.g.getD i.val 0
  | .p i => x.p.getD i.val 0
  | .j i => x.j.getD i.val 0

def Engine.putInt (x : Engine) (r : IntReg) (v : Nat) : Engine :=
  match r with
  | .g i => { x with g := x.g.set i.val (v % 2 ^ 32) }
  | .p i => { x with p := x.p.set i.val (v % 2 ^ 15) }
  | .j i => { x with j := x.j.set i.val (v % 2 ^ 32) }

def Engine.putOperand (x : Engine) (r : Nat) (v : Int) : Engine :=
  if r < 2 then { x with u := x.u.set r v } else { x with v := x.v.set (r - 2) v }

/-- A load's effect at the end of the instruction after it. -/
def Engine.endLoad (x : Engine) (l : LoadEff) : Engine :=
  match l with
  | .operand r v => x.putOperand r v
  | .delay v => { x with v := [x.vAt 1, x.vAt 2, x.vAt 3, v] }
  | .int r v => x.putInt r v

/-! ### The register file (Table 13-2) -/

/-- Widths of the registers. -/
def regWidth : EngReg → Nat
  | .pc | .ira => 13
  | .sr | .rpc | .ssr => 16
  | .u _ | .v _ => 18
  | .ac _ => 60
  | .p _ => 15
  | .j _ | .g _ | .pbr => 32
  | .lf _ => 48
  | .lfp => 3
  | .ien | .ipend => 5
  | .dcnt => 8
  | .cpt | .tleft => 10

/-- Reads a register of engine `e` as its bits. -/
def State.engReg (s : State) (e : Nat) (r : EngReg) : Nat :=
  let x := s.engine e
  match r with
  | .pc => x.pc
  | .sr => x.sr
  | .u i => encode2c 18 (x.uAt i.val)
  | .v i => encode2c 18 (x.vAt i.val)
  | .ac i => encode2c 60 (x.acc i.val)
  | .p i => x.p.getD i.val 0
  | .j i => x.j.getD i.val 0
  | .g i => x.g.getD i.val 0
  | .lf i => x.lf.getD i.val 0
  | .lfp => x.lfp
  | .rpc => x.rpc
  | .pbr => x.pbr
  | .ira => x.ira
  | .ssr => x.ssr
  | .ien => s.fld (F.LE_IRQ_EN e)
  | .ipend => s.fld (F.LE_IRQ_PEND e)
  | .dcnt => encode2c 8 x.dcnt
  | .cpt => opCycles (s.fld F.CLK_STATUS_OP) % 1024
  | .tleft => x.tleft

/-- Writes a register of engine `e`, which holds `x`; CPT and TLEFT are read only. -/
def State.putEngReg (s : State) (e : Nat) (x : Engine) (r : EngReg) (v : Nat) : Engine × State :=
  match r with
  | .pc => ({ x with pc := v % 2 ^ 13 }, s)
  | .sr => ({ x with sr := srMask v }, s)
  | .u i => (x.putOperand i.val (signed 18 v), s)
  | .v i => (x.putOperand (2 + i.val) (signed 18 v), s)
  | .ac i => ({ x with ac := x.ac.set i.val (signed 60 v) }, s)
  | .p i => (x.putInt (.p i) v, s)
  | .j i => (x.putInt (.j i) v, s)
  | .g i => (x.putInt (.g i) v, s)
  | .lf i => ({ x with lf := x.lf.set i.val (bitsAt v 22 26 * 2 ^ 22 + bitsAt v 0 16) }, s)
  | .lfp => ({ x with lfp := min (v % 8) 4 }, s)
  | .rpc => ({ x with rpc := v % 2 ^ 16, reps := decide (v % 2 ^ 16 ≠ 0) && x.reps }, s)
  | .pbr => ({ x with pbr := bitsAt v 31 1 * 2 ^ 31 + bitsAt v 16 2 * 2 ^ 16 + bitsAt v 0 13 }, s)
  | .ira => ({ x with ira := v % 2 ^ 13 }, s)
  | .ssr => ({ x with ssr := srMask v }, s)
  | .ien => (x, s.setFld (F.LE_IRQ_EN e) v)
  | .ipend => (x, s.setFld (F.LE_IRQ_PEND e) v)
  | .dcnt => ({ x with dcnt := signed 8 v }, s)
  | .cpt | .tleft => (x, s)

end Sys2Proof.Machine
end

