-- ==== Sys2Proof/Machine/Engines.lean ====
section
/-!
DEFINITION. Sys2Proof/Machine/Engines.lean: Lupin: executing one instruction at an engine's PC (R380-R384, R395, R396),
interrupts (R389-R391), block moves (R393), the kernel slot of a tick (R385-R388), roles and takeover (R373, R374, R401, R402),
and the ENG commands (R403, R404). An instruction row executes the word at PC: opcode, parallel moves, condition, addresses and
immediates are read from the word; the operand selects whose codes the spec does not give come with the row (log entry 33).
-/
namespace Sys2Proof.Machine

/-! ### States and faults (Table 13-11) -/

inductive EngRun where
  | stopped | loaded | running | faulted | retired
deriving DecidableEq, Repr

def EngRun.code : EngRun → Nat
  | .stopped => 0 | .loaded => 1 | .running => 2 | .faulted => 3 | .retired => 4

def EngRun.ofCode : Nat → EngRun
  | 0 => .stopped | 1 => .loaded | 2 => .running | 3 => .faulted | _ => .retired

def State.engRun (s : State) (e : Nat) : EngRun := .ofCode (s.fld (F.LE_STATUS_STATE e))

/-- Block 13's load: the largest DECL of the RUNNING engines (R386). -/
def State.refreshLoad13 (s : State) : State :=
  s.setFld (F.TCK_LOAD_REQ 13)
    (((List.range 16).filter (fun e => s.engRun e == .running)).foldl (fun m e => max m (s.fld (F.LE_DECL_DECL e))) 0)

def State.setEngRun (s : State) (e : Nat) (x : EngRun) : State := (s.setFld (F.LE_STATUS_STATE e) x.code).refreshLoad13

/-- Roles of Table 13-1. -/
def roleSpare : Nat := 0
def roleDpd : Nat := 1
def roleObs : Nat := 2
def roleCal : Nat := 3
def roleHost : Nat := 4
def roleNone : Nat := 5

def State.role (s : State) (e : Nat) : Nat := s.fld (F.LE_ROLE_ROLE e)

/-- Gives an engine a role; LE_SPARES and DPD_ENGINES follow. -/
def State.setRole (s : State) (e r : Nat) : State :=
  let s := s.setFld (F.LE_ROLE_ROLE e) r
  let s := s.setFld F.LE_SPARES_COUNT ((List.range 16).filter (fun i => s.role i == roleSpare)).length
  s.setFld F.DPD_ENGINES_MASK (listMask 16 ((List.range 16).filter (fun i => s.role i == roleDpd)))

/-- The CPT of the operating point in force. -/
def State.cpt (s : State) : Nat := opCycles (s.fld F.CLK_STATUS_OP)

/-! ### Loading and starting (R385, R397, R403) -/

/-- `n` little-endian words of `size` bytes at an offset, as a sparse memory. -/
def imageWords (k : List Byte) (off size n : Nat) : List (Nat × Nat) :=
  ((List.range n).map (fun i => (i, leAt k (off + size * i) size))).filter (fun e => e.2 != 0)

/-- Loads a kernel image: memories, LE_KERNEL, LE_DECL, the initial IEN, the mode; the fault code is cleared. -/
def State.loadKernel (s : State) (e : Nat) (k src : List Byte) (compat own : Bool) : State :=
  let np := leAt k 12 2
  let nu := leAt k 14 2
  let x := { s.engine e with
    pm := imageWords k 64 8 np, bu := imageWords k (64 + 8 * np) 4 nu,
    bv := imageWords k (64 + 8 * np + 4 * nu) 4 (leAt k 16 2), loads := [], move := none, done := none, halt := false,
    own := own, irq := false }
  let s := s.putEngine e x
  let s := { s with eng := { s.eng with images := sput (fun _ => []) s.eng.images e src } }
  let s := (s.setFld (F.LE_KERNEL_ID e) (leAt k 4 2)).setFld (F.LE_KERNEL_VERSION e) (leAt k 6 2)
  let s := (s.setFld (F.LE_DECL_DECL e) (leAt k 10 2)).setFld (F.LE_IRQ_EN e) (leAt k 18 1)
  let s := (s.setFld (F.LE_STATUS_FAULT e) 0).setFld (F.LE_STATUS_COMPAT e) (b2n (compat || bitAt (leAt k 9 1) 0))
  s.setEngRun e .loaded

/-- A LOADED engine starts: the init entry on the next boundary. -/
def State.startEngine (s : State) (e : Nat) : State :=
  (s.putEngine e { s.engine e with init_ := true, ended := true, begun := false, halt := false }).setEngRun e .running

/-- Skovaudal's kernel of a role, whose image the spec does not give. -/
def State.loadRole (s : State) (e r : Nat) : State :=
  let k := Config.roleKernel r
  let s := s.loadKernel e k (Config.roleObject r) false false
  let s := if r = roleDpd then s.setFld (F.LE_KERNEL_ID e) 0x0101 else s
  (s.setFld (F.LE_DECL_DECL e) (min (leAt k 10 2) 120)).startEngine e

/-- A kernel that host software loaded: from a signed object of the store. -/
def State.ownKernel (s : State) (e : Nat) : Bool := (s.engine e).own

/-- The kernel stops with a fault code; an owner kernel on a DPD_EST engine gives way to Skovaudal's (R400). -/
def State.engFault (s : State) (e code : Nat) : State :=
  let s := (s.setFld (F.LE_STATUS_FAULT e) code).setEngRun e .faulted
  let s := s.raise 0xB002 (256 * e + code) (srcEngine e) sevError
  if s.role e = roleDpd ∧ s.ownKernel e then
    (s.loadRole e roleDpd).raise 0xB003 e (srcEngine e) sevWarning
  else s

/-! ### Cluster memory (R392-R394) -/

/-- Words of the areas that firmware and the capture path use, at addresses the spec does not give (log entry 34). -/
def clusterShared (w : Nat) : Bool := decide (w < 0xC0000)

/-- Reads a word of cluster memory: as it was written; in the shared areas, where nothing has written it and firmware runs, the
value is free. -/
def State.clmRead (s : State) (w : Nat) : Nat × State :=
  let x := sget (fun _ => 0) s.eng.clm (w % 2 ^ 20)
  if !clusterShared (w % 2 ^ 20) then (x, s)
  else if x = 0 ∧ s.eng.booted then s.fresh 32
  else (x - 1, s)

def State.clmWrite (s : State) (w v : Nat) : State :=
  let x := if clusterShared (w % 2 ^ 20) then v % 2 ^ 32 + 1 else v % 2 ^ 32
  { s with eng := { s.eng with clm := sput (fun _ => 0) s.eng.clm (w % 2 ^ 20) x } }

/-- Words of cluster memory from word `w` on. -/
def State.clmWords (s : State) (w n : Nat) : List Nat × State :=
  let r := (List.range n).foldl (fun (a : List Nat × State) i =>
    let (v, t) := a.2.clmRead (w + i)
    (v :: a.1, t)) ([], s)
  (r.1.reverse, r.2)

/-- Byte address at which a receiver's captures land: word-aligned, in the first area of Table 13-5 (log 34). -/
def captureBase (j : Nat) : Nat := 4 * (Config.captureAddr j % 0x77FF1)

/-- Byte address of an engine's region. -/
def regionOf (e : Nat) : Nat := 0x300000 + 0x10000 * e

/-- Writes bytes of a multiple of 4 from a word of cluster memory on. -/
def State.clmBytes (s : State) (w : Nat) (bs : List Byte) : State :=
  (List.range (bs.length / 4)).foldl (fun s i => s.clmWrite (w + i) (leAt bs (4 * i) 4)) s

/-- A range of bytes lies within another. -/
def within (a n lo size : Nat) : Bool := decide (lo ≤ a) && decide (a + n ≤ lo + size)

/-- Cluster bytes a kernel may access (R394): any for a role kernel; for one loaded by host software its region and, for class
1, the capture (64 + 131,072 bytes) and output area that its parameter block names. -/
def State.clmAllowed (s : State) (e a n : Nat) : Bool :=
  let at_ := fun o => sget (fun _ => 0) s.eng.clm ((regionOf e + o) / 4)
  let own := s.role e == roleHost || s.ownKernel e
  decide (a + n ≤ 2 ^ 22) &&
  (!own || within a n (regionOf e) 0x10000 ||
    (s.role e == roleDpd && (within a n (at_ 4) 131136 || within a n (at_ 8) 0x20000)))

/-- A higher-numbered engine has written the word in the cycle in which the move of engine `e` completes (R394, log 197). -/
def State.outwritten (s : State) (e : Nat) (due : Int) (w : Nat) : Bool :=
  s.eng.wrote.any (fun q => decide (e < q.eng ∧ q.due = due ∧ q.lo ≤ w ∧ w < q.lo + q.n))

/-- The move in flight completes: its words, and source 2 (R393). -/
def State.moveDone (s : State) (e : Nat) : State :=
  let x := s.engine e
  match x.move with
  | none => s
  | some m =>
    let s := if m.into then
        let r := (List.range m.n).foldl (fun (a : Engine × State) i =>
          let (v, t) := a.2.clmRead (m.word + i)
          (a.1.putWord m.bank (m.local_ + i) v, t)) (x, s)
        r.2.putEngine e { r.1 with move := none }
      else
        let t := (List.range m.n).foldl (fun (t : State) i =>
          if s.outwritten e m.due (m.word + i) then t else t.clmWrite (m.word + i) (x.word m.bank (m.local_ + i))) s
        let t := { t with eng := { t.eng with wrote := t.eng.wrote ++ [ClmSpan.mk e m.due m.word m.n] } }
        t.putEngine e { x with move := none }
    s.setFld (F.LE_IRQ_PEND e) (putBits (s.fld (F.LE_IRQ_PEND e)) 2 1 1)

/-- The move of an engine has had its 12 + ⌈n/2⌉ cycles: counted by the instructions executed, and by the clock alone where the
engine executes none for the rest of the tick. -/
def State.moveOver (s : State) (e : Nat) : Bool :=
  let x := s.engine e
  match x.move with
  | some m => decide ((x.tleft : Int) ≤ m.due) || (decide (0 ≤ m.due) && (x.ended || s.engRun e != .running))
  | none => false

/-- XFER_COMPLETE: 12 + ⌈n/2⌉ cycles have passed since the issue. -/
def execXferComplete (e : Fin 16) (s : State) : Host.Outcome State Fault Refusal :=
  .next (if s.moveOver e.val then s.moveDone e.val else s)

/-! ### One instruction (R380-R384, R395, R396) -/

/-- Opcodes of Table 13-8. -/
def opNop : Nat := 0x00
def opCmac : Nat := 0x01
def opMac4 : Nat := 0x02
def opMac : Nat := 0x03
def opMpy : Nat := 0x04
def opAop : Nat := 0x05
def opMova : Nat := 0x06
def opScm : Nat := 0x07
def opLdStG : Nat := 0x08
def opGop : Nat := 0x09
def opLdi : Nat := 0x0A
def opMovr : Nat := 0x0B
def opXfer : Nat := 0x0C
def opWaitx : Nat := 0x0D
def opBr : Nat := 0x10
def opCall : Nat := 0x11
def opRet : Nat := 0x12
def opRti : Nat := 0x13
def opLoop : Nat := 0x14
def opLeave : Nat := 0x15
def opRpt : Nat := 0x16
def opTend : Nat := 0x18
def opDone : Nat := 0x19
def opSwi : Nat := 0x1A
def opEiDi : Nat := 0x1B
def opHalt : Nat := 0x1F

def opDefined (op : Nat) : Bool :=
  decide (op ≤ 0x0D) || decide (0x10 ≤ op ∧ op ≤ 0x16) || decide (0x18 ≤ op ∧ op ≤ 0x1B) || op == 0x1F

def opFormatA (op : Nat) : Bool := (decide (op ≤ 0x0D) && op != opLdStG && op != opLdi)

/-- What a delay slot and a loop's end must not hold (R380, R383). -/
def slotForbidden (op : Nat) : Bool :=
  [opBr, opCall, opRet, opRti, opLoop, opLeave, opRpt, opTend, opDone, opHalt].contains op

/-- What RPT must not repeat (R384). -/
def rptForbidden (op : Nat) : Bool :=
  [opBr, opCall, opRet, opRti, opLoop, opLeave, opRpt, opXfer, opWaitx, opTend, opDone, opHalt].contains op

/-- The word at PC and its opcode. -/
def Engine.fetch (x : Engine) : Nat := sget (fun _ => 0) x.pm (x.pc % 8192)
def opcodeOf (w : Nat) : Nat := bitsAt w 58 6

/-- Fields of the word that its format gives and that hold a defined value: the parallel moves (format A), zeros (formats I and
F), COND and CREG (format F). -/
def wordOk (w : Nat) : Bool :=
  let op := opcodeOf w
  if opFormatA op then (pmove (bitsAt w 20 20)).ok .u && (pmove (bitsAt w 0 20)).ok .v
  else if op = opLdStG ∨ op = opLdi ∨ op = opDone then bitsAt w 32 21 == 0
  else bitsAt w 0 21 == 0 && decide (bitsAt w 54 4 ≤ 10) &&
    ((op != opLoop && op != opRpt) || decide (bitsAt w 50 4 ≤ 7) || bitsAt w 50 4 == 15) &&
    (op != opEiDi || decide (bitsAt w 54 4 ≤ 1))

/-- The top loop frame. -/
def Engine.frame (x : Engine) : Nat := x.lf.getD (x.lfp - 1) 0
def frameStart (f : Nat) : Nat := bitsAt f 35 13
def frameEnd (f : Nat) : Nat := bitsAt f 22 13
def frameCount (f : Nat) : Nat := bitsAt f 0 16
def Engine.atLoopEnd (x : Engine) : Bool := decide (0 < x.lfp) && frameEnd x.frame == x.pc

def nextPc (p : Nat) : Nat := (p + 1) % 8192

/-- PC after the instruction at PC where no branch is pending: at the end of a loop the next iteration, or the frame pops, and an
outer loop that ends at the same address ends its iteration too (R383); at most `n` frames (log 165). -/
def Engine.loopBack (x : Engine) (n : Nat) : Engine :=
  match n with
  | 0 => { x with pc := nextPc x.pc }
  | k + 1 =>
    if !x.atLoopEnd then { x with pc := nextPc x.pc }
    else if 1 < frameCount x.frame then
      { x with pc := frameStart x.frame, lf := x.lf.set (x.lfp - 1) (putBits x.frame 0 16 (frameCount x.frame - 1)) }
    else { x with lfp := x.lfp - 1 }.loopBack k

/-- PC after an instruction that changes neither PC nor slots itself: repeats, then the delay slots of a taken branch, then the loop
end, then PC + 1. -/
def Engine.advance (x : Engine) : Engine :=
  let rep := x.reps && decide (1 < x.rpc)
  let x := if x.reps then { x with rpc := x.rpc - 1, reps := rep } else x
  if rep then x
  else if x.slots ≠ 0 then
    let left := x.slots - 1
    let taken := bitAt x.pbr 31
    if taken then
      if left = 0 then { x with slots := 0, pc := bitsAt x.pbr 0 13, pbr := putBits (putBits x.pbr 31 1 0) 16 2 0 }
      else { x with slots := left, pc := nextPc x.pc, pbr := putBits x.pbr 16 2 left }
    else { x with slots := left }.loopBack 4
  else x.loopBack 4

/-- A branch: taken or not, its two delay slots follow. -/
def Engine.branch (x : Engine) (taken : Bool) (target : Nat) : Engine :=
  { x with pc := nextPc x.pc, slots := 2, pbr := if taken then 2 ^ 31 + 2 * 2 ^ 16 + target % 8192 else putBits x.pbr 31 1 0 }

/-- What an instruction does beside its parallel moves: the engine and state after it, the loads it starts, its cycles, and
whether it sets PC itself; or a fault code. -/
structure Done where
  x     : Engine
  s     : State
  loads : List LoadEff
  cyc   : Nat
  jump  : Bool
  fault : Option Nat
deriving DecidableEq, Repr

def Done.plain (x : Engine) (s : State) : Done := ⟨x, s, [], 1, false, none⟩
def Done.bad (x : Engine) (s : State) (code : Nat) : Done := ⟨x, s, [], 1, true, some code⟩

/-- One parallel move, taking the open values it needs. -/
def State.runMove (s : State) (m : PMove) (b : Bank) (x : Engine) : List LoadEff × Engine × State :=
  let (hi, s) := if m.en ∧ m.st ∧ m.form = 1 then s.fresh 14 else (0, s)
  let (free, s) := if m.en ∧ m.mod = 3 ∧ bitsAt (x.j.getD m.jreg 0) 30 2 = 3 then s.fresh 15 else (0, s)
  let (l, x) := m.run b x hi free
  (l, x, s)

/-- Both parallel moves of a word, before the operation writes its results: bank U, then bank V. A pointer that both fields
post-modify is left open (log entry 35). -/
def State.runMoves (s : State) (w : Nat) (x : Engine) : List LoadEff × Engine × State :=
  let mu := pmove (bitsAt w 20 20)
  let mv := pmove (bitsAt w 0 20)
  let p0 := x.p
  let (a, x, s) := s.runMove mu .u x
  let pu := x.p
  let (b, x, s) := s.runMove mv .v { x with p := p0 }
  let ps := (List.range 8).map (fun i =>
    if mv.en ∧ i = mv.ptr ∧ mv.mod ≠ 0 then x.p.getD i 0 else pu.getD i 0)
  if mu.en ∧ mv.en ∧ mu.ptr = mv.ptr ∧ mu.mod ≠ 0 ∧ mv.mod ≠ 0 then
    let (f, s) := s.fresh 15
    (a ++ b, { x with p := ps.set mu.ptr f }, s)
  else (a ++ b, { x with p := ps }, s)

/-- The registers an old load writes now; one that the instruction itself has changed is left open. -/
def State.endLoads (s : State) (old x : Engine) (ls : List LoadEff) : Engine × State :=
  ls.foldl (fun (a : Engine × State) l =>
    match l with
    | .operand r v =>
      let was := if r < 2 then old.uAt r else old.vAt (r - 2)
      let now := if r < 2 then a.1.uAt r else a.1.vAt (r - 2)
      if was = now then (a.1.endLoad (.operand r v), a.2)
      else
        let (f, t) := a.2.fresh 18
        (a.1.putOperand r (signed 18 f), t)
    | .delay v => (a.1.endLoad (.delay v), a.2)
    | .int r v =>
      if old.getInt r = a.1.getInt r then (a.1.endLoad (.int r v), a.2)
      else
        let (f, t) := a.2.fresh 32
        (a.1.putInt r f, t)) (x, s)

/-- Stores the engine after an instruction of `cyc` cycles; a block move whose cycles have passed completes (R393). -/
def State.spend (s : State) (e : Nat) (x : Engine) (cyc : Nat) : State :=
  let s := s.putEngine e { x with begun := true, rowed := true, tleft := x.tleft - cyc }
  match x.move with
  | some m => if ((x.tleft - cyc : Nat) : Int) ≤ m.due then s.moveDone e else s
  | none => s

/-- An engine of `e` can execute: RUNNING, its tick not ended, cycles left. -/
def State.engActive (s : State) (e : Nat) : Bool :=
  s.engRun e == .running && !(s.engine e).ended && decide (0 < (s.engine e).tleft)

/-- R380, R383 and R384 forbid the word's opcode where it stands: in a delay slot, at a loop's end, or under RPT. -/
def Engine.forbids (x : Engine) (o : Nat) : Bool :=
  (x.slots != 0 && slotForbidden o) || (x.atLoopEnd && x.slots == 0 && slotForbidden o) || (x.reps && rptForbidden o)

/-- The engine executes the word at PC as the row of opcode `op` (for EI and DI, of the condition that `sel` asks for). -/
def State.engReady (s : State) (e op : Nat) (sel : Nat → Bool) : Bool :=
  let w := (s.engine e).fetch
  s.engActive e && opDefined op && opcodeOf w == op && wordOk w && sel w && !(s.engine e).forbids op

/-- What a word's parallel moves start, and the engine and state after them; only format A has moves. -/
def State.engMoves (s : State) (e : Nat) : List LoadEff × Engine × State :=
  let x := s.engine e
  if opFormatA (opcodeOf x.fetch) then s.runMoves x.fetch x else ([], x, s)

/-- An instruction of the engine that stood as `x` ends: loads of the last one land, PC moves on, the cycles are spent; or the
engine faults. -/
def State.engEnd (x : Engine) (e : Nat) (l : List LoadEff) (d : Done) : State :=
  match d.fault with
  | some c => (d.s.putEngine e { d.x with begun := true }).engFault e c
  | none =>
    let p := d.s.endLoads x d.x x.loads
    let y := { p.1 with loads := l ++ d.loads }
    p.2.spend e (if d.jump then y else y.advance) d.cyc

/-- Executes the word at PC where its opcode (and, for EI and DI, its condition) is the row's; a word that is undefined, or stands
where R380, R383 or R384 forbids it, faults the engine with code 2. -/
def State.engStep (s : State) (e op : Nat) (sel : Nat → Bool) (f : Nat → Engine → State → Done) : State :=
  let x := s.engine e
  let w := x.fetch
  let o := opcodeOf w
  if !s.engActive e then s
  else if !opDefined o || (o == op && !wordOk w) then (s.putEngine e { x with begun := true }).engFault e 2
  else if o != op || !sel w then s
  else if x.forbids o then (s.putEngine e { x with begun := true }).engFault e 2
  else
    let m := s.engMoves e
    State.engEnd x e m.1 (f w m.2.1 m.2.2)

def anyWord (_ : Nat) : Bool := true

/-- The word names accumulator `k` in bits 57:56 (Table 13-6). -/
def acWord (k w : Nat) : Bool := bitsAt w 56 2 == k

/-! ### Format A operations -/

def execNop (e : Fin 16) (s : State) : Host.Outcome State Fault Refusal :=
  .next (s.engStep e.val opNop anyWord (fun _ x s => .plain x s))

/-- CMAC into AC k and AC k+1 (`hi`: k = 2): with the conjugate of the bank-V operand, and subtracting forms (R377). Products are
those of the operands before the instruction. -/
def execCmac (e : Fin 16) (hi conj sub : Bool) (s : State) : Host.Outcome State Fault Refusal :=
  let o := s.engine e.val
  .next (s.engStep e.val opCmac (acWord (if hi then 2 else 0)) (fun _ x s =>
    let k := if hi then 2 else 0
    let sg : Int := if sub then -1 else 1
    let re := if conj then o.uAt 0 * o.vAt 0 + o.uAt 1 * o.vAt 1 else o.uAt 0 * o.vAt 0 - o.uAt 1 * o.vAt 1
    let im := if conj then o.uAt 1 * o.vAt 0 - o.uAt 0 * o.vAt 1 else o.uAt 0 * o.vAt 1 + o.uAt 1 * o.vAt 0
    .plain ((x.putAc k (x.acc k + sg * re)).putAc (k + 1) (x.acc (k + 1) + sg * im)) s))

def execMac4 (e : Fin 16) (sub : Bool) (s : State) : Host.Outcome State Fault Refusal :=
  let o := s.engine e.val
  .next (s.engStep e.val opMac4 anyWord (fun _ x s =>
    let sg : Int := if sub then -1 else 1
    .plain ((List.range 4).foldl (fun x i => x.putAc i (x.acc i + sg * (o.uAt 0 * o.vAt i))) x) s))

def execMac (e : Fin 16) (ac : Fin 4) (u : Fin 2) (v : Fin 4) (sub : Bool) (s : State) : Host.Outcome State Fault Refusal :=
  let o := s.engine e.val
  .next (s.engStep e.val opMac (acWord ac.val) (fun _ x s =>
    let sg : Int := if sub then -1 else 1
    .plain (x.putAc ac.val (x.acc ac.val + sg * (o.uAt u.val * o.vAt v.val))) s))

def execMpy (e : Fin 16) (ac : Fin 4) (u : Fin 2) (v : Fin 4) (s : State) : Host.Outcome State Fault Refusal :=
  let o := s.engine e.val
  .next (s.engStep e.val opMpy (acWord ac.val) (fun _ x s => .plain (x.putAc ac.val (o.uAt u.val * o.vAt v.val)) s))

/-- AOP: the accumulator operations; a shift to the right rounds toward minus infinity. -/
def accOp (x : Engine) (a : Nat) (op : AccOp) : Engine :=
  match op with
  | .add src => x.putAc a (x.acc a + x.acc src.val)
  | .sub src => x.putAc a (x.acc a - x.acc src.val)
  | .neg => x.putAc a (-(x.acc a))
  | .clear => x.putAc a 0
  | .shift n =>
    if 8 ≤ n.val then x.putAc a (x.acc a * (2 ^ (n.val - 8) : Nat)) else x.putAc a (x.acc a / (2 ^ (8 - n.val) : Nat))

def execAop (e : Fin 16) (ac : Fin 4) (op : AccOp) (s : State) : Host.Outcome State Fault Refusal :=
  .next (s.engStep e.val opAop (acWord ac.val) (fun _ x s => .plain (accOp x ac.val op) s))

/-- The scale mode's side of a move to a register of unstated width: whether the free value saturated is free too, and SR.V, once
set, stays (R379). -/
def State.freeMove (s : State) (x : Engine) (k : Nat) : Engine × State :=
  let x := x.noteScale (x.scaleOf (x.acc k))
  let (f, s) := s.fresh 1
  (if f = 1 then x.setFlag srV 1 else x, s)

/-- MOVA: to an operand as R379 states. The width that a G or P register takes is not stated: that value is free (log entry 37). -/
def execMova (e : Fin 16) (ac : Fin 4) (dst : MovaDest) (s : State) : Host.Outcome State Fault Refusal :=
  .next (s.engStep e.val opMova (acWord ac.val) (fun _ x s =>
    match dst with
    | .u i => let (v, x) := x.moveAc ac.val 18; .plain (x.putOperand i.val v) s
    | .v i => let (v, x) := x.moveAc ac.val 18; .plain (x.putOperand (2 + i.val) v) s
    | .g i =>
      let (x, s) := s.freeMove x ac.val
      let (f, s) := s.fresh 32
      .plain (x.putInt (.g i) f) s
    | .p i =>
      let (x, s) := s.freeMove x ac.val
      let (f, s) := s.fresh 15
      .plain (x.putInt (.p i) f) s))

def execScm (e : Fin 16) (mode : Fin 4) (s : State) : Host.Outcome State Fault Refusal :=
  .next (s.engStep e.val opScm anyWord (fun _ x s => .plain { x with sr := putBits x.sr 10 2 mode.val } s))

/-- The result of an integer operation; a shift's count is the low five bits of the second operand. -/
def intOp (op : IntOp) (a b : Nat) : Nat :=
  match op with
  | .add => (a + b) % 2 ^ 32
  | .sub | .compare => (a + 2 ^ 32 - b) % 2 ^ 32
  | .and => (BitVec.ofNat 32 a &&& BitVec.ofNat 32 b).toNat
  | .or => (BitVec.ofNat 32 a ||| BitVec.ofNat 32 b).toNat
  | .xor => (BitVec.ofNat 32 a ^^^ BitVec.ofNat 32 b).toNat
  | .not => 2 ^ 32 - 1 - a % 2 ^ 32
  | .shiftLeft => a * 2 ^ (b % 32) % 2 ^ 32
  | .shiftRight => a / 2 ^ (b % 32)
  | .shiftArith => encode2c 32 (signed 32 a / (2 ^ (b % 32) : Nat))

/-- GOP: G[d] from G[a] and G[b]; compare sets the flags alone. -/
def execGop (e : Fin 16) (op : IntOp) (d a b : Fin 8) (s : State) : Host.Outcome State Fault Refusal :=
  .next (s.engStep e.val opGop anyWord (fun _ x s =>
    let r := intOp op (x.g.getD a.val 0) (x.g.getD b.val 0)
    let x := x.setNZ r
    .plain (if op = .compare then x else x.putInt (.g d) r) s))

/-- MOVR: a copy; where the destination is wider, its upper bits are free, where it is narrower, it takes the low bits. -/
def execMovr (e : Fin 16) (dst src : EngReg) (s : State) : Host.Outcome State Fault Refusal :=
  let v := s.engReg e.val src
  .next (s.engStep e.val opMovr anyWord (fun _ x s =>
    let (v, s) := if (regWidth src) < (regWidth dst) then
        let (f, s) := s.fresh ((regWidth dst) - (regWidth src))
        (v + f * 2 ^ (regWidth src), s)
      else (v, s)
    let (y, t) := s.putEngReg e.val x dst v
    if dst = .pc then ⟨y, t, [], 1, true, none⟩ else .plain y t))

/-- Cycles until a move completes. -/
def Engine.stall (x : Engine) (m : Move) : Nat := ((x.tleft : Int) - m.due).toNat

/-- XFER: cluster byte address from a G register, local address from a P register; a second one stalls until the first
completes, or to the end of the tick. `into`: cluster memory to the bank. -/
def execXfer (e : Fin 16) (into : Bool) (b : Bank) (g p : Fin 8) (n : Nat) (s : State) : Host.Outcome State Fault Refusal :=
  .next (s.engStep e.val opXfer anyWord (fun _ x s =>
    let a := x.g.getD g.val 0
    if n = 0 ∨ 4096 < n then .bad x s 2
    else if !s.clmAllowed e.val a (4 * n) then .bad x s 5
    else if (x.move.any (fun m => decide (m.due < 0))) then ⟨x, s, [], x.tleft, true, none⟩
    else
      let stall := (x.move.map x.stall).getD 0
      let s := if x.move.isSome then (s.putEngine e.val x).moveDone e.val else s
      let x := if x.move.isSome then s.engine e.val else x
      let m : Move := ⟨into, b, a / 4, x.p.getD p.val 0, n, (x.tleft : Int) - (1 + stall : Nat) - (12 + ceilDiv n 2 : Nat)⟩
      ⟨{ x with move := some m }, s, [], 1 + stall, false, none⟩))

/-- WAITX: stalls until the outstanding move completes, or to the end of the tick. -/
def execWaitx (e : Fin 16) (s : State) : Host.Outcome State Fault Refusal :=
  .next (s.engStep e.val opWaitx anyWord (fun _ x s =>
    match x.move with
    | none => .plain x s
    | some m =>
      if m.due < 0 then ⟨x, s, [], x.tleft, true, none⟩
      else
        let s := (s.putEngine e.val x).moveDone e.val
        ⟨s.engine e.val, s, [], 1 + x.stall m, false, none⟩))

/-! ### Format I -/

/-- LDG and STG: a G, P or J register from or to a bank word. -/
def execLdg (e : Fin 16) (r : IntReg) (b : Bank) (a : Nat) (s : State) : Host.Outcome State Fault Refusal :=
  .next (s.engStep e.val opLdStG anyWord (fun _ x s => ⟨x, s, [.int r (x.word b a)], 1, false, none⟩))

def execStg (e : Fin 16) (r : IntReg) (b : Bank) (a : Nat) (s : State) : Host.Outcome State Fault Refusal :=
  .next (s.engStep e.val opLdStG anyWord (fun _ x s => .plain (x.putWord b a (x.getInt r)) s))

def execLdi (e : Fin 16) (r : IntReg) (s : State) : Host.Outcome State Fault Refusal :=
  .next (s.engStep e.val opLdi anyWord (fun w x s => .plain (x.putInt r (bitsAt w 0 32)) s))

/-- DONE: the code is held until TEND; a second one replaces it (R387). -/
def execDone (e : Fin 16) (s : State) : Host.Outcome State Fault Refusal :=
  .next (s.engStep e.val opDone anyWord (fun w x s => .plain { x with done := some (bitsAt w 0 8) } s))

/-! ### Format F -/

/-- The condition of a branch, on the flags after the instruction before it. -/
def condHolds (x : Engine) (c : Nat) : Bool :=
  match c with
  | 0 => true
  | 1 => x.flag srZ
  | 2 => !x.flag srZ
  | 3 => x.flag srN
  | 4 => !x.flag srN
  | 5 => x.flag srN || x.flag srZ
  | 6 => !(x.flag srN || x.flag srZ)
  | 7 => x.move.isSome
  | 8 => x.flag srOVR
  | 9 => x.flag srV
  | _ => x.flag srAV

def wordAddr (w : Nat) : Nat := bitsAt w 37 13

/-- The count of LOOP and RPT: a G register, or the immediate. -/
def countOf (x : Engine) (w : Nat) : Nat :=
  if bitsAt w 50 4 = 15 then bitsAt w 21 16 else x.g.getD (bitsAt w 50 4) 0 % 2 ^ 16

def execBr (e : Fin 16) (s : State) : Host.Outcome State Fault Refusal :=
  .next (s.engStep e.val opBr anyWord (fun w x s =>
    ⟨x.branch (condHolds x (bitsAt w 54 4)) (wordAddr w), s, [], 1, true, none⟩))

def execCall (e : Fin 16) (s : State) : Host.Outcome State Fault Refusal :=
  .next (s.engStep e.val opCall anyWord (fun w x s =>
    ⟨(x.putInt (.g 7) ((x.pc + 3) % 8192)).branch true (wordAddr w), s, [], 1, true, none⟩))

def execRet (e : Fin 16) (s : State) : Host.Outcome State Fault Refusal :=
  .next (s.engStep e.val opRet anyWord (fun _ x s => ⟨x.branch true (x.g.getD 7 0 % 8192), s, [], 1, true, none⟩))

/-- RTI: SR from SSR, on at IRA; a pending branch goes on with its remaining slots, a pending RPT with its repeats (R389,
R390). -/
def execRti (e : Fin 16) (s : State) : Host.Outcome State Fault Refusal :=
  .next (s.engStep e.val opRti anyWord (fun _ x s =>
    let left := if bitAt x.pbr 31 then bitsAt x.pbr 16 2 else 0
    let x := { x with pc := x.ira, sr := x.ssr, irq := false, slots := left, reps := decide (0 < x.rpc) }
    let x := if bitAt x.pbr 31 ∧ left = 0 then { x with pc := bitsAt x.pbr 0 13, pbr := putBits x.pbr 31 1 0 } else x
    ⟨x, s, [], 3, true, none⟩))

/-- LOOP: pushes {PC + 1, end, count}; a count of 0 skips the body (R383). -/
def execLoop (e : Fin 16) (s : State) : Host.Outcome State Fault Refusal :=
  .next (s.engStep e.val opLoop anyWord (fun w x s =>
    let n := countOf x w
    let stop := wordAddr w
    if n = 0 then ⟨{ x with pc := nextPc stop }, s, [], 2, true, none⟩
    else if 4 ≤ x.lfp then .bad x s 3
    else
      let f := nextPc x.pc * 2 ^ 35 + stop * 2 ^ 22 + n
      ⟨{ x with lf := x.lf.set x.lfp f, lfp := x.lfp + 1, pc := nextPc x.pc }, s, [], 2, true, none⟩))

def execLeave (e : Fin 16) (s : State) : Host.Outcome State Fault Refusal :=
  .next (s.engStep e.val opLeave anyWord (fun _ x s =>
    if x.lfp = 0 then .bad x s 4 else .plain { x with lfp := x.lfp - 1 } s))

/-- RPT: the next instruction executes `n` times; 0 skips it (R384). -/
def execRpt (e : Fin 16) (s : State) : Host.Outcome State Fault Refusal :=
  .next (s.engStep e.val opRpt anyWord (fun w x s =>
    let n := countOf x w
    if n = 0 then ⟨{ x with pc := nextPc x.pc, rpc := 0 }.loopBack 4, s, [], 1, true, none⟩
    else ⟨{ x with pc := nextPc x.pc, rpc := n, reps := true }, s, [], 1, true, none⟩))

/-- What a tick's TEND publishes (R387). -/
def State.publish (s : State) (e : Nat) : State :=
  let x := s.engine e
  match x.done with
  | none => s
  | some c =>
    let s := (s.setFld (F.LE_OUT_STAMP_TICK e) s.tickno).setFld (F.LE_DONE_CODE e) c
    let s := s.putEngine e { x with done := none }
    let s := { s with recd := { s.recd with pubs := s.recd.pubs ++ [(e, c)] } }
    if s.role e = roleHost then s.raise 0xB001 (256 * e + c) (srcEngine e) sevInfo
    else { s with eng := { s.eng with results := sput (fun _ => 0) s.eng.results e (c + 1) } }

/-- TEND: the tick's work ends; LE_CYCLES takes the cycles used. -/
def execTend (e : Fin 16) (s : State) : Host.Outcome State Fault Refusal :=
  let n := e.val
  let t := s.engStep n opTend anyWord (fun _ x s => .plain { x with ended := true } s)
  if (t.engine n).ended ∧ !(s.engine n).ended ∧ t.engRun n = .running then
    let used := t.cpt - (t.engine n).tleft
    let t := t.setFld (F.LE_CYCLES_LAST n) used
    let t := t.setFld (F.LE_CYCLES_PEAK n) (max (t.fld (F.LE_CYCLES_PEAK n)) used)
    .next (t.publish n)
  else .next t

def execSwi (e : Fin 16) (s : State) : Host.Outcome State Fault Refusal :=
  .next (s.engStep e.val opSwi anyWord (fun _ x s =>
    .plain x (s.setFld (F.LE_IRQ_PEND e.val) (putBits (s.fld (F.LE_IRQ_PEND e.val)) 0 1 1))))

def execEi (e : Fin 16) (s : State) : Host.Outcome State Fault Refusal :=
  .next (s.engStep e.val opEiDi (fun w => bitsAt w 54 4 == 0) (fun _ x s => .plain (x.setFlag srIE 1) s))

def execDi (e : Fin 16) (s : State) : Host.Outcome State Fault Refusal :=
  .next (s.engStep e.val opEiDi (fun w => bitsAt w 54 4 == 1) (fun _ x s => .plain (x.setFlag srIE 0) s))

def execHalt (e : Fin 16) (s : State) : Host.Outcome State Fault Refusal :=
  .next (s.engStep e.val opHalt anyWord (fun _ x s => .bad x s 6))

/-! ### Interrupts (R389-R391) -/

/-- The lowest source that is pending and enabled. -/
def State.irqSource (s : State) (e : Nat) : Option Nat :=
  (List.range 5).find? (fun i => bitAt (s.fld (F.LE_IRQ_PEND e)) i && bitAt (s.fld (F.LE_IRQ_EN e)) i)

/-- INTERRUPT_ENTRY: IRA, SSR, SR.IE and the pending bit, then the vector. In native mode loads end first, and PBR and RPC keep
what is interrupted; compatibility mode holds off while slots, a load-use slot or repeats remain. A service routine is not
interrupted: interrupts do not nest. -/
def State.interruptEntry (s : State) (e : Nat) : State :=
  let x := s.engine e
  let busy := decide (x.slots ≠ 0) || !x.loads.isEmpty || decide (0 < x.rpc)
  match s.irqSource e with
  | none => s
  | some i =>
    if !s.engActive e ∨ !x.flag srIE ∨ x.irq ∨ (s.flag (F.LE_STATUS_COMPAT e) ∧ busy) then s
    else
      let x := { x.loads.foldl Engine.endLoad x with loads := [] }
      let x := { x with ira := x.pc, ssr := x.sr, sr := putBits x.sr srIE 1 0, pc := 8 + 4 * i, slots := 0, reps := false, irq := true }
      (s.setFld (F.LE_IRQ_PEND e) (putBits (s.fld (F.LE_IRQ_PEND e)) i 1 0)).spend e x 3

def execInterruptEntry (e : Fin 16) (s : State) : Host.Outcome State Fault Refusal := .next (s.interruptEntry e.val)

/-! ### The kernel slot (R385, R388) -/

/-- A RUNNING engine enters its kernel on an opening boundary. -/
def State.enterKernel (s : State) (e : Nat) : State :=
  let x := s.engine e
  let x := { x.loads.foldl Engine.endLoad x with loads := [] }
  let s := s.addFld (F.LE_RUN_TICKS_COUNT e) 1
  s.putEngine e { x with
    pc := if x.init_ then 0 else 4, init_ := false, lf := [0, 0, 0, 0], lfp := 0, rpc := 0, pbr := 0,
    slots := 0, reps := false, irq := false, begun := false, ended := false, done := none, tleft := s.cpt }

/-- Block moves at the end of a tick: one due in it completes, one due later has its cycles of the tick to come still before it. -/
def State.endMoves (s : State) : State :=
  let s := (List.range 16).foldl (fun s e =>
    match (s.engine e).move with
    | some m =>
      if 0 ≤ m.due then s.moveDone e
      else s.putEngine e { s.engine e with move := some { m with due := m.due + s.cpt }, tleft := s.cpt }
    | none => s) s
  { s with eng := { s.eng with wrote := [] } }

/-- Engines on the boundary that opens a tick: moves, stops, then entries. -/
def State.engBoundary (s : State) : State :=
  let s := s.endMoves
  (List.range 16).foldl (fun s e =>
    if s.engRun e = .running then
      if (s.engine e).halt then (s.putEngine e { s.engine e with halt := false }).setEngRun e .loaded else s.enterKernel e
    else s) s

/-- Estimations on an engine that exceeded its declared worst case fail (R224). -/
def State.failEstimations (s : State) (e : Nat) : State :=
  (List.range 64).foldl (fun s p => if (s.dpdPath p).estimating = some e then s.failEstimation p else s) s

/-- Engines in the tick that closes: one that has executed instructions and not TEND has overrun, or one the tick reports; a kernel
whose instructions are not given row by row ends its tick on its own (log entry 38). -/
def State.engTick (s : State) (overs : List Nat) (cycles : List (Nat × Nat)) : State :=
  let s := cycles.foldl (fun s (e, n) =>
    if e < 16 ∧ s.engRun e = .running ∧ !(s.engine e).begun then
      (s.setFld (F.LE_CYCLES_LAST e) n).setFld (F.LE_CYCLES_PEAK e) (max (s.fld (F.LE_CYCLES_PEAK e)) n)
    else s) s
  (List.range 16).foldl (fun s e =>
    let x := s.engine e
    if s.engRun e = .running ∧ !x.init_ ∧ ((x.begun ∧ !x.ended) ∨ overs.contains e) then
      let s := (s.addFld (F.LE_OVR_COUNT e) 1).noteOverrun 13 e
      (s.putEngine e ((x.setFlag srOVR 1))).failEstimations e
    else s) s

/-! ### Retirement and takeover (R401, R402) -/

def State.retireEngine (s : State) (e : Nat) : State :=
  let s := { s.setEngRun e .retired with fault := { s.fault with retired := insertNat s.fault.retired (srcEngine e) } }
  if s.role e = roleSpare then s.setRole e roleNone else s

/-- An estimation on an engine is lost as stale. -/
def State.loseEstimation (s : State) (e : Nat) : State :=
  (List.range 64).foldl (fun s p => if (s.dpdPath p).estimating = some e then s.staleEstimate p else s) s

/-- The kernel of a retired engine on the one that takes its role: Skovaudal's again, or the stored object, verified again (its
signatures hold as at its first load, log 198) and within the CPT (R386, R398, R401). -/
def State.takeKernel (s : State) (b r : Nat) (img : List Byte) (own compat : Bool) : State :=
  if !own then (if r = roleHost then s else s.loadRole b r)
  else
    match s.objReason img ⟨true, true⟩ with
    | some why => s.authFail 1 why
    | none =>
      if s.cpt < leAt (objBody img) 10 2 then s
      else (s.loadKernel b (objBody img) img compat true).startEngine b

/-- The kernel and role of engine `a` go to engine `b`, whose own kernel stops (R401, R402). -/
def State.takeOver (s : State) (a b : Nat) : State :=
  let r := s.role a
  let img := sget (fun _ => []) s.eng.images a
  let compat := s.flag (F.LE_STATUS_COMPAT a)
  let own := s.ownKernel a
  let ps := (s.engine a).params
  let s := if s.engRun b = .running then s.setEngRun b .loaded else s
  let s := (s.setRole b r).setRole a roleNone
  let s := (List.range 16384).foldl (fun s i =>
    s.clmWrite (regionOf b / 4 + i) (sget (fun _ => 0) s.eng.clm (regionOf a / 4 + i))) s
  let s := if r = roleHost then (s.putEngine b { s.engine b with params := ps }).clmBytes (regionOf b / 4) ps else s
  s.takeKernel b r img own compat

/-- The engine R402 takes: the highest-numbered of the lowest-priority role that still has one in service. -/
def State.victim (s : State) : Option Nat :=
  let live := fun r => ((List.range 16).filter (fun e => s.role e == r && s.engRun e != .retired)).reverse.head?
  (live roleHost).orElse (fun _ => (live roleDpd).orElse (fun _ => live roleCal))

/-- SPARE_TAKEOVER for a retired engine that still has its role. -/
def State.spareTakeover (s : State) (e : Nat) : State :=
  let r := s.role e
  if s.engRun e ≠ .retired ∨ r = roleSpare ∨ r = roleNone then s
  else
    let s := s.loseEstimation e
    match (List.range 16).find? (fun i => s.role i == roleSpare && s.engRun i != .retired && !s.pinnedUnit (176 + i)) with
    | some b =>
      let s := (s.takeOver e b).addFld F.LE_TAKEOVERS_COUNT 1
      s.raise 0xB004 (256 * e + b) (srcEngine e) sevNotice
    | none =>
      let lost := fun (s : State) (role eng : Nat) =>
        { s with fault := { s.fault with roleLost := true } }.raise 0xB005 (256 * role + eng) (srcEngine eng) sevError
      match s.victim with
      | some b =>
        let old := s.role b
        let s := s.loseEstimation b
        let s := (s.takeOver e b).addFld F.LE_TAKEOVERS_COUNT 1
        let s := s.raise 0xB004 (256 * e + b) (srcEngine e) sevNotice
        lost s old b
      | none => lost (s.setRole e roleNone) r e

/-! ### Roles at boot (R374, R400) -/

/-- Firmware gives the healthy engines their roles, and loads and starts the role kernels. -/
def State.assignRoles (s : State) : State :=
  let live := (List.range 16).filter (fun e => s.engRun e != .retired)
  let s := (live.zip (List.range live.length)).foldl (fun s (e, i) =>
    s.setRole e (if i < 2 then roleObs else if i < 6 then roleCal else if i < 10 then roleDpd else if i < 12 then roleHost
      else roleSpare)) s
  let s := live.foldl (fun s e =>
    if s.role e = roleSpare ∨ s.role e = roleHost then s else s.loadRole e (s.role e)) s
  { s with eng := { s.eng with booted := true } }

/-- Engines as every device reset and every exit from STANDBY leave them (R400). -/
def State.resetEngines (s : State) : State :=
  let s := { s.resetRange 0x400000 0x50FFFF with eng := EngState.init }
  (List.range 16).foldl (fun s e => if s.isRetired (srcEngine e) then s.setEngRun e .retired else s) s

/-! ### ESTIMATION_START's part on the engine (R399) -/

/-- The parameter block of a job, and DOORBELL: the capture lies where its receiver's captures land; the job number, the output area
(128 KiB of Table 13-5's first area) and the observation phase are free values (log 34). -/
def State.jobBlock (s : State) (e p : Nat) : State :=
  let (job, s) := s.fresh 32
  let (f, s) := s.fresh 19
  let (ph, s) := s.fresh 32
  let cap := captureBase (p / 8)
  let out := 4 * (f % 0x78001)
  let ts := s.model p
  let s := s.putEngine e { s.engine e with rowed := false }
  let s := { s with eng := { s.eng with
    jobs := sput (fun _ => EngJob.init) s.eng.jobs e ⟨p, job, out, ts.length⟩
    results := sput (fun _ => 0) s.eng.results e 0 } }
  let bs := leBytes 4 job ++ leBytes 4 cap ++ leBytes 4 out ++ leBytes 1 p ++ leBytes 1 ts.length ++ leBytes 2 0 ++ leBytes 4 ph ++
    ts.flatMap (leBytes 4)
  let s := s.clmBytes (regionOf e / 4) bs
  s.setFld (F.LE_IRQ_PEND e) (putBits (s.fld (F.LE_IRQ_PEND e)) 1 1 1)

def execEstimationStart (e : Fin 16) (s : State) : Host.Outcome State Fault Refusal :=
  match s.estimationStart e.val with
  | (some p, t) => .next (t.jobBlock e.val p)
  | (none, t) => .next t

/-- The code that an engine's kernel has published for its job, in firmware's queue. -/
def State.engResult (s : State) (e : Nat) : Option Nat :=
  match sget (fun _ => 0) s.eng.results e with
  | 0 => none
  | c + 1 => some c

/-- A pair of words of an output area, and a sample of ŷ (R399). -/
def coefWords (c : Cplx) : List Byte := leBytes 4 (encode2c 32 (signed 18 (encode2c 18 c.re))) ++
  leBytes 4 (encode2c 32 (signed 18 (encode2c 18 c.im)))
def coefOf (i q : Nat) : Cplx := ⟨signed 18 (i % 2 ^ 18), signed 18 (q % 2 ^ 18)⟩
def iqWord (c : Cplx) : List Byte := leBytes 2 (encode2c 16 c.re) ++ leBytes 2 (encode2c 16 c.im)
def iqOf (w : Nat) : Cplx := ⟨signed 16 (w % 2 ^ 16), signed 16 (w / 2 ^ 16)⟩

/-- The result of a kernel whose instructions are not given row by row: what the row says it has left in its output area, and its
DONE, with a code other than 0 that is free where it failed (log 38). -/
def State.rowResult (s : State) (e : Nat) (ok : Bool) (coefs predicted : List Cplx) : State :=
  let j := sget (fun _ => EngJob.init) s.eng.jobs e
  let (f, s) := s.fresh 8
  let code := if ok then 0 else 1 + f % 255
  let s := s.clmBytes (j.out / 4) (leBytes 4 j.job ++ leBytes 4 code)
  let s := if ok then
      (s.clmBytes (j.out / 4 + 2) ((fit j.n coefs).flatMap coefWords)).clmBytes (j.out / 4 + 0x100) ((fit 16384 predicted).flatMap iqWord)
    else s
  (s.putEngine e { s.engine e with done := some code }).publish e

/-- The candidate and its predicted observation as they stand in the output area of an engine's job. -/
def State.readOutput (s : State) (e : Nat) : List Cplx × List Cplx × State :=
  let j := sget (fun _ => EngJob.init) s.eng.jobs e
  let (ws, s) := s.clmWords (j.out / 4 + 2) (2 * j.n)
  let (ys, s) := s.clmWords (j.out / 4 + 0x100) 16384
  ((List.range j.n).map (fun i => coefOf (ws.getD (2 * i) 0) (ws.getD (2 * i + 1) 0)), ys.map iqOf, s)

/-- Firmware takes the result of the job for path `p` from its queue: a code other than 0 fails the estimation, and the guard judges
the candidate of the output area (R225, R399). -/
def State.takeResult (s : State) (p e : Nat) : State :=
  match s.engResult e, (s.dpdPath p).estFrom with
  | some code, some c =>
    let s := { s with eng := { s.eng with results := sput (fun _ => 0) s.eng.results e 0 } }
    if code ≠ 0 then s.failEstimation p
    else
      let slot := (s.dpdPath p).estSlot
      let s := s.putDpd p { s.dpdPath p with estimating := none, estFrom := none }
      if s.adapt p ≠ .run then s
      else if slot ≠ s.slotInForce p then s.addFld (F.DPD_P_SKIP_STALE p) 1
      else
        let (coefs, predicted, s) := s.readOutput e
        s.guardCandidate p c coefs predicted
  | _, _ => s

/-- ACCEPTANCE_GUARD: firmware takes the result that the kernel of a path's estimation has published. What the row brings is the
result of a kernel that has executed no instruction row in its job (log 38); the figures beside it are not read (log 171). -/
def execAcceptanceGuard (p : Fin 64) (kernelOk : Bool) (coefs predicted : List Cplx) (_acfPred _acfMeas _gainMeas : Int)
    (s : State) : Host.Outcome State Fault Refusal :=
  match (s.dpdPath p.val).estimating with
  | none => .next s
  | some e =>
    let s := if (s.engResult e).isNone ∧ !(s.engine e).rowed then s.rowResult e kernelOk coefs predicted else s
    .next (s.takeResult p.val e)

/-! ### Commands (R403, R404) -/

def engMask (c : Cmd) : List Nat := maskList 16 (leAt c.payload 2 2)
def State.engLive (s : State) (l : List Nat) : List Nat := l.filter (fun e => s.engRun e != .retired)
def State.engPartial (s : State) (l : List Nat) : Bool × List Byte := partialMask 16 2 (l.filter (fun e => s.engRun e == .retired))

def ctxEngLoad (s : State) : Option Status :=
  if !s.controlNormal ∨ s.fld F.PWR_STATUS_STATE = 3 then some .notPermitted else none

/-- Check 11 of ENG_LOAD_KERNEL. -/
def chkEngLoad (s : State) (c : Cmd) : Option Status :=
  let p := c.payload
  let ls := engMask c
  let live := s.engLive ls
  if p.length ≠ 8 ∨ 2 ≤ leAt p 4 1 ∨ !zeroAt p 5 3 ∨ ls.isEmpty then some .badParam
  else match s.kernelObj (leAt p 0 2) with
    | none => some .badParam
    | some o =>
      let k := objBody o
      if !kernelOk k ∨ (leAt k 8 1 = 1 ∧ leAt p 2 2 ≠ s.fld F.DPD_ENGINES_MASK) ∨
          (leAt k 8 1 = 0 ∧ live.any (fun e => s.role e == roleDpd)) then some .badParam
      else if live.any (fun e => (s.role e != roleHost && s.role e != roleDpd) ||
          (s.role e == roleHost && s.engRun e == .running)) then some .notPermitted
      else if live.isEmpty then some .resourceRetired else none

/-- Check 12: DECL within CPT. -/
def limitEngLoad (s : State) (c : Cmd) : Bool :=
  match s.kernelObj (leAt c.payload 0 2) with
  | some o => decide (leAt (objBody o) 10 2 ≤ s.cpt)
  | none => true

/-- ENG_LOAD_KERNEL, with the verdicts on the stored object's signatures. -/
def execEngLoadKernel (tag : Nat) (v : SigVerdict) (s : State) : Host.Outcome State Fault Refusal :=
  .next (s.performStart 0x0F00 tag anyOp (fun c s =>
    match s.kernelObj (leAt c.payload 0 2) with
    | none => s.finishNow c.tag .badParam []
    | some o =>
      match s.objReason o v with
      | some r => (s.authFail 1 r).finishNow c.tag .authFail []
      | none =>
        let k := objBody o
        let ls := engMask c
        let est := leAt k 8 1 == 1
        let s := (s.engLive ls).foldl (fun s e =>
          let s := if est then s.loseEstimation e else s
          let s := s.loadKernel e k o (bitAt (leAt c.payload 4 1) 0) true
          if est then s.startEngine e else s) s
        let (part, pl) := s.engPartial ls
        s.finishPart c.tag .ok part pl))

def ctxEngStart (s : State) : Option Status := if s.fld F.PWR_STATUS_STATE = 3 then some .notPermitted else none

/-- Check 11 of ENG_START; a kernel whose declared worst case exceeds one slot is in no state to start (R41, Table 13-12: no
LIMIT). -/
def chkEngStart (s : State) (c : Cmd) : Option Status :=
  let p := c.payload
  let n := leAt p 4 2
  let ls := engMask c
  let live := s.engLive ls
  let fits := fun e => s.role e == roleHost &&
    (match c.op with
     | 0 => s.engRun e == .loaded && decide (s.fld (F.LE_DECL_DECL e) ≤ s.cpt)
     | 1 => s.engRun e == .running || s.engRun e == .faulted
     | _ => s.engRun e == .running)
  if p.length ≠ 8 + n ∨ 3 ≤ c.op ∨ !zeroAt p 1 1 ∨ n % 4 ≠ 0 ∨ 4088 < n ∨ !zeroAt p 6 2 ∨ ls.isEmpty then some .badParam
  else if !live.all fits then some .notPermitted
  else if live.isEmpty then some .resourceRetired else none

/-- Parameters go to offset 0 of each engine's region before the operation acts. -/
def State.passParams (s : State) (c : Cmd) : State :=
  let ps := c.payload.drop 8
  if ps.isEmpty then s
  else (s.engLive (engMask c)).foldl (fun s e =>
    (s.putEngine e { s.engine e with params := ps }).clmBytes (regionOf e / 4) ps) s

def State.engOp (s : State) (c : Cmd) (f : State → Nat → State) (reply : List Byte) : State :=
  let s := (s.engLive (engMask c)).foldl f (s.passParams c)
  let (part, pl) := s.engPartial (engMask c)
  s.finishPart c.tag .ok part (reply ++ pl)

/-- Operation 0: init entry on the next boundary; the reply holds that tick. -/
def execEngStartKernel (tag : Nat) (s : State) : Host.Outcome State Fault Refusal :=
  .next (s.performStart 0x0F01 tag (isOp 0) (fun c s =>
    s.engOp c (fun s e => if s.engRun e = .loaded then s.startEngine e else s) (leBytes 4 (tickAdd s.tickno 1))))

/-- Operation 1: RUNNING engines stop at the next boundary, FAULTED ones become LOADED at once. -/
def State.stopEngine (s : State) (e : Nat) : State :=
  match s.engRun e with
  | .running => s.putEngine e { s.engine e with halt := true }
  | .faulted => (s.setFld (F.LE_STATUS_FAULT e) 0).setEngRun e .loaded
  | _ => s

def execEngStop (tag : Nat) (s : State) : Host.Outcome State Fault Refusal :=
  .next (s.performStart 0x0F01 tag (isOp 1) (fun c s => s.engOp c State.stopEngine []))

/-- Operation 2: source 1. -/
def State.ringEngine (s : State) (e : Nat) : State :=
  if s.engRun e = .running then s.setFld (F.LE_IRQ_PEND e) (putBits (s.fld (F.LE_IRQ_PEND e)) 1 1 1) else s

def execEngDoorbell (tag : Nat) (s : State) : Host.Outcome State Fault Refusal :=
  .next (s.performStart 0x0F01 tag (isOp 2) (fun c s => s.engOp c State.ringEngine []))

/-! ### Windows (R406) -/

/-- The word of an engine's memory window; a space or index outside the memories reads as a free value. -/
def State.leWord (s : State) (e : Nat) : Nat × State :=
  let x := s.engine e
  let i := s.fld (F.LE_MEM_ADDR_INDEX e)
  match s.fld (F.LE_MEM_ADDR_SPACE e) with
  | 0 => if i < 16384 then (bitsAt (sget (fun _ => 0) x.pm (i / 2)) (32 * (i % 2)) 32, s) else s.fresh 32
  | 1 => if i < 32768 then (x.word .u i, s) else s.fresh 32
  | 2 => if i < 32768 then (x.word .v i, s) else s.fresh 32
  | _ => s.fresh 32

def State.leStore (s : State) (e v : Nat) : State :=
  let x := s.engine e
  let i := s.fld (F.LE_MEM_ADDR_INDEX e)
  match s.fld (F.LE_MEM_ADDR_SPACE e) with
  | 0 =>
    if i < 16384 then
      let m := sput (fun _ => 0) x.pm (i / 2) (putBits (sget (fun _ => 0) x.pm (i / 2)) (32 * (i % 2)) 32 v)
      s.putEngine e { x with pm := m }
    else s
  | 1 => if i < 32768 then s.putEngine e (x.putWord .u i v) else s
  | 2 => if i < 32768 then s.putEngine e (x.putWord .v i v) else s
  | _ => s

def State.stepLeIndex (s : State) (e : Nat) : State :=
  s.setFld (F.LE_MEM_ADDR_INDEX e) ((s.fld (F.LE_MEM_ADDR_INDEX e) + 1) % 2 ^ 16)

def State.readLeMem (s : State) (e : Nat) : Nat × State :=
  let (v, t) := s.leWord e
  (v, t.stepLeIndex e)

/-- A host write takes effect under a maintenance unlock with FW_WRITE alone (R87, R579). -/
def State.writeLeMem (s : State) (e v : Nat) : State :=
  if s.unlocked 3 then (s.leStore e v).stepLeIndex e else s

def State.stepClmIndex (s : State) : State := s.setFld F.CLM_ADDR_INDEX ((s.fld F.CLM_ADDR_INDEX + 1) % 2 ^ 20)

def State.readClm (s : State) : Nat × State :=
  let (v, t) := s.clmRead (s.fld F.CLM_ADDR_INDEX)
  (v, t.stepClmIndex)

def State.writeClm (s : State) (v : Nat) : State :=
  if s.unlocked 3 then (s.clmWrite (s.fld F.CLM_ADDR_INDEX) v).stepClmIndex else s

/-! ### Captures in cluster memory -/

/-- Engines that run or wait see their capture interrupt (R389). -/
def State.captureIrq (s : State) : State :=
  (List.range 16).foldl (fun s e =>
    if s.fld (F.LE_STATUS_STATE e) = 2 then s.setFld (F.LE_IRQ_PEND e) (putBits (s.fld (F.LE_IRQ_PEND e)) 4 1 1) else s) s

/-- CAPTURE_DELIVERED: a capture whose transfer is complete lies in cluster memory, header and samples (Table 07-4), and serves its
purposes (R217, R220). The figures the row shows are not read (log entry 171). -/
def execCaptureDelivered (j : Fin 8) (_densities : List (Nat × Nat × Nat × Int)) (_acf _gain : Int) (s : State) :
    Host.Outcome State Fault Refusal :=
  let j := j.val
  match s.dpd.transfer.find? (fun e => e.ox == j && decide (43 ≤ e.sent)) with
  | none => .next s
  | some e =>
    let s := { s with dpd := { s.dpd with transfer := s.dpd.transfer.erase e } }
    let s := if s.ox j = .transfer then s.setOx j .idle else s
    let bs := captureBytes e.cap
    let s := ((s.clmBytes (captureBase j / 4) bs).noteItem (.capture j bs)).captureIrq
    let s := (s.addFld (F.OBS_CAPTURES_COUNT j) 1).setFld (F.OBS_LAST_TICK_TICK j) e.cap.airTick
    .next (s.useCapture e.cap)

end Sys2Proof.Machine
end

