-- ==== Sys2Proof/Machine/Dma.lean ====
section
/-!
DEFINITION. Sys2Proof/Machine/Dma.lean: Clematis (R407-R425). Its channels' states, descriptors, bursts, running CRC, retries,
loops and completion; DMA_SUBMIT. What host memory holds comes with the row that reads it; REGISTER accesses are host
accesses under R87, handed in as `rd` and `wr` (Registers.lean).
-/
namespace Sys2Proof.Machine

/-- States of a channel, in the code of DMA_CHn_STATUS.STATE. -/
inductive DmaSt where
  | idle | run | retry | ended | error
deriving DecidableEq, Repr

def DmaSt.code : DmaSt → Nat
  | .idle => 0 | .run => 1 | .retry => 2 | .ended => 3 | .error => 4

def DmaSt.ofCode : Nat → DmaSt
  | 0 => .idle | 1 => .run | 2 => .retry | 3 => .ended | _ => .error

def State.dmaSt (s : State) (n : Nat) : DmaSt := .ofCode (s.fld (F.DMA_CH_STATUS_STATE n))

/-- RUN, RETRY or END: the channel's SHARE, HEAD and MAXCHAIN stay (Table 14-8). -/
def State.dmaBusy (s : State) (n : Nat) : Bool := s.dmaSt n == .run || s.dmaSt n == .retry || s.dmaSt n == .ended

/-- A channel's state, with its bit of DMA_STATUS.ACTIVE. -/
def State.setDmaSt (s : State) (n : Nat) (x : DmaSt) : State :=
  let s := s.setFld (F.DMA_CH_STATUS_STATE n) x.code
  s.setFld F.DMA_STATUS_ACTIVE (putBits (s.fld F.DMA_STATUS_ACTIVE) n 1 (b2n (x = .run ∨ x = .retry)))

def State.dmaChan (s : State) (n : Nat) : DmaChan := sget (fun _ => DmaChan.init) s.dma.chans n

def State.putDmaChan (s : State) (n : Nat) (c : DmaChan) : State :=
  { s with dma := { s.dma with chans := sput (fun _ => DmaChan.init) s.dma.chans n c } }

/-- Source of a channel (Table 19-1). -/
def srcDma (n : Nat) : Nat := srcCode 12 n

/-! ### Descriptors (R409, R410) -/

def descCtrl (d : List Byte) : Nat := leAt d 0 4
def descLen (d : List Byte) : Nat := leAt d 4 4
def descSrc (d : List Byte) : Nat := leAt d 8 6
def descDst (d : List Byte) : Nat := leAt d 14 6
def descCrcAddr (d : List Byte) : Nat := leAt d 20 6
def descNext (d : List Byte) : Nat := leAt d 26 6
def descEoc (d : List Byte) : Bool := bitAt (descCtrl d) 0
def descCrcStore (d : List Byte) : Bool := bitAt (descCtrl d) 1
def descCrcCont (d : List Byte) : Bool := bitAt (descCtrl d) 2
def descIrq (d : List Byte) : Bool := bitAt (descCtrl d) 4
def descSrcFix (d : List Byte) : Bool := bitAt (descCtrl d) 5
def descDstFix (d : List Byte) : Bool := bitAt (descCtrl d) 6
def descSrcSpace (d : List Byte) : Nat := bitsAt (descCtrl d) 8 2
def descDstSpace (d : List Byte) : Nat := bitsAt (descCtrl d) 10 2
def descTag (d : List Byte) : Nat := bitsAt (descCtrl d) 16 16

/-- Codes of the address spaces (Table 14-3). -/
def spHost : Nat := 0
def spCluster : Nat := 1
def spCapture : Nat := 2
def spRegister : Nat := 3

/-- Bytes of an address space (Table 14-3). -/
def spaceSize (sp : Nat) : Nat := [2 ^ 48, 0x400000, 0x80000000, 0x1000000].getD sp 0

/-- One end of a descriptor keeps R410: inside its space, FIX in REGISTER only, and words there. -/
def endOk (sp addr len : Nat) (fix : Bool) : Bool :=
  let n := if fix then 4 else len
  decide (addr + n ≤ spaceSize sp) &&
  (if sp = spRegister then decide (addr % 4 = 0) && decide (len % 4 = 0) else !fix)

/-- The rules of R410. -/
def descOk (d : List Byte) : Bool :=
  let c := descCtrl d
  bitsAt c 12 4 == 0 && !bitAt c 7 && decide (0 < descLen d) && decide (descLen d ≤ 16777216) &&
  endOk (descSrcSpace d) (descSrc d) (descLen d) (descSrcFix d) &&
  endOk (descDstSpace d) (descDst d) (descLen d) (descDstFix d) &&
  decide (descCrcAddr d % 4 = 0) &&
  (!descCrcStore d || decide (descCrcAddr d + 4 ≤ spaceSize (descDstSpace d))) &&
  (descEoc d || decide (descNext d % 32 = 0))

/-- CAPTURE is unavailable while md is retired or PD_MD is not on (Table 14-3). -/
def State.captureReady (s : State) : Bool := !s.isRetired srcMd && s.domain 12 == 1

def State.spaceReady (s : State) (sp : Nat) : Bool := sp != spCapture || s.captureReady

/-! ### The chain -/

def State.dmaCur (s : State) (n : Nat) : Nat :=
  32 * s.fld (F.DMA_CH_CUR_LO_ADDR n) + 2 ^ 32 * s.fld (F.DMA_CH_CUR_HI_ADDR n)

def State.setDmaCur (s : State) (n a : Nat) : State :=
  (s.setFld (F.DMA_CH_CUR_LO_ADDR n) (a / 32)).setFld (F.DMA_CH_CUR_HI_ADDR n) (a / 2 ^ 32)

def State.dmaHead (s : State) (n : Nat) : Nat :=
  32 * s.fld (F.DMA_CH_HEAD_LO_ADDR n) + 2 ^ 32 * s.fld (F.DMA_CH_HEAD_HI_ADDR n)

/-- Payload of a completed WAIT command (Table 14-6). -/
def State.dmaReply (s : State) (n : Nat) : List Byte :=
  leBytes 1 (s.fld (F.DMA_CH_STATUS_STATE n)) ++ leBytes 1 (s.fld (F.DMA_CH_ERR_REASON n)) ++
  leBytes 2 (s.fld (F.DMA_CH_LAST_TAG_TAG n)) ++ leBytes 4 (s.fld (F.DMA_CH_DESC_COUNT_COUNT n)) ++
  leBytes 4 (s.fld (F.DMA_CH_DONE_BYTES_COUNT n)) ++ leBytes 6 (s.dmaCur n) ++ leBytes 6 0

/-- The DMA_SUBMITs that wait for a channel complete (R423). -/
def State.endWaits (s : State) (n : Nat) (st : Status) : State :=
  let ws := s.dma.waits.filter (fun w => w.1 == n)
  let s := { s with dma := { s.dma with waits := s.dma.waits.filter (fun w => w.1 != n) } }
  ws.foldl (fun s w => s.finishNow w.2.1 st (s.dmaReply n)) s

/-- STOPn: the channel entered END or ERROR. -/
def State.setStop (s : State) (n : Nat) : State :=
  s.setIrq F.DMA_IRQ_STAT_STOP (putBits (s.fld F.DMA_IRQ_STAT_STOP) n 1 1)

/-- The chain ends in ERROR with a reason (R418, R420, Table 14-5). -/
def State.dmaError (s : State) (n reason : Nat) : State :=
  let s := s.setDmaSt n .error
  let s := s.setFld (F.DMA_CH_ERR_REASON n) reason
  let s := s.setFld (F.DMA_CH_STATUS_REREAD n) 0
  let s := s.putDmaChan n { s.dmaChan n with fetch := .none, preWait := false, pre := [] }
  let s := s.setStop n
  let s := if reason = 2 ∨ reason = 3 then s.raiseFree 0xC003 (srcDma n) sevError else s
  let s := s.raise 0xC002 (256 * n + reason) (srcDma n) sevError
  s.endWaits n (if reason = 4 then .timeout else .badParam)

/-- CHAIN_END: the channel stops in END. -/
def State.dmaEnd (s : State) (n : Nat) : State :=
  let s := s.setDmaSt n .ended
  let s := s.setFld (F.DMA_CH_ERR_REASON n) 1
  let s := s.putDmaChan n { s.dmaChan n with fetch := .none, preWait := false, pre := [] }
  (s.setStop n).endWaits n .ok

/-- The chain reaches the descriptor at an address, of which no byte has been written yet: descriptor number MAXCHAIN + 1 is not
fetched (R418, R420). -/
def State.dmaFetch (s : State) (n a : Nat) : State :=
  let c := s.dmaChan n
  let m := s.fld (F.DMA_CH_MAXCHAIN_MAX n)
  let s := (s.setDmaCur n a).setFld (F.DMA_CH_DONE_BYTES_COUNT n) 0
  if m ≠ 0 ∧ m ≤ c.chain then s.dmaError n 3
  else (s.putDmaChan n { c with fetch := .whole, chain := c.chain + 1 }).setDmaSt n .run

/-- A descriptor that has been read becomes the one in progress (R410, R414, R416, R418). -/
def State.takeDesc (s : State) (n : Nat) (d : List Byte) : State :=
  let c := s.dmaChan n
  if !descEoc d && descNext d == s.dmaCur n then s.dmaError n 2
  else if !descOk d then s.dmaError n 5
  else if !(s.spaceReady (descSrcSpace d) && s.spaceReady (descDstSpace d)) then s.dmaError n 6
  else
    let run := if descCrcCont d then c.crc else 2 ^ 32 - 1
    let wait := !descEoc d
    s.putDmaChan n { c with
      desc := d, fetch := .none, preWait := wait, pre := [], buf := [], got := 0, crc := run, crcDone := false, backDone := false }

/-- The chain continues with the successor of the descriptor in progress: prefetched, being prefetched, or fetched afresh. -/
def State.dmaContinue (s : State) (n : Nat) : State :=
  let c := s.dmaChan n
  let t := s.dmaFetch n (descNext c.desc)
  if t.dmaSt n = .error then t
  else if c.pre.isEmpty then t.putDmaChan n { t.dmaChan n with preWait := false }
  else t.takeDesc n c.pre

/-- A channel that starts while DOZE holds Clematis is paused at once (R422). -/
def State.dozePause (s : State) (n : Nat) : State :=
  if s.pwr.dmaHold then s.setFld (F.DMA_CH_STATUS_PAUSED n) 1 else s

/-- A channel starts from IDLE at HEAD (Table 14-5). DESC_COUNT counts since the last start from IDLE. -/
def State.dmaStart (s : State) (n : Nat) (fresh : Bool) : State :=
  let c := s.dmaChan n
  let s := if fresh then s.setFld (F.DMA_CH_DESC_COUNT_COUNT n) 0 else s
  let s := s.setFld (F.DMA_CH_ERR_RETRIES n) 0
  let s := s.putDmaChan n { DmaChan.init with crc := c.crc, nextRd := c.nextRd, nextWr := c.nextWr }
  (s.dozePause n).dmaFetch n (s.dmaHead n)

/-- Is the channel held by the device (R408)? -/
def State.dmaHeld (s : State) (n : Nat) : Bool := s.flag (F.DMA_CH_STATUS_HELD n)

/-- The tail's CTRL word is read again, and the next descriptor will be fetched afresh; REREAD is clear from here on, so a doorbell that comes before the read's completion asks
for another one (R416, Table 14-4, log 167). -/
def State.reread (s : State) (n : Nat) : State :=
  (s.putDmaChan n { s.dmaChan n with fetch := .ctrl, preWait := false, pre := [] }).setFld (F.DMA_CH_STATUS_REREAD n) 0

/-- A doorbell (R416, Table 14-5). -/
def State.dmaDoorbell (s : State) (n : Nat) : State :=
  match s.dmaSt n with
  | .idle => s.dmaStart n true
  | .run | .retry =>
    (s.putDmaChan n { s.dmaChan n with preWait := false, pre := [] }).setFld (F.DMA_CH_STATUS_REREAD n) 1
  | .ended =>
    if (s.dmaChan n).fetch == .ctrl then s.setFld (F.DMA_CH_STATUS_REREAD n) 1
    else (s.putDmaChan n { s.dmaChan n with chain := 0 }).reread n
  | .error => s

/-- DMA_CHn_CTRL.RESET: the channel goes to IDLE (Table 14-5). -/
def State.dmaReset (s : State) (n : Nat) : State :=
  let c := s.dmaChan n
  let s := if s.dmaSt n = .error then s.setFld (F.DMA_CH_ERR_REASON n) 0 else s
  let s := s.setDmaSt n .idle
  let s := s.setFld (F.DMA_CH_STATUS_REREAD n) 0
  let s := s.setFld (F.DMA_CH_STATUS_PAUSED n) 0
  s.putDmaChan n { DmaChan.init with crc := c.crc, nextRd := c.nextRd, nextWr := c.nextWr }

/-- A host write to a channel's doorbell or RESET: without effect on a held channel (R408). -/
def State.hostDoorbell (s : State) (n : Nat) : State := if s.dmaHeld n then s else s.dmaDoorbell n
def State.hostChReset (s : State) (n : Nat) : State := if s.dmaHeld n then s else s.dmaReset n

/-- The hold of the quality-record ring follows FRM_QREC_CFG; a channel whose hold ends returns to IDLE (R408). -/
def State.refreshHolds (s : State) : State :=
  (List.range 16).foldl (fun s n =>
    let h := decide (s.fld F.FRM_QREC_CFG_EN ≠ 0) && s.fld F.FRM_QREC_CFG_CHAN == n
    if s.dmaHeld n && !h then (s.dmaReset n).setFld (F.DMA_CH_STATUS_HELD n) 0
    else s.setFld (F.DMA_CH_STATUS_HELD n) (b2n h)) s

/-- Entry to DOZE: channels in RUN or RETRY pause; they resume on the return (R422). -/
def State.dmaPause (s : State) : State :=
  let s := { s with pwr := { s.pwr with dmaHold := true } }
  (List.range 16).foldl (fun s n =>
    if s.dmaSt n = .run ∨ s.dmaSt n = .retry then s.setFld (F.DMA_CH_STATUS_PAUSED n) 1 else s) s

def State.dmaResume (s : State) : State :=
  let s := { s with pwr := { s.pwr with dmaHold := false } }
  (List.range 16).foldl (fun s n => s.setFld (F.DMA_CH_STATUS_PAUSED n) 0) s

/-- Every entry to STANDBY: channels IDLE with their counters at 0 (R421). -/
def State.dmaStandby (s : State) : State :=
  let s := (List.range 16).foldl (fun s n =>
    let s := (s.dmaReset n).setFld (F.DMA_CH_DONE_BYTES_COUNT n) 0
    let s := s.setFld (F.DMA_CH_DESC_COUNT_COUNT n) 0
    (s.setFld (F.DMA_CH_ERR_RETRIES n) 0).setFld (F.DMA_CH_TIMEOUTS_COUNT n) 0) s
  { s with dma := DmaState.init }

/-- A Clematis channel in RUN or RETRY whose descriptor names CAPTURE space (Table 15-6, node 5). -/
def State.captureDma (s : State) : Bool :=
  (List.range 16).any (fun n =>
    let d := (s.dmaChan n).desc
    (s.dmaSt n == .run || s.dmaSt n == .retry) && !d.isEmpty && (descSrcSpace d == spCapture || descDstSpace d == spCapture))

/-! ### Descriptor reads -/

/-- A channel may move on: RUN and not paused. -/
def State.dmaLive (s : State) (n : Nat) : Bool := s.dmaSt n = .run && !s.flag (F.DMA_CH_STATUS_PAUSED n)

/-- A descriptor read completes with 32 bytes: the descriptor at CUR, a CTRL word read again (its first 4 bytes), or a
prefetch. The retry count returns to 0 when an access completes (R416, R419). -/
def State.descRead (s : State) (n : Nat) (d : List Byte) : State :=
  let c := s.dmaChan n
  let d := (d ++ List.replicate 32 0).take 32
  match c.fetch with
  | .whole =>
    if s.dmaLive n then ((s.setFld (F.DMA_CH_ERR_RETRIES n) 0).takeDesc n d) else s
  | .ctrl =>
    let s0 := (s.setFld (F.DMA_CH_ERR_RETRIES n) 0).putDmaChan n { c with fetch := .none }
    let again := descEoc d && s.flag (F.DMA_CH_STATUS_REREAD n)
    if s.dmaSt n = .ended then
      if again then s0.reread n else if descEoc d then s0 else ((s0.setDmaSt n .run).dozePause n).dmaContinue n
    else if s.dmaLive n then
      if again then s0.reread n else if descEoc d then s0.dmaEnd n else s0.dmaContinue n
    else s
  | .none =>
    if s.dmaLive n && c.preWait then
      (s.setFld (F.DMA_CH_ERR_RETRIES n) 0).putDmaChan n { c with preWait := false, pre := d }
    else s

def execDmaDescriptorRead (n : Fin 16) (desc : List Byte) (s : State) : Host.Outcome State Fault Refusal :=
  .next (s.descRead n.val desc)

/-! ### Bursts (R407, R411-R413) -/

/-- The next access of a side: first byte, bytes and beats. REGISTER moves one word; a burst elsewhere ends at a 256-byte
boundary of its space and counts the 32-byte words it touches. -/
def burstOf (sp addr left : Nat) : Nat × Nat :=
  if sp = spRegister then (min left 4, 1)
  else
    let n := min left (256 - addr % 256)
    (n, (addr % 32 + n + 31) / 32)

/-- Address of byte `i` of one side of a descriptor. -/
def sideAddr (base i : Nat) (fix : Bool) : Nat := if fix then base else base + i

/-- The control cycle a burst is granted in: 256 to a tick. -/
def State.cycleNow (s : State) (cycle : Nat) : Nat := 256 * s.elapsed + cycle % 256

/-- Every data byte of the descriptor in progress has been written. -/
def DmaChan.written (c : DmaChan) : Bool := !c.desc.isEmpty && c.buf.isEmpty && decide (descLen c.desc ≤ c.got)

/-- After the data: the CRC is still to be written; after that, the last word is still to be read back, which has no effect in
REGISTER space (R415). -/
def DmaChan.crcDue (c : DmaChan) : Bool := c.written && descCrcStore c.desc && !c.crcDone
def DmaChan.backDue (c : DmaChan) : Bool :=
  c.written && !c.crcDue && bitAt (descCtrl c.desc) 3 && descDstSpace c.desc != spRegister && !c.backDone

/-- Ready to read: source bytes are left and the bytes of the last read burst have been written (log entry 42), or the read-back is
due. -/
def State.readReady (s : State) (now n : Nat) : Bool :=
  let c := s.dmaChan n
  s.dmaLive n && c.fetch == .none && !c.desc.isEmpty && decide (c.nextRd ≤ now) &&
  ((decide (c.got < descLen c.desc) && c.buf.isEmpty) || c.backDue)

def State.writeReady (s : State) (now n : Nat) : Bool :=
  let c := s.dmaChan n
  s.dmaLive n && c.fetch == .none && (!c.buf.isEmpty || c.crcDue) && decide (c.nextWr ≤ now)

/-- Round-robin in ascending channel number, from the channel after the last one granted. -/
def nextGrant (last : Nat) (ready : Nat → Bool) : Option Nat :=
  ((List.range 16).map (fun i => (last + 1 + i) % 16)).find? ready

/-- The limiter's earliest next burst after `b` beats in cycle `k` (R413). -/
def State.limitAfter (s : State) (n k b : Nat) : Nat := k + ceilDiv (64 * b) (s.fld (F.DMA_CH_CTRL_SHARE n))

/-- One byte of cluster memory written under its byte enable. -/
def State.clmByte (s : State) (a : Nat) (b : Byte) : State :=
  let (w, s) := s.clmRead (a / 4)
  s.clmWrite (a / 4) (putBits w (8 * (a % 4)) 8 b.toNat)

/-- Bytes of cluster memory. -/
def State.clmGet (s : State) (a : Nat) : Nat → List Byte × State
  | 0 => ([], s)
  | n + 1 =>
    let (w, s) := s.clmRead (a / 4)
    let (r, t) := s.clmGet (a + 1) n
    (BitVec.ofNat 8 (bitsAt w (8 * (a % 4)) 8) :: r, t)

/-- A byte of capture memory: what Clematis wrote there; inside a tick record the fields of Table 20-2 that the spec
gives a value; every other content is not stated and reads as a free value (log entry 41). -/
def State.mdByte (s : State) (a : Nat) : Byte × State :=
  match sget (fun _ => none) s.recd.md a with
  | some b => (b, s)
  | none =>
    let free := fun (s : State) => let (v, t) := s.fresh 8; (BitVec.ofNat 8 v, t)
    match s.recd.ticks.find? (fun r => decide (r.off ≤ a) && decide (a < r.off + r.len)) with
    | some r =>
      let i := a - r.off
      let head := leBytes 4 r.tickno ++ leBytes 4 r.len ++ leBytes 2 r.flags
      if i < 10 then (head.getD i 0, s)
      else if (12 ≤ i ∧ i < 16) ∨ (84 ≤ i ∧ i < 128) then (0, s)
      else free s
    | none => free s

/-- CAPTURE contents: the header region reads zero without a maintenance unlock (R551). -/
def State.mdGet (s : State) (a : Nat) : Nat → List Byte × State
  | 0 => ([], s)
  | n + 1 =>
    let (b, s) := if a < 0x3000000 ∧ s.fld F.SEC_STATUS_UNLOCK ≠ 2 then ((0 : Byte), s) else s.mdByte a
    let (r, t) := s.mdGet (a + 1) n
    (b :: r, t)

/-- A CAPTURE write takes effect only under an unlock while the recorder is IDLE or DONE (R551); one in the header region
leaves the verdict on the header open. -/
def State.mdPut (s : State) (a : Nat) (bs : List Byte) : State :=
  if s.fld F.SEC_STATUS_UNLOCK = 2 ∧ (s.fld F.REC_STATUS_STATE = 0 ∨ s.fld F.REC_STATUS_STATE = 3) then
    let m := (bs.zip (List.range bs.length)).foldl (fun m (b, i) => sput (fun _ => none) m (a + i) (some b)) s.recd.md
    let (v, t) := s.fresh 1
    let u := if a < 0x3000000 then t else s
    { u with recd := { u.recd with md := m, headerOk := if a < 0x3000000 then v == 1 else s.recd.headerOk } }
  else s

/-- Bytes read from a space: host memory's come with the row. -/
def State.spaceRead (rd : State → Nat → Nat × State) (s : State) (sp a n : Nat) (host : List Byte) : List Byte × State :=
  if sp = spHost then ((host ++ List.replicate n 0).take n, s)
  else if sp = spCluster then s.clmGet a n
  else if sp = spCapture then s.mdGet a n
  else
    let (w, t) := rd s a
    ((leBytes 4 w).take n, t)

/-- Bytes written to a space. -/
def State.spaceWrite (wr : State → Nat → Nat → State) (s : State) (sp a : Nat) (bs : List Byte) : State :=
  if sp = spHost then s.hostWrite a bs
  else if sp = spCluster then (bs.zip (List.range bs.length)).foldl (fun s (b, i) => s.clmByte (a + i) b) s
  else if sp = spCapture then s.mdPut a bs
  else wr s a (leValue bs)

/-- A read burst of a channel: its bytes enter the running CRC in address order (R414). -/
def State.readBurst (rd : State → Nat → Nat × State) (s : State) (n now : Nat) (host : List Byte) : State :=
  let c := s.dmaChan n
  let a := sideAddr (descSrc c.desc) c.got (descSrcFix c.desc)
  let (len, beats) := burstOf (descSrcSpace c.desc) a (descLen c.desc - c.got)
  let (bs, s) := s.spaceRead rd (descSrcSpace c.desc) a len host
  let crc := (bs.foldl crcByte (BitVec.ofNat 32 c.crc)).toNat
  let s := s.putDmaChan n { c with buf := bs, got := c.got + len, crc := crc, nextRd := s.limitAfter n now beats }
  let s := { s with dma := { s.dma with lastRd := n } }
  s.setFld (F.DMA_CH_ERR_RETRIES n) 0

/-- A write burst of a channel: exactly the destination bytes; DONE_BYTES counts them. -/
def State.writeBurst (wr : State → Nat → Nat → State) (s : State) (n now : Nat) : State :=
  let c := s.dmaChan n
  let done := c.got - c.buf.length
  let a := sideAddr (descDst c.desc) done (descDstFix c.desc)
  let (len, beats) := burstOf (descDstSpace c.desc) a c.buf.length
  let s := s.putDmaChan n { c with buf := c.buf.drop len, nextWr := s.limitAfter n now beats }
  let s := s.setFld (F.DMA_CH_DONE_BYTES_COUNT n) (done + len)
  let s := { s with dma := { s.dma with lastWr := n } }
  let s := s.setFld (F.DMA_CH_ERR_RETRIES n) 0
  s.spaceWrite wr (descDstSpace c.desc) a (c.buf.take len)

/-- The finalised CRC is written at CRC_ADDR (R414). -/
def State.storeCrc (wr : State → Nat → Nat → State) (s : State) (n : Nat) : State :=
  let c := s.dmaChan n
  let v := 2 ^ 32 - 1 - c.crc % 2 ^ 32
  let s := s.putDmaChan n { c with crcDone := true }
  (s.spaceWrite wr (descDstSpace c.desc) (descCrcAddr c.desc) (leBytes 4 v)).setFld (F.DMA_CH_CRC_VALUE n) v

/-- The address of the aligned word that holds the last byte written: the CRC's, where one was stored (R415). -/
def backAddr (d : List Byte) : Nat :=
  if descCrcStore d then descCrcAddr d else sideAddr (descDst d) (descLen d - 1) (descDstFix d) / 4 * 4

/-- That word is read back and discarded. -/
def State.readLast (s : State) (n : Nat) : State :=
  let c := s.dmaChan n
  let s := s.putDmaChan n { c with backDone := true }
  (s.spaceRead (fun s _ => (0, s)) (descDstSpace c.desc) (backAddr c.desc) 4 []).2

/-- Beats of the channel's next access in a direction. -/
def DmaChan.beats (c : DmaChan) (write : Bool) : Nat :=
  if write then
    if c.crcDue then 1
    else (burstOf (descDstSpace c.desc) (sideAddr (descDst c.desc) (c.got - c.buf.length) (descDstFix c.desc)) c.buf.length).2
  else if c.backDue then 1
  else (burstOf (descSrcSpace c.desc) (sideAddr (descSrc c.desc) c.got (descSrcFix c.desc)) (descLen c.desc - c.got)).2

/-- A channel's access in the write direction: its next data burst, or the CRC after the last one. -/
def State.writeAccess (wr : State → Nat → Nat → State) (s : State) (n now : Nat) : State :=
  let c := s.dmaChan n
  if c.crcDue then
    let s := s.putDmaChan n { c with nextWr := s.limitAfter n now 1 }
    let s := { s with dma := { s.dma with lastWr := n } }
    (s.setFld (F.DMA_CH_ERR_RETRIES n) 0).storeCrc wr n
  else s.writeBurst wr n now

/-- A channel's access in the read direction: its next data burst, or the read-back after the last write. -/
def State.readAccess (rd : State → Nat → Nat × State) (s : State) (n now : Nat) (host : List Byte) : State :=
  let c := s.dmaChan n
  if c.backDue then
    let s := s.putDmaChan n { c with nextRd := s.limitAfter n now 1 }
    let s := { s with dma := { s.dma with lastRd := n } }
    (s.setFld (F.DMA_CH_ERR_RETRIES n) 0).readLast n
  else s.readBurst rd n now host

/-- One burst granted in a direction of the bus, which must be free: each beat holds it for a cycle (R407). -/
def State.grantBurst (rd : State → Nat → Nat × State) (wr : State → Nat → Nat → State) (s : State) (write : Bool)
    (cycle : Nat) (host : List Byte) : State :=
  let now := s.cycleNow cycle
  if write then
    if now < s.dma.freeWr then s
    else match nextGrant s.dma.lastWr (s.writeReady now) with
    | some n => ({ s with dma := { s.dma with freeWr := now + (s.dmaChan n).beats true } }).writeAccess wr n now
    | none => s
  else if now < s.dma.freeRd then s
  else
    match nextGrant s.dma.lastRd (s.readReady now) with
    | some n => ({ s with dma := { s.dma with freeRd := now + (s.dmaChan n).beats false } }).readAccess rd n now host
    | none => s

/-- A descriptor whose bytes are all written completes (R414-R416): the CRC and the read-back, where the bus has not carried them
yet, the counts, DONEn, and what EOC and REREAD say. -/
def State.descComplete (wr : State → Nat → Nat → State) (s : State) (n : Nat) : State :=
  let c := s.dmaChan n
  if !s.dmaLive n || c.fetch != .none || !c.written then s
  else
    let s := if c.crcDue then s.storeCrc wr n else s
    let s := if (s.dmaChan n).backDue then s.readLast n else s
    let s := (s.addFld (F.DMA_CH_DESC_COUNT_COUNT n) 1).setFld (F.DMA_CH_LAST_TAG_TAG n) (descTag c.desc)
    let s := s.setFld (F.DMA_CH_ERR_RETRIES n) 0
    let s := if descIrq c.desc then
        s.setIrq F.DMA_IRQ_STAT_DONE (putBits (s.fld F.DMA_IRQ_STAT_DONE) n 1 1) else s
    if s.flag (F.DMA_CH_STATUS_REREAD n) then s.reread n
    else if descEoc c.desc then s.dmaEnd n
    else s.dmaContinue n

/-! ### Timeouts and errors (R419) -/

/-- Whole ticks within `k` times DMA_TIMEOUT, at 3.84 ticks to the µs. -/
def State.backOffTicks (s : State) (k : Nat) : Nat := k * s.fld F.DMA_TIMEOUT_US * 384 / 100

/-- A tick's length of back-off passes in every channel in RETRY that is not paused (R419, R422). -/
def State.backOffTick (s : State) : State :=
  (List.range 16).foldl (fun s n =>
    if s.dmaSt n = .retry ∧ s.flag (F.DMA_CH_STATUS_PAUSED n) = false ∧ s.domain 1 ≠ 0 then
      s.putDmaChan n { s.dmaChan n with backOff := (s.dmaChan n).backOff - 1 }
    else s) s

/-- An access of a channel receives no completion: back-off, of one DMA_TIMEOUT and then of two, or BUS_TIMEOUT at the third time. -/
def State.busTimeout (s : State) (n : Nat) : State :=
  let c := s.dmaChan n
  if s.dmaLive n || (s.dmaSt n = .ended && c.fetch == .ctrl) then
    let s := s.addFld (F.DMA_CH_TIMEOUTS_COUNT n) 1
    let s := s.raiseFree 0xC001 (srcDma n) sevWarning
    let r := s.fld (F.DMA_CH_ERR_RETRIES n)
    if r < 2 then (s.putDmaChan n { s.dmaChan n with backOff := s.backOffTicks (r + 1) }).setDmaSt n .retry
    else s.dmaError n 4
  else s

def execDmaBusTimeout (n : Fin 16) (s : State) : Host.Outcome State Fault Refusal := .next (s.busTimeout n.val)

/-- The back-off has elapsed: the access is reissued, and RETRIES counts it. -/
def execDmaRetry (n : Fin 16) (s : State) : Host.Outcome State Fault Refusal :=
  if s.dmaSt n.val = .retry ∧ s.flag (F.DMA_CH_STATUS_PAUSED n.val) = false ∧ (s.dmaChan n.val).backOff = 0 then
    .next ((s.addFld (F.DMA_CH_ERR_RETRIES n.val) 1).setDmaSt n.val .run)
  else .next s

/-- A completion with Unsupported Request or Completer Abort: BUS_ERROR at once. -/
def execDmaBusError (n : Fin 16) (s : State) : Host.Outcome State Fault Refusal :=
  if s.dmaLive n.val || (s.dmaSt n.val = .ended && (s.dmaChan n.val).fetch == .ctrl) then .next (s.dmaError n.val 7)
  else .next s

/-! ### DMA_SUBMIT (R423) -/

def chkDmaSubmit (_ : State) (c : Cmd) : Option Status :=
  let p := c.payload
  if leAt p 0 1 < 16 ∧ leAt p 1 1 < 4 ∧ 1 ≤ leAt p 2 1 ∧ leAt p 2 1 ≤ 64 ∧ leAt p 3 1 = 0 ∧ leAt p 4 6 % 32 = 0 ∧
      leAt p 10 2 = 0 ∧ leAt p 12 4 < 2 ^ 24 then none
  else some .badParam

def ctxDmaSubmit (s : State) (c : Cmd) : Option Status :=
  let n := leAt c.payload 0 1 % 16
  let st := s.dmaSt n
  if s.dmaHeld n ∨ st = .run ∨ st = .retry ∨ (st = .error ∧ bitAt (leAt c.payload 1 1) 1 = false) ∨
      s.fld F.PWR_STATUS_STATE = 3 then some .notPermitted
  else none

def execDmaSubmit (tag : Nat) (s : State) : Host.Outcome State Fault Refusal :=
  .next (s.performStart 0x0E00 tag anyOp (fun c s =>
    match ctxDmaSubmit s c with
    | some st => s.finishNow c.tag st []
    | none =>
      let n := leAt c.payload 0 1 % 16
      let a := leAt c.payload 4 6
      let s := if s.dmaSt n = .error then s.dmaReset n else s
      let fresh := decide (s.dmaSt n = .idle)
      let s := s.setFld (F.DMA_CH_CTRL_SHARE n) (leAt c.payload 2 1)
      let s := s.setFld (F.DMA_CH_MAXCHAIN_MAX n) (leAt c.payload 12 4)
      let s := (s.setFld (F.DMA_CH_HEAD_LO_ADDR n) (a / 32)).setFld (F.DMA_CH_HEAD_HI_ADDR n) (a / 2 ^ 32)
      let s := s.dmaStart n fresh
      if bitAt (leAt c.payload 1 1) 0 then { s with dma := { s.dma with waits := s.dma.waits ++ [(n, c.tag, s.elapsed)] } }
      else s.finishNow c.tag .ok []))

/-- 1 s has passed without END or ERROR: TIMEOUT, and the channel continues (R423). -/
def execDmaSubmitWaitTimeout (tag : Nat) (s : State) : Host.Outcome State Fault Refusal :=
  match s.dma.waits.find? (fun w => w.2.1 == tag) with
  | some w =>
    .next (if w.2.2 + 3840000 ≤ s.elapsed then
      { s with dma := { s.dma with waits := s.dma.waits.filter (fun x => x.2.1 != tag) } }.finishNow tag .timeout
        (s.dmaReply w.1)
    else s)
  | none => .next s

end Sys2Proof.Machine
end

