-- ==== Sys2Proof/Machine/Recorder.lean ====
section
/-!
DEFINITION. Sys2Proof/Machine/Recorder.lean: Forget-me-not (R547-R565): the recorder's states, tick records, the snapshot,
and its commands. The replay of a tick stands in Tick.lean.
-/
namespace Sys2Proof.Machine

/-- States of the recorder, in the code of REC_STATUS.STATE. -/
inductive RecSt where
  | idle | armed | recording | done | replaying | postReplay | retired
deriving DecidableEq, Repr

def RecSt.code : RecSt → Nat
  | .idle => 0 | .armed => 1 | .recording => 2 | .done => 3 | .replaying => 4 | .postReplay => 5 | .retired => 6

def RecSt.ofCode : Nat → RecSt
  | 0 => .idle | 1 => .armed | 2 => .recording | 3 => .done | 4 => .replaying | 5 => .postReplay | _ => .retired

def State.recSt (s : State) : RecSt := .ofCode (s.fld F.REC_STATUS_STATE)

def State.setRecSt (s : State) (x : RecSt) : State := s.setFld F.REC_STATUS_STATE x.code

/-- The recorder's source: a block of the core die that Table 02-2 does not number. -/
def State.recEvent (s : State) (code value sev : Nat) : State := s.raise code value srcOther sev

/-! ### What is recorded -/

/-- Bytes per tick of the enabled receive streams: type 0 of Table 20-1 without qualifiers. -/
def State.streamBytes (s : State) (ps : List Nat) : Nat :=
  ps.foldl (fun a p => (List.range 4).foldl (fun a k =>
    if s.rxEn p k then a + 4 * rateS (s.fld (F.RXP_STR_CFG_RATE p k)) else a) a) 0

def State.txStreamBytes (s : State) (ps : List Nat) : Nat :=
  ps.foldl (fun a p => (List.range 4).foldl (fun a k =>
    if s.txEn p k then a + 4 * rateS (s.fld (F.TXP_STR_CFG_RATE p k)) else a) a) 0

/-- Payload of a tap (R553). -/
def State.tapPayload (s : State) (tap u : Nat) : Nat :=
  if tap = 0 then 0
  else if tap = 2 then s.streamBytes (quadPaths u)
  else if tap = 7 then s.txStreamBytes (quadPaths u)
  else Config.tapBytes tap u (s.streamBytes (quadPaths u))

/-- An item with its 8-byte header, padded to 32 bytes (R550). -/
def itemSize (n : Nat) : Nat := 32 * ceilDiv (8 + n) 32

def RecItem.bytes : RecItem → Nat
  | .capture _ bs => Config.itemBytes 1 bs.length
  | .frame _ f => Config.itemBytes 2 f.length
  | .finef k _ => Config.itemBytes 3 k
  | .write _ _ => Config.itemBytes 4 0
  | .arm k => Config.itemBytes 4 k.changes.length
  | .cancel l => Config.itemBytes 4 l.length
  | .time k => Config.itemBytes 5 k

/-- Sets a flag of the open tick's record: 0 TSYNC, 1 overrun, 2 commit applied, 3 qualifiers present, 4 INCOMPLETE. -/
def State.recFlag (s : State) (b : Nat) : State :=
  { s with recd := { s.recd with tickFlags := putBits s.recd.tickFlags b 1 1 } }

/-- Length of the open tick's record: header, a type-0 item per die with enabled streams (qualifiers, 2 bits a sample, where
some sample is not VALID), generator states in the first tick and at frame boundaries, the other items, and the tap. -/
def State.recordLen (s : State) (quals : Bool) : Nat :=
  let dies := (List.range 4).foldl (fun a d =>
    let n := s.streamBytes (diePaths d)
    if n = 0 then a else a + itemSize (if quals then n + n / 16 else n)) 0
  let gen := if s.recd.ticks.isEmpty ∨ s.frameTick = 0 then itemSize (Config.itemBytes 6 0) else 0
  let its := s.recd.items.foldl (fun a i => a + itemSize i.bytes) 0
  let tap := match s.recd.arm with
    | some x => if x.tap = 0 then 0 else itemSize (s.tapPayload x.tap x.tapUnit)
    | none => 0
  128 + dies + gen + its + tap

/-- Registers inside the core boundary, or of the converter dies' digital stages: those of the datapath but for ports and
lanes (R547, R548, R551). -/
def inCore (a : Nat) : Bool := inRange 0x100000 0x2FFFFF a || inRange 0x320000 0x50FFFF a

/-- The snapshot of the boundary that opens the first recorded tick (R551). -/
def State.takeSnapshot (s : State) : Snapshot :=
  { regs := sclear (fun a => !inCore a) s.regs, shadow := sclear (fun a => !inCore a) s.shadow, armed := s.armed, rx := s.rx, tx := s.tx, bf := s.bf,
    dpd := s.dpd, pra := s.pra, fh := s.fh, cas := s.cas, eng := s.eng }

/-! ### The digests of Table 20-2 -/

/-- The codes of events raised inside the core boundary, by the blocks' hardware (log entry 168). -/
def insideCodes : List Nat :=
  [0x1005, 0x3002, 0x5001, 0x5002, 0x5003, 0x5004, 0x5005, 0x5006, 0x5007, 0x5008, 0x5009, 0x7001, 0x7002, 0x7003, 0x8001,
   0x8002, 0x8003, 0x8004, 0x8005, 0xA006, 0xA008, 0xB001, 0xB002, 0xB003, 0xB006]

/-- What the tick that closes has produced at the points of Table 20-2; `old`: the state its blocks began their work in. -/
def State.points (s old : State) : RecPoints :=
  { br := s.tx.onLinks
    fh := (s.fh.egress.drop old.fh.egress.length).map (·.2)
    cp := (s.outbox.drop old.outbox.length).filterMap (fun o => match o with
      | .finef k f => some (k, f)
      | .spi _ | .inband _ _ | .readData _ _ | .frame _ _ | .uplane _ _ _ | .ptp _ _ _ _ | .msix _ _ _ | .module _ _ => none)
    dac := s.tx.dac
    ev := (s.fault.raised.filter (fun e => insideCodes.contains e.code)).map (fun e => (e.code, e.source, e.value, e.tick))
    eng := s.recd.pubs
    pra := s.pra.ring.filter (fun r => !old.pra.ring.contains r)
    qrec := s.fh.quality
    raw := s.rx.aligned.filter (fun e => s.recd.rawPaths.contains (e.1 / 4)) }

/-- The digests that differ, as REC_RPL_WORD numbers them; bit 16: D_QREC or, in FULL mode, a per-path stream (R558). -/
def RecPoints.differ (a b : RecPoints) (full : Bool) : Nat :=
  let die := fun (k : Nat) (x : RecPoints) => x.br.filter (fun e => e.1 / 64 == k)
  let port := fun (k : Nat) (x : RecPoints) => x.fh.filter (fun m => m.port == k)
  let cas := fun (k : Nat) (x : RecPoints) => x.cp.filter (fun f => f.1 == k)
  let bits := (List.range 4).map (fun k => die k a != die k b) ++ (List.range 4).map (fun k => port k a != port k b) ++
    (List.range 4).map (fun k => cas k a != cas k b) ++
    [full && a.dac != b.dac, a.ev != b.ev, a.eng != b.eng, a.pra != b.pra, a.qrec != b.qrec || (full && a.raw != b.raw)]
  ((bits.zip (List.range bits.length)).filter (·.1)).foldl (fun m e => m + 2 ^ e.2) 0

/-! ### Transitions (Table 20-4) -/

/-- Recording starts on the boundary that has just opened a tick. -/
def State.recStart (s : State) : State :=
  match s.recd.arm with
  | some x =>
    let s := s.setRecSt .recording
    let s := (s.setFld F.REC_FIRST_TICK_TICK s.tickno).setFld F.REC_TICKS_COUNT 0
    let s := (s.setFld F.REC_BYTES_COUNT 0).setFld F.REC_RAW_TICKS 0
    let snap := s.takeSnapshot
    let raw := if x.raw then x.rawPaths else []
    let n := if x.raw then x.rawTicks else 0
    let s := { s with recd := { s.recd with
      startIn := none, items := [], tickFlags := 0, wptr := 0x3000000, ticks := [], snap := some snap
      rawPaths := raw, rawLeft := n, headerOk := true, md := [], buffered := 0, full := false } }
    s.recEvent 0xE001 s.tickno sevInfo
  | none => s

/-- A stop: every complete tick record is kept. -/
def State.recStop (s : State) (reason : Nat) (x : RecSt) : State :=
  let s := (s.setRecSt x).setFld F.REC_STATUS_REASON reason
  let s := { s with recd := { s.recd with startIn := none, items := [], rawLeft := 0 } }
  s.recEvent 0xE002 reason sevInfo

/-- What bm takes from the buffer of tick records in a tick, and what the buffer holds [bytes] (R552). -/
def bmShare : Nat := 33333
def recBuffer : Nat := 4194304

/-- Writes the record of the tick that closes; `quals`: some sample is not VALID. -/
def State.recordTick (s : State) (ins : TickIn) (quals : Bool) (points : RecPoints) : State :=
  let s := if quals then s.recFlag 3 else s
  let n := s.recordLen quals
  let r : RecTick := ⟨s.recd.wptr, n, s.tickno, s.fld F.TCK_FRAME_SFN, s.frameTick, s.recd.tickFlags, ins, s.recd.items, points⟩
  let s := (s.addFld F.REC_TICKS_COUNT 1).addFld F.REC_BYTES_COUNT n
  { s with recd := { s.recd with
    ticks := r :: s.recd.ticks, wptr := s.recd.wptr + n, items := [], tickFlags := 0
    buffered := s.recd.buffered + n - bmShare } }

/-- The raw capture of the tick that closes. -/
def State.rawTickEnd (s : State) : State :=
  if s.recd.rawLeft = 0 then s
  else { s.addFld F.REC_RAW_TICKS 1 with recd := { s.recd with rawLeft := s.recd.rawLeft - 1 } }

/-- The duration asked for has been recorded. -/
def State.recDone (s : State) : Bool :=
  match s.recd.arm with
  | some x => x.duration != 0 && decide (x.duration ≤ s.fld F.REC_TICKS_COUNT)
  | none => false

/-- The tick that closes, while RECORDING: nothing past the duration asked for, past the end of md, or beyond the buffer. -/
def State.recTick (s : State) (ins : TickIn) (quals : Bool) (points : RecPoints) : State :=
  if s.recSt = .recording then
    if s.recDone ∨ s.recd.full ∨ recBuffer < s.recd.buffered then s
    else if s.recd.wptr + s.recordLen quals ≤ 0x80000000 then (s.recordTick ins quals points).rawTickEnd
    else { s with recd := { s.recd with full := true } }
  else s

/-- The limit of a reason has been reached: the duration, md, or the 4 MiB buffer (reasons 2, 3, 4). -/
def State.limitReached (s : State) (reason : Nat) : Bool :=
  if reason = 0 then s.recDone else if reason = 1 then s.recd.full else decide (recBuffer < s.recd.buffered)

/-- RECORDING_LIMIT_REACHED: a recording that has reached the limit stops (Table 20-4). -/
def execRecordingLimitReached (reason : Fin 3) (s : State) : Host.Outcome State Fault Refusal :=
  .next (if s.recSt = .recording ∧ s.limitReached reason.val then s.recStop (2 + reason.val) .done else s)

/-- QUIET entered or Crocus HELD while RECORDING (reasons 5 and 6): the current tick is marked INCOMPLETE. -/
def State.recAbort (s : State) (reason : Nat) : State :=
  if s.recSt = .recording then
    let s := (s.recFlag 4).recordTick TickIn.quiet false RecPoints.none
    s.recStop reason .done
  else s

/-- A replay ends: POST_REPLAY, REPLAY_DONE, and its command's result (R558, R563). -/
def State.replayEnd (s : State) : State :=
  match s.recd.replay with
  | some r =>
    let m := s.fld F.REC_RPL_MISMATCH_COUNT
    let pl := leBytes 4 r.index ++ leBytes 4 r.compared ++ leBytes 4 m ++ leBytes 4 (s.fld F.REC_RPL_FIRST_INDEX)
    let s := s.setRecSt .postReplay
    let s := { s with recd := { s.recd with replay := none } }
    (s.recEvent 0xE003 m sevInfo).finishNow r.tag .ok pl
  | none => s

/-- md is lost: the recording is gone; RETIRED where md is retired. A replay's command ends with NOT_PERMITTED, since R555
no longer holds. -/
def State.recLost (s : State) (retired : Bool) : State :=
  if s.recSt = .retired then s
  else
    let s := match s.recd.replay with
      | some r => { s.finishNow r.tag .notPermitted [] with recd := { s.recd with replay := none } }
      | none => s
    let s := { s with recd := { s.recd with ticks := [], snap := none, md := [], headerOk := false, wptr := 0x3000000 } }
    let s := s.setFld F.REC_STATUS_SNAP_DONE 0
    s.recStop 7 (if retired then .retired else .idle)

/-- The snapshot is complete. -/
def execSnapshotDone (s : State) : Host.Outcome State Fault Refusal :=
  if (s.recSt = .recording ∨ s.recSt = .done) ∧ s.recd.snap.isSome then .next (s.setFld F.REC_STATUS_SNAP_DONE 1) else .next s

/-- The boundary that opens a tick: a stop that was asked for, and a start whose boundary this is. -/
def State.recBoundary (s : State) : State :=
  let s := match s.recd.stopNext with
    | some tag =>
      let s := { s with recd := { s.recd with stopNext := none } }
      let s := match s.recSt with
        | .armed => s.recStop 1 .idle
        | .recording => s.recStop 1 .done
        | .replaying => s.replayEnd
        | _ => s
      let pl := leBytes 4 (s.fld F.REC_FIRST_TICK_TICK) ++ leBytes 4 (s.fld F.REC_TICKS_COUNT) ++
        leBytes 4 (s.fld F.REC_BYTES_COUNT) ++ leBytes 1 (s.fld F.REC_STATUS_REASON) ++ leBytes 3 0
      s.finishNow tag .ok pl
    | none => s
  match s.recd.startIn with
  | some n =>
    if n ≤ 1 then s.recStart else { s with recd := { s.recd with startIn := some (n - 1) } }
  | none => s

/-- An event passes the arbiter: the trigger of an event recording, tagged in tick `t` (R554). -/
def State.recEventTrigger (s : State) (code t : Nat) : State :=
  match s.recd.arm with
  | some x =>
    if x.trigger = 1 ∧ x.code = code ∧ s.recSt = .armed ∧ s.recd.startIn = none then
      let n := if tickAfter (tickAdd t 2) s.tickno then tickSub (tickAdd t 2) s.tickno else 1
      { s with recd := { s.recd with startIn := some n } }
    else s
  | none => s

/-! ### Commands (R561-R564) -/

def armPaths (c : Cmd) : List Nat :=
  ((List.range 8).map (fun i => leAt c.payload (4 + i) 1)).filter (fun p => p != 0xFF)

/-- Units a tap may name (Table 20-3): a quad, a carrier, or a direction. -/
def tapUnits (tap : Nat) : Nat :=
  if tap = 1 ∨ tap = 2 ∨ tap = 7 then 16 else if tap = 5 then 2 else 4

def chkRecArm (s : State) (c : Cmd) : Option Status :=
  let p := c.payload
  let ps := armPaths c
  let rt := leAt p 12 2
  if 2 ≤ leAt p 0 1 ∨ 3 ≤ leAt p 1 1 ∨ ps.any (fun q => decide (64 ≤ q)) ∨ ps.eraseDups.length ≠ ps.length ∨
      (List.range 4).any (fun d => decide (2 < (ps.filter (fun q => q / 16 == d)).length)) ∨
      (leAt p 0 1 = 1 ∧ (rt = 0 ∨ 3840 < rt)) ∨ 8 ≤ leAt p 14 1 ∨
      (leAt p 14 1 ≠ 0 ∧ tapUnits (leAt p 14 1) ≤ leAt p 15 1) then some .badParam
  else if s.isRetired srcMd then some .resourceRetired
  else none

def ctxRecArm (s : State) : Option Status :=
  match s.recSt with
  | .armed | .recording | .replaying | .postReplay => some .notPermitted
  | _ => none

/-- R552: the type-0 and type-7 payload of the configuration is at most 24,576 bytes per tick. -/
def limitRecArm (s : State) (c : Cmd) : Bool :=
  decide (s.streamBytes (List.range 64) + s.tapPayload (leAt c.payload 14 1) (leAt c.payload 15 1) ≤ 24576)

def execRecArm (tag : Nat) (s : State) : Host.Outcome State Fault Refusal :=
  .next (s.performStart 0x0C00 tag anyOp (fun c s =>
    match ctxRecArm s with
    | some st => s.finishNow c.tag st []
    | none =>
      let p := c.payload
      let a : RecArm := ⟨leAt p 0 1 == 1, leAt p 1 1, leAt p 2 2, armPaths c, leAt p 12 2, leAt p 14 1, leAt p 15 1, leAt p 16 4⟩
      let s := (s.setRecSt .armed).setFld F.REC_STATUS_SNAP_DONE 0
      let start := if a.trigger = 0 then some 1 else none
      let s := { s with recd := { s.recd with
        arm := some a, startIn := start, ticks := [], snap := none, headerOk := false, wptr := 0x3000000 } }
      s.finishNow c.tag .ok []))

def ctxRecStop (s : State) : Option Status :=
  match s.recSt with
  | .armed | .recording | .replaying => none
  | _ => some .notPermitted

/-- REC_STOP: the stop falls on the next boundary, and its reply tells what was recorded. -/
def execRecStop (tag : Nat) (s : State) : Host.Outcome State Fault Refusal :=
  .next (s.performStart 0x0C01 tag anyOp (fun c s =>
    match ctxRecStop s with
    | some st => s.finishNow c.tag st []
    | none => { s with recd := { s.recd with stopNext := some c.tag } }))

def chkReplayStart (s : State) (c : Cmd) : Option Status :=
  let p := c.payload
  if 2 ≤ leAt p 0 1 ∨ 2 ≤ leAt p 1 1 ∨ leAt p 2 2 < 64 ∨ 4096 < leAt p 2 2 ∨ !s.recd.headerOk ∨
      (leAt p 0 1 = 1 ∧ s.fld F.REC_RAW_TICKS = 0) then some .badParam
  else none

/-- R555 beside the unlock and the header. -/
def ctxReplayStart (s : State) : Option Status :=
  if s.recSt = .done ∧ s.flag F.REC_STATUS_SNAP_DONE ∧ s.fld F.PWR_STATUS_STATE ≤ 1 ∧ s.casRole = 0 then none
  else some .notPermitted

/-- Every pipeline flushed (R551, R556): filter, FFT and cascade histories, and what waits between stages. -/
def State.flushPipes (s : State) : State :=
  let rx := { s.rx with streams := [], flush := List.range 16, aligned := [] }
  let tx := { s.tx with hist := [], onLinks := [], links := [], air := [], lastAir := [], dac := [] }
  let bf := { s.bf with bufs := [], ulFft := [], ulComb := [], held := [], dlFft := [], txQueue := [] }
  { s with rx := rx, tx := tx, bf := bf }

/-- Loads the snapshot (R556, stage 2). -/
def State.loadSnapshot (s : State) (x : Snapshot) : State :=
  let s := s.discardAll
  let regs := x.regs.foldl (fun m e => sput resetWord m e.1 e.2) (sclear inCore s.regs)
  let shadow := x.shadow.foldl (fun m e => sput (sget resetWord regs) m e.1 e.2) (sclear inCore s.shadow)
  let armed := x.armed.map (fun (k : Commit) => { k with results := [], late := [] })
  { s with
    regs := regs, shadow := shadow, armed := armed, rx := x.rx, tx := x.tx, bf := x.bf, dpd := x.dpd, pra := x.pra
    fh := x.fh, cas := x.cas, eng := x.eng }.flushPipes

/-- REPLAY_START: off air, the snapshot loaded, and the recorded ticks from the next live tick on. -/
def execReplayStart (tag : Nat) (s : State) : Host.Outcome State Fault Refusal :=
  .next (s.performStart 0x0C02 tag anyOp (fun c s =>
    match ctxReplayStart s, s.recd.snap with
    | none, some x =>
      let p := c.payload
      let full := leAt p 0 1 == 1
      let all := s.recd.ticks.reverse
      let n := if leAt p 4 4 = 0 then all.length else min (leAt p 4 4) all.length
      let n := if full then min n (s.fld F.REC_RAW_TICKS) else n
      let run : ReplayRun := ⟨c.tag, full, bitAt (leAt p 1 1) 0, leAt p 2 2, 0, 0, all.take n⟩
      let s := (s.loadSnapshot x).setRecSt .replaying
      let s := (s.setFld F.REC_RPL_TICK_INDEX 0).setFld F.REC_RPL_MISMATCH_COUNT 0
      let s := (s.setFld F.REC_RPL_FIRST_INDEX (2 ^ 32 - 1)).setFld F.REC_RPL_WORD_MASK 0
      { s with recd := { s.recd with replay := some run } }
    | _, _ => s.finishNow c.tag .notPermitted []))

/-- REPLAY_DONE: the last recorded tick has been replayed, or a mismatch stops the replay. -/
def execReplayDone (s : State) : Host.Outcome State Fault Refusal :=
  match s.recd.replay with
  | some r =>
    if r.left.isEmpty ∨ (r.stopOn ∧ s.fld F.REC_RPL_MISMATCH_COUNT ≠ 0) then .next s.replayEnd else .next s
  | none => .next s

/-- A replayed tick is compared from recorded tick WARM on (R556, R558), but for one marked INCOMPLETE (R559). -/
def State.compareTick (s : State) (points : RecPoints) : State :=
  match s.recd.replay with
  | some r =>
    let digest := match r.left.head? with
      | some t => if bitAt t.flags 4 then 0 else t.points.differ points r.full
      | none => 0
    let cmp := decide (r.warm ≤ r.index)
    let s := if cmp ∧ digest ≠ 0 then
        let first := s.fld F.REC_RPL_FIRST_INDEX == 2 ^ 32 - 1
        let s := s.addFld F.REC_RPL_MISMATCH_COUNT 1
        let s := if first then
            (s.setFld F.REC_RPL_FIRST_INDEX r.index).setFld F.REC_RPL_WORD_MASK (digest % 2 ^ 16)
          else s
        s.recEvent 0xE004 r.index sevWarning
      else s
    let s := s.setFld F.REC_RPL_TICK_INDEX (r.index + 1)
    { s with recd := { s.recd with replay := some { r with
      index := r.index + 1, compared := if cmp then r.compared + 1 else r.compared, left := r.left.drop 1 } } }
  | none => s

end Sys2Proof.Machine
end

