-- ==== Sys2Proof/Machine/Faults.lean ====
section
/-!
DEFINITION. Sys2Proof/Machine/Faults.lean: units and retirement (R523-R526), REPLACE and SERVICE_N (R527, R528), the event
arbiter's grants (R53-R55), Lavender's records and notify queue (R531-R537), and its commands and windows (R542-R545).
-/
namespace Sys2Proof.Machine

/-! ### Units (Table 19-1) -/

def srcType (src : Nat) : Nat := src / 256 % 16
def srcIx (src : Nat) : Nat := src % 256

/-- Sources of a control pair, a power domain and a sensor. -/
def srcPair (x : Nat) : Nat := srcCode 10 x
def srcDomain (d : Nat) : Nat := srcCode 15 d
def srcSensor (i : Nat) : Nat := srcCode 13 i

/-- How many units of a type there are (Table 19-1). -/
def unitCount (ty : Nat) : Nat := [64, 64, 16, 8, 16, 8, 4, 4, 4, 1, 2, 8, 16, 36, 18, 13].getD ty 0

/-- The units inside a quad or a converter die (Table 01-2). -/
def unitsInside (src : Nat) : List Nat :=
  let i := srcIx src
  if srcType src = 2 then (quadPaths i).map srcRx ++ (quadPaths i).map srcTx
  else if srcType src = 8 then
    (diePaths i).map srcRx ++ (diePaths i).map srcTx ++ (List.range 4).map (fun n => srcQuad (4 * i + n)) ++
    [srcOx (2 * i), srcOx (2 * i + 1)]
  else []

/-- The units that contain a path, quad or observation receiver. -/
def unitsAround (src : Nat) : List Nat :=
  let i := srcIx src
  if srcType src ≤ 1 then [srcQuad (i / 4), srcDie (i / 16)]
  else if srcType src = 2 then [srcDie (i / 4)]
  else if srcType src = 3 then [srcDie (i / 2)]
  else []

/-- Calibration attempts of a unit (Table 18-4), as item and unit. -/
def calUnits (src : Nat) : List (Nat × Nat) :=
  let i := srcIx src
  if srcType src = 0 then [(1, i), (2, i)]
  else if srcType src = 1 then [(3, i), (4, i)]
  else if srcType src = 3 then [(5, i)]
  else if srcType src = 8 then [(0, i)]
  else []

/-- Attempts of a retired unit are RETIRED, and a CAL_RUN that waits for one counts the unit as retired (Table 18-5). -/
def State.calRetire (s : State) (src : Nat) : State :=
  let us := calUnits src
  let mine := fun (key : Nat) => us.contains (key / 4096, key / 64 % 64)
  let es := s.cal.entries.map (fun e => if mine e.1 then (e.1, { e.2 with phase := CalPhase.retired, runs := [] }) else e)
  let cs := s.cal.commands.map (fun c =>
    let hit := c.keys.filter mine
    { c with keys := c.keys.filter (fun k => !mine k),
             retired := hit.foldl (fun m k => putBits m (k / 64 % 64) 1 1) c.retired })
  { s with cal := { s.cal with entries := es, commands := cs } }

def State.markRetired (s : State) (src : Nat) : State :=
  { s with fault := { s.fault with retired := insertNat s.fault.retired src } }

/-- The effects of retiring one unit, apart from the units inside it (Table 19-1). -/
def State.retireOne (s : State) (src : Nat) : State :=
  if s.isRetired src then s
  else
    let i := srcIx src
    let s := match srcType src with
      | 0 => s.retireRx i
      | 1 => (s.retireTx i).refreshQueue
      | 2 => s.setQuad i .retired
      | 3 => s.retireOx i
      | 4 => s.retireEngine i
      | 5 => s.retireLane i
      | 6 => s.retirePort i
      | 7 => s.retireCas i
      | 9 => s.recLost true
      | _ => s
    (s.markRetired src).calRetire src

/-- Retires a unit with everything inside it: UNIT_RETIRED for the unit with its cause, and cause 2 for every other unit
that went with it (R525). -/
def State.retireUnit (s : State) (src cause det : Nat) : State :=
  let old := s.fault.retired
  if old.contains src then s
  else
    let s := s.retireOne src
    let s := ((unitsInside src).foldl State.retireOne s).refreshExcl
    let news := s.fault.retired.filter (fun u => !old.contains u && u != src)
    let s := s.raise 0xF003 (cause * 2 ^ 24 + (if cause = 1 then 0xFF else det) * 2 ^ 16 + src) src sevError
    news.foldl (fun s u => s.raise 0xF003 (2 * 2 ^ 24 + det * 2 ^ 16 + u) u sevError) s

/-! ### REPLACE (R527, R528) -/

/-- Units of a type in service. -/
def State.inService (s : State) (ty : Nat) : Nat :=
  ((List.range (unitCount ty)).filter (fun i => !s.isRetired (srcCode ty i))).length

/-- The conditions of EVR_REPLACE_CAUSE, bit by bit. -/
def State.replaceCauses (s : State) : List Bool :=
  [s.fault.retired.any (fun u => decide (srcType u ≤ 9)),
   s.eng.booted && decide (s.fld F.LE_SPARES_COUNT < 4),
   decide (2 ≤ s.fld F.MBX_STATUS_MODE),
   decide (s.inService 0 < s.fld F.EVR_FLOOR_RX),
   decide (s.inService 1 < s.fld F.EVR_FLOOR_TX),
   decide (s.inService 3 < s.fld F.EVR_FLOOR_OX),
   decide (s.inService 5 < s.fld F.EVR_FLOOR_LANE),
   s.fault.roleLost,
   s.fault.retired.any (fun u => srcType u == 10),
   s.fault.coreFault,
   s.flag F.PWR_STATUS_FAILED,
   s.flag F.CAL_STATUS_XRES_FAULT]

def causeMask (l : List Bool) : Nat :=
  match l with
  | [] => 0
  | b :: r => b2n b + 2 * causeMask r

/-- SERVICE_N is driven low (R528). -/
def State.serviceLow (s : State) : Bool :=
  (s.fld F.EVR_STATUS_REPLACE == 2 && s.flag F.EVR_CTRL_SVC_EN) || s.fault.lost || s.sec.recovery || s.fault.ctlWakeFail

def State.refreshService (s : State) : State := s.setFld F.EVR_STATUS_SERVICE (b2n s.serviceLow)

def State.setEvrIrq (s : State) (b : Nat) : State := s.setIrq F.EVR_IRQ_STAT_IRQ (putBits (s.fld F.EVR_IRQ_STAT_IRQ) b 1 1)

/-- REPLACE and its causes are recomputed; a change is reported (R527). -/
def State.refreshReplace (s : State) : State :=
  let m := causeMask s.replaceCauses
  let level := if bitsAt m 3 8 ≠ 0 then 2 else if m ≠ 0 then 1 else 0
  let s := s.setFld F.EVR_REPLACE_CAUSE_CAUSE m
  let s := if level = s.fld F.EVR_STATUS_REPLACE then s
    else ((s.setFld F.EVR_STATUS_REPLACE level).setEvrIrq 1).raise 0xF005 level srcOther sevWarning
  s.refreshService

/-! ### Policies and promotion (R523-R525) -/

/-- The codes of Table 19-4, by index. -/
def detectorCodes : List Nat :=
  [0x0001, 0x0006, 0x0005, 0x0011, 0x0012, 0x1005, 0x1010, 0x1011, 0x2002, 0x2003, 0x2005, 0x2006, 0x4002, 0x6001,
   0x6003, 0x8007, 0x9003, 0x9005, 0xA002, 0xA003, 0x5009, 0xB002, 0xB006, 0xB007, 0xC001, 0xC003, 0xD002, 0xD010,
   0xD011, 0xD016, 0xD020, 0xD021, 0xF001, 0xF002]

def detectorOf (code : Nat) : Option Nat := detectorCodes.findIdx? (fun c => c == code)

/-- Detectors whose policy the fault manager counts: the others have none, or one that their own chapter applies. -/
def countedDetector (i : Nat) : Bool := [4, 5, 6, 8, 9, 15, 16, 17, 18, 22, 27, 33].contains i

/-- Class P on this occurrence (Table 19-4, R539). -/
def permanent (i : Nat) (e : Event) : Bool :=
  i == 7 || i == 23 || (i == 5 && [1, 10, 14, 15].contains (e.value % 16)) || (i == 33 && decide (srcType e.source ≤ 9))

/-- The retirable units of a permanent fault; none: CORE_BLOCK_FAULT (Table 19-4). -/
def permanentUnits (i : Nat) (e : Event) : Option (List Nat) :=
  let u := bitsAt e.value 8 8
  match i with
  | 4 => if srcIx e.source = 12 then some [srcMd] else none
  | 5 =>
    match e.value % 16 with
    | 0 | 6 | 14 | 15 => some [srcQuad u]
    | 10 => some [srcEth u]
    | 11 => some [srcCas u]
    | _ => none
  | 8 | 9 =>
    let l := srcIx e.source
    if l < 4 then some [srcDie l]
    else if l = 6 then some ((List.range 4).map srcLane)
    else if l = 7 then some ((List.range 4).map (fun i => srcLane (4 + i)))
    else none
  | 22 => none
  | 33 => if srcType e.source ≤ 9 then some [e.source] else none
  | _ => some [e.source]

/-- CORE_BLOCK_FAULT (R525). -/
def State.coreBlockFault (s : State) (det : Nat) : State :=
  let s := { s with fault := { s.fault with coreFault := true } }
  (s.raise 0xF006 det srcOther sevCritical).refreshReplace

/-- An occurrence is promoted: units retire on the boundary that opens the next tick (R525). A kernel slot becomes FAULTED
(R388), and a sensor is excluded until the next device reset (R505). -/
def State.promote (s : State) (i : Nat) (e : Event) : State :=
  if i = 5 ∧ e.value % 16 = 13 then
    if s.engRun (bitsAt e.value 8 8 % 16) = .running then s.engFault (bitsAt e.value 8 8 % 16) 1 else s
  else if i = 27 then s.setFld F.HK_SENSOR_OUT_MASK (putBits (s.fld F.HK_SENSOR_OUT_MASK) (srcIx e.source) 1 1)
  else
    match permanentUnits i e with
    | some us => { s with fault := { s.fault with promoted := s.fault.promoted ++ us.map (fun u => (u, i)) } }
    | none => s.coreBlockFault i

/-- The unit an occurrence is counted for: for an overrun, block and unit (R42). -/
def occurrenceUnit (i : Nat) (e : Event) : Nat := if i = 5 then e.value % 2 ^ 16 else e.source

/-- The fault manager takes an event: class P acts on the first occurrence; class T is promoted when ATTEMPTS earlier
occurrences lie within the WINDOW before it (R524). -/
def State.countFault (s : State) (e : Event) : State :=
  match detectorOf e.code with
  | none => s
  | some i =>
    if !e.counts then s
    else if permanent i e then s.promote i e
    else if countedDetector i then
      let u := occurrenceUnit i e
      let w := s.fld (F.EVR_POL_WINDOW i) * 3840
      let live := s.fault.occurred.filter (fun o => !(o.1 == i && o.2.1 == u) || decide (s.elapsed ≤ o.2.2 + w))
      let n := (live.filter (fun o => o.1 == i && o.2.1 == u)).length
      let s := { s with fault := { s.fault with occurred := live ++ [(i, u, s.elapsed)] } }
      if s.fld (F.EVR_POL_ATTEMPTS i) ≤ n then s.promote i e else s
    else s

/-- Promoted units retire (R525). -/
def State.retirePromoted (s : State) : State :=
  let us := s.fault.promoted
  if us.isEmpty then s
  else
    let s := { s with fault := { s.fault with promoted := [] } }
    (us.foldl (fun s e => s.retireUnit e.1 0 e.2) s).refreshReplace

/-! ### The arbiter (R53-R55) -/

/-- The oldest tick that has events waiting. -/
def oldestTick (l : List Event) : Option Nat :=
  l.foldl (fun o e => match o with
    | none => some e.tick
    | some t => if tickAfter t e.tick then some e.tick else some t) none

/-- Removes the first event of a source. -/
def dropEvent (src : Nat) (l : List Event) : List Event :=
  match l with
  | [] => []
  | e :: r => if e.source == src then r else e :: dropEvent src r

/-- The oldest event of each source that has one waiting. -/
def headEvents (l : List Event) (seen : List Nat) : List Event :=
  match l with
  | [] => []
  | e :: r => if seen.contains e.source then headEvents r seen else e :: headEvents r (e.source :: seen)

/-- How far a source lies beyond the one served last, in rising source codes and around again. -/
def turnOf (granted src : Nat) : Nat := (src + 4096 - granted % 4096 + 4095) % 4096

/-- The event the arbiter grants next: of the oldest tick at the heads of the sources' buffers, and of the source whose turn
comes first after the one served last (R54, log 135). -/
def State.nextGrant (s : State) : Option Event :=
  let hs := headEvents s.ev.waiting []
  let old := hs.filter (fun e => some e.tick == oldestTick hs)
  old.foldl (fun o e => match o with
    | some b => if turnOf s.ev.granted e.source < turnOf s.ev.granted b.source then some e else some b
    | none => some e) none

/-- A grant: the event takes the next EVSEQ and goes to Lavender; while PD_FAB is in retention, or Lavender's queue is full,
nothing is granted (R53, R54, R532). -/
def State.grantEvent (s : State) : State :=
  match s.nextGrant with
  | some e =>
    if s.domain 2 = 1 ∧ s.ev.queue.length < 256 then
      let n := s.ev.evseq
      let s := { s with ev := { s.ev with
        waiting := dropEvent e.source s.ev.waiting, evseq := n + 1, queue := s.ev.queue ++ [(e, n)], granted := e.source } }
      (s.numberAnchors e.tick n).recEventTrigger e.code e.tick
    else s
  | none => s

/-- EVENT_ARBITRATION serves a source in its turn (R54); a row of another source changes nothing (log entry 135). -/
def execEventArbitration (src : Nat) (s : State) : Host.Outcome State Fault Refusal :=
  .next (if s.nextGrant.any (fun e => e.source == src) then s.grantEvent else s)

/-! ### Lavender (R531-R535) -/

/-- Lavender works in the shadow bank. -/
def State.inShadow (s : State) : Bool := s.flag F.EVR_STATUS_BANK

def State.bankSize (s : State) : Nat := if s.inShadow then 16 else 1024
def State.bank (s : State) : List (Nat × EvRecord) := if s.inShadow then s.ev.shadowB else s.ev.sram
def State.record (s : State) (i : Nat) : EvRecord := sget (fun _ => EvRecord.free) s.bank i

def State.putRecord (s : State) (i : Nat) (r : EvRecord) : State :=
  let m := sput (fun _ => EvRecord.free) s.bank i r
  let n := (m.filter (fun e => e.2.valid)).length
  if s.inShadow then { s.setFld F.EVR_STATUS_SHADOW_USED n with ev := { s.ev with shadowB := m } }
  else { s.setFld F.EVR_STATUS_RECORDS n with ev := { s.ev with sram := m } }

def State.codeCfg (s : State) (code : Nat) : CodeCfg := sget (fun _ => CodeCfg.init) s.ev.codes code
def State.putCodeCfg (s : State) (code : Nat) (c : CodeCfg) : State :=
  { s with ev := { s.ev with codes := sput (fun _ => CodeCfg.init) s.ev.codes code c } }

/-- Generations are 32 bits wide. -/
def genStep (r : EvRecord) (n : Nat) : Nat := (r.gen + n) % 2 ^ 32

/-- The record a new code takes when none is free: of the lowest severity not above its own and not CRITICAL, the one with
the oldest LAST (R535). -/
def victimRecord (bank : List (Nat × EvRecord)) (sev : Nat) : Option Nat :=
  (bank.foldl (fun (best : Option (Nat × EvRecord)) e =>
    if e.2.valid && decide (e.2.severity < 5) && decide (e.2.severity ≤ sev) then
      match best with
      | none => some e
      | some b =>
        if e.2.severity < b.2.severity ∨ (e.2.severity = b.2.severity ∧ e.2.last < b.2.last) then some e else some b
    else best) none).map (·.1)

/-- The record of a code: its own, the lowest free one, or one that R535 takes. A record that is taken starts anew under
its generation, and the code that held it waits for no push. -/
def State.takeRecord (s : State) (code sev : Nat) : Option Nat × State :=
  match s.bank.find? (fun e => e.2.valid && e.2.code == code) with
  | some e => (some e.1, s)
  | none =>
    let slot := match (List.range s.bankSize).find? (fun i => !(s.record i).valid) with
      | some i => some i
      | none => victimRecord s.bank sev
    match slot with
    | some i =>
      let r := s.record i
      let s := if r.valid then s.putCodeCfg r.code { s.codeCfg r.code with due := false, ovfSeen := false } else s
      (some i, s.putRecord i { EvRecord.free with gen := r.gen, code := code, severity := sev, valid := true })
    | none => (none, s)

/-- Tokens after the refill since the last event, and one taken if the bucket holds it (R533). -/
def State.takeToken (s : State) (code : Nat) : Bool × State :=
  let c := s.codeCfg code
  if c.rate = 0 then (true, s)
  else
    let t := min (c.tokens + c.rate * (s.elapsed - c.refilled)) (c.rate * 3840)
    let ok := decide (3840 ≤ t)
    (ok, s.putCodeCfg code { c with tokens := if ok then t - 3840 else t, refilled := s.elapsed })

/-- The histogram bucket of a value (R532). -/
def bucketOf (v shift : Nat) : Nat :=
  if v < 2 ^ (shift + 1) then 0
  else match (List.range 7).find? (fun b => decide (1 ≤ b) && decide (v < 2 ^ (shift + b + 1))) with
    | some b => b
    | none => 7

/-- An event updates its record (R532). -/
def EvRecord.take (r : EvRecord) (e : Event) (seq shift : Nat) : EvRecord :=
  let b := bucketOf e.value shift
  let first := r.count == 0
  { r with
    severity := max r.severity e.sev, injected := r.injected || e.injected, source := e.source
    count := min (r.count + 1) (2 ^ 32 - 1), first := if first then seq else r.first, last := seq
    minVal := if first then e.value else min r.minVal e.value
    maxVal := if first then e.value else max r.maxVal e.value
    value := e.value
    hist := r.hist.set b (min (r.hist.getD b 0 + 1) 0xFFFF) }

/-- NOTIFY of a code: as configured, else by severity (R534). -/
def notifyOf (c : CodeCfg) (r : EvRecord) : Bool := c.notify.getD (decide (3 ≤ r.severity))

/-- Lavender switches to the shadow bank (R537). -/
def State.toShadow (s : State) : State :=
  if s.inShadow then s
  else
    let s := { s with ev := { s.ev with failDue := true } }
    (s.setFld F.EVR_STATUS_BANK 1).setEvrIrq 2

/-- Lavender updates the record of an event's code, or drops the event (R532-R535). -/
def State.logEvent (s : State) (e : Event) (seq : Nat) : State :=
  match s.takeRecord e.code e.sev with
  | (none, s) => s.addFld (F.EVR_DROP_COUNT e.sev) 1
  | (some i, s) =>
    let (ok, s) := s.takeToken e.code
    let c := s.codeCfg e.code
    let r := s.record i
    let r := if ok then r.take e seq c.shift else { r with suppressed := min (r.suppressed + 1) (2 ^ 32 - 1) }
    let note := notifyOf c r
    let r := { r with gen := genStep r 2, notifyPend := r.notifyPend || note }
    let s := s.putRecord i r
    if note then s.putCodeCfg e.code { c with due := true } else s

/-- Removes the event of an EVSEQ from Lavender's queue. -/
def dropSeq (seq : Nat) (l : List (Event × Nat)) : List (Event × Nat) :=
  match l with
  | [] => []
  | x :: r => if x.2 == seq then r else x :: dropSeq seq r

/-- The event Lavender takes: the oldest of its queue. After the switch to the shadow bank it is LOG_MEM_FAIL, and Lavender
waits while that is still on its way through an arbiter that can grant it (R537, log 136). -/
def State.nextRecord (s : State) : Option (Event × Nat) :=
  let coming := s.ev.waiting.any (fun e => e.code == 0xF001) && decide (s.ev.queue.length < 256)
  match (if s.ev.failDue then s.ev.queue.find? (fun x => x.1.code == 0xF001) else none) with
  | some x => some x
  | none => if s.ev.failDue && coming then none else s.ev.queue.head?

/-- Lavender takes an event from its queue (R532), and the fault manager counts it (R523, log entry 88). -/
def State.recordEvent (s : State) : State :=
  match s.nextRecord with
  | none => s
  | some (e, seq) =>
    let s := { s with ev := { s.ev with queue := dropSeq seq s.ev.queue, failDue := s.ev.failDue && e.code != 0xF001 } }
    (s.logEvent e seq).countFault e

def execEventRecord (s : State) : Host.Outcome State Fault Refusal := .next s.recordEvent

/-- A code is pushed into the notify queue, at most once per NOTIFY_MS (R534). -/
def State.notifyPush (s : State) (code : Nat) : State :=
  let c := s.codeCfg code
  let ready := match c.pushedAt with
    | none => true
    | some t => decide (t + c.notifyMs * 3840 ≤ s.elapsed)
  if c.due && ready then
    if s.ev.notify.length < 64 then
      let s := s.putCodeCfg code { c with due := false, ovfSeen := false, pushedAt := some s.elapsed }
      { s.setEvrIrq 0 with ev := { s.ev with notify := s.ev.notify ++ [code] } }
    else
      let t := if c.ovfSeen then s else (s.addFld F.EVR_NOTIFY_OVF_COUNT 1).setEvrIrq 3
      t.putCodeCfg code { c with ovfSeen := true, pushedAt := some s.elapsed }
  else s

def execNotifyPush (code : Nat) (s : State) : Host.Outcome State Fault Refusal := .next (s.notifyPush code)

/-- A read of EVR_NOTIFY removes the oldest code. -/
def State.readNotify (s : State) : Nat × State :=
  match s.ev.notify with
  | [] => (0, s)
  | c :: r => (2 ^ 31 + s.ev.notify.length * 2 ^ 16 + c, { s with ev := { s.ev with notify := r } })

/-- The 64 bytes of a record (Table 19-2). -/
def EvRecord.bytes (r : EvRecord) : List Byte :=
  leBytes 4 r.gen ++ leBytes 2 r.code ++ leBytes 1 r.severity ++
  leBytes 1 (b2n r.valid + 2 * b2n r.notifyPend + 4 * b2n r.injected) ++ leBytes 2 r.source ++ leBytes 2 0 ++
  leBytes 4 r.count ++ leBytes 4 r.suppressed ++ leBytes 8 r.first ++ leBytes 8 r.last ++ leBytes 4 r.minVal ++
  leBytes 4 r.maxVal ++ leBytes 4 r.value ++ r.hist.flatMap (leBytes 2)

/-- A read of EVR_WIN_DATA: a word of a record, then INDEX advances; an uncorrectable word of the frozen SRAM reads 0 and
sets ECC (R537, R545). -/
def State.readEvrWin (s : State) : Nat × State :=
  let i := s.fld F.EVR_WIN_ADDR_INDEX
  let shadow := s.flag F.EVR_WIN_ADDR_BANK
  let bad := !shadow && s.ev.eccBad.contains i
  let m := if shadow then s.ev.shadowB else s.ev.sram
  let r := if shadow ∧ 16 ≤ i / 16 then EvRecord.free else sget (fun _ => EvRecord.free) m (i / 16)
  let v := if bad then 0 else leAt r.bytes (4 * (i % 16)) 4
  let s := s.setFld F.EVR_WIN_STAT_ECC (b2n bad)
  (v, s.setFld F.EVR_WIN_ADDR_INDEX ((i + 1) % 2 ^ 14))

/-! ### EV_READ and EV_CONFIG_CODE (R542, R543) -/

def chkEvRead (_ : State) (c : Cmd) : Option Status :=
  let p := c.payload
  let n := leAt p 2 1
  if p.length ≠ 8 ∨ n = 0 ∨ 63 < n ∨ 4 ≤ leAt p 3 1 ∨ 5 < leAt p 4 1 ∨ !zeroAt p 5 3 ∨
      (if bitAt (leAt p 3 1) 0 then 16 else 1024) ≤ leAt p 0 2 then some .badParam
  else none

/-- Records of the named bank, from the first index up, of at least a severity. -/
def State.evMatches (s : State) (shadow : Bool) (first minSev : Nat) : List (Nat × EvRecord) :=
  (if shadow then s.ev.shadowB else s.ev.sram).filter (fun e =>
    decide (first ≤ e.1) && e.2.valid && decide (minSev ≤ e.2.severity))

/-- CLEAR_NOTIFY on records of the bank in use; the frozen SRAM is not written (R537). -/
def State.clearNotify (s : State) (is : List Nat) : State :=
  is.foldl (fun s i =>
    let r := s.record i
    let s := s.putRecord i { r with notifyPend := false, gen := genStep r 2 }
    s.putCodeCfg r.code { s.codeCfg r.code with due := false, ovfSeen := false }) s

def execEvRead (tag : Nat) (s : State) : Host.Outcome State Fault Refusal :=
  .next (s.performStart 0x0B00 tag anyOp (fun c s =>
    let p := c.payload
    let shadow := bitAt (leAt p 3 1) 0
    let all := s.evMatches shadow (leAt p 0 2) (leAt p 4 1)
    let got := all.take (leAt p 2 1)
    let next := if all.length ≤ got.length then 0xFFFF else match got.getLast? with | some e => e.1 + 1 | none => 0xFFFF
    let pl := leBytes 2 next ++ leBytes 1 got.length ++ leBytes 1 (b2n s.inShadow) ++ leBytes 4 0 ++
      got.flatMap (fun e => e.2.bytes)
    let s := if bitAt (leAt p 3 1) 1 ∧ shadow = s.inShadow then s.clearNotify (got.map (·.1)) else s
    s.finishNow c.tag .ok pl))

/-- The codes of Table 19-3, of recording and replay, and of security (R538). -/
def allocatedCodes : List Nat :=
  [0x0001, 0x0002, 0x0003, 0x0004, 0x0005, 0x0006, 0x0010, 0x0011, 0x0012, 0x0013, 0x1001, 0x1002, 0x1003, 0x1004,
   0x1005, 0x1010, 0x1011, 0x2001, 0x2002, 0x2003, 0x2004, 0x2005, 0x2006, 0x2007, 0x2008, 0x2010, 0x2011, 0x2012,
   0x2013, 0x2014, 0x2015, 0x3001, 0x3002, 0x4001, 0x4002, 0x4003, 0x4004] ++
  [0x5001, 0x5002, 0x5003, 0x5004, 0x5005, 0x5006, 0x5007, 0x5008, 0x5009, 0x6001, 0x6002, 0x6003, 0x6004, 0x7001,
   0x7002, 0x7003, 0x8001, 0x8002, 0x8003, 0x8004, 0x8005, 0x8006, 0x8007, 0x8008, 0x9001, 0x9002, 0x9003, 0x9004,
   0x9005, 0x9006, 0x9010, 0x9011, 0x9012, 0xA001, 0xA002, 0xA003, 0xA004, 0xA005, 0xA006, 0xA007, 0xA008, 0xA009] ++
  [0xB001, 0xB002, 0xB003, 0xB004, 0xB005, 0xB006, 0xB007, 0xC001, 0xC002, 0xC003, 0xD001, 0xD002, 0xD010, 0xD011,
   0xD012, 0xD013, 0xD014, 0xD015, 0xD016, 0xD020, 0xD021, 0xD022, 0xD023, 0xE001, 0xE002, 0xE003, 0xE004, 0xE801,
   0xE802, 0xE803, 0xE804, 0xE805, 0xE806, 0xE807, 0xF001, 0xF002, 0xF003, 0xF004, 0xF005, 0xF006, 0xF007]

def chkEvConfigCode (_ : State) (c : Cmd) : Option Status :=
  let p := c.payload
  let code := leAt p 0 2
  if p.length ≠ 8 ∨ (code ≠ 0xFFFF ∧ !allocatedCodes.contains code) ∨ 4 ≤ leAt p 2 1 ∨ 24 < leAt p 3 1 ∨
      4096 < leAt p 4 2 ∨ leAt p 6 2 = 0 ∨ 10000 < leAt p 6 2 then some .badParam
  else none

/-- One code configured; CLEAR frees its record (R543). -/
def State.configCode (s : State) (p : List Byte) (code : Nat) : State :=
  let c := s.codeCfg code
  let on := bitAt (leAt p 2 1) 0
  let rate := leAt p 4 2
  let t := if c.rate = 0 then rate * 3840 else min (c.tokens + c.rate * (s.elapsed - c.refilled)) (rate * 3840)
  let s := s.putCodeCfg code { c with
    notify := some on, shift := leAt p 3 1, rate := rate, notifyMs := leAt p 6 2
    tokens := t, refilled := s.elapsed, due := c.due && on }
  if bitAt (leAt p 2 1) 1 then
    match s.bank.find? (fun e => e.2.valid && e.2.code == code) with
    | some e =>
      let s := s.putRecord e.1 { EvRecord.free with gen := genStep e.2 2 }
      s.putCodeCfg code { s.codeCfg code with due := false, ovfSeen := false }
    | none => s
  else s

def execEvConfigCode (tag : Nat) (s : State) : Host.Outcome State Fault Refusal :=
  .next (s.performStart 0x0B01 tag anyOp (fun c s =>
    let code := leAt c.payload 0 2
    let s := (if code = 0xFFFF then allocatedCodes else [code]).foldl (fun s x => s.configCode c.payload x) s
    s.finishNow c.tag .ok []))

end Sys2Proof.Machine
end

