-- ==== Sys2Proof/Machine/Housekeeping.lean ====
section
/-!
DEFINITION. Sys2Proof/Machine/Housekeeping.lean: Snowdrop's conversions, sequence table and FIFO (R498-R504, R518, R521) and
Hollyhock's temperatures, bands and rates (R505-R509).
-/
namespace Sys2Proof.Machine

/-! ### Snowdrop: the table, urgent requests and the FIFO (R499-R503) -/

def blankEntry : SeqEntry := ⟨0, 0, 0, 0⟩

/-- An entry of the sequence table. -/
def State.seqEntry (s : State) (i : Nat) : SeqEntry := s.hk.table.getD i blankEntry

/-- The converter die of a sensor is on and not retired (R498); kd is in PD_CTL, which runs whenever Snowdrop does. -/
def State.sensorOn (s : State) (i : Nat) : Bool :=
  if i < 20 then decide (s.domain (4 + i / 5) ≠ 0) && !s.isRetired (srcDie (i / 5))
  else if i < 24 then true
  else decide (s.domain 12 ≠ 0) && !s.isRetired srcMd

/-- TABLE_RUN follows LEN. -/
def State.refreshTable (s : State) : State := s.setFld F.HK_STATUS_TABLE_RUN (b2n (s.fld F.HK_SEQ_CFG_LEN != 0))

/-- FIFO_LEVEL follows the FIFO. -/
def State.putFifo (s : State) (l : List HkResult) : State :=
  { s.setFld F.HK_FIFO_LEVEL_LEVEL l.length with hk := { s.hk with fifo := l } }

/-- The table of HK_LOAD_SEQUENCE is taken up: entry 0 is next, and FLUSH empties the FIFO (R518). -/
def State.takeTable (s : State) : State :=
  match s.hk.newTable with
  | none => s
  | some (t, flush) =>
    let s := { s with hk := { s.hk with table := t, newTable := none, owed := 0 } }
    let s := (s.setFld F.HK_SEQ_CFG_LEN t.length).setFld F.HK_SEQ_CFG_POS 0
    (if flush then s.putFifo [] else s).refreshTable

/-- An AUXIN input pulled up reads above 1.750 V, or one pulled down below 0.050 V (R503). -/
def State.openWire (s : State) (ch value : Nat) : Bool :=
  if 36 ≤ ch ∧ ch < 48 then
    let pull := bitsAt (s.fld F.HK_AUX_PULL_PULL) (2 * (ch - 36)) 2
    (pull == 1 && decide (1750 * 65536 < value * 1800)) || (pull == 2 && decide (value * 1800 < 50 * 65536))
  else false

/-- An open input is marked; the first flag after a clear is reported (R503). -/
def State.noteOpen (s : State) (ch : Nat) : State :=
  let k := ch - 36
  if bitAt (s.fld F.HK_AUX_OPEN_OPEN) k then s
  else (s.setFld F.HK_AUX_OPEN_OPEN (putBits (s.fld F.HK_AUX_OPEN_OPEN) k 1 1)).raise 0xD001 k srcOther sevWarning

/-- A table result enters the FIFO, or is dropped and counted; its sequence number is used either way (R502). -/
def State.pushResult (s : State) (ch value : Nat) (isOpen : Bool) : State :=
  let n := s.hk.seqNo
  let s := { s with hk := { s.hk with seqNo := (n + 1) % 256 } }
  if s.hk.fifo.length < 256 then s.putFifo (s.hk.fifo ++ [⟨ch, n, value % 2 ^ 16, isOpen⟩])
  else s.addFld F.HK_FIFO_OVF_COUNT 1

/-- The table goes on to the next entry. -/
def State.nextEntry (s : State) : State :=
  let n := s.fld F.HK_SEQ_CFG_LEN
  let p := s.fld F.HK_SEQ_CFG_POS + 1
  { s.setFld F.HK_SEQ_CFG_POS (if p < n then p else 0) with hk := { s.hk with owed := 0 } }

/-- A channel that Snowdrop can convert: a sensor whose die is on, a supply, an input. -/
def State.convertible (s : State) (ch : Nat) : Bool := decide (ch < 48) && (decide (25 ≤ ch) || s.sensorOn ch)

/-- The urgent conversion ends (R501). -/
def State.urgentDone (s : State) (value : Nat) : State :=
  let ch := s.fld F.HK_URGENT_CHANNEL
  let s := (s.setFld F.HK_URGENT_GO 0).setFld F.HK_STATUS_URGENT_BUSY 0
  let (free, s) := if ch < 48 then (value, s) else s.fresh 16
  let o := s.openWire ch free
  let s := (s.setFld F.HK_URGENT_RES_VALID (b2n (decide (48 ≤ ch) || s.convertible ch))).setFld F.HK_URGENT_RES_OPEN (b2n o)
  let s := (s.setFld F.HK_URGENT_RES_CHANNEL ch).setFld F.HK_URGENT_RES_VALUE free
  if o then s.noteOpen ch else s

/-- A result of the table: the entry in progress goes on until it has produced REPEAT results (R499). -/
def State.tableResult (s : State) (value : Nat) : State :=
  let e := s.seqEntry (s.fld F.HK_SEQ_CFG_POS)
  if s.convertible e.channel then
    let o := s.openWire e.channel value
    let s := s.pushResult e.channel value o
    let s := if o then s.noteOpen e.channel else s
    if s.hk.owed < e.repeats then { s with hk := { s.hk with owed := s.hk.owed + 1 } } else s.nextEntry
  else s.nextEntry

/-- A conversion ends with its result: the urgent one if one waits, else the table's. A new table is taken up then (R518). -/
def execSnowdropConversion (value : Nat) (s : State) : Host.Outcome State Fault Refusal :=
  let s := if s.flag F.HK_STATUS_URGENT_BUSY then s.urgentDone value
    else if s.flag F.HK_STATUS_TABLE_RUN then s.tableResult value else s
  .next s.takeTable

/-- HK_URGENT written with GO: no effect while a request is busy; GO reads 1 until its conversion ends (R12, R501). -/
def State.urgentRequest (s : State) (ch avg : Nat) : State :=
  if s.flag F.HK_STATUS_URGENT_BUSY then s
  else
    let s := (s.setFld F.HK_URGENT_CHANNEL ch).setFld F.HK_URGENT_AVG (min avg 4)
    ((s.setFld F.HK_URGENT_GO 1).setFld F.HK_STATUS_URGENT_BUSY 1).setFld F.HK_URGENT_RES_VALID 0

/-- A read of HK_FIFO_DATA removes the oldest result (R502). -/
def State.readHkFifo (s : State) : Nat × State :=
  match s.hk.fifo with
  | [] => (0, s)
  | r :: l => (2 ^ 31 + 2 ^ 30 * b2n r.isOpen + 2 ^ 24 * r.channel + 2 ^ 16 * r.seq + r.value, s.putFifo l)

/-- A read of HK_SEQ_DATA returns entry INDEX and advances INDEX modulo 64 (R521). -/
def State.readHkSeq (s : State) : Nat × State :=
  let i := s.fld F.HK_SEQ_ADDR_INDEX
  let e := s.seqEntry i
  (e.channel + 2 ^ 8 * e.repeats + 2 ^ 16 * e.settle + 2 ^ 24 * e.avg, s.setFld F.HK_SEQ_ADDR_INDEX ((i + 1) % 64))

/-- Entry `k` of HK_LOAD_SEQUENCE's payload. -/
def loadEntry (c : Cmd) (k : Nat) : SeqEntry :=
  ⟨leAt c.payload (4 + 4 * k) 1, leAt c.payload (5 + 4 * k) 1, leAt c.payload (6 + 4 * k) 1, leAt c.payload (7 + 4 * k) 1⟩

def loadTable (c : Cmd) : List SeqEntry := (List.range (leAt c.payload 0 1)).map (loadEntry c)

/-- Check 11 of HK_LOAD_SEQUENCE (R518). -/
def chkHkLoadSequence (c : Cmd) : Option Status :=
  let n := leAt c.payload 0 1
  if 64 < n ∨ c.payload.length ≠ 4 + 4 * n ∨ 2 ≤ leAt c.payload 1 1 ∨ !zeroAt c.payload 2 2 ∨
      !((loadTable c).all (fun e => decide (e.channel < 48 ∧ e.avg ≤ 8))) then some .badParam
  else none

/-- HK_LOAD_SEQUENCE: the table is replaced when the conversion in progress ends, at once where none is (R518). -/
def execHkLoadSequence (tag : Nat) (s : State) : Host.Outcome State Fault Refusal :=
  .next (s.performStart 0x0A02 tag anyOp (fun c s =>
    let s := { s with hk := { s.hk with newTable := some (loadTable c, bitAt (leAt c.payload 1 1) 0) } }
    let s := if s.flag F.HK_STATUS_URGENT_BUSY || s.flag F.HK_STATUS_TABLE_RUN then s else s.takeTable
    s.finishNow c.tag .ok []))

/-! ### Hollyhock: cross-checks (R505) -/

/-- Floorplan neighbours of a sensor. -/
def neighbours (i : Nat) : List Nat :=
  if i < 20 then ((List.range 5).map (fun k => i / 5 * 5 + k)).filter (fun k => k != i)
  else ((List.range 5).map (fun k => 20 + k)).filter (fun k => k != i)

def State.suspect (s : State) (i : Nat) : Bool := bitAt (s.fld F.HK_SUSPECT_MASK) i
def State.sensorOut (s : State) (i : Nat) : Bool := bitAt (s.fld F.HK_SENSOR_OUT_MASK) i

/-- The sensor is converted and not excluded. -/
def State.sensorUsed (s : State) (i : Nat) : Bool := s.sensorOn i && !s.suspect i && !s.sensorOut i

/-- Inserts into a rising list of temperatures. -/
def insertInt (l : List Int) (x : Int) : List Int :=
  match l with
  | [] => [x]
  | y :: r => if y < x then y :: insertInt r x else x :: y :: r

/-- Twice the median of a list. -/
def median2 (l : List Int) : Int :=
  let m := l.foldl insertInt []
  m.getD ((m.length - 1) / 2) 0 + m.getD (m.length / 2) 0

/-- A sensor against the median of its usable neighbours: none with fewer than two; else whether it differs by more than
8 °C. -/
def State.deviates (s : State) (temps : List Int) (i : Nat) : Option Bool :=
  let ns := (neighbours i).filter s.sensorUsed
  if ns.length < 2 then none
  else some (decide (2048 < (2 * temps.getD i 0 - median2 (ns.map (fun k => temps.getD k 0))).natAbs))

/-- The cross-check of one sensor, with the verdict of the round. -/
def State.crossCheck (s : State) (i : Nat) (v : Option Bool) : State :=
  let dev := fun (s : State) (n : Nat) => { s with hk := { s.hk with devRounds := sput (fun _ => 0) s.hk.devRounds i n } }
  let ok := fun (s : State) (n : Nat) => { s with hk := { s.hk with okRounds := sput (fun _ => 0) s.hk.okRounds i n } }
  match v with
  | none => ok (dev s 0) 0
  | some true =>
    let n := sget (fun _ => 0) s.hk.devRounds i + 1
    let s := ok (dev s (min n 3)) 0
    if 3 ≤ n ∧ !s.suspect i then
      (s.setFld F.HK_SUSPECT_MASK (putBits (s.fld F.HK_SUSPECT_MASK) i 1 1)).raise 0xD010 i (srcSensor i) sevWarning
    else s
  | some false =>
    let n := sget (fun _ => 0) s.hk.okRounds i + 1
    let s := dev s 0
    if s.suspect i then
      if 100 ≤ n then (ok s 0).setFld F.HK_SUSPECT_MASK (putBits (s.fld F.HK_SUSPECT_MASK) i 1 0) else ok s n
    else ok s 0

/-- Every sensor is checked with the readings and exclusions of the round. -/
def State.crossChecks (s : State) (temps : List Int) : State :=
  let vs := (List.range 25).map (fun i => if s.sensorOn i && !s.sensorOut i then s.deviates temps i else none)
  (List.range 25).foldl (fun s i => s.crossCheck i (vs.getD i none)) s

/-! ### Domains, bands and rates (R506-R508) -/

/-- Sensors of a temperature domain. -/
def domainSensors (d : Nat) : List Nat := if d < 4 then (List.range 5).map (fun k => 5 * d + k) else [20, 21, 22, 23, 24]

/-- The highest of some readings. -/
def highest (temps : List Int) (l : List Nat) : Option Int :=
  l.foldl (fun m i => some (match m with | none => temps.getD i 0 | some x => max x (temps.getD i 0))) none

/-- Upper edge of a band, and the value below which the temperature leaves it downward (Table 18-2) [1/128 °C]. -/
def bandUpper (b : Nat) : Int := [-1280, 3200, 7680, 12160].getD b (2 ^ 40)
def bandLower (b : Nat) : Int := if b = 0 then -(2 ^ 40) else bandUpper (b - 1) - 384

/-- The band that a temperature gives from the band in force, with hysteresis. -/
def bandOfTemp (t : Int) (b n : Nat) : Nat :=
  match n with
  | 0 => b
  | k + 1 =>
    if bandUpper b ≤ t then bandOfTemp t (b + 1) k
    else if t < bandLower b then bandOfTemp t (b - 1) k
    else b

/-- The band of a first round: by the edges alone. -/
def bandDirect (t : Int) : Nat := ((List.range 4).filter (fun b => decide (bandUpper b ≤ t))).length

def State.domHist (s : State) (d : Nat) : DomainHist := sget (fun _ => DomainHist.init) s.hk.domains d
def State.putHist (s : State) (d : Nat) (h : DomainHist) : State :=
  { s with hk := { s.hk with domains := sput (fun _ => DomainHist.init) s.hk.domains d h } }

/-- A band change reaches the transmit column and slot at each path's quiet boundary (Table 18-3). -/
def State.columnsDue (s : State) (d : Nat) : State :=
  if d < 4 then
    { s with tx := { s.tx with columnDue := (diePaths d).foldl (fun m p =>
        if sget (fun _ => 0) m p = 0 then sput (fun _ => 0) m p (s.elapsed + 1) else m) s.tx.columnDue } }
  else s

/-- The band in force follows the temperature's band and the action of R508. -/
def State.setBand (s : State) (d : Nat) : State :=
  let b := min 4 (s.fld (F.HK_DOM_STAT_BAND_T d) + s.fld (F.HK_DOM_STAT_ACT d))
  if b = s.fld (F.HK_DOM_STAT_BAND d) ∨ s.replaying then s
  else ((s.setFld (F.HK_DOM_STAT_BAND d) b).raise 0xD012 (256 * d + b) srcOther sevNotice).columnsDue d

/-- Twice the moment of the slope of R508 over 16 rounds: Σ (2i - 15) T_i. -/
def slopeSum (ts : List Int) : Int :=
  ((ts.zip (List.range ts.length)).map (fun (t, i) => (2 * (i : Int) - 15) * t)).foldl (· + ·) 0

/-- HK_DOM_RATE.RATE [0.01 °C/s]; the rounding is not stated, so it may be either neighbour. -/
def State.setRate16 (s : State) (d : Nat) (sum : Int) : State :=
  let n := sum * 100000
  let (up, s) := if n % 87040 = 0 then (0, s) else s.fresh 1
  s.setFld (F.HK_DOM_RATE_RATE d) (encode2c 16 (clampInt (-32768) 32767 (n / 87040 + (up : Int))))

/-- The warning and action of R508 on a rated round. -/
def State.rateDomain (s : State) (d : Nat) (h : DomainHist) : State :=
  let sum := slopeSum h.temps
  let s := s.setRate16 d sum
  let steep := decide (174080 ≤ sum * 1000)
  let h := { h with steep := if steep then min (h.steep + 1) 16 else 0, flat := if steep then 0 else min (h.flat + 1) 16 }
  let s := s.putHist d h
  let s := if h.steep = 16 ∧ !s.flag (F.HK_DOM_STAT_WARN d) then
      (s.setFld (F.HK_DOM_STAT_WARN d) 1).raiseFree 0xD013 srcOther sevWarning else s
  let s := if 435200 ≤ sum * 1000 ∧ s.flag F.HK_THERM_CFG_RISE_ACT ∧ !s.flag (F.HK_DOM_STAT_ACT d) then
      (s.setFld (F.HK_DOM_STAT_ACT d) 1).raiseFree 0xD014 srcOther sevError else s
  if h.flat = 16 then (s.setFld (F.HK_DOM_STAT_WARN d) 0).setFld (F.HK_DOM_STAT_ACT d) 0 else s

/-- The die of a temperature domain is on and in service; domain 4 always is. -/
def State.domainOn (s : State) (d : Nat) : Bool := decide (4 ≤ d) || s.sensorOn (5 * d)

/-- The first temperature round loads the slot in force of each path of a die (R237). -/
def State.firstSlots (s : State) (d : Nat) : State :=
  (diePaths d).foldl (fun s p =>
    if s.txRetired p then s
    else
      let s := { s with tx := { s.tx with columnDue := sput (fun _ => 0) s.tx.columnDue p 0 } }
      (s.switchSlot p (s.wantedSlot p (s.bandOf p))).refreshCap p) s

/-- One domain after a round: temperature, history, rate and band (R506-R508). -/
def State.domainRound (s : State) (temps : List Int) (first : Bool) (d : Nat) : State :=
  if s.domainOn d then
    let used := (domainSensors d).filter s.sensorUsed
    let all := highest temps ((List.range 25).filter s.sensorUsed)
    let t := ((highest temps used).orElse (fun _ => all)).getD (s.sfld (F.HK_DOM_STAT_TEMP d))
    let blind := used.isEmpty
    let s := if blind ∧ !s.flag (F.HK_DOM_STAT_BLIND d) then s.raiseFree 0xD011 srcOther sevError else s
    let s := (s.setFld (F.HK_DOM_STAT_BLIND d) (b2n blind)).setFld (F.HK_DOM_STAT_TEMP d) (encode2c 16 t)
    let h := s.domHist d
    let h := if h.valid = used then h else { DomainHist.init with valid := used }
    let h := { h with temps := (h.temps ++ [t]).drop (h.temps.length + 1 - 16) }
    let s := (s.putHist d h).setFld (F.HK_DOM_RATE_HIST d) h.temps.length
    let s := if h.temps.length = 16 then s.rateDomain d h else s.setFld (F.HK_DOM_RATE_RATE d) 0
    let b := if first then bandDirect t else bandOfTemp t (s.fld (F.HK_DOM_STAT_BAND_T d)) 5
    let s := (s.setFld (F.HK_DOM_STAT_BAND_T d) b).setBand d
    if first ∧ d < 4 ∧ s.replaying = false then s.firstSlots d else s
  else
    let s := (s.putHist d DomainHist.init).setFld (F.HK_DOM_STAT_BLIND d) 0
    (s.setFld (F.HK_DOM_RATE_HIST d) 0).setFld (F.HK_DOM_RATE_RATE d) 0

/-! ### Limits and supplies (R504, R509) -/

/-- A limit on the highest valid reading: raised once per crossing, re-armed 3 °C below. -/
def crossing (on : Bool) (t limit : Int) : Bool × Bool :=
  if limit ≤ t then (true, !on) else if t ≤ limit - 384 then (false, false) else (on, false)

def State.thermalLimits (s : State) (temps : List Int) : State :=
  match highest temps ((List.range 25).filter s.sensorUsed) with
  | none => s
  | some t =>
    let (h, eh) := crossing s.hk.highOn t (128 * s.fld F.HK_THERM_CFG_WARN : Nat)
    let (l, el) := crossing s.hk.limitOn t 16000
    let s := { s with hk := { s.hk with highOn := h, limitOn := l } }
    let s := if eh then s.raiseFree 0xD015 srcOther sevWarning else s
    if el then s.raiseFree 0xD016 srcOther sevCritical else s

/-- Nominal value of a supply monitor [0.1 mV] (Table 18-1, Table 15-5); PD_FAB's regulator is checked while the domain is on. -/
def State.supplyNominal (s : State) (i : Nat) : Option Nat :=
  if i = 10 then
    if s.domain 2 = 1 then some ([8000, 7200, 6400].getD (s.fld F.CLK_STATUS_OP) 6400) else none
  else some ([18000, 18000, 18000, 9000, 10000, 10000, 10000, 10000, 18000, 7500].getD i 0)

def State.supplyRound (s : State) (i v : Nat) : State :=
  let s := s.setFld (F.HK_SUPPLY_VALUE i) v
  let bad := match s.supplyNominal i with
    | none => false
    | some n => decide (v * 100 < n * 95) || decide (n * 105 < v * 100)
  let k := if bad then min (sget (fun _ => 0) s.hk.supplyBad i + 1) 3 else 0
  let s := { s with hk := { s.hk with supplyBad := sput (fun _ => 0) s.hk.supplyBad i k } }
  if !bad then s.setFld (F.HK_SUPPLY_ALARM i) 0
  else if k = 3 ∧ !s.flag (F.HK_SUPPLY_ALARM i) then
    (s.setFld (F.HK_SUPPLY_ALARM i) 1).raise 0xD002 i (srcSensor (25 + i)) sevError
  else s

/-! ### The round (R500) -/

/-- Readings of the sensors that were converted. -/
def State.storeTemps (s : State) (temps : List Int) : State :=
  (List.range 25).foldl (fun s i =>
    let on := s.sensorOn i
    let s := s.setFld (F.HK_TEMP_VALID i) (b2n on)
    if on then s.setFld (F.HK_TEMP_TEMP i) (encode2c 16 (temps.getD i 0)) else s) s

/-- What a round leaves: readings, cross-checks, domains, limits and supplies. -/
def State.round (s : State) (temps : List Int) (supplies : List Nat) : State :=
  let first := !s.flag F.HK_STATUS_FIRST
  let s := (s.storeTemps temps).crossChecks temps
  let s := (List.range 25).foldl (fun s i => s.setFld (F.HK_TEMP_SUSPECT i) (b2n (s.suspect i || s.sensorOut i))) s
  let s := (List.range 5).foldl (fun s d => s.domainRound temps first d) s
  let s := s.thermalLimits temps
  let s := (List.range 11).foldl (fun s i => s.supplyRound i (supplies.getD i 0)) s
  s.setFld F.HK_STATUS_FIRST 1

end Sys2Proof.Machine
end

