-- ==== Sys2Proof/Machine/Calibration.lean ====
section
/-!
DEFINITION. Sys2Proof/Machine/Calibration.lean: Primrose (R510-R517, R522): triggers, the conditions of R513, attempts as Table
18-5 states, CAL_RUN and CAL_SET_POLICY. An attempt's key is 4096 * item + 64 * unit + group.
-/
namespace Sys2Proof.Machine

def calItem (k : Nat) : Nat := k / 4096
def calUnit (k : Nat) : Nat := k / 64 % 64
def calGroup (k : Nat) : Nat := k % 64
def calKey (item unit group : Nat) : Nat := 4096 * item + 64 * unit + group

/-- Units of an item, and the items kept by group (Table 18-4). -/
def itemUnits (item : Nat) : Nat := [5, 64, 64, 64, 64, 8].getD item 0
def perGroup (item : Nat) : Bool := decide (2 ≤ item ∧ item ≤ 4)

/-- Ticks of a run (Table 18-4). -/
def runTicks (item : Nat) : Nat := [960, 8, 16, 12, 10, 8].getD item 1

/-- The retirement unit of an attempt: none for kd. -/
def calSource (item unit : Nat) : Option Nat :=
  match item with
  | 0 => if unit < 4 then some (srcDie unit) else none
  | 1 | 2 => some (srcRx unit)
  | 3 | 4 => some (srcTx unit)
  | _ => some (srcOx unit)

/-- The converter die of a unit; 4 for kd. -/
def calDie (item unit : Nat) : Nat :=
  match item with
  | 0 => unit
  | 5 => unit / 2
  | _ => unit / 16

def State.calRetired (s : State) (item unit : Nat) : Bool :=
  match calSource item unit with
  | some u => s.isRetired u
  | none => false

def State.calEntry (s : State) (k : Nat) : CalEntry := sget (fun _ => CalEntry.init) s.cal.entries k
def State.putCal (s : State) (k : Nat) (e : CalEntry) : State :=
  { s with cal := { s.cal with entries := sput (fun _ => CalEntry.init) s.cal.entries k e } }

/-- The active calibration group of a unit (R157); 0 for items that are not per group. -/
def State.activeGroup (s : State) (item unit : Nat) : Nat :=
  if item = 2 then (s.freqEntry (s.rxEntry unit)).calGroup
  else if perGroup item then (s.freqEntry (s.txEntry unit)).calGroup
  else 0

/-- Temperature of a unit's domain [1/128 °C]. -/
def State.calTemp (s : State) (item unit : Nat) : Int := s.sfld (F.HK_DOM_STAT_TEMP (min (calDie item unit) 4))

/-- No background attempt starts: the control system is in TAKEOVER or SOLO, or the device is in QUIET or DOZE (R514). -/
def State.calSuspended (s : State) : Bool :=
  s.fld F.MBX_STATUS_MODE != 0 || s.fld F.PWR_STATUS_STATE == 2 || s.fld F.PWR_STATUS_STATE == 3

/-- CAL_STATUS as the attempts stand (Table 18-9). -/
def State.refreshCal (s : State) : State :=
  let due := (s.cal.entries.filter (fun e => e.2.phase == .due)).length
  let s := s.setFld F.CAL_STATUS_QUEUE (min due 255)
  let s := s.setFld F.CAL_STATUS_SUSPENDED (b2n s.calSuspended)
  s.setFld F.CAL_STATUS_BUSY (b2n (s.cal.entries.any (fun e => e.2.phase == .running)))

/-! ### Triggers (R512) -/

/-- An IDLE attempt becomes DUE. -/
def State.calDue (s : State) (k : Nat) (cause : CalCause) (fore : Bool) (moved : Int) : State :=
  let e := s.calEntry k
  if e.phase = .idle then
    s.putCal k { e with phase := .due, cause := cause, fore := fore, since := s.elapsed, moved := moved, starved := false }
  else s

/-- The domain temperature has moved by more than DELTA since the item's last agreed result, for items 1 to 5 with AUTO 1. -/
def State.tempTriggers (s : State) : State :=
  let s := s.cal.entries.foldl (fun s x =>
    let k := x.1
    let e := x.2
    let i := calItem k
    let m : Int := ((s.calTemp i (calUnit k) - e.temp).natAbs : Nat)
    if i ≠ 0 ∧ e.valid ∧ s.flag (F.CAL_POL_AUTO i) ∧ (128 * s.fld (F.CAL_POL_DELTA i) : Nat) < m ∧
        calGroup k = s.activeGroup i (calUnit k) then s.calDue k .temperature false m else s) s
  s.refreshCal

/-- The fixed round's readings: the 25 sensors [1/128 °C] and the 11 supplies [0.1 mV]. -/
def State.hkRound (s : State) (temps : List Int) (supplies : List Nat) : State := (s.round temps supplies).tempTriggers

/-- A path has selected a group that an item has never calibrated on it (R159, R512), between two states of a commit. -/
def State.firstGroups (s old : State) : State :=
  let changed := fun (a b : FreqEntry) => b.defined && (a.calGroup != b.calGroup || !a.defined)
  let s := (List.range 64).foldl (fun s p =>
    let due := fun (s : State) (item : Nat) =>
      let k := calKey item p (s.activeGroup item p)
      if (s.calEntry k).valid || s.calRetired item p then s else s.calDue k .firstGroup false 0
    let s := if changed (old.freqEntry (old.rxEntry p)) (s.freqEntry (s.rxEntry p)) then due s 2 else s
    if changed (old.freqEntry (old.txEntry p)) (s.freqEntry (s.txEntry p)) then due (due s 3) 4 else s) s
  s.refreshCal

/-! ### Where an attempt may run (R513, R514) -/

/-- PAEN of path `p`, and TRSW of quad `n`, stay low throughout the tick `i` ticks on, as the schedule drives them. -/
def State.paenLow (s : State) (p i : Nat) : Bool :=
  (List.range 32).all (fun f => !s.dlWindow (p / 4) (s.frameTickIn i) f (s.fld F.FES_TIMING_PA_LEAD) (s.fld F.FES_TIMING_PA_LAG))
def State.trswLow (s : State) (n i : Nat) : Bool :=
  (List.range 32).all (fun f => !s.dlWindow n (s.frameTickIn i) f (s.fld F.FES_TIMING_TR_LEAD) (s.fld F.FES_TIMING_TR_LAG))

/-- A receive path has an enabled stream. -/
def State.rxUsed (s : State) (p : Nat) : Bool := (List.range 4).any (s.rxEn p)

/-- One endless gap: the quad is not in FES_QUADS, or the stem has no enabled stream. -/
def State.endlessGap (s : State) (item p : Nat) : Bool :=
  !bitAt (s.fld F.FES_QUADS_QUADS) (p / 4) || (if item ≤ 2 then !s.rxUsed p else !s.txUsed p)

/-- The next ticks hold three runs: GAP ticks with PAEN low for a DAC; ticks with TRSW low, ending G ticks before a UL tick,
for an ADC or attenuator. A receiver's item needs no gap. -/
def State.roomForThree (s : State) (item p : Nat) : Bool :=
  let n := 3 * runTicks item
  if item = 5 ∨ s.endlessGap item p then true
  else if item ≤ 2 then
    (List.range n).all (fun i => s.trswLow (p / 4) (i + 1)) &&
    (List.range (n + s.guardTicks p)).all (fun i => s.pathClass p (s.frameTickIn (i + 1)) != some .ul)
  else (List.range n).all (fun i => s.pathClass p (s.frameTickIn (i + 1)) == some .gap && s.paenLow p (i + 1))

/-- The receiver an attempt of item 4 or 5 holds. -/
def calOx (item unit : Nat) : Option Nat := if item = 4 then some (unit / 8) else if item = 5 then some unit else none

/-- Engines of role CAL in service. -/
def State.calEngines (s : State) : Nat :=
  ((List.range 16).filter (fun e => s.role e == roleCal && s.engRun e == .running)).length

/-- Attempts that are RUNNING. -/
def State.calRunning (s : State) : List Nat := (s.cal.entries.filter (fun e => e.2.phase == .running)).map (·.1)

/-- The quad of an attempt on a path. -/
def calQuad (k : Nat) : Option Nat := if 1 ≤ calItem k ∧ calItem k ≤ 4 then some (calUnit k / 4) else none

/-- The transmit path whose DAC an item holds is READY (R161). -/
def State.calPathReady (s : State) (k : Nat) : Bool :=
  decide (calItem k < 3) || decide (4 < calItem k) || s.txReady (calUnit k) == .ready

/-- A test of a unit's return waits for this attempt (R530). -/
def State.calTests (s : State) (k : Nat) : Bool := s.fault.unitReset.any (fun u => u.cals.contains k && u.wakes.isEmpty)

/-- An attempt that is DUE may start now. -/
def State.calReady (s : State) (k : Nat) : Bool :=
  let item := calItem k
  let unit := calUnit k
  let e := s.calEntry k
  let run := s.calRunning
  e.phase == .due && !s.replaying && (!s.calRetired item unit || s.calTests k) && calGroup k == s.activeGroup item unit &&
  s.calPathReady k &&
  (e.fore || (!s.calSuspended && s.loop (calDie item unit) == .locked &&
    decide (run.length < s.calEngines) && s.roomForThree item unit)) &&
  (e.fore || (calQuad k).all (fun q => run.all (fun r => calQuad r != some q))) &&
  (calOx item unit).all (fun j => s.ox j == .idle && run.all (fun r => calOx (calItem r) (calUnit r) != some j))

/-- Rank of a cause in the order of R513. -/
def CalCause.rank : CalCause → Nat
  | .command | .bringUp => 0 | .firstGroup => 1 | .preempted => 2 | .temperature => 3

/-- Attempt `a` is taken before attempt `b` (R513). -/
def State.calBefore (s : State) (a b : Nat) : Bool :=
  let x := s.calEntry a
  let y := s.calEntry b
  if x.cause.rank ≠ y.cause.rank then decide (x.cause.rank < y.cause.rank)
  else if x.cause = .temperature ∧ x.moved ≠ y.moved then decide (y.moved < x.moved)
  else decide (calUnit a < calUnit b)

/-- An attempt starts: the domain temperature is recorded, and a transmit path's DAC is held (Tables 05-7, 18-5). -/
def State.calStart (s : State) (k : Nat) : State :=
  let item := calItem k
  let unit := calUnit k
  let e := s.calEntry k
  let s := s.putCal k { e with
    phase := .running, runs := [], nowTemp := s.calTemp item unit, scale := s.fld (F.CAL_POL_TOL_SCALE item) }
  let s := if (item = 3 ∨ item = 4) ∧ s.txReady unit = .ready then s.setReady unit .cal else s
  s.refreshCal

/-- CAL_ATTEMPT_START: nothing where R513 does not let this attempt start now, or another that may start comes first. -/
def execCalAttemptStart (key : Fin 24576) (s : State) : Host.Outcome State Fault Refusal :=
  let k := key.val
  let first := s.cal.entries.all (fun e => e.1 == k || !(s.calReady e.1 && s.calBefore e.1 k))
  .next (if s.calReady k && first then s.calStart k else s)

/-! ### Runs and results (R511, R515) -/

/-- Tolerance of component `i` of an item at TOL_SCALE 4, in the component's unit (Table 18-4, log entry 43). -/
def calTolerance (item i : Nat) : Nat :=
  match item with
  | 0 => 2
  | 1 | 5 => [25, 10, 20].getD (i % 3) 0
  | 2 => 5
  | 3 => [20, 30].getD (i % 2) 0
  | _ => [50, 50].getD (i % 2) 0

/-- Two runs agree: every component differs by no more than its tolerance * TOL_SCALE / 4. -/
def runsAgree (item scale : Nat) (a b : List Int) : Bool :=
  (List.range (max a.length b.length)).all (fun i =>
    decide (4 * (a.getD i 0 - b.getD i 0).natAbs ≤ calTolerance item i * scale))

/-- The mean of two runs, rounded convergently. -/
def runMean (a b : List Int) : List Int := (a.zip b).map (fun (x, y) => roundEven (x + y) 1)

/-- A CAL_RUN whose last attempt has ended is complete (R516). -/
def State.settleCal (s : State) : State :=
  let done := s.cal.commands.filter (fun c => c.keys.isEmpty)
  let s := { s with cal := { s.cal with commands := s.cal.commands.filter (fun c => !c.keys.isEmpty) } }
  done.foldl (fun s c =>
    s.finishPart c.tag .ok (decide (c.part ≠ 0))
      (leBytes 8 c.disagreed ++ leBytes 8 c.retired ++ (if c.part = 0 then [] else leBytes 8 c.part))) s

/-- FIRST_DONE once every forced attempt of bring-up has left RUNNING. -/
def State.noteForced (s : State) : State :=
  if s.cal.entries.any (fun e => e.2.cause == .bringUp && (e.2.phase == .due || e.2.phase == .running)) then s
  else s.setFld F.CAL_STATUS_FIRST_DONE 1

/-- An attempt leaves RUNNING: what it holds is returned, commands that wait for it learn how it ended, and the tests of a
unit reset note a disagreement (R530). -/
def State.calEnd (s : State) (k : Nat) (disagreed retired : Bool) : State :=
  let item := calItem k
  let unit := calUnit k
  let forced := (s.calEntry k).cause == .bringUp
  let s := if (item = 3 ∨ item = 4) ∧ s.txReady unit = .cal then s.setReady unit .ready else s
  let cs := s.cal.commands.map (fun c =>
    if c.keys.contains k then
      { c with
        keys := c.keys.filter (fun x => x != k)
        disagreed := if disagreed then putBits c.disagreed unit 1 1 else c.disagreed
        retired := if retired then putBits c.retired unit 1 1 else c.retired }
    else c)
  let ur := s.fault.unitReset.map (fun (u : UnitReset) =>
    if u.cals.contains k then
      { u with
        cals := u.cals.filter (fun x => x != k)
        failed := if disagreed then u.failed ++ (calSource item unit).toList.map (fun x => (x, 31)) else u.failed }
    else u)
  let s := { s with cal := { s.cal with commands := cs }, fault := { s.fault with unitReset := ur } }
  let s := s.settleCal.refreshCal
  if forced then s.noteForced else s

/-- A result is taken: it takes effect on the boundary that closes the tick. -/
def State.calAgree (s : State) (k : Nat) (result : List Int) : State :=
  let e := s.calEntry k
  (s.putCal k { e with
    phase := .idle, valid := true, staged := some result, temp := e.nowTemp, count := 0, runs := [] }).calEnd k false false

/-- All three runs disagree: HOLDOFF, or at MAX_DIS the unit retires on the boundary that opens the next tick. -/
def State.calDispute (s : State) (k : Nat) : State :=
  let item := calItem k
  let unit := calUnit k
  let e := s.calEntry k
  let n := e.count + 1
  let src := calSource item unit
  let s := s.addFld F.CAL_DISAGREE_COUNT 1
  let s := s.raise 0xD021 (item * 2 ^ 16 + unit * 2 ^ 8 + n % 16) (src.getD srcOther) sevWarning
  if n < s.fld (F.CAL_POL_MAX_DIS item) then
    (s.putCal k { e with phase := .holdoff, count := n, runs := [], since := s.elapsed }).calEnd k true false
  else
    let s := (s.putCal k { e with phase := .retired, count := n, runs := [] }).addFld F.CAL_RETIRED_COUNT 1
    let s := match src with
      | some u => { s with fault := { s.fault with promoted := s.fault.promoted ++ [(u, 31)] } }
      | none => s.coreBlockFault 31
    s.calEnd k true true

/-- A REF run measures the resistor (R510): beyond 2 % the fault is reported, and the run's result is not taken. -/
def State.xresRun (s : State) (dev : Int) : State :=
  let s := s.setFld F.CAL_XRES_DEV (encode2c 16 dev)
  if 200 < dev.natAbs then
    ((s.setFld F.CAL_STATUS_XRES_FAULT 1).raiseFree 0xD020 srcOther sevCritical).refreshReplace
  else s

/-- A run of a RUNNING attempt ends with its components; a REF run also with the deviation of the resistor on XRES
[0.01 %]. -/
def State.calRunComplete (s : State) (k : Nat) (comps : List Int) (xres : Int) : State :=
  let e := s.calEntry k
  let item := calItem k
  if e.phase ≠ .running then s
  else
    let s := s.addFld F.CAL_RUNS_COUNT 1
    let s := if item = 0 then s.xresRun xres else s
    if item = 0 ∧ 200 < xres.natAbs then
      ((s.putCal k { s.calEntry k with phase := .idle, runs := [] }).calEnd k false false)
    else
      let more := s.putCal k { s.calEntry k with runs := e.runs ++ [comps] }
      match e.runs with
      | [] => more
      | [a] => (if runsAgree item e.scale a comps then s.calAgree k (runMean a comps) else more)
      | a :: b :: _ =>
        (if runsAgree item e.scale b comps then s.calAgree k (runMean b comps)
          else if runsAgree item e.scale a comps then s.calAgree k (runMean a comps)
          else s.calDispute k)

/-- CAL_VALID of a path's active group (R159). -/
def State.refreshCalValid (s : State) (p : Nat) : State :=
  let f := s.freqEntry (s.txEntry p)
  let v := f.defined && (List.range 2).all (fun i => (s.calEntry (calKey (3 + i) p f.calGroup)).valid)
  s.setFld (F.TXP_FREQ_CAL_VALID p) (b2n v)

/-- Results take effect on the boundary that closes the tick in which their attempt ended (R515). -/
def State.calApply (s : State) : State :=
  (s.cal.entries.filter (fun e => e.2.staged.isSome)).foldl (fun s e =>
    let s := s.putCal e.1 { e.2 with result := e.2.staged.getD [], staged := none }
    if calItem e.1 = 3 ∨ calItem e.1 = 4 then s.refreshCalValid (calUnit e.1) else s) s

/-- HOLDOFF ends after 384,000 ticks (Table 18-5). -/
def execCalHoldoffExpiry (key : Fin 24576) (s : State) : Host.Outcome State Fault Refusal :=
  let k := key.val
  let e := s.calEntry k
  .next (if e.phase = .holdoff ∧ e.since + 384000 ≤ s.elapsed then
    (s.putCal k { e with phase := .due, since := s.elapsed, starved := false }).refreshCal else s)

/-- One second DUE without R513: reported the first time (Table 18-5). -/
def execCalStarved (key : Fin 24576) (s : State) : Host.Outcome State Fault Refusal :=
  let k := key.val
  let e := s.calEntry k
  .next (if e.phase = .due ∧ e.since + 3840000 ≤ s.elapsed ∧ !e.starved ∧ !s.calReady k then
    (s.putCal k { e with starved := true }).raise 0xD023 (calItem k * 2 ^ 16 + calUnit k * 2 ^ 8 + e.count % 16)
      ((calSource (calItem k) (calUnit k)).getD srcOther) sevWarning
  else s)

/-- Attempts in progress are discarded without counting, on entry to TAKEOVER, SOLO, QUIET or DOZE (R514). -/
def State.calDiscard (s : State) : State :=
  (s.calRunning.foldl (fun s k =>
    let s := s.putCal k { s.calEntry k with phase := .due, runs := [], since := s.elapsed }
    if s.txReady (calUnit k) = .cal ∧ (calItem k = 3 ∨ calItem k = 4) then s.setReady (calUnit k) .ready else s) s).refreshCal

/-! ### Forced attempts of bring-up (R512) -/

/-- Items 0, 1 and 5 for every healthy unit, in foreground; those that may start do so at once. -/
def State.calForce (s : State) : State :=
  let keys := (List.range 5).map (fun u => calKey 0 u 0) ++ (List.range 64).map (fun u => calKey 1 u 0) ++
    (List.range 8).map (fun u => calKey 5 u 0)
  let live := keys.filter (fun k => !s.calRetired (calItem k) (calUnit k))
  let s := (live.foldl (fun s k => s.calDue k .bringUp true 0) s).refreshCal
  (live.foldl (fun s k => if s.calReady k then s.calStart k else s) s).noteForced

/-! ### Commands (R516, R517) -/

def calUnitsOf (c : Cmd) : List Nat := maskList 64 (leAt c.payload 4 8)

/-- Check 8 of CAL_RUN: not in DOZE; background not in SOLO (R86, R516). -/
def ctxCalRun (s : State) (c : Cmd) : Option Status :=
  if s.fld F.PWR_STATUS_STATE = 3 ∨ (leAt c.payload 1 1 = 0 ∧ 2 ≤ s.fld F.MBX_STATUS_MODE) then some .notPermitted else none

/-- The unit's quad, or its die for item 0, has an enabled stream in FES_QUADS. -/
def State.calOnAir (s : State) (item unit : Nat) : Bool :=
  let busy := fun n => bitAt (s.fld F.FES_QUADS_QUADS) n && (quadPaths n).any (fun p => s.rxUsed p || s.txUsed p)
  match item with
  | 0 => decide (unit < 4) && (List.range 4).any (fun i => busy (4 * unit + i))
  | 5 => busy (2 * unit) || busy (2 * unit + 1)
  | _ => busy (unit / 4)

/-- Check 11 of CAL_RUN. -/
def chkCalRun (s : State) (c : Cmd) : Option Status :=
  let p := c.payload
  let item := leAt p 0 1
  let mode := leAt p 1 1
  let g := leAt p 2 1
  let us := calUnitsOf c
  if p.length ≠ 16 ∨ 6 ≤ item ∨ 2 ≤ mode ∨ (64 ≤ g ∧ g ≠ 255) ∨ !zeroAt p 3 1 ∨ !zeroAt p 12 4 ∨ us.isEmpty ∨
      us.any (fun u => decide (itemUnits item ≤ u)) ∨ (g ≠ 255 ∧ !perGroup item) ∨ (item = 0 ∧ mode = 0) then some .badParam
  else if mode = 1 ∧ us.any (s.calOnAir item) then some .notPermitted
  else if us.all (s.calRetired item) then some .resourceRetired
  else none

/-- CAL_RUN: foreground attempts start at once, background ones are queued. -/
def execCalRun (tag : Nat) (s : State) : Host.Outcome State Fault Refusal :=
  .next (s.performStart 0x0A00 tag anyOp (fun c s =>
    let item := leAt c.payload 0 1
    let fore := leAt c.payload 1 1 == 1
    let us := calUnitsOf c
    let live := us.filter (fun u => !s.calRetired item u)
    let keys := live.map (fun u => calKey item u (if leAt c.payload 2 1 = 255 then s.activeGroup item u else leAt c.payload 2 1))
    let part := listMask 64 (us.filter (s.calRetired item))
    let s := keys.foldl (fun s k =>
      let e := s.calEntry k
      if e.phase = .idle ∨ e.phase = .due ∨ (fore ∧ e.phase = .holdoff) then
        let since := if e.phase = .due then e.since else s.elapsed
        let s := s.putCal k { e with phase := .due, cause := .command, fore := fore, since := since }
        if fore ∧ s.calReady k then s.calStart k else s
      else s) s
    { s with cal := { s.cal with commands := s.cal.commands ++ [CalCommand.mk c.tag keys s.elapsed 0 0 part] } }.settleCal.refreshCal))

/-- A CAL_RUN still pending after 3,840,000 ticks completes with TIMEOUT; its attempts stay queued. -/
def execCalRunTimeout (tag : Nat) (s : State) : Host.Outcome State Fault Refusal :=
  match s.cal.commands.find? (fun c => c.tag == tag) with
  | some c =>
    .next (if c.started + 3840000 ≤ s.elapsed then
      { s with cal := { s.cal with commands := s.cal.commands.filter (fun c => c.tag != tag) } }.finishNow tag .timeout []
    else s)
  | none => .next s

/-- Check 11 of CAL_SET_POLICY. -/
def chkCalSetPolicy (c : Cmd) : Option Status :=
  let p := c.payload
  if p.length ≠ 8 ∨ 6 ≤ leAt p 0 1 ∨ leAt p 1 1 = 0 ∨ 30 < leAt p 1 1 ∨ leAt p 2 1 = 0 ∨ 15 < leAt p 2 1 ∨
      2 ≤ leAt p 3 1 ∨ leAt p 4 1 = 0 ∨ 16 < leAt p 4 1 ∨ !zeroAt p 5 3 then some .badParam
  else none

/-- CAL_SET_POLICY writes CAL_POL of the item. -/
def execCalSetPolicy (tag : Nat) (s : State) : Host.Outcome State Fault Refusal :=
  .next (s.performStart 0x0A01 tag anyOp (fun c s =>
    let p := c.payload
    let i := leAt p 0 1
    let s := (s.setFld (F.CAL_POL_DELTA i) (leAt p 1 1)).setFld (F.CAL_POL_MAX_DIS i) (leAt p 2 1)
    let s := (s.setFld (F.CAL_POL_AUTO i) (leAt p 3 1)).setFld (F.CAL_POL_TOL_SCALE i) (leAt p 4 1)
    s.finishNow c.tag .ok []))

/-- The code of an attempt's state in CAL_RES_DATA. -/
def CalPhase.code : CalPhase → Nat
  | .idle => 0 | .due => 1 | .running => 2 | .holdoff => 3 | .retired => 4

/-- A read of CAL_RES_DATA returns the state at INDEX and advances INDEX (R522). -/
def State.readCalRes (s : State) : Nat × State :=
  let i := s.fld F.CAL_RES_ADDR_INDEX
  let e := s.calEntry i
  (2 ^ 31 * b2n e.valid + 2 ^ 28 * e.phase.code + 2 ^ 24 * (e.count % 16) + encode2c 16 e.temp,
    s.setFld F.CAL_RES_ADDR_INDEX ((i + 1) % 2 ^ 15))

end Sys2Proof.Machine
end

