-- ==== Sys2Proof/Machine/Mailbox.lean ====
section
/-!
DEFINITION. Sys2Proof/Machine/Mailbox.lean: Privi's transports (R62-R67, R89, R90), result reads (R65, Table 03-5), storing results
(R73, R74), and the SYS commands of chapter 03 (R80-R83). Acceptance itself is in Accept.lean.
-/
namespace Sys2Proof.Machine

/-! ### PCIe rings (R63) -/

/-- Counts packets a transport has discarded (MBX_DISC). -/
def State.discPcie (s : State) : State := s.addFld F.MBX_DISC_PCIE 1
def State.discSpi (s : State) : State := s.addFld F.MBX_DISC_SPI 1
def State.discInb (s : State) : State := s.addFld F.MBX_DISC_INB 1

def State.setMbxIrq (s : State) (f : Fld) : State := s.setIrq f 1

/-- Slots between the producer and the consumer of the command ring. -/
def State.cmdAhead (s : State) : Nat := (s.fld F.MBX_CMD_PROD_INDEX + 2 ^ 16 - s.fld F.MBX_CMD_CONS_INDEX) % 2 ^ 16

/-- The doorbell: the index is stored; a producer more than 2^k ahead stops the ring until it is back within 2^k. -/
def State.doorbell (s : State) (index : Nat) : State :=
  let s := s.setFld F.MBX_CMD_PROD_INDEX index
  if ringSlots (s.fld F.MBX_CMD_SIZE_LOG2) < s.cmdAhead then
    let s := (s.setMbxIrq F.MBX_IRQ_STAT_RING_ERR).discPcie
    s.putPrivi { s.privi with ringError := true }
  else s.putPrivi { s.privi with ringError := false }

/-- RING_RESET: both rings' indices to 0 while PCIE_EN is 0. -/
def State.ringReset (s : State) : State :=
  if s.flag F.MBX_CTRL_PCIE_EN then s
  else
    let s := (s.setFld F.MBX_CMD_PROD_INDEX 0).setFld F.MBX_CMD_CONS_INDEX 0
    let s := (s.setFld F.MBX_RPL_PROD_INDEX 0).setFld F.MBX_RPL_CONS_INDEX 0
    s.putPrivi { s.privi with ringError := false }

/-- The address of reply-ring slot `i`. -/
def State.replySlot (s : State) (i : Nat) : Nat :=
  2 ^ 32 * s.fld F.MBX_RPL_BASE_HI_BASE + 8192 * s.fld F.MBX_RPL_BASE_LO_BASE + 8192 * (i % ringSlots (s.fld F.MBX_RPL_SIZE_LOG2))

/-- The oldest waiting PCIe reply is written into the ring where it has room, and MBX_RPL_PROD advances. -/
def State.writeReply (s : State) : State :=
  match s.privi.pcieReplies with
  | [] => s
  | r :: rest =>
    if s.replyRingFull then s
    else
      let i := s.fld F.MBX_RPL_PROD_INDEX
      let s := (s.hostWrite (s.replySlot i) r).setFld F.MBX_RPL_PROD_INDEX ((i + 1) % 2 ^ 16)
      (s.setMbxIrq F.MBX_IRQ_STAT_REPLY).putPrivi { s.privi with pcieReplies := rest }

/-- REPLY_RING_WRITE; `pcieOk` false: the access failed on PCIe, RING_ERR is set and the reply still waits (Table 03-10). -/
def execReplyRingWrite (pcieOk : Bool) (s : State) : Host.Outcome State Fault Refusal :=
  .next (if pcieOk then s.writeReply
    else if s.privi.pcieReplies.isEmpty || s.replyRingFull then s else s.setMbxIrq F.MBX_IRQ_STAT_RING_ERR)

/-! ### SPI frames (R64) -/

/-- Privi's domain is on: in STANDBY it is off, and SPI frames for it are ignored (R88). -/
def State.ctlOn (s : State) : Bool := s.domain 1 != 0

/-- A COMMAND frame's bytes reach the length that its header implies. -/
def frameComplete (bs : List Byte) : Bool := decide (8 ≤ bs.length) && decide (20 + leAt bs 6 2 ≤ bs.length)

/-- An SPI COMMAND frame. -/
def execSpiCommand (bs : List Byte) (s : State) : Host.Outcome State Fault Refusal :=
  .next (
    if !s.ctlOn then s
    else if !s.flag F.MBX_CTRL_SPI_EN || !frameComplete bs || decide (2 ≤ s.privi.spiCmds.length) then s.discSpi
    else s.putPrivi { s.privi with spiCmds := s.privi.spiCmds ++ [bs] })

/-- An SPI FETCH frame: the oldest queued reply, whose place the oldest waiting one takes, or a single 0. -/
def execSpiFetch (s : State) : Host.Outcome State Fault Refusal :=
  match s.privi.spiReplies with
  | [] => .next (s.emit (.spi [0]))
  | r :: rest =>
    .next ((s.putPrivi { s.privi with
      spiReplies := rest ++ s.privi.spiWait.take 1, spiWait := s.privi.spiWait.drop 1 }).emit (.spi r))

/-- An SPI STATUS frame: READY, REPLY_WAITING, CMD_SPACE and the number of queued replies. -/
def State.spiStatus (s : State) : List Byte :=
  let n := s.privi.spiReplies.length
  let space := s.ctlOn && s.flag F.MBX_CTRL_SPI_EN && decide (s.privi.spiCmds.length < 2)
  leBytes 1 (s.fld F.MBX_STATUS_READY + 2 * b2n (decide (0 < n)) + 4 * b2n space) ++ leBytes 1 n ++ leBytes 2 0

def execSpiStatus (s : State) : Host.Outcome State Fault Refusal := .next (s.emit (.spi s.spiStatus))

/-! ### Result reads (R65) -/

/-- A result-read request passes its length, magic, version and CRC. -/
def readRequestOk (bs : List Byte) : Bool :=
  bs.length == 12 && leAt bs 0 1 == 0x52 && leAt bs 1 1 == 0x02 && slice bs 8 4 == crcBytes (bs.take 8)

/-- A control pair is taking over: Privi answers nothing until it has (R85). -/
def State.inTakeover (s : State) : Bool := s.fld F.MBX_STATUS_MODE == 1

/-- The answer to a result-read request goes back on its transport. -/
def State.answerRead (s : State) (via : Transport) (sender : ReplyTo) (bs : List Byte) : State :=
  let (r, s) := s.readResult (leAt bs 2 2)
  s.sendReply via sender r

/-- SPI result-read requests that waited for the end of a takeover are answered in order. -/
def State.answerWaiting (s : State) : State :=
  let l := s.privi.spiReads
  l.foldl (fun s bs => s.answerRead .spi ReplyTo.none bs) (s.putPrivi { s.privi with spiReads := [] })

/-- RESULT_READ: an SPI request frame, or (none) the oldest in-band packet, where that is a result-read request. A request that passes
its checks is answered; over SPI with eight replies queued its answer waits for room (R68, log 97). -/
def execResultRead (spi : Option (List Byte)) (s : State) : Host.Outcome State Fault Refusal :=
  match spi with
  | some bs =>
    .next (
      if !s.ctlOn then s
      else if !s.flag F.MBX_CTRL_SPI_EN || !readRequestOk bs then s.discSpi
      else if s.inTakeover then s.putPrivi { s.privi with spiReads := s.privi.spiReads ++ [bs] }
      else s.answerRead .spi ReplyTo.none bs)
  | none =>
    match s.privi.inbPackets with
    | [] => .next s
    | (bs, sender) :: rest =>
      .next (
        if leAt bs 0 1 ≠ 0x52 ∨ s.inTakeover then s
        else
          let s := s.putPrivi { s.privi with inbPackets := rest }
          if readRequestOk bs then s.answerRead .inband sender bs else s.discInb)

/-- A write of MBX_RES_TAG starts a fetch, with no effect while one is in progress (R89). -/
def State.fetchResult (s : State) (tag : Nat) : State :=
  if s.flag F.MBX_RES_STAT_BUSY then s
  else
    let s := (s.setFld F.MBX_RES_STAT_BUSY 1).setFld F.MBX_RES_STAT_VALID 0
    s.putPrivi { s.privi with fetchTag := some tag }

/-- The fetch completes: MBX_RES_WIN holds the reply. It waits for the end of a takeover (R85). -/
def execMbxResFetchComplete (s : State) : Host.Outcome State Fault Refusal :=
  match s.privi.fetchTag with
  | none => .next s
  | some tag =>
    if s.inTakeover then .next s else
    let (r, s) := s.readResult tag
    let s := (s.setFld F.MBX_RES_STAT_BUSY 0).setFld F.MBX_RES_STAT_VALID 1
    let s := s.setFld F.MBX_RES_STAT_STATUS (leAt r 6 1)
    .next (s.putPrivi { s.privi with fetchTag := none, resWin := r })

/-- COMMAND_COMPLETE: the result of a command that has ended is stored in its slot. -/
def execCommandComplete (tag : Nat) (s : State) : Host.Outcome State Fault Refusal := .next (s.storeResult tag)

/-- GROUP_ABANDONED: a group not closed within 3,840 ticks of its first member's acceptance (R77). -/
def execGroupAbandoned (id : Nat) (s : State) : Host.Outcome State Fault Refusal :=
  match s.privi.groups.find? (fun g => g.id == id) with
  | some g =>
    .next (if id < 65536 ∧ g.opened + 3840 ≤ s.elapsed then
      let s := s.putPrivi { s.privi with groups := s.privi.groups.filter (fun x => x.id != id) }
      g.members.foldl (fun s c => s.finishNow c.tag .timeout []) s
    else s)
  | none => .next s

/-! ### SYS commands (R80-R83) -/

/-- SYS_NOP, but for one that closes a group. -/
def execSysNop (tag : Nat) (s : State) : Host.Outcome State Fault Refusal :=
  .next (s.performStart 0x0100 tag (fun c => !c.atomic) (fun c s => s.finishNow c.tag .ok []))

/-- Check 11 of the commands without payload. -/
def chkNoPayload (c : Cmd) : Option Status := if c.payload.isEmpty then none else some .badParam

/-- Table 03-8a. -/
def State.identity (s : State) : List Byte :=
  let rev := (resetWord 0x8).toNat
  leBytes 16 Config.deviceId ++ leBytes 2 0x6408 ++ leBytes 1 (rev / 256) ++ leBytes 1 rev ++
  leBytes 4 (s.reg 0xC).toNat ++ leBytes 4 (s.reg 0x10).toNat ++ leBytes 1 s.sec.arc ++ leBytes 3 0 ++
  ([64, 64, 8, 16, 4, 8, 4, 4, 16, 4].flatMap (leBytes 1)) ++ leBytes 6 0

def execSysIdentify (tag : Nat) (s : State) : Host.Outcome State Fault Refusal :=
  .next (s.performStart 0x0101 tag anyOp (fun c s => s.finishNow c.tag .ok s.identity))

/-- The retired units of a type as a mask. -/
def State.retiredMask (s : State) (ty n : Nat) : Nat := listMask n ((List.range n).filter (fun i => s.isRetired (srcCode ty i)))

/-- Table 03-8b. -/
def State.health (s : State) : List Byte :=
  leBytes 1 (s.fld F.PWR_STATUS_STATE) ++ leBytes 1 (s.fld F.TCK_STATUS_STATE) ++ leBytes 1 (s.fld F.MBX_STATUS_MODE) ++
  leBytes 1 (s.fld F.EVR_STATUS_REPLACE) ++ leBytes 4 0 ++ leBytes 8 (s.retiredMask 0 64) ++ leBytes 8 (s.retiredMask 1 64) ++
  leBytes 1 (s.retiredMask 3 8) ++ leBytes 1 (s.retiredMask 5 8) ++ leBytes 2 (s.retiredMask 4 16) ++
  leBytes 1 (s.retiredMask 6 4 + 16 * s.retiredMask 7 4) ++ leBytes 1 (s.fld F.EVR_STATUS_BANK) ++
  leBytes 1 s.privi.slots.length ++ leBytes 1 (s.fld F.MBX_SLOT_USE_GROUPS) ++ leBytes 8 s.ev.evseq

def execSysGetHealth (tag : Nat) (s : State) : Host.Outcome State Fault Refusal :=
  .next (s.performStart 0x0103 tag anyOp (fun c s => s.finishNow c.tag .ok s.health))

/-- The tags a RESULT_ACK names. -/
def ackTags (c : Cmd) : List Nat := (List.range (leAt c.payload 0 2)).map (fun i => leAt c.payload (4 + 2 * i) 2)

/-- Check 11 of RESULT_ACK: the count, zero fields and padding (R83). -/
def chkResultAck (c : Cmd) : Option Status :=
  let n := leAt c.payload 0 2
  if c.payload.length ≠ 4 + 4 * ((n + 1) / 2) ∨ !zeroAt c.payload 2 2 ∨ !zeroAt c.payload (4 + 2 * n) (2 * (n % 2)) then
    some .badParam
  else none

/-- One slot released (Table 03-5), with the counts of freed and RELEASING slots. -/
def State.releaseSlot (s : State) (tag : Nat) : State × Nat × Nat :=
  match s.slotOf tag with
  | none => (s, 0, 0)
  | some x =>
    match x.st with
    | .pending => (s.putPrivi { s.privi with slots := putSlot s.privi.slots tag (some { x with st := .releasing }) }, 0, 1)
    | .releasing => (s, 0, 0)
    | .ready | .read => (s.putPrivi { s.privi with slots := putSlot s.privi.slots tag none }, 1, 0)

/-- RESULT_ACK executes at once; its reply is sent only with ACK_REQ and never stored (R83). A dry run counts and releases
nothing (R71). -/
def execResultAck (tag : Nat) (s : State) : Host.Outcome State Fault Refusal :=
  match s.acceptedCmd 0x0105 tag with
  | none => .next s
  | some c =>
    let s := s.takeCmd c
    let tags := if leAt c.payload 0 2 = 0 then s.privi.slots.map (·.tag) else ackTags c
    let (t, freed, marked) := tags.foldl (fun (s, f, m) t =>
      let (s, f', m') := s.releaseSlot t
      (s, f + f', m + m')) (s, 0, 0)
    let s := if c.dryRun then s else t
    .next (if c.ackReq then
      s.sendUnstored c.via c.sender c.opcode c.tag .ok (leBytes 2 freed ++ leBytes 2 marked) (some s.tickno)
    else s)

end Sys2Proof.Machine
end

