-- ==== Sys2Proof/Machine/Sources.lean ====
section
/-!
DEFINITION. Sys2Proof/Machine/Sources.lean: what follows a loop's lock or unlock and the begin or end of the safe state in the
other blocks (R431, R444, Table 15-7), and the TSYNC edge (Table 02-1, R432-R434).
-/
namespace Sys2Proof.Machine

/-- The loop leaves LOCKED, or comes to it, between two states. -/
def loopLeft (old new : State) (l : Nat) : Bool := decide (old.loop l = .locked ∧ new.loop l ≠ .locked)
def loopCame (old new : State) (l : Nat) : Bool := decide (old.loop l ≠ .locked ∧ new.loop l = .locked)

/-- What the other blocks do when loops, the safe state or the count have changed from `old`: dies and lanes follow their
PLLs, lanes and ports the safe state, and a recording ends with the count (R431, R327, R302, R554). -/
def State.settleClocks (s old : State) : State :=
  let now := s
  let s := (List.range 4).foldl (fun s k =>
    if loopLeft old now k then s.pllUnlock k else if loopCame old now k then s.pllLock k else s) s
  let s := [6, 7].foldl (fun s l =>
    if loopLeft old now l ∧ now.loop l ≠ .holdover then s.lanePllUnlock l
    else if loopCame old now l then s.lanePllLock l else s) s
  let s := if !old.inSafe && now.inSafe then s.lanesSafe.portsSafe
    else if old.inSafe && !now.inSafe then s.lanesUnsafe else s
  let s := if old.counting && !now.counting then s.recAbort 6 else s
  s.refreshFes

/-- A change of the clocks with everything that follows it. -/
def State.clocked (s : State) (f : State → State) : State := (f s).settleClocks s

/-- A source trips (R443, R444). -/
def State.enterSafe (s : State) (b : Nat) : State := s.clocked (fun s => s.trip b)

/-- The edge finds the device in WAIT_TSYNC: bring-up's divider reset (R491). -/
def State.bootEdge (s : State) : Bool :=
  s.fld F.PWR_STATUS_STATE == 5 && s.fld F.PWR_STATUS_PHASE == 3 && !s.flag F.PWR_STATUS_NO_TSYNC && !s.flag F.CLK_SYNC_DONE

/-- A TSYNC edge on a counting Crocus; `marks`: it lies OFFSET periods before a boundary (Table 02-1). -/
def State.tsyncCount (s : State) (marks : Bool) : State :=
  let s := (s.noteItem (.time 0)).recFlag 0
  if s.flag F.TCK_CTRL_ALIGN_ARM then { s with tick := { s.tick with alignNext := true } }
  else if s.tickMode = .free then s.setFld F.TCK_STATUS_TSYNC_SEEN 1
  else
    let ft := s.fld F.TCK_FRAME_FRAME_TICK
    let next := if s.tick.first then ft else (nextFrame ft 0).1
    if marks ∧ next = 0 then s.setFld F.TCK_STATUS_TSYNC_SEEN 1
    else (s.setFld F.TCK_STATUS_TSYNC_MISMATCH 1).raiseFree 0x1003 srcOther sevWarning

/-- A TSYNC edge, `periods` REFCLK periods before the next boundary: the armed divider reset or bring-up's, the phase check,
and Crocus. -/
def State.tsyncEdge (s : State) (periods : Nat) : State :=
  if s.pwr.off ∨ !s.pwr.refPresent then s
  else
    let reset := s.flag F.CLK_SYNC_ARM || s.bootEdge
    let was := s.counting
    let s := if reset then s.clocked State.dividerReset else s
    if s.counting then
      let per := if s.fld F.CLK_CFG_REF_SEL = 0 then 128 else 32
      let marks := reset || periods % per == s.syncOffset
      let s := if was && !marks then (s.addFld F.CLK_TSYNC_ERR_COUNT 1).raiseFree 0x2004 srcOther sevWarning else s
      s.tsyncCount marks
    else s

end Sys2Proof.Machine
end

