-- ==== Sys2Proof/Machine/Pairs.lean ====
section
/-!
DEFINITION. Sys2Proof/Machine/Pairs.lean: the control system of Table 03-8 (R84-R86), what a takeover does to commands in flight,
and uncorrectable memory errors (R537, R539).
-/
namespace Sys2Proof.Machine

/-- The control mode changes: MODE_CHANGE, READY, which is 0 in TAKEOVER, and what follows the mode (R85, R89, R514, R527). -/
def State.setMode (s : State) (m : Nat) : State :=
  if s.fld F.MBX_STATUS_MODE = m then s
  else
    let s := (s.setFld F.MBX_STATUS_MODE m).setFld F.MBX_STATUS_READY (b2n (decide (m ≠ 1) && s.fld F.PWR_STATUS_PHASE == 4))
    (s.setMbxIrq F.MBX_IRQ_STAT_MODE_CHANGE).refreshReplace.refreshCal

/-! ### Commands that end before their work does -/

/-- No operation in progress answers a tag any more. -/
def State.forgetTag (s : State) (tag : Nat) : State :=
  { s with
    clk := { s.clk with relocking := s.clk.relocking.filter (fun e => e.1 != tag) }
    pwr := { s.pwr with
      trans := s.pwr.trans.map (fun t => if t.tag = some tag then { t with tag := none } else t)
      request := s.pwr.request.filter (fun r => r.tag != tag) }
    cal := { s.cal with commands := s.cal.commands.filter (fun c => c.tag != tag) }
    recd := { s.recd with
      stopNext := s.recd.stopNext.filter (fun t => t != tag)
      replay := s.recd.replay.map (fun r => if r.tag = tag then { r with tag := 2 ^ 16 } else r) }
    fault := { s.fault with unitReset := s.fault.unitReset.filter (fun u => u.tag != tag) }
    sec := { s.sec with activation := s.sec.activation.filter (fun a => a.tag != tag) }
    fh := { s.fh with portCmd := s.fh.portCmd.filter (fun e => e.2.1 != tag) }
    ln := { s.ln with waits := s.ln.waits.filter (fun w => w.tag != tag) }
    dma := { s.dma with waits := s.dma.waits.filter (fun w => w.2.1 != tag) }
    cas := { s.cas with discover := s.cas.discover.filter (fun d => d.tag != tag) } }

/-- Tags whose commit is armed, or whose LATE_START is still to be decided: they end as they would have. -/
def State.armedTags (s : State) : List Nat :=
  s.armed.flatMap (fun k => k.results.map (·.1)) ++ s.tx.waits.map (·.tag)

/-- Commands that hold a PENDING slot and have not ended, but for those with an armed commit, complete with INTERNAL; open
groups are gone with them (R85). -/
def State.failPending (s : State) : State :=
  let keep := s.armedTags
  let tags := (s.privi.slots.filter (fun x =>
    (x.st == .pending || x.st == .releasing) && x.outcome.isNone && !keep.contains x.tag)).map (·.tag)
  let s := s.putPrivi { s.privi with accepted := [], running := [], groups := [] }
  tags.foldl (fun s t => (s.finishNow t .internal []).forgetTag t) s

/-- What has ended is stored, in the order of the slots. -/
def State.storeEnded (s : State) : State :=
  ((s.privi.slots.filter (fun x => (x.st == .pending || x.st == .releasing) && x.outcome.isSome)).map (·.tag)).foldl
    State.storeResult s

/-! ### Lockstep (Table 03-8) -/

/-- An earlier mismatch of the pair lies within 1 s. -/
def State.mismatchRecent (s : State) (x : Nat) : Bool :=
  match sget (fun _ => 0) s.fault.mismatchAt x with
  | 0 => false
  | t + 1 => decide (s.elapsed ≤ t + 3840000)

/-- LOST: Privi stops, the safe state holds with CTL among its sources, and SERVICE_N is low; CONTROL_LOST is logged at the next
boot. -/
def State.controlLost (s : State) : State :=
  if s.fault.lost then s
  else
    let s := { s with fault := { s.fault with lost := true, lostLogged := true } }
    ((s.setFld F.MBX_STATUS_READY 0).enterSafe safeCtl).refreshService

/-- A control pair is retired until the next device reset. -/
def State.retirePair (s : State) (x : Nat) : State :=
  (((s.markRetired (srcPair x)).raiseFree 0x0004 (srcPair x) sevCritical)).refreshReplace

/-- A mismatch of the pair, or its watchdog (Table 03-8): a takeover from NORMAL; with the other pair lost already, LOST. In SOLO the
pair that was reset is retired for another mismatch within 1 s, and a later one resets it again (log 174). In TAKEOVER one of the pair
in reset does no more than raise its event (log 175). -/
def State.pairFails (s : State) (x : Nat) : State :=
  if s.fault.lost then s
  else if s.fld F.MBX_STATUS_MODE = 0 then
    let again := s.mismatchRecent x
    let s := s.raiseFree 0x0002 srcOther sevWarning
    let s := { s with fault := { s.fault with
      mismatchAt := sput (fun _ => 0) s.fault.mismatchAt x (s.elapsed + 1)
      lostPair := some x, bootWaiting := false, bootFailed := false, lostAgain := again } }
    ((s.setMode 1).servoHoldover.failPending.storeEnded).staleEstimates.calDiscard
  else if s.fault.lostPair = some x then
    if s.inTakeover ∨ s.isRetired (srcPair x) then s
    else if s.mismatchRecent x then { s with fault := { s.fault with bootWaiting := false } }.retirePair x
    else { s with fault := { s.fault with
      mismatchAt := sput (fun _ => 0) s.fault.mismatchAt x (s.elapsed + 1), bootWaiting := false, lostAgain := false } }
  else
    s.controlLost

def execLockstepMismatch (x : Fin 2) (s : State) : Host.Outcome State Fault Refusal :=
  .next ((if s.fault.lost then s else s.raiseFree 0x0001 (srcPair x.val) sevError).pairFails x.val)

/-- FW_WATCHDOG is handled as a lockstep mismatch (R539). -/
def execFwWatchdog (x : Fin 2) (s : State) : Host.Outcome State Fault Refusal :=
  .next ((if s.fault.lost then s else s.raiseFree 0x0006 (srcPair x.val) sevError).pairFails x.val)

/-- The SOLO rows of Table 03-8 for a pair that has ended its self-test and boot: it waits for a frame boundary, or is retired for a
failed boot or an earlier mismatch within 1 s. -/
def State.soloRows (s : State) : State :=
  match s.fault.lostPair with
  | some x =>
    if s.fault.bootFailed ∨ (s.fault.bootWaiting ∧ s.fault.lostAgain) then
      { s with fault := { s.fault with bootWaiting := false, bootFailed := false } }.retirePair x
    else s
  | none => s

/-- TAKEOVER_COMPLETE: the survivor runs all duties, and SOLO's rows apply to a pair that has booted already (R84). -/
def execTakeoverComplete (s : State) : Host.Outcome State Fault Refusal :=
  .next (if s.inTakeover ∧ !s.fault.lost then
      (s.setMode (if s.fault.lostPair = some 1 then 2 else 3)).answerWaiting.soloRows
    else s)

/-- The pair in reset has ended its self-test and boot; in TAKEOVER what follows waits for SOLO (R84). -/
def State.pairBoots (s : State) (x : Nat) (ok : Bool) : State :=
  if s.fault.lostPair ≠ some x ∨ s.isRetired (srcPair x) ∨ s.fault.lost then s
  else
    let t := { s with fault := { s.fault with bootWaiting := ok, bootFailed := !ok } }
    if s.inTakeover then t else t.soloRows

/-- A frame boundary in SOLO: a pair that waits resumes its duties. -/
def State.pairResumes (s : State) : State :=
  if s.fault.bootWaiting ∧ 2 ≤ s.fld F.MBX_STATUS_MODE ∧ s.frameTick = 0 ∧ !s.fault.lost then
    let s := { s with fault := { s.fault with bootWaiting := false, lostPair := none } }
    (s.setMode 0).raiseFree 0x0003 srcOther sevInfo
  else s

/-! ### Uncorrectable memory errors (R537, R539) -/

/-- LOG_MEM_FAIL: Lavender switches to the shadow bank, and raises the event that will be the first record there (R537). -/
def State.logMemFail (s : State) (injected : Bool) (value : Option Nat) : State :=
  if s.inShadow then s
  else
    let (v, s) := match value with
      | some v => (v, s)
      | none => s.fresh 32
    s.toShadow.raiseEv ⟨s.tickno, 0xF001, v % 2 ^ 32, srcBlock 16, sevCritical, injected, true⟩

/-- The effect of an uncorrectable error by the place it stands in. -/
def State.eccError (s : State) (p : EccPlace) : State :=
  match p with
  | .owner src => s.raiseFree 0xF002 src sevError
  | .recorder w => { s.logMemFail false none with ev := { (s.logMemFail false none).ev with
      eccBad := insertNat (s.logMemFail false none).ev.eccBad w.val } }
  | .cluster e =>
    let s := (s.addFld F.CLM_ECC_UNCORR_COUNT 1).raiseFree 0xB006 (srcBlock 13) sevError
    if s.engRun e.val = .running then s.engFault e.val 7 else s
  | .shared b u =>
    let s := s.raiseFree 0xF002 (srcBlock b.val) sevError
    { s with fault := { s.fault with forced := s.fault.forced ++ [(33, b.val + 256 * u, 0)] } }

def execEccUncorrectableError (p : EccPlace) (s : State) : Host.Outcome State Fault Refusal := .next (s.eccError p)

end Sys2Proof.Machine
end

