-- ==== Sys2Proof/Machine/Security.lean ====
section
/-!
DEFINITION. Sys2Proof/Machine/Security.lean: Kraolien's work: what the boot ROM finds (R571-R573), installation (R575), activation
(R576), attestation (R577, R578), the maintenance unlock (R579-R582) and recovery.
-/
namespace Sys2Proof.Machine

/-! ### Firmware slots and the boot ROM (R572, R573) -/

/-- The object SEC_INSTALL_IMAGE has stored in a firmware slot since the flash was last read from outside; empty: none. -/
def State.fwObject (s : State) (i : Nat) : List Byte := sget (fun _ => []) s.sec.fwObjects i

def State.romSlot (s : State) (i : Nat) : RomSlot := if i = 0 then s.sec.rom.slotA else s.sec.rom.slotB

/-- A firmware slot holds an object. -/
def State.fwPresent (s : State) (i : Nat) : Bool := !(s.fwObject i).isEmpty || (s.romSlot i).present

/-- The first reason of R569 for which a firmware slot's object fails; none where it passes. -/
def State.fwReason (s : State) (i : Nat) (v : SigVerdict) : Option Nat :=
  if (s.fwObject i).isEmpty then
    let f := s.romSlot i
    if !f.present then some 1
    else if f.reason ≠ 0 then some f.reason
    else if !v.rsa then some 5
    else if !v.slh then some 6
    else if f.svn < s.sec.arc then some 7
    else none
  else s.kindReason 0 (s.fwObject i) v

def State.fwVersion (s : State) (i : Nat) : Nat :=
  if (s.fwObject i).isEmpty then (s.romSlot i).version else objVersion (s.fwObject i)

def State.fwSvn (s : State) (i : Nat) : Nat :=
  if (s.fwObject i).isEmpty then (s.romSlot i).svn else objSvn (s.fwObject i)

/-- The registers that name the running firmware. -/
def State.runFirmware (s : State) (version svn : Nat) (head : List Byte) : State :=
  let s := { s with sec := { s.sec with runHead := head } }
  (s.setFld F.ID_FW_VERSION_VERSION version).setFld F.SEC_FW_SVN_SVN svn

/-- The firmware of a slot starts. -/
def State.runSlot (s : State) (i : Nat) : State :=
  (s.runFirmware (s.fwVersion i) (s.fwSvn i) ((s.fwObject i).take 512)).setFld F.SEC_STATUS_SLOT i

/-- A slot's check in the boot ROM; signatures that verified once verify again. -/
def State.romTry (s : State) (i : Nat) : Option Nat := s.fwReason i ⟨true, true⟩

/-- The boot ROM: the firmware of the slot ACTIVE names, else of the other, else recovery (R572, R573). PHASE is ROM on
entry, and FIRMWARE once a firmware runs. -/
def State.romBoot (s : State) : State :=
  let s := s.setFld F.PWR_STATUS_PHASE 1
  let recover := fun (s : State) => { s with sec := { s.sec with recovery := true, recovBuf := [] } }.refreshService
  if !s.sec.rom.recordOk then recover s
  else
    let a := s.sec.active
    match s.romTry a with
    | none => ((s.runSlot a).setFld F.PWR_STATUS_PHASE 2).raise 0xE801 a srcOther sevInfo
    | some r =>
      let s := s.authFail 0 r
      match s.romTry (1 - a) with
      | none =>
        let s := ((s.runSlot (1 - a)).setFld F.SEC_STATUS_FALLBACK 1).setFld F.PWR_STATUS_PHASE 2
        s.raise 0xE801 (1 - a + 2) srcOther sevInfo
      | some q => recover (s.authFail 0 q)

/-! ### Installation (R575) -/

/-- Bytes of the staging buffer. -/
def stagingSize : Nat := 2621440

/-- In DOZE neither SEC_INSTALL_IMAGE nor SYS_ACTIVATE_FIRMWARE is permitted (R583); a firmware object is not committed
while an activation runs. -/
def ctxSecInstall (s : State) (c : Cmd) : Option Status :=
  if s.fld F.PWR_STATUS_STATE = 3 then some .notPermitted
  else if c.op = 2 ∧ s.sec.activation.isSome ∧ (s.sec.staging.map (·.kind)) = some 0 then some .notPermitted
  else none

def stageWriteOk (c : Cmd) : Bool :=
  let n := c.payload.length
  decide (12 ≤ n ∧ n ≤ 4096) && n % 4 == 0 && zeroAt c.payload 1 3

def chkSecInstall (c : Cmd) : Option Status :=
  let ok := match c.op with
    | 0 => c.payload.length == 8 && decide (leAt c.payload 1 1 < 3) && zeroAt c.payload 2 2 &&
        decide (1 ≤ leAt c.payload 4 4 ∧ leAt c.payload 4 4 ≤ stagingSize)
    | 1 => stageWriteOk c
    | 2 => c.payload.length == 4 && zeroAt c.payload 1 3
    | _ => false
  if ok then none else some .badParam

def State.setStaging (s : State) (g : Option Staging) : State := { s with sec := { s.sec with staging := g } }

/-- Operation 0: a new object, in place of any being staged. -/
def execSecInstallOpen (tag : Nat) (s : State) : Host.Outcome State Fault Refusal :=
  .next (s.performStart 0x0D02 tag (isOp 0) (fun c s =>
    (s.setStaging (some ⟨leAt c.payload 1 1, leAt c.payload 4 4, []⟩)).finishNow c.tag .ok []))

/-- Bytes written at an offset, over what stood there. -/
def stageBytes (m : List (Nat × Byte)) (off : Nat) (bs : List Byte) : List (Nat × Byte) :=
  let n := bs.length
  m.filter (fun e => decide (e.1 < off)) ++ ((List.range n).map (· + off)).zip bs ++
    m.filter (fun e => decide (off + n ≤ e.1))

/-- Operation 1: data written into the staged object; beyond its length, or with none staged, BAD_PARAM. -/
def execSecInstallWrite (tag : Nat) (s : State) : Host.Outcome State Fault Refusal :=
  .next (s.performStart 0x0D02 tag (isOp 1) (fun c s =>
    let off := leAt c.payload 4 4
    let d := c.payload.drop 8
    match s.sec.staging with
    | some g =>
      if off + d.length ≤ g.length then
        (s.setStaging (some { g with data := stageBytes g.data off d })).finishNow c.tag .ok []
      else s.finishNow c.tag .badParam []
    | none => s.finishNow c.tag .badParam []))

/-- `n` staged bytes; a byte nothing has written is free. The table is in rising order of offsets. -/
def stagedBytes (m : List (Nat × Byte)) (ctr : Nat) (n i : Nat) : List Byte :=
  match n with
  | 0 => []
  | k + 1 =>
    match m with
    | (a, b) :: r =>
      if a = i then b :: stagedBytes r ctr k (i + 1)
      else BitVec.ofNat 8 (Config.freeValue (ctr + i)) :: stagedBytes m ctr k (i + 1)
    | [] => BitVec.ofNat 8 (Config.freeValue (ctr + i)) :: stagedBytes [] ctr k (i + 1)

/-- A failed check of R569 ends a command with AUTH_FAIL. -/
def State.authEnd (s : State) (tag kind reason : Nat) : State := (s.authFail kind reason).finishNow tag .authFail []

/-- A key record acts on its slot (Table 21-3). -/
def State.applyRecord (s : State) (b : List Byte) : State :=
  let d := objBody b
  let t := leAt d 1 1
  let st : KeySlot := if leAt d 0 1 = 0 then .programmed else .revoked
  let s := { s with sec := { s.sec with
    keys := s.sec.keys.set t st
    keyHash := if st = KeySlot.programmed then sput Config.slotHash s.sec.keyHash t (slice d 4 48) else s.sec.keyHash } }
  s.refreshSlots.raise 0xE806 (t + 256 * st.code) srcOther sevNotice

/-- The kernel store entry an object goes to: that of its ID, or the lowest free one. -/
def State.kernelPlace (s : State) (b : List Byte) : Option Nat :=
  match s.sec.kernels.find? (fun e => objKernelId e.2 == objKernelId b) with
  | some e => some e.1
  | none => (List.range 16).find? (fun i => (sget (fun _ => []) s.sec.kernels i).isEmpty)

/-- Operation 2: the object is checked and stored; `flashOk` false: the flash write does not end within 2 s, and the
command completes with TIMEOUT. The staging ends with the command. -/
def execSecInstallCommit (tag : Nat) (v : SigVerdict) (flashOk : Bool) (s : State) : Host.Outcome State Fault Refusal :=
  .next (s.performStart 0x0D02 tag (isOp 2) (fun c s =>
    match s.sec.staging with
    | none => s.finishNow c.tag .badParam []
    | some g =>
      let b := stagedBytes g.data s.freeCtr g.length 0
      let s := { s.setStaging none with freeCtr := s.freeCtr + g.length }
      match s.kindReason g.kind b v with
      | some r => s.authEnd c.tag (objKind b) r
      | none =>
        if g.kind = 0 then
          let i := 1 - s.sec.active
          if flashOk then
            { s with sec := { s.sec with
                fwObjects := sput (fun _ => []) s.sec.fwObjects i b, reinstalled := true } }.finishNow c.tag .ok (leBytes 4 i)
          else s.finishNow c.tag .timeout []
        else if g.kind = 1 then
          match s.kernelPlace b with
          | none => s.finishNow c.tag .limit []
          | some i =>
            if flashOk then
              { s with sec := { s.sec with kernels := sput (fun _ => []) s.sec.kernels i b } }.finishNow c.tag .ok (leBytes 4 i)
            else s.finishNow c.tag .timeout []
        else (s.applyRecord b).finishNow c.tag .ok (leBytes 4 (leAt (objBody b) 1 1))))

/-! ### Attestation (R577, R578) -/

def chkSecAttest (c : Cmd) : Option Status :=
  let ok := match c.op with
    | 0 => c.payload.length == 52 && zeroAt c.payload 1 3
    | 1 | 2 => c.payload.length == 8 && zeroAt c.payload 1 3 && leAt c.payload 4 2 % 4 == 0 &&
        decide (leAt c.payload 4 2 ≤ 4088)
    | _ => false
  if ok then none else some .badParam

/-- SHA-384 of bytes 0-511 of the running firmware object. -/
def State.fwMeasure (s : State) : List Byte :=
  if s.sec.runHead.isEmpty then Config.firmwareHash (s.fld F.SEC_STATUS_SLOT) else sha384 s.sec.runHead

def State.engObject (s : State) (e : Nat) : List Byte := sget (fun _ => []) s.eng.images e

/-- Engines that hold a kernel, an owner's or Skovaudal's: every kernel image is a signed image (R397, R398). -/
def State.loadedEngines (s : State) : List Nat :=
  (List.range 16).filter (fun e => s.engRun e == .loaded || s.engRun e == .running || s.engRun e == .faulted)

/-- The kernel records: one for each object that engines hold, in the order of their lowest engine. -/
def State.kernelRecords (s : State) : List (List Byte) :=
  let es := s.loadedEngines
  let firsts := es.filter (fun e => es.all (fun f => decide (e ≤ f) || s.engObject f != s.engObject e))
  firsts.map (fun e =>
    let b := s.engObject e
    (if s.ownKernel e then leBytes 4 (objVersion b)
      else leBytes 2 (s.fld (F.LE_KERNEL_ID e)) ++ leBytes 2 (s.fld (F.LE_KERNEL_VERSION e))) ++
    leBytes 2 (listMask 16 (es.filter (fun f => s.engObject f == b))) ++ leBytes 2 0 ++ sha384 (b.take 512))

/-- Table 21-4 but for the signatures. -/
def State.reportBody (s : State) (nonce : List Byte) : List Byte :=
  let ks := s.kernelRecords
  leBytes 4 0x4B524101 ++ leBytes 2 1 ++ leBytes 2 ks.length ++ leBytes 16 Config.deviceId ++ nonce ++
  leBytes 4 s.tickno ++ leBytes 1 s.sec.arc ++
  leBytes 1 (s.fld F.SEC_STATUS_UNLOCK + 16 * s.fld F.SEC_STATUS_SCOPE) ++ leBytes 2 (s.fld F.SEC_SLOTS_STATE) ++
  s.fwMeasure ++ leBytes 4 (s.reg 0x10).toNat ++ s.sec.measure ++ leBytes 4 s.sec.measured ++ List.replicate 72 0 ++ ks.flatten

/-- Bytes of both signatures (Table 21-1). -/
def sigBytes : Nat := 16608

/-- Operation 0: the report is built and signed; the reply holds its length. -/
def execSecAttestationBuild (tag : Nat) (s : State) : Host.Outcome State Fault Refusal :=
  .next (s.performStart 0x0D00 tag (isOp 0) (fun c s =>
    let body := s.reportBody (slice c.payload 4 48)
    let sig := slice (Config.signature body ++ List.replicate sigBytes 0) 0 sigBytes
    { s with sec := { s.sec with report := body ++ sig } }.finishNow c.tag .ok (leBytes 4 (body.length + sigBytes))))

/-- The length and offset of a read of the report or of the certificates. -/
def attestLen (c : Cmd) : Nat := leAt c.payload 4 2
def attestOff (c : Cmd) : Nat := 4 * leAt c.payload 6 2

/-- Operation 1: bytes of the report; beyond its end they read as 0. -/
def execSecAttestationReadReport (tag : Nat) (s : State) : Host.Outcome State Fault Refusal :=
  .next (s.performStart 0x0D00 tag (isOp 1) (fun c s =>
    let n := attestLen c
    let bs := slice s.sec.report (attestOff c) n
    s.finishNow c.tag .ok (bs ++ List.replicate (n - bs.length) 0)))

/-- Operation 2: bytes of the certificate store. -/
def execSecAttestationReadCerts (tag : Nat) (s : State) : Host.Outcome State Fault Refusal :=
  .next (s.performStart 0x0D00 tag (isOp 2) (fun c s =>
    s.finishNow c.tag .ok ((List.range (attestLen c)).map (fun i => BitVec.ofNat 8 (Config.certificate (attestOff c + i))))))

/-! ### Maintenance unlock (R579-R582) -/

/-- Every armed injection disarms (R540). -/
def State.disarmAll (s : State) : State :=
  let s := (s.fault.injections.map (·.detector)).foldl (fun s d => s.setFld (F.EVR_INJ_CTRL_ARMED d) 0) s
  { s with fault := { s.fault with injections := [] } }

/-- What follows the end of an unlock or the loss of a scope bit (R581). -/
def State.scopeLost (s : State) : State := s.rawEnd.disarmAll

/-- The unlock ends (R540, R581): LOCKED, with no scope, no time left and no challenge; INJ_END once. -/
def State.lock (s : State) : State :=
  let s := { s with sec := { s.sec with challenge := none } }
  let s := ((s.setFld F.SEC_STATUS_UNLOCK 0).setFld F.SEC_STATUS_SCOPE 0).setFld F.SEC_UNLOCK_LEFT_SECONDS 0
  ((s.scopeLost).raiseFree 0xF007 srcOther sevInfo).raiseFree 0xE804 srcOther sevInfo

/-- SEC_UNLOCK does not come in-band (R582). -/
def ctxSecUnlock (c : Cmd) : Option Status := if c.via = .inband then some .notPermitted else none

/-- Bytes of the token buffer. -/
def tokenSize : Nat := 20480

def chkSecUnlock (c : Cmd) : Option Status :=
  let ok := match c.op with
    | 0 | 2 | 3 => c.payload.length == 4 && zeroAt c.payload 1 3
    | 1 => stageWriteOk c && decide (leAt c.payload 4 4 + (c.payload.length - 8) ≤ tokenSize)
    | _ => false
  if ok then none else some .badParam

/-- Operation 0: a new random challenge (32 bytes, an input); the token buffer is cleared. -/
def execSecUnlockChallenge (tag : Nat) (random : List Byte) (s : State) : Host.Outcome State Fault Refusal :=
  .next (s.performStart 0x0D01 tag (isOp 0) (fun c s =>
    let r := slice (random ++ List.replicate 32 0) 0 32
    let s := { s with sec := { s.sec with challenge := some r, challengeAt := s.elapsed, token := [], tokenLen := 0 } }
    let s := if s.fld F.SEC_STATUS_UNLOCK = 2 then s else s.setFld F.SEC_STATUS_UNLOCK 1
    s.finishNow c.tag .ok r))

/-- Operation 1: token bytes. -/
def execSecUnlockStage (tag : Nat) (s : State) : Host.Outcome State Fault Refusal :=
  .next (s.performStart 0x0D01 tag (isOp 1) (fun c s =>
    let off := leAt c.payload 4 4
    let d := c.payload.drop 8
    { s with sec := { s.sec with
        token := stageBytes s.sec.token off d, tokenLen := max s.sec.tokenLen (off + d.length) } }.finishNow c.tag .ok []))

/-- A token that passes: its scope and duration replace those in force. -/
def State.grantUnlock (s : State) (b : List Byte) : State :=
  let d := objBody b
  let old := s.fld F.SEC_STATUS_SCOPE
  let new := leAt d 48 1
  let s := { s with sec := { s.sec with unlockUntil := s.elapsed + 3840000 * leAt d 52 4 } }
  let s := ((s.setFld F.SEC_STATUS_UNLOCK 2).setFld F.SEC_STATUS_SCOPE new).setFld F.SEC_UNLOCK_LEFT_SECONDS (leAt d 52 4)
  let s := if (List.range 4).any (fun i => bitAt old i && !bitAt new i) then s.scopeLost else s
  s.raise 0xE803 new srcOther sevNotice

/-- Operation 2: the staged token is checked; the challenge is consumed either way (Table 21-6). -/
def execSecUnlockSubmit (tag : Nat) (v : SigVerdict) (s : State) : Host.Outcome State Fault Refusal :=
  .next (s.performStart 0x0D01 tag (isOp 2) (fun c s =>
    let b := stagedBytes s.sec.token s.freeCtr s.sec.tokenLen 0
    let bad := s.kindReason 3 b v
    let s := { s with freeCtr := s.freeCtr + s.sec.tokenLen, sec := { s.sec with challenge := none } }
    match bad with
    | none => (s.grantUnlock b).finishNow c.tag .ok []
    | some r =>
      let s := if s.fld F.SEC_STATUS_UNLOCK = 2 then s else s.setFld F.SEC_STATUS_UNLOCK 0
      s.authEnd c.tag (objKind b) r))

/-- Operation 3: an unlock in force ends. -/
def execSecUnlockEnd (tag : Nat) (s : State) : Host.Outcome State Fault Refusal :=
  .next (s.performStart 0x0D01 tag (isOp 3) (fun c s =>
    (if s.fld F.SEC_STATUS_UNLOCK = 2 then s.lock else s).finishNow c.tag .ok []))

/-- The duration elapses. -/
def execUnlockDurationExpiry (s : State) : Host.Outcome State Fault Refusal :=
  .next (if s.fld F.SEC_STATUS_UNLOCK = 2 ∧ s.sec.unlockUntil ≤ s.elapsed then s.lock else s)

/-- 60 s without a submit: the challenge is discarded. -/
def execChallengeExpiry (s : State) : Host.Outcome State Fault Refusal :=
  .next (if s.fld F.SEC_STATUS_UNLOCK = 1 ∧ s.sec.challengeAt + 230400000 ≤ s.elapsed then
    { s with sec := { s.sec with challenge := none } }.setFld F.SEC_STATUS_UNLOCK 0 else s)

/-- A boundary: SEC_UNLOCK_LEFT is the time that remains of an unlock, in seconds begun (log entry 169). -/
def State.countUnlock (s : State) : State :=
  if s.fld F.SEC_STATUS_UNLOCK = 2 then
    s.setFld F.SEC_UNLOCK_LEFT_SECONDS (ceilDiv (s.sec.unlockUntil - s.elapsed) 3840000)
  else s

/-! ### Activation (R576) -/

/-- Check 8 of SYS_ACTIVATE_FIRMWARE. -/
def ctxActivate (s : State) : Option Status :=
  if s.fld F.PWR_STATUS_STATE = 3 ∨ s.degraded ∨ (s.sec.staging.map (·.kind)) = some 0 ∨ s.sec.activation.isSome ∨
      (s.flag F.SEC_STATUS_RECOVERY ∧ !s.sec.reinstalled) ∨ !s.fwPresent (1 - s.sec.active) then some .notPermitted
  else none

def chkActivate (c : Cmd) : Option Status :=
  if c.payload.length ≠ 4 ∨ 2 ≤ leAt c.payload 0 1 ∨ !zeroAt c.payload 1 3 then some .badParam else none

def State.setActivation (s : State) (a : Option Activation) : State := { s with sec := { s.sec with activation := a } }

/-- Steps 1 and 2: the inactive slot is checked, and mc2/mc3 restarts on the new image. -/
def execSysActivateFirmware (tag : Nat) (v : SigVerdict) (s : State) : Host.Outcome State Fault Refusal :=
  .next (s.performStart 0x0104 tag anyOp (fun c s =>
    let i := 1 - s.sec.active
    match s.fwReason i v with
    | some r => s.authEnd c.tag 0 r
    | none =>
      (s.setActivation (some ⟨c.tag, bitAt (leAt c.payload 0 1) 0, .restart23, s.fwVersion i, s.fwSvn i⟩)).setMode 2))

/-- Step 5: the mode returns to NORMAL, the result is stored with DEGRADED, and with ADVANCE the anti-rollback count rises to
the new image's SVN (R574, R576). -/
def State.endActivation (s : State) (a : Activation) : State :=
  let s := s.setActivation none
  let s := (s.finishNow a.tag .ok []).storeResult a.tag
  let s := (s.setMode 0).runSlot s.sec.active
  let s := s.raise 0xE805 a.version srcOther sevNotice
  if a.advance ∧ s.sec.arc < a.svn then
    let s := { s with sec := { s.sec with arc := a.svn } }
    (s.setFld F.SEC_ARC_COUNT a.svn).raise 0xE807 a.svn srcOther sevNotice
  else s

/-- A pair ends its restart: steps 3 to 5 of an activation, or the return of Table 03-8. -/
def execPairBootComplete (x : Fin 2) (ok : Bool) (s : State) : Host.Outcome State Fault Refusal :=
  match s.sec.activation with
  | none => .next (s.pairBoots x.val ok)
  | some a =>
    if a.phase = .restart23 ∧ x.val = 1 then
      if ok then
        let s := { s with sec := { s.sec with
          active := 1 - s.sec.active, rom := { s.sec.rom with recordOk := true } } }
        .next ((s.setActivation (some { a with phase := .restart01 })).setMode 3)
      else .next (((s.setActivation none).finishNow a.tag .internal []).setMode 0)
    else if a.phase = .restart01 ∧ x.val = 0 then
      if ok then .next (s.endActivation a)
      else .next ((((s.setActivation none).finishNow a.tag .internal []).runSlot s.sec.active).retirePair 0)
    else .next (s.pairBoots x.val ok)

end Sys2Proof.Machine
end

