-- ==== Sys2Proof/Machine/Power.lean ====
section
/-!
DEFINITION. Sys2Proof/Machine/Power.lean: Peony (R476-R497): domains, the power transitions and their steps, wake failure,
brown-out, entry to STANDBY, device reset, warm boot and bring-up.
-/
namespace Sys2Proof.Machine

/-! ### Domains (R477, R497) -/

def State.setDomain (s : State) (d v : Nat) : State :=
  s.setFld F.PWR_DOMAIN_STATE (putBits (s.fld F.PWR_DOMAIN_STATE) (2 * d) 2 v)

/-- Codes of Table 17-2. -/
def stActive : Nat := 0
def stIdle : Nat := 1
def stQuiet : Nat := 2
def stDoze : Nat := 3
def stStandby : Nat := 4
def stBoot : Nat := 5

def State.pwrState (s : State) : Nat := s.fld F.PWR_STATUS_STATE

/-- The Tulip loop a domain's clock check waits for (R488): the control and fabric loops, the lane loops, and a die's
converter loop for both of its domains. In bring-up the control loop is locked after REFCLK has been measured (R491). -/
def domainLoops (boot : Bool) (d : Nat) : List Nat :=
  match d with
  | 1 => if boot then [] else [5]
  | 2 => if boot then [4, 5] else [4]
  | 3 => [6, 7]
  | 12 => []
  | _ => if d < 8 then [d - 4] else [d - 8]

/-- Loops that go OFF with a domain (R430). -/
def loopsInside (d : Nat) : List Nat :=
  match d with
  | 1 => [5]
  | 2 => [4]
  | 3 => [6, 7]
  | _ => if 8 ≤ d ∧ d < 12 then [d - 8] else []

/-- The units a domain's loss retires (R489). -/
def domainUnits (d : Nat) : List Nat :=
  match d with
  | 3 => (List.range 8).map srcLane
  | 12 => [srcMd]
  | _ => if 4 ≤ d ∧ d < 8 then [srcDie (d - 4)] else if 8 ≤ d ∧ d < 12 then [srcDie (d - 8)] else []

/-- Every unit of a domain is retired: it is not woken. -/
def State.domainRetired (s : State) (d : Nat) : Bool :=
  let us := domainUnits d
  !us.isEmpty && us.all s.isRetired

/-- The domains beyond PD_CTL and PD_FAB that a wake turns on, in parallel (R481, R491). -/
def State.outerDomains (s : State) : List Nat := [4, 5, 6, 7, 8, 9, 10, 11, 3, 12].filter (fun d => !s.domainRetired d)

/-- What stops when a domain goes off: its loops, and the lanes or transmit paths that ran from them. -/
def State.domainOff (s : State) (d : Nat) : State :=
  let s := (s.setDomain d 0)
  let s := (loopsInside d).foldl State.stopLoop s
  if d = 3 then s.lanesDown
  else if 8 ≤ d ∧ d < 12 then s.pllUnlock (d - 8)
  else s

/-! ### QUIET and IDLE (R479, R480) -/

/-- The QUIET actions take force: captures end, calibrations and a recording stop (R231, R514, R554). -/
def State.beginQuiet (s : State) : State :=
  let s := { s with pwr := { s.pwr with quietAt := true, quietDue := none, idleGate := false, gateDue := none } }
  let s := (List.range 8).foldl (fun s j =>
    if s.ox j = .capture then s.oxDiscard j false else if s.ox j = .wait then s.setOx j .idle else s) s
  (s.calDiscard).recAbort 5

/-- The blocks resume: each path marks one VOID tick, then SETTLING (R480). -/
def State.endQuiet (s : State) : State :=
  let s := { s with pwr := { s.pwr with quietAt := false, quietDue := none } }
  (List.range 64).foldl (fun s p =>
    let s := if s.rxRetired p then s else { s with rx := { s.rx with reload := insertNat s.rx.reload p } }
    if s.txRetired p then s else s.voidThenSettle p (tickAdd s.tickno 1)) s

/-- The boundary that opens a tick: what QUIET and IDLE have due begins or ends. A return from QUIET waits for the divider
to change (R480). -/
def State.quietBoundary (s : State) : State :=
  let s := match s.pwr.gateDue with
    | some b => { s with pwr := { s.pwr with idleGate := b, gateDue := none } }
    | none => s
  match s.pwr.quietDue with
  | some true => s.beginQuiet
  | some false =>
    if s.clk.opChange.all (fun o => o.applied) then s.endQuiet else s
  | none => s

/-- The fabric moves to another operating point as the lowering or raising order of R438 has it; at once while Crocus does
not count. -/
def State.moveOp (s : State) (target : Nat) : State :=
  let cur := s.fld F.CLK_STATUS_OP
  if target = cur then s
  else if !s.counting then (s.applyOp target).outputHolds
  else
    let n := opSteps target cur
    let t := if target < cur then tickAdd s.tickno (1 + 32 * n) else tickAdd s.tickno 1
    let fin := if target < cur then t else tickAdd t (1 + 32 * n)
    let s := s.setFld F.CLK_STATUS_SEQ_BUSY 1
    let k : Commit := ⟨t, s.privi.nextSeq, .device, [.operatingPoint], [.opPoint target], [], [], []⟩
    ({ s with clk := { s.clk with opChange := some ⟨target, fin, false⟩ } }).armCommit k

/-- Entering QUIET's actions: on the next boundary, or at once while Crocus does not count. -/
def State.quietSoon (s : State) : State :=
  if s.pwr.quietAt then s
  else
    let s := { s with pwr := { s.pwr with opHeld := s.fld F.CLK_STATUS_OP } }
    if s.counting then { s with pwr := { s.pwr with quietDue := some true } } else s.beginQuiet

def State.gateSoon (s : State) (b : Bool) : State :=
  if s.counting then { s with pwr := { s.pwr with gateDue := some b } }
  else { s with pwr := { s.pwr with idleGate := b, gateDue := none } }

/-! ### The steps (R480-R482) -/

/-- Events raised by `f` that do not count against their policies. -/
def State.uncounted (s : State) (f : State → State) : State :=
  let n := s.ev.waiting.length
  let t := f s
  { t with ev := { t.ev with
      waiting := t.ev.waiting.take n ++ (t.ev.waiting.drop n).map (fun e => { e with counts := false }) } }

/-- PD_LN goes off: the ports go down without counting (R481). -/
def State.linksDown (s : State) : State :=
  s.uncounted (fun s => (List.range 4).foldl (fun s k => (s.portDown k).casLinkDown k) s)

/-- What a step does as it begins. -/
def State.beginStep (s : State) (dropMd boot : Bool) (x : PowerStep) : State :=
  match x with
  | .enterIdle => s.gateSoon true
  | .leaveIdle => s.gateSoon false
  | .enterQuiet => s.quietSoon.moveOp 2
  | .leaveQuiet =>
    let s := s.moveOp s.pwr.opHeld
    if s.counting then { s with pwr := { s.pwr with quietDue := some false } } else s.endQuiet
  | .dozeFrontEnd =>
    let s := s.quietSoon
    { s with pwr := { s.pwr with frontLow := true } }
  | .dozeDma => s.dmaPause
  | .dozeConverters => [8, 9, 10, 11, 4, 5, 6, 7].foldl State.domainOff s
  | .dozeLanes => (s.domainOff 3).linksDown
  | .dozeFabric =>
    let s := if s.pwr.quietAt then s else s.beginQuiet
    ((s.setDomain 2 3).holdTick false).stopLoop 4
  | .dozeMemory =>
    if s.domain 12 = 0 then s
    else if dropMd then (s.setDomain 12 0).recLost false
    else s.setDomain 12 3
  | .dozeControl =>
    let s := if s.fld F.CLK_CFG_REF_SEL = 1 then s.setFld F.TIM_STATUS_VALID 0 else s
    ((s.setDomain 1 2).stopLoop 5).setFld F.CLK_STATUS_CTL_FALLBACK 1
  | .offAll => s
  | .wake d =>
    let s := s.setDomain d 1
    (loopsInside d ++ (if boot ∧ d = 2 then [5] else [])).foldl (fun s l => if boot ∧ d = 1 then s else s.startLoop l) s
  | .resume =>
    let s := { s with pwr := { s.pwr with frontLow := false } }
    s.dmaResume.resumeTick false

/-- A step that is over as it begins (R629). -/
def PowerStep.instant : PowerStep → Bool
  | .resume => true
  | _ => false

/-- A step of a wake needs a Tulip loop to lock (R485). -/
def PowerStep.needsLoop (boot : Bool) : PowerStep → Bool
  | .wake d => !(domainLoops boot d).isEmpty
  | _ => false

/-- A transition pauses while REFCLK or LANECLK holds the safe state (R485). -/
def State.pausedBySafe (s : State) : Bool := s.safeBy safeRef || s.safeBy safeLane

/-- The steps of a group may begin. -/
def State.mayBegin (s : State) (boot : Bool) (g : List PowerStep) : Bool :=
  s.fld F.CLK_STATUS_SEQ_BUSY == 0 && !(s.pausedBySafe && g.any (PowerStep.needsLoop boot))

def State.putTrans (s : State) (t : Transition) : State := { s with pwr := { s.pwr with trans := some t } }

/-- Begins groups from the front on: one whose steps are all over as they begin leads to the next. -/
def State.beginGroups (s : State) (t : Transition) (gs : List (List PowerStep)) : State :=
  match gs with
  | [] => s.putTrans { t with steps := [], begun := true }
  | g :: rest =>
    if s.mayBegin (t.source == stBoot) g then
      let s := g.foldl (fun s x => s.beginStep t.dropMd (t.source == stBoot) x) s
      let left := g.filter (fun x => !x.instant)
      if left.isEmpty then s.beginGroups t rest
      else s.putTrans { t with steps := left :: rest, begun := true }
    else s.putTrans { t with steps := g :: rest, begun := false }

/-! ### Which steps lead where (R481, R629) -/

def dozeSteps : List (List PowerStep) :=
  [[.dozeFrontEnd], [.dozeDma], [.dozeConverters], [.dozeLanes], [.dozeFabric], [.dozeMemory], [.dozeControl]]

/-- The steps from a stable state to a target. -/
def State.stepsFor (s : State) (src tgt : Nat) : List (List PowerStep) :=
  if src < tgt then
    if tgt = stIdle then [[.enterIdle]]
    else if tgt = stQuiet then [[.enterQuiet]]
    else (if src < stDoze then dozeSteps else []) ++ (if tgt = stStandby then [[.offAll]] else [])
  else
    let wake : List (List PowerStep) :=
      if src = stDoze then [[.wake 1, .wake 2], s.outerDomains.map PowerStep.wake, [.resume]] else []
    let quiet : List (List PowerStep) := if tgt = stQuiet then [[.enterQuiet]] else if src = stIdle then [[.leaveIdle]] else [[.leaveQuiet]]
    (wake ++ quiet ++ (if tgt = stIdle then [[PowerStep.enterIdle]] else [])).filter (fun g => !g.isEmpty)

/-! ### Predictions and checks (R480, R486, R494) -/

/-- Table 17-4. -/
def State.predCtl : Nat := 270
def State.predFab (s : State) : Nat := 160 + 6 * ((List.range 16).filter (fun e => decide (s.engRun e ≠ .stopped))).length
def State.predMd (s : State) (drop : Bool) : Nat :=
  if drop || s.isRetired srcMd || s.domain 12 == 0 then 0
  else if s.sfld (F.HK_TEMP_TEMP 24) ≤ 85 * 128 then 110 else 340

/-- The prediction is reported, and tells whether DOZE is within 300 mA in every domain. -/
def State.predict (s : State) (drop : Bool) : State :=
  ((s.setFld F.PWR_PRED_CTL State.predCtl).setFld F.PWR_PRED_FAB s.predFab).setFld F.PWR_PRED_MD (s.predMd drop)

def State.predictFits (s : State) (drop : Bool) : Bool :=
  decide (State.predCtl ≤ 300 ∧ s.predFab ≤ 300 ∧ s.predMd drop ≤ 300)

/-- Recording or replay is armed or running. -/
def State.recBusy (s : State) : Bool := s.captureInUse

/-- Check 8 for a request, as the command has it and as a pending one has it when it is taken up. -/
def State.ctxRequest (s : State) (tgt : Nat) (inband : Bool) : Option Status :=
  if s.flag F.PWR_STATUS_FAILED then some .wakeFail
  else if s.pwrState = stBoot ∨ s.fld F.MBX_STATUS_MODE = 1 ∨ (stDoze ≤ tgt ∧ (inband ∨ s.recBusy)) then some .notPermitted
  else none

def ctxPwrSetState (s : State) (c : Cmd) : Option Status := s.ctxRequest c.op (c.via == .inband)

def chkPwrSetState (c : Cmd) : Option Status :=
  if c.payload.length ≠ 4 ∨ 4 < c.op ∨ 2 ≤ leAt c.payload 1 1 ∨ !zeroAt c.payload 2 2 ∨
      (leAt c.payload 1 1 = 1 ∧ c.op < stDoze) then some .badParam else none

/-- The path of a request enters DOZE. -/
def State.entersDoze (s : State) (tgt : Nat) : Bool := decide (s.pwrState < stDoze ∧ stDoze ≤ tgt)

/-- Check 12: the test of R480 where QUIET is the target and is entered, and the predictions where DOZE is. -/
def State.limitRequest (s : State) (tgt : Nat) (drop : Bool) : Bool :=
  if tgt = stQuiet ∧ s.pwrState ≠ stQuiet then (List.range 16).all (fun e => decide (s.engRun e = .retired ∨ s.fld (F.LE_DECL_DECL e) ≤ 128))
  else if s.entersDoze tgt then s.predictFits drop
  else true

def limitPwrSetState (s : State) (c : Cmd) : Bool := s.limitRequest c.op (leAt c.payload 1 1 == 1)

/-! ### Requests (R484, Table 17-3) -/

/-- The payload of PWR_SET_STATE's reply. -/
def stateReply (st retired us : Nat) : List Byte := leBytes 1 st ++ leBytes 1 0 ++ leBytes 2 retired ++ leBytes 4 us

def State.setTarget (s : State) (t : Option Nat) : State :=
  match t with
  | some t => (s.setFld F.PWR_STATUS_TARGET t).setFld F.PWR_STATUS_BUSY 1
  | none => (s.setFld F.PWR_STATUS_TARGET 7).setFld F.PWR_STATUS_BUSY 0

/-- A request acts in a stable state: at once where it names that state, else its steps begin. -/
def State.startRequest (s : State) (r : PowerRequest) : State :=
  if r.target = s.pwrState then s.finishNow r.tag .ok (stateReply r.target 0 0)
  else
    let s := if s.entersDoze r.target then s.predict r.dropMd else s
    let gs := s.stepsFor s.pwrState r.target
    (s.setTarget (some r.target)).beginGroups ⟨s.pwrState, r.target, some r.tag, r.dropMd, [], [], 0, false⟩ gs

/-- The pending request is taken up: checks 8 and 12 again, then as an event of the new state. -/
def State.takePending (s : State) : State :=
  match s.pwr.request with
  | none => s
  | some r =>
    let s := { s with pwr := { s.pwr with request := none } }
    let s := s.setFld F.PWR_STATUS_PENDING 7
    match s.ctxRequest r.target r.inband with
    | some st => s.finishNow r.tag st []
    | none => if s.limitRequest r.target r.dropMd then s.startRequest r else s.finishNow r.tag .limit []

/-- PWR_SET_STATE: acts, or waits in the pending slot. -/
def execPwrSetState (tag : Nat) (s : State) : Host.Outcome State Fault Refusal :=
  .next (s.performStart 0x0200 tag anyOp (fun c s =>
    let r : PowerRequest := ⟨c.tag, c.op, leAt c.payload 1 1 == 1, c.via == .inband⟩
    if s.pwr.trans.isSome then
      let s := match s.pwr.request with
        | some old => s.finishNow old.tag .superseded []
        | none => s
      ({ s with pwr := { s.pwr with request := some r } }).setFld F.PWR_STATUS_PENDING r.target
    else s.startRequest r))

/-- A state code of PWR_STATUS as PWR_GET_STATE gives it: 7 is none. -/
def noneCode (v : Nat) : Nat := if v = 7 then 0xFF else v

def execPwrGetState (tag : Nat) (s : State) : Host.Outcome State Fault Refusal :=
  .next (s.performStart 0x0201 tag anyOp (fun c s =>
    s.finishNow c.tag .ok (leBytes 1 s.pwrState ++ leBytes 1 (noneCode (s.fld F.PWR_STATUS_TARGET)) ++
      leBytes 1 (noneCode (s.fld F.PWR_STATUS_PENDING)) ++
      leBytes 1 (s.fld F.PWR_STATUS_FAILED + 2 * s.fld F.PWR_STATUS_CONTEXT_LOST + 4 * s.fld F.PWR_STATUS_NO_TSYNC +
        8 * s.fld F.PWR_STATUS_NO_REFCLK) ++
      leBytes 2 (s.fld F.PWR_FAILED_MASK) ++ leBytes 2 (s.fld F.PWR_BROWNOUT_MASK) ++
      leBytes 4 (s.fld F.PWR_CHANGE_TICK_TICK) ++ leBytes 4 0)))

/-- A stable state is reached (Table 17-3). -/
def State.reachState (s : State) (t : Transition) (us : Nat) : State :=
  let s := { s with pwr := { s.pwr with trans := none, failedOnce := [], retryOff := [] } }
  let s := ((s.setTarget none).setFld F.PWR_STATUS_STATE t.target).setFld F.PWR_TIME_US us
  let s := s.setFld F.PWR_CHANGE_TICK_TICK s.tickno
  let s := match t.tag with
    | some tag => s.finishNow tag .ok (stateReply t.target t.retired us)
    | none => s
  (s.raise 0x0010 t.target srcOther sevInfo).refreshCal.takePending

/-! ### Contents that are lost (R483, R487, R491) -/

/-- Units that stay retired, put back over blocks that have been reset. -/
def State.reapply (s : State) (units : List Nat) : State :=
  let t := units.foldl State.retireOne { s with fault := { s.fault with retired := units.filter (fun u => decide (10 ≤ srcType u)) } }
  { t with ev := s.ev }

/-- PD_FAB's blocks at their reset values. -/
def State.wipeFab (s : State) : State :=
  let s := ((s.resetRange 0x40000 0x4FFFF).resetRange 0x100000 0x30FFFF).resetRange 0x320000 0x80FFFF
  let s := { s with
    shadow := [], hostDirty := [], armed := [], tick := TickState.init, rx := RxState.init, tx := TxState.init,
    bf := BfState.init, dpd := DpdState.init, pra := PrachState.init, fh := FhState.init, cas := CasState.init,
    eng := EngState.init, recd := RecState.init }
  { s with ev := { s.ev with evseq := 0, srcDrops := [] }, clk := { s.clk with opChange := none },
           pwr := { s.pwr with quietDue := none, gateDue := none } }

/-- PD_CTL's blocks at their reset values; fuses, flash and the fault manager's retired units are kept. -/
def State.wipeCtl (s : State) : State :=
  let s := ((s.resetRange 0x0 0xFFFF).resetRange 0x20000 0x3FFFF).resetRange 0x50000 0xAFFFF
  let s := s.resetRange 0x310000 0x31FFFF
  let s := { s with
    privi := PriviState.init, time := TimeState.init, hk := HkState.init, cal := CalState.init, ln := LaneState.init,
    dma := DmaState.init, fault := { FaultState.init with
      retired := s.fault.retired, repairDies := s.fault.repairDies, wakeRetired := s.fault.wakeRetired,
      lostLogged := s.fault.lostLogged },
    ev := { EventState.init with evseq := s.ev.evseq, waiting := s.ev.waiting, srcDrops := s.ev.srcDrops },
    clk := { ClockState.init with keptPhase := s.clk.keptPhase },
    sec := { SecState.init with
      keys := s.sec.keys, keyHash := s.sec.keyHash, arc := s.sec.arc, rom := s.sec.rom, active := s.sec.active,
      fwObjects := s.sec.fwObjects, kernels := s.sec.kernels } }
  (s.setFld F.SEC_ARC_COUNT s.sec.arc).refreshSlots

/-- Retired units as source codes that a reset short of a power-up keeps (R17): all but control pairs, which return with
their boot (Table 03-8). -/
def State.keptUnits (s : State) : List Nat := s.fault.retired.filter (fun u => srcType u != 10)

/-! ### STANDBY (R483) -/

/-- Every command that still holds a PENDING slot completes with INTERNAL. -/
def State.endPending (s : State) : State :=
  let tags := (s.privi.slots.filter (fun x => (x.st == .pending || x.st == .releasing) && x.outcome.isNone)).map (·.tag)
  tags.foldl (fun s t => (s.finishNow t .internal []).forgetTag t) s

/-- The replies of a transport ring are written while there is room. -/
def State.flushReplies (s : State) (n : Nat) : State :=
  match n with
  | 0 => s
  | k + 1 => s.writeReply.flushReplies k

/-- PD_CTL and all the rest go off, and every content but PD_AON's is lost; replies that wait on SPI can still be fetched. -/
def State.enterStandby (s : State) (t : Transition) (us : Nat) : State :=
  let s := match s.pwr.request with
    | some r => { s with pwr := { s.pwr with request := none } }.finishNow r.tag .notPermitted []
    | none => s
  let s := match t.tag with
    | some tag => s.finishNow tag .ok (stateReply stStandby t.retired us)
    | none => s
  let tick := s.tickno
  let s := s.endPending.storeEnded
  let s := s.flushReplies s.privi.pcieReplies.length
  let old := s.privi
  let units := s.keptUnits
  let s := (((s.dmaStandby.wipeFab).wipeCtl).reapply units).resetCas
  let s := { s with
    privi := { s.privi with spiReplies := old.spiReplies, spiWait := old.spiWait }
    ev := { s.ev with waiting := [] }
    pwr := { s.pwr with trans := none, failedOnce := [], retryOff := [], brownOff := [], frontLow := true } }
  let s := s.setFld F.PWR_DOMAIN_STATE 1
  let s := ((s.setTarget none).setFld F.PWR_STATUS_PENDING 7).setFld F.PWR_STATUS_STATE stStandby
  (s.setFld F.PWR_TIME_US us).setFld F.PWR_CHANGE_TICK_TICK tick

/-! ### Bring-up (R491-R493) -/

/-- Firmware has its domains on and the first round and calibrations are done: roles, then WAIT_TSYNC. -/
def State.bootPoll (s : State) : State :=
  if s.pwrState = stBoot ∧ s.fld F.PWR_STATUS_PHASE = 2 ∧ s.pwr.trans.isNone ∧ s.domain 2 = 1 ∧
      s.flag F.HK_STATUS_FIRST then
    let s := if s.flag F.CAL_STATUS_FIRST_DONE ∨ s.cal.entries.any (fun e => e.2.cause == .bringUp) then s
      else s.calForce
    if s.flag F.CAL_STATUS_FIRST_DONE then
      (s.assignRoles.setFld F.PWR_STATUS_PHASE 3).refreshReplace
    else s
  else s

/-- The last domain of a bring-up group is on: the boot ROM after PD_CTL (warm boot and device reset alike), then
firmware's own steps after the others. -/
def State.bootGroupDone (s : State) : State :=
  let s := { s with pwr := { s.pwr with trans := none } }
  if s.domain 2 = 0 then s.romBoot else s.bootPoll

/-- The failed signals of a direction, 0 converter to core. -/
def failedSignals (f : BridgeFound) (d : Nat) : List Nat :=
  ((if d = 0 then f.up else f.down).map Fin.val).foldl insertNat []

/-- The repair map of a link's direction. -/
def State.repairMap (s : State) (link dir : Nat) : List Nat := sget (fun _ => []) s.pwr.repair (2 * link + dir)

/-- A self-test can replace every failed signal: each direction has 8 spares (R25). -/
def repairable (f : BridgeFound) : Bool := (List.range 2).all (fun d => decide ((failedSignals f d).length ≤ 8))

/-- The boot's self-test of a link stores its repair map: each failed signal is carried by the next spare (R25, log 138). -/
def State.bridgeRepair (s : State) (link : Nat) (f : BridgeFound) : State :=
  let m := (List.range 2).foldl (fun m d => sput (fun _ => []) m (2 * link + d) (failedSignals f d)) s.pwr.repair
  { s with pwr := { s.pwr with repair := m } }

/-- A self-test against the boot repair map passes: it finds no failed signal that the map does not carry (R530). -/
def State.bridgeHolds (s : State) (link : Nat) (f : BridgeFound) : Bool :=
  (List.range 2).all (fun d => (failedSignals f d).all (fun x => (s.repairMap link d).contains x))

/-- BRIDGE_REPAIR_FAIL at a bring-up's self-test: the die is retired before its first tick (R25). -/
def State.bridgeFails (s : State) (k : Nat) : State :=
  let s := s.raise 0x1011 k (srcDie k) sevError
  let s := { s with fault := { s.fault with repairDies := insertNat s.fault.repairDies k } }
  let s := (s.retireUnit (srcDie k) 0 7).refreshReplace
  (s.domainOff (8 + k)).domainOff (4 + k)

/-- Takes a step out of the group in progress, then goes on: the next groups, or the end of the transition. -/
def State.stepDone (s : State) (t : Transition) (drop : PowerStep → Bool) (woken : List Nat) (us : Nat) : State :=
  match t.steps with
  | [] => s
  | g :: rest =>
    let left := g.filter (fun x => !drop x)
    let t := { t with woken := t.woken ++ woken }
    if left.isEmpty then
      let s := s.beginGroups t rest
      match s.pwr.trans with
      | some u =>
        if u.steps.isEmpty then
          if u.source = stBoot then s.bootGroupDone else s.reachState u us
        else s
      | none => s
    else s.putTrans { t with steps := left :: rest }

/-- The checks of a wake step pass: it is not in its off time, and its loops are LOCKED (R488). -/
def State.wakePasses (s : State) (t : Transition) (d : Nat) : Bool :=
  !s.pwr.retryOff.contains d && (domainLoops (t.source == stBoot) d).all (fun l => decide (s.loop l = .locked))

/-- What a boundary has still to bring into force before IDLE's or QUIET's own step is complete. -/
def State.stepWaits (s : State) : Bool := s.counting && (s.pwr.quietDue.isSome || s.pwr.gateDue.isSome)

/-- The head group of a transition that has not begun, begins when it may. -/
def State.powerPoll (s : State) : State :=
  match s.pwr.trans with
  | some t => if t.begun then s else s.beginGroups t t.steps
  | none => s

/-- A wake step of a domain passes both checks (in bring-up with what the bridge self-test finds),
or the other step in progress ends; `us`: the duration of the transition so far. -/
def State.powerStep (s : State) (domain : Option Nat) (found : BridgeFound) (us : Nat) : State :=
  match s.pwr.trans with
  | none => s
  | some t =>
    if !t.begun then s.powerPoll
    else
      match domain with
      | some d =>
        if (t.steps.headD []).contains (.wake d) ∧ s.wakePasses t d then
          let tests := t.source == stBoot && decide (4 ≤ d) && decide (d < 8)
          let fails := tests && !repairable found
          let s := if fails then s.bridgeFails (d - 4) else if tests then s.bridgeRepair (d - 4) found else s
          s.stepDone t (fun x => x == .wake d || (fails && x == .wake (d + 4))) [d] us
        else s
      | none =>
        match t.steps.headD [] with
        | [.offAll] => s.enterStandby t us
        | [.wake _] => s
        | [.dozeFrontEnd] => s.stepDone t (fun x => x == .dozeFrontEnd) [] us
        | [x] => if s.stepWaits ∧ t.steps.length = 1 then s else s.stepDone t (fun y => y == x) [] us
        | _ => s

/-- HOUSEKEEPING_ROUND: the first round leads bring-up on. -/
def execHousekeepingRound (temps : List Int) (supplies : List Nat) (s : State) : Host.Outcome State Fault Refusal :=
  .next (s.hkRound temps supplies).bootPoll

/-! ### Wake failure (R489) -/

/-- The state a domain has in a source state (Table 01-5). -/
def domainIn (st d : Nat) : Nat :=
  if st = stDoze then (match d with | 1 => 2 | 2 => 3 | 12 => 3 | _ => 0) else 0

/-- A domain that the transition had woken goes back to its state in the source state. -/
def State.unwake (s : State) (st d : Nat) : State :=
  let s := (s.domainOff d).setDomain d (domainIn st d)
  if d = 1 ∧ st = stDoze then s.setFld F.CLK_STATUS_CTL_FALLBACK 1 else s

/-- PWR_FAILED and PWR_WAKE_FAIL of an abort. -/
def State.noteWakeFail (s : State) (d check src tgt : Nat) : State :=
  let s := s.setFld F.PWR_FAILED_MASK (putBits (s.fld F.PWR_FAILED_MASK) d 1 1)
  let s := (s.setFld F.PWR_WAKE_FAIL_FROM src).setFld F.PWR_WAKE_FAIL_TARGET tgt
  (s.setFld F.PWR_WAKE_FAIL_CHECK check).setFld F.PWR_WAKE_FAIL_DOMAIN d

/-- WAKE_FAIL's event: CRITICAL for PD_CTL and PD_FAB. -/
def State.raiseWakeFail (s : State) (d check : Nat) : State :=
  s.raise 0x0011 (d + 256 * check) (srcDomain d) (if d = 1 ∨ d = 2 then sevCritical else sevError)

/-- The failed domain's units retire. -/
def State.retireDomain (s : State) (d : Nat) : State :=
  let us := domainUnits d
  let s := { s with fault := { s.fault with wakeRetired := us.foldl insertNat s.fault.wakeRetired } }
  (us.foldl (fun s u => s.retireUnit u 0 3) s).refreshReplace

/-- The second failure: abort of a transition; in bring-up, the device starts without those units, or not at all. -/
def State.wakeAbort (s : State) (t : Transition) (d check us : Nat) : State :=
  let s := s.domainOff d
  let s := s.noteWakeFail d check t.source t.target
  if t.source = stBoot then
    if d = 1 then
      { s with fault := { s.fault with ctlWakeFail := true }, pwr := { s.pwr with trans := none } }.refreshService
    else if d = 2 then
      let s := { (s.setFld F.PWR_STATUS_FAILED 1).raiseWakeFail d check with pwr := { s.pwr with trans := none } }
      s.refreshReplace
    else
      let s := (s.raiseWakeFail d check).retireDomain d
      let pair := if 4 ≤ d ∧ d < 8 then d + 4 else if 8 ≤ d ∧ d < 12 then d - 4 else d
      (s.domainOff pair).stepDone t (fun x => x == .wake d || x == .wake pair) [] us
  else
    let group := (t.steps.headD []).filterMap (fun x => match x with | .wake e => some e | _ => none)
    let s := (t.woken ++ group).foldl (fun s e => s.unwake t.source e) s
    let s := if d = 1 ∨ d = 2 then s.setFld F.PWR_STATUS_FAILED 1 else s.retireDomain d
    let s := (s.raiseWakeFail d check).refreshReplace
    let s := { s with pwr := { s.pwr with trans := none, failedOnce := [], retryOff := [] } }
    let s := (s.setTarget none).setFld F.PWR_TIME_US us
    let s := match t.tag with
      | some tag => s.finishNow tag .wakeFail (stateReply t.source (if d = 1 ∨ d = 2 then 0 else 2 ^ d) us)
      | none => s
    s.takePending

/-- A wake step misses its power-good check (1) or its clock check (2): off for a retry, or the abort. -/
def State.wakeFails (s : State) (d check us : Nat) : State :=
  match s.pwr.trans with
  | none => s
  | some t =>
    if t.begun ∧ (t.steps.headD []).contains (.wake d) ∧ !s.pwr.retryOff.contains d ∧ !(check = 2 ∧ s.pausedBySafe) then
      if s.pwr.failedOnce.contains d then s.wakeAbort t d check us
      else
        let s := s.domainOff d
        { s with pwr := { s.pwr with failedOnce := insertNat s.pwr.failedOnce d, retryOff := insertNat s.pwr.retryOff d } }
    else s

/-- WAKE_STEP_RETRY: after 100 µs off, the step begins again. -/
def State.wakeRetry (s : State) (d : Nat) : State :=
  match s.pwr.trans with
  | some t =>
    if s.pwr.retryOff.contains d then
      let s := { s with pwr := { s.pwr with retryOff := s.pwr.retryOff.filter (fun x => x != d) } }
      s.beginStep t.dropMd (t.source == stBoot) (.wake d)
    else s
  | none => s

/-- The step of a domain's wake is in progress in a transition. -/
def State.waking (s : State) (d : Nat) : Bool :=
  s.pwr.trans.any (fun t => t.begun && (t.steps.headD []).contains (.wake d))

/-! ### Brown-out (R487) -/

/-- A domain in low-power mode, retention or self-refresh. -/
def State.lowPower (s : State) (d : Nat) : Bool := decide (2 ≤ s.domain d)

/-- A browned-out domain is off, counted and named (R487). -/
def State.brownNote (s : State) (d : Nat) : State :=
  let s := s.setDomain d 0
  let s := (s.setFld F.PWR_BROWNOUT_MASK (putBits (s.fld F.PWR_BROWNOUT_MASK) d 1 1)).addFld F.PWR_BROWNOUT_COUNT 1
  { s with pwr := { s.pwr with brownOff := insertNat s.pwr.brownOff d } }

/-- PD_FAB's contents are lost. -/
def State.brownFab (s : State) : State :=
  ((s.wipeFab.reapply s.fault.retired).setFld F.PWR_STATUS_CONTEXT_LOST 1).refreshHolds

/-- PD_CTL's contents are lost; the clocks it selects, their status and TSYNC's count stand (R452). -/
def State.brownCtl (s : State) : State :=
  let t := (s.wipeCtl.reapply s.keptUnits).setFld F.PWR_STATUS_CONTEXT_LOST 1
  let t := ((t.setFld F.CLK_CFG_REF_SEL (s.fld F.CLK_CFG_REF_SEL)).setReg 0x20000 (s.reg 0x20000)).setFld F.CLK_SYNC_DONE
    (s.fld F.CLK_SYNC_DONE)
  let t := { t with
    clk := { t.clk with laneSrc := s.clk.laneSrc }
    pwr := { t.pwr with request := none, trans := t.pwr.trans.map (fun (t : Transition) => { t with tag := none }) } }
  (t.setFld F.PWR_STATUS_PENDING 7).refreshHolds

/-- What a domain loses in a brown-out: PD_REC its capture, PD_FAB and PD_CTL their contents. -/
def State.brownLoss (s : State) (d : Nat) : State :=
  if d = 12 then s.recLost false else if d = 2 then s.brownFab else if d = 1 then s.brownCtl else s.refreshHolds

/-- BROWNOUT: the domain goes off with its contents lost. -/
def State.brownOut (s : State) (d : Nat) : State :=
  if s.lowPower d then ((s.brownNote d).brownLoss d).raise 0x0012 d (srcDomain d) sevError else s

def execBrownout (domain : Fin 13) (s : State) : Host.Outcome State Fault Refusal := .next (s.brownOut domain.val)

/-- BROWNOUT_RESTART: PD_MD stays off, PD_FAB is in retention, PD_CTL runs the boot ROM within DOZE. -/
def State.brownRestart (s : State) (d : Nat) : State :=
  if !s.pwr.brownOff.contains d then s
  else
    let s := { s with pwr := { s.pwr with brownOff := s.pwr.brownOff.filter (fun x => x != d) } }
    match d with
    | 2 => s.setDomain 2 3
    | 1 =>
      let s := (s.setDomain 1 2).romBoot
      if s.sec.recovery then s
      else ((s.setFld F.PWR_STATUS_PHASE 4).setFld F.MBX_STATUS_READY 1).refreshReplace
    | _ => s

def execBrownoutRestart (domain : Fin 13) (s : State) : Host.Outcome State Fault Refusal :=
  .next (s.brownRestart domain.val)

/-! ### Resets (R478, R491) -/

/-- Sources that hold the safe state as bring-up begins: a missing REFCLK trips at once, and so does a low SAFE_N. -/
def State.tripPins (s : State) : State :=
  let s := if s.pwr.refPresent then s else s.enterSafe safeRef
  if s.pwr.safePin then s.enterSafe safePin else s

/-- Every block at its reset values. What is not the reset's to change stays: fuses and flash, pins, the queue, host
memory. -/
def State.allReset (s : State) : State :=
  let s := (s.resetRange 0x10000 0x1FFFF).wipeFab.wipeCtl
  { s with
    ev := EventState.init
    clk := ClockState.init
    fault := { FaultState.init with lostLogged := s.fault.lostLogged }
    pwr := { PowerState.init with
      safePin := s.pwr.safePin, refPresent := s.pwr.refPresent, lanePresent := s.pwr.lanePresent } }

/-- Lavender's memory test; where it fails, the shadow bank (R537). -/
def State.memTest (s : State) (ok : Bool) : State := if ok then s else s.logMemFail false none

/-- DEVICE_RESET: VAON rises. `flash`: what the boot ROM will find in the boot flash, where that has changed from outside;
`memOk`: the verdict of Lavender's memory test. -/
def State.deviceReset (s : State) (flash : Option RomFinding) (memOk : Bool) : State :=
  let lost := s.fault.lostLogged
  let s := s.allReset
  let s := match flash with
    | some f => { s with sec := { s.sec with rom := f, active := f.active % 2, fwObjects := [] } }
    | none => s
  let s := { s with fault := { s.fault with lostLogged := lost } }
  (s.tripPins).memTest memOk

def execDeviceReset (flash : Option RomFinding) (memOk : Bool) (s : State) : Host.Outcome State Fault Refusal :=
  .next (s.deviceReset flash memOk)

/-- PWR_CTRL.WAKE: in STANDBY, the warm boot, with PD_CTL enabled first (R483, R491). -/
def State.warmBoot (s : State) (memOk : Bool) : State :=
  if s.pwrState ≠ stStandby ∨ s.pwr.off then s
  else
    let units := s.keptUnits
    let f := s.fault
    let failed := s.reg (F.PWR_FAILED_MASK).addr
    let brown := s.reg (F.PWR_BROWNOUT_MASK).addr
    let wake := s.reg (F.PWR_WAKE_FAIL_DOMAIN).addr
    let cfg := s.reg (F.PWR_BOOT_CFG_TSYNC_TO).addr
    let s := (s.allReset.reapply units).resetLinks
    let s := { s with fault := { s.fault with wakeRetired := f.wakeRetired, lostLogged := f.lostLogged } }
    let s := ((s.setReg (F.PWR_FAILED_MASK).addr failed).setReg (F.PWR_BROWNOUT_MASK).addr brown).setReg
      (F.PWR_WAKE_FAIL_DOMAIN).addr wake
    let s := s.setReg (F.PWR_BOOT_CFG_TSYNC_TO).addr cfg
    let s := { s with pwr := { s.pwr with fallback := true } }
    let s := (s.setFld F.CLK_STATUS_FALLBACK_OK 1).tripPins
    (s.memTest memOk).beginGroups ⟨stBoot, stActive, none, false, [], [], 0, false⟩ [[.wake 1]]

/-- POWER_OFF: the supplies go, and with them every content (R478). -/
def State.powerOff (s : State) : State :=
  let lost := s.fault.lostLogged
  let s := s.allReset
  let s := (s.setFld F.PWR_DOMAIN_STATE 0)
  { s with pwr := { s.pwr with off := true, frontLow := true }, fault := { s.fault with lostLogged := lost } }

def execPowerOff (s : State) : Host.Outcome State Fault Refusal := .next s.powerOff

/-- The events of trips during the fallback count, in their order, each with the sources held at its trip (R445). -/
def State.logTrips (s : State) (l : List (Nat × Nat)) : State :=
  match l with
  | [] => s
  | (b, m) :: r =>
    let s := if b = safeRef then s.raiseFree 0x2005 srcOther sevError
      else if b = safeLane then s.raiseFree 0x2006 srcOther sevError else s
    (s.raise 0x2007 m srcOther sevWarning).logTrips r

/-- FALLBACK_STABLE: the trips so far are logged, the cores leave reset and PD_CTL is enabled (R445, R491). -/
def State.fallbackStable (s : State) : State :=
  if s.pwr.off ∨ s.pwr.fallback then s
  else
    let l := s.clk.deferredTrip
    let s := { s with pwr := { s.pwr with fallback := true }, clk := { s.clk with deferredTrip := [] } }
    let s := (s.setFld F.CLK_STATUS_FALLBACK_OK 1).logTrips l
    s.beginGroups ⟨stBoot, stActive, none, false, [], [], 0, false⟩ [[.wake 1]]

def execFallbackStable (s : State) : Host.Outcome State Fault Refusal := .next s.fallbackStable

/-- A frequency within ±10 % of a nominal one [kHz]. -/
def nearFreq (nominal khz : Nat) : Bool := decide (9 * nominal ≤ 10 * khz ∧ 10 * khz ≤ 11 * nominal)

/-- REFCLK_MEASURE: firmware's measurement over 10 µs [kHz]; 0: no edge (R492). -/
def State.refMeasure (s : State) (khz : Nat) : State :=
  if s.pwrState = stBoot ∧ s.fld F.PWR_STATUS_PHASE = 2 ∧ s.domain 2 = 0 ∧ s.pwr.trans.isNone ∧ !s.flag F.PWR_STATUS_FAILED then
    if nearFreq 491520 khz || nearFreq 122880 khz then
      let s := (s.setFld F.PWR_STATUS_NO_REFCLK 0).setFld F.CLK_CFG_REF_SEL (b2n (nearFreq 122880 khz))
      s.beginGroups ⟨stBoot, stActive, none, false, [], [], 0, false⟩ [[.wake 2], s.outerDomains.map .wake]
    else if s.flag F.PWR_STATUS_NO_REFCLK then s
    else (s.setFld F.PWR_STATUS_NO_REFCLK 1).raise 0x2005 khz srcOther sevError
  else s

def execRefclkMeasure (khz : Nat) (s : State) : Host.Outcome State Fault Refusal := .next (s.refMeasure khz)

/-- BOOT_TSYNC_TIMEOUT: no edge within TSYNC_TO: NO_TSYNC, and Crocus starts without a divider reset (R491). -/
def execBootTsyncTimeout (s : State) : Host.Outcome State Fault Refusal :=
  .next (if s.pwrState = stBoot ∧ s.fld F.PWR_STATUS_PHASE = 3 ∧ !s.flag F.CLK_SYNC_DONE ∧ !s.flag F.PWR_STATUS_NO_TSYNC then
    ((s.setFld F.PWR_STATUS_NO_TSYNC 1).raiseFree 0x0013 srcOther sevWarning).startTick
  else s)

/-- BRINGUP_COMPLETE: RUN, READY, ACTIVE; a CONTROL_LOST of the last run is logged (Table 03-8). -/
def State.bringupComplete (s : State) : State :=
  if s.pwrState = stBoot ∧ s.fld F.PWR_STATUS_PHASE = 3 ∧ (s.flag F.CLK_SYNC_DONE ∨ s.flag F.PWR_STATUS_NO_TSYNC) then
    let s := s.startTick
    let s := (s.setFld F.PWR_STATUS_PHASE 4).setFld F.PWR_STATUS_STATE stActive
    let s := (s.setFld F.MBX_STATUS_READY 1).setFld F.PWR_CHANGE_TICK_TICK s.tickno
    let s := if s.fault.lostLogged then
        { s.raiseFree 0x0005 srcOther sevCritical with fault := { s.fault with lostLogged := false } } else s
    (s.raise 0x0010 stActive srcOther sevInfo).refreshCal
  else s

def execBringupComplete (s : State) : Host.Outcome State Fault Refusal := .next s.bringupComplete

end Sys2Proof.Machine
end

