-- ==== Sys2Proof/Machine/Units.lean ====
section
/-!
DEFINITION. Sys2Proof/Machine/Units.lean: SYS_RESET_UNIT, the return of a retired unit (R530), and the rows whose steps belong to
a power transition or to such a return.
-/
namespace Sys2Proof.Machine

/-! ### Checks (R530) -/

def resetTarget (c : Cmd) : Nat := srcCode (leAt c.payload 0 1) (leAt c.payload 1 1)

def chkResetUnit (c : Cmd) : Option Status :=
  if c.payload.length ≠ 4 ∨ 9 < leAt c.payload 0 1 ∨ unitCount (leAt c.payload 0 1) ≤ leAt c.payload 1 1 ∨
      !zeroAt c.payload 2 2 then some .badParam else none

/-- A die retired by the bridge self-test, or by a wake failure while FAILED is 1, cannot be returned. -/
def State.dieBarred (s : State) (src : Nat) : Bool :=
  srcType src == 8 && (s.fault.repairDies.contains (srcIx src) ||
    (s.flag F.PWR_STATUS_FAILED && s.fault.wakeRetired.contains src))

/-- Check 8 for a payload whose fields are in range. -/
def ctxResetUnit (s : State) (c : Cmd) : Option Status :=
  let src := resetTarget c
  if 1 < s.pwrState ∨ s.degraded ∨ (unitsAround src).any s.isRetired ∨ s.dieBarred src then some .notPermitted else none

/-! ### A unit in the state after a device reset -/

/-- A receive path. -/
def State.renewRx (s : State) (p : Nat) : State :=
  let s := s.resetRange (0x100000 + 0x1000 * p) (0x100FFF + 0x1000 * p)
  let st := fun i => i / 4 == p
  let me := fun i => i == p
  let s := { s with rx := { s.rx with
    streams := sclear st s.rx.streams, entry := sclear me s.rx.entry, nco := sclear st s.rx.nco
    filters := sclear st s.rx.filters, lowRun := sclear me s.rx.lowRun, loopNext := sclear me s.rx.loopNext
    clipSlot := sclear me s.rx.clipSlot, floors := sclear me s.rx.floors, aligned := sclear st s.rx.aligned } }
  let m := s.rxRetMask
  let s := (s.setFld F.BF_RET_TICK_TICK s.tickno).setFld F.BF_RET_RX_LO_MASK m
  (s.setFld F.BF_RET_RX_HI_MASK (m / 2 ^ 32)).refreshRxLoad

/-- A transmit path, its predistortion and its power table. -/
def State.renewTx (s : State) (p : Nat) : State :=
  let s := s.resetRange (0x140000 + 0x1000 * p) (0x140FFF + 0x1000 * p)
  let s := s.resetRange (0x211000 + 0x20 * p) (0x21101F + 0x20 * p)
  let st := fun i => i / 4 == p
  let me := fun i => i == p
  let nco := sclear (fun i => decide (256 ≤ i) && (i - 256) / 4 == p) s.rx.nco
  let s := { s with
    rx := { s.rx with nco := nco }
    tx := { s.tx with
      shapes := sclear st s.tx.shapes, hist := sclear st s.tx.hist, onLinks := sclear st s.tx.onLinks
      powers := sclear (fun i => i / 384 == p) s.tx.powers, masks := sclear (fun i => i / 512 == p) s.tx.masks
      links := sclear st s.tx.links, settle := sclear st s.tx.settle, settleAir := s.tx.settleAir.filter (fun e => e.1 != p)
      lastAir := sclear me s.tx.lastAir, cfr := sclear me s.tx.cfr, misses := sclear me s.tx.misses
      entryDue := s.tx.entryDue.filter (fun q => q != p)
      warmUp := sclear me s.tx.warmUp, backoffDue := sclear me s.tx.backoffDue, columnDue := sclear me s.tx.columnDue }
    dpd := { s.dpd with
      models := sclear me s.dpd.models, sets := sclear (fun i => i / 80 == p) s.dpd.sets
      paths := sclear me s.dpd.paths, past := sclear me s.dpd.past } }
  let s := s.setFld (F.DPD_P_STATUS_SLOT p) (s.wantedSlot p (s.bandOf p))
  let s := if s.isRetired (srcOx (p / 8)) then s.setFld (F.DPD_P_STATUS_NO_OBS p) 1 else s
  let m := s.txRetMask
  let s := (s.setFld F.BF_RET_TICK_TICK s.tickno).setFld F.BF_RET_TX_LO_MASK m
  ((s.setFld F.BF_RET_TX_HI_MASK (m / 2 ^ 32)).refreshCap p).refreshTxLoad

def State.renewQuad (s : State) (n : Nat) : State := s.resetRange (0x1C0000 + 0x1000 * n) (0x1C0FFF + 0x1000 * n)

def State.renewOx (s : State) (j : Nat) : State :=
  let s := s.resetRange (0x180000 + 0x1000 * j) (0x180FFF + 0x1000 * j)
  (List.range 8).foldl (fun s i => s.setFld (F.DPD_P_STATUS_NO_OBS (8 * j + i)) 0) s

/-- An engine is STOPPED with ROLE NONE (R400). -/
def State.renewEngine (s : State) (e : Nat) : State :=
  let s := s.resetRange (0x400000 + 0x10000 * e) (0x40FFFF + 0x10000 * e)
  let s := { s with eng := { s.eng with
    engines := sclear (fun i => i == e) s.eng.engines, images := sclear (fun i => i == e) s.eng.images,
    jobs := sclear (fun i => i == e) s.eng.jobs, results := sclear (fun i => i == e) s.eng.results } }
  s.setEngRun e .stopped

/-- A lane is OFF and not enabled; its mode and rate stay those of its group, which both lanes share (R315, log 187). -/
def State.renewLane (s : State) (l : Nat) : State :=
  let mate := if l % 2 = 0 then l + 1 else l - 1
  let mode := s.fld (F.LN_STATUS_MODE mate)
  let rate := s.fld (F.LN_STATUS_RATE mate)
  let s := s.resetRange (0x310000 + 0x1000 * l) (0x310FFF + 0x1000 * l)
  let s := (s.setFld (F.LN_STATUS_MODE l) mode).setFld (F.LN_STATUS_RATE l) rate
  let me := fun i => i == l
  { s with ln := { s.ln with
      hw := sclear me s.ln.hw, pats := sclear me s.ln.pats, errs := sclear me s.ln.errs, bits := sclear me s.ln.bits
      injLeft := sclear me s.ln.injLeft, injNext := sclear me s.ln.injNext } }

def State.renewPort (s : State) (k : Nat) : State := s.resetRange (0x300000 + 0x1000 * k) (0x300FFF + 0x1000 * k)

def State.renewCas (s : State) (k : Nat) : State := (s.resetRange (0x320100 + 0x20 * k) (0x32011F + 0x20 * k)).refreshPresent

/-- A unit returns to service (R530): UNIT_RETURNED. -/
def State.returnUnit (s : State) (src : Nat) : State :=
  let i := srcIx src
  let out := fun (l : List Nat) => l.filter (fun u => u != src)
  let s := { s with fault := { s.fault with
    retired := out s.fault.retired, wakeRetired := out s.fault.wakeRetired
    repairDies := if srcType src = 8 then s.fault.repairDies.filter (fun d => d != i) else s.fault.repairDies } }
  let mine := calUnits src
  let s := { s with cal := { s.cal with entries := s.cal.entries.map (fun (e : Nat × CalEntry) =>
    if mine.contains (calItem e.1, calUnit e.1) && e.2.phase == CalPhase.retired then (e.1, { e.2 with phase := CalPhase.idle }) else e) } }
  let s := match srcType src with
    | 0 => s.renewRx i
    | 1 => s.renewTx i
    | 2 => s.renewQuad i
    | 3 => s.renewOx i
    | 4 => s.renewEngine i
    | 5 => s.renewLane i
    | 6 => s.renewPort i
    | 7 => s.renewCas i
    | 9 => s.setRecSt .idle
    | _ => s
  s.refreshExcl.raise 0xF004 src src sevInfo

/-! ### The tests -/

/-- Calibration attempts a path or an observation receiver is tested by: its items, in the group it uses. -/
def State.testKeys (s : State) (src : Nat) : List Nat :=
  if srcType src = 8 then [] else (calUnits src).map (fun u => calKey u.1 u.2 (s.activeGroup u.1 u.2))

/-- The tests' calibration runs start in foreground; one on a transmit path that is not READY stays due (R161). -/
def State.startTests (s : State) (keys : List Nat) : State :=
  keys.foldl (fun s k =>
    let s := s.putCal k { s.calEntry k with phase := .due, cause := .command, fore := true, since := s.elapsed }
    if s.calPathReady k then s.calStart k else s) s

def State.putResets (s : State) (l : List UnitReset) : State := { s with fault := { s.fault with unitReset := l } }

/-- A reset whose tests have ended completes: units that pass return, the others stay retired. -/
def State.endReset (s : State) (u : UnitReset) : State :=
  let bad := u.failed.map (·.1)
  let s := (u.units.filter bad.contains).foldl State.calRetire s
  let s := (u.units.filter (fun x => !bad.contains x)).foldl State.returnUnit s
  let det := match u.failed.find? (fun f => f.1 == u.unit) with
    | some f => f.2
    | none => 0xFF
  (s.finishNow u.tag .ok (leBytes 1 (b2n (bad.contains u.unit)) ++ leBytes 1 det ++ leBytes 2 0)).refreshReplace

def State.settleUnits (s : State) : State :=
  let done := s.fault.unitReset.filter (fun u => u.cals.isEmpty && u.wakes.isEmpty)
  let s := s.putResets (s.fault.unitReset.filter (fun u => !(u.cals.isEmpty && u.wakes.isEmpty)))
  done.foldl State.endReset s

/-- SYS_RESET_UNIT; `selfOk`: an engine passes its self-test. -/
def execSysResetUnit (tag : Nat) (selfOk : Bool) (s : State) : Host.Outcome State Fault Refusal :=
  .next (s.performStart 0x0102 tag anyOp (fun c s =>
    let src := resetTarget c
    let i := srcIx src
    let s := (s.retireUnit src 1 0xFF).refreshReplace
    let units := src :: unitsInside src
    let s := { s with fault := { s.fault with occurred := s.fault.occurred.filter (fun o => !units.contains o.2.1) } }
    let engBad := srcType src = 4 ∧ selfOk = false
    let s := if engBad then s.raiseFree 0xB007 src sevError else s
    let keys := units.flatMap s.testKeys
    let wakes := if srcType src = 8 then [4 + i, 8 + i] else []
    let s := if wakes.isEmpty then s.startTests keys
      else wakes.foldl (fun s d => s.beginStep false false (.wake d)) (wakes.foldl State.domainOff s)
    let u : UnitReset := ⟨c.tag, src, units, keys, wakes, if engBad then [(src, 23)] else [], s.elapsed⟩
    (s.putResets (s.fault.unitReset ++ [u])).settleUnits))

/-- SYS_RESET_UNIT_TIMEOUT: 384,000 ticks without completion; the unit stays retired. -/
def execSysResetUnitTimeout (tag : Nat) (s : State) : Host.Outcome State Fault Refusal :=
  match s.fault.unitReset.find? (fun u => u.tag == tag) with
  | some u =>
    .next (if u.since + 384000 ≤ s.elapsed then
      let s := s.putResets (s.fault.unitReset.filter (fun x => x.tag != tag))
      (u.units.foldl State.calRetire s).finishNow tag .timeout []
    else s)
  | none => .next s

/-! ### A die's wake steps within a return -/

/-- The reset that a domain's wake step belongs to. -/
def State.resetWaking (s : State) (d : Nat) : Option UnitReset := s.fault.unitReset.find? (fun u => u.wakes.contains d)

def State.putReset (s : State) (u : UnitReset) : State :=
  s.putResets (s.fault.unitReset.map (fun x => if x.tag = u.tag then u else x))

/-- A die's tests fail as a whole, for a detector. -/
def State.resetFails (s : State) (u : UnitReset) (det : Nat) : State :=
  (s.putReset { u with wakes := [], cals := [], failed := u.units.map (fun x => (x, det)) }).settleUnits

/-- A wake step of the die passes; with the last one the paths' tests begin, and CDk's brings the bridge self-test with it. -/
def State.resetWoken (s : State) (u : UnitReset) (d : Nat) (found : BridgeFound) : State :=
  if (domainLoops false d).any (fun l => decide (s.loop l ≠ .locked)) ∨ s.pwr.retryOff.contains d then s
  else if d < 8 ∧ !s.bridgeHolds (d - 4) found then
    let s := s.raise 0x1011 (d - 4) u.unit sevError
    let s := { s with fault := { s.fault with repairDies := insertNat s.fault.repairDies (d - 4) } }
    ((s.domainOff (d + 4)).domainOff d).resetFails u 7
  else
    let left := u.wakes.filter (fun x => x != d)
    let s := s.putReset { u with wakes := left }
    (if left.isEmpty then s.startTests u.cals else s).settleUnits

/-- A wake step of the die misses a check: once again, or the return fails. -/
def State.resetWakeFails (s : State) (u : UnitReset) (d check : Nat) : State :=
  if s.pwr.retryOff.contains d then s
  else if s.pwr.failedOnce.contains d then
    let s := (s.noteWakeFail d check s.pwrState s.pwrState).raiseWakeFail d check
    let k := d % 4
    let s := { s with pwr := { s.pwr with failedOnce := s.pwr.failedOnce.filter (fun x => x % 4 != k) } }
    ((s.domainOff (8 + k)).domainOff (4 + k)).resetFails u 3
  else
    let s := s.domainOff d
    { s with pwr := { s.pwr with failedOnce := insertNat s.pwr.failedOnce d, retryOff := insertNat s.pwr.retryOff d } }

/-! ### Rows -/

/-- POWER_STEP_COMPLETE: a domain's wake step passes both checks (with what the bridge self-test finds), or (none) the other
step in progress ends. -/
def execPowerStepComplete (domain : Option (Fin 13)) (found : BridgeFound) (us : Nat) (s : State) :
    Host.Outcome State Fault Refusal :=
  match domain with
  | none => .next (s.powerStep none found us)
  | some d =>
    match s.resetWaking d.val with
    | some u => .next (if s.waking d.val then s.powerStep (some d.val) found us else s.resetWoken u d.val found)
    | none => .next (s.powerStep (some d.val) found us)

/-- WAKE_STEP_FAIL: a wake step misses power-good (`clock` false) or its clock check. -/
def execWakeStepFail (domain : Fin 13) (clock : Bool) (us : Nat) (s : State) : Host.Outcome State Fault Refusal :=
  let check := if clock then 2 else 1
  match s.resetWaking domain.val with
  | some u =>
    .next (if s.waking domain.val then s.wakeFails domain.val check us else s.resetWakeFails u domain.val check)
  | none => .next (s.wakeFails domain.val check us)

/-- WAKE_STEP_RETRY: after 100 µs off, the step begins again. -/
def execWakeStepRetry (domain : Fin 13) (s : State) : Host.Outcome State Fault Refusal :=
  let d := domain.val
  match s.resetWaking d with
  | some _ =>
    .next (if s.waking d then s.wakeRetry d
      else if s.pwr.retryOff.contains d then
        let s := { s with pwr := { s.pwr with retryOff := s.pwr.retryOff.filter (fun x => x != d) } }
        s.beginStep false false (.wake d)
      else s)
  | none => .next (s.wakeRetry d)

/-- CAL_RUN_COMPLETE: a run ends; bring-up and the returns that wait for it go on. -/
def execCalRunComplete (key : Fin 24576) (comps : List Int) (xres : Int) (s : State) : Host.Outcome State Fault Refusal :=
  .next (s.calRunComplete key.val comps xres).settleUnits.bootPoll

end Sys2Proof.Machine
end

