-- ==== Sys2Proof/Machine/ClockRows.lean ====
section
/-!
DEFINITION. Sys2Proof/Machine/ClockRows.lean: the rows of the loops, the clock monitor, the SAFE_N pin and TSYNC (R427, R430, R433,
R443, R444), with the power transition that may wait for them.
-/
namespace Sys2Proof.Machine

/-- A change of the clocks, then the commands and the power transition that wait for one. -/
def State.clockRow (s : State) (f : State → State) : State := ((s.clocked f).settleRelocks).powerPoll

/-- CLK_SET_PLAN operation 1. -/
def execClkRelock (tag : Nat) (s : State) : Host.Outcome State Fault Refusal :=
  .next (s.performStart 0x0300 tag (isOp 1) (fun c s => s.clockRow (fun s => s.planLoops c)))

/-- LOOP_LOCK: the lock criterion of a loop is met. -/
def execLoopLock (l : Fin 8) (s : State) : Host.Outcome State Fault Refusal :=
  .next (s.clockRow (fun s => (s.lockLoop l.val).tryRelease))

/-- LOOP_LOCK_TIMEOUT: the lock-time maximum has elapsed. -/
def execLoopLockTimeout (l : Fin 8) (s : State) : Host.Outcome State Fault Refusal :=
  .next (s.clockRow (fun s => s.lockTimeout l.val))

/-- CLK_UNLOCK: the unlock criterion is met. -/
def execClkUnlock (l : Fin 8) (s : State) : Host.Outcome State Fault Refusal :=
  .next (s.clockRow (fun s => s.unlockLoop l.val))

def State.setPins (s : State) (ref lane safe : Bool) : State :=
  { s with pwr := { s.pwr with refPresent := ref, lanePresent := lane, safePin := safe } }

/-- CLK_REF_LOSS: REFCLK fails a test of the monitor. -/
def execClkRefLoss (s : State) : Host.Outcome State Fault Refusal :=
  let s := s.setPins false s.pwr.lanePresent s.pwr.safePin
  .next (if s.pwr.off then s else s.clockRow (fun s => s.trip safeRef))

/-- CLK_LANE_LOSS: LANECLK fails a test, which the monitor makes while MON_LANE is 1. -/
def execClkLaneLoss (s : State) : Host.Outcome State Fault Refusal :=
  let s := s.setPins s.pwr.refPresent false s.pwr.safePin
  .next (if s.pwr.off ∨ !s.flag F.CLK_CFG_MON_LANE then s else s.clockRow (fun s => s.trip safeLane))

def execSafeNLow (s : State) : Host.Outcome State Fault Refusal :=
  let s := s.setPins s.pwr.refPresent s.pwr.lanePresent true
  .next (if s.pwr.off then s else s.clockRow (fun s => s.trip safePin))

def execSafeNHigh (s : State) : Host.Outcome State Fault Refusal :=
  let s := s.setPins s.pwr.refPresent s.pwr.lanePresent false
  .next (s.clockRow (fun s => s.clearSource safePin))

/-- CLOCK_SOURCE_QUALIFIED: REFCLK (or, with `lane`, LANECLK) has passed both tests for 1 ms. -/
def execClockSourceQualified (lane : Bool) (s : State) : Host.Outcome State Fault Refusal :=
  let s := s.setPins (s.pwr.refPresent || !lane) (s.pwr.lanePresent || lane) s.pwr.safePin
  .next (s.clockRow (fun s => (s.clearSource (if lane then safeLane else safeRef)).lateRelocks))

/-- TSYNC_EDGE, `periods` REFCLK periods before the next boundary. -/
def execTsyncEdge (periods : Fin 128) (s : State) : Host.Outcome State Fault Refusal :=
  .next (s.tsyncEdge periods.val).powerPoll

/-- OP_RAMP_COMPLETE: the voltage ramp has ended. -/
def execOpRampComplete (s : State) : Host.Outcome State Fault Refusal := .next s.endRamp.powerPoll

end Sys2Proof.Machine
end

