-- ==== Sys2Proof/Machine/Inject.lean ====
section
/-!
DEFINITION. Sys2Proof/Machine/Inject.lean: fault injection (R540, R541): arming, disarming, and an injection at its detector's
evaluation, with the recovery that Table 19-4 gives the detector.
-/
namespace Sys2Proof.Machine

/-! ### Arming (R541) -/

/-- A unit of Table 19-1 whose type is the detector's (Table 19-4). -/
def injUnitOk (det src : Nat) : Bool :=
  let ty := srcType src
  decide (srcIx src < unitCount ty) &&
  (match det with
   | 0 | 1 => ty == 10
   | 2 | 5 | 10 | 11 | 20 | 22 | 28 | 29 | 30 | 32 => ty == 14
   | 3 | 4 => ty == 15
   | 6 | 7 => ty == 8
   | 8 | 9 => ty == 11
   | 12 | 13 | 14 => ty == 1
   | 15 => ty == 6
   | 16 | 17 => ty == 5
   | 18 | 19 => ty == 7
   | 21 | 23 => ty == 4
   | 24 | 25 => ty == 12
   | 26 | 27 => ty == 13
   | 31 => ty == 0 || ty == 1 || ty == 3 || ty == 8
   | _ => true)

def injMode (c : Cmd) : Nat := leAt c.payload 1 1
def injSrc (c : Cmd) : Nat := leAt c.payload 2 2

def chkInjArm (c : Cmd) : Option Status :=
  let det := c.op
  let ok := decide (c.payload.length = 16) && decide (det < 34) && zeroAt c.payload 12 4 &&
    (injMode c == 0 ||
      (decide (injMode c ≤ 3) && (injMode c != 2 || [6, 22, 32, 33].contains det) && decide (injSrc c < 4096) &&
        injUnitOk det (injSrc c) && !zeroAt c.payload 4 2 && !zeroAt c.payload 6 2))
  if ok then none else some .badParam

/-- NOT_PERMITTED: the unit is retired, or the device is in DOZE. -/
def ctxInjArm (s : State) (c : Cmd) : Option Status :=
  if s.pwrState = stDoze ∨ (injMode c ≠ 0 ∧ s.isRetired (injSrc c)) then some .notPermitted else none

/-- The injection registers of a detector as firmware writes them. -/
def State.showInjection (s : State) (j : Injection) : State :=
  let d := j.detector
  let s := (s.setFld (F.EVR_INJ_CTRL_ARMED d) (b2n (j.left != 0))).setFld (F.EVR_INJ_CTRL_MODE d) j.mode
  let s := (s.setFld (F.EVR_INJ_CTRL_UNIT d) j.unit).setFld (F.EVR_INJ_CTRL_COUNT d) j.left
  (s.setFld (F.EVR_INJ_VALUE_VALUE d) j.value).setFld (F.EVR_INJ_INTERVAL_INTERVAL d) j.interval

def State.putInjections (s : State) (l : List Injection) : State := { s with fault := { s.fault with injections := l } }

def State.dropInjection (s : State) (d : Nat) : State := s.putInjections (s.fault.injections.filter (fun j => j.detector != d))

/-- MODE 1 to 3: the detector's injection is armed, or changed; the first falls in the next tick. -/
def execInjArm (tag : Nat) (s : State) : Host.Outcome State Fault Refusal :=
  .next (s.performStart 0x0B02 tag (fun c => injMode c != 0) (fun c s =>
    let j : Injection := ⟨c.op, injMode c, injSrc c, leAt c.payload 8 4, leAt c.payload 6 2, leAt c.payload 4 2, s.elapsed + 1⟩
    let s := s.dropInjection c.op
    ((s.putInjections (s.fault.injections ++ [j])).showInjection j).finishNow c.tag .ok
      (leBytes 4 (tickAdd s.tickno 1))))

/-- MODE 0: every injection of the detector disarms. -/
def execInjDisarm (tag : Nat) (s : State) : Host.Outcome State Fault Refusal :=
  .next (s.performStart 0x0B02 tag (fun c => injMode c == 0) (fun c s =>
    let s := (s.dropInjection c.op).setFld (F.EVR_INJ_CTRL_ARMED c.op) 0
    let s := (s.setFld (F.EVR_INJ_CTRL_MODE c.op) 0).setFld (F.EVR_INJ_CTRL_COUNT c.op) 0
    s.finishNow c.tag .ok (leBytes 4 (tickAdd s.tickno 1))))

/-! ### An injected fault -/

/-- Severity of a detector's event (R538). -/
def detectorSev (i : Nat) : Nat :=
  if [2, 29, 30, 32].contains i then sevCritical
  else if [5, 6, 9, 12, 13, 14, 16, 24, 27, 31].contains i then sevWarning
  else sevError

/-- Events with code `code` that `f` raises carry the injected mark, and `value` unless it is 0; where `f` raises none, the
detector's event is raised for its unit. -/
def State.withInjected (s : State) (det value src : Nat) (f : State → State) : State :=
  let code := detectorCodes.getD det 0
  let n := s.ev.waiting.length
  let drops := s.fld F.TCK_ARB_DROP_COUNT
  let t := f s
  let t := if (t.ev.waiting.drop n).any (fun e => e.code == code) ∨ t.fld F.TCK_ARB_DROP_COUNT ≠ drops then t
    else t.raiseFree code src (detectorSev det)
  { t with ev := { t.ev with waiting := t.ev.waiting.take n ++ (t.ev.waiting.drop n).map (fun e =>
      if e.code = code then { e with injected := true, value := if value = 0 then e.value else value } else e) } }

/-- LOG_ONLY: the event alone, outside every policy. -/
def State.logOnly (s : State) (j : Injection) : State :=
  let (v, s) := s.fresh 32
  s.raiseEv ⟨s.tickno, detectorCodes.getD j.detector 0, if j.value = 0 then v else j.value, j.unit,
    detectorSev j.detector, true, false⟩

/-- An injected mask violation: counted, and a back-off step where a stream's is enabled (R156). -/
def State.forceMask (s : State) (p : Nat) : State :=
  let s := (s.addFld (F.TXP_MASK_VIOL_COUNT p) 1).raiseFree 0x4002 (srcTx p) sevWarning
  if (List.range 4).any (fun k => s.txEn p k && s.flag (F.TXP_STR_SHAPE_BO_EN p k)) ∧
      sget (fun _ => 0) s.tx.backoffDue p = 0 then
    { s with tx := { s.tx with backoffDue := sput (fun _ => 0) s.tx.backoffDue p (s.elapsed + 1) } }
  else s

/-- An injected calibration disagreement: the old result is kept and the attempt of the unit's first item counts it (R515). -/
def State.forceDisagree (s : State) (src : Nat) : State :=
  match calUnits src with
  | u :: _ => s.calDispute (calKey u.1 u.2 (s.activeGroup u.1 u.2))
  | [] => s

/-- Forced faults of the detectors 0 to 14. -/
def State.forceLow (s : State) (det src arg : Nat) : State :=
  let i := srcIx src
  match det with
  | 0 => (s.raiseFree 0x0001 src sevError).pairFails i
  | 1 => (s.raiseFree 0x0006 src sevError).pairFails i
  | 2 => s.controlLost
  | 3 => if s.waking i then s.wakeFails i 1 arg else s
  | 4 => s.brownOut i
  | 7 => { s with fault := { s.fault with repairDies := insertNat s.fault.repairDies i } }
  | 8 => s.clockRow (fun s => s.lockTimeout i)
  | 9 => s.clockRow (fun s => s.unlockLoop i)
  | 10 => s.clockRow (fun s => s.trip safeRef)
  | 11 => s.clockRow (fun s => s.trip safeLane)
  | 12 => s.forceMask i
  | 13 => s.addFld (F.DPD_P_PWR_COUNT i) 1
  | 14 => s.diverge i 0 true
  | _ => s

/-- Forced faults of the detectors 15 to 22. -/
def State.forceMid (s : State) (det i arg : Nat) : State :=
  if det = 15 then s.portDown i
  else if det = 16 then s.acqFail i
  else if det = 17 then s.laneOff i
  else if det = 18 then s.casLinkDown i
  else if det = 19 then
    let s := s.addFld (F.CAS_P_SKEW_COUNT i) 1
    { s with cas := { s.cas with voidNow := insertNat s.cas.voidNow i } }
  else if det = 20 then s.addFld F.CAS_NOCOMMIT_COUNT 1
  else if det = 21 then (if s.engRun i = .running then s.engFault i 6 else s)
  else if det = 22 then s.eccError (.cluster ⟨arg % 16, Nat.mod_lt _ (by decide)⟩)
  else s

/-- Forced faults of the detectors 23 to 33. -/
def State.forceHigh (s : State) (det src arg : Nat) : State :=
  let i := srcIx src
  if det = 24 then s.busTimeout i
  else if det = 25 then (if s.dmaLive i then s.dmaError i 2 else s)
  else if det = 27 then (if 25 ≤ i then s else s.setFld F.HK_SUSPECT_MASK (putBits (s.fld F.HK_SUSPECT_MASK) i 1 1))
  else if det = 30 then (s.setFld F.CAL_STATUS_XRES_FAULT 1).refreshReplace
  else if det = 31 then s.forceDisagree src
  else if det = 33 then
    if srcType src = 14 ∧ i < 16 then s.eccError (.shared ⟨i % 16, Nat.mod_lt _ (by decide)⟩ arg)
    else s.eccError (.owner src)
  else s

/-- What the device does for a failed check of the detector on the unit: the recovery of Table 19-4. `arg` is what the
evaluation meets: the unit of an overrunning block (5) or of a shared block (33), the engine that reads cluster memory
(22), the microseconds of the transition in progress (3). -/
def State.forceFault (s : State) (det src arg : Nat) : State :=
  if det < 15 then s.forceLow det src arg else if det < 23 then s.forceMid det (srcIx src) arg else s.forceHigh det src arg

/-- One injection of an armed detector. Overruns and bridge errors take effect as the open tick closes (R24, R42);
LOG_MEM_FAIL is the shadow bank's first record (R537). -/
def State.inject (s : State) (j : Injection) (arg : Nat) : State :=
  let v := if j.mode = 2 then 0 else j.value
  if j.mode = 3 then s.logOnly j
  else if j.detector = 5 ∧ srcIx j.unit < 16 then
    let u := if v = 0 then arg else bitsAt v 8 8
    { s with fault := { s.fault with forced := s.fault.forced ++ [(5, srcIx j.unit + 256 * u, v)] } }
  else if j.detector = 6 then
    { s with fault := { s.fault with forced := s.fault.forced ++ [(6, srcIx j.unit, v)] } }
  else if j.detector = 32 then s.logMemFail true (if v = 0 then none else some v)
  else s.withInjected j.detector v j.unit (fun s => s.forceFault j.detector j.unit arg)

/-- INJECTION_FIRE: the detector evaluates, and its injection is due. -/
def execInjectionFire (det : Fin 34) (arg : Nat) (s : State) : Host.Outcome State Fault Refusal :=
  match s.fault.injections.find? (fun j => j.detector == det.val) with
  | none => .next s
  | some j =>
    if s.elapsed < j.nextAt then .next s
    else
      let k := { j with left := j.left - 1, nextAt := s.elapsed + j.interval }
      let s := s.dropInjection det.val
      let s := if k.left = 0 then s else s.putInjections (s.fault.injections ++ [k])
      let s := (s.showInjection k).addFld (F.EVR_INJ_DONE_COUNT det.val) 1
      .next (s.inject j arg)

end Sys2Proof.Machine
end

