-- ==== Sys2Proof/Machine/Accept.lean ====
section
/-!
DEFINITION. Sys2Proof/Machine/Accept.lean: acceptance of command packets (R67-R71, Table 03-4) and the close of an atomic group
(R75-R77).
-/
namespace Sys2Proof.Machine

/-! ### Opcodes (Table 03-6) -/

def commitOpcodes : List Nat :=
  [0x0202, 0x0203, 0x0301, 0x0400, 0x0401, 0x0402, 0x0403, 0x0404, 0x0405, 0x0406, 0x0407, 0x0500, 0x0501, 0x0601, 0x0602,
   0x0680, 0x0701, 0x0702, 0x0703, 0x0900]

def startOpcodes : List Nat :=
  [0x0100, 0x0101, 0x0102, 0x0103, 0x0104, 0x0105, 0x0200, 0x0201, 0x0300, 0x0302, 0x0303, 0x0304, 0x0502, 0x0600, 0x0603,
   0x0681, 0x0700, 0x0800, 0x0801, 0x0802, 0x0803, 0x0901, 0x0A00, 0x0A01, 0x0A02, 0x0B00, 0x0B01, 0x0B02] ++
  [0x0C00, 0x0C01, 0x0C02, 0x0D00, 0x0D01, 0x0D02, 0x0E00, 0x0F00, 0x0F01]

def isCommit (o : Nat) : Bool := commitOpcodes.contains o
def knownOpcode (o : Nat) : Bool := isCommit o || startOpcodes.contains o

/-- Opcodes Privi accepts while bring-up waits for REFCLK (R492), and while the device replays (R557). -/
def waitingOpcodes : List Nat := [0x0100, 0x0101, 0x0103, 0x0105, 0x0201]
def replayOpcodes : List Nat := [0x0100, 0x0101, 0x0103, 0x0105, 0x0201, 0x0B00, 0x0C01]

/-! ### A commit command tried on a state -/

/-- The state a row answers with, or the state as it was. -/
def stateOf (s : State) (o : Host.Outcome State Fault Refusal) : State :=
  match o with
  | .next t => t
  | _ => s

/-- A row run on a state. -/
def State.run (s : State) (f : State → Host.Outcome State Fault Refusal) : State := stateOf s (f s)

/-- The rows of a commit opcode on an accepted command: the one its payload selects acts. -/
def State.commitRow (s : State) (c : Cmd) : State :=
  let s := s.putPrivi { s.privi with accepted := s.privi.accepted ++ [c] }
  match c.opcode with
  | 0x0202 => s.run (execPwrSetOp c.tag)
  | 0x0203 => (s.run (execPwrGateClose c.tag [])).run (execPwrGateRelease c.tag)
  | 0x0301 => s.run (execClkUpdateDividers c.tag)
  | 0x0400 => (s.run (execPathConfigCarriersRx c.tag)).run (execPathConfigCarriersTx c.tag)
  | 0x0401 => s.run (execPathSetGain c.tag)
  | 0x0402 => (s.run (execPathSelectFreqEntry c.tag)).run (execPathDefineFreqEntry c.tag)
  | 0x0403 => s.run (execPathLoadFilter c.tag)
  | 0x0404 => (s.run (execPathSetPowerStep c.tag)).run (execPathLoadPowerColumn c.tag)
  | 0x0405 => s.run (execPathRetire c.tag)
  | 0x0406 => s.run (execPathSetMask c.tag)
  | 0x0407 => s.run (execPathSetFrontendSchedule c.tag)
  | 0x0500 => s.run (execBfLoadBeamTable c.tag)
  | 0x0501 => (s.run (execBfSetCarrier c.tag)).run (execBfSetBeamLayer c.tag)
  | 0x0601 => s.run (execDpdFreeze c.tag)
  | 0x0602 => (s.run (execDpdLoadModel c.tag)).run (execDpdLoadCoefficients c.tag)
  | 0x0680 => s.run (execPrachConfig c.tag)
  | 0x0701 => s.run (execFhMapEaxc c.tag)
  | 0x0702 => s.run (execFhSetWindows c.tag)
  | 0x0703 => s.run (execFhSetCompression c.tag)
  | 0x0900 => s.run (execCasConfig c.tag)
  | _ => s

/-- The commit a command would arm. -/
def State.trial (s : State) (c : Cmd) : Option Commit :=
  (s.commitRow c).armed.find? (fun k => k.results.any (fun r => r.1 == c.tag) && k.seq == c.seq)

/-- The state with that commit armed at the command's tick, and nothing else changed. -/
def State.armTrial (s : State) (c : Cmd) : State :=
  match s.trial c with
  | some k => s.armCommit { k with tick := c.actTick }
  | none => s

/-- The state as the commits of accepted commands will have armed it. -/
def State.withAccepted (s : State) : State := (s.privi.accepted.filter (fun c => isCommit c.opcode)).foldl State.armTrial s

/-- The earliest commit tick of a command accepted in the open tick (R46; R438 for PWR_SET_OP). -/
def State.cmdEarliest (s : State) (c : Cmd) : Nat :=
  if c.opcode = 0x0202 then earliestOp s c
  else match s.trial c with
    | some k => s.earliest k.bulk
    | none => s.earliest []

/-! ### Check 7: the maintenance unlock (R579) -/

/-- The scope bit a command needs. -/
def scopeNeeded (c : Cmd) : Option Nat :=
  match c.opcode with
  | 0x0802 | 0x0803 => some 2
  | 0x0800 => if leAt c.payload 1 1 = 3 then some 2 else none
  | 0x0B02 => some 0
  | 0x0C02 => some 1
  | _ => none

def State.lockedOut (s : State) (c : Cmd) : Bool :=
  match scopeNeeded c with
  | some b => !s.unlockedFor b
  | none => false

/-! ### Check 8: what does not depend on the payload -/

def notIf (b : Bool) : Option Status := if b then some .notPermitted else none

def State.inDoze (s : State) : Bool := s.fld F.PWR_STATUS_STATE == 3

/-- A power transition is in progress (R485). -/
def State.inTransition (s : State) : Bool := s.pwr.trans.isSome

/-- Power state, control mode and transport, opcode by opcode. -/
def State.opContext (s : State) (c : Cmd) : Option Status :=
  match c.opcode with
  | 0x0102 => notIf (decide (1 < s.pwrState) || s.degraded)
  | 0x0104 => ctxActivate s
  | 0x0200 =>
    if s.flag F.PWR_STATUS_FAILED then some .wakeFail else notIf (s.pwrState == stBoot || s.fld F.MBX_STATUS_MODE == 1)
  | 0x0202 => notIf (decide (1 < s.pwrState) || s.inTransition)
  | 0x0203 => notIf (s.inDoze || s.inTransition)
  | 0x0302 => ctxTimeSet s
  | 0x0400 | 0x0401 | 0x0402 | 0x0403 | 0x0404 | 0x0405 | 0x0406 | 0x0407 | 0x0680 | 0x0681 | 0x0700 | 0x0800 | 0x0900
  | 0x0A00 | 0x0B02 | 0x0D02 | 0x0E00 | 0x0F01 => notIf s.inDoze
  | 0x0600 => ctxDpdStart s
  | 0x0901 => ctxCasDiscover s
  | 0x0C00 => ctxRecArm s
  | 0x0C01 => ctxRecStop s
  | 0x0C02 => ctxReplayStart s
  | 0x0D01 => ctxSecUnlock c
  | 0x0F00 => ctxEngLoad s
  | _ => none

/-- Check 8 (R75, R492). -/
def State.context (s : State) (c : Cmd) : Option Status :=
  if c.atomic ∧ !isCommit c.opcode ∧ c.opcode ≠ 0x0100 then some .notPermitted
  else if !s.flag F.MBX_STATUS_READY ∧ !waitingOpcodes.contains c.opcode then some .notPermitted
  else s.opContext c

/-! ### Check 11: the payload, and what depends on it -/

/-- BAD_PARAM tests of a payload, with the states of the units it names, by opcode. -/
def State.payloadCheck (s : State) (c : Cmd) : Option Status :=
  let len := fun (n : Nat) (r : Option Status) => if c.payload.length = n then r else some .badParam
  match c.opcode with
  | 0x0100 | 0x0101 | 0x0103 | 0x0201 | 0x0C01 => chkNoPayload c
  | 0x0102 => chkResetUnit c
  | 0x0104 => chkActivate c
  | 0x0105 => chkResultAck c
  | 0x0200 => chkPwrSetState c
  | 0x0202 => chkPwrSetOp c
  | 0x0203 => chkPwrGate s s.captureDma c
  | 0x0300 => chkClkSetPlan s c
  | 0x0301 => chkClkUpdateDividers s c
  | 0x0302 => chkTimeSet false c
  | 0x0303 => chkTimeSet true c
  | 0x0304 => chkTimeArm s c
  | 0x0400 => if c.op = 0 then chkPathConfigRx s c else if c.op = 1 then chkPathConfigTx s c else some .badParam
  | 0x0401 => chkPathSetGain s c
  | 0x0402 => chkPathSelectFreq s c
  | 0x0403 => chkPathLoadFilter s c
  | 0x0404 => chkPathSetPower s c
  | 0x0405 => chkPathRetire c
  | 0x0406 => chkPathSetMask s c
  | 0x0407 => chkPathSetSchedule c
  | 0x0500 => chkBfLoadBeamTable c
  | 0x0501 => chkBfSetLayers s c
  | 0x0502 => chkBfGetRetiredMask c
  | 0x0600 => chkDpdStart s c
  | 0x0601 => chkDpdFreeze s c
  | 0x0602 => chkDpdLoadSet s c
  | 0x0603 => chkDpdGetStatus c
  | 0x0680 => chkPrachConfig s c
  | 0x0681 => chkPrachReadReport c
  | 0x0700 => chkFhConfigPort s c
  | 0x0701 => chkFhMapEaxc s c
  | 0x0702 => chkFhSetWindows c
  | 0x0703 => chkFhSetCompression c
  | 0x0800 => chkLaneConfigGroup s c
  | 0x0801 => chkLaneAdapt s c
  | 0x0802 => chkLaneBitSlip s c
  | 0x0803 => chkLanePrbs s c
  | 0x0900 => chkCasConfig s c
  | 0x0901 => chkCasDiscover c
  | 0x0A00 => chkCalRun s c
  | 0x0A01 => chkCalSetPolicy c
  | 0x0A02 => chkHkLoadSequence c
  | 0x0B00 => chkEvRead s c
  | 0x0B01 => chkEvConfigCode s c
  | 0x0B02 => chkInjArm c
  | 0x0C00 => len 20 (chkRecArm s c)
  | 0x0C02 => len 8 (chkReplayStart s c)
  | 0x0D00 => chkSecAttest c
  | 0x0D01 => chkSecUnlock c
  | 0x0D02 => chkSecInstall c
  | 0x0E00 => len 16 (chkDmaSubmit s c)
  | 0x0F00 => chkEngLoad s c
  | 0x0F01 => chkEngStart s c
  | _ => some .badOpcode

/-- Gate nodes that a command would put in use while a node on their way to the root is pinned (R441). -/
def State.pinConflict (s : State) (c : Cmd) : Bool :=
  match c.opcode with
  | 0x0400 =>
    match s.trial c with
    | some k =>
      let t := s.prospect c.actTick k.changes
      (List.range 128).any (fun i => t.nodeUsed false (32 + i) && !s.nodeUsed false (32 + i) && s.pinnedUnit (32 + i))
    | none => false
  | 0x0800 => leAt c.payload 1 1 != 0 &&
      [0, 1].any (fun i => bitAt (leAt c.payload 3 1) i && s.pinnedUnit (168 + 2 * leAt c.payload 0 1 + i))
  | 0x0C00 | 0x0C02 => s.pinnedUnit 5
  | 0x0F00 => (engMask c).any (fun e => s.pinnedUnit (176 + e))
  | _ => false

/-- NOT_PERMITTED tests of check 11 that the payload's own function does not make. -/
def State.payloadContext (s : State) (c : Cmd) : Option Status :=
  if s.pinConflict c then some .notPermitted
  else match c.opcode with
    | 0x0102 => ctxResetUnit s c
    | 0x0200 => ctxPwrSetState s c
    | 0x0A00 => ctxCalRun s c
    | 0x0B02 => ctxInjArm s c
    | 0x0D02 => ctxSecInstall s c
    | 0x0E00 => ctxDmaSubmit s c
    | _ => none

/-- Check 11, and after it the BUSY of R48, and of R438 while the operating point's sequencer works. -/
def State.checkPayload (s : State) (c : Cmd) : Option Status :=
  match s.payloadCheck c with
  | some st => some st
  | none =>
    match s.payloadContext c with
    | some st => some st
    | none =>
      if c.opcode = 0x0202 ∧ s.flag F.CLK_STATUS_SEQ_BUSY then some .busy
      else match s.trial c with
      | some k => if isCommit c.opcode && k.units.any (s.unitBusy c.actTick) then some .busy else none
      | none => none

/-! ### Check 12: limits and budgets -/

/-- The load of a command fits at the tick it names. -/
def State.limitAt (s : State) (c : Cmd) : Bool :=
  match c.opcode with
  | 0x0200 => limitPwrSetState s c
  | 0x0202 => limitPwrSetOp s c
  | 0x0400 => if c.op = 0 then limitPathConfigRx c else limitPathConfigTx s c
  | 0x0402 => limitPathSelectFreq s c
  | 0x0403 => limitPathLoadFilter s c
  | 0x0501 => limitBfSetLayers s c
  | 0x0680 => limitPrachConfig s c
  | 0x0700 => limitFhConfigPort s c
  | 0x0701 => limitFhMapEaxc s c
  | 0x0703 => limitFhSetCompression s c
  | 0x0900 => limitCasConfig s c
  | 0x0C00 => limitRecArm s c
  | 0x0F00 => limitEngLoad s c
  | _ => true

/-- REQ of the configured blocks, those of the quads' engines one by one (R40, R627). -/
def State.reqs (s : State) : List Nat :=
  (List.range 16).map s.rxReq ++ (List.range 16).map s.txReq ++
  [s.fftReq false, s.combineReq false, s.combineReq true, s.fftReq true, s.praReq, s.compressReq false, s.compressReq true,
   s.cascadeReq]

/-- The commit makes no REQ exceed the cycles per tick at its tick (R40). -/
def State.reqsFit (s : State) (c : Cmd) (k : Commit) : Bool :=
  ((s.prospect c.actTick []).reqs.zip (s.prospect c.actTick k.changes).reqs).all (fun r =>
    decide (r.2 ≤ s.budget) || decide (r.2 ≤ r.1))

/-- Check 12: at the command's tick and at every tick a commit is pending for after it (R40); in DOZE the predictions of
R486 too. -/
def State.limits (s : State) (c : Cmd) : Bool :=
  let later := (s.armed.filter (fun k => tickAfter k.tick c.actTick)).map (·.tick)
  (if isCommit c.opcode then
      (c.actTick :: later).all (fun t => s.limitAt { c with actTick := t } &&
        (s.trial c).all (s.reqsFit { c with actTick := t }))
    else s.limitAt c) &&
  (!s.inDoze || s.predictFits false)

/-- The predictions are reported when a request or a command is accepted in DOZE (R486). -/
def State.predicting (s : State) (c : Cmd) : State :=
  if s.inDoze then s.predict false
  else if c.opcode = 0x0200 ∧ (chkPwrSetState c).isNone ∧ s.entersDoze c.op then s.predict (leAt c.payload 1 1 == 1) else s

/-! ### Check 10: the target tick (R69) -/

def immediateTick : Nat := 0xFFFFFFFF

/-- The tick a command acts at; none where its target has passed. `e` is the first tick it can act at. -/
def actTickOf (target e : Nat) (lateOk : Bool) : Option Nat :=
  if target = immediateTick then some e
  else if tickBefore target e then (if lateOk then some e else none)
  else some target

/-! ### A packet that has passed checks 1 to 6 -/

/-- Ends a command that check `7` or a later one refuses (R68, R70): stored in its slot, but for RESULT_ACK. -/
def State.refuse (s : State) (c : Cmd) (st : Status) : State :=
  if c.opcode = 0x0105 then s.sendUnstored c.via c.sender c.opcode c.tag st [] (some s.tickno)
  else s.finishNow c.tag st []

def State.queueCmd (s : State) (c : Cmd) : State := s.putPrivi { s.privi with accepted := s.privi.accepted ++ [c] }

def State.findGroup (s : State) (id : Nat) : Option Group := s.privi.groups.find? (fun g => g.id == id)

def State.putGroups (s : State) (gs : List Group) : State := s.putPrivi { s.privi with groups := gs }

/-- Check 9: reserved flags, the group field, and what binds an open group (R58, R75, R77). -/
def State.groupCheck (s : State) (c : Cmd) : Option Status :=
  if 16 ≤ c.flags ∨ (!c.atomic ∧ c.group ≠ 0) then some .badParam
  else if !c.atomic then none
  else match s.findGroup c.group with
    | some g => if g.via ≠ c.via ∨ g.target ≠ c.target then some .badParam else none
    | none => if c.opcode = 0x0100 then some .badParam else none

/-- A member joins its group, which its first member opens (R75). -/
def State.joinGroup (s : State) (c : Cmd) : State :=
  match s.findGroup c.group with
  | some g =>
    if 32 ≤ g.members.length then s.refuse c .limit
    else s.putGroups (s.privi.groups.map (fun (x : Group) => if x.id = c.group then { x with members := x.members ++ [c] } else x))
  | none =>
    if 8 ≤ s.fld F.MBX_SLOT_USE_GROUPS then s.refuse c .limit
    else s.putGroups (s.privi.groups ++ [⟨c.group, c.via, c.target, s.elapsed, [c]⟩])

/-- The close of an open group is accepted: the group is open no longer. -/
def State.acceptClose (s : State) (c : Cmd) : State :=
  match chkNoPayload c with
  | some st => s.refuse c st
  | none =>
    (s.putGroups (s.privi.groups.map (fun (x : Group) => if x.id = c.group then { x with id := 65536 + c.tag } else x))).queueCmd
      { c with actTick := s.tickno }

/-- Checks 10 to 12, the dry run, and acceptance (R71). A dry-run start command completes with the tick it would start in
(log 159). -/
def State.acceptLast (s : State) (c : Cmd) : State :=
  let v := s.withAccepted
  let e := if isCommit c.opcode then v.cmdEarliest c else s.tickno
  match (if c.opcode = 0x0105 then some s.tickno else actTickOf c.target e c.lateOk) with
  | none => s.refuse c .late
  | some t =>
    let c := { c with actTick := t }
    match v.checkPayload c with
    | some st => s.refuse c st
    | none =>
      let s := s.predicting c
      if !v.limits c then s.refuse c .limit
      else if c.dryRun ∧ c.opcode ≠ 0x0105 then s.finish c.tag ⟨.ok, false, [], t⟩
      else (if isCommit c.opcode then s.measureCmd c.opcode c.payload else s).opPending c |>.queueCmd c

/-- Checks 7 to 12. -/
def State.acceptCmd (s : State) (c : Cmd) : State :=
  if s.lockedOut c then s.refuse c .locked
  else match s.context c with
    | some st => s.refuse c st
    | none =>
      match s.groupCheck c with
      | some st => s.refuse c st
      | none =>
        if c.atomic then (if c.opcode = 0x0100 then s.acceptClose c else s.joinGroup c) else s.acceptLast c

/-! ### A packet (checks 1 to 6) -/

def State.discard1 (s : State) (via : Transport) : State :=
  match via with
  | .pcie => s.discPcie
  | .spi => s.discSpi
  | .inband => s.discInb

/-- The header of a packet. -/
def cmdOf (bs : List Byte) (via : Transport) (sender : ReplyTo) (tick seq : Nat) : Cmd :=
  ⟨leAt bs 2 2, leAt bs 4 2, leAt bs 12 2, leAt bs 14 2, leAt bs 8 4, slice bs 16 (leAt bs 6 2), via, sender, tick, tick, seq⟩

/-- The first of checks 1 to 4 that a packet fails: `some none` discards it. -/
def packetCheck (bs : List Byte) : Option (Option Status) :=
  let l := leAt bs 6 2
  if bs.length < 20 ∨ leAt bs 0 1 ≠ 0x50 then some none
  else if 4096 < l ∨ l % 4 ≠ 0 ∨ bs.length ≠ 20 + l then some (some .badLength)
  else if slice bs (16 + l) 4 ≠ crcBytes (bs.take (16 + l)) then some (some .badCrc)
  else if leAt bs 1 1 ≠ 2 ∨ !knownOpcode (leAt bs 2 2) then some (some .badOpcode)
  else none

/-- Checks 5 and 6. -/
def State.slotCheck (s : State) (tag : Nat) : Bool :=
  match s.slotOf tag with
  | some x => x.st == .ready || x.st == .read
  | none => decide (s.privi.slots.length < 64)

/-- A packet taken from a transport (Table 03-4). A refusal at checks 2 to 6 carries the open TICKNO (log 158). -/
def State.acceptPacket (s : State) (via : Transport) (sender : ReplyTo) (bs : List Byte) : State :=
  let s := s.putPrivi { s.privi with takenNow := s.privi.takenNow + 1, served := via }
  match packetCheck bs with
  | some none => s.discard1 via
  | some (some st) => s.sendUnstored via sender (leAt bs 2 2) (leAt bs 4 2) st [] (some s.tickno)
  | none =>
    let c := cmdOf bs via sender s.tickno s.privi.nextSeq
    let s := s.putPrivi { s.privi with nextSeq := s.privi.nextSeq + 1 }
    if c.opcode = 0x0105 then s.acceptCmd c
    else if !s.slotCheck c.tag then s.sendUnstored via sender c.opcode c.tag .busy [] (some s.tickno)
    else
      let x : Slot := ⟨c.tag, c.opcode, via, sender, c.ackReq, .pending, none, 0, false⟩
      (s.putPrivi { s.privi with slots := putSlot s.privi.slots c.tag (some x) }).acceptCmd c

/-! ### Transports (R62-R67) -/

/-- Privi runs and accepts packets: not in STANDBY, bring-up, recovery, TAKEOVER, LOST or while mc0/mc1 restarts, and within
the packets of a tick (R67, R84, R85, R88, R492, R576). -/
def State.priviTakes (s : State) : Bool :=
  s.ctlOn && (s.flag F.MBX_STATUS_READY || s.flag F.PWR_STATUS_NO_REFCLK) && s.fld F.MBX_STATUS_MODE != 1 &&
  !s.fault.lost && !s.sec.recovery && (s.sec.activation.map (·.phase)) != some .restart01 &&
  (!s.counting || decide (s.privi.takenNow < if s.degraded then 1 else 2))

/-- While the device replays, packets of other opcodes wait (R557). -/
def State.packetWaits (s : State) (bs : List Byte) : Bool :=
  s.recSt == .replaying && (packetCheck bs).isNone && !replayOpcodes.contains (leAt bs 2 2)

/-- The packet in a ring slot, by its own length; what the slot's bytes do not hold reads 0. -/
def slotPacket (slot : List Byte) : List Byte := (List.range (20 + leAt slot 6 2)).map (fun i => slot.getD i 0)

/-- The command ring has a packet that Privi may take (R63, R90). -/
def State.ringReady (s : State) : Bool :=
  s.flag F.MBX_CTRL_PCIE_EN && !s.privi.ringError && s.cmdAhead != 0 && (s.privi.pcieReplies.isEmpty || !s.replyRingFull)

/-- A transport has a packet that Privi may take now. While the device replays, a ring slot whose opcode Privi has not read
stands behind no other transport (log 98). -/
def State.viaReady (s : State) (via : Transport) : Bool :=
  match via with
  | .pcie => s.ringReady && s.recSt != .replaying
  | .spi => decide (s.privi.spiReplies.length < 8) && (s.privi.spiCmds.head?.any (fun bs => !s.packetWaits bs))
  | .inband => s.privi.inbPackets.head?.any (fun p => leAt p.1 0 1 != 0x52 && !s.packetWaits p.1)

/-- The transport served after this one. -/
def viaAfter : Transport → Transport
  | .pcie => .spi | .spi => .inband | .inband => .pcie

/-- Between transports Privi serves round-robin: it is the turn of `via` when no transport between the one served last and
`via` has a packet (R67). -/
def State.viaTurn (s : State) (via : Transport) : Bool :=
  let a := viaAfter s.privi.served
  via == a || (!s.viaReady a && (via == viaAfter a || !s.viaReady (viaAfter a)))

/-- PACKET_ACCEPTANCE on one transport; over PCIe with the bytes of the ring slot, none where the access failed. -/
def State.takePacket (s : State) (via : Transport) (slot : Option (List Byte)) : State :=
  if !s.priviTakes || !s.viaTurn via then s
  else match via with
    | .pcie =>
      if !s.ringReady then s
      else match slot with
        | none => s.setMbxIrq F.MBX_IRQ_STAT_RING_ERR
        | some b =>
          let bs := slotPacket b
          if s.packetWaits bs then s
          else (s.setFld F.MBX_CMD_CONS_INDEX ((s.fld F.MBX_CMD_CONS_INDEX + 1) % 2 ^ 16)).acceptPacket .pcie ReplyTo.none bs
    | .spi =>
      match s.privi.spiCmds with
      | bs :: r =>
        if 8 ≤ s.privi.spiReplies.length ∨ s.packetWaits bs then s
        else (s.putPrivi { s.privi with spiCmds := r }).acceptPacket .spi ReplyTo.none bs
      | [] => s
    | .inband =>
      match s.privi.inbPackets with
      | (bs, sender) :: r =>
        if leAt bs 0 1 = 0x52 ∨ s.packetWaits bs then s
        else (s.putPrivi { s.privi with inbPackets := r }).acceptPacket .inband sender bs
      | [] => s

def execPacketAcceptance (via : Transport) (slot : Option (List Byte)) (s : State) : Host.Outcome State Fault Refusal :=
  .next (s.takePacket via slot)

/-! ### ATOMIC_GROUP_CLOSE (R76) -/

/-- The members' own earliest ticks, each after the bulk of those before it. -/
def State.groupEarliest (s : State) (ms : List Cmd) : List Nat :=
  match ms with
  | [] => []
  | m :: r => s.cmdEarliest m :: (s.armTrial m).groupEarliest r

/-- The latest of ticks, not before `t`. -/
def latestTick (t : Nat) (l : List Nat) : Nat := l.foldl (fun a b => if tickAfter b a then b else a) t

/-- The state with every other member's commit armed. -/
def State.withOthers (s : State) (ms : List Cmd) (m : Cmd) : State :=
  (ms.filter (fun x => x.tag != m.tag)).foldl State.armTrial s

/-- What a member fails with at the close; `e` is its own earliest tick. -/
def State.memberStatus (s : State) (ms : List Cmd) (m : Cmd) (late : Bool) : Option Status :=
  if late then some .late
  else
    let t := s.withOthers ms m
    match t.checkPayload m with
    | some st => some st
    | none => if t.limits m then none else some .limit

/-- The close of a group: all its members commit at one tick, or none does (R76, log 164). -/
def State.closeGroup (s : State) (c : Cmd) (g : Group) : State :=
  let s := s.putGroups (s.privi.groups.filter (fun x => x.id != g.id))
  let v := s.withAccepted
  let es := v.groupEarliest g.members
  let e := latestTick (tickAdd s.tickno 2) es
  let t := (actTickOf g.target e c.lateOk).getD g.target
  let ms := g.members.map (fun (m : Cmd) => { m with actTick := t })
  let lates := es.map (fun e => tickBefore t e)
  let first := ms.map (fun m => (v.withOthers ms m).payloadCheck m)
  let sound := ((ms.zip first).filter (fun p => p.2.isNone)).map Prod.fst
  let sts := (ms.zip lates).map (fun p => v.memberStatus sound p.1 p.2)
  let n := s.tickno
  match (ms.zip sts).find? (fun p => p.2.isSome) with
  | some (m, some st) =>
    let s := (ms.zip sts).foldl (fun s p =>
      s.finish p.1.tag ⟨p.2.getD .notPermitted, false, [], p.1.accTick⟩) s
    s.finish c.tag ⟨st, false, leBytes 2 m.tag ++ leBytes 2 0, n⟩
  | _ =>
    if c.dryRun then
      let s := ms.foldl (fun s m => s.finish m.tag ⟨.ok, false, [], t⟩) s
      s.finish c.tag ⟨.ok, false, [], n⟩
    else
      let s := ms.foldl (fun s m => (s.measureCmd m.opcode m.payload).commitRow m) s
      s.finish c.tag ⟨.ok, false, [], n⟩

/-- ATOMIC_GROUP_CLOSE: the accepted close acts. -/
def execAtomicGroupClose (tag : Nat) (s : State) : Host.Outcome State Fault Refusal :=
  .next (s.performStart 0x0100 tag Cmd.atomic (fun c s =>
    match s.findGroup (65536 + c.tag) with
    | some g => s.closeGroup c g
    | none => s.finishNow c.tag .badParam []))

end Sys2Proof.Machine
end

