-- ==== Sys2Proof/Machine/Registers.lean ====
section
/-!
DEFINITION. Sys2Proof/Machine/Registers.lean: host accesses to the register space (R87, R611-R620): reads and their side effects,
writes by access type, owner and domain, what a write starts, and the SPI indirect window; and the rows that are single accesses.
-/
namespace Sys2Proof.Machine

/-! ### Reads (R613-R617) -/

/-- The instance of a register that repeats `n` times from `base`, if `a` is one. -/
def instanceAt (base stride n a : Nat) : Option Nat :=
  if a < base ∨ (a - base) % stride ≠ 0 ∨ n ≤ (a - base) / stride then none else some ((a - base) / stride)

/-- The first of several registers that holds an instance at `a`. -/
def readInstances (s : State) (a : Nat) (l : List (Nat × Nat × Nat × (State → Nat → Nat × State))) : Option (Nat × State) :=
  match l with
  | [] => none
  | (base, stride, n, f) :: r =>
    match instanceAt base stride n a with
    | some i => some (f s i)
    | none => readInstances s a r

/-- The registers whose read has a side effect. -/
def State.effectRead (s : State) (a : Nat) : Option (Nat × State) :=
  readInstances s a [
    (0x40040, 1, 1, fun s _ => s.readEvseqLo), (0x50018, 1, 1, fun s _ => s.readNotify), (0x50044, 1, 1, fun s _ => s.readEvrWin),
    (0x1C000C, 0x1000, 16, State.readQfeCoef), (0x1C0108, 0x1000, 16, State.readQfeTxCoef), (0x220004, 1, 1, fun s _ => s.readMask),
    (0x222004, 1, 1, fun s _ => s.readFreq), (0x200054, 1, 1, fun s _ => s.readBfWin), (0x210014, 1, 1, fun s _ => s.readDpdCoef),
    (0x21001C, 1, 1, fun s _ => s.readDpdTerm), (0x241044, 1, 1, fun s _ => s.readMap),
    (0x310028, 0x1000, 8, State.readLaneCoef), (0x310088, 0x1000, 8, State.readPrbsErr), (0x310090, 0x1000, 8, State.readPrbsBits),
    (0x400034, 0x10000, 16, State.readLeMem), (0x500004, 1, 1, fun s _ => s.readClm), (0x20034, 1, 1, fun s _ => s.readBandData),
    (0x30098, 1, 1, fun s _ => s.readAncData), (0x6000C, 1, 1, fun s _ => s.readHkSeq), (0x60010, 1, 1, fun s _ => s.readHkFifo),
    (0x70044, 1, 1, fun s _ => s.readCalRes)]

/-- The MSI-X table and the pending-bit array (R612). -/
def msixTable (a : Nat) : Bool := inRange 0xF000 0xF02C a
def msixPending (a : Nat) : Bool := inRange 0xF800 0xF804 a

/-- An address that the map assigns. -/
def mapped (a : Nat) : Bool := (findReg a).isSome || msixTable a || msixPending a || inRange 0x91000 0x92010 a

/-- The word of a mapped register in a domain that is on, with the read's side effects. -/
def State.readOn (s : State) (a : Nat) : Nat × State :=
  match s.effectRead a with
  | some r => r
  | none =>
    if inRange 0x91000 0x92010 a then (leAt s.privi.resWin (a - 0x91000) 4, s)
    else match findReg a with
      | some d =>
        if d.shadowed && s.flag F.MAP_CTRL_SHADOW_READ then ((s.shadowView a).toNat, s) else ((s.reg a).toNat, s)
      | none => ((s.reg a).toNat, s)

/-- One word read: its value, whether it stands for a register that answers, and the state after it. A register in retention
reads without side effects. -/
def State.readWord (s : State) (a : Nat) : Nat × Bool × State :=
  match regDomain a with
  | none => (0, false, s.logAccess 0 a)
  | some d =>
    if !s.busReaches d then (0, false, s)
    else if !mapped a then (0, false, s.logAccess 0 a)
    else if s.domain d = 0 then (0, false, s.logAccess 1 a)
    else if s.domain d = 3 then ((s.readOn a).1, true, s)
    else
      let (v, t) := s.readOn a
      (v, true, t)

/-- A host read over PCIe: its word is what the device answers. -/
def State.hostRead (s : State) (a : Nat) : State :=
  let (v, _, t) := s.readWord a
  t.emit (.readData a v)

/-! ### Writes (R12, R87) -/

/-- A host write to FW fields that changes nothing for want of an unlock (R87). -/
def State.fwIgnored (s : State) (a : Nat) : State := (s.addFld F.MBX_FW_IGN_COUNT 1).setFld F.MBX_FW_IGN_ADDR_ADDR a

/-- EVR_POL registers whose policy is fixed (R524, Table 19-4). -/
def fixedPolicy (i : Nat) : Bool := policyDefault i == (0, 0) || [0, 1, 3, 24].contains i

/-- RW bits of a register that a write of `v` may change as the device stands: a channel in RUN, RETRY or END, or held, keeps its fields
(Table 14-8, R408), a fixed policy and one written with WINDOW 0 stay (R524), HK_URGENT waits for its result (R501). -/
def State.openBits (s : State) (d : RegDesc) (a v : Nat) : Nat :=
  match d.base with
  | 0x80100 | 0x80104 | 0x80108 =>
    let n := (a - d.base) / 0x40
    if s.dmaHeld n || s.dmaBusy n then 0 else d.rw
  | 0x8012C => if s.dmaBusy ((a - 0x8012C) / 0x40) then 0 else d.rw
  | 0x50400 => if fixedPolicy ((a - 0x50400) / 4) || v / 256 == 0 then 0 else d.rw
  | 0x60020 => if s.flag F.HK_STATUS_URGENT_BUSY then 0 else d.rw
  | _ => d.rw

/-- A field as it reads back: `def_` where the value lies outside `lo` to `hi`. -/
def readBack (w lo width min max def_ : Nat) : Nat :=
  let v := bitsAt w lo width
  if v < min ∨ max < v then putBits w lo width def_ else w

/-- The values that read back as others (the field tables). -/
def normWord (d : RegDesc) (a w : Nat) : Nat :=
  match d.base with
  | 0x90010 | 0x90028 => readBack w 0 4 2 8 2
  | 0x10000C => readBack w 1 5 10 20 16
  | 0x100014 => readBack (readBack w 20 4 1 6 6) 16 4 1 15 1
  | 0x221014 => readBack w 8 5 0 30 30
  | 0x180008 | 0x18000C => readBack (readBack (readBack (readBack w 0 5 0 30 30) 8 5 0 30 30) 16 5 0 30 30) 24 5 0 30 30
  | 0x241058 => readBack w 16 5 6 16 6
  | 0x318000 => if a = 0x318000 then w else putBits w 2 1 0
  | 0x80004 => readBack w 0 14 1 16383 50
  | 0x80100 => readBack w 8 7 1 64 64
  | 0x30038 => readBack w 0 32 1 (2 ^ 32) 1000
  | 0x30044 => readBack w 16 8 24 43 24
  | 0x10028 => readBack w 0 16 1 65535 1000
  | 0x60020 => readBack w 8 3 0 4 4
  | 0x60030 => readBack w 8 8 60 124 115
  | _ => w

/-- The bits a write stores. -/
def State.storeBits (s : State) (d : RegDesc) (a v : Nat) : State :=
  let cur := (s.reg a).toNat
  let free := s.unlocked 3
  let s' := if d.fw ≠ 0 ∧ !free ∧ ((BitVec.ofNat 32 cur ^^^ BitVec.ofNat 32 v) &&& BitVec.ofNat 32 d.fw) ≠ 0 then s.fwIgnored a else s
  let mask := BitVec.ofNat 32 (s.openBits d a v) ||| (if free then BitVec.ofNat 32 d.fw else 0#32)
  let base := if d.shadowed then s.shadowReg a else s.reg a
  let new := (base &&& ~~~mask) ||| (BitVec.ofNat 32 v &&& mask)
  let new := new &&& ~~~(BitVec.ofNat 32 v &&& BitVec.ofNat 32 d.w1c)
  let new := BitVec.ofNat 32 (normWord d a new.toNat)
  if !d.shadowed then s'.setReg a new
  else if mask = 0#32 then s'
  else { s' with shadow := sput (fun k => s'.reg k) s'.shadow a new, hostDirty := insertNat s'.hostDirty a }

/-- PWR_RESET.KEY: a device reset that keeps retired units (R17). -/
def State.resetKey (s : State) (memOk : Bool) : State :=
  if s.pwr.off then s
  else
    let units := s.keptUnits
    let lost := s.fault.lostLogged
    let kept := s.fault.wakeRetired
    let s := (s.allReset.reapply units).resetLinks
    let s := { s with fault := { s.fault with lostLogged := lost, wakeRetired := kept } }
    (s.tripPins).memTest memOk

/-- SEC_RECOV_DATA: in recovery, the next four bytes of the object. -/
def State.recovWord (s : State) (w : Nat) : State :=
  if s.sec.recovery then { s with sec := { s.sec with recovBuf := s.sec.recovBuf ++ leBytes 4 w } } else s

/-- SEC_RECOV_CTRL.GO: the object is checked and started from SRAM, or the buffer is cleared (R573). -/
def State.recovGo (s : State) (v : SigVerdict) : State :=
  if !s.sec.recovery then s
  else
    let b := s.sec.recovBuf
    match s.kindReason 0 b v with
    | some r =>
      let s := s.authFail (objKind b) r
      { s with sec := { s.sec with recovBuf := [] } }
    | none =>
      let s := { s with sec := { s.sec with recovery := false, recovBuf := [], reinstalled := false } }
      let s := s.runFirmware (objVersion b) (objSvn b) (b.take 512)
      ((s.setFld F.SEC_STATUS_RECOVERY 1).setFld F.PWR_STATUS_PHASE 2).refreshService

/-- CLK_CFG.MON_LANE set while LANECLK does not toggle: its monitor trips (R443). -/
def State.laneMonitor (s : State) : State :=
  if s.flag F.CLK_CFG_MON_LANE ∧ !s.pwr.lanePresent then s.clockRow (fun s => s.trip safeLane) else s

/-- What a write of `v` starts, once its bits are stored; `old` is the state before it. -/
def State.afterWrite (s old : State) (d : RegDesc) (a v : Nat) (e : RegEnv) : State :=
  let when_ := fun (i : Nat) (f : State → State) (s : State) => if bitAt v i then f s else s
  match d.base with
  | 0x4000C =>
    when_ 0 (fun s => if s.unlocked 3 then s.startTick else s)
      (when_ 1 (fun s => s.setFld F.TCK_CTRL_ALIGN_ARM 1) (when_ 2 State.clearPeaks s))
  | 0x40024 => when_ 0 State.armHostCommit (when_ 1 State.cancelHostCommit s)
  | 0x90000 => when_ 8 State.ringReset s
  | 0x90014 => s.doorbell (v % 2 ^ 16)
  | 0x90028 | 0x90030 => s.putPrivi s.privi
  | 0x90040 => s.fetchResult (v % 2 ^ 16)
  | 0x221014 => if s.flag F.FES_PADRV_CTRL_EN && !old.flag F.FES_PADRV_CTRL_EN then s.padrvEnable else s
  | 0x241058 => s.refreshHolds
  | 0x310010 =>
    let l := (a - 0x310010) / 0x1000
    when_ 1 (fun s => s.rawCapture l e.raw) (when_ 0 (fun s => s.histClear l) s)
  | 0x31800C => when_ 31 (fun s => s.modXfer ((a - 0x31800C) / 0x100)) s
  | 0x80100 => when_ 0 (fun s => s.hostChReset ((a - 0x80100) / 0x40)) s
  | 0x8010C => when_ 0 (fun s => s.hostDoorbell ((a - 0x8010C) / 0x40)) s
  | 0x2000C => when_ 11 State.armSync (when_ 10 (fun s => s.clockRow State.cancelSync) s)
  | 0x20004 => s.laneMonitor
  | 0x30004 => when_ 0 (fun s => s.snapshot e.edge) s
  | 0x10004 => when_ 0 (fun s => s.warmBoot e.memOk) s
  | 0x10008 => if v % 2 ^ 16 = 0xA55A then s.resetKey e.memOk else s
  | 0x60004 => s.refreshTable
  | 0x6001C => when_ 0 (fun s => s.putFifo []) s
  | 0x60020 => when_ 31 (fun s => s.urgentRequest (s.fld F.HK_URGENT_CHANNEL) (s.fld F.HK_URGENT_AVG)) s
  | 0x50004 | 0x50008 => s.refreshReplace
  | 0x400004 => let n := (a - 0x400004) / 0x10000; s.setRole n (s.role n)
  | 0xA0030 => when_ 0 (fun s => s.recovGo e.verdict) s
  | 0xA0034 => s.recovWord v
  | _ => s

/-- A write of an engine or cluster memory word through its window: an FW field (R406). -/
def State.writeWindow (s : State) (a v : Nat) : Option State :=
  match instanceAt 0x400034 0x10000 16 a with
  | some i =>
    some (if s.unlocked 3 then s.writeLeMem i v else if (s.leWord i).1 % 2 ^ 32 = v then s else s.fwIgnored a)
  | none =>
    if a = 0x500004 then
      some (if s.unlocked 3 then s.writeClm v else if (s.clmRead (s.fld F.CLM_ADDR_INDEX)).1 = v then s else s.fwIgnored a)
    else none

/-- A word of the MSI-X table as a write leaves it: address bits 1:0 read 0, and a vector's control word has one bit. -/
def msixWord (a v : Nat) : Nat :=
  match a % 16 with
  | 0 => v / 4 * 4
  | 12 => v % 2
  | _ => v

/-- One whole word written by the host. -/
def State.writeWord (s : State) (a v : Nat) (e : RegEnv) : State :=
  s.onReg a (fun s =>
    let s := if inCore a && mapped a then s.noteItem (.write a v) else s
    if !mapped a then s.logAccess 0 a
    else match s.writeWindow a v with
      | some t => t
      | none =>
        if msixTable a then (s.setReg a (BitVec.ofNat 32 (msixWord a v))).msixUnmask ((a - 0xF000) / 16)
        else match findReg a with
          | some d => ((s.storeBits d a v).afterWrite s d a v e).irqEdges s
          | none => s)

/-- A write with byte enables: one whose enables are not all set is ignored and logged (R613). -/
def State.hostWrite32 (s : State) (a : Nat) (enables : Nat) (v : Nat) (e : RegEnv) : State :=
  if enables % 16 = 15 then s.writeWord a v e else if s.pwr.off then s else s.logAccess 2 a

/-! ### The SPI window (R618-R620) -/

/-- Addresses of the words of a frame. -/
def spiAddrs (fix : Bool) (addr n : Nat) : List Nat := (List.range n).map (fun i => if fix then addr else addr + 4 * i)

/-- An SPI read frame: `begun` words have begun before SPI_CS_N rises. -/
def State.spiWindowRead (s : State) (fix : Bool) (addr words begun : Nat) : State :=
  if s.pwr.off then s
  else if addr % 4 ≠ 0 then (if s.ctlOn then s.discSpi else s)
  else
    let (t, bs) := (spiAddrs fix addr (min words begun)).foldl (fun (p : State × List Byte) a =>
      let (v, ok, u) := p.1.readWord (a % 2 ^ 24)
      (u, p.2 ++ leBytes 3 0 ++ leBytes 1 (if ok then 0x5A else 0xE1) ++ leBytes 4 v)) (s, leBytes 4 0)
    t.emit (.spi bs)

/-- An SPI write frame: each whole word of its data takes effect in turn. -/
def State.spiWindowWrite (s : State) (fix : Bool) (addr words : Nat) (data : List Byte) (e : RegEnv) : State :=
  if s.pwr.off then s
  else if addr % 4 ≠ 0 then (if s.ctlOn then s.discSpi else s)
  else
    let n := min words (data.length / 4)
    ((spiAddrs fix addr n).zip (List.range n)).foldl (fun s p => s.writeWord (p.1 % 2 ^ 24) (leAt data (4 * p.2) 4) e) s

def execSpiWindowRead (fix : Bool) (addr : Fin 16777216) (words : Fin 8) (begun : Fin 9) (s : State) :
    Host.Outcome State Fault Refusal :=
  .next (s.spiWindowRead fix addr.val (words.val + 1) begun.val)

def execSpiWindowWrite (fix : Bool) (addr : Fin 16777216) (words : Fin 8) (data : List Byte) (e : RegEnv) (s : State) :
    Host.Outcome State Fault Refusal :=
  .next (s.spiWindowWrite fix addr.val (words.val + 1) data e)

/-- REGISTER_WRITE: a host write over PCIe, with its byte enables. -/
def execRegisterWrite (addr : Fin 16777216) (enables : Fin 16) (v : Word) (e : RegEnv) (s : State) :
    Host.Outcome State Fault Refusal :=
  .next (s.hostWrite32 (addr.val / 4 * 4) enables.val v.toNat e)

/-! ### Rows that are one access -/

def execTckEvseqLoRead (s : State) : Host.Outcome State Fault Refusal := .next (s.hostRead 0x40040)
def execEvrNotifyRead (s : State) : Host.Outcome State Fault Refusal := .next (s.hostRead 0x50018)
def execEvrWinDataRead (s : State) : Host.Outcome State Fault Refusal := .next (s.hostRead 0x50044)
def execQfeCoefDataRead (n : Fin 16) (s : State) : Host.Outcome State Fault Refusal := .next (s.hostRead (0x1C000C + 0x1000 * n.val))
def execQfeTxCoefDataRead (n : Fin 16) (s : State) : Host.Outcome State Fault Refusal := .next (s.hostRead (0x1C0108 + 0x1000 * n.val))
def execCfrMaskDataRead (s : State) : Host.Outcome State Fault Refusal := .next (s.hostRead 0x220004)
def execFrqDataRead (s : State) : Host.Outcome State Fault Refusal := .next (s.hostRead 0x222004)
def execBfWinDataRead (s : State) : Host.Outcome State Fault Refusal := .next (s.hostRead 0x200054)
def execDpdCoefDataRead (s : State) : Host.Outcome State Fault Refusal := .next (s.hostRead 0x210014)
def execDpdTermDataRead (s : State) : Host.Outcome State Fault Refusal := .next (s.hostRead 0x21001C)
def execFrmMapDataRead (s : State) : Host.Outcome State Fault Refusal := .next (s.hostRead 0x241044)
def execLnCoefDataRead (l : Fin 8) (s : State) : Host.Outcome State Fault Refusal := .next (s.hostRead (0x310028 + 0x1000 * l.val))
def execLnPrbsErrLoRead (l : Fin 8) (s : State) : Host.Outcome State Fault Refusal := .next (s.hostRead (0x310088 + 0x1000 * l.val))
def execLnPrbsBitsLoRead (l : Fin 8) (s : State) : Host.Outcome State Fault Refusal := .next (s.hostRead (0x310090 + 0x1000 * l.val))
def execClkBandDataRead (s : State) : Host.Outcome State Fault Refusal := .next (s.hostRead 0x20034)
def execTimAncDataRead (s : State) : Host.Outcome State Fault Refusal := .next (s.hostRead 0x30098)
def execHkSeqDataRead (s : State) : Host.Outcome State Fault Refusal := .next (s.hostRead 0x6000C)
def execHkFifoDataRead (s : State) : Host.Outcome State Fault Refusal := .next (s.hostRead 0x60010)
def execCalResDataRead (s : State) : Host.Outcome State Fault Refusal := .next (s.hostRead 0x70044)

/-- What a write row brings when its register takes nothing from outside. -/
def RegEnv.none : RegEnv := ⟨0, 0, true, ⟨false, false⟩⟩

/-- A row that writes one word, its enables all set. -/
def State.writeRow (s : State) (a v : Nat) (e : RegEnv) : State := s.writeWord a v e

/-- LE_MEM_DATA_ACCESS: a read, or a write of a word. -/
def execLeMemDataAccess (n : Fin 16) (w : Option Word) (s : State) : Host.Outcome State Fault Refusal :=
  .next (match w with
    | some v => s.writeRow (0x400034 + 0x10000 * n.val) v.toNat RegEnv.none
    | none => s.hostRead (0x400034 + 0x10000 * n.val))

def execClmDataAccess (w : Option Word) (s : State) : Host.Outcome State Fault Refusal :=
  .next (match w with
    | some v => s.writeRow 0x500004 v.toNat RegEnv.none
    | none => s.hostRead 0x500004)

def execPcieDoorbell (index : Fin 65536) (s : State) : Host.Outcome State Fault Refusal :=
  .next (s.writeRow 0x90014 index.val RegEnv.none)

def execMbxResTagWrite (tag : Fin 65536) (s : State) : Host.Outcome State Fault Refusal :=
  .next (s.writeRow 0x90040 tag.val RegEnv.none)

/-- MBX_CTRL.RING_RESET written as 1. -/
def execMbxRingReset (s : State) : Host.Outcome State Fault Refusal := .next (s.onReg 0x90000 State.ringReset)

/-- TCK_CTRL.RUN written as 1: an FW field, so a host write acts only under FW_WRITE (R12, R87); `byFirmware` is the write
that bring-up makes (R491). -/
def execTckCtrlRun (byFirmware : Bool) (s : State) : Host.Outcome State Fault Refusal :=
  .next (s.onReg 0x4000C (fun s =>
    if byFirmware || s.unlocked 3 then s.startTick
    else if s.fld F.TCK_CTRL_RUN = 1 then s
    else s.fwIgnored 0x4000C))

/-- TCK_CTRL.ALIGN_ARM written as 1: alignment armed for the next TSYNC edge (R37). -/
def execTckCtrlAlignArm (s : State) : Host.Outcome State Fault Refusal :=
  .next (s.onReg 0x4000C (fun s => s.setFld F.TCK_CTRL_ALIGN_ARM 1))

/-- TCK_CTRL.PEAK_CLR written as 1. -/
def execTckCtrlPeakClr (s : State) : Host.Outcome State Fault Refusal := .next (s.onReg 0x4000C State.clearPeaks)

/-- TCK_COMMIT_CTRL.ARM and CANCEL written as 1. -/
def execTckCommitArm (s : State) : Host.Outcome State Fault Refusal := .next (s.onReg 0x40024 State.armHostCommit)
def execTckCommitCancel (s : State) : Host.Outcome State Fault Refusal := .next (s.onReg 0x40024 State.cancelHostCommit)

/-- CLK_SYNC.ARM and CANCEL written as 1. -/
def execClkSyncArm (s : State) : Host.Outcome State Fault Refusal := .next (s.onReg 0x2000C State.armSync)
def execClkSyncCancel (s : State) : Host.Outcome State Fault Refusal :=
  .next (s.onReg 0x2000C (fun s => s.clockRow State.cancelSync))

/-- TIM_CTRL.SNAP written as 1, on an edge of the open tick. -/
def execTimeSnapshot (edge : Nat) (s : State) : Host.Outcome State Fault Refusal :=
  .next (s.onReg 0x30004 (fun s => s.snapshot edge))

/-- HK_URGENT written with a channel, an AVG and GO. -/
def execHkUrgentRequest (ch : Fin 64) (avg : Fin 8) (s : State) : Host.Outcome State Fault Refusal :=
  .next (s.writeRow 0x60020 (2 ^ 31 + 256 * avg.val + ch.val) RegEnv.none)

/-- HK_FIFO_CTRL.FLUSH written as 1. -/
def execHkFifoFlush (s : State) : Host.Outcome State Fault Refusal := .next (s.onReg 0x6001C (fun s => s.putFifo []))

def execDmaChDoorbell (n : Fin 16) (s : State) : Host.Outcome State Fault Refusal :=
  .next (s.onReg (0x8010C + 0x40 * n.val) (fun s => s.hostDoorbell n.val))
def execDmaChReset (n : Fin 16) (s : State) : Host.Outcome State Fault Refusal :=
  .next (s.onReg (0x80100 + 0x40 * n.val) (fun s => s.hostChReset n.val))

/-- LN_CTRL.RAW_CAP written as 1; `word` is the next received word (128 bits). -/
def execLaneRawCapture (l : Fin 8) (word : Nat) (s : State) : Host.Outcome State Fault Refusal :=
  .next (s.onReg (0x310010 + 0x1000 * l.val) (fun s => s.rawCapture l.val word))

def execLaneHistClear (l : Fin 8) (s : State) : Host.Outcome State Fault Refusal :=
  .next (s.onReg (0x310010 + 0x1000 * l.val) (fun s => s.histClear l.val))

/-- LN_MOD_XFER written with GO: its fields are `w`'s, and the access waits. -/
def execModuleHostXfer (m : Fin 2) (w : Word) (s : State) : Host.Outcome State Fault Refusal :=
  .next (s.writeRow (0x31800C + 0x100 * m.val) (2 ^ 31 + w.toNat % 2 ^ 31) RegEnv.none)

/-- FES_PADRV_CTRL.EN set. -/
def execPadrvEnable (s : State) : Host.Outcome State Fault Refusal :=
  .next (s.onReg 0x221014 (fun s => if s.flag F.FES_PADRV_CTRL_EN then s else s.padrvEnable))

/-- PWR_RESET.KEY = 0xA55A. -/
def execPwrResetKey (memOk : Bool) (s : State) : Host.Outcome State Fault Refusal :=
  .next (s.onReg 0x10008 (fun s => s.resetKey memOk))

/-- PWR_CTRL.WAKE written as 1. -/
def execPwrCtrlWake (memOk : Bool) (s : State) : Host.Outcome State Fault Refusal :=
  .next (s.onReg 0x10004 (fun s => s.warmBoot memOk))

def execSecRecovDataWrite (w : Word) (s : State) : Host.Outcome State Fault Refusal :=
  .next (s.writeRow 0xA0034 w.toNat RegEnv.none)

/-- SEC_RECOV_CTRL.GO written as 1. -/
def execSecRecovGo (v : SigVerdict) (s : State) : Host.Outcome State Fault Refusal :=
  .next (s.onReg 0xA0030 (fun s => s.recovGo v))

/-! ### Clematis's REGISTER space (R409, R417) -/

/-- DMA_BURST_GRANT: the bus grants one direction its next burst at a control cycle of the tick; a read of host memory brings its
bytes. -/
def execDmaBurstGrant (write : Bool) (cycle : Nat) (host : List Byte) (e : RegEnv) (s : State) : Host.Outcome State Fault Refusal :=
  .next (s.grantBurst (fun s a => ((s.readWord a).1, (s.readWord a).2.2)) (fun s a v => s.writeWord a v e) write cycle host)

/-- DMA_DESCRIPTOR_COMPLETE. -/
def execDmaDescriptorComplete (n : Fin 16) (e : RegEnv) (s : State) : Host.Outcome State Fault Refusal :=
  .next (s.descComplete (fun s a v => s.writeWord a v e) n.val)

end Sys2Proof.Machine
end

