-- ==== Sys2Proof/Machine/Tick.lean ====
section
/-!
DEFINITION. Sys2Proof/Machine/Tick.lean: a tick boundary (R34): what the blocks do with the tick that closes (Tables 02-4 to 02-6),
how TICKNO, FRAME_TICK and SFN move (R34, R36, R628), what the boundary applies to the tick that opens (R44, R49), and the replay
of a recorded tick (R556). Also the rows composed from several blocks.
-/
namespace Sys2Proof.Machine

/-! ### The tick that closes: faults (R24, R42) -/

/-- Units named for a block. -/
def unitsOf (l : List (Nat × Nat)) (b : Nat) : List Nat := (l.filter (fun e => e.1 == b)).map Prod.snd

/-- Injections of a detector that wait for this boundary, as block and unit. -/
def State.forcedOn (s : State) (det : Nat) : List (Nat × Nat) :=
  (s.fault.forced.filter (fun f => f.1 == det)).map (fun f => (f.2.1 % 256, f.2.1 / 256))

/-- PEAK of a quad's engine (R627). -/
def State.notePeakUnit (s : State) (b u n : Nat) : State :=
  if 16 ≤ u then s
  else if b = 0 then s.setFld (F.QFE_LOAD_PEAK u) (max (s.fld (F.QFE_LOAD_PEAK u)) n)
  else if b = 6 then s.setFld (F.QFE_TX_LOAD_PEAK u) (max (s.fld (F.QFE_TX_LOAD_PEAK u)) n)
  else s

/-- Overruns of blocks other than the engines', which block 13's own rule reports (R42). -/
def State.noteOverruns (s : State) (l : List (Nat × Nat)) : State :=
  let s := if l.isEmpty then s else s.recFlag 1
  l.foldl (fun s (b, u) => if b = 13 then s else (s.noteOverrun b u).notePeakUnit b u (s.blockCycles b)) s

/-- Cycles used: a configured block stays within its REQ (R627). -/
def State.noteCycles (s : State) (l : List (Nat × Nat × Nat)) (ovr : List (Nat × Nat)) : State :=
  l.foldl (fun s (b, u, n) =>
    if 16 ≤ b ∨ b = 13 ∨ ovr.contains (b, u) then s
    else
      let req := if b = 0 then s.fld (F.QFE_LOAD_REQ (u % 16)) else if b = 6 then s.fld (F.QFE_TX_LOAD_REQ (u % 16))
        else s.fld (F.TCK_LOAD_REQ b)
      let n := if b = 1 ∨ b = 10 ∨ b = 12 ∨ b = 14 ∨ b = 15 then min n (s.blockCycles b) else min n req
      (s.notePeak b n).notePeakUnit b u n) s

/-- Bridge CRC mismatches of a tick, by link (R24). -/
def State.bridgeCrc (s : State) (dies : List Nat) : State := dies.foldl (fun s d => s.raise 0x1010 d (srcDie d) sevWarning) s

/-- The events from the `n`th waiting on that an injection forced carry its mark, and its value unless it is 0 (R540). -/
def State.markForced (s : State) (n : Nat) (fs : List (Nat × Nat × Nat)) : State :=
  let hit := fun (e : Event) (f : Nat × Nat × Nat) =>
    ((f.1 == 5 && e.code == 0x1005) || (f.1 == 6 && e.code == 0x1010)) && e.value == f.2.1
  { s with ev := { s.ev with waiting := s.ev.waiting.take n ++ (s.ev.waiting.drop n).map (fun e =>
      match fs.find? (hit e) with
      | some f => { e with injected := true, value := if f.2.2 = 0 then e.value else f.2.2 }
      | none => e) } }

/-! ### The tick that closes: work -/

/-- Ticks of a path's slot: of its first enabled uplink carrier, else 1 ms (log entry 44). -/
def State.slotTicks (s : State) (p : Nat) : Nat :=
  match (List.range 4).find? (fun k => s.carEn false k && s.participates false k p) with
  | some k => 3840 / 2 ^ s.carMu false k
  | none => 3840

/-- RX_CLIP for the slots that end with the tick (R114). -/
def State.clipSlots (s : State) : State :=
  (List.range 64).foldl (fun s p =>
    if sget (fun _ => 0) s.rx.clipSlot p ≠ 0 ∧ (s.frameTick + 1) % s.slotTicks p = 0 then s.clipSlotEnd p else s) s

/-- A framer overrun: the sections of the tick are built from VOID samples, which are 0 (Table 02-4, R115). -/
def State.zeroDue (s : State) : State :=
  { s with bf := { s.bf with held := s.bf.held.map (fun (h : UlHeld) =>
    if tickAfter h.due s.tickno then h
    else { h with beams := h.beams.map (fun b => (b.1, b.2.map (fun (x : UlBlock) =>
      { x with acc := x.acc.map (fun _ => Cplx.zero) }))) }) } }

/-- A Finef overrun: the hop's partial sums of the tick are VOID (Table 02-4). -/
def State.voidDue (s : State) : State :=
  { s with bf := { s.bf with held := s.bf.held.map (fun (h : UlHeld) =>
    if tickAfter h.due s.tickno then h
    else { h with beams := h.beams.map (fun b => (b.1, b.2.map (fun (x : UlBlock) => { x with void := true }))) }) } }

/-- The paths of quads whose receive front overran deliver VOID samples; the next air tick of those whose transmit chain did is
VOID (Table 02-4). -/
def State.frontVoid (s : State) (rx tx : List Nat) : State :=
  let l := (rx.flatMap quadPaths).foldl insertNat s.rx.reload
  let s := { s with rx := { s.rx with reload := l, flush := rx } }
  (tx.flatMap quadPaths).foldl (fun s p => s.voidAirTick p (tickAdd s.tickno 1)) s

/-- Transmit chains that overran start the next tick with flushed histories (Table 02-4). -/
def State.chainFlush (s : State) (tx : List Nat) : State :=
  (tx.flatMap quadPaths).foldl (fun s p =>
    let links := (List.range 4).foldl (fun m k => sput (fun _ => []) m (4 * p + k) []) s.tx.links
    let last := sput (fun _ => []) s.tx.lastAir p []
    { s with dpd := { s.dpd with past := sput (fun _ => []) s.dpd.past p [] }, tx := { s.tx with links := links, lastAir := last } }) s

/-- The blocks' work in the tick that closes; `void`: the blocks and units that did not finish it or lost it to a memory error;
`down`: dies whose core-to-converter CRC failed. -/
def State.workTick (s : State) (x : TickIn) (void : List (Nat × Nat)) (down : List Nat) : State :=
  let bs := void.map Prod.fst
  let s := s.frontVoid (unitsOf void 14) (unitsOf void 15)
  let s := (s.rxTick x.rx (unitsOf void 0)).ulTick bs
  let s := ((s.block12 (bs.contains 12)).praTick (bs.contains 7)).rawTick
  let s := if bs.contains 8 then s.zeroDue else s
  let s := if bs.contains 11 then s.voidDue else s
  let s := ((s.casTick.dlTick bs).txTick (unitsOf void 6) down).chainFlush (unitsOf void 15)
  let s := if bs.contains 9 then s.overrun9 else s
  let s := (List.range 8).foldl State.oxInputs ((List.range 8).foldl (fun s j => s.oxTick x.obs j) s.airQuality.closeSymbols)
  s.clipSlots

/-- In QUIET blocks 0 to 9, 11, 12, 14 and 15 do no work, and a cascade member sends its sums VOID (R480). -/
def State.quietTick (s : State) : State :=
  let cs := s.bf.ulComb
  let fs := s.bf.ulFft
  let none_ := fun (y : UlSymbol) => ({ y with data := [], wins := [] } : UlSymbol)
  let air := s.tx.voidAir.filter (fun e => tickAfter e.2 s.tickno)
  let rx := { s.rx with aligned := [], stepped := [], reload := [], flush := [] }
  let tx := { s.tx with onLinks := [], links := [], air := [], lastAir := [], dac := [], voidAir := air }
  let dpd := { s.dpd with inputs := [], past := [] }
  let bf := { s.bf with bufs := [], dlFft := [], txQueue := [], ulComb := fs.map none_, ulFft := [] }
  let pra := { s.pra with occasions := [], raw := [] }
  let fh := { s.fh with ingress := [], air := [], lost := [] }
  let s : State := { s with rx := rx, tx := tx, dpd := dpd, bf := bf, pra := pra, fh := fh }
  let s : State := if s.casRole = 2 then
      let s := (cs.foldl (fun (s : State) y => s.combineSymbol true y) s).gatherSymbols
      { s with bf := { s.bf with ulFft := s.bf.ulFft.map none_ } }
    else { s with bf := { s.bf with held := [], ulComb := [], ulFft := [] } }
  s.casTick

/-- Everything inside the core boundary, and the converter dies, for the tick that closes. -/
def State.closeBlocks (s : State) (x : TickIn) : State :=
  let n := s.ev.waiting.length
  let forced := s.fault.forced
  let works := fun (e : Nat × Nat) => !s.pwr.quietAt || e.1 == 10 || e.1 == 13
  let ovr := ((x.overruns ++ s.forcedOn 5).eraseDups).filter works
  let void := ovr ++ (s.forcedOn 33).filter works
  let up := if s.pwr.quietAt then [] else ((x.crcUp ++ (s.forcedOn 6).map Prod.fst).eraseDups).filter (fun d => decide (d < 4))
  let down := if s.pwr.quietAt then [] else x.crcDown.filter (fun d => decide (d < 4))
  let s := { s with fault := { s.fault with forced := [] }, tick := { s.tick with voidDies := up } }
  let s := (s.noteOverruns ovr).bridgeCrc (up ++ down)
  let s := if s.pwr.quietAt then s.ptpTick.quietTick else s.ptpTick.workTick x void down
  let s := s.engTick (unitsOf ovr 13) ((x.cycles.filter (fun c => c.1 == 13)).map Prod.snd)
  let s := (((s.noteCycles x.cycles ovr).slotsEnd).markForced n forced).bulkTick
  { s with tick := { s.tick with voidDies := [] } }

/-- What the part has measured (TickIn). -/
def State.sense (s : State) (m : Sensed) : State :=
  match m with
  | .phase l e =>
    if s.loop l.val = .locking ∨ s.loop l.val = .locked then s.setFld (F.CLK_LOOP_PHERR_ERR l.val) (encode2c 16 e) else s
  | .fec k c u => (s.addFld (F.ETH_FEC_CORR_COUNT k.val) c).addFld (F.ETH_FEC_UNCORR_COUNT k.val) u
  | .engineEcc e c => s.addFld (F.LE_ECC_CORR_COUNT e.val) c
  | .clusterEcc c => s.addFld F.CLM_ECC_CORR_COUNT c

/-- Some sample that crossed in the tick is not VALID (Table 20-1). -/
def State.anyQual (s : State) : Bool :=
  s.rx.aligned.any (fun e => e.2.any (fun x => x.q != .valid))

/-- Frames that leave on the boundary are discarded while the device is off air (R556, R558). -/
def State.holdEgress (s : State) (old : State) : State :=
  if s.offAir then
    let new := (s.outbox.drop old.outbox.length).filter (fun o => match o with
      | .frame _ _ | .finef _ _ | .uplane _ _ _ | .ptp _ _ _ _ => false
      | .spi _ | .inband _ _ | .readData _ _ | .msix _ _ _ | .module _ _ => true)
    { s with outbox := s.outbox.take old.outbox.length ++ new, fh := { s.fh with egress := [] } }
  else s.egressTick

/-- What closes with the tick outside the core boundary: lanes, measurements. -/
def State.closeRest (s : State) (x : TickIn) : State := x.sensed.foldl State.sense (s.laneTick x.lanes)

/-! ### TICKNO, FRAME_TICK and SFN (R34, R36, R628) -/

def State.setFrame (s : State) (ft sfn : Nat) : State := (s.setFld F.TCK_FRAME_FRAME_TICK ft).setFld F.TCK_FRAME_SFN sfn

/-- The TICKNO and SFN that a TSYNC alignment or a comparator brings to this boundary; TSYNC first, then the lowest comparator
(log entry 45). -/
def State.tickLoad (s : State) : Option (Nat × Nat) :=
  if s.tick.alignNext then some (s.fld F.TCK_TSYNC_TICKNO_VALUE, s.fld F.TCK_TSYNC_SFN_VALUE)
  else s.time.loads.head?.map (fun i => (s.fld (F.TIM_CMP_TICKNO_TICKNO i), s.fld (F.TIM_CMP_SFN_SFN i)))

/-- An armed commit that a load of `l` keeps: for `l` itself or later (R628). -/
def keptAtLoad (l : Nat) (k : Commit) : Bool := k.tick == l || tickAfter k.tick l

/-- Armed commits at a TICKNO load (R628); an operating-point change goes with its commit. -/
def State.loadCommits (s : State) (l : Nat) : State :=
  let gone := s.armed.filter (fun k => !keptAtLoad l k)
  let s := { s.discard gone 7 with armed := s.armed.filter (keptAtLoad l) }
  if gone.any (fun k => k.units.contains .operatingPoint) then
    { s.setFld F.CLK_STATUS_SEQ_BUSY 0 with clk := { s.clk with opChange := none } }
  else s

/-- ACTION 4 comparators whose load another takes precedence over: the ones after the first, or all where TSYNC aligns (R464). -/
def State.missLoads (s : State) : State :=
  (if s.tick.alignNext then s.time.loads else s.time.loads.tail).foldl (fun s i =>
    (s.setCmp i .missed).raise 0x2013 0 srcAster sevWarning) s

/-- A ramp under way keeps its length over a TICKNO load of `l` (R438). -/
def State.shiftRamp (s : State) (l : Nat) : State :=
  let next := tickAdd s.tickno (if s.tick.first then 0 else 1)
  { s with clk := { s.clk with opChange := s.clk.opChange.map (fun o =>
      if o.applied then { o with rampEnd := tickAdd l (tickSub o.rampEnd next) } else o) } }

/-- A TICKNO load takes effect (Table 02-1). -/
def State.loadTick (s : State) (l sfn : Nat) : State :=
  let tsync := s.tick.alignNext
  let s := s.missLoads
  let s := if s.replaying then s else s.loadCommits l
  let s := { s with tick := { s.tick with alignNext := false, first := false }, time := { s.time with loads := [] } }
  let s := s.shiftRamp l
  let s := if tsync then s.setFld F.TCK_CTRL_ALIGN_ARM 0 else s
  let s := ((s.setFld F.TCK_TICKNO_TICKNO l).setFrame 0 sfn).setTickMode .aligned
  s.raiseFree 0x1002 srcOther sevInfo

/-- The count at a boundary that brings no load: the first one counted opens the tick TICKNO holds (R36). -/
def State.nextTick (s : State) : State :=
  if s.tick.first then { s with tick := { s.tick with first := false } }
  else
    let n := nextFrame s.frameTick (s.fld F.TCK_FRAME_SFN)
    (s.setFld F.TCK_TICKNO_TICKNO (tickAdd s.tickno 1)).setFrame n.1 n.2

def State.countTick (s : State) : State :=
  match s.tickLoad with
  | some l => s.loadTick l.1 l.2
  | none => s.nextTick

/-- A tick's length of time passes: FRC runs on (R454), and the back-offs of Clematis (R419). -/
def State.passTime (s : State) : State :=
  let s := s.backOffTick
  let frc := if s.frcRuns then (s.time.frc + 128) % 2 ^ 64 else s.time.frc
  { s with elapsed := s.elapsed + 1, time := { s.time with frc := frc } }

/-! ### The tick that opens (R44, R49) -/

/-- What a change does beside what it stores: the operating point, pinned nodes and retirements. -/
def State.actChange (s : State) (c : Change) : State :=
  match c with
  | .opPoint _ => s.applyOp (s.fld F.CLK_OP_OP)
  | .gateClose ns busy => s.closeNodes ns busy
  | .gateRelease ns => s.pinNodes ns false
  | .retire rx tx =>
    let s := (maskList 64 rx).foldl (fun s p => s.retireUnit (srcRx p) 1 0) s
    ((maskList 64 tx).foldl (fun s p => s.retireUnit (srcTx p) 1 0) s).refreshReplace
  | .reg a _ _ =>
    if a = 0x20008 ∧ s.fld F.CLK_OP_OP ≠ s.fld F.CLK_STATUS_OP then s.applyOp (s.fld F.CLK_OP_OP) else s
  | .gain _ _ _ _ _ | .filter _ _ _ | .shape _ _ _ | .select _ _ _ _ | .define _ _ | .power _ _ _ | .column _ _ _
  | .mask _ _ _ _ | .beam _ _ | .freeze _ | .model _ _ | .coefs _ _ _ _ | .candidate _ | .revert _ | .eaxc _ => s

/-- A change is PATH_RETIRE's. -/
def Change.retires (c : Change) : Bool :=
  match c with
  | .retire _ _ => true
  | _ => false

/-- What a commit's commands end with: PATH_RETIRE's reply holds the masks that result (R126), and a close that has left nodes open
ends with GATE_BUSY and their mask (R442). -/
def State.commitResults (s : State) (k : Commit) : List (Nat × Outcome) :=
  let masks := leBytes 8 s.rxRetMask ++ leBytes 8 s.txRetMask
  let named := k.changes.flatMap (fun c => match c with | .gateClose ns _ => ns | _ => [])
  let stuck := s.clk.stuck.filter named.contains
  if k.changes.any Change.retires then k.results.map (fun r => (r.1, { r.2 with payload := masks }))
  else if !stuck.isEmpty then
    k.results.map (fun r => (r.1, { r.2 with status := Status.gateBusy, payload := leBytes 24 (listMask 192 stuck) }))
  else k.results

/-- The commands of an applied commit complete, or wait for their first air ticks (R162); a host commit reads 2 (R57). -/
def State.endCommit (s : State) (k : Commit) : State :=
  let s := if k.owner = .host then s.setFld F.TCK_COMMIT_STAT_RESULT 2 else s
  let rs := s.commitResults k
  rs.foldl (fun s r =>
    match k.late.find? (fun l => l.1 == r.1) with
    | some l => s.openLate r.1 l.2 r.2
    | none => s.finish r.1 r.2) s

/-- Shadow copies that equal their active copies again are done with. -/
def State.tidyShadow (s : State) : State :=
  let sh := s.shadow.filter (fun e => decide (s.shadowView e.1 ≠ s.reg e.1))
  { s with shadow := sh, hostDirty := s.hostDirty.filter (fun a => sh.any (fun e => e.1 == a)) }

/-- The commits of the tick that has just opened, all together (R44). -/
def State.applyCommits (s : State) : State :=
  let due := fun (k : Commit) => !tickAfter k.tick s.tickno
  let ks := s.armed.filter due
  if ks.isEmpty then s
  else
    let old := s
    let chs := ks.flatMap (·.changes)
    let s := { s with armed := s.armed.filter (fun k => !due k) }.recFlag 2
    let s := chs.foldl State.actChange (s.storeAll chs)
    let s := (((s.rxCommit old chs).txCommit old chs).dpdCommit old chs).bfCommit old
    let s := ((s.praCommit.casCommit chs).firstGroups old).outputHolds
    ks.foldl State.endCommit s.tidyShadow

/-- Block work that a boundary opens, but in QUIET. -/
def State.openWork (s : State) : State :=
  let s := (List.range 8).foldl State.oxBoundary s
  (s.casBoundary.bankBoundary).praBoundary

/-- Everything inside the core boundary on the boundary that has just opened a tick. -/
def State.openBlocks (s : State) : State :=
  let old := s
  let s := { s.settleEntries.padrvBoundary with armed := crossBulk s.armed }
  let s := s.applyCommits.retirePromoted.calApply.quietBoundary
  let s := s.rcvBoundary.enterQuality.rxBoundary
  let s := (List.range 64).foldl (fun s p => ((s.calBoundary p).quietSteps p).dpdQuiet p) s
  let s := s.lateBoundary
  let s := if s.pwr.quietAt then s.casBoundary else s.openWork
  let s := (s.oxSpoiled old).engBoundary.refreshFes
  let s := (List.range 64).foldl State.refreshTxStatus s
  s.refreshGates s.captureDma

/-- What else a boundary brings: an anchor at a frame boundary (R465), a control pair that resumes (Table 03-8), the recorder
(R554), power steps, the unlock's seconds, and calibration commands whose units have retired (Table 18-5). -/
def State.openRest (s : State) : State :=
  let s := if s.frameTick = 0 then s.writeAnchor else s
  let s := ((s.pairResumes.recBoundary).powerPoll).countUnlock
  let s := if s.cal.entries.any (fun e => e.2.cause == .bringUp) then s.noteForced else s
  s.settleCal

/-! ### A boundary -/

/-- What a tick gathers for its close starts anew. -/
def State.newTick (s : State) : State :=
  { s with recd := { s.recd with pubs := [] }, fault := { s.fault with raised := [] } }

/-- A live tick: its close, the count, and its successor's opening. -/
def State.liveTick (s : State) (x : TickIn) : State :=
  let c := s.closeBlocks x
  let t := (c.holdEgress s).closeRest x
  ((t.recTick x t.anyQual (c.points s)).newTick.passTime.countTick).openBlocks.openRest

/-- Runs `f` with TICKNO, SFN and FRAME_TICK of a recorded tick: inside the boundary, blocks see those (R556). -/
def State.asTick (s : State) (t sfn ft : Nat) (f : State → State) : State :=
  let a := s.reg 0x40000
  let b := s.reg 0x40004
  ((f ((s.setFld F.TCK_TICKNO_TICKNO t).setFrame ft sfn)).setReg 0x40000 a).setReg 0x40004 b

/-- A recorded input item crosses the boundary again. -/
def State.replayItem (s : State) (i : RecItem) : State :=
  match i with
  | .frame k f => s.handFrame k f
  | .finef k f => s.finefIn k f
  | .capture j bs => (s.clmBytes (captureBase j / 4) bs).captureIrq
  | .write a v => s.writeWord a v RegEnv.none
  | .arm k => s.armCommit k
  | .cancel l => { s with armed := s.armed.filter (fun k => !l.contains k.seq) }
  | .time k => if k % 16 = 2 then ringEngines s (k / 16) else s

/-- What opens the recorded tick after `r`: TICKNO, SFN and FRAME_TICK, as recorded where it is; a TICKNO load between them
discards commits as R628 states. -/
def State.openRecorded (s : State) (r : RecTick) : State :=
  match (s.recd.replay.bind (fun x => x.left.head?)) with
  | some q =>
    let s := if q.tickno = tickAdd r.tickno 1 then s else { s with armed := s.armed.filter (keptAtLoad q.tickno) }
    s.asTick q.tickno q.sfn q.ft State.openBlocks
  | none =>
    let n := nextFrame r.ft r.sfn
    s.asTick (tickAdd r.tickno 1) n.2 n.1 State.openBlocks

/-- A replayed tick (R556, stages 3 and 4): the recorded items cross again, the blocks work on the recorded inputs, and the
digests are compared. -/
def State.replayTick (s : State) (r : RecTick) (x : TickIn) : State :=
  let b := s.asTick r.tickno r.sfn r.ft (fun s => r.items.foldl State.replayItem s)
  let c := b.asTick r.tickno r.sfn r.ft (fun s => s.closeBlocks r.ins)
  let t := ((c.holdEgress s).compareTick (c.points b)).closeRest x
  (t.newTick.passTime.countTick.openRecorded r).openRest

/-- The recorded tick that runs in the open live tick. -/
def State.replayNext (s : State) : Option RecTick :=
  if s.replaying then s.recd.replay.bind (fun r => r.left.head?) else none

/-- TICK_BOUNDARY (R34). While Crocus does not count, a tick's length of time passes and nothing else. -/
def State.tickBoundary (s : State) (x : TickIn) : State :=
  let s := { s with outbox := [], privi := { s.privi with takenNow := 0 } }
  if s.pwr.off then s
  else if !s.counting then s.newTick.passTime.powerPoll.countUnlock
  else match s.replayNext with
    | some r => s.replayTick r x
    | none =>
      if s.replaying then (s.closeRest x).newTick.passTime.countTick.openRest
      else s.liveTick x

def execTickBoundary (x : TickIn) (s : State) : Host.Outcome State Fault Refusal := .next (s.tickBoundary x)

/-! ### Rows of several blocks -/

/-- SPARE_TAKEOVER: the takeover, and REPLACE with it (R401, R527). -/
def execSpareTakeover (e : Fin 16) (s : State) : Host.Outcome State Fault Refusal :=
  .next (s.spareTakeover e.val).refreshReplace

end Sys2Proof.Machine
end

