-- ==== Sys2Proof/Machine/Dispatch.lean ====
section
/-!
DEFINITION. Sys2Proof/Machine/Dispatch.lean: the effect of every command, one arm per row of the table.
-/
namespace Sys2Proof.Machine

/-- The effect of a command on everything but the queue of waiting commands. -/
def exec (i : Instr) (s : State) : Host.Outcome State Fault Refusal :=
  match i with
  | .deviceReset flash memOk => Sys2Proof.Machine.execDeviceReset flash memOk s
  | .pwrResetKey memOk => Sys2Proof.Machine.execPwrResetKey memOk s
  | .pwrCtrlWake memOk => Sys2Proof.Machine.execPwrCtrlWake memOk s
  | .fallbackStable => Sys2Proof.Machine.execFallbackStable s
  | .refclkMeasure khz => Sys2Proof.Machine.execRefclkMeasure khz s
  | .bootTsyncTimeout => Sys2Proof.Machine.execBootTsyncTimeout s
  | .bringupComplete => Sys2Proof.Machine.execBringupComplete s
  | .tickBoundary x => Sys2Proof.Machine.execTickBoundary x s
  | .tsyncEdge periods => Sys2Proof.Machine.execTsyncEdge periods s
  | .tckCtrlRun byFirmware => Sys2Proof.Machine.execTckCtrlRun byFirmware s
  | .tckCtrlAlignArm => Sys2Proof.Machine.execTckCtrlAlignArm s
  | .tckCtrlPeakClr => Sys2Proof.Machine.execTckCtrlPeakClr s
  | .tckCommitArm => Sys2Proof.Machine.execTckCommitArm s
  | .tckCommitCancel => Sys2Proof.Machine.execTckCommitCancel s
  | .tckEvseqLoRead => Sys2Proof.Machine.execTckEvseqLoRead s
  | .eventArbitration src => Sys2Proof.Machine.execEventArbitration src s
  | .eventRecord => Sys2Proof.Machine.execEventRecord s
  | .notifyPush code => Sys2Proof.Machine.execNotifyPush code s
  | .eccUncorrectableError p => Sys2Proof.Machine.execEccUncorrectableError p s
  | .pcieDoorbell index => Sys2Proof.Machine.execPcieDoorbell index s
  | .spiCommand bs => Sys2Proof.Machine.execSpiCommand bs s
  | .packetAcceptance via slot => Sys2Proof.Machine.execPacketAcceptance via slot s
  | .commandComplete tag => Sys2Proof.Machine.execCommandComplete tag s
  | .replyRingWrite pcieOk => Sys2Proof.Machine.execReplyRingWrite pcieOk s
  | .resultRead spi => Sys2Proof.Machine.execResultRead spi s
  | .mbxResTagWrite tag => Sys2Proof.Machine.execMbxResTagWrite tag s
  | .spiFetch => Sys2Proof.Machine.execSpiFetch s
  | .spiStatus => Sys2Proof.Machine.execSpiStatus s
  | .mbxRingReset => Sys2Proof.Machine.execMbxRingReset s
  | .spiWindowRead fix addr words begun => Sys2Proof.Machine.execSpiWindowRead fix addr words begun s
  | .spiWindowWrite fix addr words data e => Sys2Proof.Machine.execSpiWindowWrite fix addr words data e s
  | .registerWrite addr enables v e => Sys2Proof.Machine.execRegisterWrite addr enables v e s
  | .groupAbandoned id => Sys2Proof.Machine.execGroupAbandoned id s
  | .sysNop tag => Sys2Proof.Machine.execSysNop tag s
  | .atomicGroupClose tag => Sys2Proof.Machine.execAtomicGroupClose tag s
  | .sysIdentify tag => Sys2Proof.Machine.execSysIdentify tag s
  | .sysGetHealth tag => Sys2Proof.Machine.execSysGetHealth tag s
  | .resultAck tag => Sys2Proof.Machine.execResultAck tag s
  | .lockstepMismatch x => Sys2Proof.Machine.execLockstepMismatch x s
  | .fwWatchdog x => Sys2Proof.Machine.execFwWatchdog x s
  | .takeoverComplete => Sys2Proof.Machine.execTakeoverComplete s
  | .pairBootComplete x ok => Sys2Proof.Machine.execPairBootComplete x ok s
  | .pathConfigCarriersRx tag => Sys2Proof.Machine.execPathConfigCarriersRx tag s
  | .pathConfigCarriersTx tag => Sys2Proof.Machine.execPathConfigCarriersTx tag s
  | .pathSetGain tag => Sys2Proof.Machine.execPathSetGain tag s
  | .pathLoadFilter tag => Sys2Proof.Machine.execPathLoadFilter tag s
  | .pathRetire tag => Sys2Proof.Machine.execPathRetire tag s
  | .pathSelectFreqEntry tag => Sys2Proof.Machine.execPathSelectFreqEntry tag s
  | .pathDefineFreqEntry tag => Sys2Proof.Machine.execPathDefineFreqEntry tag s
  | .pathSetPowerStep tag => Sys2Proof.Machine.execPathSetPowerStep tag s
  | .pathLoadPowerColumn tag => Sys2Proof.Machine.execPathLoadPowerColumn tag s
  | .pathSetMask tag => Sys2Proof.Machine.execPathSetMask tag s
  | .pathSetFrontendSchedule tag => Sys2Proof.Machine.execPathSetFrontendSchedule tag s
  | .gainLoopGapTickEnd p peak => Sys2Proof.Machine.execGainLoopGapTickEnd p peak s
  | .padrvEnable => Sys2Proof.Machine.execPadrvEnable s
  | .padrvDeferredLatch => Sys2Proof.Machine.execPadrvDeferredLatch s
  | .cfrWindowReport p evm papr misses => Sys2Proof.Machine.execCfrWindowReport p evm papr misses s
  | .bfLoadBeamTable tag => Sys2Proof.Machine.execBfLoadBeamTable tag s
  | .bfSetCarrier tag => Sys2Proof.Machine.execBfSetCarrier tag s
  | .bfSetBeamLayer tag => Sys2Proof.Machine.execBfSetBeamLayer tag s
  | .bfGetRetiredMask tag => Sys2Proof.Machine.execBfGetRetiredMask tag s
  | .dpdStart tag => Sys2Proof.Machine.execDpdStart tag s
  | .dpdFreeze tag => Sys2Proof.Machine.execDpdFreeze tag s
  | .dpdLoadModel tag => Sys2Proof.Machine.execDpdLoadModel tag s
  | .dpdLoadCoefficients tag => Sys2Proof.Machine.execDpdLoadCoefficients tag s
  | .dpdGetStatus tag => Sys2Proof.Machine.execDpdGetStatus tag s
  | .obsCaptureStart j => Sys2Proof.Machine.execObsCaptureStart j s
  | .obsCaptureEnd j power observed papr ovr => Sys2Proof.Machine.execObsCaptureEnd j power observed papr ovr s
  | .captureDelivered j densities acf gain => Sys2Proof.Machine.execCaptureDelivered j densities acf gain s
  | .estimationStart e => Sys2Proof.Machine.execEstimationStart e s
  | .acceptanceGuard p kernelOk coefs predicted acfPred acfMeas gainMeas => Sys2Proof.Machine.execAcceptanceGuard p kernelOk coefs predicted acfPred acfMeas gainMeas s
  | .prachConfig tag => Sys2Proof.Machine.execPrachConfig tag s
  | .prachReadReport tag => Sys2Proof.Machine.execPrachReadReport tag s
  | .fhConfigPort tag => Sys2Proof.Machine.execFhConfigPort tag s
  | .fhMapEaxc tag => Sys2Proof.Machine.execFhMapEaxc tag s
  | .fhSetWindows tag => Sys2Proof.Machine.execFhSetWindows tag s
  | .fhSetCompression tag => Sys2Proof.Machine.execFhSetCompression tag s
  | .frameReceived port f => Sys2Proof.Machine.execFrameReceived port f s
  | .portAligned k => Sys2Proof.Machine.execPortAligned k s
  | .portAlignTimeout k => Sys2Proof.Machine.execPortAlignTimeout k s
  | .fhLinkDown k => Sys2Proof.Machine.execFhLinkDown k s
  | .fhRemoteFault k => Sys2Proof.Machine.execFhRemoteFault k s
  | .ptpServoUpdate parent ms sm phase rate edge => Sys2Proof.Machine.execPtpServoUpdate parent ms sm phase rate edge s
  | .ptpParentLoss => Sys2Proof.Machine.execPtpParentLoss s
  | .laneConfigGroup tag app => Sys2Proof.Machine.execLaneConfigGroup tag app s
  | .laneConfigTimeout k => Sys2Proof.Machine.execLaneConfigTimeout k s
  | .laneAdaptRestart tag => Sys2Proof.Machine.execLaneAdaptRestart tag s
  | .laneAdaptHold tag => Sys2Proof.Machine.execLaneAdaptHold tag s
  | .laneAdaptRelease tag => Sys2Proof.Machine.execLaneAdaptRelease tag s
  | .laneAdaptStore tag => Sys2Proof.Machine.execLaneAdaptStore tag s
  | .laneLoadPreset tag => Sys2Proof.Machine.execLaneLoadPreset tag s
  | .laneBitSlip tag => Sys2Proof.Machine.execLaneBitSlip tag s
  | .lanePrbs tag => Sys2Proof.Machine.execLanePrbs tag s
  | .laneSignalSet l => Sys2Proof.Machine.execLaneSignalSet l s
  | .laneLos l => Sys2Proof.Machine.execLaneLos l s
  | .laneLock l => Sys2Proof.Machine.execLaneLock l s
  | .laneAcqFail l => Sys2Proof.Machine.execLaneAcqFail l s
  | .laneUnlock l => Sys2Proof.Machine.execLaneUnlock l s
  | .laneFreeze l => Sys2Proof.Machine.execLaneFreeze l s
  | .laneUnfreeze l => Sys2Proof.Machine.execLaneUnfreeze l s
  | .laneFomReport l fom => Sys2Proof.Machine.execLaneFomReport l fom s
  | .prbsCheckerLock l => Sys2Proof.Machine.execPrbsCheckerLock l s
  | .prbsCheckerLoss l => Sys2Proof.Machine.execPrbsCheckerLoss l s
  | .laneErrorInject l => Sys2Proof.Machine.execLaneErrorInject l s
  | .laneRawCapture l word => Sys2Proof.Machine.execLaneRawCapture l word s
  | .laneHistClear l => Sys2Proof.Machine.execLaneHistClear l s
  | .modulePresencePoll m rev st bad app => Sys2Proof.Machine.execModulePresencePoll m rev st bad app s
  | .moduleFlagPoll m flags => Sys2Proof.Machine.execModuleFlagPoll m flags s
  | .moduleMonitorPoll m temp vcc lanes => Sys2Proof.Machine.execModuleMonitorPoll m temp vcc lanes s
  | .moduleHostXfer m w => Sys2Proof.Machine.execModuleHostXfer m w s
  | .casConfig tag => Sys2Proof.Machine.execCasConfig tag s
  | .casDiscover tag => Sys2Proof.Machine.execCasDiscover tag s
  | .casDiscoverComplete => Sys2Proof.Machine.execCasDiscoverComplete s
  | .finefFrameReceived port f => Sys2Proof.Machine.execFinefFrameReceived port f s
  | .casLinkUp k => Sys2Proof.Machine.execCasLinkUp k s
  | .casLinkDown k => Sys2Proof.Machine.execCasLinkDown k s
  | .casRejoin k => Sys2Proof.Machine.execCasRejoin k s
  | .ringReversal => Sys2Proof.Machine.execRingReversal s
  | .engLoadKernel tag v => Sys2Proof.Machine.execEngLoadKernel tag v s
  | .engStartKernel tag => Sys2Proof.Machine.execEngStartKernel tag s
  | .engStop tag => Sys2Proof.Machine.execEngStop tag s
  | .engDoorbell tag => Sys2Proof.Machine.execEngDoorbell tag s
  | .spareTakeover e => Sys2Proof.Machine.execSpareTakeover e s
  | .interruptEntry e => Sys2Proof.Machine.execInterruptEntry e s
  | .xferComplete e => Sys2Proof.Machine.execXferComplete e s
  | .nop e => Sys2Proof.Machine.execNop e s
  | .cmac e hi conj sub => Sys2Proof.Machine.execCmac e hi conj sub s
  | .mac4 e sub => Sys2Proof.Machine.execMac4 e sub s
  | .mac e ac u v sub => Sys2Proof.Machine.execMac e ac u v sub s
  | .mpy e ac u v => Sys2Proof.Machine.execMpy e ac u v s
  | .aop e ac op => Sys2Proof.Machine.execAop e ac op s
  | .mova e ac dst => Sys2Proof.Machine.execMova e ac dst s
  | .scm e mode => Sys2Proof.Machine.execScm e mode s
  | .ldg e r b a => Sys2Proof.Machine.execLdg e r b a s
  | .stg e r b a => Sys2Proof.Machine.execStg e r b a s
  | .gop e op d a b => Sys2Proof.Machine.execGop e op d a b s
  | .ldi e r => Sys2Proof.Machine.execLdi e r s
  | .movr e dst src => Sys2Proof.Machine.execMovr e dst src s
  | .xfer e into b g p n => Sys2Proof.Machine.execXfer e into b g p n s
  | .waitx e => Sys2Proof.Machine.execWaitx e s
  | .br e => Sys2Proof.Machine.execBr e s
  | .call e => Sys2Proof.Machine.execCall e s
  | .ret e => Sys2Proof.Machine.execRet e s
  | .rti e => Sys2Proof.Machine.execRti e s
  | .loop e => Sys2Proof.Machine.execLoop e s
  | .leave e => Sys2Proof.Machine.execLeave e s
  | .rpt e => Sys2Proof.Machine.execRpt e s
  | .tend e => Sys2Proof.Machine.execTend e s
  | .done e => Sys2Proof.Machine.execDone e s
  | .swi e => Sys2Proof.Machine.execSwi e s
  | .ei e => Sys2Proof.Machine.execEi e s
  | .di e => Sys2Proof.Machine.execDi e s
  | .halt e => Sys2Proof.Machine.execHalt e s
  | .dmaSubmit tag => Sys2Proof.Machine.execDmaSubmit tag s
  | .dmaSubmitWaitTimeout tag => Sys2Proof.Machine.execDmaSubmitWaitTimeout tag s
  | .dmaChDoorbell n => Sys2Proof.Machine.execDmaChDoorbell n s
  | .dmaChReset n => Sys2Proof.Machine.execDmaChReset n s
  | .dmaBurstGrant write cycle host e => Sys2Proof.Machine.execDmaBurstGrant write cycle host e s
  | .dmaDescriptorRead n desc => Sys2Proof.Machine.execDmaDescriptorRead n desc s
  | .dmaDescriptorComplete n e => Sys2Proof.Machine.execDmaDescriptorComplete n e s
  | .dmaBusTimeout n => Sys2Proof.Machine.execDmaBusTimeout n s
  | .dmaRetry n => Sys2Proof.Machine.execDmaRetry n s
  | .dmaBusError n => Sys2Proof.Machine.execDmaBusError n s
  | .clkSetBandTable tag => Sys2Proof.Machine.execClkSetBandTable tag s
  | .clkRelock tag => Sys2Proof.Machine.execClkRelock tag s
  | .clkUpdateDividers tag => Sys2Proof.Machine.execClkUpdateDividers tag s
  | .pwrSetOp tag => Sys2Proof.Machine.execPwrSetOp tag s
  | .opRampComplete => Sys2Proof.Machine.execOpRampComplete s
  | .pwrGateClose tag busy => Sys2Proof.Machine.execPwrGateClose tag busy s
  | .pwrGateRelease tag => Sys2Proof.Machine.execPwrGateRelease tag s
  | .loopLock l => Sys2Proof.Machine.execLoopLock l s
  | .loopLockTimeout l => Sys2Proof.Machine.execLoopLockTimeout l s
  | .clkUnlock l => Sys2Proof.Machine.execClkUnlock l s
  | .clkRefLoss => Sys2Proof.Machine.execClkRefLoss s
  | .clkLaneLoss => Sys2Proof.Machine.execClkLaneLoss s
  | .safeNLow => Sys2Proof.Machine.execSafeNLow s
  | .safeNHigh => Sys2Proof.Machine.execSafeNHigh s
  | .clockSourceQualified lane => Sys2Proof.Machine.execClockSourceQualified lane s
  | .clkSyncArm => Sys2Proof.Machine.execClkSyncArm s
  | .clkSyncCancel => Sys2Proof.Machine.execClkSyncCancel s
  | .timeAdjust tag edge => Sys2Proof.Machine.execTimeAdjust tag edge s
  | .timeSetAbsolute tag edge => Sys2Proof.Machine.execTimeSetAbsolute tag edge s
  | .timeSetRate tag edge => Sys2Proof.Machine.execTimeSetRate tag edge s
  | .timeStepForceAdjust tag edge => Sys2Proof.Machine.execTimeStepForceAdjust tag edge s
  | .timeStepForceAbsolute tag edge => Sys2Proof.Machine.execTimeStepForceAbsolute tag edge s
  | .timeArmTrigger tag edge => Sys2Proof.Machine.execTimeArmTrigger tag edge s
  | .timeDisarmTrigger tag => Sys2Proof.Machine.execTimeDisarmTrigger tag s
  | .timeCmpFired ix edge => Sys2Proof.Machine.execTimeCmpFired ix edge s
  | .timeCmpMissed ix edge => Sys2Proof.Machine.execTimeCmpMissed ix edge s
  | .timeSnapshot edge => Sys2Proof.Machine.execTimeSnapshot edge s
  | .pwrSetState tag => Sys2Proof.Machine.execPwrSetState tag s
  | .pwrGetState tag => Sys2Proof.Machine.execPwrGetState tag s
  | .powerStepComplete domain found us => Sys2Proof.Machine.execPowerStepComplete domain found us s
  | .wakeStepFail domain clock us => Sys2Proof.Machine.execWakeStepFail domain clock us s
  | .wakeStepRetry domain => Sys2Proof.Machine.execWakeStepRetry domain s
  | .brownout domain => Sys2Proof.Machine.execBrownout domain s
  | .brownoutRestart domain => Sys2Proof.Machine.execBrownoutRestart domain s
  | .housekeepingRound temps supplies => Sys2Proof.Machine.execHousekeepingRound temps supplies s
  | .snowdropConversion value => Sys2Proof.Machine.execSnowdropConversion value s
  | .hkUrgentRequest ch avg => Sys2Proof.Machine.execHkUrgentRequest ch avg s
  | .hkFifoFlush => Sys2Proof.Machine.execHkFifoFlush s
  | .hkLoadSequence tag => Sys2Proof.Machine.execHkLoadSequence tag s
  | .calRun tag => Sys2Proof.Machine.execCalRun tag s
  | .calRunTimeout tag => Sys2Proof.Machine.execCalRunTimeout tag s
  | .calSetPolicy tag => Sys2Proof.Machine.execCalSetPolicy tag s
  | .calAttemptStart key => Sys2Proof.Machine.execCalAttemptStart key s
  | .calRunComplete key comps xres => Sys2Proof.Machine.execCalRunComplete key comps xres s
  | .calHoldoffExpiry key => Sys2Proof.Machine.execCalHoldoffExpiry key s
  | .calStarved key => Sys2Proof.Machine.execCalStarved key s
  | .sysResetUnit tag selfOk => Sys2Proof.Machine.execSysResetUnit tag selfOk s
  | .evRead tag => Sys2Proof.Machine.execEvRead tag s
  | .evConfigCode tag => Sys2Proof.Machine.execEvConfigCode tag s
  | .injArm tag => Sys2Proof.Machine.execInjArm tag s
  | .injDisarm tag => Sys2Proof.Machine.execInjDisarm tag s
  | .injectionFire det arg => Sys2Proof.Machine.execInjectionFire det arg s
  | .evrNotifyRead => Sys2Proof.Machine.execEvrNotifyRead s
  | .evrWinDataRead => Sys2Proof.Machine.execEvrWinDataRead s
  | .recArm tag => Sys2Proof.Machine.execRecArm tag s
  | .recStop tag => Sys2Proof.Machine.execRecStop tag s
  | .recordingLimitReached reason => Sys2Proof.Machine.execRecordingLimitReached reason s
  | .snapshotDone => Sys2Proof.Machine.execSnapshotDone s
  | .replayStart tag => Sys2Proof.Machine.execReplayStart tag s
  | .replayDone => Sys2Proof.Machine.execReplayDone s
  | .sysActivateFirmware tag v => Sys2Proof.Machine.execSysActivateFirmware tag v s
  | .secInstallOpen tag => Sys2Proof.Machine.execSecInstallOpen tag s
  | .secInstallWrite tag => Sys2Proof.Machine.execSecInstallWrite tag s
  | .secInstallCommit tag v flashOk => Sys2Proof.Machine.execSecInstallCommit tag v flashOk s
  | .secAttestationBuild tag => Sys2Proof.Machine.execSecAttestationBuild tag s
  | .secAttestationReadReport tag => Sys2Proof.Machine.execSecAttestationReadReport tag s
  | .secAttestationReadCerts tag => Sys2Proof.Machine.execSecAttestationReadCerts tag s
  | .secUnlockChallenge tag random => Sys2Proof.Machine.execSecUnlockChallenge tag random s
  | .secUnlockStage tag => Sys2Proof.Machine.execSecUnlockStage tag s
  | .secUnlockSubmit tag v => Sys2Proof.Machine.execSecUnlockSubmit tag v s
  | .secUnlockEnd tag => Sys2Proof.Machine.execSecUnlockEnd tag s
  | .unlockDurationExpiry => Sys2Proof.Machine.execUnlockDurationExpiry s
  | .challengeExpiry => Sys2Proof.Machine.execChallengeExpiry s
  | .secRecovDataWrite w => Sys2Proof.Machine.execSecRecovDataWrite w s
  | .secRecovGo v => Sys2Proof.Machine.execSecRecovGo v s
  | .qfeCoefDataRead n => Sys2Proof.Machine.execQfeCoefDataRead n s
  | .qfeTxCoefDataRead n => Sys2Proof.Machine.execQfeTxCoefDataRead n s
  | .cfrMaskDataRead => Sys2Proof.Machine.execCfrMaskDataRead s
  | .frqDataRead => Sys2Proof.Machine.execFrqDataRead s
  | .bfWinDataRead => Sys2Proof.Machine.execBfWinDataRead s
  | .dpdCoefDataRead => Sys2Proof.Machine.execDpdCoefDataRead s
  | .dpdTermDataRead => Sys2Proof.Machine.execDpdTermDataRead s
  | .frmMapDataRead => Sys2Proof.Machine.execFrmMapDataRead s
  | .lnCoefDataRead l => Sys2Proof.Machine.execLnCoefDataRead l s
  | .lnPrbsErrLoRead l => Sys2Proof.Machine.execLnPrbsErrLoRead l s
  | .lnPrbsBitsLoRead l => Sys2Proof.Machine.execLnPrbsBitsLoRead l s
  | .leMemDataAccess n w => Sys2Proof.Machine.execLeMemDataAccess n w s
  | .clmDataAccess w => Sys2Proof.Machine.execClmDataAccess w s
  | .clkBandDataRead => Sys2Proof.Machine.execClkBandDataRead s
  | .timAncDataRead => Sys2Proof.Machine.execTimAncDataRead s
  | .hkSeqDataRead => Sys2Proof.Machine.execHkSeqDataRead s
  | .hkFifoDataRead => Sys2Proof.Machine.execHkFifoDataRead s
  | .calResDataRead => Sys2Proof.Machine.execCalResDataRead s
  | .sysResetUnitTimeout tag => Sys2Proof.Machine.execSysResetUnitTimeout tag s
  | .moduleAccessComplete m nack data => Sys2Proof.Machine.execModuleAccessComplete m nack data s
  | .mbxResFetchComplete => Sys2Proof.Machine.execMbxResFetchComplete s
  | .fhRemoteFaultCleared k => Sys2Proof.Machine.execFhRemoteFaultCleared k s
  | .timePulseEnd ix => Sys2Proof.Machine.execTimePulseEnd ix s
  | .powerOff => Sys2Proof.Machine.execPowerOff s

end Sys2Proof.Machine
end

