-- ==== Sys2Proof/WellFormed.lean ====
section
/-!
DEFINITION. Sys2Proof/WellFormed.lean: the operand ranges of the commands, as the spec gives the fields they name. A command
outside them is no row of the table: nothing outside the part can send it.
-/
namespace Sys2Proof

/-- A tag is 16 bits (R59). -/
def wfTag (t : Nat) : Bool := decide (t < 65536)

/-- One of the 128 edges of REFCLK's multiple in a tick (R454). -/
def wfEdge (e : Nat) : Bool := decide (e < 128)

/-- An edge of the tick, and a received lane word of 128 bits. -/
def wfEnv (e : RegEnv) : Bool := wfEdge e.edge && decide (e.raw < 2 ^ 128)

/-- An identifier of at most `hi`. -/
def wfId (v hi : Nat) : Bool := decide (v ≤ hi)

/-- Bytes of a ring slot come only with a PCIe acceptance (R63). -/
def wfPacketSource (via : Transport) (slot : Option (List Byte)) : Bool :=
  match via with
  | .pcie => true
  | .spi | .inband => slot.isNone

/-- Every pair lies below its two bounds. -/
def wfPairs (a b : Nat) (l : List (Nat × Nat)) : Bool := l.all (fun x => decide (x.1 < a) && decide (x.2 < b))

/-- A measured density names a stream, an edge and a segment of its mask (R154). -/
def wfDensities (l : List (Nat × Nat × Nat × Int)) : Bool :=
  l.all (fun x => decide (x.1 < 4) && decide (x.2.1 < 2) && decide (x.2.2.1 < 32))

/-- A PTP parent's clockClass is one byte. -/
def wfParent (p : Option (Fin 8 × Nat)) : Bool :=
  match p with
  | none => true
  | some x => decide (x.2 < 256)

/-- A byte, where one was read. -/
def wfByteOpt (b : Option Nat) : Bool :=
  match b with
  | none => true
  | some v => decide (v < 256)

/-- Bias, transmit power and receive power of a lane are 16 bits each. -/
def wfMonitor (l : List (Nat × Nat × Nat × Nat)) : Bool :=
  l.all (fun x => decide (x.1 < 8) && decide (x.2.1 < 65536) && decide (x.2.2.1 < 65536) && decide (x.2.2.2 < 65536))

/-- The application header's fields have the widths the fronthaul standard gives them (R285). -/
def wfHdr (h : AppHdr) : Bool :=
  decide (h.version < 8) && decide (h.filter < 16) && decide (h.frameId < 256) && decide (h.subframe < 16) &&
    decide (h.slot < 64) && decide (h.sym < 64) && decide (h.secType < 256)

def wfUp (x : UpSection) : Bool :=
  decide (x.secId < 4096) && decide (x.rb < 2) && decide (x.startPrb < 1024) && decide (x.numPrb < 256) && wfByteOpt x.compHdr

def wfCp (x : CpSection) : Bool :=
  decide (x.secId < 4096) && decide (x.rb < 2) && decide (x.startPrb < 1024) && decide (x.numPrb < 256) &&
    decide (x.reMask < 4096) && decide (x.numSym < 16) && decide (x.beamId < 2 ^ 15) && decide (x.ueId < 2 ^ 15)

def wfBody (b : EcpriBody) : Bool :=
  match b with
  | .uplane eaxc seq _ hdr secs => decide (eaxc < 65536) && decide (seq < 256) && wfHdr hdr && secs.all wfUp
  | .cplane eaxc seq _ hdr secs => decide (eaxc < 65536) && decide (seq < 256) && wfHdr hdr && secs.all wfCp
  | .privi _ => true
  | .other => true

def wfFrameBody (b : FrameBody) : Bool :=
  match b with
  | .ecpri rev _ mt body => decide (rev < 16) && decide (mt < 256) && wfBody body
  | .pause => true
  | .ptp mt _ => decide (mt < 16)
  | .other => true

/-- Addresses are 48 bits, a tag's TCI 16, and a frame leaves through one of four ports, or 4 + one of four cascade ports. -/
def wfFrame (f : Frame) : Bool :=
  decide (f.dmac < 2 ^ 48) && decide (f.smac < 2 ^ 48) &&
    (match f.tci with | none => true | some v => decide (v < 65536)) &&
    f.residence.all (fun x => decide (x.1 < 8)) && wfFrameBody f.body

/-- TICKNO is 32 bits and every Petunia-sum block is 37 bytes (R273). -/
def wfFinef (f : FinefFrame) : Bool :=
  decide (f.tickno < 2 ^ 32) && f.blocks.all (fun b => decide (b.bytes.length = 37))

/-- A path below 64 delivers 6,400 codes of 12 bits (R91). -/
def wfRxIn (x : RxPathIn) : Bool :=
  decide (x.path < 64) && decide (x.codes.length = 6400) && x.codes.all (fun c => decide (-2048 ≤ c ∧ c ≤ 2047)) &&
    x.ovr.all (fun i => decide (i < 6400))

/-- An observation receiver below 8 delivers 6,400 codes of 12 bits (R215). -/
def wfObsIn (x : ObsIn) : Bool :=
  decide (x.ox < 8) && decide (x.codes.length = 6400) && x.codes.all (fun c => decide (-2048 ≤ c ∧ c ≤ 2047))

/-- The dies and blocks a tick names exist. -/
def wfTick (x : TickIn) : Bool :=
  x.rx.all wfRxIn && x.obs.all wfObsIn && x.overruns.all (fun o => decide (o.1 < 16)) && x.crcUp.all (fun k => decide (k < 4)) &&
    x.crcDown.all (fun k => decide (k < 4)) && x.lanes.all (fun p => decide (p.lane < 8))

/-- A retirable unit's source code is 12 bits (R526). -/
def wfPlace (p : EccPlace) : Bool :=
  match p with
  | .owner src => decide (src < 4096)
  | .recorder _ => true
  | .cluster _ => true
  | .shared _ _ => true

/-- The operands of a command lie in their ranges. -/
def Instr.wellFormed (i : Instr) : Bool :=
  match i with
  | .deviceReset _ _ => true
  | .pwrResetKey _ => true
  | .pwrCtrlWake _ => true
  | .fallbackStable => true
  | .refclkMeasure _ => true
  | .bootTsyncTimeout => true
  | .bringupComplete => true
  | .tickBoundary x => wfTick x
  | .tsyncEdge _ => true
  | .tckCtrlRun _ => true
  | .tckCtrlAlignArm => true
  | .tckCtrlPeakClr => true
  | .tckCommitArm => true
  | .tckCommitCancel => true
  | .tckEvseqLoRead => true
  | .eventArbitration _ => true
  | .eventRecord => true
  | .notifyPush code => decide (code < 65536)
  | .eccUncorrectableError p => wfPlace p
  | .pcieDoorbell _ => true
  | .spiCommand _ => true
  | .packetAcceptance via slot => wfPacketSource via slot
  | .commandComplete tag => wfTag tag
  | .replyRingWrite _ => true
  | .resultRead _ => true
  | .mbxResTagWrite _ => true
  | .spiFetch => true
  | .spiStatus => true
  | .mbxRingReset => true
  | .spiWindowRead _ _ _ _ => true
  | .spiWindowWrite _ _ words data e => wfEnv e && decide (data.length ≤ 4 * (words.val + 1))
  | .registerWrite _ _ _ e => wfEnv e
  | .groupAbandoned id => wfId id 65535 && decide (id ≠ 0)
  | .sysNop tag => wfTag tag
  | .atomicGroupClose tag => wfTag tag
  | .sysIdentify tag => wfTag tag
  | .sysGetHealth tag => wfTag tag
  | .resultAck tag => wfTag tag
  | .lockstepMismatch _ => true
  | .fwWatchdog _ => true
  | .takeoverComplete => true
  | .pairBootComplete _ _ => true
  | .pathConfigCarriersRx tag => wfTag tag
  | .pathConfigCarriersTx tag => wfTag tag
  | .pathSetGain tag => wfTag tag
  | .pathLoadFilter tag => wfTag tag
  | .pathRetire tag => wfTag tag
  | .pathSelectFreqEntry tag => wfTag tag
  | .pathDefineFreqEntry tag => wfTag tag
  | .pathSetPowerStep tag => wfTag tag
  | .pathLoadPowerColumn tag => wfTag tag
  | .pathSetMask tag => wfTag tag
  | .pathSetFrontendSchedule tag => wfTag tag
  | .gainLoopGapTickEnd _ _ => true
  | .padrvEnable => true
  | .padrvDeferredLatch => true
  | .cfrWindowReport _ _ _ _ => true
  | .bfLoadBeamTable tag => wfTag tag
  | .bfSetCarrier tag => wfTag tag
  | .bfSetBeamLayer tag => wfTag tag
  | .bfGetRetiredMask tag => wfTag tag
  | .dpdStart tag => wfTag tag
  | .dpdFreeze tag => wfTag tag
  | .dpdLoadModel tag => wfTag tag
  | .dpdLoadCoefficients tag => wfTag tag
  | .dpdGetStatus tag => wfTag tag
  | .obsCaptureStart _ => true
  | .obsCaptureEnd _ _ _ _ _ => true
  | .captureDelivered _ _ _ _ => true
  | .estimationStart _ => true
  | .acceptanceGuard _ _ _ _ _ _ _ => true
  | .prachConfig tag => wfTag tag
  | .prachReadReport tag => wfTag tag
  | .fhConfigPort tag => wfTag tag
  | .fhMapEaxc tag => wfTag tag
  | .fhSetWindows tag => wfTag tag
  | .fhSetCompression tag => wfTag tag
  | .frameReceived _ f => wfFrame f
  | .portAligned _ => true
  | .portAlignTimeout _ => true
  | .fhLinkDown _ => true
  | .fhRemoteFault _ => true
  | .ptpServoUpdate parent _ _ _ _ edge => wfEdge edge && wfParent parent
  | .ptpParentLoss => true
  | .laneConfigGroup tag apps => wfTag tag && wfPairs 256 256 apps
  | .laneConfigTimeout _ => true
  | .laneAdaptRestart tag => wfTag tag
  | .laneAdaptHold tag => wfTag tag
  | .laneAdaptRelease tag => wfTag tag
  | .laneAdaptStore tag => wfTag tag
  | .laneLoadPreset tag => wfTag tag
  | .laneBitSlip tag => wfTag tag
  | .lanePrbs tag => wfTag tag
  | .laneSignalSet _ => true
  | .laneLos _ => true
  | .laneLock _ => true
  | .laneAcqFail _ => true
  | .laneUnlock _ => true
  | .laneFreeze _ => true
  | .laneUnfreeze _ => true
  | .laneFomReport _ fom => decide (fom < 1024)
  | .prbsCheckerLock _ => true
  | .prbsCheckerLoss _ => true
  | .laneErrorInject _ => true
  | .laneRawCapture _ word => decide (word < 2 ^ 128)
  | .laneHistClear _ => true
  | .modulePresencePoll _ rev st _ apps => wfByteOpt rev && decide (st < 8) && wfPairs 256 256 apps
  | .moduleFlagPoll _ flags => wfPairs 256 256 flags
  | .moduleMonitorPoll _ temp vcc lanes => decide (temp < 65536) && decide (vcc < 65536) && wfMonitor lanes
  | .moduleHostXfer _ _ => true
  | .casConfig tag => wfTag tag
  | .casDiscover tag => wfTag tag
  | .casDiscoverComplete => true
  | .finefFrameReceived _ f => wfFinef f
  | .casLinkUp _ => true
  | .casLinkDown _ => true
  | .casRejoin _ => true
  | .ringReversal => true
  | .engLoadKernel tag _ => wfTag tag
  | .engStartKernel tag => wfTag tag
  | .engStop tag => wfTag tag
  | .engDoorbell tag => wfTag tag
  | .spareTakeover _ => true
  | .interruptEntry _ => true
  | .xferComplete _ => true
  | .nop _ => true
  | .cmac _ _ _ _ => true
  | .mac4 _ _ => true
  | .mac _ _ _ _ _ => true
  | .mpy _ _ _ _ => true
  | .aop _ _ _ => true
  | .mova _ _ _ => true
  | .scm _ _ => true
  | .ldg _ _ _ a => decide (a < 32768)
  | .stg _ _ _ a => decide (a < 32768)
  | .gop _ _ _ _ _ => true
  | .ldi _ _ => true
  | .movr _ _ _ => true
  | .xfer _ _ _ _ _ n => decide (n ≤ 4096)
  | .waitx _ => true
  | .br _ => true
  | .call _ => true
  | .ret _ => true
  | .rti _ => true
  | .loop _ => true
  | .leave _ => true
  | .rpt _ => true
  | .tend _ => true
  | .done _ => true
  | .swi _ => true
  | .ei _ => true
  | .di _ => true
  | .halt _ => true
  | .dmaSubmit tag => wfTag tag
  | .dmaSubmitWaitTimeout tag => wfTag tag
  | .dmaChDoorbell _ => true
  | .dmaChReset _ => true
  | .dmaBurstGrant _ cycle host e => wfEnv e && decide (cycle < 256) && decide (host.length ≤ 256)
  | .dmaDescriptorRead _ desc => decide (desc.length = 32 ∨ desc.length = 4)
  | .dmaDescriptorComplete _ e => wfEnv e
  | .dmaBusTimeout _ => true
  | .dmaRetry _ => true
  | .dmaBusError _ => true
  | .clkSetBandTable tag => wfTag tag
  | .clkRelock tag => wfTag tag
  | .clkUpdateDividers tag => wfTag tag
  | .pwrSetOp tag => wfTag tag
  | .opRampComplete => true
  | .pwrGateClose tag _ => wfTag tag
  | .pwrGateRelease tag => wfTag tag
  | .loopLock _ => true
  | .loopLockTimeout _ => true
  | .clkUnlock _ => true
  | .clkRefLoss => true
  | .clkLaneLoss => true
  | .safeNLow => true
  | .safeNHigh => true
  | .clockSourceQualified _ => true
  | .clkSyncArm => true
  | .clkSyncCancel => true
  | .timeAdjust tag edge => wfTag tag && wfEdge edge
  | .timeSetAbsolute tag edge => wfTag tag && wfEdge edge
  | .timeSetRate tag edge => wfTag tag && wfEdge edge
  | .timeStepForceAdjust tag edge => wfTag tag && wfEdge edge
  | .timeStepForceAbsolute tag edge => wfTag tag && wfEdge edge
  | .timeArmTrigger tag edge => wfTag tag && wfEdge edge
  | .timeDisarmTrigger tag => wfTag tag
  | .timeCmpFired _ edge => wfEdge edge
  | .timeCmpMissed _ edge => wfEdge edge
  | .timeSnapshot edge => wfEdge edge
  | .pwrSetState tag => wfTag tag
  | .pwrGetState tag => wfTag tag
  | .powerStepComplete _ _ _ => true
  | .wakeStepFail _ _ _ => true
  | .wakeStepRetry _ => true
  | .brownout _ => true
  | .brownoutRestart _ => true
  | .housekeepingRound temps supplies => decide (temps.length = 25) && decide (supplies.length = 11)
  | .snowdropConversion value => decide (value < 65536)
  | .hkUrgentRequest _ avg => decide (avg.val ≤ 4)
  | .hkFifoFlush => true
  | .hkLoadSequence tag => wfTag tag
  | .calRun tag => wfTag tag
  | .calRunTimeout tag => wfTag tag
  | .calSetPolicy tag => wfTag tag
  | .calAttemptStart _ => true
  | .calRunComplete _ _ _ => true
  | .calHoldoffExpiry _ => true
  | .calStarved _ => true
  | .sysResetUnit tag _ => wfTag tag
  | .evRead tag => wfTag tag
  | .evConfigCode tag => wfTag tag
  | .injArm tag => wfTag tag
  | .injDisarm tag => wfTag tag
  | .injectionFire _ _ => true
  | .evrNotifyRead => true
  | .evrWinDataRead => true
  | .recArm tag => wfTag tag
  | .recStop tag => wfTag tag
  | .recordingLimitReached _ => true
  | .snapshotDone => true
  | .replayStart tag => wfTag tag
  | .replayDone => true
  | .sysActivateFirmware tag _ => wfTag tag
  | .secInstallOpen tag => wfTag tag
  | .secInstallWrite tag => wfTag tag
  | .secInstallCommit tag _ _ => wfTag tag
  | .secAttestationBuild tag => wfTag tag
  | .secAttestationReadReport tag => wfTag tag
  | .secAttestationReadCerts tag => wfTag tag
  | .secUnlockChallenge tag random => wfTag tag && decide (random.length = 32)
  | .secUnlockStage tag => wfTag tag
  | .secUnlockSubmit tag _ => wfTag tag
  | .secUnlockEnd tag => wfTag tag
  | .unlockDurationExpiry => true
  | .challengeExpiry => true
  | .secRecovDataWrite _ => true
  | .secRecovGo _ => true
  | .qfeCoefDataRead _ => true
  | .qfeTxCoefDataRead _ => true
  | .cfrMaskDataRead => true
  | .frqDataRead => true
  | .bfWinDataRead => true
  | .dpdCoefDataRead => true
  | .dpdTermDataRead => true
  | .frmMapDataRead => true
  | .lnCoefDataRead _ => true
  | .lnPrbsErrLoRead _ => true
  | .lnPrbsBitsLoRead _ => true
  | .leMemDataAccess _ _ => true
  | .clmDataAccess _ => true
  | .clkBandDataRead => true
  | .timAncDataRead => true
  | .hkSeqDataRead => true
  | .hkFifoDataRead => true
  | .calResDataRead => true
  | .sysResetUnitTimeout tag => wfTag tag
  | .moduleAccessComplete _ _ _ => true
  | .mbxResFetchComplete => true
  | .fhRemoteFaultCleared _ => true
  | .timePulseEnd _ => true
  | .powerOff => true

end Sys2Proof
end

