-- ==== Sys2Proof/Safety.lean ====
section
/-!
DEFINITION. Sys2Proof/Safety.lean: what counts as a safe run, in the terms the statements use: a step that goes on, the
canonical form of the stores, and what one step may do to the model's own bookkeeping.
-/
namespace Sys2Proof

/-- The command by which a tick's length of time passes. -/
def Instr.isBoundary (c : Instr) : Bool := match c with
  | .tickBoundary _ => true
  | _ => false

/-- The commands that may write host memory: a reply into the ring, a DMA write burst, the status word of a descriptor, the
replies written before STANDBY, and the boundary, on which channels end. -/
def Instr.writesHost (c : Instr) : Bool := match c with
  | .tickBoundary _ => true
  | .replyRingWrite _ => true
  | .dmaBurstGrant _ _ _ _ => true
  | .dmaDescriptorComplete _ _ => true
  | .powerStepComplete _ _ _ => true
  | _ => false

end Sys2Proof

namespace Sys2Proof.Machine

/-- A step goes on: it ends in a next state, not in a fault or a refusal. -/
def GoesOn (s : State) : Prop := ∃ t, step s = .next t

/-- The register file and host memory stand in canonical form: keys strictly rising, and no entry equal to what an unlisted
key reads as. Equal contents are then equal data. -/
def State.canonical (s : State) : Bool := swf resetWord s.regs && Memory.wf s.hostMem

/-- What a command leaves of the model's own bookkeeping: the queue as it was, canonical stores canonical, the tick count as it
was, free values only counted upward; and, with `q`, host memory as it was. -/
structure Keeps (q : Bool) (s t : State) : Prop where
  pending : t.pending = s.pending
  stores  : s.canonical = true → t.canonical = true
  elapsed : t.elapsed = s.elapsed
  free    : s.freeCtr ≤ t.freeCtr
  host    : q = true → t.hostMem = s.hostMem

end Sys2Proof.Machine
end

