-- ==== Sys2Proof/Certificates/Slice0/Obligations.lean ====
section
/-!
DEFINITION. Sys2Proof/Certificates/Slice0/Obligations.lean: what is to be proved of the model. First a small vocabulary, then
statements on the queue, the stores and the tick, then the rows of the table, family by family: when each row acts, and the
state it leaves.
-/
open Sys2Proof Sys2Proof.Machine

namespace Sys2Proof.Machine

/-- A start command of the opcode stands accepted as `c`, its tick has come (R69), and `u` is the state once it is taken up: off the
accepted list, and in the configuration measurement where R578 puts it. -/
def Starts (s : State) (op tag : Nat) (c : Cmd) (u : State) : Prop :=
  s.acceptedCmd op tag = some c ∧ tickAfter c.actTick s.tickno = false ∧
    u = (if measuredStart op then (s.takeCmd c).measureCmd op c.payload else s.takeCmd c)

/-- A commit command of the opcode stands accepted as `c`, and `u` is the state once it is taken up. -/
def Commits (s : State) (op tag : Nat) (c : Cmd) (u : State) : Prop := s.acceptedCmd op tag = some c ∧ u = s.takeCmd c

/-- The register bus reaches the register at an address, and its power domain is on (R614, R615). -/
def State.reaches (s : State) (a : Nat) : Prop :=
  ∃ d, regDomain a = some d ∧ s.busReaches d = true ∧ s.domain d ≠ 0 ∧ s.domain d ≠ 3

/-- The registers of `t` are those of `s`, and so is host memory. -/
def SameStores (s t : State) : Prop := (∀ a, t.reg a = s.reg a) ∧ ∀ a, t.hostByte a = s.hostByte a

/-- Performs `n` steps, as long as each goes on. -/
def runSteps (n : Nat) (s : State) : Host.Outcome State Fault Refusal :=
  match n with
  | 0 => .next s
  | k + 1 =>
    match step s with
    | .next t => runSteps k t
    | o => o

end Sys2Proof.Machine

/-! ### The queue, the stores and the tick -/

/-- One step performs the command at the front of the queue, with the queue's rest (the model's own queue, log entry 10). -/
def Obligations.StepPerformsFrontCommand : Prop :=
  ∀ (s : State) (c : Instr) (rest : List Instr), s.pending = c :: rest → step s = exec c { s with pending := rest }

/-- No command, in any state, ends in a fault or a refusal. -/
def Obligations.EveryStepGoesOn : Prop := ∀ s : State, GoesOn s

/-- On an empty queue the block idles (log entry 46), and no command puts another into the queue: after as many steps as commands
wait, the queue is empty, and stays so (the model's own queue, log entry 10). -/
def Obligations.QueueRunsEmpty : Prop :=
  (∀ s : State, s.pending = [] → step s = .next s) ∧
  ∀ (s : State) (n : Nat), s.pending.length ≤ n → ∃ t, runSteps n s = .next t ∧ t.pending = []

/-- At reset the register file and host memory stand in canonical form (the model's own form of its stores, log entry 2). -/
def Obligations.ResetIsCanonical : Prop := State.reset.canonical = true

/-- Every step keeps the register file and host memory in canonical form, in every state (the model's own form of its stores, log
entry 2). -/
def Obligations.EveryStepKeepsStoresCanonical : Prop :=
  ∀ s t : State, s.canonical = true → step s = .next t → t.canonical = true

/-- Time passes at a boundary and nowhere else: TICK_BOUNDARY passes one tick's length of time while the device is powered, and
every other command none (R33, R34; that commands take no time of their own is the model's, log entry 46). -/
def Obligations.TimePassesAtBoundariesOnly : Prop :=
  ∀ (c : Instr) (s t : State), exec c s = .next t →
    t.elapsed = s.elapsed + (if c.isBoundary ∧ s.pwr.off = false then 1 else 0)

/-- The frame of host memory: only a reply's write into the ring, a DMA burst, a completed descriptor's status, the replies written
before STANDBY, and a boundary may change a byte of it. -/
def Obligations.HostMemoryFrame : Prop :=
  ∀ (c : Instr) (s t : State), c.writesHost = false → exec c s = .next t → ∀ a, t.hostByte a = s.hostByte a

/-- R8: a tick number wraps every 2^32 ticks, and tick `a` is later than tick `b` exactly where their signed 32-bit difference is
positive; a difference of 2^31 counts as past. -/
def Obligations.TickOrderIsSignedDifference : Prop :=
  (∀ a b : Nat, tickAfter a b = true ↔ 0 < signed 32 (tickSub a b)) ∧
  (∀ a b : Nat, a < 2 ^ 32 → b < 2 ^ 32 → a ≠ b → tickSub a b ≠ 2 ^ 31 → tickAfter a b = !tickAfter b a) ∧
  (∀ b n : Nat, 0 < n → n < 2 ^ 31 → tickAfter (tickAdd b n) b = true) ∧
  (∀ b : Nat, tickAfter (tickAdd b (2 ^ 31)) b = false) ∧
  ∀ b n : Nat, b < 2 ^ 32 → tickAdd b (2 ^ 32) = b ∧ tickAdd b n < 2 ^ 32

/-- R34's count: TICKNO, FRAME_TICK and SFN as one boundary moves them on. The first counted boundary after RUN opens the tick that
TICKNO holds (R36). -/
def Obligations.BoundaryCountsTickAndFrame : Prop :=
  ∀ s : State, s.canonical = true → s.tickLoad = none → s.tick.first = false → s.frameTick < 38400 →
    s.fld F.TCK_FRAME_SFN < 1024 →
    s.countTick.tickno = (s.tickno + 1) % 2 ^ 32 ∧
    s.countTick.frameTick = (s.frameTick + 1) % 38400 ∧
    s.countTick.fld F.TCK_FRAME_SFN = (if s.frameTick = 38399 then (s.fld F.TCK_FRAME_SFN + 1) % 1024 else s.fld F.TCK_FRAME_SFN) ∧
    s.countTick.elapsed = s.elapsed

/-- A field written reads back, and no other register changes: the law on which every register statement rests. -/
def Obligations.FieldWriteChangesItsFieldOnly : Prop :=
  ∀ (s : State) (f : Fld) (v : Nat), s.canonical = true → f.lo + f.width ≤ 32 →
    (s.setFld f v).fld f = v % 2 ^ f.width ∧
    (∀ g : Fld, g.addr = f.addr → (g.lo + g.width ≤ f.lo ∨ (f.lo + f.width ≤ g.lo ∧ g.lo + g.width ≤ 32)) →
      (s.setFld f v).fld g = s.fld g) ∧
    (∀ a, a ≠ f.addr → (s.setFld f v).reg a = s.reg a) ∧ (s.setFld f v).canonical = true

/-- Counters saturate at the largest value of their field. -/
def Obligations.CountersSaturate : Prop :=
  ∀ (s : State) (f : Fld) (n : Nat), s.canonical = true → f.lo + f.width ≤ 32 →
    (s.addFld f n).fld f = min (s.fld f + n) (2 ^ f.width - 1) ∧ s.fld f ≤ (s.addFld f n).fld f ∧
    ∀ a, a ≠ f.addr → (s.addFld f n).reg a = s.reg a

/-- R44's host side: a host write to a shadowed register reaches the shadow copy only. The active words of all registers stay, but
for the count and the address of an ignored FW write (R87), and no commit is armed by it. -/
def Obligations.ShadowedWriteLeavesActiveCopy : Prop :=
  ∀ (s : State) (d : RegDesc) (a v : Nat), d.shadowed = true →
    (∀ b, b ≠ F.MBX_FW_IGN_COUNT.addr → b ≠ F.MBX_FW_IGN_ADDR_ADDR.addr → (s.storeBits d a v).reg b = s.reg b) ∧
    (s.storeBits d a v).armed = s.armed

/-- R617's reads: a read of a shadowed register returns the active copy, or, while SHADOW_READ is 1, the shadow copy of the fields
that are written through it; a register that has no shadow reads its active copy whatever SHADOW_READ holds. The read changes
nothing. Registers whose read has an effect of its own, and the result window, stand outside this statement. -/
def Obligations.ShadowReadReturnsShadowCopy : Prop :=
  ∀ (s : State) (a : Nat) (d : RegDesc), s.reaches a → mapped a = true → findReg a = some d → s.effectRead a = none →
    inRange 0x91000 0x92010 a = false →
    s.readWord a = ((if d.shadowed = true ∧ s.flag F.MAP_CTRL_SHADOW_READ = true then
      (s.shadowReg a &&& shadowMask a) ||| (s.reg a &&& ~~~(shadowMask a)) else s.reg a).toNat, true, s)

/-- R614: a read of an unmapped address returns 0, a write there has no effect, and both are logged as kind 0, which counts the access and
keeps its address; the log changes two registers and nothing else. -/
def Obligations.UnmappedAccessReadsZero : Prop :=
  ∀ (s : State) (a v : Nat) (e : RegEnv), mapped a = false →
    (∀ d, regDomain a = some d → s.busReaches d = true ∧ s.domain d ≠ 0 ∧ s.domain d ≠ 3) →
    let t := s.logAccess 0 a
    s.readWord a = (0, false, t) ∧ s.writeWord a v e = t ∧ { t with regs := s.regs } = s ∧
    (∀ b, b ≠ F.MAP_ERR_COUNT_COUNT.addr → b ≠ F.MAP_ERR_ADDR_KIND.addr → t.reg b = s.reg b) ∧
    (s.canonical = true → s.domain 1 ≠ 0 → t.fld F.MAP_ERR_ADDR_KIND = 0 ∧
      t.fld F.MAP_ERR_ADDR_ADDR = a % 2 ^ F.MAP_ERR_ADDR_ADDR.width ∧
      t.fld F.MAP_ERR_COUNT_COUNT = min (s.fld F.MAP_ERR_COUNT_COUNT + 1) (2 ^ F.MAP_ERR_COUNT_COUNT.width - 1))

/-- What arming a command's commit does: one commit more, for the tick the command took, or for the next where that tick has opened,
in its place by acceptance; no active register, host byte or slot changes before that tick, and where no later command's commit is
armed, the fields the command writes stand in their shadow copies (R44, R48). -/
def Obligations.ArmingChangesNothingYet : Prop :=
  ∀ (s : State) (c : Cmd) (us : List CommitUnit) (ch : List Change) (b : List (Nat × Nat)) (st : Status) (part : Bool)
    (pl : List Byte) (ps : List Nat),
    (let t := s.armCmd c us ch b st part pl
     SameStores s t ∧ t.privi = s.privi ∧ ∃ k, t.armed = insertCommit s.armed k ∧ (∀ x, x ∈ t.armed ↔ x = k ∨ x ∈ s.armed) ∧
       k.tick = s.commitTick c.actTick ∧ k.seq = c.seq ∧ k.units = us ∧ k.changes = ch ∧ k.bulk = b ∧ k.owner = .command ∧
       k.results = [(c.tag, ⟨st, part, pl, k.tick⟩)] ∧ k.late = []) ∧
    (let t := s.armLate c us ch b part pl ps
     SameStores s t ∧ t.privi = s.privi ∧ ∃ k, t.armed = insertCommit s.armed k ∧ (∀ x, x ∈ t.armed ↔ x = k ∨ x ∈ s.armed) ∧
       k.tick = s.commitTick c.actTick ∧ k.seq = c.seq ∧ k.units = us ∧ k.changes = ch ∧ k.bulk = b ∧ k.owner = .command ∧
       k.results = [(c.tag, ⟨.ok, part, pl, k.tick⟩)] ∧ k.late = [(c.tag, listMask 64 ps)]) ∧
    (∀ (k : Commit) (a m v : Nat), k.changes = [.reg a m v] → (∀ x ∈ s.armed, x.seq ≤ k.seq) →
      swf (fun b => s.reg b) s.shadow = true →
      (s.armCommit k).shadowReg a = maskWord (s.shadowReg a).toNat m v)

/-- A command that has ended leaves its status, payload and tick in its slot; the first end stands, and no other slot changes. -/
def Obligations.FirstEndStandsInSlot : Prop :=
  ∀ (s : State) (tag : Nat) (x : Slot) (o : Outcome), s.slotOf tag = some x → (x.st = .pending ∨ x.st = .releasing) →
    (x.outcome = none → (s.finish tag o).slotOf tag = some { x with outcome := some o }) ∧
    (x.outcome ≠ none → s.finish tag o = s) ∧
    ∀ j, j ≠ tag → (s.finish tag o).slotOf j = s.slotOf j

/-! ### Reset, start-up and power -/

/-- DEVICE_RESET: with SAFE_N high, REFCLK present and the memory test passed, every register reads its reset word but SEC_ARC and
SEC_SLOTS, which show fuses; the queue and host memory stay. PWR_RESET.KEY resets every block alike and puts back the units that
stay retired (R17, R491). POWER_OFF leaves the device off, with every domain off (R478). -/
def Obligations.ResetsRestoreResetWords : Prop :=
  ∀ s : State, s.canonical = true →
    (s.pwr.refPresent = true → s.pwr.safePin = false → ∀ f, ∃ t, exec (.deviceReset f true) s = .next t ∧ t.pwr.off = false ∧
      t.armed = [] ∧ t.privi.slots = [] ∧ t.fault.retired = [] ∧ t.hostMem = s.hostMem ∧ t.pending = s.pending ∧
      ∀ a, a ≠ F.SEC_ARC_COUNT.addr → a ≠ 0xA0008 → (regDomain a).isSome = true → t.reg a = resetWord a) ∧
    (s.reaches 0x10008 → s.pwr.off = false → exec (.pwrResetKey true) s =
      .next ({ (s.allReset.reapply s.keptUnits).resetLinks with fault := { (s.allReset.reapply s.keptUnits).resetLinks.fault with
        lostLogged := s.fault.lostLogged, wakeRetired := s.fault.wakeRetired } }).tripPins) ∧
    (∃ t, exec .powerOff s = .next t ∧ t.pwr.off = true ∧ t.armed = [] ∧ t.privi.slots = [] ∧ t.pwr.frontLow = true ∧
      ∀ d, d < 16 → t.domain d = 0)

/-- Start-up (R445, R483, R491-R493): the warm boot leaves STANDBY with PD_AON's failure records kept, the fallback oscillator's
count starts PD_CTL, firmware's measurement of REFCLK selects the frequency or reports its absence, a TSYNC timeout starts Crocus
without a divider reset, and the end of bring-up makes the device READY in ACTIVE. -/
def Obligations.StartUpRowsComplete : Prop :=
  (∀ s : State, s.canonical = true → s.reaches 0x10004 → s.pwrState = stStandby → s.pwr.off = false →
    ∃ u : State, exec (.pwrCtrlWake true) s =
        .next (u.tripPins.beginGroups ⟨stBoot, stActive, none, false, [], [], 0, false⟩ [[.wake 1]]) ∧
      u.pwr.fallback = true ∧ u.reg F.PWR_FAILED_MASK.addr = s.reg F.PWR_FAILED_MASK.addr ∧
      u.reg F.PWR_BROWNOUT_MASK.addr = s.reg F.PWR_BROWNOUT_MASK.addr ∧ u.hostMem = s.hostMem) ∧
  (∀ s : State, s.pwr.off = false → s.pwr.fallback = false →
    exec .fallbackStable s = .next (((({ s with pwr := { s.pwr with fallback := true }, clk := { s.clk with deferredTrip := [] } } :
      State).setFld F.CLK_STATUS_FALLBACK_OK 1).logTrips s.clk.deferredTrip).beginGroups
        ⟨stBoot, stActive, none, false, [], [], 0, false⟩ [[.wake 1]])) ∧
  (∀ (s : State) (khz : Nat), s.pwrState = stBoot → s.fld F.PWR_STATUS_PHASE = 2 → s.domain 2 = 0 → s.pwr.trans = none →
    s.flag F.PWR_STATUS_FAILED = false →
    ((nearFreq 491520 khz || nearFreq 122880 khz) = true →
      exec (.refclkMeasure khz) s =
        .next (((s.setFld F.PWR_STATUS_NO_REFCLK 0).setFld F.CLK_CFG_REF_SEL (b2n (nearFreq 122880 khz))).beginGroups
          ⟨stBoot, stActive, none, false, [], [], 0, false⟩ [[.wake 2], s.outerDomains.map .wake])) ∧
    ((nearFreq 491520 khz || nearFreq 122880 khz) = false → s.flag F.PWR_STATUS_NO_REFCLK = false →
      exec (.refclkMeasure khz) s = .next ((s.setFld F.PWR_STATUS_NO_REFCLK 1).raise 0x2005 khz srcOther sevError))) ∧
  (∀ s : State, s.pwrState = stBoot → s.fld F.PWR_STATUS_PHASE = 3 → s.flag F.CLK_SYNC_DONE = false →
    s.flag F.PWR_STATUS_NO_TSYNC = false →
    exec .bootTsyncTimeout s = .next (((s.setFld F.PWR_STATUS_NO_TSYNC 1).raiseFree 0x0013 srcOther sevWarning).startTick)) ∧
  (∀ s : State, s.pwrState = stBoot → s.fld F.PWR_STATUS_PHASE = 3 → s.flag F.CLK_SYNC_DONE = true →
    let u := ((s.startTick.setFld F.PWR_STATUS_PHASE 4).setFld F.PWR_STATUS_STATE stActive).setFld F.MBX_STATUS_READY 1
    let v := u.setFld F.PWR_CHANGE_TICK_TICK u.tickno
    (v.fault.lostLogged = false → exec .bringupComplete s = .next (v.raise 0x0010 stActive srcOther sevInfo).refreshCal) ∧
    (v.fault.lostLogged = true → exec .bringupComplete s = .next ((({ v.raiseFree 0x0005 srcOther sevCritical with
      fault := { v.fault with lostLogged := false } } : State).raise 0x0010 stActive srcOther sevInfo).refreshCal)))

/-- Power requests and steps (R484, R485, R487-R489, R494, R495): a request acts at once in a stable state or waits, taking the
place of an older one; a state read answers; the steps of a transition end, and its wake steps pass, fail and retry; a low-power domain
browns out with its contents lost, and restarts. -/
def Obligations.PowerRowsComplete : Prop :=
  (∀ (s : State) (tag : Nat) (c : Cmd) (u : State), Starts s 0x0200 tag c u →
    let r : PowerRequest := ⟨c.tag, c.op, leAt c.payload 1 1 == 1, c.via == .inband⟩
    (u.pwr.trans = none → r.target = u.pwrState →
      exec (.pwrSetState tag) s = .next (u.finishNow c.tag .ok (stateReply r.target 0 0))) ∧
    (u.pwr.trans = none → r.target ≠ u.pwrState → exec (.pwrSetState tag) s = .next (u.startRequest r)) ∧
    (∀ t, u.pwr.trans = some t → u.pwr.request = none → exec (.pwrSetState tag) s =
      .next (({ u with pwr := { u.pwr with request := some r } }).setFld F.PWR_STATUS_PENDING r.target)) ∧
    (∀ t old, u.pwr.trans = some t → u.pwr.request = some old → exec (.pwrSetState tag) s =
      let v := u.finishNow old.tag .superseded []
      .next (({ v with pwr := { v.pwr with request := some r } }).setFld F.PWR_STATUS_PENDING r.target))) ∧
  (∀ (s : State) (tag : Nat) (c : Cmd) (u : State), Starts s 0x0201 tag c u →
    exec (.pwrGetState tag) s = .next (u.finishNow c.tag .ok
      (leBytes 1 u.pwrState ++ leBytes 1 (noneCode (u.fld F.PWR_STATUS_TARGET)) ++
        leBytes 1 (noneCode (u.fld F.PWR_STATUS_PENDING)) ++
        leBytes 1 (u.fld F.PWR_STATUS_FAILED + 2 * u.fld F.PWR_STATUS_CONTEXT_LOST + 4 * u.fld F.PWR_STATUS_NO_TSYNC +
          8 * u.fld F.PWR_STATUS_NO_REFCLK) ++
        leBytes 2 (u.fld F.PWR_FAILED_MASK) ++ leBytes 2 (u.fld F.PWR_BROWNOUT_MASK) ++
        leBytes 4 (u.fld F.PWR_CHANGE_TICK_TICK) ++ leBytes 4 0))) ∧
  (∀ (s : State) (d : Fin 13) (t : Transition) (ok : BridgeFound) (us : Nat), s.resetWaking d.val = none → s.pwr.trans = some t →
    t.begun = true → (t.steps.headD []).contains (.wake d.val) = true → s.wakePasses t d.val = true →
    (t.source ≠ stBoot ∨ d.val < 4 ∨ 8 ≤ d.val) →
    exec (.powerStepComplete (some d) ok us) s = .next (s.stepDone t (fun x => x == .wake d.val) [d.val] us)) ∧
  (∀ (s : State) (d : Fin 13) (t : Transition) (found : BridgeFound) (us : Nat), s.resetWaking d.val = none →
    s.pwr.trans = some t → t.begun = true → (t.steps.headD []).contains (.wake d.val) = true → s.wakePasses t d.val = true →
    t.source = stBoot → 4 ≤ d.val → d.val < 8 → exec (.powerStepComplete (some d) found us) s =
      .next (if repairable found then
        (s.bridgeRepair (d.val - 4) found).stepDone t (fun x => x == .wake d.val) [d.val] us
      else (s.bridgeFails (d.val - 4)).stepDone t (fun x => x == .wake d.val || x == .wake (d.val + 4)) [d.val] us)) ∧
  (∀ (s : State) (d : Fin 13) (t : Transition) (clock : Bool) (us : Nat), s.resetWaking d.val = none → s.pwr.trans = some t →
    t.begun = true → (t.steps.headD []).contains (.wake d.val) = true → s.pwr.retryOff.contains d.val = false →
    s.pausedBySafe = false →
    (s.pwr.failedOnce.contains d.val = false → exec (.wakeStepFail d clock us) s =
      .next { s.domainOff d.val with pwr := { (s.domainOff d.val).pwr with
        failedOnce := insertNat (s.domainOff d.val).pwr.failedOnce d.val
        retryOff := insertNat (s.domainOff d.val).pwr.retryOff d.val } }) ∧
    (s.pwr.failedOnce.contains d.val = true → exec (.wakeStepFail d clock us) s =
      .next (s.wakeAbort t d.val (if clock then 2 else 1) us))) ∧
  (∀ (s : State) (d : Fin 13) (t : Transition), s.resetWaking d.val = none → s.pwr.trans = some t →
    s.pwr.retryOff.contains d.val = true → exec (.wakeStepRetry d) s =
      .next (({ s with pwr := { s.pwr with retryOff := s.pwr.retryOff.filter (fun x => x != d.val) } }).beginStep t.dropMd
        (t.source == stBoot) (.wake d.val))) ∧
  (∀ (s : State) (t : Transition) (found : BridgeFound) (us : Nat), s.pwr.trans = some t → t.begun = true →
    (t.steps.headD [] = [.offAll] → exec (.powerStepComplete none found us) s = .next (s.enterStandby t us)) ∧
    (∀ x, t.steps.headD [] = [x] → x ≠ .offAll → (∀ d, x ≠ .wake d) → (s.stepWaits = false ∨ t.steps.length ≠ 1) →
      exec (.powerStepComplete none found us) s = .next (s.stepDone t (fun y => y == x) [] us))) ∧
  (∀ (s : State) (d : Fin 13), s.lowPower d.val = true →
    let a := s.setDomain d.val 0
    let b := (a.setFld F.PWR_BROWNOUT_MASK (putBits (a.fld F.PWR_BROWNOUT_MASK) d.val 1 1)).addFld F.PWR_BROWNOUT_COUNT 1
    let u : State := { b with pwr := { b.pwr with brownOff := insertNat b.pwr.brownOff d.val } }
    let ends := fun (v : State) => v.raise 0x0012 d.val (srcDomain d.val) sevError
    (d.val = 12 → exec (.brownout d) s = .next (ends (u.recLost false))) ∧
    (d.val = 2 → exec (.brownout d) s =
      .next (ends ((u.wipeFab.reapply u.fault.retired).setFld F.PWR_STATUS_CONTEXT_LOST 1).refreshHolds)) ∧
    (d.val = 1 → exec (.brownout d) s = .next (ends u.brownCtl)) ∧
    (d.val ∉ [1, 2, 12] → exec (.brownout d) s = .next (ends u.refreshHolds))) ∧
  (∀ (s : State) (d : Fin 13), s.pwr.brownOff.contains d.val = true →
    let u : State := { s with pwr := { s.pwr with brownOff := s.pwr.brownOff.filter (fun x => x != d.val) } }
    let w := (u.setDomain 1 2).romBoot
    (d.val = 1 → exec (.brownoutRestart d) s = .next (if w.sec.recovery then w
      else ((w.setFld F.PWR_STATUS_PHASE 4).setFld F.MBX_STATUS_READY 1).refreshReplace)) ∧
    (d.val = 2 → exec (.brownoutRestart d) s = .next (u.setDomain 2 3)) ∧
    (d.val ∉ [1, 2] → exec (.brownoutRestart d) s = .next u))

/-! ### Crocus, the tick and events -/

/-- Crocus (R12, R34, R36, R37, R44-R49, R57): RUN starts the count where the fabric loop is locked and reports a refusal where it is
not, and is stored where Crocus is not STOPPED; ALIGN_ARM, PEAK_CLR, the host commit's ARM and CANCEL, and a TSYNC edge act as Table 02-1 says; a read of TCK_EVSEQ_LO latches
the upper half; a boundary only passes time while Crocus does not count, and runs the tick while it does. -/
def Obligations.CrocusRowsComplete : Prop :=
  (∀ s : State, s.reaches 0x4000C → s.tickMode = .stopped →
    (s.fld (F.CLK_LOOP_STATUS_STATE 4) = 3 → ∃ t, exec (.tckCtrlRun true) s = .next t ∧ t.tick.first = true ∧
      t = { (s.setFld F.TCK_CTRL_RUN 1).setTickMode .free with tick := { s.tick with first := true } }) ∧
    (s.fld (F.CLK_LOOP_STATUS_STATE 4) ≠ 3 →
      exec (.tckCtrlRun true) s = .next ((s.setFld F.TCK_CTRL_RUN 0).raiseFree 0x1001 srcOther sevError))) ∧
  (∀ (s : State) (b : Bool), s.reaches 0x4000C → s.tickMode ≠ .stopped → b = true ∨ s.unlocked 3 = true →
    exec (.tckCtrlRun b) s = .next (s.setFld F.TCK_CTRL_RUN 1)) ∧
  (∀ s : State, s.reaches 0x4000C → s.unlocked 3 = false → s.fld F.TCK_CTRL_RUN = 0 →
    exec (.tckCtrlRun false) s = .next ((s.addFld F.MBX_FW_IGN_COUNT 1).setFld F.MBX_FW_IGN_ADDR_ADDR 0x4000C)) ∧
  (∀ s : State, s.reaches 0x4000C → exec .tckCtrlAlignArm s = .next (s.setFld F.TCK_CTRL_ALIGN_ARM 1)) ∧
  (∀ s : State, s.canonical = true → s.reaches 0x4000C → ∃ t, exec .tckCtrlPeakClr s = .next t ∧
    (∀ b, b < 16 → t.fld (F.TCK_LOAD_PEAK b) = 0 ∧ t.fld (F.QFE_LOAD_PEAK b) = 0 ∧ t.fld (F.QFE_TX_LOAD_PEAK b) = 0 ∧
      t.fld (F.LE_CYCLES_PEAK b) = 0) ∧
    t.privi = s.privi ∧ t.armed = s.armed) ∧
  (∀ s : State, s.reaches 0x40024 → s.armed.all (fun k => decide (k.owner ≠ .host)) = true →
    tickBefore (s.fld F.TCK_COMMIT_TICK_TICK) (tickAdd s.tickno 2) = false →
    s.hostUnits.any (s.unitBusy (s.fld F.TCK_COMMIT_TICK_TICK)) = false →
    ∃ t, exec .tckCommitArm s = .next t ∧
      t.armed = insertCommit s.armed ⟨s.fld F.TCK_COMMIT_TICK_TICK, s.privi.nextSeq, .host, s.hostUnits,
        s.hostDirty.map (fun a => Change.reg a (shadowMask a).toNat (s.shadowReg a).toNat), [], [], []⟩ ∧
      t.privi.nextSeq = s.privi.nextSeq + 1 ∧ t.hostDirty = s.hostDirty ∧
      ∀ a, a ≠ F.TCK_COMMIT_STAT_RESULT.addr → t.reg a = s.reg a) ∧
  (∀ (s : State) (k : Commit), s.reaches 0x40024 → s.armed.find? (fun k => k.owner = .host) = some k →
    tickAfter k.tick (tickAdd s.tickno 1) = true → ∃ t, exec .tckCommitCancel s = .next t ∧
      t.armed = s.armed.filter (fun x => x.owner != .host) ∧ t.shadow = s.shadow ∧
      ∀ a, a ≠ F.TCK_COMMIT_STAT_RESULT.addr → t.reg a = s.reg a) ∧
  (∀ s : State, s.reaches 0x40040 → exec .tckEvseqLoRead s =
    .next ((s.setFld F.TCK_EVSEQ_HI_VALUE (s.ev.evseq / 2 ^ 32)).emit (.readData 0x40040 (s.ev.evseq % 2 ^ 32)))) ∧
  (∀ (s : State) (n : Fin 128), s.pwr.off = false → s.pwr.refPresent = true → s.counting = true → s.flag F.CLK_SYNC_ARM = false →
    s.bootEdge = false → n.val % (if s.fld F.CLK_CFG_REF_SEL = 0 then 128 else 32) = s.syncOffset →
    exec (.tsyncEdge n) s = .next (s.tsyncCount true).powerPoll) ∧
  (∀ (s : State) (x : TickIn), s.pwr.off = false → s.counting = false →
    exec (.tickBoundary x) s =
      .next ({ s with outbox := [], privi := { s.privi with takenNow := 0 } }).newTick.passTime.powerPoll.countUnlock) ∧
  (∀ (s : State) (x : TickIn), s.pwr.off = false → s.counting = true → s.replaying = false →
    exec (.tickBoundary x) s = .next (({ s with outbox := [], privi := { s.privi with takenNow := 0 } }).liveTick x))

/-- Events (R53, R54, R532-R534, R536, R537): the arbiter gives the oldest event of a source the next EVSEQ, Lavender records and
counts it, a due code is pushed into the notify queue, reads of the queue and of the window advance, and an uncorrectable error is
raised at its place, in a running engine's cluster as that engine's fault. -/
def Obligations.EventRowsComplete : Prop :=
  (∀ (s : State) (e : Event), s.nextGrant = some e → s.domain 2 = 1 → s.ev.queue.length < 256 →
    ∃ t, exec (.eventArbitration e.source) s = .next t ∧ t.ev.evseq = s.ev.evseq + 1 ∧ t.ev.queue = s.ev.queue ++ [(e, s.ev.evseq)] ∧
      t.ev.waiting = dropEvent e.source s.ev.waiting ∧ t.ev.granted = e.source ∧ t.ev.sram = s.ev.sram ∧
      e ∈ headEvents s.ev.waiting [] ∧ some e.tick = oldestTick (headEvents s.ev.waiting []) ∧
      ∀ x ∈ headEvents s.ev.waiting [], x.tick = e.tick → turnOf s.ev.granted e.source ≤ turnOf s.ev.granted x.source) ∧
  (∀ (s : State) (e : Event) (n : Nat) (r : List (Event × Nat)), s.ev.queue = (e, n) :: r → s.ev.failDue = false →
    exec .eventRecord s = .next ((({ s with ev := { s.ev with queue := r } }).logEvent e n).countFault e)) ∧
  (∀ (s : State) (e : Event) (n : Nat), s.ev.queue.find? (fun x => x.1.code == 0xF001) = some (e, n) → s.ev.failDue = true →
    exec .eventRecord s = .next ((({ s with ev := { s.ev with queue := dropSeq n s.ev.queue, failDue := false } }).logEvent e
      n).countFault e)) ∧
  (∀ (s : State) (code : Nat), (s.codeCfg code).due = true → (s.codeCfg code).pushedAt = none → s.ev.notify.length < 64 →
    ∃ t, exec (.notifyPush code) s = .next t ∧ t.ev.notify = s.ev.notify ++ [code] ∧ (t.codeCfg code).due = false) ∧
  (∀ (s : State) (src : Nat), exec (.eccUncorrectableError (.owner src)) s = .next (s.raiseFree 0xF002 src sevError)) ∧
  (∀ (s : State) (e : Fin 16), s.engRun e.val = .running → exec (.eccUncorrectableError (.cluster e)) s =
    .next ((((s.addFld F.CLM_ECC_UNCORR_COUNT 1).raiseFree 0xB006 (srcBlock 13) sevError)).engFault e.val 7)) ∧
  (∀ (s : State) (c : Nat) (r : List Nat), s.reaches 0x50018 → s.ev.notify = c :: r → exec .evrNotifyRead s =
    .next (({ s with ev := { s.ev with notify := r } }).emit (.readData 0x50018 (2 ^ 31 + (r.length + 1) * 2 ^ 16 + c)))) ∧
  (∀ s : State, s.canonical = true → s.reaches 0x50044 → ∃ t v, exec .evrWinDataRead s = .next t ∧
    t.outbox = s.outbox ++ [.readData 0x50044 v] ∧ t.fld F.EVR_WIN_ADDR_INDEX = (s.fld F.EVR_WIN_ADDR_INDEX + 1) % 2 ^ 14 ∧
    t.ev = s.ev)

/-! ### Privi: transports, results and the control pairs -/

/-- The transports (R62-R68, R74, R89, R90): a doorbell stores the producer's index, frames and packets are taken in order, a
completed command's slot becomes ready with the next generation, replies are written while the ring has room, results are read and
fetched, and ring indices reset while PCIE_EN is 0. -/
def Obligations.TransportRowsComplete : Prop :=
  (∀ (s : State) (i : Fin 65536), s.canonical = true → s.reaches 0x90014 →
    (i.val + 2 ^ 16 - s.fld F.MBX_CMD_CONS_INDEX) % 2 ^ 16 ≤ ringSlots (s.fld F.MBX_CMD_SIZE_LOG2) →
    ∃ t, exec (.pcieDoorbell i) s = .next t ∧ t.fld F.MBX_CMD_PROD_INDEX = i.val ∧ t.privi.ringError = false ∧
      t.privi.slots = s.privi.slots ∧ t.privi.accepted = s.privi.accepted) ∧
  (∀ (s : State) (bs : List Byte), s.ctlOn = true → s.flag F.MBX_CTRL_SPI_EN = true → frameComplete bs = true →
    s.privi.spiCmds.length < 2 → ∃ t, exec (.spiCommand bs) s = .next t ∧ t.privi.spiCmds = s.privi.spiCmds ++ [bs] ∧
      t.privi.slots = s.privi.slots ∧ t.privi.accepted = s.privi.accepted) ∧
  (∀ (s : State) (v : Transport), (∀ w, w ≠ v → s.viaReady w = false) ∨ v = viaAfter s.privi.served → s.viaTurn v = true) ∧
  (∀ (s : State) (bs : List Byte) (r : List (List Byte)), s.priviTakes = true → s.viaTurn .spi = true →
    s.privi.spiCmds = bs :: r → s.privi.spiReplies.length < 8 → s.packetWaits bs = false →
    exec (.packetAcceptance .spi none) s =
      .next ((s.putPrivi { s.privi with spiCmds := r }).acceptPacket .spi ReplyTo.none bs)) ∧
  (∀ (s : State) (slot : List Byte), s.priviTakes = true → s.viaTurn .pcie = true →
    s.ringReady = true → s.packetWaits (slotPacket slot) = false →
    exec (.packetAcceptance .pcie (some slot)) s =
      .next ((s.setFld F.MBX_CMD_CONS_INDEX ((s.fld F.MBX_CMD_CONS_INDEX + 1) % 2 ^ 16)).acceptPacket .pcie ReplyTo.none
        (slotPacket slot))) ∧
  (∀ (s : State) (bs : List Byte) (dest : ReplyTo) (r : List (List Byte × ReplyTo)), s.priviTakes = true →
    s.viaTurn .inband = true → s.privi.inbPackets = (bs, dest) :: r → leAt bs 0 1 ≠ 0x52 → s.packetWaits bs = false →
    exec (.packetAcceptance .inband none) s =
      .next ((s.putPrivi { s.privi with inbPackets := r }).acceptPacket .inband dest bs)) ∧
  (∀ (s : State) (tag : Nat) (x : Slot) (o : Outcome), s.slotOf tag = some x → x.outcome = some o → x.st = .pending →
    x.ackReq = false → exec (.commandComplete tag) s =
      .next ((s.setFld F.MBX_RES_GEN_GEN ((s.fld F.MBX_RES_GEN_GEN + 1) % 2 ^ 16)).putPrivi { s.privi with
        slots := putSlot s.privi.slots tag (some { x with
          st := .ready, generation := (s.fld F.MBX_RES_GEN_GEN + 1) % 2 ^ 16, degraded := s.degraded }) })) ∧
  (∀ (s : State) (r : List Byte) (rest : List (List Byte)), s.canonical = true → s.privi.pcieReplies = r :: rest →
    s.replyRingFull = false → ∃ t, exec (.replyRingWrite true) s = .next t ∧ t.privi.pcieReplies = rest ∧
      t.hostMem = (s.hostWrite (s.replySlot (s.fld F.MBX_RPL_PROD_INDEX)) r).hostMem ∧
      t.fld F.MBX_RPL_PROD_INDEX = (s.fld F.MBX_RPL_PROD_INDEX + 1) % 2 ^ 16) ∧
  (∀ (s : State) (bs : List Byte), s.ctlOn = true → s.flag F.MBX_CTRL_SPI_EN = true → readRequestOk bs = true →
    (s.inTakeover = false → exec (.resultRead (some bs)) s =
      .next ((s.readResult (leAt bs 2 2)).2.sendReply .spi ReplyTo.none (s.readResult (leAt bs 2 2)).1)) ∧
    (s.inTakeover = true → exec (.resultRead (some bs)) s =
      .next (s.putPrivi { s.privi with spiReads := s.privi.spiReads ++ [bs] }))) ∧
  (∀ (s : State) (bs : List Byte) (dest : ReplyTo) (r : List (List Byte × ReplyTo)), s.inTakeover = false →
    s.privi.inbPackets = (bs, dest) :: r → leAt bs 0 1 = 0x52 → readRequestOk bs = true →
    let u := s.putPrivi { s.privi with inbPackets := r }
    exec (.resultRead none) s =
      .next ((u.readResult (leAt bs 2 2)).2.sendReply .inband dest (u.readResult (leAt bs 2 2)).1)) ∧
  (∀ (s : State) (r : List Byte) (rest : List (List Byte)), s.privi.spiReplies = r :: rest →
    exec .spiFetch s = .next ((s.putPrivi { s.privi with
      spiReplies := rest ++ s.privi.spiWait.take 1, spiWait := s.privi.spiWait.drop 1 }).emit (.spi r))) ∧
  (∀ s : State, s.privi.spiReplies = [] → exec .spiFetch s = .next (s.emit (.spi [0]))) ∧
  (∀ s : State, exec .spiStatus s = .next (s.emit (.spi s.spiStatus))) ∧
  (∀ s : State, s.canonical = true → s.reaches 0x90000 → s.flag F.MBX_CTRL_PCIE_EN = false →
    ∃ t, exec .mbxRingReset s = .next t ∧ t.fld F.MBX_CMD_PROD_INDEX = 0 ∧ t.fld F.MBX_CMD_CONS_INDEX = 0 ∧
      t.fld F.MBX_RPL_PROD_INDEX = 0 ∧ t.fld F.MBX_RPL_CONS_INDEX = 0 ∧ t.privi.ringError = false ∧ t.hostMem = s.hostMem) ∧
  (∀ (s : State) (tag : Fin 65536), s.reaches 0x90040 → s.unlocked 3 = false → s.flag F.MBX_RES_STAT_BUSY = false →
    ∃ t, exec (.mbxResTagWrite tag) s = .next t ∧ t.privi.fetchTag = some tag.val ∧ t.privi.slots = s.privi.slots) ∧
  (∀ (s : State) (tag : Nat), s.privi.fetchTag = some tag → s.inTakeover = false →
    ∃ t, exec .mbxResFetchComplete s = .next t ∧
    t.privi.fetchTag = none ∧ t.privi.resWin = (s.readResult tag).1)

/-- Privi's own commands (R76, R77, R80-R83): NOP, identity and health answer OK at once with their payloads, an acknowledgement
releases the slots it names, a close decides its group, and a group left open too long ends in TIMEOUT. -/
def Obligations.MailboxCommandsComplete : Prop :=
  (∀ (s : State) (tag : Nat) (c : Cmd) (u : State), Starts s 0x0100 tag c u → c.atomic = false →
    exec (.sysNop tag) s = .next (u.finishNow c.tag .ok [])) ∧
  (∀ (s : State) (tag : Nat) (c : Cmd) (u : State) (g : Group), Starts s 0x0100 tag c u → c.atomic = true →
    u.findGroup (65536 + c.tag) = some g → exec (.atomicGroupClose tag) s = .next (u.closeGroup c g)) ∧
  (∀ (s : State) (tag : Nat) (c : Cmd) (u : State), Starts s 0x0101 tag c u →
    exec (.sysIdentify tag) s = .next (u.finishNow c.tag .ok u.identity) ∧ u.identity.length = 48 ∧
      u.identity.take 18 = leBytes 16 Config.deviceId ++ leBytes 2 0x6408) ∧
  (∀ (s : State) (tag : Nat) (c : Cmd) (u : State), Starts s 0x0103 tag c u →
    exec (.sysGetHealth tag) s = .next (u.finishNow c.tag .ok u.health) ∧ u.health.length = 40 ∧
      u.health.take 4 = leBytes 1 (u.fld F.PWR_STATUS_STATE) ++ leBytes 1 (u.fld F.TCK_STATUS_STATE) ++
        leBytes 1 (u.fld F.MBX_STATUS_MODE) ++ leBytes 1 (u.fld F.EVR_STATUS_REPLACE)) ∧
  (∀ (s : State) (tag k : Nat) (c : Cmd) (x : Slot), s.acceptedCmd 0x0105 tag = some c → leAt c.payload 0 2 ≠ 0 →
    ackTags c = [k] → (s.takeCmd c).slotOf k = some x → (x.st = .ready ∨ x.st = .read) → c.dryRun = false → c.ackReq = false →
    exec (.resultAck tag) s = .next ((s.takeCmd c).putPrivi { (s.takeCmd c).privi with
      slots := putSlot (s.takeCmd c).privi.slots k none })) ∧
  (∀ (s : State) (id : Nat) (g : Group), s.privi.groups.find? (fun g => g.id == id) = some g → id < 65536 →
    g.opened + 3840 ≤ s.elapsed → exec (.groupAbandoned id) s =
      .next (g.members.foldl (fun s c => s.finishNow c.tag .timeout [])
        (s.putPrivi { s.privi with groups := s.privi.groups.filter (fun x => x.id != id) })))

/-- The control pairs (R84-R86, R539, Table 03-8): in NORMAL a mismatch or a watchdog makes the other pair take over, the takeover
ends in SOLO of the surviving pair, where result reads that waited are answered and SOLO's rows apply to a pair that has booted
already; in SOLO the lost pair's boot waits for a frame boundary or retires the pair, and another mismatch within 1 s retires it. -/
def Obligations.ControlPairRowsComplete : Prop :=
  (∀ (s : State) (x : Fin 2), s.canonical = true → s.fault.lost = false → s.fld F.MBX_STATUS_MODE = 0 →
    (∃ t, exec (.lockstepMismatch x) s = .next t ∧ t = (s.raiseFree 0x0001 (srcPair x.val) sevError).pairFails x.val ∧
      t.elapsed = s.elapsed) ∧
    (∃ t, exec (.fwWatchdog x) s = .next t ∧ t = (s.raiseFree 0x0006 (srcPair x.val) sevError).pairFails x.val ∧
      t.elapsed = s.elapsed)) ∧
  (∀ (s : State) (x : Nat), s.fault.lost = false → s.fld F.MBX_STATUS_MODE = 0 →
    let u := s.raiseFree 0x0002 srcOther sevWarning
    s.pairFails x = ((({ u with fault := { u.fault with
      mismatchAt := sput (fun _ => 0) u.fault.mismatchAt x (u.elapsed + 1)
      lostPair := some x
      bootWaiting := false
      bootFailed := false
      lostAgain := s.mismatchRecent x } } : State).setMode
          1).servoHoldover.failPending.storeEnded).staleEstimates.calDiscard) ∧
  (∀ s : State, s.fault.lost = false → s.fld F.MBX_STATUS_MODE = 1 →
    exec .takeoverComplete s =
    .next (s.setMode (if s.fault.lostPair = some 1 then 2 else 3)).answerWaiting.soloRows) ∧
  (∀ (s : State) (x : Fin 2), s.fault.lost = false → s.fld F.MBX_STATUS_MODE = 2 ∨ s.fld F.MBX_STATUS_MODE = 3 →
    s.fault.lostPair = some x.val → s.isRetired (srcPair x.val) = false → s.mismatchRecent x.val = true →
    ∃ u, u = s.raiseFree 0x0001 (srcPair x.val) sevError ∧
      exec (.lockstepMismatch x) s =
        .next ({ u with fault := { u.fault with bootWaiting := false } }.retirePair x.val)) ∧
  (∀ (s : State) (x : Fin 2), s.sec.activation = none → s.fault.lostPair = some x.val → s.isRetired (srcPair x.val) = false →
    s.fault.lost = false →
    (s.fld F.MBX_STATUS_MODE = 1 → ∀ ok, exec (.pairBootComplete x ok) s = .next { s with fault := { s.fault with
      bootWaiting := ok
      bootFailed := !ok } }) ∧
    (s.fld F.MBX_STATUS_MODE ≠ 1 →
      (s.fault.lostAgain = false → exec (.pairBootComplete x true) s = .next { s with fault := { s.fault with
        bootWaiting := true
        bootFailed := false } }) ∧
      (s.fault.lostAgain = true → exec (.pairBootComplete x true) s = .next (State.retirePair { s with fault := { s.fault with
        bootWaiting := false
        bootFailed := false } } x.val)) ∧
      exec (.pairBootComplete x false) s = .next (State.retirePair { s with fault := { s.fault with
        bootWaiting := false
        bootFailed := false } } x.val)))

/-! ### Receive and transmit paths -/

/-- Receive paths (R123-R126, R630): carrier configuration, gain, channel filter and retirement each arm one commit of exactly the
paths still in service, for the tick of the command; what a retired path of the mask brings into the reply is the partial mask, and
the reply of a retirement takes the masks as they result at its commit. -/
def Obligations.ReceivePathCommandsArm : Prop :=
  ∀ (s : State) (tag : Nat) (c : Cmd) (u : State),
    (Commits s 0x0400 tag c u → c.op = 0 → exec (.pathConfigCarriersRx tag) s =
      .next (u.armCmd c ((u.rxLive (c.paths 4)).map CommitUnit.rxPath) ((u.rxLive (c.paths 4)).flatMap (rxConfigChanges c))
        (bulkOf (u.rxLive (c.paths 4)) 384) .ok (u.rxPartial (c.paths 4)).1 (u.rxPartial (c.paths 4)).2)) ∧
    (Commits s 0x0401 tag c u → exec (.pathSetGain tag) s =
      .next (u.armCmd c ((u.rxLive (c.paths 0)).map CommitUnit.rxPath)
        ((u.rxLive (c.paths 0)).map (fun p => Change.gain p (leAt c.payload 8 1) (leAt c.payload 9 1) (sleAt c.payload 10 2)
          (leAt c.payload 12 1)))
        (bulkOf (u.rxLive (c.paths 0)) 64) .ok (u.rxPartial (c.paths 0)).1 (u.rxPartial (c.paths 0)).2)) ∧
    (Commits s 0x0403 tag c u → exec (.pathLoadFilter tag) s =
      .next (u.armCmd c [.rxPath (leAt c.payload 0 1)] [filterChange c] [] .ok false [])) ∧
    (Commits s 0x0405 tag c u → exec (.pathRetire tag) s =
      .next (u.armCmd c ((maskList 64 (leAt c.payload 0 8)).map CommitUnit.rxPath ++
        (maskList 64 (leAt c.payload 8 8)).map CommitUnit.txPath)
        [Change.retire (leAt c.payload 0 8) (leAt c.payload 8 8)] [] .ok false [])) ∧
    (∀ (v : State) (k : Commit) (rx tx : Nat) (o : Outcome), k.owner = .command → k.late = [] → k.results = [(tag, o)] →
      k.changes = [Change.retire rx tx] →
      v.endCommit k = v.finish tag { o with payload := leBytes 8 v.rxRetMask ++ leBytes 8 v.txRetMask })

/-- Transmit paths (R157, R162, R167-R171): carriers, frequency entry, entry definition, power step, power column, mask and
front-end schedule each arm one commit; those that a late front end may spoil carry the paths they name. -/
def Obligations.TransmitPathCommandsArm : Prop :=
  ∀ (s : State) (tag : Nat) (c : Cmd) (u : State),
    (Commits s 0x0400 tag c u → c.op = 1 → exec (.pathConfigCarriersTx tag) s =
      .next (u.armLate c ((u.txLive (c.paths 4)).map CommitUnit.txPath) ((u.txLive (c.paths 4)).flatMap (txConfigChanges c))
        (bulkOf (u.txLive (c.paths 4)) 512) (u.txPartial (c.paths 4)).1 (u.txPartial (c.paths 4)).2 (u.txLive (c.paths 4)))) ∧
    (Commits s 0x0402 tag c u → c.op = 0 → ∃ t k, exec (.pathSelectFreqEntry tag) s = .next t ∧
      t.armed = insertCommit u.armed k ∧
      k.tick = u.commitTick c.actTick ∧ k.changes = selectChanges u c ∧
      k.bulk = bulkOf ((c.paths 4).filter (fun p => !selDead u c p)) 64 ∧ SameStores u t) ∧
    (Commits s 0x0402 tag c u → c.op = 1 → exec (.pathDefineFreqEntry tag) s =
      .next (let v := u.prospect (u.commitTick c.actTick) []
        u.armLate c [.freqEntry (leAt c.payload 2 1)] [.define (leAt c.payload 2 1) (definedEntry c)]
          [(0, 576), (1, 576), (2, 576), (3, 576)] false []
          (v.txLive ((List.range 64).filter (fun p => v.txEntry p == leAt c.payload 2 1))))) ∧
    (Commits s 0x0404 tag c u → c.op = 0 → exec (.pathSetPowerStep tag) s =
      .next (u.armLate c ((u.txLive (c.paths 4)).map CommitUnit.txPath)
        ((u.txLive (c.paths 4)).map (fun p => Change.power p (leAt c.payload 12 1) (leAt c.payload 13 1)))
        (bulkOf (u.txLive (c.paths 4)) 64) (u.txPartial (c.paths 4)).1 (u.txPartial (c.paths 4)).2 (u.txLive (c.paths 4)))) ∧
    (Commits s 0x0404 tag c u → c.op = 1 → exec (.pathLoadPowerColumn tag) s =
      .next (u.armLate c [.powerColumn (leAt c.payload 1 1) (leAt c.payload 2 1)]
        [.column (leAt c.payload 1 1) (leAt c.payload 2 1) ((List.range 64).map (powerEntry c))]
        (bulkOf [leAt c.payload 1 1] 4096) false [] [leAt c.payload 1 1])) ∧
    (Commits s 0x0406 tag c u → ∃ t k, exec (.pathSetMask tag) s = .next t ∧ t.armed = insertCommit u.armed k ∧
      k.tick = u.commitTick c.actTick ∧ k.units = (u.txLive (c.paths 4)).map CommitUnit.txPath ∧ k.bulk = [] ∧
      k.changes = (u.txLive (c.paths 4)).map (fun p => Change.mask p c.op (leAt c.payload 1 1)
        ((List.range 64).flatMap (fun i => [maskStart c i, maskLimit c i]))) ∧ SameStores u t) ∧
    (Commits s 0x0407 tag c u → ∃ t k, exec (.pathSetFrontendSchedule tag) s = .next t ∧
      t.armed = insertCommit u.armed k ∧
      k.tick = u.commitTick c.actTick ∧ k.units = [.frontEnd] ∧ k.changes = scheduleChanges c ∧ SameStores u t)

/-- What a path does beside its commands (R111-R113, R148, R152, R153): the guarded loop at the end of a gap tick, the PA-driver bus
as it is enabled, which shifts the current word without a latch (log entry 144), its deferred latch, and a crest-factor window's
report, where one waits. -/
def Obligations.PathEventsComplete : Prop :=
  (∀ (s : State) (p : Fin 64) (peak : Int), s.agc p.val = .track → s.pathClass p.val s.frameTick = some .gap →
    let u := s.setFld (F.RXP_PEAK_PEAK p.val) (encode2c 16 peak)
    let a := u.fld (F.RXP_GAIN_STAT_ATTEN p.val)
    (((5 * u.fld (F.RXP_AGC_CFG_UP_MARGIN p.val) : Nat) : Int) < peak + 120 → a < 30 →
      (u.setLow p.val 0).gapAllows p.val = true →
      ∃ t, exec (.gainLoopGapTickEnd p peak) s = .next t ∧ sget (fun _ => 0) t.rx.loopNext p.val =
        sget (fun _ => 0) (sput (fun _ => 0) (u.setLow p.val 0).rx.loopNext p.val (a + min (min (ceilDiv (peak + 120).toNat 10)
          ((u.setLow p.val 0).fld (F.RXP_AGC_CFG_MAX_STEP p.val))) (30 - a) + 1)) p.val) ∧
    (peak + 120 ≤ ((5 * u.fld (F.RXP_AGC_CFG_UP_MARGIN p.val) : Nat) : Int) →
      -((5 * u.fld (F.RXP_AGC_CFG_DOWN_MARGIN p.val) : Nat) : Int) ≤ peak + 120 →
      ∃ t, exec (.gainLoopGapTickEnd p peak) s = .next t ∧ t.regs = u.regs ∧ t.rx.loopNext = s.rx.loopNext ∧
        t.rx.lowRun = (u.setLow p.val 0).rx.lowRun)) ∧
  (∀ s : State, s.reaches 0x221014 → s.flag F.FES_PADRV_CTRL_EN = false → ∃ t, exec .padrvEnable s = .next t ∧
    (∃ w, t.tx.bus = some ⟨w, 32 * (s.elapsed + 1), none⟩ ∧
      ∀ p, p < 64 → sget (fun _ => 0) w p = (s.setFld F.FES_PADRV_CTRL_EN 1).padrvOf p) ∧
    t.regs = (s.setFld F.FES_PADRV_CTRL_EN 1).regs) ∧
  (∀ (s : State) (l : Nat), s.tx.deferred ≠ [] → s.tx.lastLatch = some l → l + 3 ≤ s.elapsed →
    exec .padrvDeferredLatch s = .next (s.tx.deferred.foldl
      (fun s p => (s.addFld F.FES_PADRV_LATE_COUNT 1).raise 0x4003 p (srcTx p) sevNotice) (s.latchPadrv (l + 3)))) ∧
  (∀ (s : State) (p : Fin 64) (ev : List (Nat × Nat)) (pa mi : Nat) (r : CfrReport), s.canonical = true →
    (s.cfrPath p.val).report = some r → ∃ t, exec (.cfrWindowReport p ev pa mi) s = .next t ∧
      (∀ k, k < 4 → t.fld (F.TXP_STR_EVM_MEAN p.val k) = (r.evm.getD k (0, 0)).1 % 2 ^ (F.TXP_STR_EVM_MEAN p.val k).width ∧
        t.fld (F.TXP_STR_EVM_MAX p.val k) = (r.evm.getD k (0, 0)).2 % 2 ^ (F.TXP_STR_EVM_MAX p.val k).width) ∧
      t.fld (F.TXP_CFR_STAT_PAPR p.val) = encode2c 16 r.papr % 2 ^ (F.TXP_CFR_STAT_PAPR p.val).width ∧
      t.fld (F.TXP_CFR_STAT_PAPR_MISS p.val) = min r.misses 0xFFFF ∧
      t.tx = (s.putCfr p.val { s.cfrPath p.val with report := none }).tx) ∧
  (∀ (s : State) (p : Fin 64) (ev : List (Nat × Nat)) (pa mi : Nat), (s.cfrPath p.val).report = none →
    exec (.cfrWindowReport p ev pa mi) s = .next s)

/-! ### Beamforming, predistortion and random access -/

/-- Beamforming commands (R202-R204): a table load and the two operations of BF_SET_LAYERS arm a commit of their units; the retired
masks read back with the tick they took effect. -/
def Obligations.BeamCommandsComplete : Prop :=
  ∀ (s : State) (tag : Nat) (c : Cmd) (u : State),
    (Commits s 0x0500 tag c u → ∃ t k, exec (.bfLoadBeamTable tag) s = .next t ∧
      t.armed = insertCommit u.armed k ∧
      k.tick = u.commitTick c.actTick ∧
      k.units = (List.range (leAt c.payload 0 1)).map (fun i => CommitUnit.beamEntry (beamRecord c i).1) ∧
      k.changes = (List.range (leAt c.payload 0 1)).map (fun i => Change.beam (beamRecord c i).1 (beamRecord c i).2) ∧
      SameStores u t) ∧
    (Commits s 0x0501 tag c u → c.op = 0 →
      exec (.bfSetCarrier tag) s = .next (u.armCmd c [layerUnit c] (layerChanges c) [] .ok false [])) ∧
    (Commits s 0x0501 tag c u → c.op = 1 →
      exec (.bfSetBeamLayer tag) s = .next (u.armCmd c [layerUnit c] (layerChanges c) [] .ok false [])) ∧
    (Starts s 0x0502 tag c u → exec (.bfGetRetiredMask tag) s =
      .next (u.finishNow c.tag .ok
        (leBytes 8 u.rxRetMask ++ leBytes 8 u.txRetMask ++ leBytes 4 (u.fld F.BF_RET_TICK_TICK) ++ leBytes 4 0)))

/-- Predistortion commands (R227, R232-R235): a start begins each live path and answers, a freeze and both loads arm a commit, the
status reads one record per selected path. -/
def Obligations.PredistortionCommandsComplete : Prop :=
  ∀ (s : State) (tag : Nat) (c : Cmd) (u : State),
    (Starts s 0x0600 tag c u → exec (.dpdStart tag) s =
      .next (((u.txLive (c.paths 0)).foldl (State.dpdStart (leAt c.payload 8 1 == 1)) u).finishPart c.tag .ok (u.txPartial (c.paths 0)).1
        (u.txPartial (c.paths 0)).2)) ∧
    (Commits s 0x0601 tag c u → exec (.dpdFreeze tag) s =
      .next (u.armCmd c ((u.txLive (c.paths 0)).map CommitUnit.dpd) ((u.txLive (c.paths 0)).map Change.freeze) [] .ok
        (u.txPartial (c.paths 0)).1 (u.txPartial (c.paths 0)).2)) ∧
    (Commits s 0x0602 tag c u → c.op = 0 → exec (.dpdLoadModel tag) s =
      .next (u.armCmd c [.dpd (leAt c.payload 1 1)] [.model (leAt c.payload 1 1) (loadTerms c)] (dpdBulk u c) .ok false [])) ∧
    (Commits s 0x0602 tag c u → c.op = 1 → exec (.dpdLoadCoefficients tag) s =
      .next (u.armCmd c [.dpd (leAt c.payload 1 1)]
        [.coefs (leAt c.payload 1 1) (leAt c.payload 2 1) (bitAt (leAt c.payload 3 1) 0) (loadCoefs c)] (dpdBulk u c) .ok false [])) ∧
    (Starts s 0x0603 tag c u → exec (.dpdGetStatus tag) s =
      .next (u.finishNow c.tag .ok ((c.paths 0).flatMap u.dpdRecord)))

/-- Observation and estimation (R217-R227): a capture begins SW_LEAD fine steps before its tick, ends full or is discarded at a tick
with an overrange or outside a DL run, is delivered to cluster memory once its 43 ticks of bulk share have passed, a free engine takes
the path that waits longest, firmware takes the result that its kernel has published (R399), and the guard accepts a candidate or
reports why not (log 38 for a kernel whose rows are not given; the reason where both tests fail is log 183). -/
def Obligations.ObservationRowsComplete : Prop :=
  (∀ (s : State) (j : Fin 8), s.ox j.val = .wait → 32 * tickSub (s.capTick j.val) s.tickno ≤ s.fld F.FES_SW_SW_LEAD + 31 →
    exec (.obsCaptureStart j) s = .next (s.oxStart j.val)) ∧
  (∀ (s : State) (j : Fin 8) (ins : List ObsIn) (i : ObsIn), s.ox j.val = .capture →
    tickSub s.tickno (s.capTick j.val) < 16 → ins.find? (fun i => i.ox == j.val) = some i →
    let discarded := fun (v : Nat) => ((s.addFld (F.OBS_DISCARD_COUNT j.val) 1).addFld (F.OBS_CLIP_COUNT j.val) v).setOx j.val .idle
    (i.clipped = true → s.oxTick ins j.val = discarded 1) ∧
    (i.clipped = false → s.dlIn (s.oxPath j.val) 0 = false → s.oxTick ins j.val = discarded 0)) ∧
  (∀ (s : State) (j : Fin 8) (ins : List ObsIn) (i : ObsIn), s.ox j.val = .capture → tickSub s.tickno (s.capTick j.val) = 15 →
    ins.find? (fun i => i.ox == j.val) = some i → i.clipped = false → s.dlIn (s.oxPath j.val) 0 = true →
    s.airReady (s.oxPath j.val) = true → (s.oxCap j.val).spoilt = false →
    let v := s.oxSamples j.val i.codes
    s.oxTick ins j.val = v.putOxCap j.val { v.oxCap j.val with final := some (v.captureOf j.val) } ∧
    (v.captureOf j.val).path = s.oxPath j.val ∧ (v.captureOf j.val).airTick = s.capTick j.val ∧
    (v.captureOf j.val).slot = s.slotInForce (s.oxPath j.val) ∧ (v.captureOf j.val).inputs = (s.oxCap j.val).inputs ∧
    (v.captureOf j.val).samples = (v.oxCap j.val).samples ∧ (v.captureOf j.val).atten = (s.oxCap j.val).atten) ∧
  (∀ (s : State) (j : Fin 8) (po ob pa : Int) (ov : Bool) (cap : Capture), s.ox j.val = .capture →
    16 ≤ tickSub s.tickno (s.capTick j.val) → tickSub s.tickno (s.capTick j.val) < 2 ^ 31 → (s.oxCap j.val).final = some cap →
    ∃ t, exec (.obsCaptureEnd j po ob pa ov) s = .next t ∧ t.dpd.transfer = queueSend s.dpd.transfer ⟨j.val, cap, s.elapsed, 0⟩ ∧
      t.regs = (s.setOx j .transfer).regs) ∧
  (∀ (s : State) (j : Fin 8) (ds : List (Nat × Nat × Nat × Int)) (ac ga : Int) (e : OxSend),
    s.dpd.transfer.find? (fun e => e.ox == j.val && decide (43 ≤ e.sent)) = some e →
    ∃ t, exec (.captureDelivered j ds ac ga) s = .next t ∧ t.dpd.transfer = s.dpd.transfer.erase e ∧
      t.hostMem = s.hostMem ∧ t.elapsed = s.elapsed) ∧
  (∀ (s : State) (e : Fin 16) (p : Nat), (s.estimationStart e.val).1 = some p →
    exec (.estimationStart e) s = .next ((s.estimationStart e.val).2.jobBlock e.val p)) ∧
  (∀ (s : State) (p : Fin 64) (ok : Bool) (cs pr : List Cplx) (ap am gm : Int) (e : Nat), (s.dpdPath p.val).estimating = some e →
    (∀ code, s.engResult e = some code → exec (.acceptanceGuard p ok cs pr ap am gm) s = .next (s.takeResult p.val e)) ∧
    (s.engResult e = none → (s.engine e).rowed = false →
      exec (.acceptanceGuard p ok cs pr ap am gm) s = .next ((s.rowResult e ok cs pr).takeResult p.val e))) ∧
  (∀ (s : State) (p : Fin 64) (e code : Nat) (cap : Capture), s.engResult e = some code → (s.dpdPath p.val).estFrom = some cap →
    let v : State := { s with eng := { s.eng with results := sput (fun _ => 0) s.eng.results e 0 } }
    let u := v.putDpd p.val { v.dpdPath p.val with
      estimating := none
      estFrom := none }
    (code ≠ 0 → u.adapt p.val = .run → s.takeResult p.val e = u.diverge p.val 5 false) ∧
    (code = 0 → u.adapt p.val = .run → (s.dpdPath p.val).estSlot = u.slotInForce p.val →
      s.takeResult p.val e = (u.readOutput e).2.2.guardCandidate p.val cap (u.readOutput e).1 (u.readOutput e).2.1)) ∧
  (∀ (s : State) (p : Fin 64) (cs pr : List Cplx) (cap : Capture),
    let m := measureOf cap cap.samples
    let y := measureOf cap (fit 16384 pr)
    let v := ((s.setFld (F.DPD_P_ACF_PRED p.val) (encode2c 16 y.acf)).setFld (F.DPD_P_ACF_MEAS p.val) (encode2c 16 m.acf)).setFld
      (F.DPD_P_GAIN_PRED p.val) (encode2c 16 (level y.power m.power))
    (withinHalf y.power m.power = false → acfWithin y m 0 = true → s.guardCandidate p.val cap cs pr = v.diverge p.val 1 false) ∧
    (withinHalf y.power m.power = true → acfWithin y m 0 = false → s.guardCandidate p.val cap cs pr = v.diverge p.val 2 false) ∧
    (withinHalf y.power m.power = true → acfWithin y m 0 = true → s.guardCandidate p.val cap cs pr =
      (((v.putDpd p.val { v.dpdPath p.val with pending := some ⟨v.slotInForce p.val, cs, m⟩ }).armDpd p.val
        (.candidate p.val)).setAdapt p.val .confirm).raiseFree 0x6002 (srcTx p.val) sevDebug))

/-- Random access (R254, R255): a configuration arms the commit of its unit, and reports are read from a cursor. -/
def Obligations.RandomAccessCommandsComplete : Prop :=
  ∀ (s : State) (tag : Nat) (c : Cmd) (u : State),
    (Commits s 0x0680 tag c u → exec (.prachConfig tag) s =
      .next (u.armCmd c [.prach (leAt c.payload 0 1)] (prachChanges c) [] .ok false [])) ∧
    (Starts s 0x0681 tag c u → exec (.prachReadReport tag) s =
      .next (u.finishNow c.tag .ok (u.readReports (leAt c.payload 0 4) (leAt c.payload 4 1))))


/-! ### Registers, frames and time -/

/-- Register accesses (R87, R613-R615, R618-R620): a whole word written to a register on the bus stores the bits the host may write
and starts what the register starts; an access of part of a word is logged as kind 2 and writes nothing; a frame of SPI writes is
that many writes; a read frame returns each word after three bytes of 0 and 0x5A. -/
def Obligations.RegisterAccessesComplete : Prop :=
  (∀ (s : State) (a : Fin 16777216) (v : Word) (e : RegEnv) (d : RegDesc), s.reaches (a.val / 4 * 4) →
    mapped (a.val / 4 * 4) = true → findReg (a.val / 4 * 4) = some d → s.writeWindow (a.val / 4 * 4) v.toNat = none →
    msixTable (a.val / 4 * 4) = false → inCore (a.val / 4 * 4) = false →
    exec (.registerWrite a 15 v e) s =
      .next (((s.storeBits d (a.val / 4 * 4) v.toNat).afterWrite s d (a.val / 4 * 4) v.toNat e).irqEdges s)) ∧
  (∀ (s : State) (a : Fin 16777216) (v : Word) (e : RegEnv) (d : RegDesc), s.reaches (a.val / 4 * 4) →
    mapped (a.val / 4 * 4) = true → findReg (a.val / 4 * 4) = some d →
    (s.noteItem (.write (a.val / 4 * 4) v.toNat)).writeWindow (a.val / 4 * 4) v.toNat = none →
    msixTable (a.val / 4 * 4) = false → inCore (a.val / 4 * 4) = true →
    let u := s.noteItem (.write (a.val / 4 * 4) v.toNat)
    exec (.registerWrite a 15 v e) s =
      .next (((u.storeBits d (a.val / 4 * 4) v.toNat).afterWrite u d (a.val / 4 * 4) v.toNat e).irqEdges u)) ∧
  (∀ (s : State) (a : Fin 16777216) (n : Fin 16) (v : Word) (e : RegEnv), n.val ≠ 15 → s.pwr.off = false →
    exec (.registerWrite a n v e) s = .next (s.logAccess 2 (a.val / 4 * 4))) ∧
  (∀ (s : State) (fix : Bool) (a : Fin 16777216) (n : Fin 8) (data : List Byte) (e : RegEnv), a.val % 4 = 0 →
    s.pwr.off = false → exec (.spiWindowWrite fix a n data e) s = .next
      (((spiAddrs fix a.val (min (n.val + 1) (data.length / 4))).zip (List.range (min (n.val + 1) (data.length / 4)))).foldl
        (fun s p => s.writeWord (p.1 % 2 ^ 24) (leAt data (4 * p.2) 4) e) s)) ∧
  (∀ (s : State) (fix : Bool) (a : Fin 16777216) (data : List Byte) (e : RegEnv) (d : RegDesc), s.reaches a.val → a.val % 4 = 0 →
    mapped a.val = true → findReg a.val = some d → s.writeWindow a.val (leAt data 0 4) = none → msixTable a.val = false →
    inCore a.val = false → s.pwr.off = false → 4 ≤ data.length → exec (.spiWindowWrite fix a 0 data e) s =
      .next (((s.storeBits d a.val (leAt data 0 4)).afterWrite s d a.val (leAt data 0 4) e).irqEdges s)) ∧
  (∀ (s : State) (fix : Bool) (a : Fin 16777216) (data : List Byte) (e : RegEnv), a.val % 4 = 0 → s.pwr.off = false →
    4 ≤ data.length →
    exec (.spiWindowWrite fix a 0 data e) s = exec (.registerWrite a 15 (BitVec.ofNat 32 (leAt data 0 4)) e) s) ∧
  (∀ (s u v : State) (fix : Bool) (a b : Fin 16777216) (n m : Fin 8) (data : List Byte) (e : RegEnv), a.val % 4 = 0 →
    s.pwr.off = false → m.val = n.val + 1 → 4 * (m.val + 1) ≤ data.length →
    b.val = (if fix then a.val else a.val + 4 * m.val) % 2 ^ 24 → exec (.spiWindowWrite fix a n data e) s = .next u →
    u.pwr.off = false → exec (.registerWrite b 15 (BitVec.ofNat 32 (leAt data (4 * m.val) 4)) e) u = .next v →
    exec (.spiWindowWrite fix a m data e) s = .next v) ∧
  (∀ (s : State) (fix : Bool) (a : Fin 16777216) (n : Fin 8) (k : Fin 9), a.val % 4 = 0 → s.pwr.off = false →
    (∀ x ∈ spiAddrs fix a.val (min (n.val + 1) k.val), (s.readWord (x % 2 ^ 24)).2.1 = true ∧
      (s.readWord (x % 2 ^ 24)).2.2 = s) →
    exec (.spiWindowRead fix a n k) s = .next (s.emit (.spi (leBytes 4 0 ++
      (spiAddrs fix a.val (min (n.val + 1) k.val)).flatMap (fun x =>
        leBytes 3 0 ++ leBytes 1 0x5A ++ leBytes 4 (s.readWord (x % 2 ^ 24)).1))))) ∧
  (∀ (s : State) (fix : Bool) (a : Fin 16777216), a.val % 4 = 0 → s.pwr.off = false → (s.readWord a.val).2.1 = true →
    exec (.spiWindowRead fix a 0 1) s = .next ((s.readWord a.val).2.2.emit (.spi (leBytes 4 0 ++ leBytes 3 0 ++
      leBytes 1 0x5A ++ leBytes 4 (s.readWord a.val).1))))

/-- Fronthaul commands (R307-R310): a port is disabled, kept, or aligned anew, its fields stored in each case, and what it still had to
send discarded where it does not stay up; the eAxC map, the windows and the compression of a carrier each arm one commit of what the
payload says. -/
def Obligations.FronthaulCommandsComplete : Prop :=
  ∀ (s : State) (tag : Nat) (c : Cmd) (u : State),
    (Starts s 0x0700 tag c u → leAt c.payload 1 1 % 2 = 0 → exec (.fhConfigPort tag) s =
      .next ((((((u.storePort c).clearEgress (leAt c.payload 0 1)).setFld (F.ETH_STATUS_REMOTE_FAULT (leAt c.payload 0 1))
        0).setFld (F.ETH_STATUS_LOCAL_FAULT (leAt c.payload 0 1)) 0).setPort (leAt c.payload 0 1) .disabled).finishNow c.tag
          .ok []).refreshFhLoad) ∧
    (Starts s 0x0700 tag c u → leAt c.payload 1 1 % 2 = 1 → (u.storePort c).port (leAt c.payload 0 1) = .up →
      leAt c.payload 2 1 = u.fld (F.ETH_CFG_RATE (leAt c.payload 0 1)) →
      leAt c.payload 3 1 = u.fld (F.ETH_CFG_PLACE (leAt c.payload 0 1)) →
      exec (.fhConfigPort tag) s = .next ((u.storePort c).finishNow c.tag .ok []).refreshFhLoad) ∧
    (Starts s 0x0700 tag c u → leAt c.payload 1 1 % 2 = 1 →
      ((u.storePort c).port (leAt c.payload 0 1) ≠ .up ∨
        leAt c.payload 2 1 ≠ u.fld (F.ETH_CFG_RATE (leAt c.payload 0 1)) ∨
        leAt c.payload 3 1 ≠ u.fld (F.ETH_CFG_PLACE (leAt c.payload 0 1))) →
      exec (.fhConfigPort tag) s = .next
        ((((u.storePort c).clearEgress (leAt c.payload 0 1)).setFld (F.ETH_STATUS_REMOTE_FAULT (leAt c.payload 0 1))
          0).alignPort (leAt c.payload 0 1) c.tag).refreshFhLoad) ∧
    (Commits s 0x0701 tag c u → exec (.fhMapEaxc tag) s =
      .next (u.armCmd c [.eaxcMap] [.eaxc (mapRecords c)] [] .ok false [])) ∧
    (Commits s 0x0702 tag c u → exec (.fhSetWindows tag) s =
      .next (u.armCmd c [.windows]
        [.reg 0x241000 0x0FFF0FFF (leAt c.payload 0 2 + leAt c.payload 2 2 * 2 ^ 16),
         .reg 0x241004 0x0FFF0FFF (leAt c.payload 4 2 + leAt c.payload 6 2 * 2 ^ 16), .reg 0x241008 0xF (leAt c.payload 8 1)]
        [] .ok false [])) ∧
    (Commits s 0x0703 tag c u → exec (.fhSetCompression tag) s =
      .next (u.armCmd c [.cmpCarrier (leAt c.payload 0 1 == 1) (leAt c.payload 1 1)] (cmpChanges c) [] .ok false []))

/-- A frame at a port (R281, R282, R301, R303, R305): the count of one good frame and of each reason to discard one, an in-band
packet, messages of both planes and a forwarded PTP frame; and one U-plane section that comes in time, too early, late, or to a full
store (R285-R287, R289, R291, R292). -/
def Obligations.ReceivedFrameActs : Prop :=
  (∀ (s : State) (p : Fin 4) (f : Frame), s.replaying = false → s.port p.val = .up →
    let k := p.val
    let mac := s.fld (F.ETH_MAC_LO_ADDR k) + 2 ^ 32 * s.fld (F.ETH_MAC_HI_ADDR k)
    let mine := f.dmac = mac ∨ f.dmac = 0x011B19000000 ∨ f.dmac = 0x0180C200000E
    let vlan := f.stag = false ∧ ∀ t, f.tci = some t → t % 4096 = s.fld (F.ETH_VLAN_VID k)
    let sized := 64 ≤ f.length ∧ f.length ≤ s.fld (F.ETH_CFG_MAXFRAME k)
    (f.fcsOk = false → exec (.frameReceived p f) s = .next (s.addFld (F.ETH_RX_FCS_COUNT k) 1)) ∧
    (f.fcsOk = true → ¬ sized → exec (.frameReceived p f) s = .next (s.addFld (F.ETH_DISC_SIZE k) 1)) ∧
    (f.fcsOk = true → sized → f.body = .pause → exec (.frameReceived p f) s = .next (s.addFld (F.ETH_PAUSE_COUNT k) 1)) ∧
    (f.fcsOk = true → sized → f.body ≠ .pause → ¬ mine →
      exec (.frameReceived p f) s = .next (s.addFld (F.ETH_DISC_DMAC k) 1)) ∧
    (f.fcsOk = true → sized → f.body ≠ .pause → mine → ¬ vlan →
      exec (.frameReceived p f) s = .next (s.addFld (F.ETH_DISC_VLAN k) 1)) ∧
    (f.fcsOk = true → sized → mine → vlan →
      let u := (s.addFld (F.ETH_RX_FRAMES_COUNT k) 1).noteItem (.frame k f)
      (∀ e q ok h l, f.body = .ecpri 1 false 0 (.uplane e q ok h l) → u.pwr.quietAt = false →
        exec (.frameReceived p f) s = .next (u.upMessage k e q ok h l)) ∧
      (∀ e q ok h l, f.body = .ecpri 1 false 2 (.cplane e q ok h l) → u.pwr.quietAt = false →
        exec (.frameReceived p f) s = .next (u.cpMessage k e q ok h l)) ∧
      (∀ bs, f.body = .ecpri 1 false 0xC0 (.privi bs) → u.flag (F.ETH_CFG_INBAND k) = true →
        u.flag F.MBX_CTRL_INB_EN = true → u.privi.inbPackets.length < 16 → ∃ t, exec (.frameReceived p f) s = .next t ∧
          t.privi.inbPackets = u.privi.inbPackets ++
            [(bs, ⟨k, f.smac, f.tci.getD 0 % 4096, f.tci.getD 0 / 8192⟩)] ∧ t.privi.slots = u.privi.slots) ∧
      (∀ bs, f.body = .ecpri 1 false 0xC0 (.privi bs) →
        (u.flag F.MBX_CTRL_INB_EN = false ∨ u.flag (F.ETH_CFG_INBAND k) = true ∧ 16 ≤ u.privi.inbPackets.length) →
        exec (.frameReceived p f) s = .next (u.addFld F.MBX_DISC_INB 1)) ∧
      (∀ mt bs, f.body = .ptp mt bs → u.flag (F.ETH_CFG_PTP k) = true ∨ u.flag (F.ETH_CFG_TC k) = true →
        let l := u.stampAt (-(u.fld (F.ETH_PTP_LAT_RX k) : Int))
        let v := l.2.forwardPtp k mt bs l.1 f.residence
        exec (.frameReceived p f) s = .next
          (if v.flag (F.ETH_CFG_PTP k) then (v.notePtp k mt bs l.1).answerDelay k mt bs l.1 else v)) ∧
      ((f.body = .other ∨ ∃ r c mt b, f.body = .ecpri r c mt b ∧ (r ≠ 1 ∨ c = true)) →
        exec (.frameReceived p f) s = .next (u.addFld (F.ETH_DISC_TYPE k) 1)))) ∧
  (∀ (s : State) (e : Eaxc) (h : AppHdr) (o : Nat) (x : UpSection), x.rb = 0 →
    x.startPrb + prbCount (s.carNrb true e.car) x.startPrb x.numPrb ≤ s.carNrb true e.car → x.startPrb < s.carNrb true e.car →
    let g := s.geo true e.car
    let air := s.resolve g h.frameId (symIndex g.mu h o)
    let a := s.arrival (s.dueTick air) (s.fld F.FRM_WIN0_DL_UP_OPEN) (s.earlyTicks g)
    (a = .tooEarly → s.upSection e h o x = s.addFld F.FRM_TOO_EARLY_COUNT 1) ∧
    (a = .late → s.upSection e h o x = s.loseSection e.index e.car air false false) ∧
    (a = .onTime → ingressBytes < s.ingressUsed + x.bytes.length →
      s.upSection e h o x = (s.addFld F.FRM_ING_DROP_COUNT 1).loseSection e.index e.car air true false) ∧
    (a = .onTime → s.ingressUsed + x.bytes.length ≤ ingressBytes → ∃ g, (s.upSection e h o x).fh.ingress = s.fh.ingress ++ [g] ∧
      g.part.start = air ∧ g.due = s.dueTick air ∧ g.part.bytes = x.bytes ∧ g.recv = s.tickno) ∧
    (a = .early → s.upSection e h o x = (s.addFld F.FRM_UP_EARLY_COUNT 1).storeSection e air (s.dueTick air) x))

/-- Ports (R302): alignment, its timeout, loss of alignment, and a remote fault with the egress it discards. -/
def Obligations.PortEventsComplete : Prop :=
  (∀ (s : State) (k : Fin 4), s.port k.val = .aligning → s.inSafe = false →
    exec (.portAligned k) s = .next ((((s.setPort k.val .up).setFld (F.ETH_STATUS_LOCAL_FAULT k.val) 0).endPortCmds k.val
      .ok).raiseFree 0x8006 (srcEth k.val) sevInfo)) ∧
  (∀ (s : State) (k : Fin 4) (tag at_ : Nat), s.fh.portCmd = [(k.val, tag, at_)] → at_ + 384000 ≤ s.elapsed →
    exec (.portAlignTimeout k) s =
      .next (({ s with fh := { s.fh with portCmd := [] } } : State).finishNow tag .timeout [])) ∧
  (∀ (s : State) (k : Fin 4), s.port k.val = .up → s.canonical = true → ∃ t, exec (.fhLinkDown k) s = .next t ∧
    t = (((((s.setPort k.val .aligning).setFld (F.ETH_STATUS_LOCAL_FAULT k.val) 1).setFld (F.ETH_STATUS_REMOTE_FAULT k.val)
      0).dropEgress k.val).raiseFree 0x8007 (srcEth k.val) sevError) ∧ t.port k.val = .aligning) ∧
  (∀ (s : State) (k : Fin 4), s.port k.val = .up → s.flag (F.ETH_STATUS_REMOTE_FAULT k.val) = false →
    exec (.fhRemoteFault k) s = .next (((s.setFld (F.ETH_STATUS_REMOTE_FAULT k.val) 1).dropEgress k.val).raiseFree 0x8008
      (srcEth k.val) sevWarning)) ∧
  (∀ (s : State) (k : Fin 4), exec (.fhRemoteFaultCleared k) s = .next (s.setFld (F.ETH_STATUS_REMOTE_FAULT k.val) 0))

/-- R456: a change of RATE on an FRC edge keeps L continuous there and from then on gives it the new slope; a step of OFFSET alone moves
L of every edge by exactly the step, modulo 2^96. -/
def Obligations.RateChangeKeepsTimeContinuous : Prop :=
  ∀ s : State, s.canonical = true →
    (∀ frc rate : Nat, rate < 2 ^ 48 →
      (s.changeRate frc rate).rate = rate ∧
      (((s.changeRate frc rate).offset : Nat) : Int) = ((s.linear frc : Int) - (frc * rate / 2 ^ 24 : Nat)) % (2 ^ 96 : Nat) ∧
      (s.changeRate frc rate).linear frc = s.linear frc ∧
      ∀ f, frc ≤ f → (s.changeRate frc rate).linear f =
        (s.linear frc + (f * rate / 2 ^ 24 - frc * rate / 2 ^ 24)) % 2 ^ 96) ∧
    (∀ (d : Int) (frc : Nat), (((s.moveOffset d).linear frc : Nat) : Int) = ((s.linear frc : Int) + d) % (2 ^ 96 : Nat) ∧
      (s.moveOffset d).rate = s.rate ∧ (s.moveOffset d).timeValid = true)

/-- R457: a write of 1 to SNAP latches FRC and L of one edge, L as R455 computes it, and sets SNAP_VALID. -/
def Obligations.SnapshotLatchesOneEdge : Prop :=
  ∀ (s : State) (edge : Nat), s.canonical = true → s.reaches 0x30004 → ∃ t, exec (.timeSnapshot edge) s = .next t ∧
    (let frc := s.frcAt edge
     let l := (s.offset + frc * s.rate / 2 ^ 24) % 2 ^ 96
     t.fld F.TIM_SNAP_FRC_LO_FRC = frc % 2 ^ 32 ∧ t.fld F.TIM_SNAP_FRC_HI_FRC = frc / 2 ^ 32 ∧
     t.fld F.TIM_SNAP_SEC_LO_SEC + 2 ^ 32 * t.fld F.TIM_SNAP_SEC_HI_SEC = l / (10 ^ 9 * 2 ^ 16) % 2 ^ 48 ∧
     t.fld F.TIM_SNAP_NS_NS = l / 2 ^ 16 % 10 ^ 9 ∧ t.fld F.TIM_SNAP_SUB_SUB = l % 2 ^ 16) ∧
    t.flag F.TIM_STATUS_SNAP_VALID = true ∧ t.offset = s.offset ∧ t.rate = s.rate ∧ t.timeValid = s.timeValid

/-- Time commands (R460, R461, R471-R473): steps within the threshold, a rate, forced steps, and a comparator armed, missed or
disarmed; and the servo and the comparators as they run (R459, R462-R464, R468). -/
def Obligations.TimeRowsComplete : Prop :=
  (∀ (s : State) (tag edge : Nat) (c : Cmd) (u : State), Starts s 0x0302 tag c u →
    let frc := u.frcAt edge
    let d := u.askedStep c frc
    (c.op = 0 → u.jumpRefused d = false → exec (.timeAdjust tag edge) s =
      .next ((u.moveOffset (sleAt c.payload 4 8)).finishNow c.tag .ok
        (leBytes 8 (encode2c 64 (sleAt c.payload 4 8)) ++ leBytes 8 frc))) ∧
    (c.op = 1 → u.jumpRefused d = false → exec (.timeSetAbsolute tag edge) s =
      .next ((u.moveOffset d).finishNow c.tag .ok (leBytes 8 (encode2c 64 d) ++ leBytes 8 frc))) ∧
    (c.op = 2 → exec (.timeSetRate tag edge) s =
      .next ((u.changeRate frc (leAt c.payload 4 6)).finishNow c.tag .ok (leBytes 8 0 ++ leBytes 8 frc)))) ∧
  (∀ (s : State) (tag edge : Nat) (c : Cmd) (u : State), Starts s 0x0303 tag c u →
    let frc := u.frcAt edge
    let d := u.askedStep c frc
    (c.op = 0 → exec (.timeStepForceAdjust tag edge) s =
      .next ((u.forceStep (sleAt c.payload 4 8)).finishNow c.tag .ok
        (leBytes 8 (encode2c 64 (sleAt c.payload 4 8)) ++ leBytes 8 frc))) ∧
    (c.op = 1 → exec (.timeStepForceAbsolute tag edge) s =
      .next ((u.forceStep d).finishNow c.tag .ok (leBytes 8 (encode2c 64 d) ++ leBytes 8 frc)))) ∧
  (∀ (s : State) (tag edge : Nat) (c : Cmd) (u : State), Starts s 0x0304 tag c u → c.op < 16 →
    (leAt c.payload 1 1 ≠ 0 → u.timeValid = false → u.canonical = true →
      ∃ v : State, exec (.timeArmTrigger tag edge) s = .next (v.finishNow c.tag .ok (leBytes 4 CmpState.armed.code)) ∧
        v.cmpState c.op = .armed ∧ v.fld (F.TIM_CMP_CTRL_ACTION c.op) = leAt c.payload 1 1 % 8 ∧
        v.fld (F.TIM_CMP_PERIOD_PERIOD c.op) = leAt c.payload 16 4 ∧ v.fld (F.TIM_CMP_WIN_WINDOW c.op) = leAt c.payload 20 2 ∧
        v.timeValid = false ∧ v.tickno = u.tickno) ∧
    (leAt c.payload 1 1 = 0 → exec (.timeDisarmTrigger tag) s =
      .next ((((u.setFld (F.TIM_CMP_CTRL_ACTION c.op) 0).setFld (F.TIM_CMP_CTRL_MASK c.op) 0).setCmp c.op .idle).finishNow c.tag
        .ok (leBytes 4 CmpState.idle.code)))) ∧
  (∀ (s : State) (i : Fin 16) (edge : Nat), s.cmpState i.val = .armed → s.timeValid = true →
    let d := timeDelta (s.linear (s.frcAt edge)) (s.cmpTarget i.val)
    let w := windowOf (s.fld (F.TIM_CMP_WIN_WINDOW i.val))
    let p := s.fld (F.TIM_CMP_PERIOD_PERIOD i.val)
    (0 ≤ d → d ≤ w → p = 0 → exec (.timeCmpFired i edge) s =
      .next (((s.cmpAct i.val).raise 0x2012 i.val srcAster sevDebug).setCmp i.val .fired)) ∧
    (0 ≤ d → d ≤ w → p ≠ 0 → exec (.timeCmpFired i edge) s =
      .next (((s.cmpAct i.val).raise 0x2012 i.val srcAster sevDebug).setCmpTarget i.val (s.cmpNs i.val + p))) ∧
    (w < d → p = 0 → exec (.timeCmpMissed i edge) s =
      .next ((s.setCmp i.val .missed).raise 0x2013 0 srcAster sevWarning)) ∧
    (w < d → p ≠ 0 → ∃ n : Nat, 0 < n ∧ exec (.timeCmpMissed i edge) s =
      .next ((s.setCmpTarget i.val (s.cmpNs i.val + n * p)).raise 0x2013 n srcAster sevWarning) ∧
      d < ((n * (p * 2 ^ 16) : Nat) : Int) ∧ (((n - 1) * (p * 2 ^ 16) : Nat) : Int) ≤ d)) ∧
  (∀ (s : State) (i : Fin 16), ∃ t, exec (.timePulseEnd i) s = .next t ∧ (∀ x ∈ t.time.pulses, x.1 ≠ i.val) ∧
    (∀ x, x.1 ≠ i.val → (x ∈ t.time.pulses ↔ x ∈ s.time.pulses)) ∧ t.regs = s.regs) ∧
  (∀ (s : State) (port : Fin 8) (cls : Nat) (ms sm phase : Int) (rate edge : Nat), s.servoEnabled = true →
    s.fld F.MBX_STATUS_MODE ≠ 1 →
    let slave := if s.fld F.CAS_CFG_ROLE = 2 then 4 + s.fld F.CAS_CFG_UP_PORT else port.val
    exec (.ptpServoUpdate (some (port, cls)) ms sm phase rate edge) s = .next (match s.servoTimes slave with
      | some x => s.servoParent slave cls x.1 x.2 phase rate edge
      | none => s.adoptParent slave cls)) ∧
  (∀ s : State, s.servo = .acquiring ∨ s.servo = .locked → s.canonical = true → ∃ t, exec .ptpParentLoss s = .next t ∧
    t.servo = .holdover ∧ t.fld F.TIM_PTP_STAT_PARENT = 0xF ∧ t.rate = s.rate ∧ t.offset = s.offset)

/-! ### Lanes, modules and the cascade -/

/-- Lane commands (R338-R341): the group's mode and settings stored and the command waiting or ended, its timeout, adaptation restarted,
held and released, presets stored and loaded, a bit slip and a pattern setting queued for the next boundary. -/
def Obligations.LaneCommandsComplete : Prop :=
  (∀ (s : State) (tag : Nat) (apps : List (Nat × Nat)) (c : Cmd) (u : State), Starts s 0x0800 tag c u → u.canonical = true →
    leAt c.payload 0 1 < 4 → (leAt c.payload 1 1 = 3 → u.unlockedFor 2 = true) → ∃ t, exec (.laneConfigGroup tag apps) s = .next t ∧
      ∀ i, i < 2 →
        let l := 2 * leAt c.payload 0 1 + i
        t.fld (F.LN_STATUS_MODE l) = leAt c.payload 1 1 % 4 ∧ t.fld (F.LN_STATUS_RATE l) = leAt c.payload 2 1 % 2 ∧
        t.fld (F.LN_CFG_EN l) = leAt c.payload 3 1 / 2 ^ i % 2 ∧ t.fld (F.LN_CFG_MLSE l) = leAt c.payload 4 1 / 2 ^ i % 2) ∧
  (∀ (s : State) (k : Fin 4) (w : LaneWait), s.ln.waits = [w] → w.group = k.val → w.since + 153600 ≤ s.elapsed →
    exec (.laneConfigTimeout k) s = .next (({ s with ln := { s.ln with waits := [] } } : State).finishPart w.tag .timeout w.part
      (leBytes 1 (s.lane (2 * k.val)).code ++ leBytes 1 (s.lane (2 * k.val + 1)).code ++ leBytes 2 0))) ∧
  (∀ (s : State) (tag : Nat) (c : Cmd) (u : State), Starts s 0x0801 tag c u →
    let live := (adaptLanes c).filter (fun l => u.lane l != .off && u.lane l != .retired)
    let ends := fun (v : State) => v.finishPart c.tag .ok ((adaptLanes c).any (fun l => v.lane l == .retired)) []
    (c.op = 0 → exec (.laneAdaptRestart tag) s = .next (ends (live.foldl (fun s l =>
      ((((s.setFld (F.LN_STATUS_HOLD_HOST l) 0).setFld (F.LN_STATUS_HOLD_SAFE l) 0).reloadRx l).setLane l .los)) u)).outputHolds) ∧
    (c.op = 1 → exec (.laneAdaptHold tag) s = .next (ends (live.foldl (fun s l =>
      let v := s.setFld (F.LN_STATUS_HOLD_HOST l) 1
      if v.lane l = .acquire ∨ v.lane l = .track ∨ v.lane l = .frozen then v.setLane l .held else v) u)).outputHolds) ∧
    (c.op = 2 → exec (.laneAdaptRelease tag) s = .next (ends (live.foldl (fun s l =>
      (s.setFld (F.LN_STATUS_HOLD_HOST l) 0).laneResume l) u)).outputHolds) ∧
    (c.op = 3 → exec (.laneAdaptStore tag) s = .next (ends (live.foldl State.laneStore u))) ∧
    (c.op = 4 → exec (.laneLoadPreset tag) s = .next (({ u with ln := { u.ln with
      presets := sput (fun _ => []) u.ln.presets (5 * leAt c.payload 1 1 + leAt c.payload 2 1) (c.payload.drop 4) } } :
        State).finishNow c.tag .ok []))) ∧
  (∀ (s : State) (tag : Nat) (c : Cmd) (u : State), Starts s 0x0802 tag c u → exec (.laneBitSlip tag) s =
    .next (({ u with ln := { u.ln with changes := u.ln.changes ++ [.slip (leAt c.payload 0 1) (leAt c.payload 1 1)] } } :
      State).finishNow c.tag .ok (leBytes 4 ((u.fld (F.LN_SLIP_OFFSET (leAt c.payload 0 1)) +
        u.slipsWaiting (leAt c.payload 0 1) + leAt c.payload 1 1) % 128)))) ∧
  (∀ (s : State) (tag : Nat) (c : Cmd) (u : State), Starts s 0x0803 tag c u →
    let p := c.payload
    let live := (maskList 8 (leAt p 0 1)).filter (fun l => u.lane l != .retired)
    exec (.lanePrbs tag) s = .next (({ u with ln := { u.ln with changes := u.ln.changes ++ live.map (fun l =>
      .prbs l (leAt p 1 1) (leAt p 2 1) (bitAt (leAt p 3 1) 0) (leAt p 4 1) (leAt p 5 1) (leAt p 6 2) (leAt p 8 4)) } } :
        State).finishPart c.tag .ok (live.length != (maskList 8 (leAt p 0 1)).length) []))

/-- The adaptation of a lane (Table 11-1, R322-R325): signal; lock after 1 ms of adequate merit, the acquisition timer, unlock after 100 µs
of too little, freeze on low content and unfreeze on adequate content, each with its count and its event; and the report of the mean of
16 ticks' figures of merit, counted in one bin of sixteen. -/
def Obligations.LaneAdaptationMoves : Prop :=
  ∀ (s : State) (l : Fin 8),
    (let u := s.setFld (F.LN_STATUS_SIGNAL l.val) 1
     (u.lane l.val = .los → exec (.laneSignalSet l) s = .next ((u.reloadRx l.val).setLane l.val .acquire)) ∧
     (u.lane l.val ≠ .los → exec (.laneSignalSet l) s = .next u)) ∧
    (let u := s.setFld (F.LN_STATUS_SIGNAL l.val) 0
     (u.lane l.val ∈ [.acquire, .track, .frozen] →
       exec (.laneLos l) s = .next ((u.setLane l.val .los).raiseFree 0x9004 (srcLane l.val) sevNotice)) ∧
     (u.lane l.val ∉ [.acquire, .track, .frozen] → exec (.laneLos l) s = .next u)) ∧
    (s.lane l.val = .acquire → 3840 ≤ (s.laneHw l.val).above → exec (.laneLock l) s = .next ((((s.setLane l.val .track).addFld (F.LN_LOCKS_COUNT l.val)
      1).raiseFree 0x9001 (srcLane l.val) sevInfo).laneDone.outputHolds)) ∧
    (s.lane l.val = .acquire → 76800 ≤ (s.laneHw l.val).timer → exec (.laneAcqFail l) s =
      .next (((s.reloadRx l.val).addFld (F.LN_ACQ_FAILS_COUNT l.val) 1).raiseFree 0x9003 (srcLane l.val) sevWarning)) ∧
    (s.lane l.val = .track → 384 ≤ (s.laneHw l.val).below → exec (.laneUnlock l) s = .next (((((s.reloadRx l.val).setLane l.val .acquire).addFld
      (F.LN_UNLOCKS_COUNT l.val) 1).raiseFree 0x9002 (srcLane l.val) sevWarning).outputHolds)) ∧
    ((s.lane l.val = .acquire ∨ s.lane l.val = .track) →
      (s.laneHw l.val).lowContent (s.fld (F.LN_STATUS_RATE l.val)) = true → exec (.laneFreeze l) s =
      .next ((((s.putLaneHw l.val { s.laneHw l.val with tracked := s.lane l.val == .track }).setLane l.val .frozen).addFld
        (F.LN_FREEZES_COUNT l.val) 1).outputHolds)) ∧
    (s.lane l.val = .frozen → (s.laneHw l.val).goodContent (s.fld (F.LN_STATUS_RATE l.val)) = true → exec (.laneUnfreeze l) s =
      .next (s.setLane l.val (if (s.laneHw l.val).tracked then .track else .acquire)).laneDone.outputHolds) ∧
    (∀ row, s.canonical = true → s.lane l.val ∈ [.acquire, .track, .frozen, .held] → 16 ≤ (s.laneHw l.val).foms.length → ∃ t b,
      let fom := meanMerit ((s.laneHw l.val).foms.take 16)
      exec (.laneFomReport l row) s = .next t ∧ b < 16 ∧ t.fld (F.LN_FOM_CUR l.val) = fom ∧
      t.fld (F.LN_FOM_MIN l.val) = min (s.fld (F.LN_FOM_MIN l.val)) fom ∧
      t.fld (F.LN_FOM_HIST_COUNT l.val b) = min (s.fld (F.LN_FOM_HIST_COUNT l.val b) + 1)
        (2 ^ (F.LN_FOM_HIST_COUNT l.val b).width - 1) ∧
      (∀ j, j < 16 → j ≠ b → t.fld (F.LN_FOM_HIST_COUNT l.val j) = s.fld (F.LN_FOM_HIST_COUNT l.val j)) ∧
      ((b = 0 ∧ fom < 144) ∨ (b = 15 ∧ 368 ≤ fom) ∨
        (0 < b ∧ b < 15 ∧ 128 + 16 * b ≤ fom ∧ fom < 144 + 16 * b)))

/-- Patterns and capture of a lane (R322, R333-R336): the checker locks and loses, an injection inverts one bit or a burst, a captured word fills the
RAW registers, and a cleared histogram is empty with MIN at its greatest. -/
def Obligations.LaneTestRowsComplete : Prop :=
  ∀ (s : State) (l : Fin 8),
    (s.fld (F.LN_PRBS_STAT_STATE l.val) = 1 → (s.pat l.val).own.isSome = true → exec (.prbsCheckerLock l) s =
      .next (((s.countBits l.val (s.pat l.val).pend).putPat l.val { s.pat l.val with pend := (0, 0) }).setFld
        (F.LN_PRBS_STAT_STATE l.val) 2)) ∧
    (s.fld (F.LN_PRBS_STAT_STATE l.val) = 2 → (s.pat l.val).own = none → exec (.prbsCheckerLoss l) s =
      .next (((s.putPat l.val (s.pat l.val).research).setFld (F.LN_PRBS_STAT_STATE l.val) 1).addFld
        (F.LN_PRBS_STAT_LOSSES l.val) 1)) ∧
    (sget (fun _ => 0) s.ln.injLeft l.val ≠ 0 → sget (fun _ => 0) s.ln.injNext l.val ≤ s.elapsed →
      let v := s.putPat l.val { s.pat l.val with
        flip := if s.fld (F.LN_INJ_CFG_MODE l.val) = 1 then 1 else s.fld (F.LN_INJ_CFG_LEN l.val) }
      exec (.laneErrorInject l) s = .next ({ v.addFld (F.LN_INJ_DONE_COUNT l.val) 1 with ln := { v.ln with
        injLeft := sput (fun _ => 0) s.ln.injLeft l.val
          (if sget (fun _ => 0) s.ln.injLeft l.val = 1 then 1 else if sget (fun _ => 0) s.ln.injLeft l.val = 2 then 0
            else sget (fun _ => 0) s.ln.injLeft l.val - 1)
        injNext := sput (fun _ => 0) s.ln.injNext l.val
          (sget (fun _ => 0) s.ln.injNext l.val + s.fld (F.LN_INJ_INTERVAL_INTERVAL l.val)) } })) ∧
    (∀ w, s.canonical = true → s.reaches (0x310010 + 0x1000 * l.val) → s.laneRaw l.val = true →
      ∃ t, exec (.laneRawCapture l w) s = .next t ∧
        ∀ i, i < 4 → t.fld (F.LN_RAW_WORD l.val i) = w / 2 ^ (32 * i) % 2 ^ 32) ∧
    (s.canonical = true → s.reaches (0x310010 + 0x1000 * l.val) → ∃ t, exec (.laneHistClear l) s = .next t ∧
      t.fld (F.LN_FOM_MIN l.val) = 0x3FF ∧ ∀ i, i < 16 → t.fld (F.LN_FOM_HIST_COUNT l.val i) = 0)

/-- Modules (R331, R332): a poll finds a module, a new one leaving low power and given an application, or reports it absent, its flags are counted and reported, its monitors stored, and a host
access starts and ends. -/
def Obligations.ModuleRowsComplete : Prop :=
  ∀ (s : State) (m : Fin 2),
    (∀ (rev : Option Nat) (st : Nat) (bad : Bool) (apps : List (Nat × Nat)), s.flag (F.LN_MOD_CFG_EN m.val) = true →
      (m.val = 1 → s.flag (F.LN_MOD_CFG_WIDE 0) = false) →
      (rev.any (fun r => decide (5 ≤ r)) = true →
        let v := ((s.setFld (F.LN_MOD_STATUS_PRESENT m.val) 1).setFld (F.LN_MOD_STATUS_STATE m.val) st).setFld
          (F.LN_MOD_STATUS_FAULT m.val) (b2n bad)
        let w := v.emit (.module m.val .exitLowPower)
        (s.flag (F.LN_MOD_STATUS_PRESENT m.val) = true → exec (.modulePresencePoll m rev st bad apps) s = .next v) ∧
        (s.flag (F.LN_MOD_STATUS_PRESENT m.val) = false → exec (.modulePresencePoll m rev st bad apps) s =
          .next (if (w.moduleLanes m.val).isEmpty then w else w.appSelect m.val apps))) ∧
      (rev.any (fun r => decide (5 ≤ r)) = false →
        exec (.modulePresencePoll m rev st bad apps) s = .next ((((s.setFld (F.LN_MOD_STATUS_PRESENT m.val) 0).setFld
          (F.LN_MOD_STATUS_STATE m.val) 0).setFld (F.LN_MOD_STATUS_APP m.val) 0).raiseFree 0x9010 (srcBlock 10) sevNotice))) ∧
    (∀ fs : List (Nat × Nat), s.masterOn m.val = true → s.flag (F.LN_MOD_STATUS_PRESENT m.val) = true →
      exec (.moduleFlagPoll m fs) s = .next (fs.foldl (fun s f => (s.addFld (F.LN_MOD_FLAGS_COUNT m.val) 1).raise 0x9012
        (f.1 % 256 * 256 + f.2 % 256) (srcBlock 10) sevNotice) s)) ∧
    (∀ (temp vcc : Nat) (ls : List (Nat × Nat × Nat × Nat)), s.canonical = true → s.masterOn m.val = true →
      s.flag (F.LN_MOD_STATUS_PRESENT m.val) = true → ∃ t, exec (.moduleMonitorPoll m temp vcc ls) s = .next t ∧
        t.fld (F.LN_MOD_MON_TEMP m.val) = temp % 2 ^ (F.LN_MOD_MON_TEMP m.val).width ∧
        t.fld (F.LN_MOD_MON_VCC m.val) = vcc % 2 ^ (F.LN_MOD_MON_VCC m.val).width ∧
        ∀ l bias tx rx, ls = [(l, bias, tx, rx)] → l < 8 →
          (s.masterOf l = m.val → t.fld (F.LN_OPT_BIAS_BIAS l) = bias % 2 ^ (F.LN_OPT_BIAS_BIAS l).width ∧
            t.fld (F.LN_OPT_TXPWR l) = tx % 2 ^ (F.LN_OPT_TXPWR l).width ∧
            t.fld (F.LN_OPT_RXPWR l) = rx % 2 ^ (F.LN_OPT_RXPWR l).width) ∧
          (s.masterOf l ≠ m.val → t.fld (F.LN_OPT_BIAS_BIAS l) = s.fld (F.LN_OPT_BIAS_BIAS l))) ∧
    (∀ w : Word, s.canonical = true → s.masterOn m.val = true → s.reaches (0x31800C + 0x100 * m.val) → ∃ t, exec (.moduleHostXfer m w) s = .next t ∧
      t.flag (F.LN_MOD_XSTAT_BUSY m.val) = true ∧ t.flag (F.LN_MOD_XFER_GO m.val) = true ∧ t.privi = s.privi ∧ t.armed = s.armed) ∧
    (∀ (nack : Bool) (data : Word), s.canonical = true → s.flag (F.LN_MOD_XSTAT_BUSY m.val) = true →
      ∃ t, exec (.moduleAccessComplete m nack data) s = .next t ∧ t.flag (F.LN_MOD_XSTAT_BUSY m.val) = false ∧
        t.flag (F.LN_MOD_XFER_GO m.val) = false ∧ t.flag (F.LN_MOD_XSTAT_NACK m.val) = nack ∧
        t.fld (F.LN_MOD_XDATA_DATA m.val) =
          (if s.flag (F.LN_MOD_XFER_WRITE m.val) = false ∧ nack = false then
            data.toNat % 2 ^ (8 * (s.fld (F.LN_MOD_XFER_LEN m.val) + 1))
          else s.fld (F.LN_MOD_XDATA_DATA m.val)))

/-- The cascade (R346, R350-R352, R356, R364, R368, R369): the configuration arms a commit, discovery goes out and ends with its
records, a Finef frame is checked and used, a port comes up, goes down and rejoins, and the ring reverses at its switch tick. -/
def Obligations.CascadeRowsComplete : Prop :=
  (∀ (s : State) (tag : Nat) (c : Cmd) (u : State),
    (Commits s 0x0900 tag c u → exec (.casConfig tag) s = .next (u.armCmd c [.cascade] (casChanges c) [] .ok
      (partialMask 4 1 ((casPorts c).filter (fun k => u.isRetired (srcCas k)))).1
      (partialMask 4 1 ((casPorts c).filter (fun k => u.isRetired (srcCas k)))).2)) ∧
    (Starts s 0x0901 tag c u → exec (.casDiscover tag) s = .next { u with cas := { u.cas with
      request := true
      discover := u.cas.discover ++ [⟨c.tag, u.elapsed + 2 * u.depth + 4, []⟩] } })) ∧
  (∀ (s : State) (d : Discovery), s.cas.discover = [d] → d.endsAt ≤ s.elapsed → exec .casDiscoverComplete s =
    .next ((({ s with cas := { s.cas with discover := [] } } : State).finishNow d.tag .ok
      (({ s with cas := { s.cas with discover := [] } } : State).discoverBytes d)))) ∧
  (∀ (s : State) (p : Fin 4) (f : FinefFrame), s.replaying = false → s.casPort p.val ≠ .disabled → s.casPort p.val ≠ .retired →
    let v := s.noteItem (.finef p.val f)
    let u : State := { v with cas := { v.cas with heard := insertNat v.cas.heard p.val } }
    let late := f.tickno % 2 ^ 32 ≠ tickAdd u.tickno (2 ^ 32 - 1)
    (f.fault = true → exec (.finefFrameReceived p f) s = .next (u.casBad p.val 4)) ∧
    (f.fault = false → late → exec (.finefFrameReceived p f) s =
      .next (((u.casBad p.val 1).addFld (F.CAS_P_SKEW_COUNT p.val) 1).raiseFree 0xA003 (srcCas p.val) sevError)) ∧
    (f.fault = false → ¬ late → (f.crcOk = false ∨ f.fecOk = false) →
      exec (.finefFrameReceived p f) s = .next ((u.casBad p.val 1).addFld (F.CAS_P_CRC_COUNT p.val) 1)) ∧
    (f.fault = false → ¬ late → f.crcOk = true → f.fecOk = true →
      let w := ({ u with cas := { u.cas with
        good := sput (fun _ => 0) u.cas.good p.val (min 16 (sget (fun _ => 0) u.cas.good p.val + 1))
        bad := sput (fun _ => 0) u.cas.bad p.val 0 } } : State).setFld (F.CAS_P_STATUS_PEER_HOP p.val) f.hop
      exec (.finefFrameReceived p f) s =
        .next (if w.casPort p.val = .up ∨ w.casPort p.val = .standby then w.casUse p.val f else w))) ∧
  (∀ (s : State) (k : Fin 4), (s.casPort k.val = .training ∨ s.casPort k.val = .down) →
    16 ≤ sget (fun _ => 0) s.cas.good k.val → s.bothTrack k.val = true →
    (s.isStandby k.val = true → exec (.casLinkUp k) s =
      .next ((s.setCasPort k.val .standby).refreshCasState.raiseFree 0xA001 (srcCas k.val) sevInfo)) ∧
    (s.isStandby k.val = false → exec (.casLinkUp k) s =
      .next (({ s.setCasPort k.val .up with cas := { s.cas with
        rejoin := sput (fun _ => 0) s.cas.rejoin k.val (s.elapsed + s.toSubframe (s.depth + 2) + 1)
        reverse := s.cas.reverse && (!s.isUpstream k.val || s.standbyPath || s.cas.switchAt.isSome) } } : State).refreshCasState.raiseFree 0xA001 (srcCas k.val)
          sevInfo))) ∧
  (∀ (s : State) (k : Fin 4), (s.casPort k.val = .up ∨ s.casPort k.val = .standby) →
    (4 ≤ sget (fun _ => 0) s.cas.bad k.val ∨ s.bothTrack k.val = false) → exec (.casLinkDown k) s =
      .next (((s.casLeave k.val .down).addFld (F.CAS_P_DOWNS_COUNT k.val) 1).raiseFree 0xA002 (srcCas k.val) sevError)) ∧
  (∀ (s : State) (k : Fin 4), s.casPort k.val = .up → sget (fun _ => 0) s.cas.rejoin k.val ≠ 0 →
    sget (fun _ => 0) s.cas.rejoin k.val ≤ s.elapsed + 1 → exec (.casRejoin k) s =
      .next ({ s with cas := { s.cas with rejoin := sput (fun _ => 0) s.cas.rejoin k.val 0 } } : State).refreshPresent) ∧
  (∀ (s : State) (t : Nat), s.cas.switchAt = some t → tickAfter t s.tickno = false →
    let u : State := { s with cas := { s.cas with switchAt := none } }
    (u.casRole ≠ 1 → u.cas.reverse = true → exec .ringReversal s =
      .next (({ u.turnAround with cas := { u.turnAround.cas with reverse := false } } : State).setFld F.CAS_STATUS_REVERSED
        1).refreshCasState) ∧
    (u.casRole = 1 → u.canonical = true → ∃ v : State, exec .ringReversal s = .next (v.refreshPresent.raise 0xA009
        (max (u.fld F.CAS_STATUS_PRESENT - 1) (u.fld F.CAS_ARRAY_M - 1 - (u.fld F.CAS_STATUS_PRESENT - 1))) (srcBlock 11)
        sevWarning) ∧
      v.flag F.CAS_STATUS_REVERSED = true ∧ bitAt (v.fld F.CAS_CFG_DOWN) (u.fld F.CAS_CFG_STBY_PORT) = true ∧
      v.cas = u.cas))

/-! ### Signal engines and DMA -/

namespace Sys2Proof.Machine

/-- The state after the word at the engine's PC, whose parallel moves have started, has done `d`. -/
def State.engAfter (s : State) (e : Nat) (d : Nat → Engine → State → Done) : State :=
  State.engEnd (s.engine e) e (s.engMoves e).1 (d (s.engine e).fetch (s.engMoves e).2.1 (s.engMoves e).2.2)

end Sys2Proof.Machine

/-- Arithmetic of a signal engine (R376-R379, R396): CMAC, MAC4, MAC, MPY, AOP, MOVA to an operand and to an integer register, SCM
and GOP execute where the word at PC is theirs and names their accumulator, on the operands as they stood before the word. What MOVA
leaves in an integer register, and whether it saturated there, is a free value (log entry 37). -/
def Obligations.EngineArithmeticComplete : Prop :=
  ∀ (s : State) (n : Fin 16),
    let e := n.val
    let o := s.engine e
    let mac := fun (x : Engine) (i : Nat) (v : Int) => x.putAc i (x.acc i + v)
    (∀ hi conj sub, s.engReady e opCmac (acWord (if hi then 2 else 0)) = true →
      exec (.cmac n hi conj sub) s = .next (s.engAfter e (fun _ x u =>
        let k := if hi then 2 else 0
        let sg : Int := if sub then -1 else 1
        let cj : Int := if conj then -1 else 1
        .plain (mac (mac x k (sg * (o.uAt 0 * o.vAt 0 - cj * (o.uAt 1 * o.vAt 1)))) (k + 1)
          (sg * (cj * (o.uAt 0 * o.vAt 1) + o.uAt 1 * o.vAt 0))) u))) ∧
    (∀ sub, s.engReady e opMac4 anyWord = true → exec (.mac4 n sub) s = .next (s.engAfter e (fun _ x u =>
      let sg : Int := if sub then -1 else 1
      .plain (mac (mac (mac (mac x 0 (sg * (o.uAt 0 * o.vAt 0))) 1 (sg * (o.uAt 0 * o.vAt 1))) 2 (sg * (o.uAt 0 * o.vAt 2))) 3
        (sg * (o.uAt 0 * o.vAt 3))) u))) ∧
    (∀ ac i j sub, s.engReady e opMac (acWord ac.val) = true → exec (.mac n ac i j sub) s = .next (s.engAfter e (fun _ x u =>
      .plain (mac x ac.val ((if sub then -1 else 1) * (o.uAt i.val * o.vAt j.val))) u))) ∧
    (∀ ac i j, s.engReady e opMpy (acWord ac.val) = true → exec (.mpy n ac i j) s = .next (s.engAfter e (fun _ x u =>
      .plain (x.putAc ac.val (o.uAt i.val * o.vAt j.val)) u))) ∧
    (∀ ac op, s.engReady e opAop (acWord ac.val) = true → exec (.aop n ac op) s = .next (s.engAfter e (fun _ x u =>
      .plain (x.putAc ac.val (match op with
        | .add j => x.acc ac.val + x.acc j.val
        | .sub j => x.acc ac.val - x.acc j.val
        | .neg => -(x.acc ac.val)
        | .clear => 0
        | .shift k => if 8 ≤ k.val then x.acc ac.val * (2 ^ (k.val - 8) : Nat) else x.acc ac.val / (2 ^ (8 - k.val) : Nat))) u))) ∧
    (∀ (ac : Fin 4) (i : Fin 2), s.engReady e opMova (acWord ac.val) = true → exec (.mova n ac (.u i)) s = .next (s.engAfter e (fun _ x u =>
      .plain ((x.moveAc ac.val 18).2.putOperand i.val (x.moveAc ac.val 18).1) u))) ∧
    (∀ (ac : Fin 4) (i : Fin 4), s.engReady e opMova (acWord ac.val) = true → exec (.mova n ac (.v i)) s = .next (s.engAfter e (fun _ x u =>
      .plain ((x.moveAc ac.val 18).2.putOperand (2 + i.val) (x.moveAc ac.val 18).1) u))) ∧
    (∀ (ac : Fin 4) (i : Fin 8), s.engReady e opMova (acWord ac.val) = true →
      let scaled := fun (x : Engine) (u : State) =>
        let y := x.noteScale (x.scaleOf (x.acc ac.val))
        (if (u.fresh 1).1 = 1 then y.setFlag srV 1 else y, (u.fresh 1).2)
      exec (.mova n ac (.g i)) s = .next (s.engAfter e (fun _ x u =>
        .plain ((scaled x u).1.putInt (.g i) ((scaled x u).2.fresh 32).1) ((scaled x u).2.fresh 32).2)) ∧
      exec (.mova n ac (.p i)) s = .next (s.engAfter e (fun _ x u =>
        .plain ((scaled x u).1.putInt (.p i) ((scaled x u).2.fresh 15).1) ((scaled x u).2.fresh 15).2))) ∧
    (∀ mode, s.engReady e opScm anyWord = true → exec (.scm n mode) s = .next (s.engAfter e (fun _ x u =>
      .plain { x with sr := putBits x.sr 10 2 mode.val } u))) ∧
    (∀ op d a b, s.engReady e opGop anyWord = true → exec (.gop n op d a b) s = .next (s.engAfter e (fun _ x u =>
      let r := intOp op (x.g.getD a.val 0) (x.g.getD b.val 0)
      .plain (if op = .compare then x.setNZ r else (x.setNZ r).putInt (.g d) r) u)))

/-- Movement of a signal engine (R376, R381, R392-R394, R396): NOP, loads and stores of integer registers, LDI, MOVR with the bits a
wider register leaves open free, XFER that starts a move, at once or after the one before it, and WAITX that waits for one, to its end
or to the end of the tick; and the end of a move. -/
def Obligations.EngineMovementComplete : Prop :=
  ∀ (s : State) (n : Fin 16),
    let e := n.val
    let m := s.engMoves e
    (s.engReady e opNop anyWord = true → exec (.nop n) s = .next (s.engAfter e (fun _ x u => .plain x u))) ∧
    (∀ r b a, s.engReady e opLdStG anyWord = true →
      exec (.ldg n r b a) s = .next (s.engAfter e (fun _ x u => ⟨x, u, [.int r (x.word b a)], 1, false, none⟩)) ∧
      exec (.stg n r b a) s = .next (s.engAfter e (fun _ x u => .plain (x.putWord b a (x.getInt r)) u))) ∧
    (∀ r, s.engReady e opLdi anyWord = true →
      exec (.ldi n r) s = .next (s.engAfter e (fun w x u => .plain (x.putInt r (w % 2 ^ 32)) u))) ∧
    (∀ dst src, s.engReady e opMovr anyWord = true → regWidth dst ≤ regWidth src →
      exec (.movr n dst src) s = .next (s.engAfter e (fun _ x u =>
        let p := u.putEngReg e x dst (s.engReg e src)
        if dst = .pc then ⟨p.1, p.2, [], 1, true, none⟩ else .plain p.1 p.2))) ∧
    (∀ dst src, s.engReady e opMovr anyWord = true → regWidth src < regWidth dst →
      exec (.movr n dst src) s = .next (s.engAfter e (fun _ x u =>
        let f := u.fresh (regWidth dst - regWidth src)
        let p := f.2.putEngReg e x dst (s.engReg e src + f.1 * 2 ^ regWidth src)
        if dst = .pc then ⟨p.1, p.2, [], 1, true, none⟩ else .plain p.1 p.2))) ∧
    (∀ into b (g p : Fin 8) k, s.engReady e opXfer anyWord = true → 0 < k → k ≤ 4096 →
      m.2.2.clmAllowed e (m.2.1.g.getD g.val 0) (4 * k) = true → m.2.1.move = none →
      exec (.xfer n into b g p k) s = .next (s.engAfter e (fun _ x u =>
        ⟨{ x with move := some ⟨into, b, x.g.getD g.val 0 / 4, x.p.getD p.val 0, k,
          (x.tleft : Int) - 1 - (12 + ceilDiv k 2 : Nat)⟩ }, u, [], 1, false, none⟩))) ∧
    (∀ into b (g p : Fin 8) k j, s.engReady e opXfer anyWord = true → 0 < k → k ≤ 4096 →
      m.2.2.clmAllowed e (m.2.1.g.getD g.val 0) (4 * k) = true → m.2.1.move = some j → j.due < 0 →
      exec (.xfer n into b g p k) s = .next (s.engAfter e (fun _ x u => ⟨x, u, [], x.tleft, true, none⟩))) ∧
    (∀ into b (g p : Fin 8) k j, s.engReady e opXfer anyWord = true → 0 < k → k ≤ 4096 →
      m.2.2.clmAllowed e (m.2.1.g.getD g.val 0) (4 * k) = true → m.2.1.move = some j → 0 ≤ j.due →
      exec (.xfer n into b g p k) s = .next (s.engAfter e (fun _ x u =>
        let v := (u.putEngine e x).moveDone e
        let y := v.engine e
        let wait := ((x.tleft : Int) - j.due).toNat
        ⟨{ y with move := some ⟨into, b, x.g.getD g.val 0 / 4, y.p.getD p.val 0, k,
          (y.tleft : Int) - (1 + wait : Nat) - (12 + ceilDiv k 2 : Nat)⟩ }, v, [], 1 + wait, false, none⟩))) ∧
    (s.engReady e opWaitx anyWord = true → m.2.1.move = none → exec (.waitx n) s = .next (s.engAfter e (fun _ x u => .plain x u))) ∧
    (∀ k, s.engReady e opWaitx anyWord = true → m.2.1.move = some k → k.due < 0 →
      exec (.waitx n) s = .next (s.engAfter e (fun _ x u => ⟨x, u, [], x.tleft, true, none⟩))) ∧
    (∀ k, s.engReady e opWaitx anyWord = true → m.2.1.move = some k → 0 ≤ k.due →
      exec (.waitx n) s = .next (s.engAfter e (fun _ x u =>
        let v := (u.putEngine e x).moveDone e
        ⟨v.engine e, v, [], 1 + ((x.tleft : Int) - k.due).toNat, false, none⟩))) ∧
    (∀ k, s.canonical = true → swf (fun _ => Engine.init) s.eng.engines = true → (s.engine e).move = some k →
      ((s.engine e).tleft ≤ k.due ∨ 0 ≤ k.due ∧ ((s.engine e).ended = true ∨ s.engRun e ≠ .running)) →
      ∃ t, exec (.xferComplete n) s = .next t ∧ (t.engine e).move = none ∧
        t.fld (F.LE_IRQ_PEND e) = putBits (s.fld (F.LE_IRQ_PEND e)) 2 1 1 ∧ (k.into = true → t.eng.clm = s.eng.clm) ∧
        (k.into = false → (t.engine e).bu = (s.engine e).bu ∧ (t.engine e).bv = (s.engine e).bv))

/-- Control flow of a signal engine (R380, R382-R391, R396): branches with two delay slots, the return from an interrupt, loops,
repeats, DONE, the flags, the software interrupt, TEND with the cycles it used, HALT, and the entry of an interrupt. -/
def Obligations.EngineControlComplete : Prop :=
  ∀ (s : State) (n : Fin 16),
    let e := n.val
    (s.engReady e opBr anyWord = true → exec (.br n) s = .next (s.engAfter e (fun w x u =>
      ⟨{ x with
          pc := (x.pc + 1) % 8192
          slots := 2
          pbr := if condHolds x (w / 2 ^ 54 % 16) = true then 2 ^ 31 + 2 * 2 ^ 16 + w / 2 ^ 37 % 8192 else putBits x.pbr 31 1 0 },
        u, [], 1, true, none⟩))) ∧
    (s.engReady e opCall anyWord = true → exec (.call n) s = .next (s.engAfter e (fun w x u =>
      ⟨(x.putInt (.g 7) ((x.pc + 3) % 8192)).branch true (w / 2 ^ 37 % 8192), u, [], 1, true, none⟩))) ∧
    (s.engReady e opRet anyWord = true → exec (.ret n) s = .next (s.engAfter e (fun _ x u =>
      ⟨x.branch true (x.g.getD 7 0 % 8192), u, [], 1, true, none⟩))) ∧
    (s.engReady e opRti anyWord = true → exec (.rti n) s = .next (s.engAfter e (fun _ x u =>
      let left := if bitAt x.pbr 31 then bitsAt x.pbr 16 2 else 0
      let y : Engine := { x with
        pc := x.ira
        sr := x.ssr
        irq := false
        slots := left
        reps := decide (0 < x.rpc) }
      ⟨if bitAt x.pbr 31 ∧ left = 0 then { y with pc := bitsAt x.pbr 0 13, pbr := putBits x.pbr 31 1 0 } else y, u, [], 3, true,
        none⟩))) ∧
    (s.engReady e opLoop anyWord = true →
      let w := (s.engine e).fetch
      let k := countOf (s.engine e) w
      (k = 0 → exec (.loop n) s = .next (s.engAfter e (fun _ x u => ⟨{ x with pc := nextPc (wordAddr w) }, u, [], 2, true, none⟩))) ∧
      (0 < k → (s.engine e).lfp < 4 → exec (.loop n) s = .next (s.engAfter e (fun _ x u =>
        ⟨{ x with
            lf := x.lf.set x.lfp (nextPc x.pc * 2 ^ 35 + wordAddr w * 2 ^ 22 + k)
            lfp := x.lfp + 1
            pc := nextPc x.pc }, u, [], 2, true, none⟩))) ∧
      (0 < k → 4 ≤ (s.engine e).lfp → exec (.loop n) s = .next (s.engAfter e (fun _ x u => .bad x u 3)))) ∧
    (s.engReady e opLeave anyWord = true →
      ((s.engine e).lfp ≠ 0 → exec (.leave n) s = .next (s.engAfter e (fun _ x u => .plain { x with lfp := x.lfp - 1 } u))) ∧
      ((s.engine e).lfp = 0 → exec (.leave n) s = .next (s.engAfter e (fun _ x u => .bad x u 4)))) ∧
    (s.engReady e opRpt anyWord = true →
      let k := countOf (s.engine e) (s.engine e).fetch
      (k = 0 → exec (.rpt n) s = .next (s.engAfter e (fun _ x u =>
        ⟨({ x with
            pc := nextPc x.pc
            rpc := 0 } : Engine).loopBack 4, u, [], 1, true, none⟩))) ∧
      (0 < k → exec (.rpt n) s = .next (s.engAfter e (fun _ x u =>
        ⟨{ x with
            pc := nextPc x.pc
            rpc := k
            reps := true }, u, [], 1, true, none⟩)))) ∧
    (s.engReady e opTend anyWord = true → s.canonical = true → swf (fun _ => Engine.init) s.eng.engines = true →
      let t := State.engEnd (s.engine e) e [] (.plain { s.engine e with ended := true } s)
      let used := t.cpt - (t.engine e).tleft
      let u := t.setFld (F.LE_CYCLES_LAST e) used
      exec (.tend n) s = .next ((u.setFld (F.LE_CYCLES_PEAK e) (max (u.fld (F.LE_CYCLES_PEAK e)) used)).publish e) ∧
        (t.engine e).ended = true) ∧
    (s.engReady e opDone anyWord = true → exec (.done n) s = .next (s.engAfter e (fun w x u =>
      .plain { x with done := some (w % 2 ^ 8) } u))) ∧
    (s.engReady e opSwi anyWord = true → exec (.swi n) s = .next (s.engAfter e (fun _ x u =>
      .plain x (u.setFld (F.LE_IRQ_PEND e) (putBits (u.fld (F.LE_IRQ_PEND e)) 0 1 1))))) ∧
    (s.engReady e opEiDi (fun w => bitsAt w 54 4 == 0) = true → exec (.ei n) s = .next (s.engAfter e (fun _ x u =>
      .plain (x.setFlag srIE 1) u))) ∧
    (s.engReady e opEiDi (fun w => bitsAt w 54 4 == 1) = true → exec (.di n) s = .next (s.engAfter e (fun _ x u =>
      .plain (x.setFlag srIE 0) u))) ∧
    (s.engReady e opHalt anyWord = true →
      exec (.halt n) s = .next ((s.putEngine e { s.engine e with begun := true }).engFault e 6)) ∧
    (∀ i, s.engActive e = true → s.irqSource e = some i → (s.engine e).flag srIE = true → (s.engine e).irq = false →
      (s.flag (F.LE_STATUS_COMPAT e) = true → (s.engine e).slots = 0 ∧ (s.engine e).loads = [] ∧ (s.engine e).rpc = 0) →
      let x : Engine := { (s.engine e).loads.foldl Engine.endLoad (s.engine e) with loads := [] }
      exec (.interruptEntry n) s =
        .next ((s.setFld (F.LE_IRQ_PEND e) (putBits (s.fld (F.LE_IRQ_PEND e)) i 1 0)).spend e { x with
          ira := x.pc
          ssr := x.sr
          sr := putBits x.sr srIE 1 0
          pc := 8 + 4 * i
          slots := 0
          reps := false
          irq := true } 3))

/-- A plain instruction in straight-line code: PC moves on by one word, one cycle of the tick is spent, and what the row did to the engine
stands; the loads of the word before it have landed. -/
def Obligations.StraightLineAdvancesPc : Prop :=
  ∀ (u : State) (x y : Engine) (e : Nat) (l : List LoadEff), u.canonical = true →
    swf (fun _ => Engine.init) u.eng.engines = true → x.loads = [] → y.slots = 0 → y.reps = false → y.atLoopEnd = false →
    e < 16 → y.pc < 8192 →
    let t := State.engEnd x e l (.plain y u)
    (t.engine e).pc = (y.pc + 1) % 8192 ∧ (t.engine e).tleft = y.tleft - 1 ∧ (t.engine e).ac = y.ac ∧
    (t.engine e).g = y.g ∧ (t.engine e).loads = l ∧ (t.engine e).sr = y.sr ∧ t.fld (F.LE_PC_PC e) = (y.pc + 1) % 8192 ∧
    t.engRun e = u.engRun e ∧ ∀ j, j ≠ e → t.engine j = u.engine j

/-- Engine commands (R400, R401, R403, R404): a verified kernel is loaded on the named engines, engines start, stop and are rung,
and a spare takes the role of a retired engine. -/
def Obligations.EngineCommandsComplete : Prop :=
  (∀ (s : State) (tag : Nat) (v : SigVerdict) (c : Cmd) (u : State) (o : List Byte), Starts s 0x0F00 tag c u →
    u.kernelObj (leAt c.payload 0 2) = some o → u.objReason o v = none →
    let k := objBody o
    let est := leAt k 8 1 == 1
    let w := (u.engLive (engMask c)).foldl (fun s e =>
      let p := (if est then s.loseEstimation e else s).loadKernel e k o (bitAt (leAt c.payload 4 1) 0) true
      if est then p.startEngine e else p) u
    exec (.engLoadKernel tag v) s = .next (w.finishPart c.tag .ok (w.engPartial (engMask c)).1 (w.engPartial (engMask c)).2)) ∧
  (∀ (s : State) (tag : Nat) (c : Cmd) (u : State), Starts s 0x0F01 tag c u →
    let run := fun (f : State → Nat → State) (reply : List Byte) =>
      let w := (u.engLive (engMask c)).foldl f (u.passParams c)
      w.finishPart c.tag .ok (w.engPartial (engMask c)).1 (reply ++ (w.engPartial (engMask c)).2)
    (c.op = 0 → c.payload.drop 8 = [] → exec (.engStartKernel tag) s = .next (run (fun s e =>
      if s.engRun e = .loaded then
        (s.putEngine e { s.engine e with
          init_ := true
          ended := true
          begun := false
          halt := false }).setEngRun e .running
      else s) (leBytes 4 (tickAdd u.tickno 1)))) ∧
    (c.op = 1 → exec (.engStop tag) s = .next (run (fun s e =>
      match s.engRun e with
      | .running => s.putEngine e { s.engine e with halt := true }
      | .faulted => (s.setFld (F.LE_STATUS_FAULT e) 0).setEngRun e .loaded
      | _ => s) [])) ∧
    (c.op = 2 → exec (.engDoorbell tag) s = .next (run (fun s e =>
      if s.engRun e = .running then s.setFld (F.LE_IRQ_PEND e) (putBits (s.fld (F.LE_IRQ_PEND e)) 1 1 1) else s) []))) ∧
  (∀ (s : State) (e : Fin 16) (b : Nat), s.engRun e.val = .retired → s.role e.val ≠ roleSpare → s.role e.val ≠ roleNone →
    (List.range 16).find? (fun i => (s.loseEstimation e.val).role i == roleSpare &&
      (s.loseEstimation e.val).engRun i != .retired && !(s.loseEstimation e.val).pinnedUnit (176 + i)) = some b →
    exec (.spareTakeover e) s = .next (((((s.loseEstimation e.val).takeOver e.val b).addFld F.LE_TAKEOVERS_COUNT 1).raise 0xB004
      (256 * e.val + b) (srcEngine e.val) sevNotice).refreshReplace))

/-- DMA commands and host writes (R408, R416, R421, R423): a submit starts its channel and waits or ends, a wait that lasts 1 s times
out, a doorbell starts a channel or has its CTRL word read again, and RESET returns it to IDLE. -/
def Obligations.DmaCommandsComplete : Prop :=
  (∀ (s : State) (tag : Nat) (c : Cmd) (u : State), Starts s 0x0E00 tag c u → ctxDmaSubmit u c = none →
    let n := leAt c.payload 0 1 % 16
    let v := if u.dmaSt n = .error then u.dmaReset n else u
    let fresh := decide (v.dmaSt n = .idle)
    let w := (((((v.setFld (F.DMA_CH_CTRL_SHARE n) (leAt c.payload 2 1)).setFld (F.DMA_CH_MAXCHAIN_MAX n)
      (leAt c.payload 12 4)).setFld (F.DMA_CH_HEAD_LO_ADDR n) (leAt c.payload 4 6 / 32)).setFld (F.DMA_CH_HEAD_HI_ADDR n)
      (leAt c.payload 4 6 / 2 ^ 32)).dmaStart n fresh)
    (leAt c.payload 1 1 % 2 = 1 → exec (.dmaSubmit tag) s =
      .next { w with dma := { w.dma with waits := w.dma.waits ++ [(n, c.tag, w.elapsed)] } }) ∧
    (leAt c.payload 1 1 % 2 = 0 → exec (.dmaSubmit tag) s = .next (w.finishNow c.tag .ok []))) ∧
  (∀ (s : State) (tag : Nat) (w : Nat × Nat × Nat), s.dma.waits.find? (fun w => w.2.1 == tag) = some w →
    w.2.2 + 3840000 ≤ s.elapsed → exec (.dmaSubmitWaitTimeout tag) s = .next (({ s with dma := { s.dma with
      waits := s.dma.waits.filter (fun x => x.2.1 != tag) } } : State).finishNow tag .timeout
      (({ s with dma := { s.dma with waits := s.dma.waits.filter (fun x => x.2.1 != tag) } } : State).dmaReply w.1))) ∧
  (∀ (s : State) (n : Fin 16), s.reaches (0x8010C + 0x40 * n.val) → s.dmaHeld n.val = false →
    (s.dmaSt n.val = .idle → exec (.dmaChDoorbell n) s = .next (s.dmaStart n.val true)) ∧
    ((s.dmaSt n.val = .run ∨ s.dmaSt n.val = .retry) → exec (.dmaChDoorbell n) s =
      .next ((s.putDmaChan n.val { s.dmaChan n.val with
        preWait := false
        pre := [] }).setFld (F.DMA_CH_STATUS_REREAD n.val) 1)) ∧
    (s.dmaSt n.val = .ended → (s.dmaChan n.val).fetch = .ctrl →
      exec (.dmaChDoorbell n) s = .next (s.setFld (F.DMA_CH_STATUS_REREAD n.val) 1)) ∧
    (s.dmaSt n.val = .ended → (s.dmaChan n.val).fetch ≠ .ctrl →
      exec (.dmaChDoorbell n) s = .next ((s.putDmaChan n.val { s.dmaChan n.val with chain := 0 }).reread n.val))) ∧
  (∀ (s : State) (n : Fin 16), s.reaches (0x80100 + 0x40 * n.val) → s.dmaHeld n.val = false → s.canonical = true →
    ∃ t, exec (.dmaChReset n) s = .next t ∧ t.dmaSt n.val = .idle ∧ t.fld (F.DMA_CH_STATUS_REREAD n.val) = 0 ∧
      t.fld (F.DMA_CH_STATUS_PAUSED n.val) = 0 ∧ (s.dmaSt n.val = .error → t.fld (F.DMA_CH_ERR_REASON n.val) = 0) ∧
      bitAt (t.fld F.DMA_STATUS_ACTIVE) n.val = false ∧ t.hostMem = s.hostMem)

/-- A channel at work (R407, R410-R421): a burst granted in turn on a free bus, a descriptor read, a descriptor done with its CRC,
its read-back and its counts, a time-out that backs off twice and then ends the chain, the retry that counts, and a bus error. -/
def Obligations.DmaEventsComplete : Prop :=
  (∀ (s : State) (cy : Nat) (host : List Byte) (e : RegEnv) (n : Nat),
    let now := 256 * s.elapsed + cy % 256
    (now < s.dma.freeWr → exec (.dmaBurstGrant true cy host e) s = .next s) ∧
    (s.dma.freeWr ≤ now → nextGrant s.dma.lastWr (s.writeReady now) = some n →
      let v : State := { s with dma := { s.dma with freeWr := now + (s.dmaChan n).beats true } }
      ((s.dmaChan n).crcDue = false → exec (.dmaBurstGrant true cy host e) s =
        .next (v.writeBurst (fun s a v => s.writeWord a v e) n now)) ∧
      ((s.dmaChan n).crcDue = true →
        let w := v.putDmaChan n { v.dmaChan n with nextWr := v.limitAfter n now 1 }
        exec (.dmaBurstGrant true cy host e) s = .next
          ((({ w with dma := { w.dma with lastWr := n } } : State).setFld (F.DMA_CH_ERR_RETRIES n) 0).storeCrc
            (fun s a v => s.writeWord a v e) n))) ∧
    (now < s.dma.freeRd → exec (.dmaBurstGrant false cy host e) s = .next s) ∧
    (s.dma.freeRd ≤ now → nextGrant s.dma.lastRd (s.readReady now) = some n →
      let v : State := { s with dma := { s.dma with freeRd := now + (s.dmaChan n).beats false } }
      ((s.dmaChan n).backDue = false → exec (.dmaBurstGrant false cy host e) s =
        .next (v.readBurst (fun s a => ((s.readWord a).1, (s.readWord a).2.2)) n now host)) ∧
      ((s.dmaChan n).backDue = true →
        let w := v.putDmaChan n { v.dmaChan n with nextRd := v.limitAfter n now 1 }
        exec (.dmaBurstGrant false cy host e) s = .next
          ((({ w with dma := { w.dma with lastRd := n } } : State).setFld (F.DMA_CH_ERR_RETRIES n) 0).readLast n)))) ∧
  (∀ (s : State) (n : Fin 16) (d : List Byte), s.dmaLive n.val = true → d.length = 32 →
    ((s.dmaChan n.val).fetch = .whole → exec (.dmaDescriptorRead n d) s =
      .next ((s.setFld (F.DMA_CH_ERR_RETRIES n.val) 0).takeDesc n.val d)) ∧
    ((s.dmaChan n.val).fetch = .none → (s.dmaChan n.val).preWait = true → exec (.dmaDescriptorRead n d) s =
      .next ((s.setFld (F.DMA_CH_ERR_RETRIES n.val) 0).putDmaChan n.val { s.dmaChan n.val with
        preWait := false
        pre := d })) ∧
    ((s.dmaChan n.val).fetch = .ctrl →
      let v := (s.setFld (F.DMA_CH_ERR_RETRIES n.val) 0).putDmaChan n.val { s.dmaChan n.val with fetch := .none }
      exec (.dmaDescriptorRead n d) s = .next (if descEoc d = true ∧ s.flag (F.DMA_CH_STATUS_REREAD n.val) = true then
        v.reread n.val else if descEoc d = true then v.dmaEnd n.val else v.dmaContinue n.val))) ∧
  (∀ (s : State) (n : Fin 16) (d : List Byte), s.dmaSt n.val = .ended → (s.dmaChan n.val).fetch = .ctrl → d.length = 32 →
    let v := (s.setFld (F.DMA_CH_ERR_RETRIES n.val) 0).putDmaChan n.val { s.dmaChan n.val with fetch := .none }
    exec (.dmaDescriptorRead n d) s = .next (if descEoc d = true then
      (if s.flag (F.DMA_CH_STATUS_REREAD n.val) = true then v.reread n.val else v)
      else ((v.setDmaSt n.val .run).dozePause n.val).dmaContinue n.val)) ∧
  (∀ (s : State) (n : Nat) (d : List Byte),
    (descEoc d = false → descNext d = s.dmaCur n → s.takeDesc n d = s.dmaError n 2) ∧
    ((descEoc d = true ∨ descNext d ≠ s.dmaCur n) → descOk d = false → s.takeDesc n d = s.dmaError n 5) ∧
    ((descEoc d = true ∨ descNext d ≠ s.dmaCur n) → descOk d = true →
      (s.spaceReady (descSrcSpace d) = true ∧ s.spaceReady (descDstSpace d) = true) →
      s.takeDesc n d = s.putDmaChan n { s.dmaChan n with
        desc := d
        fetch := .none
        preWait := !descEoc d
        pre := []
        buf := []
        got := 0
        crc := if descCrcCont d then (s.dmaChan n).crc else 2 ^ 32 - 1
        crcDone := false
        backDone := false })) ∧
  (∀ (s : State) (n : Fin 16) (e : RegEnv), s.dmaLive n.val = true → (s.dmaChan n.val).fetch = .none →
    (s.dmaChan n.val).desc ≠ [] → (s.dmaChan n.val).buf = [] → descLen (s.dmaChan n.val).desc ≤ (s.dmaChan n.val).got →
    let d := (s.dmaChan n.val).desc
    let v := 2 ^ 32 - 1 - (s.dmaChan n.val).crc % 2 ^ 32
    let a := if descCrcStore d ∧ (s.dmaChan n.val).crcDone = false then
      ((s.putDmaChan n.val { s.dmaChan n.val with crcDone := true }).spaceWrite (fun s a v => s.writeWord a v e) (descDstSpace d)
        (descCrcAddr d) (leBytes 4 v)).setFld (F.DMA_CH_CRC_VALUE n.val) v else s
    let a := if (a.dmaChan n.val).backDue then a.readLast n.val else a
    let b := ((a.addFld (F.DMA_CH_DESC_COUNT_COUNT n.val) 1).setFld (F.DMA_CH_LAST_TAG_TAG n.val) (descTag d)).setFld
      (F.DMA_CH_ERR_RETRIES n.val) 0
    let z := if descIrq d then b.setIrq F.DMA_IRQ_STAT_DONE (putBits (b.fld F.DMA_IRQ_STAT_DONE) n.val 1 1) else b
    (z.flag (F.DMA_CH_STATUS_REREAD n.val) = false → descEoc d = true →
      exec (.dmaDescriptorComplete n e) s = .next (z.dmaEnd n.val)) ∧
    (z.flag (F.DMA_CH_STATUS_REREAD n.val) = false → descEoc d = false →
      exec (.dmaDescriptorComplete n e) s = .next (z.dmaContinue n.val)) ∧
    (z.flag (F.DMA_CH_STATUS_REREAD n.val) = true →
      exec (.dmaDescriptorComplete n e) s = .next (z.reread n.val))) ∧
  (∀ (s : State) (n : Fin 16), s.dmaLive n.val = true →
    let u := (s.addFld (F.DMA_CH_TIMEOUTS_COUNT n.val) 1).raiseFree 0xC001 (srcDma n.val) sevWarning
    let r := u.fld (F.DMA_CH_ERR_RETRIES n.val)
    (r < 2 → exec (.dmaBusTimeout n) s = .next ((u.putDmaChan n.val { u.dmaChan n.val with
      backOff := (r + 1) * u.fld F.DMA_TIMEOUT_US * 384 / 100 }).setDmaSt n.val .retry)) ∧
    (2 ≤ r → exec (.dmaBusTimeout n) s = .next (u.dmaError n.val 4)) ∧
    exec (.dmaBusError n) s = .next (s.dmaError n.val 7)) ∧
  (∀ (s : State) (n : Fin 16), s.dmaSt n.val = .retry → s.flag (F.DMA_CH_STATUS_PAUSED n.val) = false →
    (s.dmaChan n.val).backOff = 0 →
    exec (.dmaRetry n) s = .next ((s.addFld (F.DMA_CH_ERR_RETRIES n.val) 1).setDmaSt n.val .run)) ∧
  ∀ (s : State) (n r : Nat), s.canonical = true → n < 16 → (s.dmaError n r).dmaSt n = .error ∧
    (s.dmaError n r).fld (F.DMA_CH_ERR_REASON n) = r % 2 ^ (F.DMA_CH_ERR_REASON n).width ∧
    (s.dmaError n r).hostMem = s.hostMem

/-! ### Clocks, housekeeping, calibration and faults -/

/-- Clock and gate commands (R433, R435, R438, R442, R447-R450): a band table, a relock, dividers, an operating point, gates closed, with
GATE_BUSY for those that a busy bus keeps open at the commit, and released; the ramp's end; the divider reset armed, refused and cancelled. -/
def Obligations.ClockCommandsComplete : Prop :=
  (∀ (s : State) (tag : Nat) (c : Cmd) (u : State), Starts s 0x0300 tag c u →
    (c.op = 0 → ∃ v : State, exec (.clkSetBandTable tag) s = .next (v.finishNow c.tag .ok []) ∧ v.regs = u.regs ∧
      v.clk.bands = (List.range 64).foldl (fun m b => sput factoryBandOf m (64 * leAt c.payload 1 1 + b)
        (leAt c.payload (4 + 4 * b) 4)) u.clk.bands) ∧
    (c.op = 1 → exec (.clkRelock tag) s = .next (u.clockRow (fun v =>
      let w := (maskList 8 (leAt c.payload 1 1)).foldl (fun s l =>
        (s.setFld (F.CLK_LOOP_CFG_BW l) (leAt c.payload 3 1)).planLoop l) (v.setFld F.CLK_CFG_REF_SEL (leAt c.payload 2 1))
      { w with clk := { w.clk with relocking := w.clk.relocking ++ [(c.tag, leAt c.payload 1 1)] } })))) ∧
  (∀ (s : State) (tag : Nat) (c : Cmd) (u : State), Commits s 0x0301 tag c u → ∃ t k, exec (.clkUpdateDividers tag) s = .next t ∧
    t.armed = insertCommit u.armed k ∧ k.tick = u.commitTick c.actTick ∧ k.units = [.outputDividers] ∧ SameStores u t ∧
    k.changes = (if bitAt (leAt c.payload 0 1) 0 then [Change.reg 0x20020 0x801FFFFF
        (leAt c.payload 2 2 + 2 ^ 16 * (leAt c.payload 1 1 % 32) + 2 ^ 31 * (leAt c.payload 1 1 / 128))] else []) ++
      (if bitAt (leAt c.payload 0 1) 1 then [Change.reg 0x20024 0x800003FF
        (leAt c.payload 4 2 + 2 ^ 31 * leAt c.payload 6 1)] else [])) ∧
  (∀ (s : State) (tag : Nat) (c : Cmd) (u : State), Commits s 0x0202 tag c u →
    (c.op = u.fld F.CLK_STATUS_OP → exec (.pwrSetOp tag) s = .next (u.armCmd c [.operatingPoint] [] [] .ok false [])) ∧
    (c.op ≠ u.fld F.CLK_STATUS_OP →
      let at_ := u.commitTick c.actTick
      let fin := if c.op < u.fld F.CLK_STATUS_OP then at_ else tickAdd at_ (1 + 32 * opSteps c.op (u.fld F.CLK_STATUS_OP))
      let v := u.setFld F.CLK_STATUS_SEQ_BUSY 1
      exec (.pwrSetOp tag) s = .next (({ v with clk := { v.clk with opChange := some ⟨c.op, fin, false⟩ } } : State).armCmd c
        [.operatingPoint] [.opPoint c.op] [] .ok false []))) ∧
  (∀ (s : State) (o : OpChange), s.clk.opChange = some o → o.applied = true → tickAfter o.rampEnd s.tickno = false →
    exec .opRampComplete s = .next (({ s.setFld F.CLK_STATUS_SEQ_BUSY 0 with clk := { s.clk with opChange := none } } :
      State).powerPoll)) ∧
  (∀ (s : State) (tag : Nat) (c : Cmd) (u : State), Commits s 0x0203 tag c u →
    let ns := (gateMask c).filter (fun n => !u.gateRetired n)
    (∀ busy : List Nat, c.op = 0 → exec (.pwrGateClose tag busy) s = .next (u.armCmd c [.gatingTree] [.gateClose ns busy] [] .ok
      (gatePart u c).1 (gatePart u c).2)) ∧
    (c.op = 1 → exec (.pwrGateRelease tag) s = .next (u.armCmd c [.gatingTree] [.gateRelease ns] [] .ok (gatePart u c).1
      (gatePart u c).2))) ∧
  (∀ (s : State) (ns busy : List Nat) (k : Commit), k.changes = [.gateClose ns busy] →
    let stuck := ns.filter (fun n => s.gateOpen n && ns.any (fun m => busy.contains m && (gateAncestors m).contains n))
    let t := s.actChange (.gateClose ns busy)
    (stuck = [] → t.reg F.CLK_GATE_REFUSED_COUNT.addr = (s.pinNodes ns true).reg F.CLK_GATE_REFUSED_COUNT.addr) ∧
    (stuck ≠ [] → t.commitResults k =
      k.results.map (fun r => (r.1, { r.2 with status := .gateBusy, payload := leBytes 24 (listMask 192 stuck) })))) ∧
  (∀ s : State, s.reaches 0x2000C →
    ((s.tickMode = .stopped ∨ s.safeBy safeRef = true) → exec .clkSyncArm s = .next (s.setFld F.CLK_SYNC_ARM 1)) ∧
    (s.tickMode ≠ .stopped → s.safeBy safeRef = false → exec .clkSyncArm s = .next (s.setFld F.CLK_SYNC_REFUSED 1)) ∧
    exec .clkSyncCancel s = .next (s.clockRow (fun s =>
      if (s.setFld F.CLK_SYNC_ARM 0).mon = .resync then (s.setFld F.CLK_SYNC_ARM 0).releaseSafe
      else s.setFld F.CLK_SYNC_ARM 0)))

/-- Loops and the safe state (Tables 15-3 and 15-7, R430, R443-R445): a loop locks, fails or unlocks, a source trips with the mark
that a canonical state then holds, and a source that clears. -/
def Obligations.LoopAndSafeRowsComplete : Prop :=
  (∀ (s : State) (l : Fin 8), s.loop l.val = .locking →
    (l.val ≠ 5 → exec (.loopLock l) s = .next (s.clockRow (fun s => (((s.setLoop l.val .locked).addFld
      (F.CLK_LOOP_STATUS_LOCKS l.val) 1).raise 0x2001 l.val (srcLoop l.val) sevInfo).tryRelease))) ∧
    (l.val = 5 → exec (.loopLock l) s = .next (s.clockRow (fun s =>
      let u := ((s.setLoop 5 .locked).addFld (F.CLK_LOOP_STATUS_LOCKS 5) 1).raise 0x2001 5 (srcLoop 5) sevInfo
      (if u.fallbackKept = false then u.setFld F.CLK_STATUS_CTL_FALLBACK 0 else u).tryRelease))) ∧
    (2 ≤ sget (fun _ => 0) s.clk.attempts l.val → exec (.loopLockTimeout l) s =
      .next (s.clockRow (fun s => (s.setLoop l.val .failed).raise 0x2002 l.val (srcLoop l.val) sevError))) ∧
    (∀ b, sget (fun _ => 0) s.clk.attempts l.val < 2 → s.nearestBand l.val (some (s.fld (F.CLK_LOOP_STATUS_BAND l.val))) = some b →
      exec (.loopLockTimeout l) s = .next (s.clockRow (fun s =>
        { s.setFld (F.CLK_LOOP_STATUS_BAND l.val) b with clk := { s.clk with
          attempts := sput (fun _ => 0) s.clk.attempts l.val 2 } })))) ∧
  (∀ (s : State) (l : Fin 8), s.loop l.val = .locked → s.refPresent l.val = true →
    exec (.clkUnlock l) s = .next (s.clockRow (fun s =>
      let u : State := { s.setLoop l.val .locking with clk := { s.clk with
        attempts := sput (fun _ => 0) s.clk.attempts l.val 1 } }
      (u.addFld (F.CLK_LOOP_UNLOCKS_COUNT l.val) 1).raise 0x2003 l.val (srcLoop l.val) sevWarning))) ∧
  (∀ s : State, s.canonical = true → (s.setLoop 5 .locking).flag F.CLK_STATUS_CTL_FALLBACK = true) ∧
  (∀ s : State, s.pwr.off = false →
    exec .clkRefLoss s = .next ((s.setPins false s.pwr.lanePresent s.pwr.safePin).clockRow (fun s => s.trip safeRef)) ∧
    (s.flag F.CLK_CFG_MON_LANE = true →
      exec .clkLaneLoss s = .next ((s.setPins s.pwr.refPresent false s.pwr.safePin).clockRow (fun s => s.trip safeLane))) ∧
    exec .safeNLow s = .next ((s.setPins s.pwr.refPresent s.pwr.lanePresent true).clockRow (fun s => s.trip safePin))) ∧
  (∀ s : State, exec .safeNHigh s =
    .next ((s.setPins s.pwr.refPresent s.pwr.lanePresent false).clockRow (fun s => s.clearSource safePin))) ∧
  (∀ s : State,
    exec (.clockSourceQualified false) s =
      .next ((s.setPins true s.pwr.lanePresent s.pwr.safePin).clockRow (fun s => (s.clearSource safeRef).lateRelocks)) ∧
    exec (.clockSourceQualified true) s =
      .next ((s.setPins s.pwr.refPresent true s.pwr.safePin).clockRow (fun s => (s.clearSource safeLane).lateRelocks))) ∧
  (∀ (s : State) (b : Nat), s.canonical = true → b < 3 → bitAt (s.fld F.CLK_STATUS_SAFE_SRC) b = false →
    (s.trip b).fld F.CLK_STATUS_SAFE_SRC = s.fld F.CLK_STATUS_SAFE_SRC + 2 ^ b ∧ (s.trip b).flag F.CLK_STATUS_SAFE = true ∧
    (s.trip b).mon = .safe) ∧
  ∀ (s : State) (b : Nat), s.canonical = true → b < 3 → s.mon = .safe → bitAt (s.fld F.CLK_STATUS_SAFE_SRC) b = true →
    (s.clearSource b).fld F.CLK_STATUS_SAFE_SRC = s.fld F.CLK_STATUS_SAFE_SRC - 2 ^ b ∧
    (s.fld F.CLK_STATUS_SAFE_SRC ≠ 2 ^ b → (s.clearSource b).mon = .safe)

/-- Housekeeping (R499-R503, R518): a round stores its readings, a table or an urgent conversion ends, an urgent request is taken,
the FIFO is flushed, a new table loaded. -/
def Obligations.HousekeepingRowsComplete : Prop :=
  (∀ (s : State) (temps : List Int) (supplies : List Nat),
    exec (.housekeepingRound temps supplies) s = .next ((s.round temps supplies).tempTriggers.bootPoll)) ∧
  (∀ (s : State) (v : Nat), s.hk.newTable = none →
    let ch := s.fld F.HK_URGENT_CHANNEL
    (s.flag F.HK_STATUS_URGENT_BUSY = true → ch < 36 → s.canonical = true →
      ∃ t, exec (.snowdropConversion v) s = .next t ∧ t.flag F.HK_STATUS_URGENT_BUSY = false ∧
        t.flag F.HK_URGENT_RES_VALID = ((s.setFld F.HK_URGENT_GO 0).setFld F.HK_STATUS_URGENT_BUSY 0).convertible ch ∧
        t.flag F.HK_URGENT_GO = false ∧
        t.flag F.HK_URGENT_RES_OPEN = false ∧ t.fld F.HK_URGENT_RES_CHANNEL = ch ∧
        t.fld F.HK_URGENT_RES_VALUE = v % 2 ^ 16 ∧ t.hk = s.hk) ∧
    (s.flag F.HK_STATUS_URGENT_BUSY = false → s.flag F.HK_STATUS_TABLE_RUN = true →
      let e := s.seqEntry (s.fld F.HK_SEQ_CFG_POS)
      (s.convertible e.channel = false → exec (.snowdropConversion v) s = .next s.nextEntry) ∧
      (s.convertible e.channel = true → s.openWire e.channel v = false → s.hk.fifo.length < 256 → s.hk.owed < e.repeats →
        ∃ t, exec (.snowdropConversion v) s = .next t ∧
          t.hk.fifo = s.hk.fifo ++ [⟨e.channel, s.hk.seqNo, v % 2 ^ 16, false⟩] ∧ t.hk.seqNo = (s.hk.seqNo + 1) % 256 ∧
          t.hk.owed = s.hk.owed + 1 ∧ t.regs = (s.setFld F.HK_FIFO_LEVEL_LEVEL (s.hk.fifo.length + 1)).regs))) ∧
  (∀ (s : State) (ch : Fin 64) (avg : Fin 8), s.canonical = true → s.reaches 0x60020 →
    s.flag F.HK_STATUS_URGENT_BUSY = false → ∃ t, exec (.hkUrgentRequest ch avg) s = .next t ∧
      t.flag F.HK_STATUS_URGENT_BUSY = true ∧ t.flag F.HK_URGENT_GO = true ∧ t.fld F.HK_URGENT_CHANNEL = ch.val ∧
      t.fld F.HK_URGENT_AVG = min avg.val 4 ∧ t.flag F.HK_URGENT_RES_VALID = false) ∧
  (∀ s : State, s.canonical = true → s.reaches 0x6001C → ∃ t, exec .hkFifoFlush s = .next t ∧ t.hk.fifo = [] ∧
    t.fld F.HK_FIFO_LEVEL_LEVEL = 0 ∧ t.hk.seqNo = s.hk.seqNo) ∧
  (∀ (s : State) (tag : Nat) (c : Cmd) (u : State), Starts s 0x0A02 tag c u →
    let v : State := { u with hk := { u.hk with newTable := some (loadTable c, bitAt (leAt c.payload 1 1) 0) } }
    ((u.flag F.HK_STATUS_URGENT_BUSY = true ∨ u.flag F.HK_STATUS_TABLE_RUN = true) →
      exec (.hkLoadSequence tag) s = .next (v.finishNow c.tag .ok [])) ∧
    (u.flag F.HK_STATUS_URGENT_BUSY = false → u.flag F.HK_STATUS_TABLE_RUN = false →
      exec (.hkLoadSequence tag) s = .next (v.takeTable.finishNow c.tag .ok [])))

/-- R502: a table result enters the FIFO behind the older ones with its channel and the next result sequence; one that finds 256 results
there is dropped and counted, and its sequence number is used all the same. A read removes the oldest result, and of an empty FIFO it
answers VALID 0 and removes nothing. -/
def Obligations.HkFifoKeepsOrderAndGaps : Prop :=
  ∀ s : State, s.canonical = true →
    (∀ (ch v : Nat) (o : Bool), (s.pushResult ch v o).hk.seqNo = (s.hk.seqNo + 1) % 256 ∧
      (s.hk.fifo.length < 256 → (s.pushResult ch v o).hk.fifo = s.hk.fifo ++ [⟨ch, s.hk.seqNo, v % 2 ^ 16, o⟩] ∧
        (s.pushResult ch v o).fld F.HK_FIFO_LEVEL_LEVEL = s.hk.fifo.length + 1 ∧
        (s.pushResult ch v o).fld F.HK_FIFO_OVF_COUNT = s.fld F.HK_FIFO_OVF_COUNT) ∧
      (256 ≤ s.hk.fifo.length → (s.pushResult ch v o).hk.fifo = s.hk.fifo ∧
        (s.pushResult ch v o).fld F.HK_FIFO_OVF_COUNT =
          min (s.fld F.HK_FIFO_OVF_COUNT + 1) (2 ^ F.HK_FIFO_OVF_COUNT.width - 1))) ∧
    (∀ (r : HkResult) (l : List HkResult), s.hk.fifo = r :: l → r.channel < 64 → r.seq < 256 → r.value < 2 ^ 16 →
      (s.readHkFifo).2.hk.fifo = l ∧ (s.readHkFifo).1 / 2 ^ 31 = 1 ∧ (s.readHkFifo).1 / 2 ^ 24 % 64 = r.channel ∧
      (s.readHkFifo).1 / 2 ^ 16 % 256 = r.seq ∧ (s.readHkFifo).1 % 2 ^ 16 = r.value) ∧
    (s.hk.fifo = [] → (s.readHkFifo).1 / 2 ^ 31 = 0 ∧ (s.readHkFifo).2 = s)

/-- Calibration (R512, R513, R515-R517, Table 18-5): a command makes its attempts due, its wait ends after 1 s, a policy is stored,
an attempt starts, a run agrees or goes on, a hold-off ends, and a starved attempt is reported once. -/
def Obligations.CalibrationRowsComplete : Prop :=
  (∀ (s : State) (tag : Nat) (c : Cmd) (u : State), Starts s 0x0A00 tag c u →
    let item := leAt c.payload 0 1
    let now := leAt c.payload 1 1 == 1
    let live := (calUnitsOf c).filter (fun x => !u.calRetired item x)
    let keys := live.map (fun x => calKey item x
      (if leAt c.payload 2 1 = 255 then u.activeGroup item x else leAt c.payload 2 1))
    let part := listMask 64 ((calUnitsOf c).filter (u.calRetired item))
    let v := keys.foldl (fun s k =>
      if (s.calEntry k).phase = .idle ∨ (s.calEntry k).phase = .due ∨ (now = true ∧ (s.calEntry k).phase = .holdoff) then
        let w := s.putCal k { s.calEntry k with
          phase := .due
          cause := .command
          fore := now
          since := if (s.calEntry k).phase = .due then (s.calEntry k).since else s.elapsed }
        if now = true ∧ w.calReady k = true then w.calStart k else w
      else s) u
    exec (.calRun tag) s = .next (({ v with cal := { v.cal with
      commands := v.cal.commands ++ [⟨c.tag, keys, v.elapsed, 0, 0, part⟩] } } : State).settleCal.refreshCal)) ∧
  (∀ (s : State) (tag : Nat) (c : CalCommand), s.cal.commands.find? (fun c => c.tag == tag) = some c →
    c.started + 3840000 ≤ s.elapsed → exec (.calRunTimeout tag) s = .next (({ s with cal := { s.cal with
      commands := s.cal.commands.filter (fun c => c.tag != tag) } } : State).finishNow tag .timeout [])) ∧
  (∀ (s : State) (tag : Nat) (c : Cmd) (u : State), Starts s 0x0A01 tag c u → u.canonical = true → leAt c.payload 0 1 < 6 →
    ∃ v : State, exec (.calSetPolicy tag) s = .next (v.finishNow c.tag .ok []) ∧
      (∀ f n, (f, n) ∈ [(F.CAL_POL_DELTA (leAt c.payload 0 1), 1), (F.CAL_POL_MAX_DIS (leAt c.payload 0 1), 2),
        (F.CAL_POL_AUTO (leAt c.payload 0 1), 3), (F.CAL_POL_TOL_SCALE (leAt c.payload 0 1), 4)] →
        v.fld f = leAt c.payload n 1 % 2 ^ f.width) ∧ v.cal = u.cal) ∧
  (∀ (s : State) (k : Fin 24576), s.calReady k.val = true →
    s.cal.entries.all (fun e => e.1 == k.val || !(s.calReady e.1 && s.calBefore e.1 k.val)) = true →
    exec (.calAttemptStart k) s = .next (s.calStart k.val)) ∧
  (∀ (s : State) (k : Fin 24576) (comps : List Int) (x : Int), (s.calEntry k.val).phase = .running → calItem k.val ≠ 0 →
    let u := s.addFld F.CAL_RUNS_COUNT 1
    ((s.calEntry k.val).runs = [] → exec (.calRunComplete k comps x) s =
      .next ((u.putCal k.val { u.calEntry k.val with runs := [comps] }).settleUnits.bootPoll)) ∧
    (∀ a, (s.calEntry k.val).runs = [a] → runsAgree (calItem k.val) (s.calEntry k.val).scale a comps = true →
      exec (.calRunComplete k comps x) s = .next ((u.calAgree k.val (runMean a comps)).settleUnits.bootPoll)) ∧
    (∀ a, (s.calEntry k.val).runs = [a] → runsAgree (calItem k.val) (s.calEntry k.val).scale a comps = false →
      exec (.calRunComplete k comps x) s =
        .next ((u.putCal k.val { u.calEntry k.val with runs := [a, comps] }).settleUnits.bootPoll)) ∧
    (∀ a b, (s.calEntry k.val).runs = [a, b] → runsAgree (calItem k.val) (s.calEntry k.val).scale b comps = false →
      runsAgree (calItem k.val) (s.calEntry k.val).scale a comps = false →
      exec (.calRunComplete k comps x) s = .next ((u.calDispute k.val).settleUnits.bootPoll))) ∧
  (∀ (s : State) (k : Fin 24576), (s.calEntry k.val).phase = .holdoff → (s.calEntry k.val).since + 384000 ≤ s.elapsed →
    exec (.calHoldoffExpiry k) s = .next ((s.putCal k.val { s.calEntry k.val with
      phase := .due
      since := s.elapsed
      starved := false }).refreshCal)) ∧
  (∀ (s : State) (k : Fin 24576), (s.calEntry k.val).phase = .due → (s.calEntry k.val).since + 3840000 ≤ s.elapsed →
    (s.calEntry k.val).starved = false → s.calReady k.val = false →
    exec (.calStarved k) s = .next ((s.putCal k.val { s.calEntry k.val with starved := true }).raise 0xD023
      (calItem k.val * 2 ^ 16 + calUnit k.val * 2 ^ 8 + (s.calEntry k.val).count % 16)
      ((calSource (calItem k.val) (calUnit k.val)).getD srcOther) sevWarning))

/-- Unit resets, event records and injection (R530, R540-R543): a reset takes its unit out and tests it, or ends after 100 ms; records are
read and configured; an injection is armed, disarmed and fires. -/
def Obligations.FaultCommandsComplete : Prop :=
  (∀ (s : State) (tag : Nat) (ok : Bool) (c : Cmd) (u : State), Starts s 0x0102 tag c u →
    let src := resetTarget c
    let units := src :: unitsInside src
    let a := (u.retireUnit src 1 0xFF).refreshReplace
    let b : State := { a with fault := { a.fault with occurred := a.fault.occurred.filter (fun o => !units.contains o.2.1) } }
    let ends := fun (v : State) (keys wakes : List Nat) (bad : List (Nat × Nat)) =>
      (v.putResets (v.fault.unitReset ++ [⟨c.tag, src, units, keys, wakes, bad, v.elapsed⟩])).settleUnits
    (srcType src ≠ 8 → (srcType src = 4 → ok = true) → exec (.sysResetUnit tag ok) s =
      .next (ends (b.startTests (units.flatMap b.testKeys)) (units.flatMap b.testKeys) [] [])) ∧
    (srcType src = 4 → ok = false →
      let d := b.raiseFree 0xB007 src sevError
      exec (.sysResetUnit tag ok) s =
        .next (ends (d.startTests (units.flatMap d.testKeys)) (units.flatMap d.testKeys) [] [(src, 23)])) ∧
    (srcType src = 8 →
      let i := srcIx src
      let d := ((b.domainOff (4 + i)).domainOff (8 + i)).beginStep false false (.wake (4 + i))
      exec (.sysResetUnit tag ok) s =
        .next (ends (d.beginStep false false (.wake (8 + i))) (units.flatMap b.testKeys) [4 + i, 8 + i] []))) ∧
  (∀ (s : State) (tag : Nat) (r : UnitReset), s.fault.unitReset.find? (fun u => u.tag == tag) = some r →
    r.since + 384000 ≤ s.elapsed → exec (.sysResetUnitTimeout tag) s =
      .next ((r.units.foldl State.calRetire (s.putResets (s.fault.unitReset.filter (fun x => x.tag != tag)))).finishNow tag
        .timeout [])) ∧
  (∀ (s : State) (tag : Nat) (c : Cmd) (u : State), Starts s 0x0B00 tag c u →
    let p := c.payload
    let shadow := bitAt (leAt p 3 1) 0
    let all := u.evMatches shadow (leAt p 0 2) (leAt p 4 1)
    let got := all.take (leAt p 2 1)
    let more := if all.length ≤ got.length then 0xFFFF else match got.getLast? with
      | some e => e.1 + 1
      | none => 0xFFFF
    let reply := leBytes 2 more ++ leBytes 1 got.length ++ leBytes 1 (b2n u.inShadow) ++ leBytes 4 0 ++
      got.flatMap (fun e => e.2.bytes)
    (bitAt (leAt p 3 1) 1 = false → exec (.evRead tag) s = .next (u.finishNow c.tag .ok reply)) ∧
    (bitAt (leAt p 3 1) 1 = true → shadow = u.inShadow →
      exec (.evRead tag) s = .next ((u.clearNotify (got.map (·.1))).finishNow c.tag .ok reply))) ∧
  (∀ (s : State) (tag : Nat) (c : Cmd) (u : State), Starts s 0x0B01 tag c u →
    (leAt c.payload 0 2 ≠ 0xFFFF → exec (.evConfigCode tag) s =
      .next ((u.configCode c.payload (leAt c.payload 0 2)).finishNow c.tag .ok [])) ∧
    (leAt c.payload 0 2 = 0xFFFF → exec (.evConfigCode tag) s =
      .next ((allocatedCodes.foldl (fun s x => s.configCode c.payload x) u).finishNow c.tag .ok []))) ∧
  (∀ (s : State) (tag : Nat) (c : Cmd) (u : State), Starts s 0x0B02 tag c u →
    (injMode c ≠ 0 →
      let j : Injection := ⟨c.op, injMode c, injSrc c, leAt c.payload 8 4, leAt c.payload 6 2, leAt c.payload 4 2,
        u.elapsed + 1⟩
      exec (.injArm tag) s =
        .next (((u.putInjections (u.fault.injections.filter (fun i => i.detector != c.op) ++ [j])).showInjection j).finishNow
          c.tag .ok (leBytes 4 (tickAdd u.tickno 1)))) ∧
    (injMode c = 0 → exec (.injDisarm tag) s =
      .next (((((u.putInjections (u.fault.injections.filter (fun i => i.detector != c.op))).setFld (F.EVR_INJ_CTRL_ARMED c.op)
        0).setFld (F.EVR_INJ_CTRL_MODE c.op) 0).setFld (F.EVR_INJ_CTRL_COUNT c.op) 0).finishNow c.tag .ok
          (leBytes 4 (tickAdd u.tickno 1))))) ∧
  (∀ (s : State) (d : Fin 34) (arg : Nat) (j : Injection), s.fault.injections.find? (fun j => j.detector == d.val) = some j →
    j.nextAt ≤ s.elapsed → 1 < j.left →
    let k : Injection := { j with
      left := j.left - 1
      nextAt := s.elapsed + j.interval }
    exec (.injectionFire d arg) s = .next ((((s.putInjections (s.fault.injections.filter (fun i => i.detector != d.val) ++
      [k])).showInjection k).addFld (F.EVR_INJ_DONE_COUNT d.val) 1).inject j arg)) ∧
  (∀ (s : State) (d : Fin 34) (arg : Nat) (j : Injection), s.fault.injections.find? (fun j => j.detector == d.val) = some j →
    j.nextAt ≤ s.elapsed → j.left = 1 →
    let k : Injection := { j with
      left := 0
      nextAt := s.elapsed + j.interval }
    exec (.injectionFire d arg) s = .next ((((s.putInjections (s.fault.injections.filter (fun i =>
      i.detector != d.val))).showInjection k).addFld (F.EVR_INJ_DONE_COUNT d.val) 1).inject j arg))

/-! ### Recorder, security and the windows -/

/-- The recorder (R551, R554-R556, R561-R563): it is armed, stopped, reaches a limit, completes its snapshot, replays from it, and
ends the replay with its counts. -/
def Obligations.RecorderRowsComplete : Prop :=
  (∀ (s : State) (tag : Nat) (c : Cmd) (u : State), Starts s 0x0C00 tag c u → (u.recSt = .idle ∨ u.recSt = .done) →
    let p := c.payload
    let v := (u.setRecSt .armed).setFld F.REC_STATUS_SNAP_DONE 0
    exec (.recArm tag) s = .next (({ v with recd := { v.recd with
      arm := some ⟨leAt p 0 1 == 1, leAt p 1 1, leAt p 2 2, armPaths c, leAt p 12 2, leAt p 14 1, leAt p 15 1, leAt p 16 4⟩
      startIn := if leAt p 1 1 = 0 then some 1 else none
      ticks := []
      snap := none
      headerOk := false
      wptr := 0x3000000 } } : State).finishNow c.tag .ok [])) ∧
  (∀ (s : State) (tag : Nat) (c : Cmd) (u : State), Starts s 0x0C01 tag c u →
    (u.recSt = .armed ∨ u.recSt = .recording ∨ u.recSt = .replaying) →
    exec (.recStop tag) s = .next { u with recd := { u.recd with stopNext := some c.tag } }) ∧
  (∀ (s : State) (r : Fin 3), s.recSt = .recording →
    ((r.val = 0 ∧ ∃ x, s.recd.arm = some x ∧ x.duration ≠ 0 ∧ x.duration ≤ s.fld F.REC_TICKS_COUNT) ∨
      (r.val = 1 ∧ s.recd.full = true) ∨ (r.val = 2 ∧ recBuffer < s.recd.buffered)) →
    let u := (s.setRecSt .done).setFld F.REC_STATUS_REASON (2 + r.val)
    exec (.recordingLimitReached r) s = .next (({ u with recd := { u.recd with
      startIn := none
      items := []
      rawLeft := 0 } } : State).raise 0xE002 (2 + r.val) srcOther sevInfo)) ∧
  (∀ s : State, (s.recSt = .recording ∨ s.recSt = .done) → s.recd.snap.isSome = true →
    exec .snapshotDone s = .next (s.setFld F.REC_STATUS_SNAP_DONE 1)) ∧
  (∀ (s : State) (tag : Nat) (c : Cmd) (u : State) (x : Snapshot), Starts s 0x0C02 tag c u → ctxReplayStart u = none →
    u.recd.snap = some x →
    let p := c.payload
    let all := u.recd.ticks.reverse
    let asked := if leAt p 4 4 = 0 then all.length else min (leAt p 4 4) all.length
    let n := if leAt p 0 1 = 1 then min asked (u.fld F.REC_RAW_TICKS) else asked
    let v := (((((u.loadSnapshot x).setRecSt .replaying).setFld F.REC_RPL_TICK_INDEX 0).setFld F.REC_RPL_MISMATCH_COUNT
      0).setFld F.REC_RPL_FIRST_INDEX (2 ^ 32 - 1)).setFld F.REC_RPL_WORD_MASK 0
    exec (.replayStart tag) s = .next { v with recd := { v.recd with
      replay := some ⟨c.tag, leAt p 0 1 == 1, bitAt (leAt p 1 1) 0, leAt p 2 2, 0, 0, all.take n⟩ } }) ∧
  (∀ (s : State) (r : ReplayRun), s.recd.replay = some r →
    (r.left = [] ∨ (r.stopOn = true ∧ s.fld F.REC_RPL_MISMATCH_COUNT ≠ 0)) →
    let m := s.fld F.REC_RPL_MISMATCH_COUNT
    let v := s.setRecSt .postReplay
    let u : State := { v with recd := { v.recd with replay := none } }
    exec .replayDone s = .next ((u.raise 0xE003 m srcOther sevInfo).finishNow r.tag .ok
      (leBytes 4 r.index ++ leBytes 4 r.compared ++ leBytes 4 m ++ leBytes 4 (s.fld F.REC_RPL_FIRST_INDEX))))

/-- Firmware and objects (R569, R573-R578): an activation that passes restarts a pair, an object is staged and stored, a report is built and
read, and in recovery the object that comes in by SEC_RECOV_DATA is checked and started. -/
def Obligations.SecurityObjectsComplete : Prop :=
  (∀ (s : State) (tag : Nat) (v : SigVerdict) (c : Cmd) (u : State), Starts s 0x0104 tag c u →
    let i := 1 - u.sec.active
    (u.fwReason i v = none → exec (.sysActivateFirmware tag v) s = .next ((u.setActivation
      (some ⟨c.tag, bitAt (leAt c.payload 0 1) 0, .restart23, u.fwVersion i, u.fwSvn i⟩)).setMode 2)) ∧
    (∀ r, u.fwReason i v = some r → exec (.sysActivateFirmware tag v) s = .next (u.authEnd c.tag 0 r))) ∧
  (∀ (s : State) (tag : Nat) (c : Cmd) (u : State), Starts s 0x0D02 tag c u →
    (c.op = 0 → exec (.secInstallOpen tag) s = .next ((u.setStaging
      (some ⟨leAt c.payload 1 1, leAt c.payload 4 4, []⟩)).finishNow c.tag .ok [])) ∧
    (∀ g, c.op = 1 → u.sec.staging = some g → leAt c.payload 4 4 + (c.payload.drop 8).length ≤ g.length →
      exec (.secInstallWrite tag) s = .next ((u.setStaging
        (some { g with data := stageBytes g.data (leAt c.payload 4 4) (c.payload.drop 8) })).finishNow c.tag .ok []))) ∧
  (∀ (s : State) (tag : Nat) (v : SigVerdict) (c : Cmd) (u : State) (g : Staging), Starts s 0x0D02 tag c u → c.op = 2 →
    u.sec.staging = some g →
    let b := stagedBytes g.data u.freeCtr g.length 0
    let w : State := { u.setStaging none with freeCtr := u.freeCtr + g.length }
    (w.kindReason g.kind b v = none → g.kind = 0 → exec (.secInstallCommit tag v true) s =
      .next (({ w with sec := { w.sec with
        fwObjects := sput (fun _ => []) w.sec.fwObjects (1 - w.sec.active) b
        reinstalled := true } } : State).finishNow c.tag .ok (leBytes 4 (1 - w.sec.active)))) ∧
    (∀ i, w.kindReason g.kind b v = none → g.kind = 1 → w.kernelPlace b = some i → exec (.secInstallCommit tag v true) s =
      .next (({ w with sec := { w.sec with kernels := sput (fun _ => []) w.sec.kernels i b } } : State).finishNow c.tag .ok
        (leBytes 4 i))) ∧
    (∀ flash, w.kindReason g.kind b v = none → 2 ≤ g.kind → exec (.secInstallCommit tag v flash) s =
      .next ((w.applyRecord b).finishNow c.tag .ok (leBytes 4 (leAt (objBody b) 1 1)))) ∧
    (∀ flash r, w.kindReason g.kind b v = some r → exec (.secInstallCommit tag v flash) s =
      .next (w.authEnd c.tag (objKind b) r))) ∧
  (∀ (s : State) (tag : Nat) (c : Cmd) (u : State), Starts s 0x0D00 tag c u →
    (c.op = 0 →
      let body := u.reportBody (slice c.payload 4 48)
      let sig := slice (Config.signature body ++ List.replicate sigBytes 0) 0 sigBytes
      exec (.secAttestationBuild tag) s = .next (({ u with sec := { u.sec with report := body ++ sig } } : State).finishNow c.tag
        .ok (leBytes 4 (body.length + sigBytes)))) ∧
    (c.op = 1 →
      let bs := slice u.sec.report (attestOff c) (attestLen c)
      exec (.secAttestationReadReport tag) s =
        .next (u.finishNow c.tag .ok (bs ++ List.replicate (attestLen c - bs.length) 0))) ∧
    (c.op = 2 → exec (.secAttestationReadCerts tag) s = .next (u.finishNow c.tag .ok
      ((List.range (attestLen c)).map (fun i => BitVec.ofNat 8 (Config.certificate (attestOff c + i))))))) ∧
  (∀ (s : State) (w : Word), s.reaches 0xA0034 → s.sec.recovery = true → ∃ t, exec (.secRecovDataWrite w) s = .next t ∧
    t.sec.recovBuf = s.sec.recovBuf ++ leBytes 4 w.toNat ∧ t.sec.recovery = true) ∧
  (∀ (s : State) (v : SigVerdict), s.reaches 0xA0030 → s.sec.recovery = true →
    let b := s.sec.recovBuf
    (∀ r, s.kindReason 0 b v = some r → exec (.secRecovGo v) s =
      .next ({ s.authFail (objKind b) r with sec := { (s.authFail (objKind b) r).sec with recovBuf := [] } })) ∧
    (s.kindReason 0 b v = none → ∃ t, exec (.secRecovGo v) s = .next t ∧ t.sec.recovery = false ∧ t.sec.recovBuf = [] ∧
      t.sec.runHead = b.take 512 ∧ (s.canonical = true → t.fld F.SEC_STATUS_RECOVERY = 1 ∧ t.fld F.PWR_STATUS_PHASE = 2 ∧
        t.fld F.SEC_FW_SVN_SVN = objSvn b % 2 ^ F.SEC_FW_SVN_SVN.width)))

/-- The maintenance unlock (R579-R582, Table 21-6): a challenge, staged token bytes, a token granted or failed, the end by command, by
duration, and by a challenge left without an answer. -/
def Obligations.UnlockRowsComplete : Prop :=
  (∀ (s : State) (tag : Nat) (random : List Byte) (c : Cmd) (u : State), Starts s 0x0D01 tag c u → c.op = 0 →
    random.length = 32 →
    let v : State := { u with sec := { u.sec with
      challenge := some random
      challengeAt := u.elapsed
      token := []
      tokenLen := 0 } }
    (u.fld F.SEC_STATUS_UNLOCK ≠ 2 → exec (.secUnlockChallenge tag random) s =
      .next ((v.setFld F.SEC_STATUS_UNLOCK 1).finishNow c.tag .ok random)) ∧
    (u.fld F.SEC_STATUS_UNLOCK = 2 → exec (.secUnlockChallenge tag random) s = .next (v.finishNow c.tag .ok random))) ∧
  (∀ (s : State) (tag : Nat) (c : Cmd) (u : State), Starts s 0x0D01 tag c u → c.op = 1 →
    exec (.secUnlockStage tag) s = .next (({ u with sec := { u.sec with
      token := stageBytes u.sec.token (leAt c.payload 4 4) (c.payload.drop 8)
      tokenLen := max u.sec.tokenLen (leAt c.payload 4 4 + (c.payload.drop 8).length) } } : State).finishNow c.tag .ok [])) ∧
  (∀ (s : State) (tag : Nat) (v : SigVerdict) (c : Cmd) (u : State), Starts s 0x0D01 tag c u → c.op = 2 →
    let b := stagedBytes u.sec.token u.freeCtr u.sec.tokenLen 0
    let w : State := { u with
      freeCtr := u.freeCtr + u.sec.tokenLen
      sec := { u.sec with challenge := none } }
    (u.kindReason 3 b v = none → exec (.secUnlockSubmit tag v) s = .next ((w.grantUnlock b).finishNow c.tag .ok [])) ∧
    (∀ r, u.kindReason 3 b v = some r → u.fld F.SEC_STATUS_UNLOCK ≠ 2 → exec (.secUnlockSubmit tag v) s =
      .next ((w.setFld F.SEC_STATUS_UNLOCK 0).authEnd c.tag (objKind b) r)) ∧
    (∀ r, u.kindReason 3 b v = some r → u.fld F.SEC_STATUS_UNLOCK = 2 → exec (.secUnlockSubmit tag v) s =
      .next (w.authEnd c.tag (objKind b) r))) ∧
  (∀ (s : State) (b : List Byte), s.canonical = true → (s.grantUnlock b).fld F.SEC_STATUS_UNLOCK = 2 ∧
    (s.grantUnlock b).fld F.SEC_STATUS_SCOPE = leAt (objBody b) 48 1 % 2 ^ F.SEC_STATUS_SCOPE.width ∧
    (s.grantUnlock b).fld F.SEC_UNLOCK_LEFT_SECONDS = leAt (objBody b) 52 4 ∧
    (s.grantUnlock b).sec.unlockUntil = s.elapsed + 3840000 * leAt (objBody b) 52 4) ∧
  (∀ (s : State) (tag : Nat) (c : Cmd) (u : State), Starts s 0x0D01 tag c u → c.op = 3 →
    u.fld F.SEC_STATUS_UNLOCK = 2 → exec (.secUnlockEnd tag) s = .next (u.lock.finishNow c.tag .ok [])) ∧
  (∀ s : State, s.fld F.SEC_STATUS_UNLOCK = 2 → s.sec.unlockUntil ≤ s.elapsed → exec .unlockDurationExpiry s = .next s.lock ∧ (s.canonical = true →
    s.lock.fld F.SEC_STATUS_UNLOCK = 0 ∧ s.lock.fld F.SEC_STATUS_SCOPE = 0 ∧ s.lock.fld F.SEC_UNLOCK_LEFT_SECONDS = 0 ∧
    s.lock.sec.challenge = none ∧ s.lock.fault.injections = [])) ∧
  (∀ s : State, s.fld F.SEC_STATUS_UNLOCK = 1 → s.sec.challengeAt + 230400000 ≤ s.elapsed → exec .challengeExpiry s = .next
    (({ s with sec := { s.sec with challenge := none } } : State).setFld F.SEC_STATUS_UNLOCK 0))

/-- A read of a window's data register returns the word its index names and moves the index on by one, modulo what the window holds
(R130, R174, R175, R206, R237, R313, R343, R406, R452, R475, R521, R522); a FIFO read takes the oldest result; the low word of a
long count latches the high one. -/
def Obligations.WindowReadsAdvance : Prop :=
  (∀ (s : State) (n : Fin 16), s.reaches (0x1C000C + 0x1000 * n.val) →
    let i := s.fld (F.QFE_COEF_ADDR_INDEX n.val)
    exec (.qfeCoefDataRead n) s = .next ((s.setFld (F.QFE_COEF_ADDR_INDEX n.val) ((i + 1) % 6144)).emit
      (.readData (0x1C000C + 0x1000 * n.val) (encode2c 32 ((s.rxCoefs (16 * n.val + i / 384)).getD (i % 384) 0))))) ∧
  (∀ (s : State) (n : Fin 16), s.reaches (0x1C0108 + 0x1000 * n.val) →
    let i := s.fld (F.QFE_TX_COEF_ADDR_INDEX n.val)
    exec (.qfeTxCoefDataRead n) s = .next ((s.setFld (F.QFE_TX_COEF_ADDR_INDEX n.val) ((i + 1) % 6144)).emit
      (.readData (0x1C0108 + 0x1000 * n.val) (encode2c 32 ((s.txCoefs (16 * n.val + i / 384)).getD (i % 384) 0))))) ∧
  (∀ s : State, s.reaches 0x220004 → exec .cfrMaskDataRead s =
    .next ((s.setFld F.CFR_MASK_ADDR_INDEX ((s.fld F.CFR_MASK_ADDR_INDEX + 1) % 2 ^ 15)).emit
      (.readData 0x220004 (sget (fun _ => 0) s.tx.masks (s.fld F.CFR_MASK_ADDR_INDEX))))) ∧
  (∀ s : State, s.reaches 0x222004 → exec .frqDataRead s =
    .next ((s.setFld F.FRQ_ADDR_INDEX ((s.fld F.FRQ_ADDR_INDEX + 1) % 2 ^ 13)).emit (.readData 0x222004
      (freqWord (s.freqEntry (s.fld F.FRQ_ADDR_INDEX / 32)) (s.fld F.FRQ_ADDR_INDEX % 32))))) ∧
  (∀ s : State, s.reaches 0x200054 → exec .bfWinDataRead s =
    .next ((s.setFld F.BF_WIN_ADDR_INDEX ((s.fld F.BF_WIN_ADDR_INDEX + 1) % 2 ^ 18)).emit
      (.readData 0x200054 (s.bfWindow (s.fld F.BF_WIN_ADDR_REGION) (s.fld F.BF_WIN_ADDR_INDEX))))) ∧
  (∀ s : State, s.reaches 0x210014 →
    let i := s.fld F.DPD_COEF_ADDR_INDEX
    exec .dpdCoefDataRead s = .next ((s.setFld F.DPD_COEF_ADDR_INDEX ((i + 1) % 2 ^ 20)).emit
      (.readData 0x210014 (s.coefWord (i / 194 / 80) (i / 194 % 80) (i % 194))))) ∧
  (∀ s : State, s.reaches 0x21001C →
    let i := s.fld F.DPD_TERM_ADDR_INDEX
    exec .dpdTermDataRead s = .next ((s.setFld F.DPD_TERM_ADDR_INDEX ((i + 1) % 2 ^ 13)).emit
      (.readData 0x21001C ((s.model (i / 96)).getD (i % 96) 0)))) ∧
  (∀ s : State, s.reaches 0x241044 →
    let i := s.fld F.FRM_MAP_ADDR_INDEX
    exec .frmMapDataRead s = .next ((s.setFld F.FRM_MAP_ADDR_INDEX ((i + 1) % 256)).emit
      (.readData 0x241044 (sget (fun _ => Eaxc.empty) s.fh.map i).word))) ∧
  (∀ (s : State) (l : Fin 8), s.reaches (0x310028 + 0x1000 * l.val) →
    let i := s.fld (F.LN_COEF_ADDR_INDEX l.val)
    exec (.lnCoefDataRead l) s = .next ((s.setFld (F.LN_COEF_ADDR_INDEX l.val) ((i + 1) % 128)).emit
      (.readData (0x310028 + 0x1000 * l.val) (s.laneWord l.val i)))) ∧
  (∀ (s : State) (l : Fin 8), s.reaches (0x310088 + 0x1000 * l.val) →
    let v := sget (fun _ => 0) s.ln.errs l.val
    exec (.lnPrbsErrLoRead l) s = .next ((s.setFld (F.LN_PRBS_ERR_HI_COUNT l.val) (v / 2 ^ 32)).emit
      (.readData (0x310088 + 0x1000 * l.val) (v % 2 ^ 32)))) ∧
  (∀ (s : State) (l : Fin 8), s.reaches (0x310090 + 0x1000 * l.val) →
    let v := sget (fun _ => 0) s.ln.bits l.val
    exec (.lnPrbsBitsLoRead l) s = .next ((s.setFld (F.LN_PRBS_BITS_HI_COUNT l.val) (v / 2 ^ 32)).emit
      (.readData (0x310090 + 0x1000 * l.val) (v % 2 ^ 32)))) ∧
  (∀ (s : State) (n : Fin 16), s.reaches (0x400034 + 0x10000 * n.val) →
    let i := s.fld (F.LE_MEM_ADDR_INDEX n.val)
    let d := (s.leWord n.val).2
    exec (.leMemDataAccess n none) s = .next ((d.setFld (F.LE_MEM_ADDR_INDEX n.val) ((i + 1) % 2 ^ 16)).emit
      (.readData (0x400034 + 0x10000 * n.val) (s.leWord n.val).1)) ∧
    ∀ w : Word, s.unlocked 3 = true →
      let u := s.noteItem (.write (0x400034 + 0x10000 * n.val) w.toNat)
      exec (.leMemDataAccess n (some w)) s = .next ((u.leStore n.val w.toNat).stepLeIndex n.val)) ∧
  (∀ s : State, s.reaches 0x500004 →
    let i := s.fld F.CLM_ADDR_INDEX
    exec (.clmDataAccess none) s = .next (((s.clmRead i).2.setFld F.CLM_ADDR_INDEX ((i + 1) % 2 ^ 20)).emit
      (.readData 0x500004 (s.clmRead i).1)) ∧
    ∀ w : Word, s.unlocked 3 = true →
      let u := s.noteItem (.write 0x500004 w.toNat)
      exec (.clmDataAccess (some w)) s = .next ((u.clmWrite i w.toNat).setFld F.CLM_ADDR_INDEX ((i + 1) % 2 ^ 20))) ∧
  (∀ s : State, s.reaches 0x20034 →
    let i := s.fld F.CLK_BAND_ADDR_INDEX
    exec .clkBandDataRead s = .next ((s.setFld F.CLK_BAND_ADDR_INDEX ((i + 1) % 512)).emit
      (.readData 0x20034 (sget factoryBandOf s.clk.bands i)))) ∧
  (∀ s : State, s.reaches 0x30098 →
    let i := s.fld F.TIM_ANC_ADDR_INDEX
    exec .timAncDataRead s = .next ((s.setFld F.TIM_ANC_ADDR_INDEX ((i + 1) % 128)).emit
      (.readData 0x30098 (leAt (s.anchor (i / 8)).bytes (4 * (i % 8)) 4)))) ∧
  (∀ s : State, s.reaches 0x6000C →
    let i := s.fld F.HK_SEQ_ADDR_INDEX
    let e := s.seqEntry i
    exec .hkSeqDataRead s = .next ((s.setFld F.HK_SEQ_ADDR_INDEX ((i + 1) % 64)).emit
      (.readData 0x6000C (e.channel + 2 ^ 8 * e.repeats + 2 ^ 16 * e.settle + 2 ^ 24 * e.avg)))) ∧
  (∀ (s : State) (r : HkResult) (l : List HkResult), s.reaches 0x60010 → s.hk.fifo = r :: l →
    exec .hkFifoDataRead s = .next ((s.putFifo l).emit (.readData 0x60010
      (2 ^ 31 + 2 ^ 30 * b2n r.isOpen + 2 ^ 24 * r.channel + 2 ^ 16 * r.seq + r.value)))) ∧
  (∀ s : State, s.reaches 0x60010 → s.hk.fifo = [] → exec .hkFifoDataRead s = .next (s.emit (.readData 0x60010 0))) ∧
  ∀ s : State, s.reaches 0x70044 →
    let i := s.fld F.CAL_RES_ADDR_INDEX
    let e := s.calEntry i
    exec .calResDataRead s = .next ((s.setFld F.CAL_RES_ADDR_INDEX ((i + 1) % 2 ^ 15)).emit (.readData 0x70044
      (2 ^ 31 * b2n e.valid + 2 ^ 28 * e.phase.code + 2 ^ 24 * (e.count % 16) + encode2c 16 e.temp)))
end

