-- ==== Sys2Proof/Laws/Bytes.lean ====
section
/-!
SUPPORT. Sys2Proof/Laws/Bytes.lean: bytes of a value and back, slices of joined lists, and the length of a SHA-384 digest.
-/
namespace Sys2Proof.Machine

@[simp] theorem leBytes_length (n v : Nat) : (leBytes n v).length = n := by
  induction n generalizing v with
  | zero => rfl
  | succ k ih => simp [leBytes, ih]

@[simp] theorem beBytes_length (n v : Nat) : (beBytes n v).length = n := by simp [beBytes]

/-- A value read back from its bytes, modulo what they hold. -/
theorem leValue_leBytes (n v : Nat) : leValue (leBytes n v) = v % 256 ^ n := by
  induction n generalizing v with
  | zero => simp [leBytes, leValue, Nat.mod_one]
  | succ k ih => simp [leBytes, leValue, ih, Nat.pow_succ, Nat.mul_comm (256 ^ k) 256, Nat.mod_mul]

/-- A slice that ends within the first of two joined lists. -/
theorem slice_left {xs ys : List Byte} {off n : Nat} (h : off + n ≤ xs.length) : slice (xs ++ ys) off n = slice xs off n := by
  unfold slice
  rw [List.drop_append_of_le_length (by omega), List.take_append_of_le_length (by simp; omega)]

/-- A slice that begins in the second of two joined lists. -/
theorem slice_right {xs ys : List Byte} {off n : Nat} (h : xs.length ≤ off) : slice (xs ++ ys) off n = slice ys (off - xs.length) n := by
  unfold slice
  rw [List.drop_append, List.drop_eq_nil_of_le h, List.nil_append]

/-- A slice that is the first of two joined lists. -/
theorem slice_whole {xs ys : List Byte} {n : Nat} (h : n = xs.length) : slice (xs ++ ys) 0 n = xs := by
  unfold slice
  rw [List.drop_zero, h, List.take_left']
  rfl

theorem shaRound_length (v : List (BitVec 64)) (kw : BitVec 64 × BitVec 64) : (shaRound v kw).length = v.length := by
  unfold shaRound
  split <;> rfl

theorem shaRounds_length (l : List (BitVec 64 × BitVec 64)) : ∀ v : List (BitVec 64), (l.foldl shaRound v).length = v.length := by
  induction l with
  | nil => intro v; rfl
  | cons k r ih => intro v; rw [List.foldl_cons, ih, shaRound_length]

theorem shaBlocks_length (bs : List Byte) (l : List Nat) : ∀ h : List (BitVec 64),
    (l.foldl (fun h i => shaBlock h (slice bs (128 * i) 128)) h).length = h.length := by
  induction l with
  | nil => intro h; rfl
  | cons k r ih => intro h; rw [List.foldl_cons, ih]; simp [shaBlock, shaRounds_length]

@[simp] theorem sha384_length (bs : List Byte) : (sha384 bs).length = 48 := by
  have h : ∀ l : List (BitVec 64), ((l.map (fun w => beBytes 8 w.toNat)).flatten).length = 8 * l.length := by
    intro l
    induction l with
    | nil => rfl
    | cons a r ih => simp only [List.map_cons, List.flatten_cons, List.length_append, ih, beBytes_length, List.length_cons]; omega
  unfold sha384
  rw [List.length_take, h, shaBlocks_length]
  rfl

end Sys2Proof.Machine
end

