-- ==== Sys2Proof/Laws/Sparse.lean ====
section
/-!
SUPPORT. Sys2Proof/Laws/Sparse.lean: what reads and writes of a sparse table do, and that they keep its canonical form.
-/
namespace Sys2Proof.Machine

section
variable {α : Type} [DecidableEq α] {d : Nat → α} {m : List (Nat × α)} {lo k : Nat} {v : α}

/-- A lower bound may be weakened. -/
theorem swfFrom_mono {lo' : Nat} (h : swfFrom d lo m = true) (hl : lo' ≤ lo) : swfFrom d lo' m = true := by
  cases m with
  | nil => rfl
  | cons e r =>
    simp only [swfFrom, Bool.and_eq_true, decide_eq_true_eq] at h ⊢
    exact ⟨⟨le_trans hl h.1.1, h.1.2⟩, h.2⟩

/-- A key below every listed key reads as unlisted. -/
theorem sget_below (h : swfFrom d lo m = true) (hk : k < lo) : sget d m k = d k := by
  induction m generalizing lo with
  | nil => rfl
  | cons e r ih =>
    obtain ⟨a, w⟩ := e
    simp [swfFrom] at h
    have hne : a ≠ k := by omega
    simpa [sget, hne] using ih h.2 (by omega)

theorem sput_swfFrom (h : swfFrom d lo m = true) (hk : lo ≤ k) : swfFrom d lo (sput d m k v) = true := by
  induction m generalizing lo with
  | nil => by_cases hv : v = d k <;> simp [sput, swfFrom, hv, hk]
  | cons e r ih =>
    obtain ⟨a, w⟩ := e
    simp only [swfFrom, Bool.and_eq_true, decide_eq_true_eq] at h
    obtain ⟨⟨h1, h2⟩, h3⟩ := h
    simp only [sput]
    split
    · simp [swfFrom, h1, h2, ih h3 (by omega)]
    · split
      · subst_vars
        split
        · exact swfFrom_mono h3 (by omega)
        · simp_all [swfFrom]
      · have : k < a := by omega
        split
        · simp [swfFrom, h1, h2, h3]
        · rename_i hv
          simp only [swfFrom, Bool.and_eq_true, decide_eq_true_eq]
          exact ⟨⟨hk, hv⟩, ⟨by omega, h2⟩, h3⟩

/-- Writing keeps the canonical form. -/
theorem sput_swf (h : swf d m = true) : swf d (sput d m k v) = true := sput_swfFrom h (Nat.zero_le k)

theorem sclear_swfFrom (q : Nat → Bool) (h : swfFrom d lo m = true) : swfFrom d lo (sclear q m) = true := by
  induction m generalizing lo with
  | nil => rfl
  | cons e r ih =>
    obtain ⟨a, w⟩ := e
    simp only [swfFrom, Bool.and_eq_true, decide_eq_true_eq] at h
    obtain ⟨⟨h1, h2⟩, h3⟩ := h
    have h4 := ih h3
    cases hq : q a <;> simp [sclear, hq] at h4 ⊢
    · simp only [swfFrom, Bool.and_eq_true, decide_eq_true_eq]
      exact ⟨⟨h1, h2⟩, h4⟩
    · exact swfFrom_mono h4 (by omega)

/-- Clearing a set of keys keeps the canonical form. -/
theorem sclear_swf (q : Nat → Bool) (h : swf d m = true) : swf d (sclear q m) = true := sclear_swfFrom q h

/-- A key reads as written. -/
theorem sget_sput_from (h : swfFrom d lo m = true) : sget d (sput d m k v) k = v := by
  induction m generalizing lo with
  | nil => by_cases hv : v = d k <;> simp [sput, sget, hv]
  | cons e r ih =>
    obtain ⟨a, w⟩ := e
    simp only [swfFrom, Bool.and_eq_true, decide_eq_true_eq] at h
    obtain ⟨⟨h1, h2⟩, h3⟩ := h
    simp only [sput]
    split
    · rename_i hak
      have hne : a ≠ k := by omega
      simpa [sget, hne] using ih h3
    · split
      · subst_vars
        split
        · rename_i hv
          rw [sget_below h3 (by omega), hv]
        · simp [sget]
      · rename_i hak hne
        split
        · rename_i hv
          have : sget d r k = d k := sget_below h3 (by omega)
          simp [sget, hne, this, hv]
        · simp [sget]

theorem sget_sput_same (h : swf d m = true) : sget d (sput d m k v) k = v := sget_sput_from h

/-- Every other key reads as before. -/
theorem sget_sput_other {j : Nat} (hj : j ≠ k) : sget d (sput d m k v) j = sget d m j := by
  have hkj : ¬ k = j := fun h => hj h.symm
  induction m with
  | nil =>
    by_cases hv : v = d k
    · simp [sput, hv]
    · simp [sput, hv, sget, hkj]
  | cons e r ih =>
    obtain ⟨a, w⟩ := e
    simp only [sput]
    split
    · simp only [sget]; split <;> simp_all
    · split
      · subst_vars
        split
        · simp [sget, hkj]
        · simp [sget, hkj]
      · split
        · rfl
        · simp [sget, hkj]

omit [DecidableEq α] in
/-- A cleared key reads as unlisted, and the others as before. -/
theorem sget_sclear (q : Nat → Bool) : sget d (sclear q m) k = if q k then d k else sget d m k := by
  induction m with
  | nil => simp [sclear, sget]
  | cons e r ih =>
    obtain ⟨a, w⟩ := e
    simp only [sclear] at ih ⊢
    by_cases hak : a = k
    · subst hak
      cases hq : q a <;> simp_all [sget]
    · cases hq : q a <;> simp_all [sget]

end
end Sys2Proof.Machine
end

