-- ==== Sys2Proof/Laws/Commits.lean ====
section
/-!
SUPPORT. Sys2Proof/Laws/Commits.lean: all that arming a commit can do: one commit more among the armed ones, in its place by
acceptance, its writes in the shadow copies, and one item more for the recorder; nothing else.
-/
namespace Sys2Proof.Machine

theorem mem_insertCommit (l : List Commit) (k x : Commit) : x ∈ insertCommit l k ↔ x = k ∨ x ∈ l := by
  induction l with
  | nil => simp [insertCommit]
  | cons y r ih =>
    simp only [insertCommit]
    split
    · simp
    · simp only [List.mem_cons, ih]
      exact ⟨fun h => by rcases h with h | h | h <;> simp [h], fun h => by rcases h with h | h | h <;> simp [h]⟩

/-- A write that stands in a shadow copy changes the shadow copies only. -/
theorem writeShadow_only (s : State) (a m v : Nat) : { s.writeShadow a m v with shadow := s.shadow } = s := rfl

/-- The writes of changes change the shadow copies and the marks of host writes in them, and nothing else. -/
theorem markShadow_only (s : State) (first chs : List Change) :
    ∃ sh hd, s.markShadow first chs = { s with shadow := sh, hostDirty := hd } := by
  unfold State.markShadow
  generalize State.changesRegs (first.foldl State.entryAfter s) chs = l
  induction l generalizing s with
  | nil => exact ⟨s.shadow, s.hostDirty, rfl⟩
  | cons r l ih =>
    rw [List.foldl_cons]
    dsimp only
    split
    · exact ih { s.writeShadow r.1 r.2.1 r.2.2 with
        hostDirty := (s.writeShadow r.1 r.2.1 r.2.2).hostDirty.filter (fun a => a != r.1) }
    · exact ih (s.writeShadow r.1 r.2.1 r.2.2)

/-- Arming a commit changes the armed commits, the shadow copies, their marks and the recorder's items, and nothing else. -/
theorem armCommit_only (s : State) (k : Commit) : ∃ sh hd rc, s.armCommit k =
    { s with armed := insertCommit s.armed k, shadow := sh, hostDirty := hd, recd := rc } := by
  unfold State.armCommit State.noteItem
  split
  · obtain ⟨sh, hd, h⟩ := markShadow_only { s with
      armed := insertCommit s.armed k
      recd := { s.recd with items := s.recd.items ++ [.arm { k with results := [], late := [] }] } }
      (((insertCommit s.armed k).filter (fun x => tickAfter k.tick x.tick || (x.tick == k.tick && decide (x.seq < k.seq)))).flatMap
        (·.changes))
      (k.changes ++ ((insertCommit s.armed k).filter (fun x => decide (k.seq < x.seq))).flatMap (·.changes))
    exact ⟨sh, hd, _, h⟩
  · obtain ⟨sh, hd, h⟩ := markShadow_only { s with armed := insertCommit s.armed k }
      (((insertCommit s.armed k).filter (fun x => tickAfter k.tick x.tick || (x.tick == k.tick && decide (x.seq < k.seq)))).flatMap
        (·.changes))
      (k.changes ++ ((insertCommit s.armed k).filter (fun x => decide (k.seq < x.seq))).flatMap (·.changes))
    exact ⟨sh, hd, s.recd, h⟩

@[simp] theorem armCommit_armed (s : State) (k : Commit) : (s.armCommit k).armed = insertCommit s.armed k := by
  obtain ⟨_, _, _, h⟩ := armCommit_only s k
  rw [h]

@[simp] theorem armCommit_regs (s : State) (k : Commit) : (s.armCommit k).regs = s.regs := by
  obtain ⟨_, _, _, h⟩ := armCommit_only s k
  rw [h]

@[simp] theorem armCommit_hostMem (s : State) (k : Commit) : (s.armCommit k).hostMem = s.hostMem := by
  obtain ⟨_, _, _, h⟩ := armCommit_only s k
  rw [h]

@[simp] theorem armCommit_privi (s : State) (k : Commit) : (s.armCommit k).privi = s.privi := by
  obtain ⟨_, _, _, h⟩ := armCommit_only s k
  rw [h]

/-- A change that carries one register's masked bits writes them into its shadow copy. -/
theorem markShadow_reg (s : State) (first : List Change) (a m v : Nat) :
    (s.markShadow first [.reg a m v]).shadow = (s.writeShadow a m v).shadow := by
  unfold State.markShadow
  simp only [State.changesRegs, State.changeRegs, Change.regs, List.append_nil, List.foldl_cons, List.foldl_nil]
  split <;> rfl

end Sys2Proof.Machine
end

