-- ==== Sys2Proof/Laws/State.lean ====
section
/-!
SUPPORT. Sys2Proof/Laws/State.lean: what each named operation leaves of each field of State, by rfl, and what the register file
reads after a write.
-/
namespace Sys2Proof.Machine

@[simp] theorem State.setReg_pending (s : State) (a : Nat) (w : Word) : (s.setReg a w).pending = s.pending := rfl
@[simp] theorem State.setReg_shadow (s : State) (a : Nat) (w : Word) : (s.setReg a w).shadow = s.shadow := rfl
@[simp] theorem State.setReg_hostDirty (s : State) (a : Nat) (w : Word) : (s.setReg a w).hostDirty = s.hostDirty := rfl
@[simp] theorem State.setReg_armed (s : State) (a : Nat) (w : Word) : (s.setReg a w).armed = s.armed := rfl
@[simp] theorem State.setReg_elapsed (s : State) (a : Nat) (w : Word) : (s.setReg a w).elapsed = s.elapsed := rfl
@[simp] theorem State.setReg_freeCtr (s : State) (a : Nat) (w : Word) : (s.setReg a w).freeCtr = s.freeCtr := rfl
@[simp] theorem State.setReg_outbox (s : State) (a : Nat) (w : Word) : (s.setReg a w).outbox = s.outbox := rfl
@[simp] theorem State.setReg_hostMem (s : State) (a : Nat) (w : Word) : (s.setReg a w).hostMem = s.hostMem := rfl
@[simp] theorem State.setReg_tick (s : State) (a : Nat) (w : Word) : (s.setReg a w).tick = s.tick := rfl
@[simp] theorem State.setReg_privi (s : State) (a : Nat) (w : Word) : (s.setReg a w).privi = s.privi := rfl
@[simp] theorem State.setReg_ev (s : State) (a : Nat) (w : Word) : (s.setReg a w).ev = s.ev := rfl
@[simp] theorem State.setReg_fault (s : State) (a : Nat) (w : Word) : (s.setReg a w).fault = s.fault := rfl
@[simp] theorem State.setReg_clk (s : State) (a : Nat) (w : Word) : (s.setReg a w).clk = s.clk := rfl
@[simp] theorem State.setReg_pwr (s : State) (a : Nat) (w : Word) : (s.setReg a w).pwr = s.pwr := rfl
@[simp] theorem State.setReg_time (s : State) (a : Nat) (w : Word) : (s.setReg a w).time = s.time := rfl
@[simp] theorem State.setReg_hk (s : State) (a : Nat) (w : Word) : (s.setReg a w).hk = s.hk := rfl
@[simp] theorem State.setReg_cal (s : State) (a : Nat) (w : Word) : (s.setReg a w).cal = s.cal := rfl
@[simp] theorem State.setReg_recd (s : State) (a : Nat) (w : Word) : (s.setReg a w).recd = s.recd := rfl
@[simp] theorem State.setReg_sec (s : State) (a : Nat) (w : Word) : (s.setReg a w).sec = s.sec := rfl
@[simp] theorem State.setReg_rx (s : State) (a : Nat) (w : Word) : (s.setReg a w).rx = s.rx := rfl
@[simp] theorem State.setReg_tx (s : State) (a : Nat) (w : Word) : (s.setReg a w).tx = s.tx := rfl
@[simp] theorem State.setReg_bf (s : State) (a : Nat) (w : Word) : (s.setReg a w).bf = s.bf := rfl
@[simp] theorem State.setReg_dpd (s : State) (a : Nat) (w : Word) : (s.setReg a w).dpd = s.dpd := rfl
@[simp] theorem State.setReg_pra (s : State) (a : Nat) (w : Word) : (s.setReg a w).pra = s.pra := rfl
@[simp] theorem State.setReg_fh (s : State) (a : Nat) (w : Word) : (s.setReg a w).fh = s.fh := rfl
@[simp] theorem State.setReg_ln (s : State) (a : Nat) (w : Word) : (s.setReg a w).ln = s.ln := rfl
@[simp] theorem State.setReg_eng (s : State) (a : Nat) (w : Word) : (s.setReg a w).eng = s.eng := rfl
@[simp] theorem State.setReg_dma (s : State) (a : Nat) (w : Word) : (s.setReg a w).dma = s.dma := rfl
@[simp] theorem State.setReg_cas (s : State) (a : Nat) (w : Word) : (s.setReg a w).cas = s.cas := rfl

@[simp] theorem State.setFld_pending (s : State) (f : Fld) (v : Nat) : (s.setFld f v).pending = s.pending := rfl
@[simp] theorem State.setFld_shadow (s : State) (f : Fld) (v : Nat) : (s.setFld f v).shadow = s.shadow := rfl
@[simp] theorem State.setFld_hostDirty (s : State) (f : Fld) (v : Nat) : (s.setFld f v).hostDirty = s.hostDirty := rfl
@[simp] theorem State.setFld_armed (s : State) (f : Fld) (v : Nat) : (s.setFld f v).armed = s.armed := rfl
@[simp] theorem State.setFld_elapsed (s : State) (f : Fld) (v : Nat) : (s.setFld f v).elapsed = s.elapsed := rfl
@[simp] theorem State.setFld_freeCtr (s : State) (f : Fld) (v : Nat) : (s.setFld f v).freeCtr = s.freeCtr := rfl
@[simp] theorem State.setFld_outbox (s : State) (f : Fld) (v : Nat) : (s.setFld f v).outbox = s.outbox := rfl
@[simp] theorem State.setFld_hostMem (s : State) (f : Fld) (v : Nat) : (s.setFld f v).hostMem = s.hostMem := rfl
@[simp] theorem State.setFld_tick (s : State) (f : Fld) (v : Nat) : (s.setFld f v).tick = s.tick := rfl
@[simp] theorem State.setFld_privi (s : State) (f : Fld) (v : Nat) : (s.setFld f v).privi = s.privi := rfl
@[simp] theorem State.setFld_ev (s : State) (f : Fld) (v : Nat) : (s.setFld f v).ev = s.ev := rfl
@[simp] theorem State.setFld_fault (s : State) (f : Fld) (v : Nat) : (s.setFld f v).fault = s.fault := rfl
@[simp] theorem State.setFld_clk (s : State) (f : Fld) (v : Nat) : (s.setFld f v).clk = s.clk := rfl
@[simp] theorem State.setFld_pwr (s : State) (f : Fld) (v : Nat) : (s.setFld f v).pwr = s.pwr := rfl
@[simp] theorem State.setFld_time (s : State) (f : Fld) (v : Nat) : (s.setFld f v).time = s.time := rfl
@[simp] theorem State.setFld_hk (s : State) (f : Fld) (v : Nat) : (s.setFld f v).hk = s.hk := rfl
@[simp] theorem State.setFld_cal (s : State) (f : Fld) (v : Nat) : (s.setFld f v).cal = s.cal := rfl
@[simp] theorem State.setFld_recd (s : State) (f : Fld) (v : Nat) : (s.setFld f v).recd = s.recd := rfl
@[simp] theorem State.setFld_sec (s : State) (f : Fld) (v : Nat) : (s.setFld f v).sec = s.sec := rfl
@[simp] theorem State.setFld_rx (s : State) (f : Fld) (v : Nat) : (s.setFld f v).rx = s.rx := rfl
@[simp] theorem State.setFld_tx (s : State) (f : Fld) (v : Nat) : (s.setFld f v).tx = s.tx := rfl
@[simp] theorem State.setFld_bf (s : State) (f : Fld) (v : Nat) : (s.setFld f v).bf = s.bf := rfl
@[simp] theorem State.setFld_dpd (s : State) (f : Fld) (v : Nat) : (s.setFld f v).dpd = s.dpd := rfl
@[simp] theorem State.setFld_pra (s : State) (f : Fld) (v : Nat) : (s.setFld f v).pra = s.pra := rfl
@[simp] theorem State.setFld_fh (s : State) (f : Fld) (v : Nat) : (s.setFld f v).fh = s.fh := rfl
@[simp] theorem State.setFld_ln (s : State) (f : Fld) (v : Nat) : (s.setFld f v).ln = s.ln := rfl
@[simp] theorem State.setFld_eng (s : State) (f : Fld) (v : Nat) : (s.setFld f v).eng = s.eng := rfl
@[simp] theorem State.setFld_dma (s : State) (f : Fld) (v : Nat) : (s.setFld f v).dma = s.dma := rfl
@[simp] theorem State.setFld_cas (s : State) (f : Fld) (v : Nat) : (s.setFld f v).cas = s.cas := rfl

@[simp] theorem State.addFld_pending (s : State) (f : Fld) (n : Nat) : (s.addFld f n).pending = s.pending := rfl
@[simp] theorem State.addFld_shadow (s : State) (f : Fld) (n : Nat) : (s.addFld f n).shadow = s.shadow := rfl
@[simp] theorem State.addFld_hostDirty (s : State) (f : Fld) (n : Nat) : (s.addFld f n).hostDirty = s.hostDirty := rfl
@[simp] theorem State.addFld_armed (s : State) (f : Fld) (n : Nat) : (s.addFld f n).armed = s.armed := rfl
@[simp] theorem State.addFld_elapsed (s : State) (f : Fld) (n : Nat) : (s.addFld f n).elapsed = s.elapsed := rfl
@[simp] theorem State.addFld_freeCtr (s : State) (f : Fld) (n : Nat) : (s.addFld f n).freeCtr = s.freeCtr := rfl
@[simp] theorem State.addFld_outbox (s : State) (f : Fld) (n : Nat) : (s.addFld f n).outbox = s.outbox := rfl
@[simp] theorem State.addFld_hostMem (s : State) (f : Fld) (n : Nat) : (s.addFld f n).hostMem = s.hostMem := rfl
@[simp] theorem State.addFld_tick (s : State) (f : Fld) (n : Nat) : (s.addFld f n).tick = s.tick := rfl
@[simp] theorem State.addFld_privi (s : State) (f : Fld) (n : Nat) : (s.addFld f n).privi = s.privi := rfl
@[simp] theorem State.addFld_ev (s : State) (f : Fld) (n : Nat) : (s.addFld f n).ev = s.ev := rfl
@[simp] theorem State.addFld_fault (s : State) (f : Fld) (n : Nat) : (s.addFld f n).fault = s.fault := rfl
@[simp] theorem State.addFld_clk (s : State) (f : Fld) (n : Nat) : (s.addFld f n).clk = s.clk := rfl
@[simp] theorem State.addFld_pwr (s : State) (f : Fld) (n : Nat) : (s.addFld f n).pwr = s.pwr := rfl
@[simp] theorem State.addFld_time (s : State) (f : Fld) (n : Nat) : (s.addFld f n).time = s.time := rfl
@[simp] theorem State.addFld_hk (s : State) (f : Fld) (n : Nat) : (s.addFld f n).hk = s.hk := rfl
@[simp] theorem State.addFld_cal (s : State) (f : Fld) (n : Nat) : (s.addFld f n).cal = s.cal := rfl
@[simp] theorem State.addFld_recd (s : State) (f : Fld) (n : Nat) : (s.addFld f n).recd = s.recd := rfl
@[simp] theorem State.addFld_sec (s : State) (f : Fld) (n : Nat) : (s.addFld f n).sec = s.sec := rfl
@[simp] theorem State.addFld_rx (s : State) (f : Fld) (n : Nat) : (s.addFld f n).rx = s.rx := rfl
@[simp] theorem State.addFld_tx (s : State) (f : Fld) (n : Nat) : (s.addFld f n).tx = s.tx := rfl
@[simp] theorem State.addFld_bf (s : State) (f : Fld) (n : Nat) : (s.addFld f n).bf = s.bf := rfl
@[simp] theorem State.addFld_dpd (s : State) (f : Fld) (n : Nat) : (s.addFld f n).dpd = s.dpd := rfl
@[simp] theorem State.addFld_pra (s : State) (f : Fld) (n : Nat) : (s.addFld f n).pra = s.pra := rfl
@[simp] theorem State.addFld_fh (s : State) (f : Fld) (n : Nat) : (s.addFld f n).fh = s.fh := rfl
@[simp] theorem State.addFld_ln (s : State) (f : Fld) (n : Nat) : (s.addFld f n).ln = s.ln := rfl
@[simp] theorem State.addFld_eng (s : State) (f : Fld) (n : Nat) : (s.addFld f n).eng = s.eng := rfl
@[simp] theorem State.addFld_dma (s : State) (f : Fld) (n : Nat) : (s.addFld f n).dma = s.dma := rfl
@[simp] theorem State.addFld_cas (s : State) (f : Fld) (n : Nat) : (s.addFld f n).cas = s.cas := rfl

@[simp] theorem State.resetRange_pending (s : State) (lo hi : Nat) : (s.resetRange lo hi).pending = s.pending := rfl
@[simp] theorem State.resetRange_hostDirty (s : State) (lo hi : Nat) : (s.resetRange lo hi).hostDirty = s.hostDirty := rfl
@[simp] theorem State.resetRange_armed (s : State) (lo hi : Nat) : (s.resetRange lo hi).armed = s.armed := rfl
@[simp] theorem State.resetRange_elapsed (s : State) (lo hi : Nat) : (s.resetRange lo hi).elapsed = s.elapsed := rfl
@[simp] theorem State.resetRange_freeCtr (s : State) (lo hi : Nat) : (s.resetRange lo hi).freeCtr = s.freeCtr := rfl
@[simp] theorem State.resetRange_outbox (s : State) (lo hi : Nat) : (s.resetRange lo hi).outbox = s.outbox := rfl
@[simp] theorem State.resetRange_hostMem (s : State) (lo hi : Nat) : (s.resetRange lo hi).hostMem = s.hostMem := rfl
@[simp] theorem State.resetRange_tick (s : State) (lo hi : Nat) : (s.resetRange lo hi).tick = s.tick := rfl
@[simp] theorem State.resetRange_privi (s : State) (lo hi : Nat) : (s.resetRange lo hi).privi = s.privi := rfl
@[simp] theorem State.resetRange_ev (s : State) (lo hi : Nat) : (s.resetRange lo hi).ev = s.ev := rfl
@[simp] theorem State.resetRange_fault (s : State) (lo hi : Nat) : (s.resetRange lo hi).fault = s.fault := rfl
@[simp] theorem State.resetRange_clk (s : State) (lo hi : Nat) : (s.resetRange lo hi).clk = s.clk := rfl
@[simp] theorem State.resetRange_pwr (s : State) (lo hi : Nat) : (s.resetRange lo hi).pwr = s.pwr := rfl
@[simp] theorem State.resetRange_time (s : State) (lo hi : Nat) : (s.resetRange lo hi).time = s.time := rfl
@[simp] theorem State.resetRange_hk (s : State) (lo hi : Nat) : (s.resetRange lo hi).hk = s.hk := rfl
@[simp] theorem State.resetRange_cal (s : State) (lo hi : Nat) : (s.resetRange lo hi).cal = s.cal := rfl
@[simp] theorem State.resetRange_recd (s : State) (lo hi : Nat) : (s.resetRange lo hi).recd = s.recd := rfl
@[simp] theorem State.resetRange_sec (s : State) (lo hi : Nat) : (s.resetRange lo hi).sec = s.sec := rfl
@[simp] theorem State.resetRange_rx (s : State) (lo hi : Nat) : (s.resetRange lo hi).rx = s.rx := rfl
@[simp] theorem State.resetRange_tx (s : State) (lo hi : Nat) : (s.resetRange lo hi).tx = s.tx := rfl
@[simp] theorem State.resetRange_bf (s : State) (lo hi : Nat) : (s.resetRange lo hi).bf = s.bf := rfl
@[simp] theorem State.resetRange_dpd (s : State) (lo hi : Nat) : (s.resetRange lo hi).dpd = s.dpd := rfl
@[simp] theorem State.resetRange_pra (s : State) (lo hi : Nat) : (s.resetRange lo hi).pra = s.pra := rfl
@[simp] theorem State.resetRange_fh (s : State) (lo hi : Nat) : (s.resetRange lo hi).fh = s.fh := rfl
@[simp] theorem State.resetRange_ln (s : State) (lo hi : Nat) : (s.resetRange lo hi).ln = s.ln := rfl
@[simp] theorem State.resetRange_eng (s : State) (lo hi : Nat) : (s.resetRange lo hi).eng = s.eng := rfl
@[simp] theorem State.resetRange_dma (s : State) (lo hi : Nat) : (s.resetRange lo hi).dma = s.dma := rfl
@[simp] theorem State.resetRange_cas (s : State) (lo hi : Nat) : (s.resetRange lo hi).cas = s.cas := rfl

@[simp] theorem State.hostWrite_pending (s : State) (addr : Nat) (bs : List Byte) : (s.hostWrite addr bs).pending = s.pending := rfl
@[simp] theorem State.hostWrite_regs (s : State) (addr : Nat) (bs : List Byte) : (s.hostWrite addr bs).regs = s.regs := rfl
@[simp] theorem State.hostWrite_shadow (s : State) (addr : Nat) (bs : List Byte) : (s.hostWrite addr bs).shadow = s.shadow := rfl
@[simp] theorem State.hostWrite_hostDirty (s : State) (addr : Nat) (bs : List Byte) : (s.hostWrite addr bs).hostDirty = s.hostDirty := rfl
@[simp] theorem State.hostWrite_armed (s : State) (addr : Nat) (bs : List Byte) : (s.hostWrite addr bs).armed = s.armed := rfl
@[simp] theorem State.hostWrite_elapsed (s : State) (addr : Nat) (bs : List Byte) : (s.hostWrite addr bs).elapsed = s.elapsed := rfl
@[simp] theorem State.hostWrite_freeCtr (s : State) (addr : Nat) (bs : List Byte) : (s.hostWrite addr bs).freeCtr = s.freeCtr := rfl
@[simp] theorem State.hostWrite_outbox (s : State) (addr : Nat) (bs : List Byte) : (s.hostWrite addr bs).outbox = s.outbox := rfl
@[simp] theorem State.hostWrite_tick (s : State) (addr : Nat) (bs : List Byte) : (s.hostWrite addr bs).tick = s.tick := rfl
@[simp] theorem State.hostWrite_privi (s : State) (addr : Nat) (bs : List Byte) : (s.hostWrite addr bs).privi = s.privi := rfl
@[simp] theorem State.hostWrite_ev (s : State) (addr : Nat) (bs : List Byte) : (s.hostWrite addr bs).ev = s.ev := rfl
@[simp] theorem State.hostWrite_fault (s : State) (addr : Nat) (bs : List Byte) : (s.hostWrite addr bs).fault = s.fault := rfl
@[simp] theorem State.hostWrite_clk (s : State) (addr : Nat) (bs : List Byte) : (s.hostWrite addr bs).clk = s.clk := rfl
@[simp] theorem State.hostWrite_pwr (s : State) (addr : Nat) (bs : List Byte) : (s.hostWrite addr bs).pwr = s.pwr := rfl
@[simp] theorem State.hostWrite_time (s : State) (addr : Nat) (bs : List Byte) : (s.hostWrite addr bs).time = s.time := rfl
@[simp] theorem State.hostWrite_hk (s : State) (addr : Nat) (bs : List Byte) : (s.hostWrite addr bs).hk = s.hk := rfl
@[simp] theorem State.hostWrite_cal (s : State) (addr : Nat) (bs : List Byte) : (s.hostWrite addr bs).cal = s.cal := rfl
@[simp] theorem State.hostWrite_recd (s : State) (addr : Nat) (bs : List Byte) : (s.hostWrite addr bs).recd = s.recd := rfl
@[simp] theorem State.hostWrite_sec (s : State) (addr : Nat) (bs : List Byte) : (s.hostWrite addr bs).sec = s.sec := rfl
@[simp] theorem State.hostWrite_rx (s : State) (addr : Nat) (bs : List Byte) : (s.hostWrite addr bs).rx = s.rx := rfl
@[simp] theorem State.hostWrite_tx (s : State) (addr : Nat) (bs : List Byte) : (s.hostWrite addr bs).tx = s.tx := rfl
@[simp] theorem State.hostWrite_bf (s : State) (addr : Nat) (bs : List Byte) : (s.hostWrite addr bs).bf = s.bf := rfl
@[simp] theorem State.hostWrite_dpd (s : State) (addr : Nat) (bs : List Byte) : (s.hostWrite addr bs).dpd = s.dpd := rfl
@[simp] theorem State.hostWrite_pra (s : State) (addr : Nat) (bs : List Byte) : (s.hostWrite addr bs).pra = s.pra := rfl
@[simp] theorem State.hostWrite_fh (s : State) (addr : Nat) (bs : List Byte) : (s.hostWrite addr bs).fh = s.fh := rfl
@[simp] theorem State.hostWrite_ln (s : State) (addr : Nat) (bs : List Byte) : (s.hostWrite addr bs).ln = s.ln := rfl
@[simp] theorem State.hostWrite_eng (s : State) (addr : Nat) (bs : List Byte) : (s.hostWrite addr bs).eng = s.eng := rfl
@[simp] theorem State.hostWrite_dma (s : State) (addr : Nat) (bs : List Byte) : (s.hostWrite addr bs).dma = s.dma := rfl
@[simp] theorem State.hostWrite_cas (s : State) (addr : Nat) (bs : List Byte) : (s.hostWrite addr bs).cas = s.cas := rfl

@[simp] theorem State.emit_pending (s : State) (o : Output) : (s.emit o).pending = s.pending := rfl
@[simp] theorem State.emit_regs (s : State) (o : Output) : (s.emit o).regs = s.regs := rfl
@[simp] theorem State.emit_shadow (s : State) (o : Output) : (s.emit o).shadow = s.shadow := rfl
@[simp] theorem State.emit_hostDirty (s : State) (o : Output) : (s.emit o).hostDirty = s.hostDirty := rfl
@[simp] theorem State.emit_armed (s : State) (o : Output) : (s.emit o).armed = s.armed := rfl
@[simp] theorem State.emit_elapsed (s : State) (o : Output) : (s.emit o).elapsed = s.elapsed := rfl
@[simp] theorem State.emit_freeCtr (s : State) (o : Output) : (s.emit o).freeCtr = s.freeCtr := rfl
@[simp] theorem State.emit_hostMem (s : State) (o : Output) : (s.emit o).hostMem = s.hostMem := rfl
@[simp] theorem State.emit_tick (s : State) (o : Output) : (s.emit o).tick = s.tick := rfl
@[simp] theorem State.emit_privi (s : State) (o : Output) : (s.emit o).privi = s.privi := rfl
@[simp] theorem State.emit_ev (s : State) (o : Output) : (s.emit o).ev = s.ev := rfl
@[simp] theorem State.emit_fault (s : State) (o : Output) : (s.emit o).fault = s.fault := rfl
@[simp] theorem State.emit_clk (s : State) (o : Output) : (s.emit o).clk = s.clk := rfl
@[simp] theorem State.emit_pwr (s : State) (o : Output) : (s.emit o).pwr = s.pwr := rfl
@[simp] theorem State.emit_time (s : State) (o : Output) : (s.emit o).time = s.time := rfl
@[simp] theorem State.emit_hk (s : State) (o : Output) : (s.emit o).hk = s.hk := rfl
@[simp] theorem State.emit_cal (s : State) (o : Output) : (s.emit o).cal = s.cal := rfl
@[simp] theorem State.emit_recd (s : State) (o : Output) : (s.emit o).recd = s.recd := rfl
@[simp] theorem State.emit_sec (s : State) (o : Output) : (s.emit o).sec = s.sec := rfl
@[simp] theorem State.emit_rx (s : State) (o : Output) : (s.emit o).rx = s.rx := rfl
@[simp] theorem State.emit_tx (s : State) (o : Output) : (s.emit o).tx = s.tx := rfl
@[simp] theorem State.emit_bf (s : State) (o : Output) : (s.emit o).bf = s.bf := rfl
@[simp] theorem State.emit_dpd (s : State) (o : Output) : (s.emit o).dpd = s.dpd := rfl
@[simp] theorem State.emit_pra (s : State) (o : Output) : (s.emit o).pra = s.pra := rfl
@[simp] theorem State.emit_fh (s : State) (o : Output) : (s.emit o).fh = s.fh := rfl
@[simp] theorem State.emit_ln (s : State) (o : Output) : (s.emit o).ln = s.ln := rfl
@[simp] theorem State.emit_eng (s : State) (o : Output) : (s.emit o).eng = s.eng := rfl
@[simp] theorem State.emit_dma (s : State) (o : Output) : (s.emit o).dma = s.dma := rfl
@[simp] theorem State.emit_cas (s : State) (o : Output) : (s.emit o).cas = s.cas := rfl

@[simp] theorem State.fresh_pending (s : State) (w : Nat) : (s.fresh w).2.pending = s.pending := rfl
@[simp] theorem State.fresh_regs (s : State) (w : Nat) : (s.fresh w).2.regs = s.regs := rfl
@[simp] theorem State.fresh_shadow (s : State) (w : Nat) : (s.fresh w).2.shadow = s.shadow := rfl
@[simp] theorem State.fresh_hostDirty (s : State) (w : Nat) : (s.fresh w).2.hostDirty = s.hostDirty := rfl
@[simp] theorem State.fresh_armed (s : State) (w : Nat) : (s.fresh w).2.armed = s.armed := rfl
@[simp] theorem State.fresh_elapsed (s : State) (w : Nat) : (s.fresh w).2.elapsed = s.elapsed := rfl
@[simp] theorem State.fresh_outbox (s : State) (w : Nat) : (s.fresh w).2.outbox = s.outbox := rfl
@[simp] theorem State.fresh_hostMem (s : State) (w : Nat) : (s.fresh w).2.hostMem = s.hostMem := rfl
@[simp] theorem State.fresh_tick (s : State) (w : Nat) : (s.fresh w).2.tick = s.tick := rfl
@[simp] theorem State.fresh_privi (s : State) (w : Nat) : (s.fresh w).2.privi = s.privi := rfl
@[simp] theorem State.fresh_ev (s : State) (w : Nat) : (s.fresh w).2.ev = s.ev := rfl
@[simp] theorem State.fresh_fault (s : State) (w : Nat) : (s.fresh w).2.fault = s.fault := rfl
@[simp] theorem State.fresh_clk (s : State) (w : Nat) : (s.fresh w).2.clk = s.clk := rfl
@[simp] theorem State.fresh_pwr (s : State) (w : Nat) : (s.fresh w).2.pwr = s.pwr := rfl
@[simp] theorem State.fresh_time (s : State) (w : Nat) : (s.fresh w).2.time = s.time := rfl
@[simp] theorem State.fresh_hk (s : State) (w : Nat) : (s.fresh w).2.hk = s.hk := rfl
@[simp] theorem State.fresh_cal (s : State) (w : Nat) : (s.fresh w).2.cal = s.cal := rfl
@[simp] theorem State.fresh_recd (s : State) (w : Nat) : (s.fresh w).2.recd = s.recd := rfl
@[simp] theorem State.fresh_sec (s : State) (w : Nat) : (s.fresh w).2.sec = s.sec := rfl
@[simp] theorem State.fresh_rx (s : State) (w : Nat) : (s.fresh w).2.rx = s.rx := rfl
@[simp] theorem State.fresh_tx (s : State) (w : Nat) : (s.fresh w).2.tx = s.tx := rfl
@[simp] theorem State.fresh_bf (s : State) (w : Nat) : (s.fresh w).2.bf = s.bf := rfl
@[simp] theorem State.fresh_dpd (s : State) (w : Nat) : (s.fresh w).2.dpd = s.dpd := rfl
@[simp] theorem State.fresh_pra (s : State) (w : Nat) : (s.fresh w).2.pra = s.pra := rfl
@[simp] theorem State.fresh_fh (s : State) (w : Nat) : (s.fresh w).2.fh = s.fh := rfl
@[simp] theorem State.fresh_ln (s : State) (w : Nat) : (s.fresh w).2.ln = s.ln := rfl
@[simp] theorem State.fresh_eng (s : State) (w : Nat) : (s.fresh w).2.eng = s.eng := rfl
@[simp] theorem State.fresh_dma (s : State) (w : Nat) : (s.fresh w).2.dma = s.dma := rfl
@[simp] theorem State.fresh_cas (s : State) (w : Nat) : (s.fresh w).2.cas = s.cas := rfl
@[simp] theorem State.fresh_freeCtr (s : State) (w : Nat) : (s.fresh w).2.freeCtr = s.freeCtr + 1 := rfl

/-! ### The register file -/

/-- A register reads the word written to it. -/
@[simp] theorem State.reg_setReg_same {s : State} (h : swf resetWord s.regs = true) (a : Nat) (w : Word) :
    (s.setReg a w).reg a = w := sget_sput_same h

/-- A write leaves every other register as it was. -/
theorem State.reg_setReg_other (s : State) {a b : Nat} (w : Word) (hb : b ≠ a) : (s.setReg a w).reg b = s.reg b :=
  sget_sput_other hb

/-- Writes keep the register file's canonical form. -/
theorem State.setReg_swf {s : State} (h : swf resetWord s.regs = true) (a : Nat) (w : Word) :
    swf resetWord (s.setReg a w).regs = true := sput_swf h

theorem State.setFld_swf {s : State} (h : swf resetWord s.regs = true) (f : Fld) (v : Nat) :
    swf resetWord (s.setFld f v).regs = true := sput_swf h

theorem State.addFld_swf {s : State} (h : swf resetWord s.regs = true) (f : Fld) (n : Nat) :
    swf resetWord (s.addFld f n).regs = true := sput_swf h

theorem State.resetRange_swf {s : State} (h : swf resetWord s.regs = true) (lo hi : Nat) :
    swf resetWord (s.resetRange lo hi).regs = true := sclear_swf _ h

/-- A field write leaves every other register as it was. -/
theorem State.reg_setFld_other (s : State) (f : Fld) (v : Nat) {b : Nat} (hb : b ≠ f.addr) : (s.setFld f v).reg b = s.reg b :=
  State.reg_setReg_other s _ hb

/-- A field of another register reads as before. -/
theorem State.fld_setFld_other (s : State) (f g : Fld) (v : Nat) (hg : g.addr ≠ f.addr) : (s.setFld f v).fld g = s.fld g := by
  simp [State.fld, State.reg_setFld_other s f v hg]

/-! ### Bit fields -/

/-- The bits that were put read back, cut to the field's width. -/
theorem bitsAt_putBits_same (v lo w x : Nat) : bitsAt (putBits v lo w x) lo w = x % 2 ^ w := by
  have h2 : 0 < 2 ^ lo := Nat.two_pow_pos lo
  have hlt : v % 2 ^ lo < 2 ^ lo := Nat.mod_lt _ h2
  have e : putBits v lo w x = (v / 2 ^ (lo + w) * 2 ^ w + x % 2 ^ w) * 2 ^ lo + v % 2 ^ lo := by
    simp only [putBits, pow_add]; ring
  rw [bitsAt, e, Nat.add_comm, Nat.add_mul_div_right _ _ h2, Nat.div_eq_of_lt hlt, Nat.zero_add, Nat.add_comm,
    Nat.add_mul_mod_self_right, Nat.mod_mod]

/-- A word with a field inside it put stays a word. -/
theorem putBits_lt {v lo w x n : Nat} (hv : v < 2 ^ n) (hw : lo + w ≤ n) : putBits v lo w x < 2 ^ n := by
  have h2 : 0 < 2 ^ lo := Nat.two_pow_pos lo
  have hlt : v % 2 ^ lo < 2 ^ lo := Nat.mod_lt _ h2
  have hx : x % 2 ^ w < 2 ^ w := Nat.mod_lt _ (Nat.two_pow_pos w)
  obtain ⟨k, rfl⟩ := Nat.exists_eq_add_of_le hw
  have hq : v / 2 ^ (lo + w) < 2 ^ k := Nat.div_lt_of_lt_mul (by rw [← pow_add]; exact hv)
  have h1 : v / 2 ^ (lo + w) * 2 ^ (lo + w) + 2 ^ (lo + w) ≤ 2 ^ (lo + w + k) := by
    rw [← Nat.succ_mul, pow_add _ (lo + w) k, Nat.mul_comm (2 ^ (lo + w)) (2 ^ k)]
    exact Nat.mul_le_mul_right _ hq
  have h3 : (x % 2 ^ w) * 2 ^ lo + 2 ^ lo ≤ 2 ^ (lo + w) := by
    rw [← Nat.succ_mul, Nat.add_comm lo w, pow_add]
    exact Nat.mul_le_mul_right _ hx
  unfold putBits
  omega

/-- A field reads the value written to it, cut to its width; the register's other bits are those it had. -/
theorem State.fld_setFld_same {s : State} (h : swf resetWord s.regs = true) (f : Fld) (v : Nat) (hf : f.lo + f.width ≤ 32) :
    (s.setFld f v).fld f = v % 2 ^ f.width := by
  have hlt : putBits (s.reg f.addr).toNat f.lo f.width v < 2 ^ 32 := putBits_lt (s.reg f.addr).isLt hf
  simp only [State.fld, State.setFld, State.reg_setReg_same h, BitVec.toNat_ofNat, Nat.mod_eq_of_lt hlt]
  exact bitsAt_putBits_same _ _ _ _

/-! ### Host memory -/

/-- Writing host memory keeps its canonical form. -/
theorem State.hostWrite_wf {s : State} (h : Memory.wf s.hostMem = true) (addr : Nat) (bs : List Byte) :
    Memory.wf (s.hostWrite addr bs).hostMem = true := by
  have key : ∀ (l : List (Byte × Nat)) (m : List Host.Cell), Memory.wf m = true →
      Memory.wf (l.foldl (fun m (b, i) => sput (fun _ => (0 : Byte)) m ((addr + i) % 2 ^ 64) b) m) = true := by
    intro l
    induction l with
    | nil => exact fun m hm => hm
    | cons e r ih => exact fun m hm => ih _ (sput_swf hm)
  exact key _ _ h

end Sys2Proof.Machine
end

