-- ==== Sys2Proof/Laws/KeepsBase.lean ====
section
/-!
SUPPORT. Sys2Proof/Laws/KeepsBase.lean: what every state function leaves of the model's bookkeeping (`Keeps`): the shape of such proofs, and the shared operations.
-/
set_option linter.unusedTactic false
set_option linter.tactic.unusedName false
set_option linter.unreachableTactic false
set_option linter.unusedVariables false
namespace Sys2Proof.Machine

variable {kq : Bool}

theorem Keeps.refl (s : State) : Keeps kq s s := ⟨rfl, id, rfl, le_refl _, fun _ => rfl⟩

/-- An update of any other field keeps. -/
theorem Keeps.upd {s0 s : State} {f1 f2 f3 f4 f5 f6 f7 f8 f9 f10 f11 f12 f13 f14 f15 f16 f17 f18 f19 f20 f21 f22 f23 f24 f25}
    (h : Keeps kq s0 s) :
    Keeps kq s0 (State.mk s.pending s.regs f1 f2 f3 s.elapsed s.freeCtr f4 s.hostMem f5 f6 f7 f8 f9 f10 f11 f12 f13 f14 f15 f16
      f17 f18 f19 f20 f21 f22 f23 f24 f25) := ⟨h.pending, h.stores, h.elapsed, h.free, h.host⟩

/-- So does an update that takes free values. -/
theorem Keeps.updFree {s0 s t : State} {n : Nat} {f1 f2 f3 f4 f5 f6 f7 f8 f9 f10 f11 f12 f13 f14 f15 f16 f17 f18 f19 f20 f21 f22 f23 f24 f25}
    (h : Keeps kq s0 s) (ht : Keeps kq s0 t) :
    Keeps kq s0 (State.mk s.pending s.regs f1 f2 f3 s.elapsed (t.freeCtr + n) f4 s.hostMem f5 f6 f7 f8 f9 f10 f11 f12 f13 f14 f15 f16
      f17 f18 f19 f20 f21 f22 f23 f24 f25) := ⟨h.pending, h.stores, h.elapsed, le_trans ht.free (Nat.le_add_right _ _), h.host⟩

/-- What a state that is named on the way keeps. -/
theorem Keeps.cut {s0 : State} {P : Prop} (x : State) (h : Keeps kq s0 x) (f : Keeps kq s0 x → P) : P := f h
theorem Keeps.cut1 {s0 : State} {α : Type} {P : Prop} (x : State × α) (h : Keeps kq s0 x.1) (f : Keeps kq s0 x.1 → P) : P := f h
theorem Keeps.cut2 {s0 : State} {α : Type} {P : Prop} (x : α × State) (h : Keeps kq s0 x.2) (f : Keeps kq s0 x.2 → P) : P := f h

/-- A local function stands for its body. -/
theorem Keeps.fn {α β : Sort _} {P : Prop} (_ : α → β) (h : P) : P := h

theorem Keeps.fst {s0 t : State} {α : Type} {p : State × α} {v : α} (e : p = (t, v)) (h : Keeps kq s0 p.1) : Keeps kq s0 t := by
  subst e; exact h

theorem Keeps.foldl1 {s0 : State} {α β : Type} {p : State × β} {f : State × β → α → State × β} {l : List α} (h : Keeps kq s0 p.1)
    (hf : ∀ t x, Keeps kq s0 t.1 → Keeps kq s0 (f t x).1) : Keeps kq s0 (l.foldl f p).1 := by
  induction l generalizing p with
  | nil => exact h
  | cons x r ih => exact ih (hf p x h)

theorem Keeps.snd {s0 t : State} {α : Type} {p : α × State} {v : α} (e : p = (v, t)) (h : Keeps kq s0 p.2) : Keeps kq s0 t := by
  subst e; exact h

theorem Keeps.foldl {s0 s : State} {α : Type} {f : State → α → State} {l : List α} (h : Keeps kq s0 s)
    (hf : ∀ t x, Keeps kq s0 t → Keeps kq s0 (f t x)) : Keeps kq s0 (l.foldl f s) := by
  induction l generalizing s with
  | nil => exact h
  | cons x r ih => exact ih (hf s x h)

theorem Keeps.foldl2 {s0 : State} {α β : Type} {p : β × State} {f : β × State → α → β × State} {l : List α} (h : Keeps kq s0 p.2)
    (hf : ∀ t x, Keeps kq s0 t.2 → Keeps kq s0 (f t x).2) : Keeps kq s0 (l.foldl f p).2 := by
  induction l generalizing p with
  | nil => exact h
  | cons x r ih => exact ih (hf p x h)

/-- An outcome keeps where its next state does. -/
def KeepsO (q : Bool) (s : State) (o : Host.Outcome State Fault Refusal) : Prop := ∀ t, o = .next t → Keeps q s t

theorem KeepsO.next {s0 t : State} (h : Keeps kq s0 t) : KeepsO kq s0 (.next t) := fun _ e => by cases e; exact h

theorem Keeps.ite {s0 a b : State} {c : Prop} {_ : Decidable c} (ha : Keeps kq s0 a) (hb : Keeps kq s0 b) :
    Keeps kq s0 (if c then a else b) := by split <;> assumption

theorem KeepsO.ite {s0 : State} {a b : Host.Outcome State Fault Refusal} {c : Prop} {_ : Decidable c} (ha : KeepsO kq s0 a)
    (hb : KeepsO kq s0 b) : KeepsO kq s0 (if c then a else b) := by split <;> assumption

theorem Keeps.snd2 {s0 t : State} {α β : Type} {p : α × β × State} {v : α} {w : β} (e : p = (v, w, t)) (h : Keeps kq s0 p.2.2) :
    Keeps kq s0 t := by subst e; exact h

theorem Done.plain_keeps {s0 s : State} {x} (h : Keeps kq s0 s) : Keeps kq s0 (Done.plain x s).s := h
theorem Done.bad_keeps {s0 s : State} {x c} (h : Keeps kq s0 s) : Keeps kq s0 (Done.bad x s c).s := h

theorem State.fresh_keeps {s0 s : State} {w} (h : Keeps kq s0 s) : Keeps kq s0 (s.fresh w).2 :=
  ⟨h.pending, h.stores, h.elapsed, le_trans h.free (Nat.le_succ _), h.host⟩

theorem State.setReg_keeps {s0 s : State} {a w} (h : Keeps kq s0 s) : Keeps kq s0 (s.setReg a w) :=
  ⟨h.pending, fun hc => by
    have := h.stores hc
    simp only [State.canonical, Bool.and_eq_true] at this ⊢
    exact ⟨State.setReg_swf this.1 _ _, this.2⟩, h.elapsed, h.free, h.host⟩

theorem State.setFld_keeps {s0 s : State} {f v} (h : Keeps kq s0 s) : Keeps kq s0 (State.setFld s f v) := by
  unfold State.setFld
  repeat' (first | with_reducible assumption | with_reducible apply State.setReg_keeps)

theorem State.putPrivi_keeps {s0 s : State} {p} (h : Keeps kq s0 s) : Keeps kq s0 (State.putPrivi s p) := by
  unfold State.putPrivi
  repeat' (first | with_reducible assumption | ((fail_if_no_progress (extract_lets +onlyGivenNames y)); (have z_ := y; guard_hyp z_ : State; clear z_); refine Keeps.cut (kq := kq) (s0 := s0) y ?_ ?_; (on_goal 1 => subst y); (on_goal 2 => (intro hy; try clear_value y))) | with_reducible apply State.setFld_keeps | fail_if_no_progress (with_reducible apply Keeps.upd))

theorem State.emit_keeps {s0 s : State} {o} (h : Keeps kq s0 s) : Keeps kq s0 (State.emit s o) := by
  unfold State.emit
  repeat' (first | with_reducible assumption | fail_if_no_progress (with_reducible apply Keeps.upd))

theorem State.sendReply_keeps {s0 s : State} {via sender bs} (h : Keeps kq s0 s) : Keeps kq s0 (State.sendReply s via sender bs) := by
  unfold State.sendReply
  repeat' (first | with_reducible assumption | with_reducible refine Keeps.ite ?_ ?_ | ((fail_if_no_progress (extract_lets +onlyGivenNames y)); clear_value y) | with_reducible apply State.putPrivi_keeps | with_reducible apply State.emit_keeps | split)

theorem State.sendUnstored_keeps {s0 s : State} {via sender opcode tag st payload tick} (h : Keeps kq s0 s) : Keeps kq s0 (State.sendUnstored s via sender opcode tag st payload tick) := by
  unfold State.sendUnstored
  repeat' (first | with_reducible assumption | with_reducible apply State.fresh_keeps | with_reducible apply State.sendReply_keeps | split | (with_reducible apply Keeps.snd; with_reducible assumption))

theorem State.finish_keeps {s0 s : State} {tag o} (h : Keeps kq s0 s) : Keeps kq s0 (State.finish s tag o) := by
  unfold State.finish
  repeat' (first | with_reducible assumption | with_reducible refine Keeps.ite ?_ ?_ | ((fail_if_no_progress (extract_lets +onlyGivenNames y)); clear_value y) | with_reducible apply State.putPrivi_keeps | split)

theorem State.finishNow_keeps {s0 s : State} {tag st payload} (h : Keeps kq s0 s) : Keeps kq s0 (State.finishNow s tag st payload) := by
  unfold State.finishNow
  repeat' (first | with_reducible assumption | with_reducible apply State.finish_keeps)

theorem State.noteItem_keeps {s0 s : State} {i} (h : Keeps kq s0 s) : Keeps kq s0 (State.noteItem s i) := by
  unfold State.noteItem
  repeat' (first | with_reducible assumption | with_reducible refine Keeps.ite ?_ ?_ | ((fail_if_no_progress (extract_lets +onlyGivenNames y)); clear_value y) | fail_if_no_progress (with_reducible apply Keeps.upd))

theorem State.writeShadow_keeps {s0 s : State} {a m v} (h : Keeps kq s0 s) : Keeps kq s0 (State.writeShadow s a m v) := by
  unfold State.writeShadow
  repeat' (first | with_reducible assumption | fail_if_no_progress (with_reducible apply Keeps.upd))

theorem State.entryAfter_keeps {s0 s : State} {c} (h : Keeps kq s0 s) : Keeps kq s0 (State.entryAfter s c) := by
  unfold State.entryAfter
  repeat' (first | with_reducible assumption | with_reducible refine Keeps.ite ?_ ?_ | ((fail_if_no_progress (extract_lets +onlyGivenNames y)); (have z_ := y; guard_hyp z_ : State; clear z_); refine Keeps.cut (kq := kq) (s0 := s0) y ?_ ?_; (on_goal 1 => subst y); (on_goal 2 => (intro hy; try clear_value y))) | ((fail_if_no_progress (extract_lets +onlyGivenNames y)); (have z_ := y; guard_hyp z_ : State × _; clear z_); refine Keeps.cut1 (kq := kq) (s0 := s0) y ?_ ?_; (on_goal 1 => subst y); (on_goal 2 => (intro hy; try clear_value y))) | ((fail_if_no_progress (extract_lets +onlyGivenNames y)); (have z_ := y; guard_hyp z_ : _ × State; clear z_); refine Keeps.cut2 (kq := kq) (s0 := s0) y ?_ ?_; (on_goal 1 => subst y); (on_goal 2 => (intro hy; try clear_value y))) | ((fail_if_no_progress (extract_lets +onlyGivenNames y)); refine Keeps.fn y ?_; subst y; beta_reduce) | ((fail_if_no_progress (extract_lets +onlyGivenNames y)); clear_value y) | ((fail_if_no_progress (extract_lets +onlyGivenNames y)); subst y) | with_reducible apply State.setFld_keeps | with_reducible apply Done.plain_keeps | with_reducible apply Done.bad_keeps | fail_if_no_progress (with_reducible apply Keeps.upd) | (with_reducible refine Keeps.foldl ?_ ?_; on_goal 2 => (intro t x ht; beta_reduce)) | (with_reducible refine Keeps.foldl2 ?_ ?_; on_goal 2 => (intro t x ht; beta_reduce)) | with_reducible apply KeepsO.next | fail_if_no_progress (with_reducible apply Keeps.updFree) | (with_reducible refine Keeps.foldl1 ?_ ?_; on_goal 2 => (intro t x ht; beta_reduce)) | (with_reducible apply Keeps.fst; with_reducible assumption) | refine Keeps.ite ?_ ?_ | split | (intro a; intros; beta_reduce) | (with_reducible apply Keeps.snd; with_reducible assumption))

theorem State.markShadow_keeps {s0 s : State} {first chs} (h : Keeps kq s0 s) : Keeps kq s0 (State.markShadow s first chs) := by
  unfold State.markShadow
  repeat' (first | with_reducible assumption | with_reducible refine Keeps.ite ?_ ?_ | ((fail_if_no_progress (extract_lets +onlyGivenNames y)); (have z_ := y; guard_hyp z_ : State; clear z_); refine Keeps.cut (kq := kq) (s0 := s0) y ?_ ?_; (on_goal 1 => subst y); (on_goal 2 => (intro hy; try clear_value y))) | ((fail_if_no_progress (extract_lets +onlyGivenNames y)); (have z_ := y; guard_hyp z_ : State × _; clear z_); refine Keeps.cut1 (kq := kq) (s0 := s0) y ?_ ?_; (on_goal 1 => subst y); (on_goal 2 => (intro hy; try clear_value y))) | ((fail_if_no_progress (extract_lets +onlyGivenNames y)); (have z_ := y; guard_hyp z_ : _ × State; clear z_); refine Keeps.cut2 (kq := kq) (s0 := s0) y ?_ ?_; (on_goal 1 => subst y); (on_goal 2 => (intro hy; try clear_value y))) | ((fail_if_no_progress (extract_lets +onlyGivenNames y)); refine Keeps.fn y ?_; subst y; beta_reduce) | ((fail_if_no_progress (extract_lets +onlyGivenNames y)); clear_value y) | ((fail_if_no_progress (extract_lets +onlyGivenNames y)); subst y) | with_reducible apply State.writeShadow_keeps | with_reducible apply State.entryAfter_keeps | with_reducible apply Done.plain_keeps | with_reducible apply Done.bad_keeps | fail_if_no_progress (with_reducible apply Keeps.upd) | (with_reducible refine Keeps.foldl ?_ ?_; on_goal 2 => (intro t x ht; beta_reduce)) | (with_reducible refine Keeps.foldl2 ?_ ?_; on_goal 2 => (intro t x ht; beta_reduce)) | with_reducible apply KeepsO.next | fail_if_no_progress (with_reducible apply Keeps.updFree) | (with_reducible refine Keeps.foldl1 ?_ ?_; on_goal 2 => (intro t x ht; beta_reduce)) | (with_reducible apply Keeps.fst; with_reducible assumption) | refine Keeps.ite ?_ ?_ | split | (intro a; intros; beta_reduce) | (with_reducible apply Keeps.snd; with_reducible assumption))

theorem State.armCommit_keeps {s0 s : State} {k} (h : Keeps kq s0 s) : Keeps kq s0 (State.armCommit s k) := by
  unfold State.armCommit
  repeat' (first | with_reducible assumption | ((fail_if_no_progress (extract_lets +onlyGivenNames y)); (have z_ := y; guard_hyp z_ : State; clear z_); refine Keeps.cut (kq := kq) (s0 := s0) y ?_ ?_; (on_goal 1 => subst y); (on_goal 2 => (intro hy; try clear_value y))) | with_reducible apply State.noteItem_keeps | with_reducible apply State.markShadow_keeps | fail_if_no_progress (with_reducible apply Keeps.upd))

theorem State.measureCmd_keeps {s0 s : State} {opcode payload} (h : Keeps kq s0 s) : Keeps kq s0 (State.measureCmd s opcode payload) := by
  unfold State.measureCmd
  repeat' (first | with_reducible assumption | ((fail_if_no_progress (extract_lets +onlyGivenNames y)); clear_value y) | fail_if_no_progress (with_reducible apply Keeps.upd))

theorem State.addFld_keeps {s0 s : State} {f n} (h : Keeps kq s0 s) : Keeps kq s0 (State.addFld s f n) := by
  unfold State.addFld
  repeat' (first | with_reducible assumption | with_reducible apply State.setFld_keeps)

theorem State.raiseEv_keeps {s0 s : State} {e} (h : Keeps kq s0 s) : Keeps kq s0 (State.raiseEv s e) := by
  unfold State.raiseEv
  repeat' (first | with_reducible assumption | with_reducible refine Keeps.ite ?_ ?_ | ((fail_if_no_progress (extract_lets +onlyGivenNames y)); (have z_ := y; guard_hyp z_ : State; clear z_); refine Keeps.cut (kq := kq) (s0 := s0) y ?_ ?_; (on_goal 1 => subst y); (on_goal 2 => (intro hy; try clear_value y))) | ((fail_if_no_progress (extract_lets +onlyGivenNames y)); clear_value y) | with_reducible apply State.addFld_keeps | fail_if_no_progress (with_reducible apply Keeps.upd))

theorem State.raise_keeps {s0 s : State} {code value source sev} (h : Keeps kq s0 s) : Keeps kq s0 (State.raise s code value source sev) := by
  unfold State.raise
  repeat' (first | with_reducible assumption | with_reducible apply State.raiseEv_keeps)

theorem State.raiseFree_keeps {s0 s : State} {code source sev} (h : Keeps kq s0 s) : Keeps kq s0 (State.raiseFree s code source sev) := by
  unfold State.raiseFree
  repeat' (first | with_reducible assumption | with_reducible apply State.fresh_keeps | with_reducible apply State.raise_keeps)

theorem State.sendMsix_keeps {s0 s : State} {v} (h : Keeps kq s0 s) : Keeps kq s0 (State.sendMsix s v) := by
  unfold State.sendMsix
  repeat' (first | with_reducible assumption | with_reducible refine Keeps.ite ?_ ?_ | with_reducible apply State.setReg_keeps | with_reducible apply State.emit_keeps)

theorem State.irqEdges_keeps {s0 s : State} {old} (h : Keeps kq s0 s) : Keeps kq s0 (State.irqEdges s old) := by
  unfold State.irqEdges
  repeat' (first | with_reducible assumption | with_reducible refine Keeps.ite ?_ ?_ | with_reducible apply State.sendMsix_keeps | (with_reducible refine Keeps.foldl ?_ ?_; on_goal 2 => (intro t x ht; beta_reduce)))

theorem State.setIrq_keeps {s0 s : State} {f v} (h : Keeps kq s0 s) : Keeps kq s0 (State.setIrq s f v) := by
  unfold State.setIrq
  repeat' (first | with_reducible assumption | with_reducible apply State.irqEdges_keeps | with_reducible apply State.setFld_keeps)

theorem State.finishPart_keeps {s0 s : State} {tag st part payload} (h : Keeps kq s0 s) : Keeps kq s0 (State.finishPart s tag st part payload) := by
  unfold State.finishPart
  repeat' (first | with_reducible assumption | with_reducible apply State.finish_keeps)

theorem State.setTickMode_keeps {s0 s : State} {m} (h : Keeps kq s0 s) : Keeps kq s0 (State.setTickMode s m) := by
  unfold State.setTickMode
  repeat' (first | with_reducible assumption | with_reducible apply State.setFld_keeps)

theorem State.startTick_keeps {s0 s : State} (h : Keeps kq s0 s) : Keeps kq s0 (State.startTick s) := by
  unfold State.startTick
  repeat' (first | with_reducible assumption | with_reducible refine Keeps.ite ?_ ?_ | ((fail_if_no_progress (extract_lets +onlyGivenNames y)); (have z_ := y; guard_hyp z_ : State; clear z_); refine Keeps.cut (kq := kq) (s0 := s0) y ?_ ?_; (on_goal 1 => subst y); (on_goal 2 => (intro hy; try clear_value y))) | ((fail_if_no_progress (extract_lets +onlyGivenNames y)); clear_value y) | with_reducible apply State.setTickMode_keeps | with_reducible apply State.setFld_keeps | with_reducible apply State.raiseFree_keeps | fail_if_no_progress (with_reducible apply Keeps.upd))

theorem State.clearPeaks_keeps {s0 s : State} (h : Keeps kq s0 s) : Keeps kq s0 (State.clearPeaks s) := by
  unfold State.clearPeaks
  repeat' (first | with_reducible assumption | ((fail_if_no_progress (extract_lets +onlyGivenNames y)); (have z_ := y; guard_hyp z_ : State; clear z_); refine Keeps.cut (kq := kq) (s0 := s0) y ?_ ?_; (on_goal 1 => subst y); (on_goal 2 => (intro hy; try clear_value y))) | with_reducible apply State.setFld_keeps | (with_reducible refine Keeps.foldl ?_ ?_; on_goal 2 => (intro t x ht; beta_reduce)))

theorem State.armHostCommit_keeps {s0 s : State} (h : Keeps kq s0 s) : Keeps kq s0 (State.armHostCommit s) := by
  unfold State.armHostCommit
  repeat' (first | with_reducible assumption | with_reducible refine Keeps.ite ?_ ?_ | ((fail_if_no_progress (extract_lets +onlyGivenNames y)); (have z_ := y; guard_hyp z_ : State; clear z_); refine Keeps.cut (kq := kq) (s0 := s0) y ?_ ?_; (on_goal 1 => subst y); (on_goal 2 => (intro hy; try clear_value y))) | ((fail_if_no_progress (extract_lets +onlyGivenNames y)); clear_value y) | with_reducible apply State.setFld_keeps | with_reducible apply State.armCommit_keeps | fail_if_no_progress (with_reducible apply Keeps.upd))

theorem State.cancelHostCommit_keeps {s0 s : State} (h : Keeps kq s0 s) : Keeps kq s0 (State.cancelHostCommit s) := by
  unfold State.cancelHostCommit
  repeat' (first | with_reducible assumption | with_reducible refine Keeps.ite ?_ ?_ | ((fail_if_no_progress (extract_lets +onlyGivenNames y)); (have z_ := y; guard_hyp z_ : State; clear z_); refine Keeps.cut (kq := kq) (s0 := s0) y ?_ ?_; (on_goal 1 => subst y); (on_goal 2 => (intro hy; try clear_value y))) | with_reducible apply State.setFld_keeps | with_reducible apply State.noteItem_keeps | fail_if_no_progress (with_reducible apply Keeps.upd) | split)

theorem State.holdEngines_keeps {s0 s : State} (h : Keeps kq s0 s) : Keeps kq s0 (State.holdEngines s) := by
  unfold State.holdEngines
  repeat' (first | with_reducible assumption | with_reducible refine Keeps.ite ?_ ?_ | ((fail_if_no_progress (extract_lets +onlyGivenNames y)); (have z_ := y; guard_hyp z_ : State; clear z_); refine Keeps.cut (kq := kq) (s0 := s0) y ?_ ?_; (on_goal 1 => subst y); (on_goal 2 => (intro hy; try clear_value y))) | ((fail_if_no_progress (extract_lets +onlyGivenNames y)); (have z_ := y; guard_hyp z_ : State × _; clear z_); refine Keeps.cut1 (kq := kq) (s0 := s0) y ?_ ?_; (on_goal 1 => subst y); (on_goal 2 => (intro hy; try clear_value y))) | ((fail_if_no_progress (extract_lets +onlyGivenNames y)); (have z_ := y; guard_hyp z_ : _ × State; clear z_); refine Keeps.cut2 (kq := kq) (s0 := s0) y ?_ ?_; (on_goal 1 => subst y); (on_goal 2 => (intro hy; try clear_value y))) | ((fail_if_no_progress (extract_lets +onlyGivenNames y)); refine Keeps.fn y ?_; subst y; beta_reduce) | ((fail_if_no_progress (extract_lets +onlyGivenNames y)); clear_value y) | ((fail_if_no_progress (extract_lets +onlyGivenNames y)); subst y) | with_reducible apply Done.plain_keeps | with_reducible apply Done.bad_keeps | fail_if_no_progress (with_reducible apply Keeps.upd) | (with_reducible refine Keeps.foldl ?_ ?_; on_goal 2 => (intro t x ht; beta_reduce)) | (with_reducible refine Keeps.foldl2 ?_ ?_; on_goal 2 => (intro t x ht; beta_reduce)) | with_reducible apply KeepsO.next | fail_if_no_progress (with_reducible apply Keeps.updFree) | (with_reducible refine Keeps.foldl1 ?_ ?_; on_goal 2 => (intro t x ht; beta_reduce)) | (with_reducible apply Keeps.fst; with_reducible assumption) | refine Keeps.ite ?_ ?_ | split | (intro a; intros; beta_reduce) | (with_reducible apply Keeps.snd; with_reducible assumption))

theorem State.discard_keeps {s0 s : State} {ks hostResult} (h : Keeps kq s0 s) : Keeps kq s0 (State.discard s ks hostResult) := by
  unfold State.discard
  repeat' (first | with_reducible assumption | with_reducible refine Keeps.ite ?_ ?_ | ((fail_if_no_progress (extract_lets +onlyGivenNames y)); (have z_ := y; guard_hyp z_ : State; clear z_); refine Keeps.cut (kq := kq) (s0 := s0) y ?_ ?_; (on_goal 1 => subst y); (on_goal 2 => (intro hy; try clear_value y))) | with_reducible apply State.noteItem_keeps | with_reducible apply State.finish_keeps | with_reducible apply State.setFld_keeps | (with_reducible refine Keeps.foldl ?_ ?_; on_goal 2 => (intro t x ht; beta_reduce)))

theorem State.discardAll_keeps {s0 s : State} (h : Keeps kq s0 s) : Keeps kq s0 (State.discardAll s) := by
  unfold State.discardAll
  repeat' (first | with_reducible assumption | ((fail_if_no_progress (extract_lets +onlyGivenNames y)); (have z_ := y; guard_hyp z_ : State; clear z_); refine Keeps.cut (kq := kq) (s0 := s0) y ?_ ?_; (on_goal 1 => subst y); (on_goal 2 => (intro hy; try clear_value y))) | with_reducible apply State.discard_keeps | fail_if_no_progress (with_reducible apply Keeps.upd))

theorem State.holdTick_keeps {s0 s : State} {byRef} (h : Keeps kq s0 s) : Keeps kq s0 (State.holdTick s byRef) := by
  unfold State.holdTick
  repeat' (first | with_reducible assumption | with_reducible refine Keeps.ite ?_ ?_ | ((fail_if_no_progress (extract_lets +onlyGivenNames y)); (have z_ := y; guard_hyp z_ : State; clear z_); refine Keeps.cut (kq := kq) (s0 := s0) y ?_ ?_; (on_goal 1 => subst y); (on_goal 2 => (intro hy; try clear_value y))) | ((fail_if_no_progress (extract_lets +onlyGivenNames y)); (have z_ := y; guard_hyp z_ : State × _; clear z_); refine Keeps.cut1 (kq := kq) (s0 := s0) y ?_ ?_; (on_goal 1 => subst y); (on_goal 2 => (intro hy; try clear_value y))) | ((fail_if_no_progress (extract_lets +onlyGivenNames y)); (have z_ := y; guard_hyp z_ : _ × State; clear z_); refine Keeps.cut2 (kq := kq) (s0 := s0) y ?_ ?_; (on_goal 1 => subst y); (on_goal 2 => (intro hy; try clear_value y))) | ((fail_if_no_progress (extract_lets +onlyGivenNames y)); refine Keeps.fn y ?_; subst y; beta_reduce) | ((fail_if_no_progress (extract_lets +onlyGivenNames y)); clear_value y) | ((fail_if_no_progress (extract_lets +onlyGivenNames y)); subst y) | with_reducible apply State.setTickMode_keeps | with_reducible apply State.holdEngines_keeps | with_reducible apply State.discardAll_keeps | with_reducible apply State.setFld_keeps | with_reducible apply State.raiseFree_keeps | with_reducible apply Done.plain_keeps | with_reducible apply Done.bad_keeps | fail_if_no_progress (with_reducible apply Keeps.upd) | (with_reducible refine Keeps.foldl ?_ ?_; on_goal 2 => (intro t x ht; beta_reduce)) | (with_reducible refine Keeps.foldl2 ?_ ?_; on_goal 2 => (intro t x ht; beta_reduce)) | with_reducible apply KeepsO.next | fail_if_no_progress (with_reducible apply Keeps.updFree) | (with_reducible refine Keeps.foldl1 ?_ ?_; on_goal 2 => (intro t x ht; beta_reduce)) | (with_reducible apply Keeps.fst; with_reducible assumption) | refine Keeps.ite ?_ ?_ | split | (intro a; intros; beta_reduce) | (with_reducible apply Keeps.snd; with_reducible assumption))

theorem State.resumeTick_keeps {s0 s : State} {byRef} (h : Keeps kq s0 s) : Keeps kq s0 (State.resumeTick s byRef) := by
  unfold State.resumeTick
  repeat' (first | with_reducible assumption | with_reducible refine Keeps.ite ?_ ?_ | ((fail_if_no_progress (extract_lets +onlyGivenNames y)); clear_value y) | with_reducible apply State.setTickMode_keeps | fail_if_no_progress (with_reducible apply Keeps.upd))

theorem State.resetRange_keeps {s0 s : State} {lo hi} (h : Keeps kq s0 s) : Keeps kq s0 (s.resetRange lo hi) :=
  ⟨h.pending, fun hc => by
    have := h.stores hc
    simp only [State.canonical, Bool.and_eq_true] at this ⊢
    exact ⟨State.resetRange_swf this.1 _ _, this.2⟩, h.elapsed, h.free, h.host⟩

theorem State.readResult_keeps {s0 s : State} {tag} (h : Keeps kq s0 s) : Keeps kq s0 (State.readResult s tag).2 := by
  unfold State.readResult
  repeat' (first | with_reducible assumption | ((fail_if_no_progress (extract_lets +onlyGivenNames y)); clear_value y) | with_reducible apply State.fresh_keeps | with_reducible apply State.putPrivi_keeps | split)

theorem State.loadFld_keeps {s0 s : State} {f v} (h : Keeps kq s0 s) : Keeps kq s0 (State.loadFld s f v) := by
  unfold State.loadFld
  repeat' (first | with_reducible assumption | with_reducible refine Keeps.ite ?_ ?_ | ((fail_if_no_progress (extract_lets +onlyGivenNames y)); (have z_ := y; guard_hyp z_ : State; clear z_); refine Keeps.cut (kq := kq) (s0 := s0) y ?_ ?_; (on_goal 1 => subst y); (on_goal 2 => (intro hy; try clear_value y))) | ((fail_if_no_progress (extract_lets +onlyGivenNames y)); (have z_ := y; guard_hyp z_ : State × _; clear z_); refine Keeps.cut1 (kq := kq) (s0 := s0) y ?_ ?_; (on_goal 1 => subst y); (on_goal 2 => (intro hy; try clear_value y))) | ((fail_if_no_progress (extract_lets +onlyGivenNames y)); (have z_ := y; guard_hyp z_ : _ × State; clear z_); refine Keeps.cut2 (kq := kq) (s0 := s0) y ?_ ?_; (on_goal 1 => subst y); (on_goal 2 => (intro hy; try clear_value y))) | ((fail_if_no_progress (extract_lets +onlyGivenNames y)); refine Keeps.fn y ?_; subst y; beta_reduce) | ((fail_if_no_progress (extract_lets +onlyGivenNames y)); clear_value y) | ((fail_if_no_progress (extract_lets +onlyGivenNames y)); subst y) | with_reducible apply State.setFld_keeps | with_reducible apply State.writeShadow_keeps | with_reducible apply Done.plain_keeps | with_reducible apply Done.bad_keeps | fail_if_no_progress (with_reducible apply Keeps.upd) | (with_reducible refine Keeps.foldl ?_ ?_; on_goal 2 => (intro t x ht; beta_reduce)) | (with_reducible refine Keeps.foldl2 ?_ ?_; on_goal 2 => (intro t x ht; beta_reduce)) | with_reducible apply KeepsO.next | fail_if_no_progress (with_reducible apply Keeps.updFree) | (with_reducible refine Keeps.foldl1 ?_ ?_; on_goal 2 => (intro t x ht; beta_reduce)) | (with_reducible apply Keeps.fst; with_reducible assumption) | refine Keeps.ite ?_ ?_ | split | (intro a; intros; beta_reduce) | (with_reducible apply Keeps.snd; with_reducible assumption))

theorem State.armCmd_keeps {s0 s : State} {c units changes bulk st part payload} (h : Keeps kq s0 s) : Keeps kq s0 (State.armCmd s c units changes bulk st part payload) := by
  unfold State.armCmd
  repeat' (first | with_reducible assumption | ((fail_if_no_progress (extract_lets +onlyGivenNames y)); clear_value y) | with_reducible apply State.armCommit_keeps)

theorem State.putEngine_keeps {s0 s : State} {e x} (h : Keeps kq s0 s) : Keeps kq s0 (State.putEngine s e x) := by
  unfold State.putEngine
  repeat' (first | with_reducible assumption | ((fail_if_no_progress (extract_lets +onlyGivenNames y)); (have z_ := y; guard_hyp z_ : State; clear z_); refine Keeps.cut (kq := kq) (s0 := s0) y ?_ ?_; (on_goal 1 => subst y); (on_goal 2 => (intro hy; try clear_value y))) | ((fail_if_no_progress (extract_lets +onlyGivenNames y)); clear_value y) | with_reducible apply State.setFld_keeps | fail_if_no_progress (with_reducible apply Keeps.upd))

theorem State.notePeak_keeps {s0 s : State} {b used} (h : Keeps kq s0 s) : Keeps kq s0 (State.notePeak s b used) := by
  unfold State.notePeak
  repeat' (first | with_reducible assumption | with_reducible apply State.setFld_keeps)

theorem State.noteOverrun_keeps {s0 s : State} {b unit} (h : Keeps kq s0 s) : Keeps kq s0 (State.noteOverrun s b unit) := by
  unfold State.noteOverrun
  repeat' (first | with_reducible assumption | ((fail_if_no_progress (extract_lets +onlyGivenNames y)); (have z_ := y; guard_hyp z_ : State; clear z_); refine Keeps.cut (kq := kq) (s0 := s0) y ?_ ?_; (on_goal 1 => subst y); (on_goal 2 => (intro hy; try clear_value y))) | with_reducible apply State.addFld_keeps | with_reducible apply State.setFld_keeps | with_reducible apply State.raise_keeps)

theorem State.hostWrite_keeps {s0 s : State} {a bs} (h : Keeps false s0 s) : Keeps false s0 (s.hostWrite a bs) :=
  ⟨h.pending, fun hc => by
    have := h.stores hc
    simp only [State.canonical, Bool.and_eq_true] at this ⊢
    exact ⟨this.1, State.hostWrite_wf this.2 _ _⟩, h.elapsed, h.free, fun e => by cases e⟩

theorem State.takeCmd_keeps {s0 s : State} {c} (h : Keeps kq s0 s) : Keeps kq s0 (State.takeCmd s c) := by
  unfold State.takeCmd
  repeat' (first | with_reducible assumption | ((fail_if_no_progress (extract_lets +onlyGivenNames y)); clear_value y) | with_reducible apply State.putPrivi_keeps)

theorem State.performCommit_keeps {s0 s : State} {opcode tag sel f} (hf : ∀ a0 a1, Keeps kq s0 a1 → Keeps kq s0 (f a0 a1)) (h : Keeps kq s0 s) : Keeps kq s0 (State.performCommit s opcode tag sel f) := by
  unfold State.performCommit
  repeat' (first | with_reducible assumption | with_reducible refine Keeps.ite ?_ ?_ | with_reducible apply State.takeCmd_keeps | with_reducible apply hf | split)

theorem State.storeResult_keeps {s0 s : State} {tag} (h : Keeps kq s0 s) : Keeps kq s0 (State.storeResult s tag) := by
  unfold State.storeResult
  repeat' (first | with_reducible assumption | with_reducible refine Keeps.ite ?_ ?_ | ((fail_if_no_progress (extract_lets +onlyGivenNames y)); (have z_ := y; guard_hyp z_ : State; clear z_); refine Keeps.cut (kq := kq) (s0 := s0) y ?_ ?_; (on_goal 1 => subst y); (on_goal 2 => (intro hy; try clear_value y))) | ((fail_if_no_progress (extract_lets +onlyGivenNames y)); clear_value y) | with_reducible apply State.setFld_keeps | with_reducible apply State.putPrivi_keeps | with_reducible apply State.sendReply_keeps | with_reducible apply State.fresh_keeps | split)

theorem State.logAccess_keeps {s0 s : State} {kind a} (h : Keeps kq s0 s) : Keeps kq s0 (State.logAccess s kind a) := by
  unfold State.logAccess
  repeat' (first | with_reducible assumption | with_reducible refine Keeps.ite ?_ ?_ | with_reducible apply State.setFld_keeps | with_reducible apply State.addFld_keeps)

theorem State.readEvseqLo_keeps {s0 s : State} (h : Keeps kq s0 s) : Keeps kq s0 (State.readEvseqLo s).2 := by
  unfold State.readEvseqLo
  repeat' (first | with_reducible assumption | with_reducible apply State.setFld_keeps)

theorem State.onReg_keeps {s0 s : State} {a f} (hf : ∀ a0, Keeps kq s0 a0 → Keeps kq s0 (f a0)) (h : Keeps kq s0 s) : Keeps kq s0 (State.onReg s a f) := by
  unfold State.onReg
  repeat' (first | with_reducible assumption | with_reducible refine Keeps.ite ?_ ?_ | with_reducible apply State.logAccess_keeps | with_reducible apply hf | split)

theorem State.msixUnmask_keeps {s0 s : State} {v} (h : Keeps kq s0 s) : Keeps kq s0 (State.msixUnmask s v) := by
  unfold State.msixUnmask
  repeat' (first | with_reducible assumption | with_reducible refine Keeps.ite ?_ ?_ | with_reducible apply State.sendMsix_keeps | with_reducible apply State.setReg_keeps)

theorem State.performStart_keeps {s0 s : State} {opcode tag sel f} (hf : ∀ a0 a1, Keeps kq s0 a1 → Keeps kq s0 (f a0 a1)) (h : Keeps kq s0 s) : Keeps kq s0 (State.performStart s opcode tag sel f) := by
  unfold State.performStart
  repeat' (first | with_reducible assumption | with_reducible refine Keeps.ite ?_ ?_ | ((fail_if_no_progress (extract_lets +onlyGivenNames y)); (have z_ := y; guard_hyp z_ : State; clear z_); refine Keeps.cut (kq := kq) (s0 := s0) y ?_ ?_; (on_goal 1 => subst y); (on_goal 2 => (intro hy; try clear_value y))) | with_reducible apply State.takeCmd_keeps | with_reducible apply State.measureCmd_keeps | with_reducible apply hf | split)

theorem State.putEngReg_keeps {s0 s : State} {e x r v} (h : Keeps kq s0 s) : Keeps kq s0 (State.putEngReg s e x r v).2 := by
  unfold State.putEngReg
  repeat' (first | with_reducible assumption | with_reducible apply State.setFld_keeps | split)

end Sys2Proof.Machine
end

