-- ==== Sys2Proof/Laws/KeepsClocking.lean ====
section
/-!
SUPPORT. Sys2Proof/Laws/KeepsClocking.lean: what every state function leaves of the model's bookkeeping (`Keeps`): clocks, time and the apply step.
-/
set_option linter.unusedTactic false
set_option linter.tactic.unusedName false
set_option linter.unreachableTactic false
set_option linter.unusedVariables false
namespace Sys2Proof.Machine

variable {kq : Bool}

theorem State.opPending_keeps {s0 s : State} {c} (h : Keeps kq s0 s) : Keeps kq s0 (State.opPending s c) := by
  unfold State.opPending
  repeat' (first | with_reducible assumption | with_reducible refine Keeps.ite ?_ ?_ | ((fail_if_no_progress (extract_lets +onlyGivenNames y)); (have z_ := y; guard_hyp z_ : State; clear z_); refine Keeps.cut (kq := kq) (s0 := s0) y ?_ ?_; (on_goal 1 => subst y); (on_goal 2 => (intro hy; try clear_value y))) | ((fail_if_no_progress (extract_lets +onlyGivenNames y)); (have z_ := y; guard_hyp z_ : State × _; clear z_); refine Keeps.cut1 (kq := kq) (s0 := s0) y ?_ ?_; (on_goal 1 => subst y); (on_goal 2 => (intro hy; try clear_value y))) | ((fail_if_no_progress (extract_lets +onlyGivenNames y)); (have z_ := y; guard_hyp z_ : _ × State; clear z_); refine Keeps.cut2 (kq := kq) (s0 := s0) y ?_ ?_; (on_goal 1 => subst y); (on_goal 2 => (intro hy; try clear_value y))) | ((fail_if_no_progress (extract_lets +onlyGivenNames y)); refine Keeps.fn y ?_; subst y; beta_reduce) | ((fail_if_no_progress (extract_lets +onlyGivenNames y)); clear_value y) | ((fail_if_no_progress (extract_lets +onlyGivenNames y)); subst y) | with_reducible apply State.setFld_keeps | with_reducible apply Done.plain_keeps | with_reducible apply Done.bad_keeps | fail_if_no_progress (with_reducible apply Keeps.upd) | (with_reducible refine Keeps.foldl ?_ ?_; on_goal 2 => (intro t x ht; beta_reduce)) | (with_reducible refine Keeps.foldl2 ?_ ?_; on_goal 2 => (intro t x ht; beta_reduce)) | with_reducible apply KeepsO.next | fail_if_no_progress (with_reducible apply Keeps.updFree) | (with_reducible refine Keeps.foldl1 ?_ ?_; on_goal 2 => (intro t x ht; beta_reduce)) | (with_reducible apply Keeps.fst; with_reducible assumption) | refine Keeps.ite ?_ ?_ | split | (intro a; intros; beta_reduce) | (with_reducible apply Keeps.snd; with_reducible assumption))

theorem State.applyOp_keeps {s0 s : State} {code} (h : Keeps kq s0 s) : Keeps kq s0 (State.applyOp s code) := by
  unfold State.applyOp
  repeat' (first | with_reducible assumption | ((fail_if_no_progress (extract_lets +onlyGivenNames y)); (have z_ := y; guard_hyp z_ : State; clear z_); refine Keeps.cut (kq := kq) (s0 := s0) y ?_ ?_; (on_goal 1 => subst y); (on_goal 2 => (intro hy; try clear_value y))) | ((fail_if_no_progress (extract_lets +onlyGivenNames y)); clear_value y) | with_reducible apply State.setFld_keeps | fail_if_no_progress (with_reducible apply Keeps.upd))

theorem State.pinNodes_keeps {s0 s : State} {ns pin} (h : Keeps kq s0 s) : Keeps kq s0 (State.pinNodes s ns pin) := by
  unfold State.pinNodes
  repeat' (first | with_reducible assumption | with_reducible apply State.setFld_keeps | (with_reducible refine Keeps.foldl ?_ ?_; on_goal 2 => (intro t x ht; beta_reduce)))

theorem State.closeNodes_keeps {s0 s : State} {ns busy} (h : Keeps kq s0 s) : Keeps kq s0 (State.closeNodes s ns busy) := by
  unfold State.closeNodes
  repeat' (first | with_reducible assumption | with_reducible refine Keeps.ite ?_ ?_ | ((fail_if_no_progress (extract_lets +onlyGivenNames y)); (have z_ := y; guard_hyp z_ : State; clear z_); refine Keeps.cut (kq := kq) (s0 := s0) y ?_ ?_; (on_goal 1 => subst y); (on_goal 2 => (intro hy; try clear_value y))) | ((fail_if_no_progress (extract_lets +onlyGivenNames y)); (have z_ := y; guard_hyp z_ : State × _; clear z_); refine Keeps.cut1 (kq := kq) (s0 := s0) y ?_ ?_; (on_goal 1 => subst y); (on_goal 2 => (intro hy; try clear_value y))) | ((fail_if_no_progress (extract_lets +onlyGivenNames y)); (have z_ := y; guard_hyp z_ : _ × State; clear z_); refine Keeps.cut2 (kq := kq) (s0 := s0) y ?_ ?_; (on_goal 1 => subst y); (on_goal 2 => (intro hy; try clear_value y))) | ((fail_if_no_progress (extract_lets +onlyGivenNames y)); refine Keeps.fn y ?_; subst y; beta_reduce) | ((fail_if_no_progress (extract_lets +onlyGivenNames y)); clear_value y) | ((fail_if_no_progress (extract_lets +onlyGivenNames y)); subst y) | with_reducible apply State.pinNodes_keeps | with_reducible apply State.addFld_keeps | with_reducible apply Done.plain_keeps | with_reducible apply Done.bad_keeps | fail_if_no_progress (with_reducible apply Keeps.upd) | (with_reducible refine Keeps.foldl ?_ ?_; on_goal 2 => (intro t x ht; beta_reduce)) | (with_reducible refine Keeps.foldl2 ?_ ?_; on_goal 2 => (intro t x ht; beta_reduce)) | with_reducible apply KeepsO.next | fail_if_no_progress (with_reducible apply Keeps.updFree) | (with_reducible refine Keeps.foldl1 ?_ ?_; on_goal 2 => (intro t x ht; beta_reduce)) | (with_reducible apply Keeps.fst; with_reducible assumption) | refine Keeps.ite ?_ ?_ | split | (intro a; intros; beta_reduce) | (with_reducible apply Keeps.snd; with_reducible assumption))

theorem State.setServo_keeps {s0 s : State} {x} (h : Keeps kq s0 s) : Keeps kq s0 (State.setServo s x) := by
  unfold State.setServo
  repeat' (first | with_reducible assumption | with_reducible apply State.setFld_keeps)

theorem State.adoptParent_keeps {s0 s : State} {port cls} (h : Keeps kq s0 s) : Keeps kq s0 (State.adoptParent s port cls) := by
  unfold State.adoptParent
  repeat' (first | with_reducible assumption | with_reducible refine Keeps.ite ?_ ?_ | ((fail_if_no_progress (extract_lets +onlyGivenNames y)); (have z_ := y; guard_hyp z_ : State; clear z_); refine Keeps.cut (kq := kq) (s0 := s0) y ?_ ?_; (on_goal 1 => subst y); (on_goal 2 => (intro hy; try clear_value y))) | ((fail_if_no_progress (extract_lets +onlyGivenNames y)); (have z_ := y; guard_hyp z_ : State × _; clear z_); refine Keeps.cut1 (kq := kq) (s0 := s0) y ?_ ?_; (on_goal 1 => subst y); (on_goal 2 => (intro hy; try clear_value y))) | ((fail_if_no_progress (extract_lets +onlyGivenNames y)); (have z_ := y; guard_hyp z_ : _ × State; clear z_); refine Keeps.cut2 (kq := kq) (s0 := s0) y ?_ ?_; (on_goal 1 => subst y); (on_goal 2 => (intro hy; try clear_value y))) | ((fail_if_no_progress (extract_lets +onlyGivenNames y)); refine Keeps.fn y ?_; subst y; beta_reduce) | ((fail_if_no_progress (extract_lets +onlyGivenNames y)); clear_value y) | ((fail_if_no_progress (extract_lets +onlyGivenNames y)); subst y) | with_reducible apply State.setServo_keeps | with_reducible apply State.setFld_keeps | with_reducible apply Done.plain_keeps | with_reducible apply Done.bad_keeps | fail_if_no_progress (with_reducible apply Keeps.upd) | (with_reducible refine Keeps.foldl ?_ ?_; on_goal 2 => (intro t x ht; beta_reduce)) | (with_reducible refine Keeps.foldl2 ?_ ?_; on_goal 2 => (intro t x ht; beta_reduce)) | with_reducible apply KeepsO.next | fail_if_no_progress (with_reducible apply Keeps.updFree) | (with_reducible refine Keeps.foldl1 ?_ ?_; on_goal 2 => (intro t x ht; beta_reduce)) | (with_reducible apply Keeps.fst; with_reducible assumption) | refine Keeps.ite ?_ ?_ | split | (intro a; intros; beta_reduce) | (with_reducible apply Keeps.snd; with_reducible assumption))

theorem State.armSync_keeps {s0 s : State} (h : Keeps kq s0 s) : Keeps kq s0 (State.armSync s) := by
  unfold State.armSync
  repeat' (first | with_reducible assumption | with_reducible refine Keeps.ite ?_ ?_ | with_reducible apply State.setFld_keeps)

theorem State.outputHolds_keeps {s0 s : State} (h : Keeps kq s0 s) : Keeps kq s0 (State.outputHolds s) := by
  unfold State.outputHolds
  repeat' (first | with_reducible assumption | ((fail_if_no_progress (extract_lets +onlyGivenNames y)); (have z_ := y; guard_hyp z_ : State; clear z_); refine Keeps.cut (kq := kq) (s0 := s0) y ?_ ?_; (on_goal 1 => subst y); (on_goal 2 => (intro hy; try clear_value y))) | ((fail_if_no_progress (extract_lets +onlyGivenNames y)); clear_value y) | with_reducible apply State.setFld_keeps)

theorem State.setLoop_keeps {s0 s : State} {l x} (h : Keeps kq s0 s) : Keeps kq s0 (State.setLoop s l x) := by
  unfold State.setLoop
  repeat' (first | with_reducible assumption | with_reducible refine Keeps.ite ?_ ?_ | ((fail_if_no_progress (extract_lets +onlyGivenNames y)); (have z_ := y; guard_hyp z_ : State; clear z_); refine Keeps.cut (kq := kq) (s0 := s0) y ?_ ?_; (on_goal 1 => subst y); (on_goal 2 => (intro hy; try clear_value y))) | ((fail_if_no_progress (extract_lets +onlyGivenNames y)); (have z_ := y; guard_hyp z_ : State × _; clear z_); refine Keeps.cut1 (kq := kq) (s0 := s0) y ?_ ?_; (on_goal 1 => subst y); (on_goal 2 => (intro hy; try clear_value y))) | ((fail_if_no_progress (extract_lets +onlyGivenNames y)); (have z_ := y; guard_hyp z_ : _ × State; clear z_); refine Keeps.cut2 (kq := kq) (s0 := s0) y ?_ ?_; (on_goal 1 => subst y); (on_goal 2 => (intro hy; try clear_value y))) | ((fail_if_no_progress (extract_lets +onlyGivenNames y)); refine Keeps.fn y ?_; subst y; beta_reduce) | ((fail_if_no_progress (extract_lets +onlyGivenNames y)); clear_value y) | ((fail_if_no_progress (extract_lets +onlyGivenNames y)); subst y) | with_reducible apply State.setFld_keeps | with_reducible apply Done.plain_keeps | with_reducible apply Done.bad_keeps | fail_if_no_progress (with_reducible apply Keeps.upd) | (with_reducible refine Keeps.foldl ?_ ?_; on_goal 2 => (intro t x ht; beta_reduce)) | (with_reducible refine Keeps.foldl2 ?_ ?_; on_goal 2 => (intro t x ht; beta_reduce)) | with_reducible apply KeepsO.next | fail_if_no_progress (with_reducible apply Keeps.updFree) | (with_reducible refine Keeps.foldl1 ?_ ?_; on_goal 2 => (intro t x ht; beta_reduce)) | (with_reducible apply Keeps.fst; with_reducible assumption) | refine Keeps.ite ?_ ?_ | split | (intro a; intros; beta_reduce) | (with_reducible apply Keeps.snd; with_reducible assumption))

theorem State.stopLoop_keeps {s0 s : State} {l} (h : Keeps kq s0 s) : Keeps kq s0 (State.stopLoop s l) := by
  unfold State.stopLoop
  repeat' (first | with_reducible assumption | with_reducible apply State.setLoop_keeps)

theorem State.searchLoop_keeps {s0 s : State} {l} (h : Keeps kq s0 s) : Keeps kq s0 (State.searchLoop s l) := by
  unfold State.searchLoop
  repeat' (first | with_reducible assumption | ((fail_if_no_progress (extract_lets +onlyGivenNames y)); (have z_ := y; guard_hyp z_ : State; clear z_); refine Keeps.cut (kq := kq) (s0 := s0) y ?_ ?_; (on_goal 1 => subst y); (on_goal 2 => (intro hy; try clear_value y))) | ((fail_if_no_progress (extract_lets +onlyGivenNames y)); clear_value y) | with_reducible apply State.setLoop_keeps | with_reducible apply State.setFld_keeps | with_reducible apply State.raise_keeps | fail_if_no_progress (with_reducible apply Keeps.upd) | split)

theorem State.startLoop_keeps {s0 s : State} {l} (h : Keeps kq s0 s) : Keeps kq s0 (State.startLoop s l) := by
  unfold State.startLoop
  repeat' (first | with_reducible assumption | with_reducible refine Keeps.ite ?_ ?_ | with_reducible apply State.searchLoop_keeps)

theorem State.settleRelocks_keeps {s0 s : State} (h : Keeps kq s0 s) : Keeps kq s0 (State.settleRelocks s) := by
  unfold State.settleRelocks
  repeat' (first | with_reducible assumption | with_reducible refine Keeps.ite ?_ ?_ | with_reducible apply State.finishNow_keeps | fail_if_no_progress (with_reducible apply Keeps.upd) | (with_reducible refine Keeps.foldl ?_ ?_; on_goal 2 => (intro t x ht; beta_reduce)))

theorem State.releaseSafe_keeps {s0 s : State} (h : Keeps kq s0 s) : Keeps kq s0 (State.releaseSafe s) := by
  unfold State.releaseSafe
  repeat' (first | with_reducible assumption | with_reducible refine Keeps.ite ?_ ?_ | ((fail_if_no_progress (extract_lets +onlyGivenNames y)); (have z_ := y; guard_hyp z_ : State; clear z_); refine Keeps.cut (kq := kq) (s0 := s0) y ?_ ?_; (on_goal 1 => subst y); (on_goal 2 => (intro hy; try clear_value y))) | with_reducible apply State.setFld_keeps | with_reducible apply State.raiseFree_keeps | with_reducible apply State.resumeTick_keeps)

theorem State.cancelSync_keeps {s0 s : State} (h : Keeps kq s0 s) : Keeps kq s0 (State.cancelSync s) := by
  unfold State.cancelSync
  repeat' (first | with_reducible assumption | with_reducible refine Keeps.ite ?_ ?_ | with_reducible apply State.setFld_keeps | with_reducible apply State.releaseSafe_keeps)

theorem State.holdLoop_keeps {s0 s : State} {l} (h : Keeps kq s0 s) : Keeps kq s0 (State.holdLoop s l) := by
  unfold State.holdLoop
  repeat' (first | with_reducible assumption | with_reducible refine Keeps.ite ?_ ?_ | with_reducible apply State.setLoop_keeps)

theorem State.muteAll_keeps {s0 s : State} (h : Keeps kq s0 s) : Keeps kq s0 (State.muteAll s) := by
  unfold State.muteAll
  repeat' (first | with_reducible assumption | with_reducible refine Keeps.ite ?_ ?_ | ((fail_if_no_progress (extract_lets +onlyGivenNames y)); (have z_ := y; guard_hyp z_ : State; clear z_); refine Keeps.cut (kq := kq) (s0 := s0) y ?_ ?_; (on_goal 1 => subst y); (on_goal 2 => (intro hy; try clear_value y))) | ((fail_if_no_progress (extract_lets +onlyGivenNames y)); (have z_ := y; guard_hyp z_ : State × _; clear z_); refine Keeps.cut1 (kq := kq) (s0 := s0) y ?_ ?_; (on_goal 1 => subst y); (on_goal 2 => (intro hy; try clear_value y))) | ((fail_if_no_progress (extract_lets +onlyGivenNames y)); (have z_ := y; guard_hyp z_ : _ × State; clear z_); refine Keeps.cut2 (kq := kq) (s0 := s0) y ?_ ?_; (on_goal 1 => subst y); (on_goal 2 => (intro hy; try clear_value y))) | ((fail_if_no_progress (extract_lets +onlyGivenNames y)); refine Keeps.fn y ?_; subst y; beta_reduce) | ((fail_if_no_progress (extract_lets +onlyGivenNames y)); clear_value y) | ((fail_if_no_progress (extract_lets +onlyGivenNames y)); subst y) | with_reducible apply State.setFld_keeps | with_reducible apply Done.plain_keeps | with_reducible apply Done.bad_keeps | fail_if_no_progress (with_reducible apply Keeps.upd) | (with_reducible refine Keeps.foldl ?_ ?_; on_goal 2 => (intro t x ht; beta_reduce)) | (with_reducible refine Keeps.foldl2 ?_ ?_; on_goal 2 => (intro t x ht; beta_reduce)) | with_reducible apply KeepsO.next | fail_if_no_progress (with_reducible apply Keeps.updFree) | (with_reducible refine Keeps.foldl1 ?_ ?_; on_goal 2 => (intro t x ht; beta_reduce)) | (with_reducible apply Keeps.fst; with_reducible assumption) | refine Keeps.ite ?_ ?_ | split | (intro a; intros; beta_reduce) | (with_reducible apply Keeps.snd; with_reducible assumption))

theorem State.refLost_keeps {s0 s : State} (h : Keeps kq s0 s) : Keeps kq s0 (State.refLost s) := by
  unfold State.refLost
  repeat' (first | with_reducible assumption | with_reducible refine Keeps.ite ?_ ?_ | ((fail_if_no_progress (extract_lets +onlyGivenNames y)); clear_value y) | with_reducible apply State.holdLoop_keeps | with_reducible apply State.holdTick_keeps | with_reducible apply State.setFld_keeps | fail_if_no_progress (with_reducible apply Keeps.upd) | (with_reducible refine Keeps.foldl ?_ ?_; on_goal 2 => (intro t x ht; beta_reduce)))

theorem State.trip_keeps {s0 s : State} {b} (h : Keeps kq s0 s) : Keeps kq s0 (State.trip s b) := by
  unfold State.trip
  repeat' (first | with_reducible assumption | with_reducible refine Keeps.ite ?_ ?_ | ((fail_if_no_progress (extract_lets +onlyGivenNames y)); (have z_ := y; guard_hyp z_ : State; clear z_); refine Keeps.cut (kq := kq) (s0 := s0) y ?_ ?_; (on_goal 1 => subst y); (on_goal 2 => (intro hy; try clear_value y))) | ((fail_if_no_progress (extract_lets +onlyGivenNames y)); (have z_ := y; guard_hyp z_ : State × _; clear z_); refine Keeps.cut1 (kq := kq) (s0 := s0) y ?_ ?_; (on_goal 1 => subst y); (on_goal 2 => (intro hy; try clear_value y))) | ((fail_if_no_progress (extract_lets +onlyGivenNames y)); (have z_ := y; guard_hyp z_ : _ × State; clear z_); refine Keeps.cut2 (kq := kq) (s0 := s0) y ?_ ?_; (on_goal 1 => subst y); (on_goal 2 => (intro hy; try clear_value y))) | ((fail_if_no_progress (extract_lets +onlyGivenNames y)); refine Keeps.fn y ?_; subst y; beta_reduce) | ((fail_if_no_progress (extract_lets +onlyGivenNames y)); clear_value y) | ((fail_if_no_progress (extract_lets +onlyGivenNames y)); subst y) | with_reducible apply State.addFld_keeps | with_reducible apply State.setFld_keeps | with_reducible apply State.holdLoop_keeps | with_reducible apply State.muteAll_keeps | with_reducible apply State.refLost_keeps | with_reducible apply State.raiseFree_keeps | with_reducible apply State.raise_keeps | with_reducible apply Done.plain_keeps | with_reducible apply Done.bad_keeps | fail_if_no_progress (with_reducible apply Keeps.upd) | (with_reducible refine Keeps.foldl ?_ ?_; on_goal 2 => (intro t x ht; beta_reduce)) | (with_reducible refine Keeps.foldl2 ?_ ?_; on_goal 2 => (intro t x ht; beta_reduce)) | with_reducible apply KeepsO.next | fail_if_no_progress (with_reducible apply Keeps.updFree) | (with_reducible refine Keeps.foldl1 ?_ ?_; on_goal 2 => (intro t x ht; beta_reduce)) | (with_reducible apply Keeps.fst; with_reducible assumption) | refine Keeps.ite ?_ ?_ | split | (intro a; intros; beta_reduce) | (with_reducible apply Keeps.snd; with_reducible assumption))

theorem State.snapshot_keeps {s0 s : State} {edge} (h : Keeps kq s0 s) : Keeps kq s0 (State.snapshot s edge) := by
  unfold State.snapshot
  repeat' (first | with_reducible assumption | ((fail_if_no_progress (extract_lets +onlyGivenNames y)); (have z_ := y; guard_hyp z_ : State; clear z_); refine Keeps.cut (kq := kq) (s0 := s0) y ?_ ?_; (on_goal 1 => subst y); (on_goal 2 => (intro hy; try clear_value y))) | ((fail_if_no_progress (extract_lets +onlyGivenNames y)); clear_value y) | with_reducible apply State.setFld_keeps)

theorem State.refreshSlots_keeps {s0 s : State} (h : Keeps kq s0 s) : Keeps kq s0 (State.refreshSlots s) := by
  unfold State.refreshSlots
  repeat' (first | with_reducible assumption | with_reducible apply State.setFld_keeps)

theorem State.authFail_keeps {s0 s : State} {kind reason} (h : Keeps kq s0 s) : Keeps kq s0 (State.authFail s kind reason) := by
  unfold State.authFail
  repeat' (first | with_reducible assumption | ((fail_if_no_progress (extract_lets +onlyGivenNames y)); (have z_ := y; guard_hyp z_ : State; clear z_); refine Keeps.cut (kq := kq) (s0 := s0) y ?_ ?_; (on_goal 1 => subst y); (on_goal 2 => (intro hy; try clear_value y))) | with_reducible apply State.setFld_keeps | with_reducible apply State.addFld_keeps | with_reducible apply State.raise_keeps)

theorem State.ptpNext_keeps {s0 s : State} {port mtype} (h : Keeps kq s0 s) : Keeps kq s0 (State.ptpNext s port mtype).2 := by
  unfold State.ptpNext
  repeat' (first | with_reducible assumption | ((fail_if_no_progress (extract_lets +onlyGivenNames y)); clear_value y) | fail_if_no_progress (with_reducible apply Keeps.upd))

theorem State.announce_keeps {s0 s : State} {port} (h : Keeps kq s0 s) : Keeps kq s0 (State.announce s port).2 := by
  unfold State.announce
  repeat' (first | with_reducible assumption | with_reducible apply State.ptpNext_keeps)

theorem State.applyReg_keeps {s0 s : State} {a m} (h : Keeps kq s0 s) : Keeps kq s0 (State.applyReg s a m) := by
  unfold State.applyReg
  repeat' (first | with_reducible assumption | with_reducible apply State.setReg_keeps)

theorem State.loadRxWords_keeps {s0 s : State} {p} (h : Keeps kq s0 s) : Keeps kq s0 (State.loadRxWords s p) := by
  unfold State.loadRxWords
  repeat' (first | with_reducible assumption | ((fail_if_no_progress (extract_lets +onlyGivenNames y)); clear_value y) | with_reducible apply State.loadFld_keeps | (with_reducible refine Keeps.foldl ?_ ?_; on_goal 2 => (intro t x ht; beta_reduce)))

theorem State.loadTxWords_keeps {s0 s : State} {p} (h : Keeps kq s0 s) : Keeps kq s0 (State.loadTxWords s p) := by
  unfold State.loadTxWords
  repeat' (first | with_reducible assumption | ((fail_if_no_progress (extract_lets +onlyGivenNames y)); clear_value y) | with_reducible apply State.loadFld_keeps | (with_reducible refine Keeps.foldl ?_ ?_; on_goal 2 => (intro t x ht; beta_reduce)))

theorem State.store1_keeps {s0 s : State} {c} (h : Keeps kq s0 s) : Keeps kq s0 (State.store1 s c) := by
  unfold State.store1
  repeat' (first | with_reducible assumption | with_reducible refine Keeps.ite ?_ ?_ | ((fail_if_no_progress (extract_lets +onlyGivenNames y)); (have z_ := y; guard_hyp z_ : State; clear z_); refine Keeps.cut (kq := kq) (s0 := s0) y ?_ ?_; (on_goal 1 => subst y); (on_goal 2 => (intro hy; try clear_value y))) | ((fail_if_no_progress (extract_lets +onlyGivenNames y)); clear_value y) | with_reducible apply State.applyReg_keeps | with_reducible apply State.entryAfter_keeps | with_reducible apply State.loadRxWords_keeps | with_reducible apply State.loadTxWords_keeps | fail_if_no_progress (with_reducible apply Keeps.upd) | (with_reducible refine Keeps.foldl ?_ ?_; on_goal 2 => (intro t x ht; beta_reduce)) | split)

theorem State.rxDefaults_keeps {s0 s : State} {st} (h : Keeps kq s0 s) : Keeps kq s0 (State.rxDefaults s st) := by
  unfold State.rxDefaults
  repeat' (first | with_reducible assumption | with_reducible refine Keeps.ite ?_ ?_ | ((fail_if_no_progress (extract_lets +onlyGivenNames y)); (have z_ := y; guard_hyp z_ : State; clear z_); refine Keeps.cut (kq := kq) (s0 := s0) y ?_ ?_; (on_goal 1 => subst y); (on_goal 2 => (intro hy; try clear_value y))) | ((fail_if_no_progress (extract_lets +onlyGivenNames y)); clear_value y) | with_reducible apply State.setFld_keeps | fail_if_no_progress (with_reducible apply Keeps.upd))

theorem State.txDefaults_keeps {s0 s : State} {st} (h : Keeps kq s0 s) : Keeps kq s0 (State.txDefaults s st) := by
  unfold State.txDefaults
  repeat' (first | with_reducible assumption | with_reducible refine Keeps.ite ?_ ?_ | ((fail_if_no_progress (extract_lets +onlyGivenNames y)); (have z_ := y; guard_hyp z_ : State; clear z_); refine Keeps.cut (kq := kq) (s0 := s0) y ?_ ?_; (on_goal 1 => subst y); (on_goal 2 => (intro hy; try clear_value y))) | ((fail_if_no_progress (extract_lets +onlyGivenNames y)); clear_value y) | with_reducible apply State.setFld_keeps | fail_if_no_progress (with_reducible apply Keeps.upd))

theorem State.store2_keeps {s0 s : State} {c} (h : Keeps kq s0 s) : Keeps kq s0 (State.store2 s c) := by
  unfold State.store2
  repeat' (first | with_reducible assumption | with_reducible refine Keeps.ite ?_ ?_ | ((fail_if_no_progress (extract_lets +onlyGivenNames y)); (have z_ := y; guard_hyp z_ : State; clear z_); refine Keeps.cut (kq := kq) (s0 := s0) y ?_ ?_; (on_goal 1 => subst y); (on_goal 2 => (intro hy; try clear_value y))) | ((fail_if_no_progress (extract_lets +onlyGivenNames y)); clear_value y) | with_reducible apply State.setFld_keeps | with_reducible apply State.txDefaults_keeps | fail_if_no_progress (with_reducible apply Keeps.upd) | split)

theorem State.storeAll_keeps {s0 s : State} {chs} (h : Keeps kq s0 s) : Keeps kq s0 (State.storeAll s chs) := by
  unfold State.storeAll
  repeat' (first | with_reducible assumption | with_reducible refine Keeps.ite ?_ ?_ | ((fail_if_no_progress (extract_lets +onlyGivenNames y)); (have z_ := y; guard_hyp z_ : State; clear z_); refine Keeps.cut (kq := kq) (s0 := s0) y ?_ ?_; (on_goal 1 => subst y); (on_goal 2 => (intro hy; try clear_value y))) | with_reducible apply State.store1_keeps | with_reducible apply State.rxDefaults_keeps | with_reducible apply State.txDefaults_keeps | with_reducible apply State.store2_keeps | (with_reducible refine Keeps.foldl ?_ ?_; on_goal 2 => (intro t x ht; beta_reduce)))

theorem State.stampAt_keeps {s0 s : State} {latPs} (h : Keeps kq s0 s) : Keeps kq s0 (State.stampAt s latPs).2 := by
  unfold State.stampAt
  repeat' (first | with_reducible assumption | with_reducible apply State.fresh_keeps)

theorem State.notePtp_keeps {s0 s : State} {port mtype bs stamp} (h : Keeps kq s0 s) : Keeps kq s0 (State.notePtp s port mtype bs stamp) := by
  unfold State.notePtp
  repeat' (first | with_reducible assumption | with_reducible refine Keeps.ite ?_ ?_ | ((fail_if_no_progress (extract_lets +onlyGivenNames y)); (have z_ := y; guard_hyp z_ : State; clear z_); refine Keeps.cut (kq := kq) (s0 := s0) y ?_ ?_; (on_goal 1 => subst y); (on_goal 2 => (intro hy; try clear_value y))) | ((fail_if_no_progress (extract_lets +onlyGivenNames y)); (have z_ := y; guard_hyp z_ : State × _; clear z_); refine Keeps.cut1 (kq := kq) (s0 := s0) y ?_ ?_; (on_goal 1 => subst y); (on_goal 2 => (intro hy; try clear_value y))) | ((fail_if_no_progress (extract_lets +onlyGivenNames y)); (have z_ := y; guard_hyp z_ : _ × State; clear z_); refine Keeps.cut2 (kq := kq) (s0 := s0) y ?_ ?_; (on_goal 1 => subst y); (on_goal 2 => (intro hy; try clear_value y))) | ((fail_if_no_progress (extract_lets +onlyGivenNames y)); refine Keeps.fn y ?_; subst y; beta_reduce) | ((fail_if_no_progress (extract_lets +onlyGivenNames y)); clear_value y) | ((fail_if_no_progress (extract_lets +onlyGivenNames y)); subst y) | with_reducible apply Done.plain_keeps | with_reducible apply Done.bad_keeps | fail_if_no_progress (with_reducible apply Keeps.upd) | (with_reducible refine Keeps.foldl ?_ ?_; on_goal 2 => (intro t x ht; beta_reduce)) | (with_reducible refine Keeps.foldl2 ?_ ?_; on_goal 2 => (intro t x ht; beta_reduce)) | with_reducible apply KeepsO.next | fail_if_no_progress (with_reducible apply Keeps.updFree) | (with_reducible refine Keeps.foldl1 ?_ ?_; on_goal 2 => (intro t x ht; beta_reduce)) | (with_reducible apply Keeps.fst; with_reducible assumption) | refine Keeps.ite ?_ ?_ | split | (intro a; intros; beta_reduce) | (with_reducible apply Keeps.snd; with_reducible assumption))

theorem State.setRate_keeps {s0 s : State} {v} (h : Keeps kq s0 s) : Keeps kq s0 (State.setRate s v) := by
  unfold State.setRate
  repeat' (first | with_reducible assumption | with_reducible apply State.setFld_keeps)

theorem State.setOffset_keeps {s0 s : State} {v} (h : Keeps kq s0 s) : Keeps kq s0 (State.setOffset s v) := by
  unfold State.setOffset
  repeat' (first | with_reducible assumption | ((fail_if_no_progress (extract_lets +onlyGivenNames y)); (have z_ := y; guard_hyp z_ : State; clear z_); refine Keeps.cut (kq := kq) (s0 := s0) y ?_ ?_; (on_goal 1 => subst y); (on_goal 2 => (intro hy; try clear_value y))) | with_reducible apply State.setFld_keeps)

theorem State.changeRate_keeps {s0 s : State} {frc rate} (h : Keeps kq s0 s) : Keeps kq s0 (State.changeRate s frc rate) := by
  unfold State.changeRate
  repeat' (first | with_reducible assumption | ((fail_if_no_progress (extract_lets +onlyGivenNames y)); (have z_ := y; guard_hyp z_ : State; clear z_); refine Keeps.cut (kq := kq) (s0 := s0) y ?_ ?_; (on_goal 1 => subst y); (on_goal 2 => (intro hy; try clear_value y))) | ((fail_if_no_progress (extract_lets +onlyGivenNames y)); clear_value y) | with_reducible apply State.setRate_keeps | with_reducible apply State.setOffset_keeps)

theorem State.relockLoop_keeps {s0 s : State} {l} (h : Keeps kq s0 s) : Keeps kq s0 (State.relockLoop s l) := by
  unfold State.relockLoop
  repeat' (first | with_reducible assumption | with_reducible refine Keeps.ite ?_ ?_ | ((fail_if_no_progress (extract_lets +onlyGivenNames y)); (have z_ := y; guard_hyp z_ : State; clear z_); refine Keeps.cut (kq := kq) (s0 := s0) y ?_ ?_; (on_goal 1 => subst y); (on_goal 2 => (intro hy; try clear_value y))) | ((fail_if_no_progress (extract_lets +onlyGivenNames y)); clear_value y) | with_reducible apply State.setLoop_keeps | fail_if_no_progress (with_reducible apply Keeps.upd))

theorem State.tryRelease_keeps {s0 s : State} (h : Keeps kq s0 s) : Keeps kq s0 (State.tryRelease s) := by
  unfold State.tryRelease
  repeat' (first | with_reducible assumption | with_reducible refine Keeps.ite ?_ ?_ | with_reducible apply State.setFld_keeps | with_reducible apply State.releaseSafe_keeps)

theorem State.clearSource_keeps {s0 s : State} {b} (h : Keeps kq s0 s) : Keeps kq s0 (State.clearSource s b) := by
  unfold State.clearSource
  repeat' (first | with_reducible assumption | with_reducible refine Keeps.ite ?_ ?_ | ((fail_if_no_progress (extract_lets +onlyGivenNames y)); (have z_ := y; guard_hyp z_ : State; clear z_); refine Keeps.cut (kq := kq) (s0 := s0) y ?_ ?_; (on_goal 1 => subst y); (on_goal 2 => (intro hy; try clear_value y))) | with_reducible apply State.setFld_keeps | with_reducible apply State.relockLoop_keeps | with_reducible apply State.tryRelease_keeps | (with_reducible refine Keeps.foldl ?_ ?_; on_goal 2 => (intro t x ht; beta_reduce)))

theorem State.syncMessage_keeps {s0 s : State} {port l} (h : Keeps kq s0 s) : Keeps kq s0 (State.syncMessage s port l).2 := by
  unfold State.syncMessage
  repeat' (first | with_reducible assumption | with_reducible apply State.ptpNext_keeps | with_reducible apply Done.plain_keeps)

theorem State.delayRequest_keeps {s0 s : State} {port} (h : Keeps kq s0 s) : Keeps kq s0 (State.delayRequest s port).2 := by
  unfold State.delayRequest
  repeat' (first | with_reducible assumption | with_reducible apply State.ptpNext_keeps)

theorem execPwrSetOp_keeps {s0 s : State} {tag} (h : Keeps kq s0 s) : KeepsO kq s0 (execPwrSetOp tag s) := by
  unfold execPwrSetOp
  repeat' (first | with_reducible assumption | with_reducible refine Keeps.ite ?_ ?_ | ((fail_if_no_progress (extract_lets +onlyGivenNames y)); (have z_ := y; guard_hyp z_ : State; clear z_); refine Keeps.cut (kq := kq) (s0 := s0) y ?_ ?_; (on_goal 1 => subst y); (on_goal 2 => (intro hy; try clear_value y))) | ((fail_if_no_progress (extract_lets +onlyGivenNames y)); clear_value y) | with_reducible apply State.performCommit_keeps | with_reducible apply State.armCmd_keeps | with_reducible apply State.setFld_keeps | fail_if_no_progress (with_reducible apply Keeps.upd) | with_reducible apply KeepsO.next | (intro a; intros; beta_reduce))

theorem execPwrGateClose_keeps {s0 s : State} {tag busy} (h : Keeps kq s0 s) : KeepsO kq s0 (execPwrGateClose tag busy s) := by
  unfold execPwrGateClose
  repeat' (first | with_reducible assumption | with_reducible refine Keeps.ite ?_ ?_ | with_reducible refine KeepsO.ite ?_ ?_ | ((fail_if_no_progress (extract_lets +onlyGivenNames y)); (have z_ := y; guard_hyp z_ : State; clear z_); refine Keeps.cut (kq := kq) (s0 := s0) y ?_ ?_; (on_goal 1 => subst y); (on_goal 2 => (intro hy; try clear_value y))) | ((fail_if_no_progress (extract_lets +onlyGivenNames y)); (have z_ := y; guard_hyp z_ : State × _; clear z_); refine Keeps.cut1 (kq := kq) (s0 := s0) y ?_ ?_; (on_goal 1 => subst y); (on_goal 2 => (intro hy; try clear_value y))) | ((fail_if_no_progress (extract_lets +onlyGivenNames y)); (have z_ := y; guard_hyp z_ : _ × State; clear z_); refine Keeps.cut2 (kq := kq) (s0 := s0) y ?_ ?_; (on_goal 1 => subst y); (on_goal 2 => (intro hy; try clear_value y))) | ((fail_if_no_progress (extract_lets +onlyGivenNames y)); refine Keeps.fn y ?_; subst y; beta_reduce) | ((fail_if_no_progress (extract_lets +onlyGivenNames y)); clear_value y) | ((fail_if_no_progress (extract_lets +onlyGivenNames y)); subst y) | with_reducible apply State.performCommit_keeps | with_reducible apply State.armCmd_keeps | with_reducible apply Done.plain_keeps | with_reducible apply Done.bad_keeps | fail_if_no_progress (with_reducible apply Keeps.upd) | (with_reducible refine Keeps.foldl ?_ ?_; on_goal 2 => (intro t x ht; beta_reduce)) | (with_reducible refine Keeps.foldl2 ?_ ?_; on_goal 2 => (intro t x ht; beta_reduce)) | with_reducible apply KeepsO.next | fail_if_no_progress (with_reducible apply Keeps.updFree) | (with_reducible refine Keeps.foldl1 ?_ ?_; on_goal 2 => (intro t x ht; beta_reduce)) | (with_reducible apply Keeps.fst; with_reducible assumption) | refine Keeps.ite ?_ ?_ | split | (intro a; intros; beta_reduce) | (with_reducible apply Keeps.snd; with_reducible assumption))

theorem execPwrGateRelease_keeps {s0 s : State} {tag} (h : Keeps kq s0 s) : KeepsO kq s0 (execPwrGateRelease tag s) := by
  unfold execPwrGateRelease
  repeat' (first | with_reducible assumption | ((fail_if_no_progress (extract_lets +onlyGivenNames y)); clear_value y) | with_reducible apply State.performCommit_keeps | with_reducible apply State.armCmd_keeps | with_reducible apply KeepsO.next | (intro a; intros; beta_reduce))

theorem execClkUpdateDividers_keeps {s0 s : State} {tag} (h : Keeps kq s0 s) : KeepsO kq s0 (execClkUpdateDividers tag s) := by
  unfold execClkUpdateDividers
  repeat' (first | with_reducible assumption | ((fail_if_no_progress (extract_lets +onlyGivenNames y)); clear_value y) | with_reducible apply State.performCommit_keeps | with_reducible apply State.armCmd_keeps | with_reducible apply KeepsO.next | (intro a; intros; beta_reduce))

theorem State.prospect_keeps {s0 s : State} {t chs} (h : Keeps kq s0 s) : Keeps kq s0 (State.prospect s t chs) := by
  unfold State.prospect
  repeat' (first | with_reducible assumption | with_reducible apply State.storeAll_keeps | with_reducible apply State.markShadow_keeps)

theorem State.triggerRecorder_keeps {s0 s : State} {kind boundaries} (h : Keeps kq s0 s) : Keeps kq s0 (State.triggerRecorder s kind boundaries) := by
  unfold State.triggerRecorder
  repeat' (first | with_reducible assumption | with_reducible refine Keeps.ite ?_ ?_ | ((fail_if_no_progress (extract_lets +onlyGivenNames y)); clear_value y) | fail_if_no_progress (with_reducible apply Keeps.upd) | split)

theorem ringEngines_keeps {s0 s : State} {mask} (h : Keeps kq s0 s) : Keeps kq s0 (ringEngines s mask) := by
  unfold ringEngines
  repeat' (first | with_reducible assumption | with_reducible apply State.setFld_keeps | (with_reducible refine Keeps.foldl ?_ ?_; on_goal 2 => (intro t x ht; beta_reduce)))

theorem State.cmpAct_keeps {s0 s : State} {i} (h : Keeps kq s0 s) : Keeps kq s0 (State.cmpAct s i) := by
  unfold State.cmpAct
  repeat' (first | with_reducible assumption | ((fail_if_no_progress (extract_lets +onlyGivenNames y)); (have z_ := y; guard_hyp z_ : State; clear z_); refine Keeps.cut (kq := kq) (s0 := s0) y ?_ ?_; (on_goal 1 => subst y); (on_goal 2 => (intro hy; try clear_value y))) | ((fail_if_no_progress (extract_lets +onlyGivenNames y)); clear_value y) | with_reducible apply State.triggerRecorder_keeps | with_reducible apply State.noteItem_keeps | with_reducible apply ringEngines_keeps | fail_if_no_progress (with_reducible apply Keeps.upd) | split)

theorem State.setCmp_keeps {s0 s : State} {i x} (h : Keeps kq s0 s) : Keeps kq s0 (State.setCmp s i x) := by
  unfold State.setCmp
  repeat' (first | with_reducible assumption | with_reducible apply State.setFld_keeps)

theorem State.dividerReset_keeps {s0 s : State} (h : Keeps kq s0 s) : Keeps kq s0 (State.dividerReset s) := by
  unfold State.dividerReset
  repeat' (first | with_reducible assumption | with_reducible refine Keeps.ite ?_ ?_ | ((fail_if_no_progress (extract_lets +onlyGivenNames y)); clear_value y) | with_reducible apply State.setFld_keeps | with_reducible apply State.releaseSafe_keeps | fail_if_no_progress (with_reducible apply Keeps.upd))

theorem State.endRamp_keeps {s0 s : State} (h : Keeps kq s0 s) : Keeps kq s0 (State.endRamp s) := by
  unfold State.endRamp
  repeat' (first | with_reducible assumption | with_reducible refine Keeps.ite ?_ ?_ | ((fail_if_no_progress (extract_lets +onlyGivenNames y)); (have z_ := y; guard_hyp z_ : State; clear z_); refine Keeps.cut (kq := kq) (s0 := s0) y ?_ ?_; (on_goal 1 => subst y); (on_goal 2 => (intro hy; try clear_value y))) | ((fail_if_no_progress (extract_lets +onlyGivenNames y)); clear_value y) | with_reducible apply State.setFld_keeps | fail_if_no_progress (with_reducible apply Keeps.upd) | split)

theorem State.servoHoldover_keeps {s0 s : State} (h : Keeps kq s0 s) : Keeps kq s0 (State.servoHoldover s) := by
  unfold State.servoHoldover
  repeat' (first | with_reducible assumption | with_reducible refine Keeps.ite ?_ ?_ | ((fail_if_no_progress (extract_lets +onlyGivenNames y)); (have z_ := y; guard_hyp z_ : State; clear z_); refine Keeps.cut (kq := kq) (s0 := s0) y ?_ ?_; (on_goal 1 => subst y); (on_goal 2 => (intro hy; try clear_value y))) | ((fail_if_no_progress (extract_lets +onlyGivenNames y)); clear_value y) | with_reducible apply State.setServo_keeps | with_reducible apply State.setFld_keeps | with_reducible apply State.raiseFree_keeps | fail_if_no_progress (with_reducible apply Keeps.upd))

theorem State.lockTimeout_keeps {s0 s : State} {l} (h : Keeps kq s0 s) : Keeps kq s0 (State.lockTimeout s l) := by
  unfold State.lockTimeout
  repeat' (first | with_reducible assumption | with_reducible refine Keeps.ite ?_ ?_ | ((fail_if_no_progress (extract_lets +onlyGivenNames y)); (have z_ := y; guard_hyp z_ : State; clear z_); refine Keeps.cut (kq := kq) (s0 := s0) y ?_ ?_; (on_goal 1 => subst y); (on_goal 2 => (intro hy; try clear_value y))) | ((fail_if_no_progress (extract_lets +onlyGivenNames y)); clear_value y) | with_reducible apply State.setFld_keeps | with_reducible apply State.raise_keeps | with_reducible apply State.setLoop_keeps | fail_if_no_progress (with_reducible apply Keeps.upd))

theorem State.unlockLoop_keeps {s0 s : State} {l} (h : Keeps kq s0 s) : Keeps kq s0 (State.unlockLoop s l) := by
  unfold State.unlockLoop
  repeat' (first | with_reducible assumption | with_reducible refine Keeps.ite ?_ ?_ | ((fail_if_no_progress (extract_lets +onlyGivenNames y)); (have z_ := y; guard_hyp z_ : State; clear z_); refine Keeps.cut (kq := kq) (s0 := s0) y ?_ ?_; (on_goal 1 => subst y); (on_goal 2 => (intro hy; try clear_value y))) | ((fail_if_no_progress (extract_lets +onlyGivenNames y)); (have z_ := y; guard_hyp z_ : State × _; clear z_); refine Keeps.cut1 (kq := kq) (s0 := s0) y ?_ ?_; (on_goal 1 => subst y); (on_goal 2 => (intro hy; try clear_value y))) | ((fail_if_no_progress (extract_lets +onlyGivenNames y)); (have z_ := y; guard_hyp z_ : _ × State; clear z_); refine Keeps.cut2 (kq := kq) (s0 := s0) y ?_ ?_; (on_goal 1 => subst y); (on_goal 2 => (intro hy; try clear_value y))) | ((fail_if_no_progress (extract_lets +onlyGivenNames y)); refine Keeps.fn y ?_; subst y; beta_reduce) | ((fail_if_no_progress (extract_lets +onlyGivenNames y)); clear_value y) | ((fail_if_no_progress (extract_lets +onlyGivenNames y)); subst y) | with_reducible apply State.setLoop_keeps | with_reducible apply State.addFld_keeps | with_reducible apply State.raise_keeps | with_reducible apply Done.plain_keeps | with_reducible apply Done.bad_keeps | fail_if_no_progress (with_reducible apply Keeps.upd) | (with_reducible refine Keeps.foldl ?_ ?_; on_goal 2 => (intro t x ht; beta_reduce)) | (with_reducible refine Keeps.foldl2 ?_ ?_; on_goal 2 => (intro t x ht; beta_reduce)) | with_reducible apply KeepsO.next | fail_if_no_progress (with_reducible apply Keeps.updFree) | (with_reducible refine Keeps.foldl1 ?_ ?_; on_goal 2 => (intro t x ht; beta_reduce)) | (with_reducible apply Keeps.fst; with_reducible assumption) | refine Keeps.ite ?_ ?_ | split | (intro a; intros; beta_reduce) | (with_reducible apply Keeps.snd; with_reducible assumption))

theorem State.moveOffset_keeps {s0 s : State} {d} (h : Keeps kq s0 s) : Keeps kq s0 (State.moveOffset s d) := by
  unfold State.moveOffset
  repeat' (first | with_reducible assumption | ((fail_if_no_progress (extract_lets +onlyGivenNames y)); (have z_ := y; guard_hyp z_ : State; clear z_); refine Keeps.cut (kq := kq) (s0 := s0) y ?_ ?_; (on_goal 1 => subst y); (on_goal 2 => (intro hy; try clear_value y))) | ((fail_if_no_progress (extract_lets +onlyGivenNames y)); clear_value y) | with_reducible apply State.setOffset_keeps | with_reducible apply State.setFld_keeps | fail_if_no_progress (with_reducible apply Keeps.upd))

theorem State.forceStep_keeps {s0 s : State} {d} (h : Keeps kq s0 s) : Keeps kq s0 (State.forceStep s d) := by
  unfold State.forceStep
  repeat' (first | with_reducible assumption | ((fail_if_no_progress (extract_lets +onlyGivenNames y)); (have z_ := y; guard_hyp z_ : State; clear z_); refine Keeps.cut (kq := kq) (s0 := s0) y ?_ ?_; (on_goal 1 => subst y); (on_goal 2 => (intro hy; try clear_value y))) | ((fail_if_no_progress (extract_lets +onlyGivenNames y)); clear_value y) | with_reducible apply State.moveOffset_keeps | with_reducible apply State.raise_keeps | with_reducible apply State.addFld_keeps | with_reducible apply State.setFld_keeps | fail_if_no_progress (with_reducible apply Keeps.upd))

theorem State.numberAnchors_keeps {s0 s : State} {t n} (h : Keeps kq s0 s) : Keeps kq s0 (State.numberAnchors s t n) := by
  unfold State.numberAnchors
  repeat' (first | with_reducible assumption | with_reducible refine Keeps.ite ?_ ?_ | ((fail_if_no_progress (extract_lets +onlyGivenNames y)); clear_value y) | fail_if_no_progress (with_reducible apply Keeps.upd) | (with_reducible refine Keeps.foldl ?_ ?_; on_goal 2 => (intro t x ht; beta_reduce)))

theorem State.readBandData_keeps {s0 s : State} (h : Keeps kq s0 s) : Keeps kq s0 (State.readBandData s).2 := by
  unfold State.readBandData
  repeat' (first | with_reducible assumption | ((fail_if_no_progress (extract_lets +onlyGivenNames y)); clear_value y) | with_reducible apply State.setFld_keeps)

theorem State.readAncData_keeps {s0 s : State} (h : Keeps kq s0 s) : Keeps kq s0 (State.readAncData s).2 := by
  unfold State.readAncData
  repeat' (first | with_reducible assumption | ((fail_if_no_progress (extract_lets +onlyGivenNames y)); clear_value y) | with_reducible apply State.setFld_keeps)

theorem State.planLoop_keeps {s0 s : State} {l} (h : Keeps kq s0 s) : Keeps kq s0 (State.planLoop s l) := by
  unfold State.planLoop
  repeat' (first | with_reducible assumption | with_reducible refine Keeps.ite ?_ ?_ | ((fail_if_no_progress (extract_lets +onlyGivenNames y)); (have z_ := y; guard_hyp z_ : State; clear z_); refine Keeps.cut (kq := kq) (s0 := s0) y ?_ ?_; (on_goal 1 => subst y); (on_goal 2 => (intro hy; try clear_value y))) | ((fail_if_no_progress (extract_lets +onlyGivenNames y)); (have z_ := y; guard_hyp z_ : State × _; clear z_); refine Keeps.cut1 (kq := kq) (s0 := s0) y ?_ ?_; (on_goal 1 => subst y); (on_goal 2 => (intro hy; try clear_value y))) | ((fail_if_no_progress (extract_lets +onlyGivenNames y)); (have z_ := y; guard_hyp z_ : _ × State; clear z_); refine Keeps.cut2 (kq := kq) (s0 := s0) y ?_ ?_; (on_goal 1 => subst y); (on_goal 2 => (intro hy; try clear_value y))) | ((fail_if_no_progress (extract_lets +onlyGivenNames y)); refine Keeps.fn y ?_; subst y; beta_reduce) | ((fail_if_no_progress (extract_lets +onlyGivenNames y)); clear_value y) | ((fail_if_no_progress (extract_lets +onlyGivenNames y)); subst y) | with_reducible apply State.searchLoop_keeps | with_reducible apply Done.plain_keeps | with_reducible apply Done.bad_keeps | fail_if_no_progress (with_reducible apply Keeps.upd) | (with_reducible refine Keeps.foldl ?_ ?_; on_goal 2 => (intro t x ht; beta_reduce)) | (with_reducible refine Keeps.foldl2 ?_ ?_; on_goal 2 => (intro t x ht; beta_reduce)) | with_reducible apply KeepsO.next | fail_if_no_progress (with_reducible apply Keeps.updFree) | (with_reducible refine Keeps.foldl1 ?_ ?_; on_goal 2 => (intro t x ht; beta_reduce)) | (with_reducible apply Keeps.fst; with_reducible assumption) | refine Keeps.ite ?_ ?_ | split | (intro a; intros; beta_reduce) | (with_reducible apply Keeps.snd; with_reducible assumption))

theorem State.lateRelocks_keeps {s0 s : State} (h : Keeps kq s0 s) : Keeps kq s0 (State.lateRelocks s) := by
  unfold State.lateRelocks
  repeat' (first | with_reducible assumption | with_reducible refine Keeps.ite ?_ ?_ | ((fail_if_no_progress (extract_lets +onlyGivenNames y)); (have z_ := y; guard_hyp z_ : State; clear z_); refine Keeps.cut (kq := kq) (s0 := s0) y ?_ ?_; (on_goal 1 => subst y); (on_goal 2 => (intro hy; try clear_value y))) | ((fail_if_no_progress (extract_lets +onlyGivenNames y)); (have z_ := y; guard_hyp z_ : State × _; clear z_); refine Keeps.cut1 (kq := kq) (s0 := s0) y ?_ ?_; (on_goal 1 => subst y); (on_goal 2 => (intro hy; try clear_value y))) | ((fail_if_no_progress (extract_lets +onlyGivenNames y)); (have z_ := y; guard_hyp z_ : _ × State; clear z_); refine Keeps.cut2 (kq := kq) (s0 := s0) y ?_ ?_; (on_goal 1 => subst y); (on_goal 2 => (intro hy; try clear_value y))) | ((fail_if_no_progress (extract_lets +onlyGivenNames y)); refine Keeps.fn y ?_; subst y; beta_reduce) | ((fail_if_no_progress (extract_lets +onlyGivenNames y)); clear_value y) | ((fail_if_no_progress (extract_lets +onlyGivenNames y)); subst y) | with_reducible apply State.planLoop_keeps | with_reducible apply Done.plain_keeps | with_reducible apply Done.bad_keeps | fail_if_no_progress (with_reducible apply Keeps.upd) | (with_reducible refine Keeps.foldl ?_ ?_; on_goal 2 => (intro t x ht; beta_reduce)) | (with_reducible refine Keeps.foldl2 ?_ ?_; on_goal 2 => (intro t x ht; beta_reduce)) | with_reducible apply KeepsO.next | fail_if_no_progress (with_reducible apply Keeps.updFree) | (with_reducible refine Keeps.foldl1 ?_ ?_; on_goal 2 => (intro t x ht; beta_reduce)) | (with_reducible apply Keeps.fst; with_reducible assumption) | refine Keeps.ite ?_ ?_ | split | (intro a; intros; beta_reduce) | (with_reducible apply Keeps.snd; with_reducible assumption))

theorem State.lockLoop_keeps {s0 s : State} {l} (h : Keeps kq s0 s) : Keeps kq s0 (State.lockLoop s l) := by
  unfold State.lockLoop
  repeat' (first | with_reducible assumption | with_reducible refine Keeps.ite ?_ ?_ | with_reducible apply State.setLoop_keeps | with_reducible apply State.addFld_keeps | with_reducible apply State.raise_keeps | with_reducible apply State.setFld_keeps)

theorem State.rcvBoundary_keeps {s0 s : State} (h : Keeps kq s0 s) : Keeps kq s0 (State.rcvBoundary s) := by
  unfold State.rcvBoundary
  repeat' (first | with_reducible assumption | ((fail_if_no_progress (extract_lets +onlyGivenNames y)); clear_value y) | with_reducible apply State.outputHolds_keeps | fail_if_no_progress (with_reducible apply Keeps.upd))

theorem State.refreshGates_keeps {s0 s : State} {capture} (h : Keeps kq s0 s) : Keeps kq s0 (State.refreshGates s capture) := by
  unfold State.refreshGates
  repeat' (first | with_reducible assumption | with_reducible refine Keeps.ite ?_ ?_ | ((fail_if_no_progress (extract_lets +onlyGivenNames y)); (have z_ := y; guard_hyp z_ : State; clear z_); refine Keeps.cut (kq := kq) (s0 := s0) y ?_ ?_; (on_goal 1 => subst y); (on_goal 2 => (intro hy; try clear_value y))) | ((fail_if_no_progress (extract_lets +onlyGivenNames y)); (have z_ := y; guard_hyp z_ : State × _; clear z_); refine Keeps.cut1 (kq := kq) (s0 := s0) y ?_ ?_; (on_goal 1 => subst y); (on_goal 2 => (intro hy; try clear_value y))) | ((fail_if_no_progress (extract_lets +onlyGivenNames y)); (have z_ := y; guard_hyp z_ : _ × State; clear z_); refine Keeps.cut2 (kq := kq) (s0 := s0) y ?_ ?_; (on_goal 1 => subst y); (on_goal 2 => (intro hy; try clear_value y))) | ((fail_if_no_progress (extract_lets +onlyGivenNames y)); refine Keeps.fn y ?_; subst y; beta_reduce) | ((fail_if_no_progress (extract_lets +onlyGivenNames y)); clear_value y) | ((fail_if_no_progress (extract_lets +onlyGivenNames y)); subst y) | with_reducible apply State.setFld_keeps | with_reducible apply Done.plain_keeps | with_reducible apply Done.bad_keeps | fail_if_no_progress (with_reducible apply Keeps.upd) | (with_reducible refine Keeps.foldl ?_ ?_; on_goal 2 => (intro t x ht; beta_reduce)) | (with_reducible refine Keeps.foldl2 ?_ ?_; on_goal 2 => (intro t x ht; beta_reduce)) | with_reducible apply KeepsO.next | fail_if_no_progress (with_reducible apply Keeps.updFree) | (with_reducible refine Keeps.foldl1 ?_ ?_; on_goal 2 => (intro t x ht; beta_reduce)) | (with_reducible apply Keeps.fst; with_reducible assumption) | refine Keeps.ite ?_ ?_ | split | (intro a; intros; beta_reduce) | (with_reducible apply Keeps.snd; with_reducible assumption))

theorem State.writeAnchor_keeps {s0 s : State} (h : Keeps kq s0 s) : Keeps kq s0 (State.writeAnchor s) := by
  unfold State.writeAnchor
  repeat' (first | with_reducible assumption | ((fail_if_no_progress (extract_lets +onlyGivenNames y)); clear_value y) | with_reducible apply State.fresh_keeps | with_reducible apply State.setFld_keeps | fail_if_no_progress (with_reducible apply Keeps.upd))

theorem State.planLoops_keeps {s0 s : State} {c} (h : Keeps kq s0 s) : Keeps kq s0 (State.planLoops s c) := by
  unfold State.planLoops
  repeat' (first | with_reducible assumption | ((fail_if_no_progress (extract_lets +onlyGivenNames y)); (have z_ := y; guard_hyp z_ : State; clear z_); refine Keeps.cut (kq := kq) (s0 := s0) y ?_ ?_; (on_goal 1 => subst y); (on_goal 2 => (intro hy; try clear_value y))) | ((fail_if_no_progress (extract_lets +onlyGivenNames y)); clear_value y) | with_reducible apply State.setFld_keeps | with_reducible apply State.planLoop_keeps | fail_if_no_progress (with_reducible apply Keeps.upd) | (with_reducible refine Keeps.foldl ?_ ?_; on_goal 2 => (intro t x ht; beta_reduce)))

theorem State.refuseJump_keeps {s0 s : State} {d} (h : Keeps kq s0 s) : Keeps kq s0 (State.refuseJump s d) := by
  unfold State.refuseJump
  repeat' (first | with_reducible assumption | ((fail_if_no_progress (extract_lets +onlyGivenNames y)); (have z_ := y; guard_hyp z_ : State; clear z_); refine Keeps.cut (kq := kq) (s0 := s0) y ?_ ?_; (on_goal 1 => subst y); (on_goal 2 => (intro hy; try clear_value y))) | with_reducible apply State.raise_keeps | with_reducible apply State.addFld_keeps | with_reducible apply State.setFld_keeps)

theorem State.servoCount_keeps {s0 s : State} {off} (h : Keeps kq s0 s) : Keeps kq s0 (State.servoCount s off) := by
  unfold State.servoCount
  repeat' (first | with_reducible assumption | with_reducible refine Keeps.ite ?_ ?_ | ((fail_if_no_progress (extract_lets +onlyGivenNames y)); clear_value y) | with_reducible apply State.raiseFree_keeps | with_reducible apply State.setServo_keeps | fail_if_no_progress (with_reducible apply Keeps.upd))

theorem State.servoSteer_keeps {s0 s : State} {off phase rate frc} (h : Keeps kq s0 s) : Keeps kq s0 (State.servoSteer s off phase rate frc) := by
  unfold State.servoSteer
  repeat' (first | with_reducible assumption | with_reducible refine Keeps.ite ?_ ?_ | ((fail_if_no_progress (extract_lets +onlyGivenNames y)); (have z_ := y; guard_hyp z_ : State; clear z_); refine Keeps.cut (kq := kq) (s0 := s0) y ?_ ?_; (on_goal 1 => subst y); (on_goal 2 => (intro hy; try clear_value y))) | with_reducible apply State.refuseJump_keeps | with_reducible apply State.setFld_keeps | with_reducible apply State.moveOffset_keeps | with_reducible apply State.changeRate_keeps)

theorem State.servoParent_keeps {s0 s : State} {port cls ms sm phase rate edge} (h : Keeps kq s0 s) : Keeps kq s0 (State.servoParent s port cls ms sm phase rate edge) := by
  unfold State.servoParent
  repeat' (first | with_reducible assumption | with_reducible refine Keeps.ite ?_ ?_ | ((fail_if_no_progress (extract_lets +onlyGivenNames y)); clear_value y) | with_reducible apply State.adoptParent_keeps | with_reducible apply State.setFld_keeps | with_reducible apply State.servoCount_keeps | with_reducible apply State.servoSteer_keeps | with_reducible apply State.moveOffset_keeps | fail_if_no_progress (with_reducible apply Keeps.upd))

theorem State.servoUpdate_keeps {s0 s : State} {parent phase rate edge} (h : Keeps kq s0 s) : Keeps kq s0 (State.servoUpdate s parent phase rate edge) := by
  unfold State.servoUpdate
  repeat' (first | with_reducible assumption | with_reducible refine Keeps.ite ?_ ?_ | ((fail_if_no_progress (extract_lets +onlyGivenNames y)); (have z_ := y; guard_hyp z_ : State; clear z_); refine Keeps.cut (kq := kq) (s0 := s0) y ?_ ?_; (on_goal 1 => subst y); (on_goal 2 => (intro hy; try clear_value y))) | ((fail_if_no_progress (extract_lets +onlyGivenNames y)); (have z_ := y; guard_hyp z_ : State × _; clear z_); refine Keeps.cut1 (kq := kq) (s0 := s0) y ?_ ?_; (on_goal 1 => subst y); (on_goal 2 => (intro hy; try clear_value y))) | ((fail_if_no_progress (extract_lets +onlyGivenNames y)); (have z_ := y; guard_hyp z_ : _ × State; clear z_); refine Keeps.cut2 (kq := kq) (s0 := s0) y ?_ ?_; (on_goal 1 => subst y); (on_goal 2 => (intro hy; try clear_value y))) | ((fail_if_no_progress (extract_lets +onlyGivenNames y)); refine Keeps.fn y ?_; subst y; beta_reduce) | ((fail_if_no_progress (extract_lets +onlyGivenNames y)); clear_value y) | ((fail_if_no_progress (extract_lets +onlyGivenNames y)); subst y) | with_reducible apply State.setFld_keeps | with_reducible apply State.setServo_keeps | with_reducible apply State.servoHoldover_keeps | with_reducible apply State.servoParent_keeps | with_reducible apply State.adoptParent_keeps | with_reducible apply Done.plain_keeps | with_reducible apply Done.bad_keeps | fail_if_no_progress (with_reducible apply Keeps.upd) | (with_reducible refine Keeps.foldl ?_ ?_; on_goal 2 => (intro t x ht; beta_reduce)) | (with_reducible refine Keeps.foldl2 ?_ ?_; on_goal 2 => (intro t x ht; beta_reduce)) | with_reducible apply KeepsO.next | fail_if_no_progress (with_reducible apply Keeps.updFree) | (with_reducible refine Keeps.foldl1 ?_ ?_; on_goal 2 => (intro t x ht; beta_reduce)) | (with_reducible apply Keeps.fst; with_reducible assumption) | refine Keeps.ite ?_ ?_ | split | (intro a; intros; beta_reduce) | (with_reducible apply Keeps.snd; with_reducible assumption))

theorem State.setCmpTarget_keeps {s0 s : State} {i totalNs} (h : Keeps kq s0 s) : Keeps kq s0 (State.setCmpTarget s i totalNs) := by
  unfold State.setCmpTarget
  repeat' (first | with_reducible assumption | ((fail_if_no_progress (extract_lets +onlyGivenNames y)); (have z_ := y; guard_hyp z_ : State; clear z_); refine Keeps.cut (kq := kq) (s0 := s0) y ?_ ?_; (on_goal 1 => subst y); (on_goal 2 => (intro hy; try clear_value y))) | ((fail_if_no_progress (extract_lets +onlyGivenNames y)); clear_value y) | with_reducible apply State.setFld_keeps)

theorem State.setOffsetCmd_keeps {s0 s : State} {c edge} (h : Keeps kq s0 s) : Keeps kq s0 (State.setOffsetCmd s c edge) := by
  unfold State.setOffsetCmd
  repeat' (first | with_reducible assumption | with_reducible refine Keeps.ite ?_ ?_ | with_reducible apply State.finishNow_keeps | with_reducible apply State.refuseJump_keeps | with_reducible apply State.moveOffset_keeps)

theorem State.stepForceCmd_keeps {s0 s : State} {c edge} (h : Keeps kq s0 s) : Keeps kq s0 (State.stepForceCmd s c edge) := by
  unfold State.stepForceCmd
  repeat' (first | with_reducible assumption | ((fail_if_no_progress (extract_lets +onlyGivenNames y)); clear_value y) | with_reducible apply State.finishNow_keeps | with_reducible apply State.forceStep_keeps)

theorem execClkSetBandTable_keeps {s0 s : State} {tag} (h : Keeps kq s0 s) : KeepsO kq s0 (execClkSetBandTable tag s) := by
  unfold execClkSetBandTable
  repeat' (first | with_reducible assumption | ((fail_if_no_progress (extract_lets +onlyGivenNames y)); clear_value y) | with_reducible apply State.performStart_keeps | with_reducible apply State.finishNow_keeps | fail_if_no_progress (with_reducible apply Keeps.upd) | with_reducible apply KeepsO.next | (intro a; intros; beta_reduce))

theorem execPtpParentLoss_keeps {s0 s : State} (h : Keeps kq s0 s) : KeepsO kq s0 (execPtpParentLoss s) := by
  unfold execPtpParentLoss
  repeat' (first | with_reducible assumption | with_reducible apply State.servoHoldover_keeps | with_reducible apply KeepsO.next)

theorem execPtpServoUpdate_keeps {s0 s : State} {parent _ms _sm phase rate edge} (h : Keeps kq s0 s) : KeepsO kq s0 (execPtpServoUpdate parent _ms _sm phase rate edge s) := by
  unfold execPtpServoUpdate
  repeat' (first | with_reducible assumption | with_reducible apply State.servoUpdate_keeps | with_reducible apply KeepsO.next)

theorem execTimeAdjust_keeps {s0 s : State} {tag edge} (h : Keeps kq s0 s) : KeepsO kq s0 (execTimeAdjust tag edge s) := by
  unfold execTimeAdjust
  repeat' (first | with_reducible assumption | with_reducible apply State.performStart_keeps | with_reducible apply State.setOffsetCmd_keeps | with_reducible apply KeepsO.next | (intro a; intros; beta_reduce))

theorem execTimeArmTrigger_keeps {s0 s : State} {tag edge} (h : Keeps kq s0 s) : KeepsO kq s0 (execTimeArmTrigger tag edge s) := by
  unfold execTimeArmTrigger
  repeat' (first | with_reducible assumption | with_reducible refine Keeps.ite ?_ ?_ | with_reducible apply State.performStart_keeps | with_reducible apply State.setFld_keeps | with_reducible apply State.setCmpTarget_keeps | with_reducible apply State.finishNow_keeps | with_reducible apply State.raise_keeps | with_reducible apply State.setCmp_keeps | with_reducible apply KeepsO.next | (intro a; intros; beta_reduce))

theorem execTimeCmpFired_keeps {s0 s : State} {i edge} (h : Keeps kq s0 s) : KeepsO kq s0 (execTimeCmpFired i edge s) := by
  unfold execTimeCmpFired
  repeat' (first | with_reducible assumption | with_reducible refine Keeps.ite ?_ ?_ | with_reducible refine KeepsO.ite ?_ ?_ | ((fail_if_no_progress (extract_lets +onlyGivenNames y)); (have z_ := y; guard_hyp z_ : State; clear z_); refine Keeps.cut (kq := kq) (s0 := s0) y ?_ ?_; (on_goal 1 => subst y); (on_goal 2 => (intro hy; try clear_value y))) | ((fail_if_no_progress (extract_lets +onlyGivenNames y)); clear_value y) | with_reducible apply State.raise_keeps | with_reducible apply State.cmpAct_keeps | with_reducible apply State.setCmp_keeps | with_reducible apply State.setCmpTarget_keeps | with_reducible apply KeepsO.next)

theorem execTimeCmpMissed_keeps {s0 s : State} {i edge} (h : Keeps kq s0 s) : KeepsO kq s0 (execTimeCmpMissed i edge s) := by
  unfold execTimeCmpMissed
  repeat' (first | with_reducible assumption | with_reducible refine KeepsO.ite ?_ ?_ | ((fail_if_no_progress (extract_lets +onlyGivenNames y)); clear_value y) | with_reducible apply State.raise_keeps | with_reducible apply State.setCmp_keeps | with_reducible apply State.setCmpTarget_keeps | with_reducible apply KeepsO.next)

theorem execTimeDisarmTrigger_keeps {s0 s : State} {tag} (h : Keeps kq s0 s) : KeepsO kq s0 (execTimeDisarmTrigger tag s) := by
  unfold execTimeDisarmTrigger
  repeat' (first | with_reducible assumption | ((fail_if_no_progress (extract_lets +onlyGivenNames y)); (have z_ := y; guard_hyp z_ : State; clear z_); refine Keeps.cut (kq := kq) (s0 := s0) y ?_ ?_; (on_goal 1 => subst y); (on_goal 2 => (intro hy; try clear_value y))) | with_reducible apply State.performStart_keeps | with_reducible apply State.setFld_keeps | with_reducible apply State.finishNow_keeps | with_reducible apply State.setCmp_keeps | with_reducible apply KeepsO.next | (intro a; intros; beta_reduce))

theorem execTimePulseEnd_keeps {s0 s : State} {i} (h : Keeps kq s0 s) : KeepsO kq s0 (execTimePulseEnd i s) := by
  unfold execTimePulseEnd
  repeat' (first | with_reducible assumption | ((fail_if_no_progress (extract_lets +onlyGivenNames y)); clear_value y) | fail_if_no_progress (with_reducible apply Keeps.upd) | with_reducible apply KeepsO.next)

theorem execTimeSetAbsolute_keeps {s0 s : State} {tag edge} (h : Keeps kq s0 s) : KeepsO kq s0 (execTimeSetAbsolute tag edge s) := by
  unfold execTimeSetAbsolute
  repeat' (first | with_reducible assumption | with_reducible apply State.performStart_keeps | with_reducible apply State.setOffsetCmd_keeps | with_reducible apply KeepsO.next | (intro a; intros; beta_reduce))

theorem execTimeSetRate_keeps {s0 s : State} {tag edge} (h : Keeps kq s0 s) : KeepsO kq s0 (execTimeSetRate tag edge s) := by
  unfold execTimeSetRate
  repeat' (first | with_reducible assumption | ((fail_if_no_progress (extract_lets +onlyGivenNames y)); clear_value y) | with_reducible apply State.performStart_keeps | with_reducible apply State.finishNow_keeps | with_reducible apply State.changeRate_keeps | with_reducible apply KeepsO.next | (intro a; intros; beta_reduce))

theorem execTimeStepForceAbsolute_keeps {s0 s : State} {tag edge} (h : Keeps kq s0 s) : KeepsO kq s0 (execTimeStepForceAbsolute tag edge s) := by
  unfold execTimeStepForceAbsolute
  repeat' (first | with_reducible assumption | with_reducible apply State.performStart_keeps | with_reducible apply State.stepForceCmd_keeps | with_reducible apply KeepsO.next | (intro a; intros; beta_reduce))

theorem execTimeStepForceAdjust_keeps {s0 s : State} {tag edge} (h : Keeps kq s0 s) : KeepsO kq s0 (execTimeStepForceAdjust tag edge s) := by
  unfold execTimeStepForceAdjust
  repeat' (first | with_reducible assumption | with_reducible apply State.performStart_keeps | with_reducible apply State.stepForceCmd_keeps | with_reducible apply KeepsO.next | (intro a; intros; beta_reduce))

end Sys2Proof.Machine
end

