-- ==== Sys2Proof/Laws/KeepsRadio.lean ====
section
/-!
SUPPORT. Sys2Proof/Laws/KeepsRadio.lean: what every state function leaves of the model's bookkeeping (`Keeps`): the receive and transmit paths, predistortion and compression.
-/
set_option linter.unusedTactic false
set_option linter.tactic.unusedName false
set_option linter.unreachableTactic false
set_option linter.unusedVariables false
namespace Sys2Proof.Machine

variable {kq : Bool}

theorem State.setQuad_keeps {s0 s : State} {n x} (h : Keeps kq s0 s) : Keeps kq s0 (State.setQuad s n x) := by
  unfold State.setQuad
  repeat' (first | with_reducible assumption | with_reducible apply State.setFld_keeps)

theorem State.retireRx_keeps {s0 s : State} {p} (h : Keeps kq s0 s) : Keeps kq s0 (State.retireRx s p) := by
  unfold State.retireRx
  repeat' (first | with_reducible assumption | with_reducible refine Keeps.ite ?_ ?_ | ((fail_if_no_progress (extract_lets +onlyGivenNames y)); clear_value y) | with_reducible apply State.setFld_keeps | with_reducible apply State.setQuad_keeps | fail_if_no_progress (with_reducible apply Keeps.upd))

theorem State.refreshQueue_keeps {s0 s : State} (h : Keeps kq s0 s) : Keeps kq s0 (State.refreshQueue s) := by
  unfold State.refreshQueue
  repeat' (first | with_reducible assumption | with_reducible apply State.setFld_keeps)

theorem State.retireTx_keeps {s0 s : State} {p} (h : Keeps kq s0 s) : Keeps kq s0 (State.retireTx s p) := by
  unfold State.retireTx
  repeat' (first | with_reducible assumption | with_reducible refine Keeps.ite ?_ ?_ | ((fail_if_no_progress (extract_lets +onlyGivenNames y)); (have z_ := y; guard_hyp z_ : State; clear z_); refine Keeps.cut (kq := kq) (s0 := s0) y ?_ ?_; (on_goal 1 => subst y); (on_goal 2 => (intro hy; try clear_value y))) | ((fail_if_no_progress (extract_lets +onlyGivenNames y)); clear_value y) | with_reducible apply State.setFld_keeps | fail_if_no_progress (with_reducible apply Keeps.upd))

theorem State.setOx_keeps {s0 s : State} {j x} (h : Keeps kq s0 s) : Keeps kq s0 (State.setOx s j x) := by
  unfold State.setOx
  repeat' (first | with_reducible assumption | with_reducible apply State.setFld_keeps)

theorem State.putDpd_keeps {s0 s : State} {p d} (h : Keeps kq s0 s) : Keeps kq s0 (State.putDpd s p d) := by
  unfold State.putDpd
  repeat' (first | with_reducible assumption | ((fail_if_no_progress (extract_lets +onlyGivenNames y)); clear_value y) | with_reducible apply State.refreshQueue_keeps | fail_if_no_progress (with_reducible apply Keeps.upd))

theorem State.retireOx_keeps {s0 s : State} {j} (h : Keeps kq s0 s) : Keeps kq s0 (State.retireOx s j) := by
  unfold State.retireOx
  repeat' (first | with_reducible assumption | with_reducible refine Keeps.ite ?_ ?_ | ((fail_if_no_progress (extract_lets +onlyGivenNames y)); (have z_ := y; guard_hyp z_ : State; clear z_); refine Keeps.cut (kq := kq) (s0 := s0) y ?_ ?_; (on_goal 1 => subst y); (on_goal 2 => (intro hy; try clear_value y))) | ((fail_if_no_progress (extract_lets +onlyGivenNames y)); clear_value y) | with_reducible apply State.setFld_keeps | with_reducible apply State.setOx_keeps | with_reducible apply State.putDpd_keeps | fail_if_no_progress (with_reducible apply Keeps.upd) | (with_reducible refine Keeps.foldl ?_ ?_; on_goal 2 => (intro t x ht; beta_reduce)))

theorem State.refreshBfLoad_keeps {s0 s : State} (h : Keeps kq s0 s) : Keeps kq s0 (State.refreshBfLoad s) := by
  unfold State.refreshBfLoad
  repeat' (first | with_reducible assumption | ((fail_if_no_progress (extract_lets +onlyGivenNames y)); (have z_ := y; guard_hyp z_ : State; clear z_); refine Keeps.cut (kq := kq) (s0 := s0) y ?_ ?_; (on_goal 1 => subst y); (on_goal 2 => (intro hy; try clear_value y))) | with_reducible apply State.setFld_keeps)

theorem State.padrvEnable_keeps {s0 s : State} (h : Keeps kq s0 s) : Keeps kq s0 (State.padrvEnable s) := by
  unfold State.padrvEnable
  repeat' (first | with_reducible assumption | ((fail_if_no_progress (extract_lets +onlyGivenNames y)); (have z_ := y; guard_hyp z_ : State; clear z_); refine Keeps.cut (kq := kq) (s0 := s0) y ?_ ?_; (on_goal 1 => subst y); (on_goal 2 => (intro hy; try clear_value y))) | ((fail_if_no_progress (extract_lets +onlyGivenNames y)); clear_value y) | with_reducible apply State.setFld_keeps | fail_if_no_progress (with_reducible apply Keeps.upd))

theorem State.oxDiscard_keeps {s0 s : State} {j ovr} (h : Keeps kq s0 s) : Keeps kq s0 (State.oxDiscard s j ovr) := by
  unfold State.oxDiscard
  repeat' (first | with_reducible assumption | ((fail_if_no_progress (extract_lets +onlyGivenNames y)); (have z_ := y; guard_hyp z_ : State; clear z_); refine Keeps.cut (kq := kq) (s0 := s0) y ?_ ?_; (on_goal 1 => subst y); (on_goal 2 => (intro hy; try clear_value y))) | with_reducible apply State.addFld_keeps | with_reducible apply State.setOx_keeps)

theorem State.setReady_keeps {s0 s : State} {p r} (h : Keeps kq s0 s) : Keeps kq s0 (State.setReady s p r) := by
  unfold State.setReady
  repeat' (first | with_reducible assumption | ((fail_if_no_progress (extract_lets +onlyGivenNames y)); (have z_ := y; guard_hyp z_ : State; clear z_); refine Keeps.cut (kq := kq) (s0 := s0) y ?_ ?_; (on_goal 1 => subst y); (on_goal 2 => (intro hy; try clear_value y))) | ((fail_if_no_progress (extract_lets +onlyGivenNames y)); clear_value y) | with_reducible apply State.setFld_keeps | fail_if_no_progress (with_reducible apply Keeps.upd))

theorem State.voidAirTick_keeps {s0 s : State} {p t} (h : Keeps kq s0 s) : Keeps kq s0 (State.voidAirTick s p t) := by
  unfold State.voidAirTick
  repeat' (first | with_reducible assumption | ((fail_if_no_progress (extract_lets +onlyGivenNames y)); clear_value y) | fail_if_no_progress (with_reducible apply Keeps.upd))

theorem State.voidThenSettle_keeps {s0 s : State} {p t} (h : Keeps kq s0 s) : Keeps kq s0 (State.voidThenSettle s p t) := by
  unfold State.voidThenSettle
  repeat' (first | with_reducible assumption | ((fail_if_no_progress (extract_lets +onlyGivenNames y)); (have z_ := y; guard_hyp z_ : State; clear z_); refine Keeps.cut (kq := kq) (s0 := s0) y ?_ ?_; (on_goal 1 => subst y); (on_goal 2 => (intro hy; try clear_value y))) | ((fail_if_no_progress (extract_lets +onlyGivenNames y)); clear_value y) | with_reducible apply State.voidAirTick_keeps | fail_if_no_progress (with_reducible apply Keeps.upd))

theorem State.setRxHold_keeps {s0 s : State} {die h_} (h : Keeps kq s0 s) : Keeps kq s0 (State.setRxHold s die h_) := by
  unfold State.setRxHold
  repeat' (first | with_reducible assumption | ((fail_if_no_progress (extract_lets +onlyGivenNames y)); clear_value y) | fail_if_no_progress (with_reducible apply Keeps.upd))

theorem State.preemptTx_keeps {s0 s : State} {p} (h : Keeps kq s0 s) : Keeps kq s0 (State.preemptTx s p) := by
  unfold State.preemptTx
  repeat' (first | with_reducible assumption | with_reducible refine Keeps.ite ?_ ?_ | ((fail_if_no_progress (extract_lets +onlyGivenNames y)); clear_value y) | with_reducible apply State.raiseFree_keeps | with_reducible apply State.addFld_keeps | fail_if_no_progress (with_reducible apply Keeps.upd))

theorem State.pllUnlock_keeps {s0 s : State} {die} (h : Keeps kq s0 s) : Keeps kq s0 (State.pllUnlock s die) := by
  unfold State.pllUnlock
  repeat' (first | with_reducible assumption | ((fail_if_no_progress (extract_lets +onlyGivenNames y)); (have z_ := y; guard_hyp z_ : State; clear z_); refine Keeps.cut (kq := kq) (s0 := s0) y ?_ ?_; (on_goal 1 => subst y); (on_goal 2 => (intro hy; try clear_value y))) | ((fail_if_no_progress (extract_lets +onlyGivenNames y)); clear_value y) | with_reducible apply State.setRxHold_keeps | with_reducible apply State.setReady_keeps | with_reducible apply State.preemptTx_keeps | (with_reducible refine Keeps.foldl ?_ ?_; on_goal 2 => (intro t x ht; beta_reduce)) | split)

theorem State.setSettled_keeps {s0 s : State} {p t} (h : Keeps kq s0 s) : Keeps kq s0 (State.setSettled s p t) := by
  unfold State.setSettled
  repeat' (first | with_reducible assumption | ((fail_if_no_progress (extract_lets +onlyGivenNames y)); clear_value y) | fail_if_no_progress (with_reducible apply Keeps.upd))

theorem State.lateStart_keeps {s0 s : State} {p voids} (h : Keeps kq s0 s) : Keeps kq s0 (State.lateStart s p voids) := by
  unfold State.lateStart
  repeat' (first | with_reducible assumption | with_reducible apply State.raise_keeps | with_reducible apply State.addFld_keeps)

theorem State.pllLock_keeps {s0 s : State} {die} (h : Keeps kq s0 s) : Keeps kq s0 (State.pllLock s die) := by
  unfold State.pllLock
  repeat' (first | with_reducible assumption | with_reducible refine Keeps.ite ?_ ?_ | ((fail_if_no_progress (extract_lets +onlyGivenNames y)); (have z_ := y; guard_hyp z_ : State; clear z_); refine Keeps.cut (kq := kq) (s0 := s0) y ?_ ?_; (on_goal 1 => subst y); (on_goal 2 => (intro hy; try clear_value y))) | ((fail_if_no_progress (extract_lets +onlyGivenNames y)); clear_value y) | with_reducible apply State.setRxHold_keeps | with_reducible apply State.setSettled_keeps | with_reducible apply State.setReady_keeps | with_reducible apply State.lateStart_keeps | (with_reducible refine Keeps.foldl ?_ ?_; on_goal 2 => (intro t x ht; beta_reduce)) | split)

theorem State.refreshFes_keeps {s0 s : State} (h : Keeps kq s0 s) : Keeps kq s0 (State.refreshFes s) := by
  unfold State.refreshFes
  repeat' (first | with_reducible assumption | with_reducible refine Keeps.ite ?_ ?_ | ((fail_if_no_progress (extract_lets +onlyGivenNames y)); clear_value y) | with_reducible apply State.setFld_keeps)

theorem State.refreshFhLoad_keeps {s0 s : State} (h : Keeps kq s0 s) : Keeps kq s0 (State.refreshFhLoad s) := by
  unfold State.refreshFhLoad
  repeat' (first | with_reducible assumption | with_reducible refine Keeps.ite ?_ ?_ | with_reducible apply State.setFld_keeps)

theorem State.setAdapt_keeps {s0 s : State} {p x} (h : Keeps kq s0 s) : Keeps kq s0 (State.setAdapt s p x) := by
  unfold State.setAdapt
  repeat' (first | with_reducible assumption | with_reducible apply State.refreshQueue_keeps | with_reducible apply State.setFld_keeps)

theorem State.staleCandidate_keeps {s0 s : State} {p} (h : Keeps kq s0 s) : Keeps kq s0 (State.staleCandidate s p) := by
  unfold State.staleCandidate
  repeat' (first | with_reducible assumption | with_reducible refine Keeps.ite ?_ ?_ | ((fail_if_no_progress (extract_lets +onlyGivenNames y)); (have z_ := y; guard_hyp z_ : State; clear z_); refine Keeps.cut (kq := kq) (s0 := s0) y ?_ ?_; (on_goal 1 => subst y); (on_goal 2 => (intro hy; try clear_value y))) | ((fail_if_no_progress (extract_lets +onlyGivenNames y)); clear_value y) | with_reducible apply State.addFld_keeps | with_reducible apply State.setAdapt_keeps | with_reducible apply State.putDpd_keeps)

theorem State.staleEstimate_keeps {s0 s : State} {p} (h : Keeps kq s0 s) : Keeps kq s0 (State.staleEstimate s p) := by
  unfold State.staleEstimate
  repeat' (first | with_reducible assumption | with_reducible refine Keeps.ite ?_ ?_ | ((fail_if_no_progress (extract_lets +onlyGivenNames y)); (have z_ := y; guard_hyp z_ : State; clear z_); refine Keeps.cut (kq := kq) (s0 := s0) y ?_ ?_; (on_goal 1 => subst y); (on_goal 2 => (intro hy; try clear_value y))) | ((fail_if_no_progress (extract_lets +onlyGivenNames y)); clear_value y) | with_reducible apply State.addFld_keeps | with_reducible apply State.putDpd_keeps)

theorem State.refreshAccepted_keeps {s0 s : State} {p} (h : Keeps kq s0 s) : Keeps kq s0 (State.refreshAccepted s p) := by
  unfold State.refreshAccepted
  repeat' (first | with_reducible assumption | with_reducible apply State.setFld_keeps)

theorem State.putCfr_keeps {s0 s : State} {p y} (h : Keeps kq s0 s) : Keeps kq s0 (State.putCfr s p y) := by
  unfold State.putCfr
  repeat' (first | with_reducible assumption | ((fail_if_no_progress (extract_lets +onlyGivenNames y)); clear_value y) | fail_if_no_progress (with_reducible apply Keeps.upd))

theorem State.rescaleCfr_keeps {s0 s : State} {p before after} (h : Keeps kq s0 s) : Keeps kq s0 (State.rescaleCfr s p before after) := by
  unfold State.rescaleCfr
  repeat' (first | with_reducible assumption | with_reducible refine Keeps.ite ?_ ?_ | ((fail_if_no_progress (extract_lets +onlyGivenNames y)); refine Keeps.fn y ?_; subst y; beta_reduce) | ((fail_if_no_progress (extract_lets +onlyGivenNames y)); clear_value y) | with_reducible apply State.putCfr_keeps)

theorem State.refreshPower_keeps {s0 s : State} {p} (h : Keeps kq s0 s) : Keeps kq s0 (State.refreshPower s p) := by
  unfold State.refreshPower
  repeat' (first | with_reducible assumption | ((fail_if_no_progress (extract_lets +onlyGivenNames y)); (have z_ := y; guard_hyp z_ : State; clear z_); refine Keeps.cut (kq := kq) (s0 := s0) y ?_ ?_; (on_goal 1 => subst y); (on_goal 2 => (intro hy; try clear_value y))) | ((fail_if_no_progress (extract_lets +onlyGivenNames y)); clear_value y) | with_reducible apply State.setFld_keeps | with_reducible apply State.rescaleCfr_keeps | fail_if_no_progress (with_reducible apply Keeps.upd))

theorem State.refreshCap_keeps {s0 s : State} {p} (h : Keeps kq s0 s) : Keeps kq s0 (State.refreshCap s p) := by
  unfold State.refreshCap
  repeat' (first | with_reducible assumption | with_reducible refine Keeps.ite ?_ ?_ | with_reducible apply State.refreshAccepted_keeps | with_reducible apply State.setFld_keeps | with_reducible apply State.refreshPower_keeps)

theorem State.writeSet_keeps {s0 s : State} {p slot st cs} (h : Keeps kq s0 s) : Keeps kq s0 (State.writeSet s p slot st cs) := by
  unfold State.writeSet
  repeat' (first | with_reducible assumption | ((fail_if_no_progress (extract_lets +onlyGivenNames y)); clear_value y) | fail_if_no_progress (with_reducible apply Keeps.upd))

theorem State.dpdChange_keeps {s0 s : State} {c} (h : Keeps kq s0 s) : Keeps kq s0 (State.dpdChange s c) := by
  unfold State.dpdChange
  repeat' (first | with_reducible assumption | with_reducible refine Keeps.ite ?_ ?_ | ((fail_if_no_progress (extract_lets +onlyGivenNames y)); (have z_ := y; guard_hyp z_ : State; clear z_); refine Keeps.cut (kq := kq) (s0 := s0) y ?_ ?_; (on_goal 1 => subst y); (on_goal 2 => (intro hy; try clear_value y))) | ((fail_if_no_progress (extract_lets +onlyGivenNames y)); (have z_ := y; guard_hyp z_ : State × _; clear z_); refine Keeps.cut1 (kq := kq) (s0 := s0) y ?_ ?_; (on_goal 1 => subst y); (on_goal 2 => (intro hy; try clear_value y))) | ((fail_if_no_progress (extract_lets +onlyGivenNames y)); (have z_ := y; guard_hyp z_ : _ × State; clear z_); refine Keeps.cut2 (kq := kq) (s0 := s0) y ?_ ?_; (on_goal 1 => subst y); (on_goal 2 => (intro hy; try clear_value y))) | ((fail_if_no_progress (extract_lets +onlyGivenNames y)); refine Keeps.fn y ?_; subst y; beta_reduce) | ((fail_if_no_progress (extract_lets +onlyGivenNames y)); clear_value y) | ((fail_if_no_progress (extract_lets +onlyGivenNames y)); subst y) | with_reducible apply State.setAdapt_keeps | with_reducible apply State.staleCandidate_keeps | with_reducible apply State.staleEstimate_keeps | with_reducible apply State.putDpd_keeps | with_reducible apply State.refreshCap_keeps | with_reducible apply State.writeSet_keeps | with_reducible apply Done.plain_keeps | with_reducible apply Done.bad_keeps | fail_if_no_progress (with_reducible apply Keeps.upd) | (with_reducible refine Keeps.foldl ?_ ?_; on_goal 2 => (intro t x ht; beta_reduce)) | (with_reducible refine Keeps.foldl2 ?_ ?_; on_goal 2 => (intro t x ht; beta_reduce)) | with_reducible apply KeepsO.next | fail_if_no_progress (with_reducible apply Keeps.updFree) | (with_reducible refine Keeps.foldl1 ?_ ?_; on_goal 2 => (intro t x ht; beta_reduce)) | (with_reducible apply Keeps.fst; with_reducible assumption) | refine Keeps.ite ?_ ?_ | split | (intro a; intros; beta_reduce) | (with_reducible apply Keeps.snd; with_reducible assumption))

theorem State.switchSlot_keeps {s0 s : State} {p slot} (h : Keeps kq s0 s) : Keeps kq s0 (State.switchSlot s p slot) := by
  unfold State.switchSlot
  repeat' (first | with_reducible assumption | with_reducible refine Keeps.ite ?_ ?_ | ((fail_if_no_progress (extract_lets +onlyGivenNames y)); (have z_ := y; guard_hyp z_ : State; clear z_); refine Keeps.cut (kq := kq) (s0 := s0) y ?_ ?_; (on_goal 1 => subst y); (on_goal 2 => (intro hy; try clear_value y))) | ((fail_if_no_progress (extract_lets +onlyGivenNames y)); clear_value y) | with_reducible apply State.writeSet_keeps | with_reducible apply State.setFld_keeps | with_reducible apply State.staleCandidate_keeps | with_reducible apply State.refreshCap_keeps | split)

theorem State.putOxCap_keeps {s0 s : State} {j x} (h : Keeps kq s0 s) : Keeps kq s0 (State.putOxCap s j x) := by
  unfold State.putOxCap
  repeat' (first | with_reducible assumption | ((fail_if_no_progress (extract_lets +onlyGivenNames y)); clear_value y) | fail_if_no_progress (with_reducible apply Keeps.upd))

theorem State.setCapAt_keeps {s0 s : State} {j a} (h : Keeps kq s0 s) : Keeps kq s0 (State.setCapAt s j a) := by
  unfold State.setCapAt
  repeat' (first | with_reducible assumption | ((fail_if_no_progress (extract_lets +onlyGivenNames y)); clear_value y) | with_reducible apply State.putOxCap_keeps | fail_if_no_progress (with_reducible apply Keeps.upd))

theorem State.dpdCommit_keeps {s0 s : State} {old chs} (h : Keeps kq s0 s) : Keeps kq s0 (State.dpdCommit s old chs) := by
  unfold State.dpdCommit
  repeat' (first | with_reducible assumption | with_reducible refine Keeps.ite ?_ ?_ | with_reducible apply State.dpdChange_keeps | with_reducible apply State.switchSlot_keeps | with_reducible apply State.setCapAt_keeps | with_reducible apply State.setOx_keeps | (with_reducible refine Keeps.foldl ?_ ?_; on_goal 2 => (intro t x ht; beta_reduce)) | split)

theorem State.settleStream_keeps {s0 s : State} {st} (h : Keeps kq s0 s) : Keeps kq s0 (State.settleStream s st) := by
  unfold State.settleStream
  repeat' (first | with_reducible assumption | ((fail_if_no_progress (extract_lets +onlyGivenNames y)); clear_value y) | fail_if_no_progress (with_reducible apply Keeps.upd))

theorem State.refreshTxStatus_keeps {s0 s : State} {p} (h : Keeps kq s0 s) : Keeps kq s0 (State.refreshTxStatus s p) := by
  unfold State.refreshTxStatus
  repeat' (first | with_reducible assumption | ((fail_if_no_progress (extract_lets +onlyGivenNames y)); (have z_ := y; guard_hyp z_ : State; clear z_); refine Keeps.cut (kq := kq) (s0 := s0) y ?_ ?_; (on_goal 1 => subst y); (on_goal 2 => (intro hy; try clear_value y))) | with_reducible apply State.setFld_keeps)

theorem State.refreshTxLoad_keeps {s0 s : State} (h : Keeps kq s0 s) : Keeps kq s0 (State.refreshTxLoad s) := by
  unfold State.refreshTxLoad
  repeat' (first | with_reducible assumption | ((fail_if_no_progress (extract_lets +onlyGivenNames y)); (have z_ := y; guard_hyp z_ : State; clear z_); refine Keeps.cut (kq := kq) (s0 := s0) y ?_ ?_; (on_goal 1 => subst y); (on_goal 2 => (intro hy; try clear_value y))) | with_reducible apply State.setFld_keeps | (with_reducible refine Keeps.foldl ?_ ?_; on_goal 2 => (intro t x ht; beta_reduce)))

theorem State.txCommit_keeps {s0 s : State} {old chs} (h : Keeps kq s0 s) : Keeps kq s0 (State.txCommit s old chs) := by
  unfold State.txCommit
  repeat' (first | with_reducible assumption | with_reducible refine Keeps.ite ?_ ?_ | ((fail_if_no_progress (extract_lets +onlyGivenNames y)); (have z_ := y; guard_hyp z_ : State; clear z_); refine Keeps.cut (kq := kq) (s0 := s0) y ?_ ?_; (on_goal 1 => subst y); (on_goal 2 => (intro hy; try clear_value y))) | ((fail_if_no_progress (extract_lets +onlyGivenNames y)); clear_value y) | ((fail_if_no_progress (extract_lets +onlyGivenNames y)); subst y) | with_reducible apply State.voidThenSettle_keeps | with_reducible apply State.settleStream_keeps | with_reducible apply State.voidAirTick_keeps | with_reducible apply State.refreshPower_keeps | with_reducible apply State.setFld_keeps | with_reducible apply State.refreshTxStatus_keeps | with_reducible apply State.refreshTxLoad_keeps | fail_if_no_progress (with_reducible apply Keeps.upd) | (with_reducible refine Keeps.foldl ?_ ?_; on_goal 2 => (intro t x ht; beta_reduce)) | split)

theorem State.stopQuad_keeps {s0 s : State} {n} (h : Keeps kq s0 s) : Keeps kq s0 (State.stopQuad s n) := by
  unfold State.stopQuad
  repeat' (first | with_reducible assumption | with_reducible refine Keeps.ite ?_ ?_ | ((fail_if_no_progress (extract_lets +onlyGivenNames y)); (have z_ := y; guard_hyp z_ : State; clear z_); refine Keeps.cut (kq := kq) (s0 := s0) y ?_ ?_; (on_goal 1 => subst y); (on_goal 2 => (intro hy; try clear_value y))) | ((fail_if_no_progress (extract_lets +onlyGivenNames y)); clear_value y) | with_reducible apply State.addFld_keeps | with_reducible apply State.setQuad_keeps | fail_if_no_progress (with_reducible apply Keeps.upd) | split)

theorem State.setAtten_keeps {s0 s : State} {p a dgain} (h : Keeps kq s0 s) : Keeps kq s0 (State.setAtten s p a dgain) := by
  unfold State.setAtten
  repeat' (first | with_reducible assumption | with_reducible refine Keeps.ite ?_ ?_ | ((fail_if_no_progress (extract_lets +onlyGivenNames y)); clear_value y) | with_reducible apply State.setFld_keeps | fail_if_no_progress (with_reducible apply Keeps.upd))

theorem State.setAgc_keeps {s0 s : State} {p x} (h : Keeps kq s0 s) : Keeps kq s0 (State.setAgc s p x) := by
  unfold State.setAgc
  repeat' (first | with_reducible assumption | with_reducible apply State.setFld_keeps)

theorem State.setLow_keeps {s0 s : State} {p n} (h : Keeps kq s0 s) : Keeps kq s0 (State.setLow s p n) := by
  unfold State.setLow
  repeat' (first | with_reducible assumption | ((fail_if_no_progress (extract_lets +onlyGivenNames y)); clear_value y) | fail_if_no_progress (with_reducible apply Keeps.upd))

theorem State.gainCommit_keeps {s0 s : State} {p} (h : Keeps kq s0 s) : Keeps kq s0 (State.gainCommit s p) := by
  unfold State.gainCommit
  repeat' (first | with_reducible assumption | with_reducible refine Keeps.ite ?_ ?_ | ((fail_if_no_progress (extract_lets +onlyGivenNames y)); clear_value y) | with_reducible apply State.setAtten_keeps | with_reducible apply State.setAgc_keeps | with_reducible apply State.setLow_keeps | fail_if_no_progress (with_reducible apply Keeps.upd))

theorem State.refreshRxStatus_keeps {s0 s : State} {p} (h : Keeps kq s0 s) : Keeps kq s0 (State.refreshRxStatus s p) := by
  unfold State.refreshRxStatus
  repeat' (first | with_reducible assumption | ((fail_if_no_progress (extract_lets +onlyGivenNames y)); (have z_ := y; guard_hyp z_ : State; clear z_); refine Keeps.cut (kq := kq) (s0 := s0) y ?_ ?_; (on_goal 1 => subst y); (on_goal 2 => (intro hy; try clear_value y))) | with_reducible apply State.setFld_keeps)

theorem State.refreshRxLoad_keeps {s0 s : State} (h : Keeps kq s0 s) : Keeps kq s0 (State.refreshRxLoad s) := by
  unfold State.refreshRxLoad
  repeat' (first | with_reducible assumption | ((fail_if_no_progress (extract_lets +onlyGivenNames y)); (have z_ := y; guard_hyp z_ : State; clear z_); refine Keeps.cut (kq := kq) (s0 := s0) y ?_ ?_; (on_goal 1 => subst y); (on_goal 2 => (intro hy; try clear_value y))) | with_reducible apply State.setFld_keeps | (with_reducible refine Keeps.foldl ?_ ?_; on_goal 2 => (intro t x ht; beta_reduce)))

theorem State.rxCommit_keeps {s0 s : State} {old chs} (h : Keeps kq s0 s) : Keeps kq s0 (State.rxCommit s old chs) := by
  unfold State.rxCommit
  repeat' (first | with_reducible assumption | with_reducible refine Keeps.ite ?_ ?_ | ((fail_if_no_progress (extract_lets +onlyGivenNames y)); (have z_ := y; guard_hyp z_ : State; clear z_); refine Keeps.cut (kq := kq) (s0 := s0) y ?_ ?_; (on_goal 1 => subst y); (on_goal 2 => (intro hy; try clear_value y))) | ((fail_if_no_progress (extract_lets +onlyGivenNames y)); clear_value y) | with_reducible apply State.stopQuad_keeps | with_reducible apply State.gainCommit_keeps | with_reducible apply State.refreshRxStatus_keeps | with_reducible apply State.refreshRxLoad_keeps | fail_if_no_progress (with_reducible apply Keeps.upd) | (with_reducible refine Keeps.foldl ?_ ?_; on_goal 2 => (intro t x ht; beta_reduce)))

theorem State.openLate_keeps {s0 s : State} {tag mask o} (h : Keeps kq s0 s) : Keeps kq s0 (State.openLate s tag mask o) := by
  unfold State.openLate
  repeat' (first | with_reducible assumption | with_reducible refine Keeps.ite ?_ ?_ | ((fail_if_no_progress (extract_lets +onlyGivenNames y)); clear_value y) | with_reducible apply State.finish_keeps | fail_if_no_progress (with_reducible apply Keeps.upd))

theorem State.armDpd_keeps {s0 s : State} {p ch} (h : Keeps kq s0 s) : Keeps kq s0 (State.armDpd s p ch) := by
  unfold State.armDpd
  repeat' (first | with_reducible assumption | ((fail_if_no_progress (extract_lets +onlyGivenNames y)); clear_value y) | with_reducible apply State.armCommit_keeps)

theorem State.armLate_keeps {s0 s : State} {c units chs bulk part pl paths} (h : Keeps kq s0 s) : Keeps kq s0 (State.armLate s c units chs bulk part pl paths) := by
  unfold State.armLate
  repeat' (first | with_reducible assumption | ((fail_if_no_progress (extract_lets +onlyGivenNames y)); clear_value y) | with_reducible apply State.armCommit_keeps)

theorem State.bulkTick_keeps {s0 s : State} (h : Keeps kq s0 s) : Keeps kq s0 (State.bulkTick s) := by
  unfold State.bulkTick
  repeat' (first | with_reducible assumption | ((fail_if_no_progress (extract_lets +onlyGivenNames y)); clear_value y) | fail_if_no_progress (with_reducible apply Keeps.upd) | (with_reducible refine Keeps.foldl ?_ ?_; on_goal 2 => (intro t x ht; beta_reduce)) | split)

theorem State.calBoundary_keeps {s0 s : State} {p} (h : Keeps kq s0 s) : Keeps kq s0 (State.calBoundary s p) := by
  unfold State.calBoundary
  repeat' (first | with_reducible assumption | with_reducible refine Keeps.ite ?_ ?_ | ((fail_if_no_progress (extract_lets +onlyGivenNames y)); (have z_ := y; guard_hyp z_ : State; clear z_); refine Keeps.cut (kq := kq) (s0 := s0) y ?_ ?_; (on_goal 1 => subst y); (on_goal 2 => (intro hy; try clear_value y))) | with_reducible apply State.setReady_keeps | with_reducible apply State.preemptTx_keeps | with_reducible apply State.lateStart_keeps | with_reducible apply State.setSettled_keeps)

theorem State.cfrWindow_keeps {s0 s : State} {p} (h : Keeps kq s0 s) : Keeps kq s0 (State.cfrWindow s p) := by
  unfold State.cfrWindow
  repeat' (first | with_reducible assumption | with_reducible refine Keeps.ite ?_ ?_ | ((fail_if_no_progress (extract_lets +onlyGivenNames y)); (have z_ := y; guard_hyp z_ : State; clear z_); refine Keeps.cut (kq := kq) (s0 := s0) y ?_ ?_; (on_goal 1 => subst y); (on_goal 2 => (intro hy; try clear_value y))) | ((fail_if_no_progress (extract_lets +onlyGivenNames y)); clear_value y) | with_reducible apply State.putCfr_keeps | fail_if_no_progress (with_reducible apply Keeps.upd))

theorem State.chainInput_keeps {s0 s : State} {p} (h : Keeps kq s0 s) : Keeps kq s0 (State.chainInput s p) := by
  unfold State.chainInput
  repeat' (first | with_reducible assumption | with_reducible refine Keeps.ite ?_ ?_ | ((fail_if_no_progress (extract_lets +onlyGivenNames y)); (have z_ := y; guard_hyp z_ : State; clear z_); refine Keeps.cut (kq := kq) (s0 := s0) y ?_ ?_; (on_goal 1 => subst y); (on_goal 2 => (intro hy; try clear_value y))) | ((fail_if_no_progress (extract_lets +onlyGivenNames y)); clear_value y) | with_reducible apply State.putCfr_keeps | fail_if_no_progress (with_reducible apply Keeps.upd))

theorem State.chainPath_keeps {s0 s : State} {p} (h : Keeps kq s0 s) : Keeps kq s0 (State.chainPath s p) := by
  unfold State.chainPath
  repeat' (first | with_reducible assumption | with_reducible refine Keeps.ite ?_ ?_ | ((fail_if_no_progress (extract_lets +onlyGivenNames y)); (have z_ := y; guard_hyp z_ : State; clear z_); refine Keeps.cut (kq := kq) (s0 := s0) y ?_ ?_; (on_goal 1 => subst y); (on_goal 2 => (intro hy; try clear_value y))) | ((fail_if_no_progress (extract_lets +onlyGivenNames y)); clear_value y) | with_reducible apply State.addFld_keeps | fail_if_no_progress (with_reducible apply Keeps.upd))

theorem State.clipSlotEnd_keeps {s0 s : State} {p} (h : Keeps kq s0 s) : Keeps kq s0 (State.clipSlotEnd s p) := by
  unfold State.clipSlotEnd
  repeat' (first | with_reducible assumption | with_reducible refine Keeps.ite ?_ ?_ | ((fail_if_no_progress (extract_lets +onlyGivenNames y)); (have z_ := y; guard_hyp z_ : State; clear z_); refine Keeps.cut (kq := kq) (s0 := s0) y ?_ ?_; (on_goal 1 => subst y); (on_goal 2 => (intro hy; try clear_value y))) | ((fail_if_no_progress (extract_lets +onlyGivenNames y)); clear_value y) | with_reducible apply State.raise_keeps | fail_if_no_progress (with_reducible apply Keeps.upd))

theorem State.rxNco_keeps {s0 s : State} {p k} (h : Keeps kq s0 s) : Keeps kq s0 (State.rxNco s p k) := by
  unfold State.rxNco
  repeat' (first | with_reducible assumption | ((fail_if_no_progress (extract_lets +onlyGivenNames y)); clear_value y) | fail_if_no_progress (with_reducible apply Keeps.upd))

theorem State.rxStream_keeps {s0 s : State} {overrun p k inp ovr} (h : Keeps kq s0 s) : Keeps kq s0 (State.rxStream s overrun p k inp ovr) := by
  unfold State.rxStream
  repeat' (first | with_reducible assumption | with_reducible refine Keeps.ite ?_ ?_ | ((fail_if_no_progress (extract_lets +onlyGivenNames y)); (have z_ := y; guard_hyp z_ : State; clear z_); refine Keeps.cut (kq := kq) (s0 := s0) y ?_ ?_; (on_goal 1 => subst y); (on_goal 2 => (intro hy; try clear_value y))) | ((fail_if_no_progress (extract_lets +onlyGivenNames y)); clear_value y) | with_reducible apply State.addFld_keeps | fail_if_no_progress (with_reducible apply Keeps.upd))

theorem State.dcTick_keeps {s0 s : State} {p codes} (h : Keeps kq s0 s) : Keeps kq s0 (State.dcTick s p codes).2 := by
  unfold State.dcTick
  repeat' (first | with_reducible assumption | ((fail_if_no_progress (extract_lets +onlyGivenNames y)); clear_value y) | with_reducible apply State.setFld_keeps | fail_if_no_progress (with_reducible apply Keeps.upd))

theorem State.gapTickEnd_keeps {s0 s : State} {p peak} (h : Keeps kq s0 s) : Keeps kq s0 (State.gapTickEnd s p peak) := by
  unfold State.gapTickEnd
  repeat' (first | with_reducible assumption | with_reducible refine Keeps.ite ?_ ?_ | with_reducible apply State.setFld_keeps | with_reducible apply State.setLow_keeps | fail_if_no_progress (with_reducible apply Keeps.upd))

theorem State.gapCodes_keeps {s0 s : State} {p codes} (h : Keeps kq s0 s) : Keeps kq s0 (State.gapCodes s p codes) := by
  unfold State.gapCodes
  repeat' (first | with_reducible assumption | with_reducible refine Keeps.ite ?_ ?_ | ((fail_if_no_progress (extract_lets +onlyGivenNames y)); (have z_ := y; guard_hyp z_ : State; clear z_); refine Keeps.cut (kq := kq) (s0 := s0) y ?_ ?_; (on_goal 1 => subst y); (on_goal 2 => (intro hy; try clear_value y))) | ((fail_if_no_progress (extract_lets +onlyGivenNames y)); (have z_ := y; guard_hyp z_ : State × _; clear z_); refine Keeps.cut1 (kq := kq) (s0 := s0) y ?_ ?_; (on_goal 1 => subst y); (on_goal 2 => (intro hy; try clear_value y))) | ((fail_if_no_progress (extract_lets +onlyGivenNames y)); (have z_ := y; guard_hyp z_ : _ × State; clear z_); refine Keeps.cut2 (kq := kq) (s0 := s0) y ?_ ?_; (on_goal 1 => subst y); (on_goal 2 => (intro hy; try clear_value y))) | ((fail_if_no_progress (extract_lets +onlyGivenNames y)); refine Keeps.fn y ?_; subst y; beta_reduce) | ((fail_if_no_progress (extract_lets +onlyGivenNames y)); clear_value y) | ((fail_if_no_progress (extract_lets +onlyGivenNames y)); subst y) | with_reducible apply State.setLow_keeps | with_reducible apply State.gapTickEnd_keeps | with_reducible apply Done.plain_keeps | with_reducible apply Done.bad_keeps | fail_if_no_progress (with_reducible apply Keeps.upd) | (with_reducible refine Keeps.foldl ?_ ?_; on_goal 2 => (intro t x ht; beta_reduce)) | (with_reducible refine Keeps.foldl2 ?_ ?_; on_goal 2 => (intro t x ht; beta_reduce)) | with_reducible apply KeepsO.next | fail_if_no_progress (with_reducible apply Keeps.updFree) | (with_reducible refine Keeps.foldl1 ?_ ?_; on_goal 2 => (intro t x ht; beta_reduce)) | (with_reducible apply Keeps.fst; with_reducible assumption) | refine Keeps.ite ?_ ?_ | split | (intro a; intros; beta_reduce) | (with_reducible apply Keeps.snd; with_reducible assumption))

theorem State.rxPath_keeps {s0 s : State} {ins overrun p} (h : Keeps kq s0 s) : Keeps kq s0 (State.rxPath s ins overrun p) := by
  unfold State.rxPath
  extract_lets i ks
  clear_value i
  cases i
  · exact Keeps.upd (Keeps.foldl h (fun t x ht => State.rxNco_keeps (State.rxStream_keeps ht)))
  · exact Keeps.upd (Keeps.foldl (State.dcTick_keeps (State.gapCodes_keeps h)) (fun t x ht => State.rxNco_keeps (State.rxStream_keeps ht)))

theorem State.rxTick_keeps {s0 s : State} {ins overrun} (h : Keeps kq s0 s) : Keeps kq s0 (State.rxTick s ins overrun) := by
  unfold State.rxTick
  repeat' (first | with_reducible assumption | ((fail_if_no_progress (extract_lets +onlyGivenNames y)); (have z_ := y; guard_hyp z_ : State; clear z_); refine Keeps.cut (kq := kq) (s0 := s0) y ?_ ?_; (on_goal 1 => subst y); (on_goal 2 => (intro hy; try clear_value y))) | ((fail_if_no_progress (extract_lets +onlyGivenNames y)); clear_value y) | with_reducible apply State.rxPath_keeps | fail_if_no_progress (with_reducible apply Keeps.upd) | (with_reducible refine Keeps.foldl ?_ ?_; on_goal 2 => (intro t x ht; beta_reduce)))

theorem State.countNotReady_keeps {s0 s : State} {p} (h : Keeps kq s0 s) : Keeps kq s0 (State.countNotReady s p) := by
  unfold State.countNotReady
  repeat' (first | with_reducible assumption | with_reducible refine Keeps.ite ?_ ?_ | ((fail_if_no_progress (extract_lets +onlyGivenNames y)); (have z_ := y; guard_hyp z_ : State; clear z_); refine Keeps.cut (kq := kq) (s0 := s0) y ?_ ?_; (on_goal 1 => subst y); (on_goal 2 => (intro hy; try clear_value y))) | with_reducible apply State.addFld_keeps | with_reducible apply State.setReady_keeps | split)

theorem State.txNco_keeps {s0 s : State} {p} (h : Keeps kq s0 s) : Keeps kq s0 (State.txNco s p) := by
  unfold State.txNco
  repeat' (first | with_reducible assumption | ((fail_if_no_progress (extract_lets +onlyGivenNames y)); refine Keeps.fn y ?_; subst y; beta_reduce) | ((fail_if_no_progress (extract_lets +onlyGivenNames y)); clear_value y) | fail_if_no_progress (with_reducible apply Keeps.upd))

theorem State.settleTick_keeps {s0 s : State} {x} (h : Keeps kq s0 s) : Keeps kq s0 (State.settleTick s x) := by
  unfold State.settleTick
  repeat' (first | with_reducible assumption | with_reducible refine Keeps.ite ?_ ?_ | ((fail_if_no_progress (extract_lets +onlyGivenNames y)); (have z_ := y; guard_hyp z_ : State; clear z_); refine Keeps.cut (kq := kq) (s0 := s0) y ?_ ?_; (on_goal 1 => subst y); (on_goal 2 => (intro hy; try clear_value y))) | ((fail_if_no_progress (extract_lets +onlyGivenNames y)); refine Keeps.fn y ?_; subst y; beta_reduce) | ((fail_if_no_progress (extract_lets +onlyGivenNames y)); clear_value y) | with_reducible apply State.settleStream_keeps | fail_if_no_progress (with_reducible apply Keeps.upd) | (with_reducible refine Keeps.foldl ?_ ?_; on_goal 2 => (intro t x ht; beta_reduce)))

theorem State.shapeStream_keeps {s0 s : State} {overrun st} (h : Keeps kq s0 s) : Keeps kq s0 (State.shapeStream s overrun st) := by
  unfold State.shapeStream
  repeat' (first | with_reducible assumption | with_reducible refine Keeps.ite ?_ ?_ | ((fail_if_no_progress (extract_lets +onlyGivenNames y)); clear_value y) | with_reducible apply State.addFld_keeps | fail_if_no_progress (with_reducible apply Keeps.upd))

theorem State.txTick_keeps {s0 s : State} {over6 crc} (h : Keeps kq s0 s) : Keeps kq s0 (State.txTick s over6 crc) := by
  unfold State.txTick
  repeat' (first | with_reducible assumption | ((fail_if_no_progress (extract_lets +onlyGivenNames y)); (have z_ := y; guard_hyp z_ : State; clear z_); refine Keeps.cut (kq := kq) (s0 := s0) y ?_ ?_; (on_goal 1 => subst y); (on_goal 2 => (intro hy; try clear_value y))) | ((fail_if_no_progress (extract_lets +onlyGivenNames y)); clear_value y) | with_reducible apply State.countNotReady_keeps | with_reducible apply State.voidAirTick_keeps | with_reducible apply State.chainInput_keeps | with_reducible apply State.cfrWindow_keeps | with_reducible apply State.txNco_keeps | with_reducible apply State.chainPath_keeps | with_reducible apply State.settleTick_keeps | with_reducible apply State.shapeStream_keeps | with_reducible apply State.voidThenSettle_keeps | fail_if_no_progress (with_reducible apply Keeps.upd) | (with_reducible refine Keeps.foldl ?_ ?_; on_goal 2 => (intro t x ht; beta_reduce)))

theorem State.oxInputs_keeps {s0 s : State} {j} (h : Keeps kq s0 s) : Keeps kq s0 (State.oxInputs s j) := by
  unfold State.oxInputs
  repeat' (first | with_reducible assumption | with_reducible refine Keeps.ite ?_ ?_ | ((fail_if_no_progress (extract_lets +onlyGivenNames y)); clear_value y) | with_reducible apply State.putOxCap_keeps)

theorem State.oxSamples_keeps {s0 s : State} {j codes} (h : Keeps kq s0 s) : Keeps kq s0 (State.oxSamples s j codes) := by
  unfold State.oxSamples
  repeat' (first | with_reducible assumption | ((fail_if_no_progress (extract_lets +onlyGivenNames y)); clear_value y) | with_reducible apply State.putOxCap_keeps)

theorem State.oxTick_keeps {s0 s : State} {ins j} (h : Keeps kq s0 s) : Keeps kq s0 (State.oxTick s ins j) := by
  unfold State.oxTick
  repeat' (first | with_reducible assumption | with_reducible refine Keeps.ite ?_ ?_ | ((fail_if_no_progress (extract_lets +onlyGivenNames y)); (have z_ := y; guard_hyp z_ : State; clear z_); refine Keeps.cut (kq := kq) (s0 := s0) y ?_ ?_; (on_goal 1 => subst y); (on_goal 2 => (intro hy; try clear_value y))) | ((fail_if_no_progress (extract_lets +onlyGivenNames y)); (have z_ := y; guard_hyp z_ : State × _; clear z_); refine Keeps.cut1 (kq := kq) (s0 := s0) y ?_ ?_; (on_goal 1 => subst y); (on_goal 2 => (intro hy; try clear_value y))) | ((fail_if_no_progress (extract_lets +onlyGivenNames y)); (have z_ := y; guard_hyp z_ : _ × State; clear z_); refine Keeps.cut2 (kq := kq) (s0 := s0) y ?_ ?_; (on_goal 1 => subst y); (on_goal 2 => (intro hy; try clear_value y))) | ((fail_if_no_progress (extract_lets +onlyGivenNames y)); refine Keeps.fn y ?_; subst y; beta_reduce) | ((fail_if_no_progress (extract_lets +onlyGivenNames y)); clear_value y) | ((fail_if_no_progress (extract_lets +onlyGivenNames y)); subst y) | with_reducible apply State.oxDiscard_keeps | with_reducible apply State.oxSamples_keeps | with_reducible apply State.putOxCap_keeps | with_reducible apply Done.plain_keeps | with_reducible apply Done.bad_keeps | fail_if_no_progress (with_reducible apply Keeps.upd) | (with_reducible refine Keeps.foldl ?_ ?_; on_goal 2 => (intro t x ht; beta_reduce)) | (with_reducible refine Keeps.foldl2 ?_ ?_; on_goal 2 => (intro t x ht; beta_reduce)) | with_reducible apply KeepsO.next | fail_if_no_progress (with_reducible apply Keeps.updFree) | (with_reducible refine Keeps.foldl1 ?_ ?_; on_goal 2 => (intro t x ht; beta_reduce)) | (with_reducible apply Keeps.fst; with_reducible assumption) | refine Keeps.ite ?_ ?_ | split | (intro a; intros; beta_reduce) | (with_reducible apply Keeps.snd; with_reducible assumption))

theorem State.diverge_keeps {s0 s : State} {p reason back} (h : Keeps kq s0 s) : Keeps kq s0 (State.diverge s p reason back) := by
  unfold State.diverge
  repeat' (first | with_reducible assumption | with_reducible refine Keeps.ite ?_ ?_ | ((fail_if_no_progress (extract_lets +onlyGivenNames y)); (have z_ := y; guard_hyp z_ : State; clear z_); refine Keeps.cut (kq := kq) (s0 := s0) y ?_ ?_; (on_goal 1 => subst y); (on_goal 2 => (intro hy; try clear_value y))) | ((fail_if_no_progress (extract_lets +onlyGivenNames y)); clear_value y) | with_reducible apply State.setFld_keeps | with_reducible apply State.addFld_keeps | with_reducible apply State.raise_keeps | with_reducible apply State.armDpd_keeps | with_reducible apply State.setAdapt_keeps | with_reducible apply State.raiseFree_keeps | with_reducible apply State.putDpd_keeps)

theorem State.failEstimation_keeps {s0 s : State} {p} (h : Keeps kq s0 s) : Keeps kq s0 (State.failEstimation s p) := by
  unfold State.failEstimation
  repeat' (first | with_reducible assumption | with_reducible refine Keeps.ite ?_ ?_ | ((fail_if_no_progress (extract_lets +onlyGivenNames y)); clear_value y) | with_reducible apply State.putDpd_keeps | with_reducible apply State.diverge_keeps)

theorem execPathConfigCarriersRx_keeps {s0 s : State} {tag} (h : Keeps kq s0 s) : KeepsO kq s0 (execPathConfigCarriersRx tag s) := by
  unfold execPathConfigCarriersRx
  repeat' (first | with_reducible assumption | ((fail_if_no_progress (extract_lets +onlyGivenNames y)); clear_value y) | with_reducible apply State.performCommit_keeps | with_reducible apply State.armCmd_keeps | with_reducible apply KeepsO.next | (intro a; intros; beta_reduce))

theorem execPathConfigCarriersTx_keeps {s0 s : State} {tag} (h : Keeps kq s0 s) : KeepsO kq s0 (execPathConfigCarriersTx tag s) := by
  unfold execPathConfigCarriersTx
  repeat' (first | with_reducible assumption | ((fail_if_no_progress (extract_lets +onlyGivenNames y)); clear_value y) | with_reducible apply State.performCommit_keeps | with_reducible apply State.armLate_keeps | with_reducible apply KeepsO.next | (intro a; intros; beta_reduce))

theorem execPathSetGain_keeps {s0 s : State} {tag} (h : Keeps kq s0 s) : KeepsO kq s0 (execPathSetGain tag s) := by
  unfold execPathSetGain
  repeat' (first | with_reducible assumption | ((fail_if_no_progress (extract_lets +onlyGivenNames y)); clear_value y) | with_reducible apply State.performCommit_keeps | with_reducible apply State.armCmd_keeps | with_reducible apply KeepsO.next | (intro a; intros; beta_reduce))

theorem execPathSelectFreqEntry_keeps {s0 s : State} {tag} (h : Keeps kq s0 s) : KeepsO kq s0 (execPathSelectFreqEntry tag s) := by
  unfold execPathSelectFreqEntry
  repeat' (first | with_reducible assumption | ((fail_if_no_progress (extract_lets +onlyGivenNames y)); clear_value y) | with_reducible apply State.performCommit_keeps | with_reducible apply State.armLate_keeps | with_reducible apply KeepsO.next | (intro a; intros; beta_reduce))

theorem execPathDefineFreqEntry_keeps {s0 s : State} {tag} (h : Keeps kq s0 s) : KeepsO kq s0 (execPathDefineFreqEntry tag s) := by
  unfold execPathDefineFreqEntry
  repeat' (first | with_reducible assumption | ((fail_if_no_progress (extract_lets +onlyGivenNames y)); clear_value y) | with_reducible apply State.performCommit_keeps | with_reducible apply State.armLate_keeps | with_reducible apply KeepsO.next | (intro a; intros; beta_reduce))

theorem execPathLoadFilter_keeps {s0 s : State} {tag} (h : Keeps kq s0 s) : KeepsO kq s0 (execPathLoadFilter tag s) := by
  unfold execPathLoadFilter
  repeat' (first | with_reducible assumption | with_reducible apply State.performCommit_keeps | with_reducible apply State.armCmd_keeps | with_reducible apply KeepsO.next | (intro a; intros; beta_reduce))

theorem execPathSetPowerStep_keeps {s0 s : State} {tag} (h : Keeps kq s0 s) : KeepsO kq s0 (execPathSetPowerStep tag s) := by
  unfold execPathSetPowerStep
  repeat' (first | with_reducible assumption | ((fail_if_no_progress (extract_lets +onlyGivenNames y)); clear_value y) | with_reducible apply State.performCommit_keeps | with_reducible apply State.armLate_keeps | with_reducible apply KeepsO.next | (intro a; intros; beta_reduce))

theorem execPathLoadPowerColumn_keeps {s0 s : State} {tag} (h : Keeps kq s0 s) : KeepsO kq s0 (execPathLoadPowerColumn tag s) := by
  unfold execPathLoadPowerColumn
  repeat' (first | with_reducible assumption | ((fail_if_no_progress (extract_lets +onlyGivenNames y)); clear_value y) | with_reducible apply State.performCommit_keeps | with_reducible apply State.armLate_keeps | with_reducible apply KeepsO.next | (intro a; intros; beta_reduce))

theorem execPathRetire_keeps {s0 s : State} {tag} (h : Keeps kq s0 s) : KeepsO kq s0 (execPathRetire tag s) := by
  unfold execPathRetire
  repeat' (first | with_reducible assumption | ((fail_if_no_progress (extract_lets +onlyGivenNames y)); clear_value y) | with_reducible apply State.performCommit_keeps | with_reducible apply State.armCmd_keeps | with_reducible apply KeepsO.next | (intro a; intros; beta_reduce))

theorem execPathSetMask_keeps {s0 s : State} {tag} (h : Keeps kq s0 s) : KeepsO kq s0 (execPathSetMask tag s) := by
  unfold execPathSetMask
  repeat' (first | with_reducible assumption | ((fail_if_no_progress (extract_lets +onlyGivenNames y)); clear_value y) | with_reducible apply State.performCommit_keeps | with_reducible apply State.armCmd_keeps | with_reducible apply KeepsO.next | (intro a; intros; beta_reduce))

theorem execPathSetFrontendSchedule_keeps {s0 s : State} {tag} (h : Keeps kq s0 s) : KeepsO kq s0 (execPathSetFrontendSchedule tag s) := by
  unfold execPathSetFrontendSchedule
  repeat' (first | with_reducible assumption | ((fail_if_no_progress (extract_lets +onlyGivenNames y)); clear_value y) | with_reducible apply State.performCommit_keeps | with_reducible apply State.armLate_keeps | with_reducible apply KeepsO.next | (intro a; intros; beta_reduce))

theorem execDpdFreeze_keeps {s0 s : State} {tag} (h : Keeps kq s0 s) : KeepsO kq s0 (execDpdFreeze tag s) := by
  unfold execDpdFreeze
  repeat' (first | with_reducible assumption | ((fail_if_no_progress (extract_lets +onlyGivenNames y)); clear_value y) | with_reducible apply State.performCommit_keeps | with_reducible apply State.armCmd_keeps | with_reducible apply KeepsO.next | (intro a; intros; beta_reduce))

theorem execDpdLoadModel_keeps {s0 s : State} {tag} (h : Keeps kq s0 s) : KeepsO kq s0 (execDpdLoadModel tag s) := by
  unfold execDpdLoadModel
  repeat' (first | with_reducible assumption | with_reducible apply State.performCommit_keeps | with_reducible apply State.armCmd_keeps | with_reducible apply KeepsO.next | (intro a; intros; beta_reduce))

theorem execDpdLoadCoefficients_keeps {s0 s : State} {tag} (h : Keeps kq s0 s) : KeepsO kq s0 (execDpdLoadCoefficients tag s) := by
  unfold execDpdLoadCoefficients
  repeat' (first | with_reducible assumption | with_reducible apply State.performCommit_keeps | with_reducible apply State.armCmd_keeps | with_reducible apply KeepsO.next | (intro a; intros; beta_reduce))

theorem State.confirmCheck_keeps {s0 s : State} {c} (h : Keeps kq s0 s) : Keeps kq s0 (State.confirmCheck s c) := by
  unfold State.confirmCheck
  repeat' (first | with_reducible assumption | with_reducible refine Keeps.ite ?_ ?_ | ((fail_if_no_progress (extract_lets +onlyGivenNames y)); (have z_ := y; guard_hyp z_ : State; clear z_); refine Keeps.cut (kq := kq) (s0 := s0) y ?_ ?_; (on_goal 1 => subst y); (on_goal 2 => (intro hy; try clear_value y))) | ((fail_if_no_progress (extract_lets +onlyGivenNames y)); clear_value y) | with_reducible apply State.setFld_keeps | with_reducible apply State.putDpd_keeps | with_reducible apply State.diverge_keeps | with_reducible apply State.addFld_keeps | with_reducible apply State.setAdapt_keeps | split)

theorem State.dpdQuiet_keeps {s0 s : State} {p} (h : Keeps kq s0 s) : Keeps kq s0 (State.dpdQuiet s p) := by
  unfold State.dpdQuiet
  repeat' (first | with_reducible assumption | with_reducible refine Keeps.ite ?_ ?_ | ((fail_if_no_progress (extract_lets +onlyGivenNames y)); (have z_ := y; guard_hyp z_ : State; clear z_); refine Keeps.cut (kq := kq) (s0 := s0) y ?_ ?_; (on_goal 1 => subst y); (on_goal 2 => (intro hy; try clear_value y))) | ((fail_if_no_progress (extract_lets +onlyGivenNames y)); clear_value y) | with_reducible apply State.refreshCap_keeps | with_reducible apply State.switchSlot_keeps | with_reducible apply State.putDpd_keeps | fail_if_no_progress (with_reducible apply Keeps.upd) | split)

theorem State.dpdStart_keeps {s0 s : State} {restart p} (h : Keeps kq s0 s) : Keeps kq s0 (State.dpdStart restart s p) := by
  unfold State.dpdStart
  repeat' (first | with_reducible assumption | with_reducible refine Keeps.ite ?_ ?_ | ((fail_if_no_progress (extract_lets +onlyGivenNames y)); (have z_ := y; guard_hyp z_ : State; clear z_); refine Keeps.cut (kq := kq) (s0 := s0) y ?_ ?_; (on_goal 1 => subst y); (on_goal 2 => (intro hy; try clear_value y))) | ((fail_if_no_progress (extract_lets +onlyGivenNames y)); clear_value y) | with_reducible apply State.setAdapt_keeps | with_reducible apply State.setFld_keeps | with_reducible apply State.putDpd_keeps | split)

theorem State.estimationStart_keeps {s0 s : State} {e} (h : Keeps kq s0 s) : Keeps kq s0 (State.estimationStart s e).2 := by
  unfold State.estimationStart
  repeat' (first | with_reducible assumption | ((fail_if_no_progress (extract_lets +onlyGivenNames y)); clear_value y) | with_reducible apply State.putDpd_keeps | split)

theorem State.staleEstimates_keeps {s0 s : State} (h : Keeps kq s0 s) : Keeps kq s0 (State.staleEstimates s) := by
  unfold State.staleEstimates
  repeat' (first | with_reducible assumption | with_reducible apply State.staleEstimate_keeps | (with_reducible refine Keeps.foldl ?_ ?_; on_goal 2 => (intro t x ht; beta_reduce)))

theorem State.gainBoundary_keeps {s0 s : State} {p} (h : Keeps kq s0 s) : Keeps kq s0 (State.gainBoundary s p) := by
  unfold State.gainBoundary
  repeat' (first | with_reducible assumption | with_reducible refine Keeps.ite ?_ ?_ | ((fail_if_no_progress (extract_lets +onlyGivenNames y)); (have z_ := y; guard_hyp z_ : State; clear z_); refine Keeps.cut (kq := kq) (s0 := s0) y ?_ ?_; (on_goal 1 => subst y); (on_goal 2 => (intro hy; try clear_value y))) | ((fail_if_no_progress (extract_lets +onlyGivenNames y)); clear_value y) | with_reducible apply State.setAtten_keeps | with_reducible apply State.setAgc_keeps | with_reducible apply State.setLow_keeps | fail_if_no_progress (with_reducible apply Keeps.upd))

theorem State.guardCandidate_keeps {s0 s : State} {p c coefs predicted} (h : Keeps kq s0 s) : Keeps kq s0 (State.guardCandidate s p c coefs predicted) := by
  unfold State.guardCandidate
  repeat' (first | with_reducible assumption | with_reducible refine Keeps.ite ?_ ?_ | ((fail_if_no_progress (extract_lets +onlyGivenNames y)); (have z_ := y; guard_hyp z_ : State; clear z_); refine Keeps.cut (kq := kq) (s0 := s0) y ?_ ?_; (on_goal 1 => subst y); (on_goal 2 => (intro hy; try clear_value y))) | ((fail_if_no_progress (extract_lets +onlyGivenNames y)); clear_value y) | with_reducible apply State.setFld_keeps | with_reducible apply State.diverge_keeps | with_reducible apply State.putDpd_keeps | with_reducible apply State.armDpd_keeps | with_reducible apply State.raiseFree_keeps | with_reducible apply State.setAdapt_keeps)

theorem State.readQfeCoef_keeps {s0 s : State} {n} (h : Keeps kq s0 s) : Keeps kq s0 (State.readQfeCoef s n).2 := by
  unfold State.readQfeCoef
  repeat' (first | with_reducible assumption | ((fail_if_no_progress (extract_lets +onlyGivenNames y)); clear_value y) | with_reducible apply State.setFld_keeps)

theorem State.readQfeTxCoef_keeps {s0 s : State} {n} (h : Keeps kq s0 s) : Keeps kq s0 (State.readQfeTxCoef s n).2 := by
  unfold State.readQfeTxCoef
  repeat' (first | with_reducible assumption | ((fail_if_no_progress (extract_lets +onlyGivenNames y)); clear_value y) | with_reducible apply State.setFld_keeps)

theorem State.readMask_keeps {s0 s : State} (h : Keeps kq s0 s) : Keeps kq s0 (State.readMask s).2 := by
  unfold State.readMask
  repeat' (first | with_reducible assumption | ((fail_if_no_progress (extract_lets +onlyGivenNames y)); clear_value y) | with_reducible apply State.setFld_keeps)

theorem State.readFreq_keeps {s0 s : State} (h : Keeps kq s0 s) : Keeps kq s0 (State.readFreq s).2 := by
  unfold State.readFreq
  repeat' (first | with_reducible assumption | ((fail_if_no_progress (extract_lets +onlyGivenNames y)); clear_value y) | with_reducible apply State.setFld_keeps)

theorem State.readDpdCoef_keeps {s0 s : State} (h : Keeps kq s0 s) : Keeps kq s0 (State.readDpdCoef s).2 := by
  unfold State.readDpdCoef
  repeat' (first | with_reducible assumption | ((fail_if_no_progress (extract_lets +onlyGivenNames y)); clear_value y) | with_reducible apply State.setFld_keeps)

theorem State.readDpdTerm_keeps {s0 s : State} (h : Keeps kq s0 s) : Keeps kq s0 (State.readDpdTerm s).2 := by
  unfold State.readDpdTerm
  repeat' (first | with_reducible assumption | ((fail_if_no_progress (extract_lets +onlyGivenNames y)); clear_value y) | with_reducible apply State.setFld_keeps)

theorem State.latchPadrv_keeps {s0 s : State} {n} (h : Keeps kq s0 s) : Keeps kq s0 (State.latchPadrv s n) := by
  unfold State.latchPadrv
  repeat' (first | with_reducible assumption | ((fail_if_no_progress (extract_lets +onlyGivenNames y)); clear_value y) | fail_if_no_progress (with_reducible apply Keeps.upd))

theorem State.lateBoundary_keeps {s0 s : State} (h : Keeps kq s0 s) : Keeps kq s0 (State.lateBoundary s) := by
  unfold State.lateBoundary
  repeat' (first | with_reducible assumption | with_reducible refine Keeps.ite ?_ ?_ | ((fail_if_no_progress (extract_lets +onlyGivenNames y)); (have z_ := y; guard_hyp z_ : State; clear z_); refine Keeps.cut (kq := kq) (s0 := s0) y ?_ ?_; (on_goal 1 => subst y); (on_goal 2 => (intro hy; try clear_value y))) | ((fail_if_no_progress (extract_lets +onlyGivenNames y)); clear_value y) | with_reducible apply State.finish_keeps | fail_if_no_progress (with_reducible apply Keeps.upd) | (with_reducible refine Keeps.foldl ?_ ?_; on_goal 2 => (intro t x ht; beta_reduce)))

theorem State.maskViolation_keeps {s0 s : State} {p k edge seg excess} (h : Keeps kq s0 s) : Keeps kq s0 (State.maskViolation s p k edge seg excess) := by
  unfold State.maskViolation
  repeat' (first | with_reducible assumption | with_reducible refine Keeps.ite ?_ ?_ | ((fail_if_no_progress (extract_lets +onlyGivenNames y)); clear_value y) | with_reducible apply State.raise_keeps | with_reducible apply State.setFld_keeps | with_reducible apply State.addFld_keeps | fail_if_no_progress (with_reducible apply Keeps.upd))

theorem State.maskCheck_keeps {s0 s : State} {c} (h : Keeps kq s0 s) : Keeps kq s0 (State.maskCheck s c) := by
  unfold State.maskCheck
  repeat' (first | with_reducible assumption | ((fail_if_no_progress (extract_lets +onlyGivenNames y)); clear_value y) | with_reducible apply State.maskViolation_keeps | (with_reducible refine Keeps.foldl ?_ ?_; on_goal 2 => (intro t x ht; beta_reduce)) | split)

theorem State.padrvBoundary_keeps {s0 s : State} (h : Keeps kq s0 s) : Keeps kq s0 (State.padrvBoundary s) := by
  unfold State.padrvBoundary
  repeat' (first | with_reducible assumption | with_reducible refine Keeps.ite ?_ ?_ | ((fail_if_no_progress (extract_lets +onlyGivenNames y)); clear_value y) | with_reducible apply State.latchPadrv_keeps | fail_if_no_progress (with_reducible apply Keeps.upd) | split)

theorem State.settleEntries_keeps {s0 s : State} (h : Keeps kq s0 s) : Keeps kq s0 (State.settleEntries s) := by
  unfold State.settleEntries
  repeat' (first | with_reducible assumption | ((fail_if_no_progress (extract_lets +onlyGivenNames y)); (have z_ := y; guard_hyp z_ : State; clear z_); refine Keeps.cut (kq := kq) (s0 := s0) y ?_ ?_; (on_goal 1 => subst y); (on_goal 2 => (intro hy; try clear_value y))) | ((fail_if_no_progress (extract_lets +onlyGivenNames y)); clear_value y) | with_reducible apply State.setFld_keeps | fail_if_no_progress (with_reducible apply Keeps.upd) | (with_reducible refine Keeps.foldl ?_ ?_; on_goal 2 => (intro t x ht; beta_reduce)))

theorem State.restartQuad_keeps {s0 s : State} {n} (h : Keeps kq s0 s) : Keeps kq s0 (State.restartQuad s n) := by
  unfold State.restartQuad
  repeat' (first | with_reducible assumption | with_reducible refine Keeps.ite ?_ ?_ | ((fail_if_no_progress (extract_lets +onlyGivenNames y)); (have z_ := y; guard_hyp z_ : State; clear z_); refine Keeps.cut (kq := kq) (s0 := s0) y ?_ ?_; (on_goal 1 => subst y); (on_goal 2 => (intro hy; try clear_value y))) | ((fail_if_no_progress (extract_lets +onlyGivenNames y)); clear_value y) | with_reducible apply State.setQuad_keeps | fail_if_no_progress (with_reducible apply Keeps.upd))

theorem State.rxBoundary_keeps {s0 s : State} (h : Keeps kq s0 s) : Keeps kq s0 (State.rxBoundary s) := by
  unfold State.rxBoundary
  repeat' (first | with_reducible assumption | ((fail_if_no_progress (extract_lets +onlyGivenNames y)); (have z_ := y; guard_hyp z_ : State; clear z_); refine Keeps.cut (kq := kq) (s0 := s0) y ?_ ?_; (on_goal 1 => subst y); (on_goal 2 => (intro hy; try clear_value y))) | ((fail_if_no_progress (extract_lets +onlyGivenNames y)); clear_value y) | with_reducible apply State.restartQuad_keeps | with_reducible apply State.gainBoundary_keeps | fail_if_no_progress (with_reducible apply Keeps.upd) | (with_reducible refine Keeps.foldl ?_ ?_; on_goal 2 => (intro t x ht; beta_reduce)))

theorem State.quietSteps_keeps {s0 s : State} {p} (h : Keeps kq s0 s) : Keeps kq s0 (State.quietSteps s p) := by
  unfold State.quietSteps
  repeat' (first | with_reducible assumption | with_reducible refine Keeps.ite ?_ ?_ | ((fail_if_no_progress (extract_lets +onlyGivenNames y)); clear_value y) | with_reducible apply State.refreshPower_keeps | with_reducible apply State.setFld_keeps | fail_if_no_progress (with_reducible apply Keeps.upd))

theorem State.oxFree_keeps {s0 s : State} {j} (h : Keeps kq s0 s) : Keeps kq s0 (State.oxFree s j) := by
  unfold State.oxFree
  repeat' (first | with_reducible assumption | with_reducible refine Keeps.ite ?_ ?_ | ((fail_if_no_progress (extract_lets +onlyGivenNames y)); (have z_ := y; guard_hyp z_ : State; clear z_); refine Keeps.cut (kq := kq) (s0 := s0) y ?_ ?_; (on_goal 1 => subst y); (on_goal 2 => (intro hy; try clear_value y))) | ((fail_if_no_progress (extract_lets +onlyGivenNames y)); (have z_ := y; guard_hyp z_ : State × _; clear z_); refine Keeps.cut1 (kq := kq) (s0 := s0) y ?_ ?_; (on_goal 1 => subst y); (on_goal 2 => (intro hy; try clear_value y))) | ((fail_if_no_progress (extract_lets +onlyGivenNames y)); (have z_ := y; guard_hyp z_ : _ × State; clear z_); refine Keeps.cut2 (kq := kq) (s0 := s0) y ?_ ?_; (on_goal 1 => subst y); (on_goal 2 => (intro hy; try clear_value y))) | ((fail_if_no_progress (extract_lets +onlyGivenNames y)); refine Keeps.fn y ?_; subst y; beta_reduce) | ((fail_if_no_progress (extract_lets +onlyGivenNames y)); clear_value y) | ((fail_if_no_progress (extract_lets +onlyGivenNames y)); subst y) | with_reducible apply State.setOx_keeps | with_reducible apply Done.plain_keeps | with_reducible apply Done.bad_keeps | fail_if_no_progress (with_reducible apply Keeps.upd) | (with_reducible refine Keeps.foldl ?_ ?_; on_goal 2 => (intro t x ht; beta_reduce)) | (with_reducible refine Keeps.foldl2 ?_ ?_; on_goal 2 => (intro t x ht; beta_reduce)) | with_reducible apply KeepsO.next | fail_if_no_progress (with_reducible apply Keeps.updFree) | (with_reducible refine Keeps.foldl1 ?_ ?_; on_goal 2 => (intro t x ht; beta_reduce)) | (with_reducible apply Keeps.fst; with_reducible assumption) | refine Keeps.ite ?_ ?_ | split | (intro a; intros; beta_reduce) | (with_reducible apply Keeps.snd; with_reducible assumption))

theorem State.oxStart_keeps {s0 s : State} {j} (h : Keeps kq s0 s) : Keeps kq s0 (State.oxStart s j) := by
  unfold State.oxStart
  repeat' (first | with_reducible assumption | ((fail_if_no_progress (extract_lets +onlyGivenNames y)); (have z_ := y; guard_hyp z_ : State; clear z_); refine Keeps.cut (kq := kq) (s0 := s0) y ?_ ?_; (on_goal 1 => subst y); (on_goal 2 => (intro hy; try clear_value y))) | ((fail_if_no_progress (extract_lets +onlyGivenNames y)); clear_value y) | with_reducible apply State.putOxCap_keeps | with_reducible apply State.setOx_keeps | fail_if_no_progress (with_reducible apply Keeps.upd))

theorem State.oxBoundary_keeps {s0 s : State} {j} (h : Keeps kq s0 s) : Keeps kq s0 (State.oxBoundary s j) := by
  unfold State.oxBoundary
  repeat' (first | with_reducible assumption | with_reducible refine Keeps.ite ?_ ?_ | ((fail_if_no_progress (extract_lets +onlyGivenNames y)); (have z_ := y; guard_hyp z_ : State; clear z_); refine Keeps.cut (kq := kq) (s0 := s0) y ?_ ?_; (on_goal 1 => subst y); (on_goal 2 => (intro hy; try clear_value y))) | ((fail_if_no_progress (extract_lets +onlyGivenNames y)); (have z_ := y; guard_hyp z_ : State × _; clear z_); refine Keeps.cut1 (kq := kq) (s0 := s0) y ?_ ?_; (on_goal 1 => subst y); (on_goal 2 => (intro hy; try clear_value y))) | ((fail_if_no_progress (extract_lets +onlyGivenNames y)); (have z_ := y; guard_hyp z_ : _ × State; clear z_); refine Keeps.cut2 (kq := kq) (s0 := s0) y ?_ ?_; (on_goal 1 => subst y); (on_goal 2 => (intro hy; try clear_value y))) | ((fail_if_no_progress (extract_lets +onlyGivenNames y)); refine Keeps.fn y ?_; subst y; beta_reduce) | ((fail_if_no_progress (extract_lets +onlyGivenNames y)); clear_value y) | ((fail_if_no_progress (extract_lets +onlyGivenNames y)); subst y) | with_reducible apply State.oxFree_keeps | with_reducible apply State.oxStart_keeps | with_reducible apply State.setCapAt_keeps | with_reducible apply State.setOx_keeps | with_reducible apply State.setFld_keeps | with_reducible apply Done.plain_keeps | with_reducible apply Done.bad_keeps | fail_if_no_progress (with_reducible apply Keeps.upd) | (with_reducible refine Keeps.foldl ?_ ?_; on_goal 2 => (intro t x ht; beta_reduce)) | (with_reducible refine Keeps.foldl2 ?_ ?_; on_goal 2 => (intro t x ht; beta_reduce)) | with_reducible apply KeepsO.next | fail_if_no_progress (with_reducible apply Keeps.updFree) | (with_reducible refine Keeps.foldl1 ?_ ?_; on_goal 2 => (intro t x ht; beta_reduce)) | (with_reducible apply Keeps.fst; with_reducible assumption) | refine Keeps.ite ?_ ?_ | split | (intro a; intros; beta_reduce) | (with_reducible apply Keeps.snd; with_reducible assumption))

theorem State.oxSpoiled_keeps {s0 s : State} {old} (h : Keeps kq s0 s) : Keeps kq s0 (State.oxSpoiled s old) := by
  unfold State.oxSpoiled
  repeat' (first | with_reducible assumption | with_reducible refine Keeps.ite ?_ ?_ | with_reducible apply State.oxDiscard_keeps | (with_reducible refine Keeps.foldl ?_ ?_; on_goal 2 => (intro t x ht; beta_reduce)))

theorem State.padrvLate_keeps {s0 s : State} (h : Keeps kq s0 s) : Keeps kq s0 (State.padrvLate s) := by
  unfold State.padrvLate
  repeat' (first | with_reducible assumption | with_reducible refine Keeps.ite ?_ ?_ | ((fail_if_no_progress (extract_lets +onlyGivenNames y)); (have z_ := y; guard_hyp z_ : State; clear z_); refine Keeps.cut (kq := kq) (s0 := s0) y ?_ ?_; (on_goal 1 => subst y); (on_goal 2 => (intro hy; try clear_value y))) | ((fail_if_no_progress (extract_lets +onlyGivenNames y)); clear_value y) | with_reducible apply State.latchPadrv_keeps | with_reducible apply State.raise_keeps | with_reducible apply State.addFld_keeps | (with_reducible refine Keeps.foldl ?_ ?_; on_goal 2 => (intro t x ht; beta_reduce)) | split)

theorem State.powerCheck_keeps {s0 s : State} {c} (h : Keeps kq s0 s) : Keeps kq s0 (State.powerCheck s c) := by
  unfold State.powerCheck
  repeat' (first | with_reducible assumption | with_reducible refine Keeps.ite ?_ ?_ | ((fail_if_no_progress (extract_lets +onlyGivenNames y)); (have z_ := y; guard_hyp z_ : State; clear z_); refine Keeps.cut (kq := kq) (s0 := s0) y ?_ ?_; (on_goal 1 => subst y); (on_goal 2 => (intro hy; try clear_value y))) | with_reducible apply State.raise_keeps | with_reducible apply State.setFld_keeps | with_reducible apply State.addFld_keeps)

theorem State.showCfr_keeps {s0 s : State} {p r} (h : Keeps kq s0 s) : Keeps kq s0 (State.showCfr s p r) := by
  unfold State.showCfr
  repeat' (first | with_reducible assumption | with_reducible refine Keeps.ite ?_ ?_ | ((fail_if_no_progress (extract_lets +onlyGivenNames y)); clear_value y) | with_reducible apply State.setFld_keeps | with_reducible apply State.raise_keeps | (with_reducible refine Keeps.foldl ?_ ?_; on_goal 2 => (intro t x ht; beta_reduce)))

theorem State.useCapture_keeps {s0 s : State} {c} (h : Keeps kq s0 s) : Keeps kq s0 (State.useCapture s c) := by
  unfold State.useCapture
  repeat' (first | with_reducible assumption | with_reducible refine Keeps.ite ?_ ?_ | ((fail_if_no_progress (extract_lets +onlyGivenNames y)); (have z_ := y; guard_hyp z_ : State; clear z_); refine Keeps.cut (kq := kq) (s0 := s0) y ?_ ?_; (on_goal 1 => subst y); (on_goal 2 => (intro hy; try clear_value y))) | ((fail_if_no_progress (extract_lets +onlyGivenNames y)); (have z_ := y; guard_hyp z_ : State × _; clear z_); refine Keeps.cut1 (kq := kq) (s0 := s0) y ?_ ?_; (on_goal 1 => subst y); (on_goal 2 => (intro hy; try clear_value y))) | ((fail_if_no_progress (extract_lets +onlyGivenNames y)); (have z_ := y; guard_hyp z_ : _ × State; clear z_); refine Keeps.cut2 (kq := kq) (s0 := s0) y ?_ ?_; (on_goal 1 => subst y); (on_goal 2 => (intro hy; try clear_value y))) | ((fail_if_no_progress (extract_lets +onlyGivenNames y)); refine Keeps.fn y ?_; subst y; beta_reduce) | ((fail_if_no_progress (extract_lets +onlyGivenNames y)); clear_value y) | ((fail_if_no_progress (extract_lets +onlyGivenNames y)); subst y) | with_reducible apply State.maskCheck_keeps | with_reducible apply State.powerCheck_keeps | with_reducible apply State.addFld_keeps | with_reducible apply State.putDpd_keeps | with_reducible apply State.confirmCheck_keeps | with_reducible apply Done.plain_keeps | with_reducible apply Done.bad_keeps | fail_if_no_progress (with_reducible apply Keeps.upd) | (with_reducible refine Keeps.foldl ?_ ?_; on_goal 2 => (intro t x ht; beta_reduce)) | (with_reducible refine Keeps.foldl2 ?_ ?_; on_goal 2 => (intro t x ht; beta_reduce)) | with_reducible apply KeepsO.next | fail_if_no_progress (with_reducible apply Keeps.updFree) | (with_reducible refine Keeps.foldl1 ?_ ?_; on_goal 2 => (intro t x ht; beta_reduce)) | (with_reducible apply Keeps.fst; with_reducible assumption) | refine Keeps.ite ?_ ?_ | split | (intro a; intros; beta_reduce) | (with_reducible apply Keeps.snd; with_reducible assumption))

theorem execCfrWindowReport_keeps {s0 s : State} {p _evm _papr _misses} (h : Keeps kq s0 s) : KeepsO kq s0 (execCfrWindowReport p _evm _papr _misses s) := by
  unfold execCfrWindowReport
  repeat' (first | with_reducible assumption | ((fail_if_no_progress (extract_lets +onlyGivenNames y)); clear_value y) | with_reducible apply State.showCfr_keeps | with_reducible apply State.putCfr_keeps | with_reducible apply KeepsO.next | split)

theorem execDpdGetStatus_keeps {s0 s : State} {tag} (h : Keeps kq s0 s) : KeepsO kq s0 (execDpdGetStatus tag s) := by
  unfold execDpdGetStatus
  repeat' (first | with_reducible assumption | with_reducible apply State.performStart_keeps | with_reducible apply State.finishNow_keeps | with_reducible apply KeepsO.next | (intro a; intros; beta_reduce))

theorem execDpdStart_keeps {s0 s : State} {tag} (h : Keeps kq s0 s) : KeepsO kq s0 (execDpdStart tag s) := by
  unfold execDpdStart
  repeat' (first | with_reducible assumption | with_reducible apply State.performStart_keeps | with_reducible apply State.finishPart_keeps | with_reducible apply State.dpdStart_keeps | (with_reducible refine Keeps.foldl ?_ ?_; on_goal 2 => (intro t x ht; beta_reduce)) | with_reducible apply KeepsO.next | (intro a; intros; beta_reduce))

theorem execGainLoopGapTickEnd_keeps {s0 s : State} {p peak} (h : Keeps kq s0 s) : KeepsO kq s0 (execGainLoopGapTickEnd p peak s) := by
  unfold execGainLoopGapTickEnd
  repeat' (first | with_reducible assumption | with_reducible refine Keeps.ite ?_ ?_ | with_reducible refine KeepsO.ite ?_ ?_ | ((fail_if_no_progress (extract_lets +onlyGivenNames y)); (have z_ := y; guard_hyp z_ : State; clear z_); refine Keeps.cut (kq := kq) (s0 := s0) y ?_ ?_; (on_goal 1 => subst y); (on_goal 2 => (intro hy; try clear_value y))) | ((fail_if_no_progress (extract_lets +onlyGivenNames y)); (have z_ := y; guard_hyp z_ : State × _; clear z_); refine Keeps.cut1 (kq := kq) (s0 := s0) y ?_ ?_; (on_goal 1 => subst y); (on_goal 2 => (intro hy; try clear_value y))) | ((fail_if_no_progress (extract_lets +onlyGivenNames y)); (have z_ := y; guard_hyp z_ : _ × State; clear z_); refine Keeps.cut2 (kq := kq) (s0 := s0) y ?_ ?_; (on_goal 1 => subst y); (on_goal 2 => (intro hy; try clear_value y))) | ((fail_if_no_progress (extract_lets +onlyGivenNames y)); refine Keeps.fn y ?_; subst y; beta_reduce) | ((fail_if_no_progress (extract_lets +onlyGivenNames y)); clear_value y) | ((fail_if_no_progress (extract_lets +onlyGivenNames y)); subst y) | with_reducible apply State.gapTickEnd_keeps | with_reducible apply Done.plain_keeps | with_reducible apply Done.bad_keeps | fail_if_no_progress (with_reducible apply Keeps.upd) | (with_reducible refine Keeps.foldl ?_ ?_; on_goal 2 => (intro t x ht; beta_reduce)) | (with_reducible refine Keeps.foldl2 ?_ ?_; on_goal 2 => (intro t x ht; beta_reduce)) | with_reducible apply KeepsO.next | fail_if_no_progress (with_reducible apply Keeps.updFree) | (with_reducible refine Keeps.foldl1 ?_ ?_; on_goal 2 => (intro t x ht; beta_reduce)) | (with_reducible apply Keeps.fst; with_reducible assumption) | refine Keeps.ite ?_ ?_ | split | (intro a; intros; beta_reduce) | (with_reducible apply Keeps.snd; with_reducible assumption))

theorem execObsCaptureEnd_keeps {s0 s : State} {j _power _observed _papr _ovr} (h : Keeps kq s0 s) : KeepsO kq s0 (execObsCaptureEnd j _power _observed _papr _ovr s) := by
  unfold execObsCaptureEnd
  repeat' (first | with_reducible assumption | with_reducible refine KeepsO.ite ?_ ?_ | ((fail_if_no_progress (extract_lets +onlyGivenNames y)); (have z_ := y; guard_hyp z_ : State; clear z_); refine Keeps.cut (kq := kq) (s0 := s0) y ?_ ?_; (on_goal 1 => subst y); (on_goal 2 => (intro hy; try clear_value y))) | ((fail_if_no_progress (extract_lets +onlyGivenNames y)); clear_value y) | with_reducible apply State.setOx_keeps | fail_if_no_progress (with_reducible apply Keeps.upd) | with_reducible apply KeepsO.next)

theorem execObsCaptureStart_keeps {s0 s : State} {j} (h : Keeps kq s0 s) : KeepsO kq s0 (execObsCaptureStart j s) := by
  unfold execObsCaptureStart
  repeat' (first | with_reducible assumption | with_reducible refine Keeps.ite ?_ ?_ | with_reducible apply State.oxStart_keeps | with_reducible apply KeepsO.next)

theorem execPadrvDeferredLatch_keeps {s0 s : State} (h : Keeps kq s0 s) : KeepsO kq s0 (execPadrvDeferredLatch s) := by
  unfold execPadrvDeferredLatch
  repeat' (first | with_reducible assumption | with_reducible apply State.padrvLate_keeps | with_reducible apply KeepsO.next)

end Sys2Proof.Machine
end

