-- ==== Sys2Proof/Laws/KeepsBeams.lean ====
section
/-!
SUPPORT. Sys2Proof/Laws/KeepsBeams.lean: what every state function leaves of the model's bookkeeping (`Keeps`): beamforming, random access and the fronthaul.
-/
set_option linter.unusedTactic false
set_option linter.tactic.unusedName false
set_option linter.unreachableTactic false
set_option linter.unusedVariables false
namespace Sys2Proof.Machine

variable {kq : Bool}

theorem State.dropEgress_keeps {s0 s : State} {k} (h : Keeps kq s0 s) : Keeps kq s0 (State.dropEgress s k) := by
  unfold State.dropEgress
  repeat' (first | with_reducible assumption | ((fail_if_no_progress (extract_lets +onlyGivenNames y)); clear_value y) | with_reducible apply State.addFld_keeps | fail_if_no_progress (with_reducible apply Keeps.upd))

theorem State.setPort_keeps {s0 s : State} {k x} (h : Keeps kq s0 s) : Keeps kq s0 (State.setPort s k x) := by
  unfold State.setPort
  repeat' (first | with_reducible assumption | with_reducible apply State.setFld_keeps)

theorem State.retirePort_keeps {s0 s : State} {k} (h : Keeps kq s0 s) : Keeps kq s0 (State.retirePort s k) := by
  unfold State.retirePort
  repeat' (first | with_reducible assumption | with_reducible refine Keeps.ite ?_ ?_ | ((fail_if_no_progress (extract_lets +onlyGivenNames y)); (have z_ := y; guard_hyp z_ : State; clear z_); refine Keeps.cut (kq := kq) (s0 := s0) y ?_ ?_; (on_goal 1 => subst y); (on_goal 2 => (intro hy; try clear_value y))) | ((fail_if_no_progress (extract_lets +onlyGivenNames y)); (have z_ := y; guard_hyp z_ : State × _; clear z_); refine Keeps.cut1 (kq := kq) (s0 := s0) y ?_ ?_; (on_goal 1 => subst y); (on_goal 2 => (intro hy; try clear_value y))) | ((fail_if_no_progress (extract_lets +onlyGivenNames y)); (have z_ := y; guard_hyp z_ : _ × State; clear z_); refine Keeps.cut2 (kq := kq) (s0 := s0) y ?_ ?_; (on_goal 1 => subst y); (on_goal 2 => (intro hy; try clear_value y))) | ((fail_if_no_progress (extract_lets +onlyGivenNames y)); refine Keeps.fn y ?_; subst y; beta_reduce) | ((fail_if_no_progress (extract_lets +onlyGivenNames y)); clear_value y) | ((fail_if_no_progress (extract_lets +onlyGivenNames y)); subst y) | with_reducible apply State.dropEgress_keeps | with_reducible apply State.setFld_keeps | with_reducible apply State.setPort_keeps | with_reducible apply Done.plain_keeps | with_reducible apply Done.bad_keeps | fail_if_no_progress (with_reducible apply Keeps.upd) | (with_reducible refine Keeps.foldl ?_ ?_; on_goal 2 => (intro t x ht; beta_reduce)) | (with_reducible refine Keeps.foldl2 ?_ ?_; on_goal 2 => (intro t x ht; beta_reduce)) | with_reducible apply KeepsO.next | fail_if_no_progress (with_reducible apply Keeps.updFree) | (with_reducible refine Keeps.foldl1 ?_ ?_; on_goal 2 => (intro t x ht; beta_reduce)) | (with_reducible apply Keeps.fst; with_reducible assumption) | refine Keeps.ite ?_ ?_ | split | (intro a; intros; beta_reduce) | (with_reducible apply Keeps.snd; with_reducible assumption))

theorem State.refreshExcl_keeps {s0 s : State} (h : Keeps kq s0 s) : Keeps kq s0 (State.refreshExcl s) := by
  unfold State.refreshExcl
  repeat' (first | with_reducible assumption | with_reducible apply State.refreshBfLoad_keeps | with_reducible apply State.setFld_keeps | (with_reducible refine Keeps.foldl ?_ ?_; on_goal 2 => (intro t x ht; beta_reduce)))

theorem State.portDown_keeps {s0 s : State} {k} (h : Keeps kq s0 s) : Keeps kq s0 (State.portDown s k) := by
  unfold State.portDown
  repeat' (first | with_reducible assumption | with_reducible refine Keeps.ite ?_ ?_ | ((fail_if_no_progress (extract_lets +onlyGivenNames y)); (have z_ := y; guard_hyp z_ : State; clear z_); refine Keeps.cut (kq := kq) (s0 := s0) y ?_ ?_; (on_goal 1 => subst y); (on_goal 2 => (intro hy; try clear_value y))) | with_reducible apply State.setFld_keeps | with_reducible apply State.setPort_keeps | with_reducible apply State.raiseFree_keeps | with_reducible apply State.dropEgress_keeps)

theorem State.portsSafe_keeps {s0 s : State} (h : Keeps kq s0 s) : Keeps kq s0 (State.portsSafe s) := by
  unfold State.portsSafe
  repeat' (first | with_reducible assumption | with_reducible refine Keeps.ite ?_ ?_ | with_reducible apply State.dropEgress_keeps | with_reducible apply State.setFld_keeps | with_reducible apply State.setPort_keeps | (with_reducible refine Keeps.foldl ?_ ?_; on_goal 2 => (intro t x ht; beta_reduce)))

theorem State.airQuality_keeps {s0 s : State} (h : Keeps kq s0 s) : Keeps kq s0 (State.airQuality s) := by
  unfold State.airQuality
  repeat' (first | with_reducible assumption | with_reducible refine Keeps.ite ?_ ?_ | ((fail_if_no_progress (extract_lets +onlyGivenNames y)); refine Keeps.fn y ?_; subst y; beta_reduce) | ((fail_if_no_progress (extract_lets +onlyGivenNames y)); clear_value y) | fail_if_no_progress (with_reducible apply Keeps.upd) | (with_reducible refine Keeps.foldl ?_ ?_; on_goal 2 => (intro t x ht; beta_reduce)))

theorem State.alignPort_keeps {s0 s : State} {k tag} (h : Keeps kq s0 s) : Keeps kq s0 (State.alignPort s k tag) := by
  unfold State.alignPort
  repeat' (first | with_reducible assumption | ((fail_if_no_progress (extract_lets +onlyGivenNames y)); (have z_ := y; guard_hyp z_ : State; clear z_); refine Keeps.cut (kq := kq) (s0 := s0) y ?_ ?_; (on_goal 1 => subst y); (on_goal 2 => (intro hy; try clear_value y))) | ((fail_if_no_progress (extract_lets +onlyGivenNames y)); clear_value y) | with_reducible apply State.setPort_keeps | fail_if_no_progress (with_reducible apply Keeps.upd))

theorem State.queuePtp_keeps {s0 s : State} {j mtype bs since} (h : Keeps kq s0 s) : Keeps kq s0 (State.queuePtp s j mtype bs since) := by
  unfold State.queuePtp
  repeat' (first | with_reducible assumption | with_reducible refine Keeps.ite ?_ ?_ | ((fail_if_no_progress (extract_lets +onlyGivenNames y)); (have z_ := y; guard_hyp z_ : State; clear z_); refine Keeps.cut (kq := kq) (s0 := s0) y ?_ ?_; (on_goal 1 => subst y); (on_goal 2 => (intro hy; try clear_value y))) | ((fail_if_no_progress (extract_lets +onlyGivenNames y)); (have z_ := y; guard_hyp z_ : State × _; clear z_); refine Keeps.cut1 (kq := kq) (s0 := s0) y ?_ ?_; (on_goal 1 => subst y); (on_goal 2 => (intro hy; try clear_value y))) | ((fail_if_no_progress (extract_lets +onlyGivenNames y)); (have z_ := y; guard_hyp z_ : _ × State; clear z_); refine Keeps.cut2 (kq := kq) (s0 := s0) y ?_ ?_; (on_goal 1 => subst y); (on_goal 2 => (intro hy; try clear_value y))) | ((fail_if_no_progress (extract_lets +onlyGivenNames y)); refine Keeps.fn y ?_; subst y; beta_reduce) | ((fail_if_no_progress (extract_lets +onlyGivenNames y)); clear_value y) | ((fail_if_no_progress (extract_lets +onlyGivenNames y)); subst y) | with_reducible apply Done.plain_keeps | with_reducible apply Done.bad_keeps | fail_if_no_progress (with_reducible apply Keeps.upd) | (with_reducible refine Keeps.foldl ?_ ?_; on_goal 2 => (intro t x ht; beta_reduce)) | (with_reducible refine Keeps.foldl2 ?_ ?_; on_goal 2 => (intro t x ht; beta_reduce)) | with_reducible apply KeepsO.next | fail_if_no_progress (with_reducible apply Keeps.updFree) | (with_reducible refine Keeps.foldl1 ?_ ?_; on_goal 2 => (intro t x ht; beta_reduce)) | (with_reducible apply Keeps.fst; with_reducible assumption) | refine Keeps.ite ?_ ?_ | split | (intro a; intros; beta_reduce) | (with_reducible apply Keeps.snd; with_reducible assumption))

theorem State.sendPtp_keeps {s0 s : State} {port mtype bs stamp} (h : Keeps kq s0 s) : Keeps kq s0 (State.sendPtp s port mtype bs stamp) := by
  unfold State.sendPtp
  repeat' (first | with_reducible assumption | with_reducible refine Keeps.ite ?_ ?_ | ((fail_if_no_progress (extract_lets +onlyGivenNames y)); (have z_ := y; guard_hyp z_ : State; clear z_); refine Keeps.cut (kq := kq) (s0 := s0) y ?_ ?_; (on_goal 1 => subst y); (on_goal 2 => (intro hy; try clear_value y))) | ((fail_if_no_progress (extract_lets +onlyGivenNames y)); (have z_ := y; guard_hyp z_ : State × _; clear z_); refine Keeps.cut1 (kq := kq) (s0 := s0) y ?_ ?_; (on_goal 1 => subst y); (on_goal 2 => (intro hy; try clear_value y))) | ((fail_if_no_progress (extract_lets +onlyGivenNames y)); (have z_ := y; guard_hyp z_ : _ × State; clear z_); refine Keeps.cut2 (kq := kq) (s0 := s0) y ?_ ?_; (on_goal 1 => subst y); (on_goal 2 => (intro hy; try clear_value y))) | ((fail_if_no_progress (extract_lets +onlyGivenNames y)); refine Keeps.fn y ?_; subst y; beta_reduce) | ((fail_if_no_progress (extract_lets +onlyGivenNames y)); clear_value y) | ((fail_if_no_progress (extract_lets +onlyGivenNames y)); subst y) | with_reducible apply State.addFld_keeps | with_reducible apply State.emit_keeps | with_reducible apply State.queuePtp_keeps | with_reducible apply Done.plain_keeps | with_reducible apply Done.bad_keeps | fail_if_no_progress (with_reducible apply Keeps.upd) | (with_reducible refine Keeps.foldl ?_ ?_; on_goal 2 => (intro t x ht; beta_reduce)) | (with_reducible refine Keeps.foldl2 ?_ ?_; on_goal 2 => (intro t x ht; beta_reduce)) | with_reducible apply KeepsO.next | fail_if_no_progress (with_reducible apply Keeps.updFree) | (with_reducible refine Keeps.foldl1 ?_ ?_; on_goal 2 => (intro t x ht; beta_reduce)) | (with_reducible apply Keeps.fst; with_reducible assumption) | refine Keeps.ite ?_ ?_ | split | (intro a; intros; beta_reduce) | (with_reducible apply Keeps.snd; with_reducible assumption))

theorem State.answerDelay_keeps {s0 s : State} {k mtype bs stamp} (h : Keeps kq s0 s) : Keeps kq s0 (State.answerDelay s k mtype bs stamp) := by
  unfold State.answerDelay
  repeat' (first | with_reducible assumption | with_reducible refine Keeps.ite ?_ ?_ | with_reducible apply State.sendPtp_keeps | with_reducible apply Done.plain_keeps)

theorem State.carrierCommit_keeps {s0 s : State} {old dl k} (h : Keeps kq s0 s) : Keeps kq s0 (State.carrierCommit s old dl k) := by
  unfold State.carrierCommit
  repeat' (first | with_reducible assumption | with_reducible refine Keeps.ite ?_ ?_ | with_reducible apply State.setFld_keeps | with_reducible apply State.raise_keeps)

theorem State.gatherAnew_keeps {s0 s : State} {old k} (h : Keeps kq s0 s) : Keeps kq s0 (State.gatherAnew s old k) := by
  unfold State.gatherAnew
  repeat' (first | with_reducible assumption | with_reducible refine Keeps.ite ?_ ?_ | ((fail_if_no_progress (extract_lets +onlyGivenNames y)); clear_value y) | with_reducible apply State.addFld_keeps | fail_if_no_progress (with_reducible apply Keeps.upd))

theorem State.bfCommit_keeps {s0 s : State} {old} (h : Keeps kq s0 s) : Keeps kq s0 (State.bfCommit s old) := by
  unfold State.bfCommit
  repeat' (first | with_reducible assumption | with_reducible refine Keeps.ite ?_ ?_ | with_reducible apply State.carrierCommit_keeps | with_reducible apply State.gatherAnew_keeps | with_reducible apply State.setFld_keeps | with_reducible apply State.refreshFhLoad_keeps | with_reducible apply State.refreshBfLoad_keeps | with_reducible apply State.raiseFree_keeps | (with_reducible refine Keeps.foldl ?_ ?_; on_goal 2 => (intro t x ht; beta_reduce)))

theorem State.praCommit_keeps {s0 s : State} (h : Keeps kq s0 s) : Keeps kq s0 (State.praCommit s) := by
  unfold State.praCommit
  repeat' (first | with_reducible assumption | ((fail_if_no_progress (extract_lets +onlyGivenNames y)); (have z_ := y; guard_hyp z_ : State; clear z_); refine Keeps.cut (kq := kq) (s0 := s0) y ?_ ?_; (on_goal 1 => subst y); (on_goal 2 => (intro hy; try clear_value y))) | with_reducible apply State.setFld_keeps)

theorem State.badSection_keeps {s0 s : State} (h : Keeps kq s0 s) : Keeps kq s0 (State.badSection s) := by
  unfold State.badSection
  repeat' (first | with_reducible assumption | with_reducible apply State.addFld_keeps)

theorem State.namedGen_keeps {s0 s : State} {v} (h : Keeps kq s0 s) : Keeps kq s0 (State.namedGen s v) := by
  unfold State.namedGen
  repeat' (first | with_reducible assumption | with_reducible refine Keeps.ite ?_ ?_ | ((fail_if_no_progress (extract_lets +onlyGivenNames y)); (have z_ := y; guard_hyp z_ : State; clear z_); refine Keeps.cut (kq := kq) (s0 := s0) y ?_ ?_; (on_goal 1 => subst y); (on_goal 2 => (intro hy; try clear_value y))) | ((fail_if_no_progress (extract_lets +onlyGivenNames y)); (have z_ := y; guard_hyp z_ : State × _; clear z_); refine Keeps.cut1 (kq := kq) (s0 := s0) y ?_ ?_; (on_goal 1 => subst y); (on_goal 2 => (intro hy; try clear_value y))) | ((fail_if_no_progress (extract_lets +onlyGivenNames y)); (have z_ := y; guard_hyp z_ : _ × State; clear z_); refine Keeps.cut2 (kq := kq) (s0 := s0) y ?_ ?_; (on_goal 1 => subst y); (on_goal 2 => (intro hy; try clear_value y))) | ((fail_if_no_progress (extract_lets +onlyGivenNames y)); refine Keeps.fn y ?_; subst y; beta_reduce) | ((fail_if_no_progress (extract_lets +onlyGivenNames y)); clear_value y) | ((fail_if_no_progress (extract_lets +onlyGivenNames y)); subst y) | with_reducible apply State.setFld_keeps | with_reducible apply Done.plain_keeps | with_reducible apply Done.bad_keeps | fail_if_no_progress (with_reducible apply Keeps.upd) | (with_reducible refine Keeps.foldl ?_ ?_; on_goal 2 => (intro t x ht; beta_reduce)) | (with_reducible refine Keeps.foldl2 ?_ ?_; on_goal 2 => (intro t x ht; beta_reduce)) | with_reducible apply KeepsO.next | fail_if_no_progress (with_reducible apply Keeps.updFree) | (with_reducible refine Keeps.foldl1 ?_ ?_; on_goal 2 => (intro t x ht; beta_reduce)) | (with_reducible apply Keeps.fst; with_reducible assumption) | refine Keeps.ite ?_ ?_ | split | (intro a; intros; beta_reduce) | (with_reducible apply Keeps.snd; with_reducible assumption))

theorem State.putStaged_keeps {s0 s : State} {dl b gs} (h : Keeps kq s0 s) : Keeps kq s0 (State.putStaged s dl b gs) := by
  unfold State.putStaged
  repeat' (first | with_reducible assumption | with_reducible refine Keeps.ite ?_ ?_ | ((fail_if_no_progress (extract_lets +onlyGivenNames y)); clear_value y) | fail_if_no_progress (with_reducible apply Keeps.upd))

theorem State.stageUnit_keeps {s0 s : State} {dl k b secs} (h : Keeps kq s0 s) : Keeps kq s0 (State.stageUnit s dl k b secs) := by
  unfold State.stageUnit
  repeat' (first | with_reducible assumption | with_reducible refine Keeps.ite ?_ ?_ | ((fail_if_no_progress (extract_lets +onlyGivenNames y)); (have z_ := y; guard_hyp z_ : State; clear z_); refine Keeps.cut (kq := kq) (s0 := s0) y ?_ ?_; (on_goal 1 => subst y); (on_goal 2 => (intro hy; try clear_value y))) | ((fail_if_no_progress (extract_lets +onlyGivenNames y)); clear_value y) | with_reducible apply State.raiseFree_keeps | with_reducible apply State.addFld_keeps | with_reducible apply State.putStaged_keeps)

theorem State.stageFrom_keeps {s0 s : State} {secs} (h : Keeps kq s0 s) : Keeps kq s0 (State.stageFrom s secs) := by
  unfold State.stageFrom
  repeat' (first | with_reducible assumption | with_reducible refine Keeps.ite ?_ ?_ | ((fail_if_no_progress (extract_lets +onlyGivenNames y)); (have z_ := y; guard_hyp z_ : State; clear z_); refine Keeps.cut (kq := kq) (s0 := s0) y ?_ ?_; (on_goal 1 => subst y); (on_goal 2 => (intro hy; try clear_value y))) | ((fail_if_no_progress (extract_lets +onlyGivenNames y)); clear_value y) | with_reducible apply State.raiseFree_keeps | with_reducible apply State.addFld_keeps | with_reducible apply State.stageUnit_keeps | fail_if_no_progress (with_reducible apply Keeps.upd) | (with_reducible refine Keeps.foldl ?_ ?_; on_goal 2 => (intro t x ht; beta_reduce)) | split)

theorem State.memberApply_keeps {s0 s : State} {n} (h : Keeps kq s0 s) : Keeps kq s0 (State.memberApply s n) := by
  unfold State.memberApply
  repeat' (first | with_reducible assumption | with_reducible refine Keeps.ite ?_ ?_ | ((fail_if_no_progress (extract_lets +onlyGivenNames y)); (have z_ := y; guard_hyp z_ : State; clear z_); refine Keeps.cut (kq := kq) (s0 := s0) y ?_ ?_; (on_goal 1 => subst y); (on_goal 2 => (intro hy; try clear_value y))) | ((fail_if_no_progress (extract_lets +onlyGivenNames y)); (have z_ := y; guard_hyp z_ : State × _; clear z_); refine Keeps.cut1 (kq := kq) (s0 := s0) y ?_ ?_; (on_goal 1 => subst y); (on_goal 2 => (intro hy; try clear_value y))) | ((fail_if_no_progress (extract_lets +onlyGivenNames y)); (have z_ := y; guard_hyp z_ : _ × State; clear z_); refine Keeps.cut2 (kq := kq) (s0 := s0) y ?_ ?_; (on_goal 1 => subst y); (on_goal 2 => (intro hy; try clear_value y))) | ((fail_if_no_progress (extract_lets +onlyGivenNames y)); refine Keeps.fn y ?_; subst y; beta_reduce) | ((fail_if_no_progress (extract_lets +onlyGivenNames y)); clear_value y) | ((fail_if_no_progress (extract_lets +onlyGivenNames y)); subst y) | with_reducible apply State.namedGen_keeps | with_reducible apply State.stageFrom_keeps | with_reducible apply State.addFld_keeps | with_reducible apply State.raise_keeps | with_reducible apply Done.plain_keeps | with_reducible apply Done.bad_keeps | fail_if_no_progress (with_reducible apply Keeps.upd) | (with_reducible refine Keeps.foldl ?_ ?_; on_goal 2 => (intro t x ht; beta_reduce)) | (with_reducible refine Keeps.foldl2 ?_ ?_; on_goal 2 => (intro t x ht; beta_reduce)) | with_reducible apply KeepsO.next | fail_if_no_progress (with_reducible apply Keeps.updFree) | (with_reducible refine Keeps.foldl1 ?_ ?_; on_goal 2 => (intro t x ht; beta_reduce)) | (with_reducible apply Keeps.fst; with_reducible assumption) | refine Keeps.ite ?_ ?_ | split | (intro a; intros; beta_reduce) | (with_reducible apply Keeps.snd; with_reducible assumption))

theorem State.swapBanks_keeps {s0 s : State} (h : Keeps kq s0 s) : Keeps kq s0 (State.swapBanks s) := by
  unfold State.swapBanks
  repeat' (first | with_reducible assumption | ((fail_if_no_progress (extract_lets +onlyGivenNames y)); clear_value y) | fail_if_no_progress (with_reducible apply Keeps.upd))

theorem State.stageFor_keeps {s0 s : State} {v} (h : Keeps kq s0 s) : Keeps kq s0 (State.stageFor s v) := by
  unfold State.stageFor
  repeat' (first | with_reducible assumption | with_reducible refine Keeps.ite ?_ ?_ | ((fail_if_no_progress (extract_lets +onlyGivenNames y)); (have z_ := y; guard_hyp z_ : State; clear z_); refine Keeps.cut (kq := kq) (s0 := s0) y ?_ ?_; (on_goal 1 => subst y); (on_goal 2 => (intro hy; try clear_value y))) | ((fail_if_no_progress (extract_lets +onlyGivenNames y)); (have z_ := y; guard_hyp z_ : State × _; clear z_); refine Keeps.cut1 (kq := kq) (s0 := s0) y ?_ ?_; (on_goal 1 => subst y); (on_goal 2 => (intro hy; try clear_value y))) | ((fail_if_no_progress (extract_lets +onlyGivenNames y)); (have z_ := y; guard_hyp z_ : _ × State; clear z_); refine Keeps.cut2 (kq := kq) (s0 := s0) y ?_ ?_; (on_goal 1 => subst y); (on_goal 2 => (intro hy; try clear_value y))) | ((fail_if_no_progress (extract_lets +onlyGivenNames y)); refine Keeps.fn y ?_; subst y; beta_reduce) | ((fail_if_no_progress (extract_lets +onlyGivenNames y)); clear_value y) | ((fail_if_no_progress (extract_lets +onlyGivenNames y)); subst y) | with_reducible apply State.stageFrom_keeps | with_reducible apply State.setFld_keeps | with_reducible apply State.namedGen_keeps | with_reducible apply Done.plain_keeps | with_reducible apply Done.bad_keeps | fail_if_no_progress (with_reducible apply Keeps.upd) | (with_reducible refine Keeps.foldl ?_ ?_; on_goal 2 => (intro t x ht; beta_reduce)) | (with_reducible refine Keeps.foldl2 ?_ ?_; on_goal 2 => (intro t x ht; beta_reduce)) | with_reducible apply KeepsO.next | fail_if_no_progress (with_reducible apply Keeps.updFree) | (with_reducible refine Keeps.foldl1 ?_ ?_; on_goal 2 => (intro t x ht; beta_reduce)) | (with_reducible apply Keeps.fst; with_reducible assumption) | refine Keeps.ite ?_ ?_ | split | (intro a; intros; beta_reduce) | (with_reducible apply Keeps.snd; with_reducible assumption))

theorem State.bankBoundary_keeps {s0 s : State} (h : Keeps kq s0 s) : Keeps kq s0 (State.bankBoundary s) := by
  unfold State.bankBoundary
  exact Keeps.upd (Keeps.upd (State.stageFor_keeps (State.swapBanks_keeps
    (Keeps.ite (State.memberApply_keeps (Keeps.upd h)) (Keeps.upd h)))))

theorem State.putChan_keeps {s0 s : State} {ue serves rs} (h : Keeps kq s0 s) : Keeps kq s0 (State.putChan s ue serves rs) := by
  unfold State.putChan
  repeat' (first | with_reducible assumption | ((fail_if_no_progress (extract_lets +onlyGivenNames y)); clear_value y) | fail_if_no_progress (with_reducible apply Keeps.upd))

theorem State.queueStage_keeps {s0 s : State} {parts chans fresh} (h : Keeps kq s0 s) : Keeps kq s0 (State.queueStage s parts chans fresh) := by
  unfold State.queueStage
  repeat' (first | with_reducible assumption | ((fail_if_no_progress (extract_lets +onlyGivenNames y)); clear_value y) | fail_if_no_progress (with_reducible apply Keeps.upd))

theorem State.block12_keeps {s0 s : State} {ovr} (h : Keeps kq s0 s) : Keeps kq s0 (State.block12 s ovr) := by
  unfold State.block12
  repeat' (first | with_reducible assumption | with_reducible refine Keeps.ite ?_ ?_ | ((fail_if_no_progress (extract_lets +onlyGivenNames y)); (have z_ := y; guard_hyp z_ : State; clear z_); refine Keeps.cut (kq := kq) (s0 := s0) y ?_ ?_; (on_goal 1 => subst y); (on_goal 2 => (intro hy; try clear_value y))) | ((fail_if_no_progress (extract_lets +onlyGivenNames y)); (have z_ := y; guard_hyp z_ : State × _; clear z_); refine Keeps.cut1 (kq := kq) (s0 := s0) y ?_ ?_; (on_goal 1 => subst y); (on_goal 2 => (intro hy; try clear_value y))) | ((fail_if_no_progress (extract_lets +onlyGivenNames y)); clear_value y) | with_reducible apply State.raiseFree_keeps | with_reducible apply State.addFld_keeps | with_reducible apply State.putChan_keeps | with_reducible apply State.queueStage_keeps | with_reducible apply State.notePeak_keeps | fail_if_no_progress (with_reducible apply Keeps.upd) | (with_reducible refine Keeps.foldl1 ?_ ?_; on_goal 2 => (intro t x ht; beta_reduce)) | split)

theorem State.bufferStreams_keeps {s0 s : State} (h : Keeps kq s0 s) : Keeps kq s0 (State.bufferStreams s) := by
  unfold State.bufferStreams
  repeat' (first | with_reducible assumption | ((fail_if_no_progress (extract_lets +onlyGivenNames y)); clear_value y) | fail_if_no_progress (with_reducible apply Keeps.upd))

theorem State.forwardTo_keeps {s0 s : State} {mtype bs wait rx j} (h : Keeps kq s0 s) : Keeps kq s0 (State.forwardTo s mtype bs wait rx j) := by
  unfold State.forwardTo
  repeat' (first | with_reducible assumption | with_reducible refine Keeps.ite ?_ ?_ | ((fail_if_no_progress (extract_lets +onlyGivenNames y)); (have z_ := y; guard_hyp z_ : State; clear z_); refine Keeps.cut (kq := kq) (s0 := s0) y ?_ ?_; (on_goal 1 => subst y); (on_goal 2 => (intro hy; try clear_value y))) | ((fail_if_no_progress (extract_lets +onlyGivenNames y)); (have z_ := y; guard_hyp z_ : State × _; clear z_); refine Keeps.cut1 (kq := kq) (s0 := s0) y ?_ ?_; (on_goal 1 => subst y); (on_goal 2 => (intro hy; try clear_value y))) | ((fail_if_no_progress (extract_lets +onlyGivenNames y)); (have z_ := y; guard_hyp z_ : _ × State; clear z_); refine Keeps.cut2 (kq := kq) (s0 := s0) y ?_ ?_; (on_goal 1 => subst y); (on_goal 2 => (intro hy; try clear_value y))) | ((fail_if_no_progress (extract_lets +onlyGivenNames y)); refine Keeps.fn y ?_; subst y; beta_reduce) | ((fail_if_no_progress (extract_lets +onlyGivenNames y)); clear_value y) | ((fail_if_no_progress (extract_lets +onlyGivenNames y)); subst y) | with_reducible apply State.addFld_keeps | with_reducible apply State.emit_keeps | with_reducible apply Done.plain_keeps | with_reducible apply Done.bad_keeps | fail_if_no_progress (with_reducible apply Keeps.upd) | (with_reducible refine Keeps.foldl ?_ ?_; on_goal 2 => (intro t x ht; beta_reduce)) | (with_reducible refine Keeps.foldl2 ?_ ?_; on_goal 2 => (intro t x ht; beta_reduce)) | with_reducible apply KeepsO.next | fail_if_no_progress (with_reducible apply Keeps.updFree) | (with_reducible refine Keeps.foldl1 ?_ ?_; on_goal 2 => (intro t x ht; beta_reduce)) | (with_reducible apply Keeps.fst; with_reducible assumption) | refine Keeps.ite ?_ ?_ | split | (intro a; intros; beta_reduce) | (with_reducible apply Keeps.snd; with_reducible assumption))

theorem State.symbolAdd_keeps {s0 s : State} {kind dl k sfn slot sym n} (h : Keeps kq s0 s) : Keeps kq s0 (State.symbolAdd s kind dl k sfn slot sym n) := by
  unfold State.symbolAdd
  repeat' (first | with_reducible assumption | with_reducible refine Keeps.ite ?_ ?_ | with_reducible apply State.raise_keeps | fail_if_no_progress (with_reducible apply Keeps.upd) | split)

theorem State.queueMsgs_keeps {s0 s : State} {t ms} (h : Keeps kq s0 s) : Keeps kq s0 (State.queueMsgs s t ms) := by
  unfold State.queueMsgs
  repeat' (first | with_reducible assumption | with_reducible refine Keeps.ite ?_ ?_ | ((fail_if_no_progress (extract_lets +onlyGivenNames y)); clear_value y) | with_reducible apply State.addFld_keeps | fail_if_no_progress (with_reducible apply Keeps.upd) | (with_reducible refine Keeps.foldl ?_ ?_; on_goal 2 => (intro t x ht; beta_reduce)))

theorem State.frameSymbol_keeps {s0 s : State} {h_} (h : Keeps kq s0 s) : Keeps kq s0 (State.frameSymbol s h_) := by
  unfold State.frameSymbol
  repeat' (first | with_reducible assumption | with_reducible refine Keeps.ite ?_ ?_ | ((fail_if_no_progress (extract_lets +onlyGivenNames y)); (have z_ := y; guard_hyp z_ : State; clear z_); refine Keeps.cut (kq := kq) (s0 := s0) y ?_ ?_; (on_goal 1 => subst y); (on_goal 2 => (intro hy; try clear_value y))) | ((fail_if_no_progress (extract_lets +onlyGivenNames y)); refine Keeps.fn y ?_; subst y; beta_reduce) | ((fail_if_no_progress (extract_lets +onlyGivenNames y)); clear_value y) | with_reducible apply State.symbolAdd_keeps | with_reducible apply State.addFld_keeps | with_reducible apply State.setFld_keeps | with_reducible apply State.queueMsgs_keeps)

theorem State.clearEgress_keeps {s0 s : State} {k} (h : Keeps kq s0 s) : Keeps kq s0 (State.clearEgress s k) := by
  unfold State.clearEgress
  repeat' (first | with_reducible assumption | ((fail_if_no_progress (extract_lets +onlyGivenNames y)); clear_value y) | fail_if_no_progress (with_reducible apply Keeps.upd))

theorem State.gatherSymbols_keeps {s0 s : State} (h : Keeps kq s0 s) : Keeps kq s0 (State.gatherSymbols s) := by
  unfold State.gatherSymbols
  repeat' (first | with_reducible assumption | with_reducible refine Keeps.ite ?_ ?_ | ((fail_if_no_progress (extract_lets +onlyGivenNames y)); clear_value y) | fail_if_no_progress (with_reducible apply Keeps.upd) | (with_reducible refine Keeps.foldl ?_ ?_; on_goal 2 => (intro t x ht; beta_reduce)) | split)

theorem State.combineSymbol_keeps {s0 s : State} {ovr y} (h : Keeps kq s0 s) : Keeps kq s0 (State.combineSymbol s ovr y) := by
  unfold State.combineSymbol
  repeat' (first | with_reducible assumption | ((fail_if_no_progress (extract_lets +onlyGivenNames y)); clear_value y) | fail_if_no_progress (with_reducible apply Keeps.upd))

theorem State.ptpTick_keeps {s0 s : State} (h : Keeps kq s0 s) : Keeps kq s0 (State.ptpTick s) := by
  unfold State.ptpTick
  repeat' (first | with_reducible assumption | with_reducible refine Keeps.ite ?_ ?_ | ((fail_if_no_progress (extract_lets +onlyGivenNames y)); (have z_ := y; guard_hyp z_ : State; clear z_); refine Keeps.cut (kq := kq) (s0 := s0) y ?_ ?_; (on_goal 1 => subst y); (on_goal 2 => (intro hy; try clear_value y))) | ((fail_if_no_progress (extract_lets +onlyGivenNames y)); (have z_ := y; guard_hyp z_ : State × _; clear z_); refine Keeps.cut1 (kq := kq) (s0 := s0) y ?_ ?_; (on_goal 1 => subst y); (on_goal 2 => (intro hy; try clear_value y))) | ((fail_if_no_progress (extract_lets +onlyGivenNames y)); (have z_ := y; guard_hyp z_ : _ × State; clear z_); refine Keeps.cut2 (kq := kq) (s0 := s0) y ?_ ?_; (on_goal 1 => subst y); (on_goal 2 => (intro hy; try clear_value y))) | ((fail_if_no_progress (extract_lets +onlyGivenNames y)); refine Keeps.fn y ?_; subst y; beta_reduce) | ((fail_if_no_progress (extract_lets +onlyGivenNames y)); clear_value y) | ((fail_if_no_progress (extract_lets +onlyGivenNames y)); subst y) | with_reducible apply State.announce_keeps | with_reducible apply State.sendPtp_keeps | with_reducible apply State.stampAt_keeps | with_reducible apply State.syncMessage_keeps | with_reducible apply State.delayRequest_keeps | with_reducible apply Done.plain_keeps | with_reducible apply Done.bad_keeps | fail_if_no_progress (with_reducible apply Keeps.upd) | (with_reducible refine Keeps.foldl ?_ ?_; on_goal 2 => (intro t x ht; beta_reduce)) | (with_reducible refine Keeps.foldl2 ?_ ?_; on_goal 2 => (intro t x ht; beta_reduce)) | with_reducible apply KeepsO.next | fail_if_no_progress (with_reducible apply Keeps.updFree) | (with_reducible refine Keeps.foldl1 ?_ ?_; on_goal 2 => (intro t x ht; beta_reduce)) | (with_reducible apply Keeps.fst; with_reducible assumption) | refine Keeps.ite ?_ ?_ | split | (intro a; intros; beta_reduce) | (with_reducible apply Keeps.snd; with_reducible assumption))

theorem State.queueQual_keeps {s0 s : State} {q} (h : Keeps kq s0 s) : Keeps kq s0 (State.queueQual s q) := by
  unfold State.queueQual
  repeat' (first | with_reducible assumption | ((fail_if_no_progress (extract_lets +onlyGivenNames y)); clear_value y) | fail_if_no_progress (with_reducible apply Keeps.upd))

theorem State.noteFloor_keeps {s0 s : State} {p v} (h : Keeps kq s0 s) : Keeps kq s0 (State.noteFloor s p v) := by
  unfold State.noteFloor
  repeat' (first | with_reducible assumption | with_reducible refine Keeps.ite ?_ ?_ | ((fail_if_no_progress (extract_lets +onlyGivenNames y)); (have z_ := y; guard_hyp z_ : State; clear z_); refine Keeps.cut (kq := kq) (s0 := s0) y ?_ ?_; (on_goal 1 => subst y); (on_goal 2 => (intro hy; try clear_value y))) | ((fail_if_no_progress (extract_lets +onlyGivenNames y)); clear_value y) | with_reducible apply State.addFld_keeps | with_reducible apply State.setFld_keeps | with_reducible apply State.raise_keeps | fail_if_no_progress (with_reducible apply Keeps.upd))

theorem State.fftSymbol_keeps {s0 s : State} {ovr y} (h : Keeps kq s0 s) : Keeps kq s0 (State.fftSymbol s ovr y) := by
  unfold State.fftSymbol
  repeat' (first | with_reducible assumption | with_reducible refine Keeps.ite ?_ ?_ | ((fail_if_no_progress (extract_lets +onlyGivenNames y)); (have z_ := y; guard_hyp z_ : State; clear z_); refine Keeps.cut (kq := kq) (s0 := s0) y ?_ ?_; (on_goal 1 => subst y); (on_goal 2 => (intro hy; try clear_value y))) | ((fail_if_no_progress (extract_lets +onlyGivenNames y)); clear_value y) | with_reducible apply State.addFld_keeps | with_reducible apply State.queueQual_keeps | with_reducible apply State.noteFloor_keeps | fail_if_no_progress (with_reducible apply Keeps.upd) | (with_reducible refine Keeps.foldl ?_ ?_; on_goal 2 => (intro t x ht; beta_reduce)) | split)

theorem State.ulTick_keeps {s0 s : State} {ovr} (h : Keeps kq s0 s) : Keeps kq s0 (State.ulTick s ovr) := by
  unfold State.ulTick
  repeat' (first | with_reducible assumption | with_reducible refine Keeps.ite ?_ ?_ | ((fail_if_no_progress (extract_lets +onlyGivenNames y)); (have z_ := y; guard_hyp z_ : State; clear z_); refine Keeps.cut (kq := kq) (s0 := s0) y ?_ ?_; (on_goal 1 => subst y); (on_goal 2 => (intro hy; try clear_value y))) | ((fail_if_no_progress (extract_lets +onlyGivenNames y)); clear_value y) | with_reducible apply State.combineSymbol_keeps | with_reducible apply State.fftSymbol_keeps | with_reducible apply State.gatherSymbols_keeps | with_reducible apply State.bufferStreams_keeps | fail_if_no_progress (with_reducible apply Keeps.upd) | (with_reducible refine Keeps.foldl ?_ ?_; on_goal 2 => (intro t x ht; beta_reduce)))

theorem State.frameRaw_keeps {s0 s : State} {o sums} (h : Keeps kq s0 s) : Keeps kq s0 (State.frameRaw s o sums) := by
  unfold State.frameRaw
  repeat' (first | with_reducible assumption | ((fail_if_no_progress (extract_lets +onlyGivenNames y)); clear_value y) | with_reducible apply State.queueMsgs_keeps | split)

theorem State.rawTick_keeps {s0 s : State} (h : Keeps kq s0 s) : Keeps kq s0 (State.rawTick s) := by
  unfold State.rawTick
  repeat' (first | with_reducible assumption | ((fail_if_no_progress (extract_lets +onlyGivenNames y)); (have z_ := y; guard_hyp z_ : State; clear z_); refine Keeps.cut (kq := kq) (s0 := s0) y ?_ ?_; (on_goal 1 => subst y); (on_goal 2 => (intro hy; try clear_value y))) | ((fail_if_no_progress (extract_lets +onlyGivenNames y)); clear_value y) | with_reducible apply State.frameRaw_keeps | fail_if_no_progress (with_reducible apply Keeps.upd) | (with_reducible refine Keeps.foldl ?_ ?_; on_goal 2 => (intro t x ht; beta_reduce)))

theorem State.ringAdd_keeps {s0 s : State} {seq bs n} (h : Keeps false s0 s) : Keeps false s0 (State.ringAdd s seq bs n) := by
  induction n generalizing s seq bs with
  | zero => unfold State.ringAdd; repeat' (first | with_reducible assumption | with_reducible refine Keeps.ite ?_ ?_ | ((fail_if_no_progress (extract_lets +onlyGivenNames y)); (have z_ := y; guard_hyp z_ : State; clear z_); refine Keeps.cut (kq := false) (s0 := s0) y ?_ ?_; (on_goal 1 => subst y); (on_goal 2 => (intro hy; try clear_value y))) | ((fail_if_no_progress (extract_lets +onlyGivenNames y)); clear_value y) | with_reducible apply State.addFld_keeps | fail_if_no_progress (with_reducible apply Keeps.upd) | with_reducible apply ih)
  | succ n_ ih => unfold State.ringAdd; repeat' (first | with_reducible assumption | with_reducible refine Keeps.ite ?_ ?_ | ((fail_if_no_progress (extract_lets +onlyGivenNames y)); (have z_ := y; guard_hyp z_ : State; clear z_); refine Keeps.cut (kq := false) (s0 := s0) y ?_ ?_; (on_goal 1 => subst y); (on_goal 2 => (intro hy; try clear_value y))) | ((fail_if_no_progress (extract_lets +onlyGivenNames y)); clear_value y) | with_reducible apply State.addFld_keeps | fail_if_no_progress (with_reducible apply Keeps.upd) | with_reducible apply ih)

theorem State.evaluate_keeps {s0 s : State} {void o} (h : Keeps false s0 s) : Keeps false s0 (State.evaluate s void o) := by
  unfold State.evaluate
  repeat' (first | with_reducible assumption | with_reducible refine Keeps.ite ?_ ?_ | ((fail_if_no_progress (extract_lets +onlyGivenNames y)); (have z_ := y; guard_hyp z_ : State; clear z_); refine Keeps.cut (kq := false) (s0 := s0) y ?_ ?_; (on_goal 1 => subst y); (on_goal 2 => (intro hy; try clear_value y))) | ((fail_if_no_progress (extract_lets +onlyGivenNames y)); clear_value y) | with_reducible apply State.setFld_keeps | with_reducible apply State.addFld_keeps | with_reducible apply State.raiseFree_keeps | with_reducible apply State.ringAdd_keeps | with_reducible apply State.raise_keeps | fail_if_no_progress (with_reducible apply Keeps.upd))

theorem State.praTick_keeps {s0 s : State} {void} (h : Keeps false s0 s) : Keeps false s0 (State.praTick s void) := by
  unfold State.praTick
  repeat' (first | with_reducible assumption | ((fail_if_no_progress (extract_lets +onlyGivenNames y)); clear_value y) | with_reducible apply State.evaluate_keeps | fail_if_no_progress (with_reducible apply Keeps.upd) | (with_reducible refine Keeps.foldl ?_ ?_; on_goal 2 => (intro t x ht; beta_reduce)))

theorem State.overrunAir_keeps {s0 s : State} {x} (h : Keeps kq s0 s) : Keeps kq s0 (State.overrunAir s x) := by
  unfold State.overrunAir
  repeat' (first | with_reducible assumption | with_reducible apply State.voidThenSettle_keeps | (with_reducible refine Keeps.foldl ?_ ?_; on_goal 2 => (intro t x ht; beta_reduce)))

theorem State.ifftSymbol_keeps {s0 s : State} {ovr y} (h : Keeps kq s0 s) : Keeps kq s0 (State.ifftSymbol s ovr y) := by
  unfold State.ifftSymbol
  repeat' (first | with_reducible assumption | with_reducible refine Keeps.ite ?_ ?_ | with_reducible apply State.addFld_keeps | fail_if_no_progress (with_reducible apply Keeps.upd) | (with_reducible refine Keeps.foldl ?_ ?_; on_goal 2 => (intro t x ht; beta_reduce)))

theorem State.parseTick_keeps {s0 s : State} (h : Keeps kq s0 s) : Keeps kq s0 (State.parseTick s) := by
  unfold State.parseTick
  repeat' (first | with_reducible assumption | ((fail_if_no_progress (extract_lets +onlyGivenNames y)); clear_value y) | fail_if_no_progress (with_reducible apply Keeps.upd))

theorem State.slotAdd_keeps {s0 s : State} {kind dl k n} (h : Keeps kq s0 s) : Keeps kq s0 (State.slotAdd s kind dl k n) := by
  unfold State.slotAdd
  repeat' (first | with_reducible assumption | ((fail_if_no_progress (extract_lets +onlyGivenNames y)); clear_value y) | fail_if_no_progress (with_reducible apply Keeps.upd))

theorem State.decompress_keeps {s0 s : State} {w} (h : Keeps kq s0 s) : Keeps kq s0 (State.decompress s w).1 := by
  unfold State.decompress
  repeat' (first | with_reducible assumption | ((fail_if_no_progress (extract_lets +onlyGivenNames y)); clear_value y) | with_reducible apply State.addFld_keeps | with_reducible apply State.slotAdd_keeps | split)

theorem State.expandTick_keeps {s0 s : State} {ovr} (h : Keeps kq s0 s) : Keeps kq s0 (State.expandTick s ovr) := by
  unfold State.expandTick
  repeat' (first | with_reducible assumption | ((fail_if_no_progress (extract_lets +onlyGivenNames y)); (have z_ := y; guard_hyp z_ : State; clear z_); refine Keeps.cut (kq := kq) (s0 := s0) y ?_ ?_; (on_goal 1 => subst y); (on_goal 2 => (intro hy; try clear_value y))) | ((fail_if_no_progress (extract_lets +onlyGivenNames y)); clear_value y) | with_reducible apply State.decompress_keeps | with_reducible apply State.symbolAdd_keeps | with_reducible apply State.addFld_keeps | fail_if_no_progress (with_reducible apply Keeps.upd) | (with_reducible refine Keeps.foldl ?_ ?_; on_goal 2 => (intro t x ht; beta_reduce)) | (with_reducible refine Keeps.foldl1 ?_ ?_; on_goal 2 => (intro t x ht; beta_reduce)) | split)

theorem State.dlTick_keeps {s0 s : State} {ovr} (h : Keeps kq s0 s) : Keeps kq s0 (State.dlTick s ovr) := by
  unfold State.dlTick
  repeat' (first | with_reducible assumption | with_reducible refine Keeps.ite ?_ ?_ | ((fail_if_no_progress (extract_lets +onlyGivenNames y)); (have z_ := y; guard_hyp z_ : State; clear z_); refine Keeps.cut (kq := kq) (s0 := s0) y ?_ ?_; (on_goal 1 => subst y); (on_goal 2 => (intro hy; try clear_value y))) | ((fail_if_no_progress (extract_lets +onlyGivenNames y)); clear_value y) | with_reducible apply State.overrunAir_keeps | with_reducible apply State.ifftSymbol_keeps | with_reducible apply State.parseTick_keeps | with_reducible apply State.expandTick_keeps | fail_if_no_progress (with_reducible apply Keeps.upd) | (with_reducible refine Keeps.foldl ?_ ?_; on_goal 2 => (intro t x ht; beta_reduce)))

theorem State.loseSection_keeps {s0 s : State} {layer car start dropped ovr} (h : Keeps kq s0 s) : Keeps kq s0 (State.loseSection s layer car start dropped ovr) := by
  unfold State.loseSection
  repeat' (first | with_reducible assumption | ((fail_if_no_progress (extract_lets +onlyGivenNames y)); (have z_ := y; guard_hyp z_ : State; clear z_); refine Keeps.cut (kq := kq) (s0 := s0) y ?_ ?_; (on_goal 1 => subst y); (on_goal 2 => (intro hy; try clear_value y))) | ((fail_if_no_progress (extract_lets +onlyGivenNames y)); refine Keeps.fn y ?_; subst y; beta_reduce) | ((fail_if_no_progress (extract_lets +onlyGivenNames y)); clear_value y) | with_reducible apply State.slotAdd_keeps | with_reducible apply State.addFld_keeps | fail_if_no_progress (with_reducible apply Keeps.upd))

theorem State.overrun9_keeps {s0 s : State} (h : Keeps kq s0 s) : Keeps kq s0 (State.overrun9 s) := by
  unfold State.overrun9
  repeat' (first | with_reducible assumption | ((fail_if_no_progress (extract_lets +onlyGivenNames y)); (have z_ := y; guard_hyp z_ : State; clear z_); refine Keeps.cut (kq := kq) (s0 := s0) y ?_ ?_; (on_goal 1 => subst y); (on_goal 2 => (intro hy; try clear_value y))) | ((fail_if_no_progress (extract_lets +onlyGivenNames y)); clear_value y) | with_reducible apply State.loseSection_keeps | fail_if_no_progress (with_reducible apply Keeps.upd) | (with_reducible refine Keeps.foldl ?_ ?_; on_goal 2 => (intro t x ht; beta_reduce)))

theorem State.closeSymbols_keeps {s0 s : State} (h : Keeps kq s0 s) : Keeps kq s0 (State.closeSymbols s) := by
  unfold State.closeSymbols
  repeat' (first | with_reducible assumption | with_reducible refine Keeps.ite ?_ ?_ | ((fail_if_no_progress (extract_lets +onlyGivenNames y)); (have z_ := y; guard_hyp z_ : State; clear z_); refine Keeps.cut (kq := kq) (s0 := s0) y ?_ ?_; (on_goal 1 => subst y); (on_goal 2 => (intro hy; try clear_value y))) | ((fail_if_no_progress (extract_lets +onlyGivenNames y)); refine Keeps.fn y ?_; subst y; beta_reduce) | ((fail_if_no_progress (extract_lets +onlyGivenNames y)); clear_value y) | with_reducible apply State.queueQual_keeps | fail_if_no_progress (with_reducible apply Keeps.upd) | (with_reducible refine Keeps.foldl ?_ ?_; on_goal 2 => (intro t x ht; beta_reduce)))

theorem State.slotsEnd_keeps {s0 s : State} (h : Keeps kq s0 s) : Keeps kq s0 (State.slotsEnd s) := by
  unfold State.slotsEnd
  repeat' (first | with_reducible assumption | with_reducible refine Keeps.ite ?_ ?_ | ((fail_if_no_progress (extract_lets +onlyGivenNames y)); (have z_ := y; guard_hyp z_ : State; clear z_); refine Keeps.cut (kq := kq) (s0 := s0) y ?_ ?_; (on_goal 1 => subst y); (on_goal 2 => (intro hy; try clear_value y))) | ((fail_if_no_progress (extract_lets +onlyGivenNames y)); clear_value y) | with_reducible apply State.raise_keeps | fail_if_no_progress (with_reducible apply Keeps.upd) | (with_reducible refine Keeps.foldl ?_ ?_; on_goal 2 => (intro t x ht; beta_reduce)))

theorem execBfLoadBeamTable_keeps {s0 s : State} {tag} (h : Keeps kq s0 s) : KeepsO kq s0 (execBfLoadBeamTable tag s) := by
  unfold execBfLoadBeamTable
  repeat' (first | with_reducible assumption | ((fail_if_no_progress (extract_lets +onlyGivenNames y)); clear_value y) | with_reducible apply State.performCommit_keeps | with_reducible apply State.armCmd_keeps | with_reducible apply KeepsO.next | (intro a; intros; beta_reduce))

theorem execBfSetCarrier_keeps {s0 s : State} {tag} (h : Keeps kq s0 s) : KeepsO kq s0 (execBfSetCarrier tag s) := by
  unfold execBfSetCarrier
  repeat' (first | with_reducible assumption | with_reducible apply State.performCommit_keeps | with_reducible apply State.armCmd_keeps | with_reducible apply KeepsO.next | (intro a; intros; beta_reduce))

theorem execBfSetBeamLayer_keeps {s0 s : State} {tag} (h : Keeps kq s0 s) : KeepsO kq s0 (execBfSetBeamLayer tag s) := by
  unfold execBfSetBeamLayer
  repeat' (first | with_reducible assumption | with_reducible apply State.performCommit_keeps | with_reducible apply State.armCmd_keeps | with_reducible apply KeepsO.next | (intro a; intros; beta_reduce))

theorem execPrachConfig_keeps {s0 s : State} {tag} (h : Keeps kq s0 s) : KeepsO kq s0 (execPrachConfig tag s) := by
  unfold execPrachConfig
  repeat' (first | with_reducible assumption | with_reducible apply State.performCommit_keeps | with_reducible apply State.armCmd_keeps | with_reducible apply KeepsO.next | (intro a; intros; beta_reduce))

theorem execFhMapEaxc_keeps {s0 s : State} {tag} (h : Keeps kq s0 s) : KeepsO kq s0 (execFhMapEaxc tag s) := by
  unfold execFhMapEaxc
  repeat' (first | with_reducible assumption | with_reducible apply State.performCommit_keeps | with_reducible apply State.armCmd_keeps | with_reducible apply KeepsO.next | (intro a; intros; beta_reduce))

theorem execFhSetWindows_keeps {s0 s : State} {tag} (h : Keeps kq s0 s) : KeepsO kq s0 (execFhSetWindows tag s) := by
  unfold execFhSetWindows
  repeat' (first | with_reducible assumption | ((fail_if_no_progress (extract_lets +onlyGivenNames y)); clear_value y) | with_reducible apply State.performCommit_keeps | with_reducible apply State.armCmd_keeps | with_reducible apply KeepsO.next | (intro a; intros; beta_reduce))

theorem execFhSetCompression_keeps {s0 s : State} {tag} (h : Keeps kq s0 s) : KeepsO kq s0 (execFhSetCompression tag s) := by
  unfold execFhSetCompression
  repeat' (first | with_reducible assumption | with_reducible apply State.performCommit_keeps | with_reducible apply State.armCmd_keeps | with_reducible apply KeepsO.next | (intro a; intros; beta_reduce))

theorem State.storePort_keeps {s0 s : State} {c} (h : Keeps kq s0 s) : Keeps kq s0 (State.storePort s c) := by
  unfold State.storePort
  repeat' (first | with_reducible assumption | ((fail_if_no_progress (extract_lets +onlyGivenNames y)); (have z_ := y; guard_hyp z_ : State; clear z_); refine Keeps.cut (kq := kq) (s0 := s0) y ?_ ?_; (on_goal 1 => subst y); (on_goal 2 => (intro hy; try clear_value y))) | ((fail_if_no_progress (extract_lets +onlyGivenNames y)); clear_value y) | with_reducible apply State.setFld_keeps)

theorem State.configPort_keeps {s0 s : State} {c} (h : Keeps kq s0 s) : Keeps kq s0 (State.configPort s c) := by
  unfold State.configPort
  repeat' (first | with_reducible assumption | with_reducible refine Keeps.ite ?_ ?_ | with_reducible apply State.storePort_keeps | with_reducible apply State.finishNow_keeps | with_reducible apply State.setPort_keeps | with_reducible apply State.setFld_keeps | with_reducible apply State.clearEgress_keeps | with_reducible apply State.alignPort_keeps)

theorem State.cpChannel_keeps {s0 s : State} {e h_ o c} (h : Keeps kq s0 s) : Keeps kq s0 (State.cpChannel s e h_ o c) := by
  unfold State.cpChannel
  repeat' (first | with_reducible assumption | with_reducible refine Keeps.ite ?_ ?_ | ((fail_if_no_progress (extract_lets +onlyGivenNames y)); (have z_ := y; guard_hyp z_ : State; clear z_); refine Keeps.cut (kq := kq) (s0 := s0) y ?_ ?_; (on_goal 1 => subst y); (on_goal 2 => (intro hy; try clear_value y))) | ((fail_if_no_progress (extract_lets +onlyGivenNames y)); clear_value y) | with_reducible apply State.addFld_keeps | fail_if_no_progress (with_reducible apply Keeps.upd) | split)

theorem State.noteSeq_keeps {s0 s : State} {id dl seq} (h : Keeps kq s0 s) : Keeps kq s0 (State.noteSeq s id dl seq) := by
  unfold State.noteSeq
  repeat' (first | with_reducible assumption | with_reducible refine Keeps.ite ?_ ?_ | ((fail_if_no_progress (extract_lets +onlyGivenNames y)); (have z_ := y; guard_hyp z_ : State; clear z_); refine Keeps.cut (kq := kq) (s0 := s0) y ?_ ?_; (on_goal 1 => subst y); (on_goal 2 => (intro hy; try clear_value y))) | ((fail_if_no_progress (extract_lets +onlyGivenNames y)); clear_value y) | with_reducible apply State.addFld_keeps | fail_if_no_progress (with_reducible apply Keeps.upd))

theorem State.prachBeam_keeps {s0 s : State} {o beam sec} (h : Keeps kq s0 s) : Keeps kq s0 (State.prachBeam s o beam sec) := by
  unfold State.prachBeam
  repeat' (first | with_reducible assumption | with_reducible refine Keeps.ite ?_ ?_ | ((fail_if_no_progress (extract_lets +onlyGivenNames y)); (have z_ := y; guard_hyp z_ : State; clear z_); refine Keeps.cut (kq := kq) (s0 := s0) y ?_ ?_; (on_goal 1 => subst y); (on_goal 2 => (intro hy; try clear_value y))) | ((fail_if_no_progress (extract_lets +onlyGivenNames y)); clear_value y) | with_reducible apply State.raiseFree_keeps | with_reducible apply State.addFld_keeps | fail_if_no_progress (with_reducible apply Keeps.upd))

set_option maxRecDepth 20000 in
theorem State.cpPrach_keeps {s0 s : State} {e h_ o c} (h : Keeps kq s0 s) : Keeps kq s0 (State.cpPrach s e h_ o c) := by
  unfold State.cpPrach
  repeat' (first | with_reducible assumption | with_reducible refine Keeps.ite ?_ ?_ | ((fail_if_no_progress (extract_lets +onlyGivenNames y)); (have z_ := y; guard_hyp z_ : State; clear z_); refine Keeps.cut (kq := kq) (s0 := s0) y ?_ ?_; (on_goal 1 => subst y); (on_goal 2 => (intro hy; try clear_value y))) | with_reducible apply State.addFld_keeps | with_reducible apply State.prachBeam_keeps)

theorem State.cpStore_keeps {s0 s : State} {e port kind h_ o c} (h : Keeps kq s0 s) : Keeps kq s0 (State.cpStore s e port kind h_ o c) := by
  unfold State.cpStore
  repeat' (first | with_reducible assumption | with_reducible refine Keeps.ite ?_ ?_ | ((fail_if_no_progress (extract_lets +onlyGivenNames y)); (have z_ := y; guard_hyp z_ : State; clear z_); refine Keeps.cut (kq := kq) (s0 := s0) y ?_ ?_; (on_goal 1 => subst y); (on_goal 2 => (intro hy; try clear_value y))) | ((fail_if_no_progress (extract_lets +onlyGivenNames y)); clear_value y) | with_reducible apply State.addFld_keeps | with_reducible apply State.raise_keeps | with_reducible apply State.setFld_keeps | with_reducible apply State.raiseFree_keeps | fail_if_no_progress (with_reducible apply Keeps.upd) | split)

theorem State.cpSection_keeps {s0 s : State} {e port h_ o c} (h : Keeps kq s0 s) : Keeps kq s0 (State.cpSection s e port h_ o c) := by
  unfold State.cpSection
  repeat' (first | with_reducible assumption | with_reducible refine Keeps.ite ?_ ?_ | with_reducible apply State.slotAdd_keeps | with_reducible apply State.addFld_keeps | with_reducible apply State.badSection_keeps | with_reducible apply State.cpPrach_keeps | with_reducible apply State.cpChannel_keeps | with_reducible apply State.cpStore_keeps | split)

theorem State.cpMessage_keeps {s0 s : State} {port eaxc seq seqOk h_ secs} (h : Keeps kq s0 s) : Keeps kq s0 (State.cpMessage s port eaxc seq seqOk h_ secs) := by
  unfold State.cpMessage
  repeat' (first | with_reducible assumption | with_reducible refine Keeps.ite ?_ ?_ | ((fail_if_no_progress (extract_lets +onlyGivenNames y)); (have z_ := y; guard_hyp z_ : State; clear z_); refine Keeps.cut (kq := kq) (s0 := s0) y ?_ ?_; (on_goal 1 => subst y); (on_goal 2 => (intro hy; try clear_value y))) | ((fail_if_no_progress (extract_lets +onlyGivenNames y)); clear_value y) | with_reducible apply State.addFld_keeps | with_reducible apply State.noteSeq_keeps | with_reducible apply State.badSection_keeps | with_reducible apply State.cpSection_keeps | (with_reducible refine Keeps.foldl1 ?_ ?_; on_goal 2 => (intro t x ht; beta_reduce)) | split)

theorem State.egressTick_keeps {s0 s : State} (h : Keeps kq s0 s) : Keeps kq s0 (State.egressTick s) := by
  unfold State.egressTick
  repeat' (first | with_reducible assumption | ((fail_if_no_progress (extract_lets +onlyGivenNames y)); (have z_ := y; guard_hyp z_ : State; clear z_); refine Keeps.cut (kq := kq) (s0 := s0) y ?_ ?_; (on_goal 1 => subst y); (on_goal 2 => (intro hy; try clear_value y))) | ((fail_if_no_progress (extract_lets +onlyGivenNames y)); clear_value y) | with_reducible apply State.addFld_keeps | with_reducible apply State.emit_keeps | fail_if_no_progress (with_reducible apply Keeps.upd) | (with_reducible refine Keeps.foldl ?_ ?_; on_goal 2 => (intro t x ht; beta_reduce)))

theorem State.endPortCmds_keeps {s0 s : State} {k st} (h : Keeps kq s0 s) : Keeps kq s0 (State.endPortCmds s k st) := by
  unfold State.endPortCmds
  repeat' (first | with_reducible assumption | ((fail_if_no_progress (extract_lets +onlyGivenNames y)); (have z_ := y; guard_hyp z_ : State; clear z_); refine Keeps.cut (kq := kq) (s0 := s0) y ?_ ?_; (on_goal 1 => subst y); (on_goal 2 => (intro hy; try clear_value y))) | ((fail_if_no_progress (extract_lets +onlyGivenNames y)); clear_value y) | with_reducible apply State.finishNow_keeps | fail_if_no_progress (with_reducible apply Keeps.upd) | (with_reducible refine Keeps.foldl ?_ ?_; on_goal 2 => (intro t x ht; beta_reduce)))

theorem State.enterQuality_keeps {s0 s : State} (h : Keeps false s0 s) : Keeps false s0 (State.enterQuality s) := by
  unfold State.enterQuality
  repeat' (first | with_reducible assumption | with_reducible refine Keeps.ite ?_ ?_ | ((fail_if_no_progress (extract_lets +onlyGivenNames y)); (have z_ := y; guard_hyp z_ : State; clear z_); refine Keeps.cut (kq := false) (s0 := s0) y ?_ ?_; (on_goal 1 => subst y); (on_goal 2 => (intro hy; try clear_value y))) | ((fail_if_no_progress (extract_lets +onlyGivenNames y)); clear_value y) | with_reducible apply State.slotAdd_keeps | with_reducible apply State.addFld_keeps | with_reducible apply State.setFld_keeps | with_reducible apply State.hostWrite_keeps | fail_if_no_progress (with_reducible apply Keeps.upd) | (with_reducible refine Keeps.foldl ?_ ?_; on_goal 2 => (intro t x ht; beta_reduce)))

theorem State.forwardPtp_keeps {s0 s : State} {k mtype bs stamp res} (h : Keeps kq s0 s) : Keeps kq s0 (State.forwardPtp s k mtype bs stamp res) := by
  unfold State.forwardPtp
  repeat' (first | with_reducible assumption | with_reducible refine Keeps.ite ?_ ?_ | ((fail_if_no_progress (extract_lets +onlyGivenNames y)); (have z_ := y; guard_hyp z_ : State; clear z_); refine Keeps.cut (kq := kq) (s0 := s0) y ?_ ?_; (on_goal 1 => subst y); (on_goal 2 => (intro hy; try clear_value y))) | ((fail_if_no_progress (extract_lets +onlyGivenNames y)); refine Keeps.fn y ?_; subst y; beta_reduce) | ((fail_if_no_progress (extract_lets +onlyGivenNames y)); clear_value y) | with_reducible apply State.forwardTo_keeps | with_reducible apply State.queuePtp_keeps | fail_if_no_progress (with_reducible apply Keeps.upd) | (with_reducible refine Keeps.foldl ?_ ?_; on_goal 2 => (intro t x ht; beta_reduce)))

theorem State.storeSection_keeps {s0 s : State} {e x due u} (h : Keeps kq s0 s) : Keeps kq s0 (State.storeSection s e x due u) := by
  unfold State.storeSection
  repeat' (first | with_reducible assumption | with_reducible refine Keeps.ite ?_ ?_ | ((fail_if_no_progress (extract_lets +onlyGivenNames y)); clear_value y) | with_reducible apply State.loseSection_keeps | with_reducible apply State.addFld_keeps | fail_if_no_progress (with_reducible apply Keeps.upd))

theorem State.upSection_keeps {s0 s : State} {e hd o u} (h : Keeps kq s0 s) : Keeps kq s0 (State.upSection s e hd o u) := by
  unfold State.upSection
  extract_lets g nrb x a
  clear_value g nrb x a
  exact Keeps.ite (State.badSection_keeps h) (Keeps.ite (State.addFld_keeps h)
    (Keeps.ite (State.loseSection_keeps h) (State.storeSection_keeps (Keeps.ite (State.addFld_keeps h) h))))

theorem State.upMessage_keeps {s0 s : State} {port eaxc seq seqOk h_ secs} (h : Keeps kq s0 s) : Keeps kq s0 (State.upMessage s port eaxc seq seqOk h_ secs) := by
  unfold State.upMessage
  repeat' (first | with_reducible assumption | with_reducible refine Keeps.ite ?_ ?_ | ((fail_if_no_progress (extract_lets +onlyGivenNames y)); (have z_ := y; guard_hyp z_ : State; clear z_); refine Keeps.cut (kq := kq) (s0 := s0) y ?_ ?_; (on_goal 1 => subst y); (on_goal 2 => (intro hy; try clear_value y))) | ((fail_if_no_progress (extract_lets +onlyGivenNames y)); clear_value y) | with_reducible apply State.addFld_keeps | with_reducible apply State.noteSeq_keeps | with_reducible apply State.badSection_keeps | with_reducible apply State.upSection_keeps | (with_reducible refine Keeps.foldl1 ?_ ?_; on_goal 2 => (intro t x ht; beta_reduce)) | split)

theorem State.ptpIn_keeps {s0 s : State} {k mtype bs res} (h : Keeps kq s0 s) : Keeps kq s0 (State.ptpIn s k mtype bs res) := by
  unfold State.ptpIn
  repeat' (first | with_reducible assumption | with_reducible refine Keeps.ite ?_ ?_ | ((fail_if_no_progress (extract_lets +onlyGivenNames y)); (have z_ := y; guard_hyp z_ : State; clear z_); refine Keeps.cut (kq := kq) (s0 := s0) y ?_ ?_; (on_goal 1 => subst y); (on_goal 2 => (intro hy; try clear_value y))) | ((fail_if_no_progress (extract_lets +onlyGivenNames y)); (have z_ := y; guard_hyp z_ : State × _; clear z_); refine Keeps.cut1 (kq := kq) (s0 := s0) y ?_ ?_; (on_goal 1 => subst y); (on_goal 2 => (intro hy; try clear_value y))) | ((fail_if_no_progress (extract_lets +onlyGivenNames y)); (have z_ := y; guard_hyp z_ : _ × State; clear z_); refine Keeps.cut2 (kq := kq) (s0 := s0) y ?_ ?_; (on_goal 1 => subst y); (on_goal 2 => (intro hy; try clear_value y))) | ((fail_if_no_progress (extract_lets +onlyGivenNames y)); refine Keeps.fn y ?_; subst y; beta_reduce) | ((fail_if_no_progress (extract_lets +onlyGivenNames y)); clear_value y) | ((fail_if_no_progress (extract_lets +onlyGivenNames y)); subst y) | with_reducible apply State.stampAt_keeps | with_reducible apply State.forwardPtp_keeps | with_reducible apply State.answerDelay_keeps | with_reducible apply State.notePtp_keeps | with_reducible apply Done.plain_keeps | with_reducible apply Done.bad_keeps | fail_if_no_progress (with_reducible apply Keeps.upd) | (with_reducible refine Keeps.foldl ?_ ?_; on_goal 2 => (intro t x ht; beta_reduce)) | (with_reducible refine Keeps.foldl2 ?_ ?_; on_goal 2 => (intro t x ht; beta_reduce)) | with_reducible apply KeepsO.next | fail_if_no_progress (with_reducible apply Keeps.updFree) | (with_reducible refine Keeps.foldl1 ?_ ?_; on_goal 2 => (intro t x ht; beta_reduce)) | (with_reducible apply Keeps.fst; with_reducible assumption) | refine Keeps.ite ?_ ?_ | split | (intro a; intros; beta_reduce) | (with_reducible apply Keeps.snd; with_reducible assumption))

theorem State.handFrame_keeps {s0 s : State} {k f} (h : Keeps kq s0 s) : Keeps kq s0 (State.handFrame s k f) := by
  unfold State.handFrame
  repeat' (first | with_reducible assumption | with_reducible refine Keeps.ite ?_ ?_ | ((fail_if_no_progress (extract_lets +onlyGivenNames y)); (have z_ := y; guard_hyp z_ : State; clear z_); refine Keeps.cut (kq := kq) (s0 := s0) y ?_ ?_; (on_goal 1 => subst y); (on_goal 2 => (intro hy; try clear_value y))) | ((fail_if_no_progress (extract_lets +onlyGivenNames y)); (have z_ := y; guard_hyp z_ : State × _; clear z_); refine Keeps.cut1 (kq := kq) (s0 := s0) y ?_ ?_; (on_goal 1 => subst y); (on_goal 2 => (intro hy; try clear_value y))) | ((fail_if_no_progress (extract_lets +onlyGivenNames y)); (have z_ := y; guard_hyp z_ : _ × State; clear z_); refine Keeps.cut2 (kq := kq) (s0 := s0) y ?_ ?_; (on_goal 1 => subst y); (on_goal 2 => (intro hy; try clear_value y))) | ((fail_if_no_progress (extract_lets +onlyGivenNames y)); refine Keeps.fn y ?_; subst y; beta_reduce) | ((fail_if_no_progress (extract_lets +onlyGivenNames y)); clear_value y) | ((fail_if_no_progress (extract_lets +onlyGivenNames y)); subst y) | with_reducible apply State.addFld_keeps | with_reducible apply State.upMessage_keeps | with_reducible apply State.cpMessage_keeps | with_reducible apply State.putPrivi_keeps | with_reducible apply State.ptpIn_keeps | with_reducible apply Done.plain_keeps | with_reducible apply Done.bad_keeps | fail_if_no_progress (with_reducible apply Keeps.upd) | (with_reducible refine Keeps.foldl ?_ ?_; on_goal 2 => (intro t x ht; beta_reduce)) | (with_reducible refine Keeps.foldl2 ?_ ?_; on_goal 2 => (intro t x ht; beta_reduce)) | with_reducible apply KeepsO.next | fail_if_no_progress (with_reducible apply Keeps.updFree) | (with_reducible refine Keeps.foldl1 ?_ ?_; on_goal 2 => (intro t x ht; beta_reduce)) | (with_reducible apply Keeps.fst; with_reducible assumption) | refine Keeps.ite ?_ ?_ | split | (intro a; intros; beta_reduce) | (with_reducible apply Keeps.snd; with_reducible assumption))

theorem State.frameIn_keeps {s0 s : State} {k f} (h : Keeps kq s0 s) : Keeps kq s0 (State.frameIn s k f) := by
  unfold State.frameIn
  repeat' (first | with_reducible assumption | with_reducible refine Keeps.ite ?_ ?_ | with_reducible apply State.addFld_keeps | with_reducible apply State.handFrame_keeps | with_reducible apply State.noteItem_keeps)

theorem State.readBfWin_keeps {s0 s : State} (h : Keeps kq s0 s) : Keeps kq s0 (State.readBfWin s).2 := by
  unfold State.readBfWin
  repeat' (first | with_reducible assumption | ((fail_if_no_progress (extract_lets +onlyGivenNames y)); clear_value y) | with_reducible apply State.setFld_keeps)

theorem State.readMap_keeps {s0 s : State} (h : Keeps kq s0 s) : Keeps kq s0 (State.readMap s).2 := by
  unfold State.readMap
  repeat' (first | with_reducible assumption | ((fail_if_no_progress (extract_lets +onlyGivenNames y)); clear_value y) | with_reducible apply State.setFld_keeps)

theorem State.praBoundary_keeps {s0 s : State} (h : Keeps kq s0 s) : Keeps kq s0 (State.praBoundary s) := by
  unfold State.praBoundary
  repeat' (first | with_reducible assumption | with_reducible refine Keeps.ite ?_ ?_ | ((fail_if_no_progress (extract_lets +onlyGivenNames y)); (have z_ := y; guard_hyp z_ : State; clear z_); refine Keeps.cut (kq := kq) (s0 := s0) y ?_ ?_; (on_goal 1 => subst y); (on_goal 2 => (intro hy; try clear_value y))) | ((fail_if_no_progress (extract_lets +onlyGivenNames y)); clear_value y) | with_reducible apply State.addFld_keeps | fail_if_no_progress (with_reducible apply Keeps.upd) | (with_reducible refine Keeps.foldl ?_ ?_; on_goal 2 => (intro t x ht; beta_reduce)))

theorem execBfGetRetiredMask_keeps {s0 s : State} {tag} (h : Keeps kq s0 s) : KeepsO kq s0 (execBfGetRetiredMask tag s) := by
  unfold execBfGetRetiredMask
  repeat' (first | with_reducible assumption | with_reducible apply State.performStart_keeps | with_reducible apply State.finishNow_keeps | with_reducible apply KeepsO.next | (intro a; intros; beta_reduce))

theorem execFhConfigPort_keeps {s0 s : State} {tag} (h : Keeps kq s0 s) : KeepsO kq s0 (execFhConfigPort tag s) := by
  unfold execFhConfigPort
  repeat' (first | with_reducible assumption | with_reducible apply State.performStart_keeps | with_reducible apply State.refreshFhLoad_keeps | with_reducible apply State.configPort_keeps | with_reducible apply KeepsO.next | (intro a; intros; beta_reduce))

theorem execFhLinkDown_keeps {s0 s : State} {k} (h : Keeps kq s0 s) : KeepsO kq s0 (execFhLinkDown k s) := by
  unfold execFhLinkDown
  repeat' (first | with_reducible assumption | with_reducible apply State.portDown_keeps | with_reducible apply KeepsO.next)

theorem execFhRemoteFault_keeps {s0 s : State} {k} (h : Keeps kq s0 s) : KeepsO kq s0 (execFhRemoteFault k s) := by
  unfold execFhRemoteFault
  repeat' (first | with_reducible assumption | with_reducible refine KeepsO.ite ?_ ?_ | with_reducible apply State.raiseFree_keeps | with_reducible apply State.dropEgress_keeps | with_reducible apply State.setFld_keeps | with_reducible apply KeepsO.next)

theorem execFhRemoteFaultCleared_keeps {s0 s : State} {k} (h : Keeps kq s0 s) : KeepsO kq s0 (execFhRemoteFaultCleared k s) := by
  unfold execFhRemoteFaultCleared
  repeat' (first | with_reducible assumption | with_reducible apply State.setFld_keeps | with_reducible apply KeepsO.next)

theorem execFrameReceived_keeps {s0 s : State} {port f} (h : Keeps kq s0 s) : KeepsO kq s0 (execFrameReceived port f s) := by
  unfold execFrameReceived
  repeat' (first | with_reducible assumption | with_reducible refine Keeps.ite ?_ ?_ | with_reducible apply State.frameIn_keeps | with_reducible apply KeepsO.next)

theorem execPortAlignTimeout_keeps {s0 s : State} {k} (h : Keeps kq s0 s) : KeepsO kq s0 (execPortAlignTimeout k s) := by
  unfold execPortAlignTimeout
  repeat' (first | with_reducible assumption | ((fail_if_no_progress (extract_lets +onlyGivenNames y)); (have z_ := y; guard_hyp z_ : State; clear z_); refine Keeps.cut (kq := kq) (s0 := s0) y ?_ ?_; (on_goal 1 => subst y); (on_goal 2 => (intro hy; try clear_value y))) | ((fail_if_no_progress (extract_lets +onlyGivenNames y)); clear_value y) | with_reducible apply State.finishNow_keeps | fail_if_no_progress (with_reducible apply Keeps.upd) | (with_reducible refine Keeps.foldl ?_ ?_; on_goal 2 => (intro t x ht; beta_reduce)) | with_reducible apply KeepsO.next)

theorem execPortAligned_keeps {s0 s : State} {k} (h : Keeps kq s0 s) : KeepsO kq s0 (execPortAligned k s) := by
  unfold execPortAligned
  repeat' (first | with_reducible assumption | with_reducible refine KeepsO.ite ?_ ?_ | ((fail_if_no_progress (extract_lets +onlyGivenNames y)); (have z_ := y; guard_hyp z_ : State; clear z_); refine Keeps.cut (kq := kq) (s0 := s0) y ?_ ?_; (on_goal 1 => subst y); (on_goal 2 => (intro hy; try clear_value y))) | with_reducible apply State.setFld_keeps | with_reducible apply State.setPort_keeps | with_reducible apply State.raiseFree_keeps | with_reducible apply State.endPortCmds_keeps | with_reducible apply KeepsO.next)

theorem execPrachReadReport_keeps {s0 s : State} {tag} (h : Keeps kq s0 s) : KeepsO kq s0 (execPrachReadReport tag s) := by
  unfold execPrachReadReport
  repeat' (first | with_reducible assumption | with_reducible apply State.performStart_keeps | with_reducible apply State.finishNow_keeps | with_reducible apply KeepsO.next | (intro a; intros; beta_reduce))

end Sys2Proof.Machine
end

