-- ==== Sys2Proof/Laws/KeepsLinks.lean ====
section
/-!
SUPPORT. Sys2Proof/Laws/KeepsLinks.lean: what every state function leaves of the model's bookkeeping (`Keeps`): the cascade and the lanes.
-/
set_option linter.unusedTactic false
set_option linter.tactic.unusedName false
set_option linter.unreachableTactic false
set_option linter.unusedVariables false
namespace Sys2Proof.Machine

variable {kq : Bool}

theorem State.putLaneHw_keeps {s0 s : State} {l h_} (h : Keeps kq s0 s) : Keeps kq s0 (State.putLaneHw s l h_) := by
  unfold State.putLaneHw
  repeat' (first | with_reducible assumption | ((fail_if_no_progress (extract_lets +onlyGivenNames y)); clear_value y) | fail_if_no_progress (with_reducible apply Keeps.upd))

theorem State.reloadRx_keeps {s0 s : State} {l} (h : Keeps kq s0 s) : Keeps kq s0 (State.reloadRx s l) := by
  unfold State.reloadRx
  repeat' (first | with_reducible assumption | ((fail_if_no_progress (extract_lets +onlyGivenNames y)); clear_value y) | with_reducible apply State.putLaneHw_keeps)

theorem State.acqFail_keeps {s0 s : State} {l} (h : Keeps kq s0 s) : Keeps kq s0 (State.acqFail s l) := by
  unfold State.acqFail
  repeat' (first | with_reducible assumption | with_reducible refine Keeps.ite ?_ ?_ | with_reducible apply State.raiseFree_keeps | with_reducible apply State.addFld_keeps | with_reducible apply State.reloadRx_keeps)

theorem State.setLane_keeps {s0 s : State} {l x} (h : Keeps kq s0 s) : Keeps kq s0 (State.setLane s l x) := by
  unfold State.setLane
  repeat' (first | with_reducible assumption | with_reducible apply State.setFld_keeps)

theorem State.setCasPort_keeps {s0 s : State} {k x} (h : Keeps kq s0 s) : Keeps kq s0 (State.setCasPort s k x) := by
  unfold State.setCasPort
  repeat' (first | with_reducible assumption | with_reducible apply State.setFld_keeps)

theorem State.loseSubtree_keeps {s0 s : State} {h_ k} (h : Keeps kq s0 s) : Keeps kq s0 (State.loseSubtree s h_ k) := by
  unfold State.loseSubtree
  repeat' (first | with_reducible assumption | with_reducible refine Keeps.ite ?_ ?_ | ((fail_if_no_progress (extract_lets +onlyGivenNames y)); clear_value y) | with_reducible apply State.raise_keeps | fail_if_no_progress (with_reducible apply Keeps.upd))

theorem State.refreshPresent_keeps {s0 s : State} (h : Keeps kq s0 s) : Keeps kq s0 (State.refreshPresent s) := by
  unfold State.refreshPresent
  repeat' (first | with_reducible assumption | with_reducible refine Keeps.ite ?_ ?_ | with_reducible apply State.setFld_keeps)

theorem State.refreshCasState_keeps {s0 s : State} (h : Keeps kq s0 s) : Keeps kq s0 (State.refreshCasState s) := by
  unfold State.refreshCasState
  repeat' (first | with_reducible assumption | with_reducible apply State.setFld_keeps)

theorem State.casLeave_keeps {s0 s : State} {k x} (h : Keeps kq s0 s) : Keeps kq s0 (State.casLeave s k x) := by
  unfold State.casLeave
  repeat' (first | with_reducible assumption | with_reducible refine Keeps.ite ?_ ?_ | ((fail_if_no_progress (extract_lets +onlyGivenNames y)); (have z_ := y; guard_hyp z_ : State; clear z_); refine Keeps.cut (kq := kq) (s0 := s0) y ?_ ?_; (on_goal 1 => subst y); (on_goal 2 => (intro hy; try clear_value y))) | ((fail_if_no_progress (extract_lets +onlyGivenNames y)); clear_value y) | ((fail_if_no_progress (extract_lets +onlyGivenNames y)); subst y) | with_reducible apply State.setCasPort_keeps | with_reducible apply State.loseSubtree_keeps | with_reducible apply State.refreshPresent_keeps | with_reducible apply State.refreshCasState_keeps | fail_if_no_progress (with_reducible apply Keeps.upd))

theorem State.retireCas_keeps {s0 s : State} {k} (h : Keeps kq s0 s) : Keeps kq s0 (State.retireCas s k) := by
  unfold State.retireCas
  repeat' (first | with_reducible assumption | ((fail_if_no_progress (extract_lets +onlyGivenNames y)); (have z_ := y; guard_hyp z_ : State; clear z_); refine Keeps.cut (kq := kq) (s0 := s0) y ?_ ?_; (on_goal 1 => subst y); (on_goal 2 => (intro hy; try clear_value y))) | ((fail_if_no_progress (extract_lets +onlyGivenNames y)); clear_value y) | with_reducible apply State.casLeave_keeps | fail_if_no_progress (with_reducible apply Keeps.upd))

theorem State.retireLane_keeps {s0 s : State} {l} (h : Keeps kq s0 s) : Keeps kq s0 (State.retireLane s l) := by
  unfold State.retireLane
  repeat' (first | with_reducible assumption | with_reducible refine Keeps.ite ?_ ?_ | ((fail_if_no_progress (extract_lets +onlyGivenNames y)); (have z_ := y; guard_hyp z_ : State; clear z_); refine Keeps.cut (kq := kq) (s0 := s0) y ?_ ?_; (on_goal 1 => subst y); (on_goal 2 => (intro hy; try clear_value y))) | ((fail_if_no_progress (extract_lets +onlyGivenNames y)); clear_value y) | with_reducible apply State.setLane_keeps | with_reducible apply State.retirePort_keeps | with_reducible apply State.retireCas_keeps | fail_if_no_progress (with_reducible apply Keeps.upd) | (with_reducible refine Keeps.foldl ?_ ?_; on_goal 2 => (intro t x ht; beta_reduce)))

theorem State.adaptOp_keeps {s0 s : State} {c f} (hf : ∀ a0 a1, Keeps kq s0 a0 → Keeps kq s0 (f a0 a1)) (h : Keeps kq s0 s) : Keeps kq s0 (State.adaptOp s c f) := by
  unfold State.adaptOp
  repeat' (first | with_reducible assumption | ((fail_if_no_progress (extract_lets +onlyGivenNames y)); (have z_ := y; guard_hyp z_ : State; clear z_); refine Keeps.cut (kq := kq) (s0 := s0) y ?_ ?_; (on_goal 1 => subst y); (on_goal 2 => (intro hy; try clear_value y))) | ((fail_if_no_progress (extract_lets +onlyGivenNames y)); clear_value y) | with_reducible apply State.finishPart_keeps | with_reducible apply hf | (with_reducible refine Keeps.foldl ?_ ?_; on_goal 2 => (intro t x ht; beta_reduce)))

theorem State.rawCapture_keeps {s0 s : State} {l word} (h : Keeps kq s0 s) : Keeps kq s0 (State.rawCapture s l word) := by
  unfold State.rawCapture
  repeat' (first | with_reducible assumption | with_reducible refine Keeps.ite ?_ ?_ | with_reducible apply State.setFld_keeps | (with_reducible refine Keeps.foldl ?_ ?_; on_goal 2 => (intro t x ht; beta_reduce)))

theorem State.histClear_keeps {s0 s : State} {l} (h : Keeps kq s0 s) : Keeps kq s0 (State.histClear s l) := by
  unfold State.histClear
  repeat' (first | with_reducible assumption | with_reducible apply State.setFld_keeps | (with_reducible refine Keeps.foldl ?_ ?_; on_goal 2 => (intro t x ht; beta_reduce)))

theorem State.modXfer_keeps {s0 s : State} {m} (h : Keeps kq s0 s) : Keeps kq s0 (State.modXfer s m) := by
  unfold State.modXfer
  repeat' (first | with_reducible assumption | with_reducible refine Keeps.ite ?_ ?_ | ((fail_if_no_progress (extract_lets +onlyGivenNames y)); (have z_ := y; guard_hyp z_ : State; clear z_); refine Keeps.cut (kq := kq) (s0 := s0) y ?_ ?_; (on_goal 1 => subst y); (on_goal 2 => (intro hy; try clear_value y))) | ((fail_if_no_progress (extract_lets +onlyGivenNames y)); (have z_ := y; guard_hyp z_ : State × _; clear z_); refine Keeps.cut1 (kq := kq) (s0 := s0) y ?_ ?_; (on_goal 1 => subst y); (on_goal 2 => (intro hy; try clear_value y))) | ((fail_if_no_progress (extract_lets +onlyGivenNames y)); (have z_ := y; guard_hyp z_ : _ × State; clear z_); refine Keeps.cut2 (kq := kq) (s0 := s0) y ?_ ?_; (on_goal 1 => subst y); (on_goal 2 => (intro hy; try clear_value y))) | ((fail_if_no_progress (extract_lets +onlyGivenNames y)); refine Keeps.fn y ?_; subst y; beta_reduce) | ((fail_if_no_progress (extract_lets +onlyGivenNames y)); clear_value y) | ((fail_if_no_progress (extract_lets +onlyGivenNames y)); subst y) | with_reducible apply State.setFld_keeps | with_reducible apply State.emit_keeps | with_reducible apply Done.plain_keeps | with_reducible apply Done.bad_keeps | fail_if_no_progress (with_reducible apply Keeps.upd) | (with_reducible refine Keeps.foldl ?_ ?_; on_goal 2 => (intro t x ht; beta_reduce)) | (with_reducible refine Keeps.foldl2 ?_ ?_; on_goal 2 => (intro t x ht; beta_reduce)) | with_reducible apply KeepsO.next | fail_if_no_progress (with_reducible apply Keeps.updFree) | (with_reducible refine Keeps.foldl1 ?_ ?_; on_goal 2 => (intro t x ht; beta_reduce)) | (with_reducible apply Keeps.fst; with_reducible assumption) | refine Keeps.ite ?_ ?_ | split | (intro a; intros; beta_reduce) | (with_reducible apply Keeps.snd; with_reducible assumption))

theorem State.laneOff_keeps {s0 s : State} {l} (h : Keeps kq s0 s) : Keeps kq s0 (State.laneOff s l) := by
  unfold State.laneOff
  repeat' (first | with_reducible assumption | with_reducible refine Keeps.ite ?_ ?_ | with_reducible apply State.setFld_keeps | with_reducible apply State.setLane_keeps)

theorem State.lanesDown_keeps {s0 s : State} (h : Keeps kq s0 s) : Keeps kq s0 (State.lanesDown s) := by
  unfold State.lanesDown
  repeat' (first | with_reducible assumption | with_reducible apply State.laneOff_keeps | (with_reducible refine Keeps.foldl ?_ ?_; on_goal 2 => (intro t x ht; beta_reduce)))

theorem State.casLinkDown_keeps {s0 s : State} {k} (h : Keeps kq s0 s) : Keeps kq s0 (State.casLinkDown s k) := by
  unfold State.casLinkDown
  repeat' (first | with_reducible assumption | with_reducible refine Keeps.ite ?_ ?_ | with_reducible apply State.raiseFree_keeps | with_reducible apply State.addFld_keeps | with_reducible apply State.casLeave_keeps)

theorem State.lanePllUnlock_keeps {s0 s : State} {loop} (h : Keeps kq s0 s) : Keeps kq s0 (State.lanePllUnlock s loop) := by
  unfold State.lanePllUnlock
  repeat' (first | with_reducible assumption | with_reducible refine Keeps.ite ?_ ?_ | with_reducible apply State.raiseFree_keeps | with_reducible apply State.laneOff_keeps | (with_reducible refine Keeps.foldl ?_ ?_; on_goal 2 => (intro t x ht; beta_reduce)))

theorem State.loadPreset_keeps {s0 s : State} {l} (h : Keeps kq s0 s) : Keeps kq s0 (State.loadPreset s l) := by
  unfold State.loadPreset
  repeat' (first | with_reducible assumption | with_reducible apply State.putLaneHw_keeps)

theorem State.laneStart_keeps {s0 s : State} {l} (h : Keeps kq s0 s) : Keeps kq s0 (State.laneStart s l) := by
  unfold State.laneStart
  repeat' (first | with_reducible assumption | with_reducible refine Keeps.ite ?_ ?_ | with_reducible apply State.setLane_keeps | with_reducible apply State.loadPreset_keeps)

theorem State.lanePllLock_keeps {s0 s : State} {loop} (h : Keeps kq s0 s) : Keeps kq s0 (State.lanePllLock s loop) := by
  unfold State.lanePllLock
  repeat' (first | with_reducible assumption | with_reducible apply State.laneStart_keeps | (with_reducible refine Keeps.foldl ?_ ?_; on_goal 2 => (intro t x ht; beta_reduce)))

theorem State.lanesSafe_keeps {s0 s : State} (h : Keeps kq s0 s) : Keeps kq s0 (State.lanesSafe s) := by
  unfold State.lanesSafe
  repeat' (first | with_reducible assumption | with_reducible refine Keeps.ite ?_ ?_ | with_reducible apply State.setLane_keeps | with_reducible apply State.setFld_keeps | (with_reducible refine Keeps.foldl ?_ ?_; on_goal 2 => (intro t x ht; beta_reduce)))

theorem State.laneDone_keeps {s0 s : State} (h : Keeps kq s0 s) : Keeps kq s0 (State.laneDone s) := by
  unfold State.laneDone
  repeat' (first | with_reducible assumption | ((fail_if_no_progress (extract_lets +onlyGivenNames y)); (have z_ := y; guard_hyp z_ : State; clear z_); refine Keeps.cut (kq := kq) (s0 := s0) y ?_ ?_; (on_goal 1 => subst y); (on_goal 2 => (intro hy; try clear_value y))) | ((fail_if_no_progress (extract_lets +onlyGivenNames y)); refine Keeps.fn y ?_; subst y; beta_reduce) | ((fail_if_no_progress (extract_lets +onlyGivenNames y)); clear_value y) | with_reducible apply State.finishPart_keeps | fail_if_no_progress (with_reducible apply Keeps.upd) | (with_reducible refine Keeps.foldl ?_ ?_; on_goal 2 => (intro t x ht; beta_reduce)))

theorem State.laneResume_keeps {s0 s : State} {l} (h : Keeps kq s0 s) : Keeps kq s0 (State.laneResume s l) := by
  unfold State.laneResume
  repeat' (first | with_reducible assumption | with_reducible refine Keeps.ite ?_ ?_ | with_reducible apply State.laneDone_keeps | with_reducible apply State.setLane_keeps | with_reducible apply State.reloadRx_keeps)

theorem State.lanesUnsafe_keeps {s0 s : State} (h : Keeps kq s0 s) : Keeps kq s0 (State.lanesUnsafe s) := by
  unfold State.lanesUnsafe
  repeat' (first | with_reducible assumption | with_reducible apply State.laneResume_keeps | with_reducible apply State.setFld_keeps | (with_reducible refine Keeps.foldl ?_ ?_; on_goal 2 => (intro t x ht; beta_reduce)))

theorem State.setDepth_keeps {s0 s : State} {d} (h : Keeps kq s0 s) : Keeps kq s0 (State.setDepth s d) := by
  unfold State.setDepth
  repeat' (first | with_reducible assumption | with_reducible apply State.setFld_keeps)

theorem State.resetCas_keeps {s0 s : State} (h : Keeps kq s0 s) : Keeps kq s0 (State.resetCas s) := by
  unfold State.resetCas
  repeat' (first | with_reducible assumption | with_reducible refine Keeps.ite ?_ ?_ | ((fail_if_no_progress (extract_lets +onlyGivenNames y)); (have z_ := y; guard_hyp z_ : State; clear z_); refine Keeps.cut (kq := kq) (s0 := s0) y ?_ ?_; (on_goal 1 => subst y); (on_goal 2 => (intro hy; try clear_value y))) | ((fail_if_no_progress (extract_lets +onlyGivenNames y)); (have z_ := y; guard_hyp z_ : State × _; clear z_); refine Keeps.cut1 (kq := kq) (s0 := s0) y ?_ ?_; (on_goal 1 => subst y); (on_goal 2 => (intro hy; try clear_value y))) | ((fail_if_no_progress (extract_lets +onlyGivenNames y)); (have z_ := y; guard_hyp z_ : _ × State; clear z_); refine Keeps.cut2 (kq := kq) (s0 := s0) y ?_ ?_; (on_goal 1 => subst y); (on_goal 2 => (intro hy; try clear_value y))) | ((fail_if_no_progress (extract_lets +onlyGivenNames y)); refine Keeps.fn y ?_; subst y; beta_reduce) | ((fail_if_no_progress (extract_lets +onlyGivenNames y)); clear_value y) | ((fail_if_no_progress (extract_lets +onlyGivenNames y)); subst y) | with_reducible apply State.setDepth_keeps | with_reducible apply State.resetRange_keeps | with_reducible apply Done.plain_keeps | with_reducible apply Done.bad_keeps | fail_if_no_progress (with_reducible apply Keeps.upd) | (with_reducible refine Keeps.foldl ?_ ?_; on_goal 2 => (intro t x ht; beta_reduce)) | (with_reducible refine Keeps.foldl2 ?_ ?_; on_goal 2 => (intro t x ht; beta_reduce)) | with_reducible apply KeepsO.next | fail_if_no_progress (with_reducible apply Keeps.updFree) | (with_reducible refine Keeps.foldl1 ?_ ?_; on_goal 2 => (intro t x ht; beta_reduce)) | (with_reducible apply Keeps.fst; with_reducible assumption) | refine Keeps.ite ?_ ?_ | split | (intro a; intros; beta_reduce) | (with_reducible apply Keeps.snd; with_reducible assumption))

theorem State.resetLinks_keeps {s0 s : State} (h : Keeps kq s0 s) : Keeps kq s0 (State.resetLinks s) := by
  unfold State.resetLinks
  repeat' (first | with_reducible assumption | with_reducible refine Keeps.ite ?_ ?_ | ((fail_if_no_progress (extract_lets +onlyGivenNames y)); (have z_ := y; guard_hyp z_ : State; clear z_); refine Keeps.cut (kq := kq) (s0 := s0) y ?_ ?_; (on_goal 1 => subst y); (on_goal 2 => (intro hy; try clear_value y))) | ((fail_if_no_progress (extract_lets +onlyGivenNames y)); (have z_ := y; guard_hyp z_ : State × _; clear z_); refine Keeps.cut1 (kq := kq) (s0 := s0) y ?_ ?_; (on_goal 1 => subst y); (on_goal 2 => (intro hy; try clear_value y))) | ((fail_if_no_progress (extract_lets +onlyGivenNames y)); (have z_ := y; guard_hyp z_ : _ × State; clear z_); refine Keeps.cut2 (kq := kq) (s0 := s0) y ?_ ?_; (on_goal 1 => subst y); (on_goal 2 => (intro hy; try clear_value y))) | ((fail_if_no_progress (extract_lets +onlyGivenNames y)); refine Keeps.fn y ?_; subst y; beta_reduce) | ((fail_if_no_progress (extract_lets +onlyGivenNames y)); clear_value y) | ((fail_if_no_progress (extract_lets +onlyGivenNames y)); subst y) | with_reducible apply State.setPort_keeps | with_reducible apply State.resetCas_keeps | with_reducible apply Done.plain_keeps | with_reducible apply Done.bad_keeps | fail_if_no_progress (with_reducible apply Keeps.upd) | (with_reducible refine Keeps.foldl ?_ ?_; on_goal 2 => (intro t x ht; beta_reduce)) | (with_reducible refine Keeps.foldl2 ?_ ?_; on_goal 2 => (intro t x ht; beta_reduce)) | with_reducible apply KeepsO.next | fail_if_no_progress (with_reducible apply Keeps.updFree) | (with_reducible refine Keeps.foldl1 ?_ ?_; on_goal 2 => (intro t x ht; beta_reduce)) | (with_reducible apply Keeps.fst; with_reducible assumption) | refine Keeps.ite ?_ ?_ | split | (intro a; intros; beta_reduce) | (with_reducible apply Keeps.snd; with_reducible assumption))

theorem State.appSelect_keeps {s0 s : State} {m apps} (h : Keeps kq s0 s) : Keeps kq s0 (State.appSelect s m apps) := by
  unfold State.appSelect
  repeat' (first | with_reducible assumption | with_reducible refine Keeps.ite ?_ ?_ | ((fail_if_no_progress (extract_lets +onlyGivenNames y)); (have z_ := y; guard_hyp z_ : State; clear z_); refine Keeps.cut (kq := kq) (s0 := s0) y ?_ ?_; (on_goal 1 => subst y); (on_goal 2 => (intro hy; try clear_value y))) | ((fail_if_no_progress (extract_lets +onlyGivenNames y)); (have z_ := y; guard_hyp z_ : State × _; clear z_); refine Keeps.cut1 (kq := kq) (s0 := s0) y ?_ ?_; (on_goal 1 => subst y); (on_goal 2 => (intro hy; try clear_value y))) | ((fail_if_no_progress (extract_lets +onlyGivenNames y)); (have z_ := y; guard_hyp z_ : _ × State; clear z_); refine Keeps.cut2 (kq := kq) (s0 := s0) y ?_ ?_; (on_goal 1 => subst y); (on_goal 2 => (intro hy; try clear_value y))) | ((fail_if_no_progress (extract_lets +onlyGivenNames y)); refine Keeps.fn y ?_; subst y; beta_reduce) | ((fail_if_no_progress (extract_lets +onlyGivenNames y)); clear_value y) | ((fail_if_no_progress (extract_lets +onlyGivenNames y)); subst y) | with_reducible apply State.emit_keeps | with_reducible apply State.setFld_keeps | with_reducible apply State.raiseFree_keeps | with_reducible apply Done.plain_keeps | with_reducible apply Done.bad_keeps | fail_if_no_progress (with_reducible apply Keeps.upd) | (with_reducible refine Keeps.foldl ?_ ?_; on_goal 2 => (intro t x ht; beta_reduce)) | (with_reducible refine Keeps.foldl2 ?_ ?_; on_goal 2 => (intro t x ht; beta_reduce)) | with_reducible apply KeepsO.next | fail_if_no_progress (with_reducible apply Keeps.updFree) | (with_reducible refine Keeps.foldl1 ?_ ?_; on_goal 2 => (intro t x ht; beta_reduce)) | (with_reducible apply Keeps.fst; with_reducible assumption) | refine Keeps.ite ?_ ?_ | split | (intro a; intros; beta_reduce) | (with_reducible apply Keeps.snd; with_reducible assumption))

theorem State.casCommit_keeps {s0 s : State} {chs} (h : Keeps kq s0 s) : Keeps kq s0 (State.casCommit s chs) := by
  unfold State.casCommit
  repeat' (first | with_reducible assumption | with_reducible refine Keeps.ite ?_ ?_ | ((fail_if_no_progress (extract_lets +onlyGivenNames y)); (have z_ := y; guard_hyp z_ : State; clear z_); refine Keeps.cut (kq := kq) (s0 := s0) y ?_ ?_; (on_goal 1 => subst y); (on_goal 2 => (intro hy; try clear_value y))) | ((fail_if_no_progress (extract_lets +onlyGivenNames y)); clear_value y) | with_reducible apply State.setCasPort_keeps | with_reducible apply State.casLeave_keeps | with_reducible apply State.setDepth_keeps | with_reducible apply State.setFld_keeps | with_reducible apply State.refreshFhLoad_keeps | with_reducible apply State.refreshBfLoad_keeps | with_reducible apply State.refreshPresent_keeps | with_reducible apply State.refreshCasState_keeps | fail_if_no_progress (with_reducible apply Keeps.upd) | (with_reducible refine Keeps.foldl ?_ ?_; on_goal 2 => (intro t x ht; beta_reduce)) | split)

theorem State.casBad_keeps {s0 s : State} {k n} (h : Keeps kq s0 s) : Keeps kq s0 (State.casBad s k n) := by
  unfold State.casBad
  repeat' (first | with_reducible assumption | ((fail_if_no_progress (extract_lets +onlyGivenNames y)); clear_value y) | fail_if_no_progress (with_reducible apply Keeps.upd))

theorem State.cutoff_keeps {s0 s : State} (h : Keeps kq s0 s) : Keeps kq s0 (State.cutoff s) := by
  unfold State.cutoff
  repeat' (first | with_reducible assumption | with_reducible refine Keeps.ite ?_ ?_ | ((fail_if_no_progress (extract_lets +onlyGivenNames y)); (have z_ := y; guard_hyp z_ : State; clear z_); refine Keeps.cut (kq := kq) (s0 := s0) y ?_ ?_; (on_goal 1 => subst y); (on_goal 2 => (intro hy; try clear_value y))) | ((fail_if_no_progress (extract_lets +onlyGivenNames y)); clear_value y) | with_reducible apply State.raiseFree_keeps | with_reducible apply State.addFld_keeps | fail_if_no_progress (with_reducible apply Keeps.upd))

theorem State.casBoundary_keeps {s0 s : State} (h : Keeps kq s0 s) : Keeps kq s0 (State.casBoundary s) := by
  unfold State.casBoundary
  repeat' (first | with_reducible assumption | ((fail_if_no_progress (extract_lets +onlyGivenNames y)); refine Keeps.fn y ?_; subst y; beta_reduce) | ((fail_if_no_progress (extract_lets +onlyGivenNames y)); clear_value y) | with_reducible apply State.cutoff_keeps | fail_if_no_progress (with_reducible apply Keeps.upd))

theorem State.casDataDown_keeps {s0 s : State} {k f} (h : Keeps kq s0 s) : Keeps kq s0 (State.casDataDown s k f) := by
  unfold State.casDataDown
  repeat' (first | with_reducible assumption | with_reducible refine Keeps.ite ?_ ?_ | ((fail_if_no_progress (extract_lets +onlyGivenNames y)); clear_value y) | with_reducible apply State.putChan_keeps | with_reducible apply State.queueStage_keeps | fail_if_no_progress (with_reducible apply Keeps.upd) | (with_reducible refine Keeps.foldl ?_ ?_; on_goal 2 => (intro t x ht; beta_reduce)))

theorem State.takeAnswers_keeps {s0 s : State} {as} (h : Keeps kq s0 s) : Keeps kq s0 (State.takeAnswers s as) := by
  unfold State.takeAnswers
  repeat' (first | with_reducible assumption | with_reducible refine Keeps.ite ?_ ?_ | ((fail_if_no_progress (extract_lets +onlyGivenNames y)); clear_value y) | fail_if_no_progress (with_reducible apply Keeps.upd))

theorem State.casFromDown_keeps {s0 s : State} {k f} (h : Keeps kq s0 s) : Keeps kq s0 (State.casFromDown s k f) := by
  unfold State.casFromDown
  repeat' (first | with_reducible assumption | ((fail_if_no_progress (extract_lets +onlyGivenNames y)); (have z_ := y; guard_hyp z_ : State; clear z_); refine Keeps.cut (kq := kq) (s0 := s0) y ?_ ?_; (on_goal 1 => subst y); (on_goal 2 => (intro hy; try clear_value y))) | ((fail_if_no_progress (extract_lets +onlyGivenNames y)); clear_value y) | with_reducible apply State.takeAnswers_keeps | with_reducible apply State.refreshPresent_keeps | with_reducible apply State.loseSubtree_keeps | fail_if_no_progress (with_reducible apply Keeps.upd) | (with_reducible refine Keeps.foldl ?_ ?_; on_goal 2 => (intro t x ht; beta_reduce)))

theorem State.casFromUp_keeps {s0 s : State} {f} (h : Keeps kq s0 s) : Keeps kq s0 (State.casFromUp s f) := by
  unfold State.casFromUp
  repeat' (first | with_reducible assumption | with_reducible refine Keeps.ite ?_ ?_ | ((fail_if_no_progress (extract_lets +onlyGivenNames y)); (have z_ := y; guard_hyp z_ : State; clear z_); refine Keeps.cut (kq := kq) (s0 := s0) y ?_ ?_; (on_goal 1 => subst y); (on_goal 2 => (intro hy; try clear_value y))) | ((fail_if_no_progress (extract_lets +onlyGivenNames y)); clear_value y) | with_reducible apply State.setDepth_keeps | with_reducible apply State.setFld_keeps | with_reducible apply State.raiseFree_keeps | fail_if_no_progress (with_reducible apply Keeps.upd))

theorem State.casLinkUp_keeps {s0 s : State} {k} (h : Keeps kq s0 s) : Keeps kq s0 (State.casLinkUp s k) := by
  unfold State.casLinkUp
  repeat' (first | with_reducible assumption | with_reducible refine Keeps.ite ?_ ?_ | ((fail_if_no_progress (extract_lets +onlyGivenNames y)); (have z_ := y; guard_hyp z_ : State; clear z_); refine Keeps.cut (kq := kq) (s0 := s0) y ?_ ?_; (on_goal 1 => subst y); (on_goal 2 => (intro hy; try clear_value y))) | ((fail_if_no_progress (extract_lets +onlyGivenNames y)); clear_value y) | with_reducible apply State.setCasPort_keeps | with_reducible apply State.raiseFree_keeps | with_reducible apply State.refreshCasState_keeps | fail_if_no_progress (with_reducible apply Keeps.upd))

theorem State.casPtpIn_keeps {s0 s : State} {k mt bs res} (h : Keeps kq s0 s) : Keeps kq s0 (State.casPtpIn s k mt bs res) := by
  unfold State.casPtpIn
  repeat' (first | with_reducible assumption | with_reducible refine Keeps.ite ?_ ?_ | ((fail_if_no_progress (extract_lets +onlyGivenNames y)); (have z_ := y; guard_hyp z_ : State; clear z_); refine Keeps.cut (kq := kq) (s0 := s0) y ?_ ?_; (on_goal 1 => subst y); (on_goal 2 => (intro hy; try clear_value y))) | ((fail_if_no_progress (extract_lets +onlyGivenNames y)); (have z_ := y; guard_hyp z_ : State × _; clear z_); refine Keeps.cut1 (kq := kq) (s0 := s0) y ?_ ?_; (on_goal 1 => subst y); (on_goal 2 => (intro hy; try clear_value y))) | ((fail_if_no_progress (extract_lets +onlyGivenNames y)); (have z_ := y; guard_hyp z_ : _ × State; clear z_); refine Keeps.cut2 (kq := kq) (s0 := s0) y ?_ ?_; (on_goal 1 => subst y); (on_goal 2 => (intro hy; try clear_value y))) | ((fail_if_no_progress (extract_lets +onlyGivenNames y)); refine Keeps.fn y ?_; subst y; beta_reduce) | ((fail_if_no_progress (extract_lets +onlyGivenNames y)); clear_value y) | ((fail_if_no_progress (extract_lets +onlyGivenNames y)); subst y) | with_reducible apply State.stampAt_keeps | with_reducible apply State.forwardTo_keeps | with_reducible apply State.queuePtp_keeps | with_reducible apply State.answerDelay_keeps | with_reducible apply State.notePtp_keeps | with_reducible apply Done.plain_keeps | with_reducible apply Done.bad_keeps | fail_if_no_progress (with_reducible apply Keeps.upd) | (with_reducible refine Keeps.foldl ?_ ?_; on_goal 2 => (intro t x ht; beta_reduce)) | (with_reducible refine Keeps.foldl2 ?_ ?_; on_goal 2 => (intro t x ht; beta_reduce)) | with_reducible apply KeepsO.next | fail_if_no_progress (with_reducible apply Keeps.updFree) | (with_reducible refine Keeps.foldl1 ?_ ?_; on_goal 2 => (intro t x ht; beta_reduce)) | (with_reducible apply Keeps.fst; with_reducible assumption) | refine Keeps.ite ?_ ?_ | split | (intro a; intros; beta_reduce) | (with_reducible apply Keeps.snd; with_reducible assumption))

theorem State.casPtp_keeps {s0 s : State} {k f} (h : Keeps kq s0 s) : Keeps kq s0 (State.casPtp s k f) := by
  unfold State.casPtp
  repeat' (first | with_reducible assumption | with_reducible refine Keeps.ite ?_ ?_ | ((fail_if_no_progress (extract_lets +onlyGivenNames y)); clear_value y) | with_reducible apply State.casPtpIn_keeps | with_reducible apply Done.plain_keeps | (with_reducible refine Keeps.foldl ?_ ?_; on_goal 2 => (intro t x ht; beta_reduce)) | (with_reducible refine Keeps.foldl2 ?_ ?_; on_goal 2 => (intro t x ht; beta_reduce)))

theorem State.casRejoin_keeps {s0 s : State} {k} (h : Keeps kq s0 s) : Keeps kq s0 (State.casRejoin s k) := by
  unfold State.casRejoin
  repeat' (first | with_reducible assumption | with_reducible refine Keeps.ite ?_ ?_ | ((fail_if_no_progress (extract_lets +onlyGivenNames y)); clear_value y) | with_reducible apply State.refreshPresent_keeps | fail_if_no_progress (with_reducible apply Keeps.upd))

theorem State.countVoids_keeps {s0 s : State} {h_} (h : Keeps kq s0 s) : Keeps kq s0 (State.countVoids s h_) := by
  unfold State.countVoids
  repeat' (first | with_reducible assumption | with_reducible refine Keeps.ite ?_ ?_ | with_reducible apply State.addFld_keeps | with_reducible apply State.symbolAdd_keeps)

theorem State.totals_keeps {s0 s : State} (h : Keeps kq s0 s) : Keeps kq s0 (State.totals s) := by
  unfold State.totals
  repeat' (first | with_reducible assumption | with_reducible refine Keeps.ite ?_ ?_ | ((fail_if_no_progress (extract_lets +onlyGivenNames y)); (have z_ := y; guard_hyp z_ : State; clear z_); refine Keeps.cut (kq := kq) (s0 := s0) y ?_ ?_; (on_goal 1 => subst y); (on_goal 2 => (intro hy; try clear_value y))) | ((fail_if_no_progress (extract_lets +onlyGivenNames y)); clear_value y) | with_reducible apply State.countVoids_keeps | with_reducible apply State.addFld_keeps | with_reducible apply State.frameSymbol_keeps | fail_if_no_progress (with_reducible apply Keeps.upd) | (with_reducible refine Keeps.foldl ?_ ?_; on_goal 2 => (intro t x ht; beta_reduce)))

theorem State.voidLayers_keeps {s0 s : State} (h : Keeps kq s0 s) : Keeps kq s0 (State.voidLayers s) := by
  unfold State.voidLayers
  repeat' (first | with_reducible assumption | with_reducible refine Keeps.ite ?_ ?_ | ((fail_if_no_progress (extract_lets +onlyGivenNames y)); (have z_ := y; guard_hyp z_ : State; clear z_); refine Keeps.cut (kq := kq) (s0 := s0) y ?_ ?_; (on_goal 1 => subst y); (on_goal 2 => (intro hy; try clear_value y))) | ((fail_if_no_progress (extract_lets +onlyGivenNames y)); (have z_ := y; guard_hyp z_ : State × _; clear z_); refine Keeps.cut1 (kq := kq) (s0 := s0) y ?_ ?_; (on_goal 1 => subst y); (on_goal 2 => (intro hy; try clear_value y))) | ((fail_if_no_progress (extract_lets +onlyGivenNames y)); (have z_ := y; guard_hyp z_ : _ × State; clear z_); refine Keeps.cut2 (kq := kq) (s0 := s0) y ?_ ?_; (on_goal 1 => subst y); (on_goal 2 => (intro hy; try clear_value y))) | ((fail_if_no_progress (extract_lets +onlyGivenNames y)); refine Keeps.fn y ?_; subst y; beta_reduce) | ((fail_if_no_progress (extract_lets +onlyGivenNames y)); clear_value y) | ((fail_if_no_progress (extract_lets +onlyGivenNames y)); subst y) | with_reducible apply State.voidThenSettle_keeps | with_reducible apply State.voidAirTick_keeps | with_reducible apply Done.plain_keeps | with_reducible apply Done.bad_keeps | fail_if_no_progress (with_reducible apply Keeps.upd) | (with_reducible refine Keeps.foldl ?_ ?_; on_goal 2 => (intro t x ht; beta_reduce)) | (with_reducible refine Keeps.foldl2 ?_ ?_; on_goal 2 => (intro t x ht; beta_reduce)) | with_reducible apply KeepsO.next | fail_if_no_progress (with_reducible apply Keeps.updFree) | (with_reducible refine Keeps.foldl1 ?_ ?_; on_goal 2 => (intro t x ht; beta_reduce)) | (with_reducible apply Keeps.fst; with_reducible assumption) | refine Keeps.ite ?_ ?_ | split | (intro a; intros; beta_reduce) | (with_reducible apply Keeps.snd; with_reducible assumption))

theorem State.makeStagings_keeps {s0 s : State} (h : Keeps kq s0 s) : Keeps kq s0 (State.makeStagings s) := by
  unfold State.makeStagings
  repeat' (first | with_reducible assumption | with_reducible refine Keeps.ite ?_ ?_ | ((fail_if_no_progress (extract_lets +onlyGivenNames y)); (have z_ := y; guard_hyp z_ : State; clear z_); refine Keeps.cut (kq := kq) (s0 := s0) y ?_ ?_; (on_goal 1 => subst y); (on_goal 2 => (intro hy; try clear_value y))) | ((fail_if_no_progress (extract_lets +onlyGivenNames y)); clear_value y) | with_reducible apply State.setFld_keeps | with_reducible apply State.queueStage_keeps | fail_if_no_progress (with_reducible apply Keeps.upd))

theorem State.sendFinef_keeps {s0 s : State} {k} (h : Keeps kq s0 s) : Keeps kq s0 (State.sendFinef s k) := by
  unfold State.sendFinef
  repeat' (first | with_reducible assumption | ((fail_if_no_progress (extract_lets +onlyGivenNames y)); clear_value y) | with_reducible apply State.setFld_keeps | with_reducible apply State.emit_keeps | fail_if_no_progress (with_reducible apply Keeps.upd) | split)

theorem State.casTick_keeps {s0 s : State} (h : Keeps kq s0 s) : Keeps kq s0 (State.casTick s) := by
  unfold State.casTick
  repeat' (first | with_reducible assumption | with_reducible refine Keeps.ite ?_ ?_ | ((fail_if_no_progress (extract_lets +onlyGivenNames y)); (have z_ := y; guard_hyp z_ : State; clear z_); refine Keeps.cut (kq := kq) (s0 := s0) y ?_ ?_; (on_goal 1 => subst y); (on_goal 2 => (intro hy; try clear_value y))) | ((fail_if_no_progress (extract_lets +onlyGivenNames y)); (have z_ := y; guard_hyp z_ : State × _; clear z_); refine Keeps.cut1 (kq := kq) (s0 := s0) y ?_ ?_; (on_goal 1 => subst y); (on_goal 2 => (intro hy; try clear_value y))) | ((fail_if_no_progress (extract_lets +onlyGivenNames y)); (have z_ := y; guard_hyp z_ : _ × State; clear z_); refine Keeps.cut2 (kq := kq) (s0 := s0) y ?_ ?_; (on_goal 1 => subst y); (on_goal 2 => (intro hy; try clear_value y))) | ((fail_if_no_progress (extract_lets +onlyGivenNames y)); refine Keeps.fn y ?_; subst y; beta_reduce) | ((fail_if_no_progress (extract_lets +onlyGivenNames y)); clear_value y) | ((fail_if_no_progress (extract_lets +onlyGivenNames y)); subst y) | with_reducible apply State.totals_keeps | with_reducible apply State.casBad_keeps | with_reducible apply State.voidLayers_keeps | with_reducible apply State.makeStagings_keeps | with_reducible apply State.sendFinef_keeps | with_reducible apply State.setFld_keeps | with_reducible apply Done.plain_keeps | with_reducible apply Done.bad_keeps | fail_if_no_progress (with_reducible apply Keeps.upd) | (with_reducible refine Keeps.foldl ?_ ?_; on_goal 2 => (intro t x ht; beta_reduce)) | (with_reducible refine Keeps.foldl2 ?_ ?_; on_goal 2 => (intro t x ht; beta_reduce)) | with_reducible apply KeepsO.next | fail_if_no_progress (with_reducible apply Keeps.updFree) | (with_reducible refine Keeps.foldl1 ?_ ?_; on_goal 2 => (intro t x ht; beta_reduce)) | (with_reducible apply Keeps.fst; with_reducible assumption) | refine Keeps.ite ?_ ?_ | split | (intro a; intros; beta_reduce) | (with_reducible apply Keeps.snd; with_reducible assumption))

theorem State.chooseSwitch_keeps {s0 s : State} (h : Keeps kq s0 s) : Keeps kq s0 (State.chooseSwitch s) := by
  unfold State.chooseSwitch
  repeat' (first | with_reducible assumption | with_reducible refine Keeps.ite ?_ ?_ | ((fail_if_no_progress (extract_lets +onlyGivenNames y)); clear_value y) | fail_if_no_progress (with_reducible apply Keeps.upd))

theorem State.stageNext_keeps {s0 s : State} (h : Keeps kq s0 s) : Keeps kq s0 (State.stageNext s) := by
  unfold State.stageNext
  repeat' (first | with_reducible assumption | with_reducible refine Keeps.ite ?_ ?_ | ((fail_if_no_progress (extract_lets +onlyGivenNames y)); (have z_ := y; guard_hyp z_ : State; clear z_); refine Keeps.cut (kq := kq) (s0 := s0) y ?_ ?_; (on_goal 1 => subst y); (on_goal 2 => (intro hy; try clear_value y))) | ((fail_if_no_progress (extract_lets +onlyGivenNames y)); (have z_ := y; guard_hyp z_ : State × _; clear z_); refine Keeps.cut1 (kq := kq) (s0 := s0) y ?_ ?_; (on_goal 1 => subst y); (on_goal 2 => (intro hy; try clear_value y))) | ((fail_if_no_progress (extract_lets +onlyGivenNames y)); (have z_ := y; guard_hyp z_ : _ × State; clear z_); refine Keeps.cut2 (kq := kq) (s0 := s0) y ?_ ?_; (on_goal 1 => subst y); (on_goal 2 => (intro hy; try clear_value y))) | ((fail_if_no_progress (extract_lets +onlyGivenNames y)); refine Keeps.fn y ?_; subst y; beta_reduce) | ((fail_if_no_progress (extract_lets +onlyGivenNames y)); clear_value y) | ((fail_if_no_progress (extract_lets +onlyGivenNames y)); subst y) | with_reducible apply State.stageFor_keeps | with_reducible apply Done.plain_keeps | with_reducible apply Done.bad_keeps | fail_if_no_progress (with_reducible apply Keeps.upd) | (with_reducible refine Keeps.foldl ?_ ?_; on_goal 2 => (intro t x ht; beta_reduce)) | (with_reducible refine Keeps.foldl2 ?_ ?_; on_goal 2 => (intro t x ht; beta_reduce)) | with_reducible apply KeepsO.next | fail_if_no_progress (with_reducible apply Keeps.updFree) | (with_reducible refine Keeps.foldl1 ?_ ?_; on_goal 2 => (intro t x ht; beta_reduce)) | (with_reducible apply Keeps.fst; with_reducible assumption) | refine Keeps.ite ?_ ?_ | split | (intro a; intros; beta_reduce) | (with_reducible apply Keeps.snd; with_reducible assumption))

theorem State.casUse_keeps {s0 s : State} {k f} (h : Keeps kq s0 s) : Keeps kq s0 (State.casUse s k f) := by
  unfold State.casUse
  repeat' (first | with_reducible assumption | with_reducible refine Keeps.ite ?_ ?_ | ((fail_if_no_progress (extract_lets +onlyGivenNames y)); (have z_ := y; guard_hyp z_ : State; clear z_); refine Keeps.cut (kq := kq) (s0 := s0) y ?_ ?_; (on_goal 1 => subst y); (on_goal 2 => (intro hy; try clear_value y))) | ((fail_if_no_progress (extract_lets +onlyGivenNames y)); (have z_ := y; guard_hyp z_ : State × _; clear z_); refine Keeps.cut1 (kq := kq) (s0 := s0) y ?_ ?_; (on_goal 1 => subst y); (on_goal 2 => (intro hy; try clear_value y))) | ((fail_if_no_progress (extract_lets +onlyGivenNames y)); (have z_ := y; guard_hyp z_ : _ × State; clear z_); refine Keeps.cut2 (kq := kq) (s0 := s0) y ?_ ?_; (on_goal 1 => subst y); (on_goal 2 => (intro hy; try clear_value y))) | ((fail_if_no_progress (extract_lets +onlyGivenNames y)); refine Keeps.fn y ?_; subst y; beta_reduce) | ((fail_if_no_progress (extract_lets +onlyGivenNames y)); clear_value y) | ((fail_if_no_progress (extract_lets +onlyGivenNames y)); subst y) | with_reducible apply State.chooseSwitch_keeps | with_reducible apply State.casPtp_keeps | with_reducible apply State.stageNext_keeps | with_reducible apply State.casDataDown_keeps | with_reducible apply State.casFromUp_keeps | with_reducible apply State.casFromDown_keeps | with_reducible apply Done.plain_keeps | with_reducible apply Done.bad_keeps | fail_if_no_progress (with_reducible apply Keeps.upd) | (with_reducible refine Keeps.foldl ?_ ?_; on_goal 2 => (intro t x ht; beta_reduce)) | (with_reducible refine Keeps.foldl2 ?_ ?_; on_goal 2 => (intro t x ht; beta_reduce)) | with_reducible apply KeepsO.next | fail_if_no_progress (with_reducible apply Keeps.updFree) | (with_reducible refine Keeps.foldl1 ?_ ?_; on_goal 2 => (intro t x ht; beta_reduce)) | (with_reducible apply Keeps.fst; with_reducible assumption) | refine Keeps.ite ?_ ?_ | split | (intro a; intros; beta_reduce) | (with_reducible apply Keeps.snd; with_reducible assumption))

theorem State.putPat_keeps {s0 s : State} {l h_} (h : Keeps kq s0 s) : Keeps kq s0 (State.putPat s l h_) := by
  unfold State.putPat
  repeat' (first | with_reducible assumption | with_reducible refine Keeps.ite ?_ ?_ | ((fail_if_no_progress (extract_lets +onlyGivenNames y)); (have z_ := y; guard_hyp z_ : State; clear z_); refine Keeps.cut (kq := kq) (s0 := s0) y ?_ ?_; (on_goal 1 => subst y); (on_goal 2 => (intro hy; try clear_value y))) | ((fail_if_no_progress (extract_lets +onlyGivenNames y)); (have z_ := y; guard_hyp z_ : State × _; clear z_); refine Keeps.cut1 (kq := kq) (s0 := s0) y ?_ ?_; (on_goal 1 => subst y); (on_goal 2 => (intro hy; try clear_value y))) | ((fail_if_no_progress (extract_lets +onlyGivenNames y)); (have z_ := y; guard_hyp z_ : _ × State; clear z_); refine Keeps.cut2 (kq := kq) (s0 := s0) y ?_ ?_; (on_goal 1 => subst y); (on_goal 2 => (intro hy; try clear_value y))) | ((fail_if_no_progress (extract_lets +onlyGivenNames y)); refine Keeps.fn y ?_; subst y; beta_reduce) | ((fail_if_no_progress (extract_lets +onlyGivenNames y)); clear_value y) | ((fail_if_no_progress (extract_lets +onlyGivenNames y)); subst y) | with_reducible apply Done.plain_keeps | with_reducible apply Done.bad_keeps | fail_if_no_progress (with_reducible apply Keeps.upd) | (with_reducible refine Keeps.foldl ?_ ?_; on_goal 2 => (intro t x ht; beta_reduce)) | (with_reducible refine Keeps.foldl2 ?_ ?_; on_goal 2 => (intro t x ht; beta_reduce)) | with_reducible apply KeepsO.next | fail_if_no_progress (with_reducible apply Keeps.updFree) | (with_reducible refine Keeps.foldl1 ?_ ?_; on_goal 2 => (intro t x ht; beta_reduce)) | (with_reducible apply Keeps.fst; with_reducible assumption) | refine Keeps.ite ?_ ?_ | split | (intro a; intros; beta_reduce) | (with_reducible apply Keeps.snd; with_reducible assumption))

theorem State.countBits_keeps {s0 s : State} {l n} (h : Keeps kq s0 s) : Keeps kq s0 (State.countBits s l n) := by
  unfold State.countBits
  repeat' (first | with_reducible assumption | with_reducible refine Keeps.ite ?_ ?_ | ((fail_if_no_progress (extract_lets +onlyGivenNames y)); (have z_ := y; guard_hyp z_ : State; clear z_); refine Keeps.cut (kq := kq) (s0 := s0) y ?_ ?_; (on_goal 1 => subst y); (on_goal 2 => (intro hy; try clear_value y))) | ((fail_if_no_progress (extract_lets +onlyGivenNames y)); (have z_ := y; guard_hyp z_ : State × _; clear z_); refine Keeps.cut1 (kq := kq) (s0 := s0) y ?_ ?_; (on_goal 1 => subst y); (on_goal 2 => (intro hy; try clear_value y))) | ((fail_if_no_progress (extract_lets +onlyGivenNames y)); (have z_ := y; guard_hyp z_ : _ × State; clear z_); refine Keeps.cut2 (kq := kq) (s0 := s0) y ?_ ?_; (on_goal 1 => subst y); (on_goal 2 => (intro hy; try clear_value y))) | ((fail_if_no_progress (extract_lets +onlyGivenNames y)); refine Keeps.fn y ?_; subst y; beta_reduce) | ((fail_if_no_progress (extract_lets +onlyGivenNames y)); clear_value y) | ((fail_if_no_progress (extract_lets +onlyGivenNames y)); subst y) | with_reducible apply Done.plain_keeps | with_reducible apply Done.bad_keeps | fail_if_no_progress (with_reducible apply Keeps.upd) | (with_reducible refine Keeps.foldl ?_ ?_; on_goal 2 => (intro t x ht; beta_reduce)) | (with_reducible refine Keeps.foldl2 ?_ ?_; on_goal 2 => (intro t x ht; beta_reduce)) | with_reducible apply KeepsO.next | fail_if_no_progress (with_reducible apply Keeps.updFree) | (with_reducible refine Keeps.foldl1 ?_ ?_; on_goal 2 => (intro t x ht; beta_reduce)) | (with_reducible apply Keeps.fst; with_reducible assumption) | refine Keeps.ite ?_ ?_ | split | (intro a; intros; beta_reduce) | (with_reducible apply Keeps.snd; with_reducible assumption))

theorem State.checkTick_keeps {s0 s : State} {l xs} (h : Keeps kq s0 s) : Keeps kq s0 (State.checkTick s l xs) := by
  unfold State.checkTick
  repeat' (first | with_reducible assumption | with_reducible refine Keeps.ite ?_ ?_ | ((fail_if_no_progress (extract_lets +onlyGivenNames y)); (have z_ := y; guard_hyp z_ : State; clear z_); refine Keeps.cut (kq := kq) (s0 := s0) y ?_ ?_; (on_goal 1 => subst y); (on_goal 2 => (intro hy; try clear_value y))) | ((fail_if_no_progress (extract_lets +onlyGivenNames y)); (have z_ := y; guard_hyp z_ : State × _; clear z_); refine Keeps.cut1 (kq := kq) (s0 := s0) y ?_ ?_; (on_goal 1 => subst y); (on_goal 2 => (intro hy; try clear_value y))) | ((fail_if_no_progress (extract_lets +onlyGivenNames y)); (have z_ := y; guard_hyp z_ : _ × State; clear z_); refine Keeps.cut2 (kq := kq) (s0 := s0) y ?_ ?_; (on_goal 1 => subst y); (on_goal 2 => (intro hy; try clear_value y))) | ((fail_if_no_progress (extract_lets +onlyGivenNames y)); refine Keeps.fn y ?_; subst y; beta_reduce) | ((fail_if_no_progress (extract_lets +onlyGivenNames y)); clear_value y) | ((fail_if_no_progress (extract_lets +onlyGivenNames y)); subst y) | with_reducible apply State.putPat_keeps | with_reducible apply State.countBits_keeps | with_reducible apply Done.plain_keeps | with_reducible apply Done.bad_keeps | fail_if_no_progress (with_reducible apply Keeps.upd) | (with_reducible refine Keeps.foldl ?_ ?_; on_goal 2 => (intro t x ht; beta_reduce)) | (with_reducible refine Keeps.foldl2 ?_ ?_; on_goal 2 => (intro t x ht; beta_reduce)) | with_reducible apply KeepsO.next | fail_if_no_progress (with_reducible apply Keeps.updFree) | (with_reducible refine Keeps.foldl1 ?_ ?_; on_goal 2 => (intro t x ht; beta_reduce)) | (with_reducible apply Keeps.fst; with_reducible assumption) | refine Keeps.ite ?_ ?_ | split | (intro a; intros; beta_reduce) | (with_reducible apply Keeps.snd; with_reducible assumption))

theorem State.checkerLock_keeps {s0 s : State} {l} (h : Keeps kq s0 s) : Keeps kq s0 (State.checkerLock s l) := by
  unfold State.checkerLock
  repeat' (first | with_reducible assumption | with_reducible refine Keeps.ite ?_ ?_ | ((fail_if_no_progress (extract_lets +onlyGivenNames y)); (have z_ := y; guard_hyp z_ : State; clear z_); refine Keeps.cut (kq := kq) (s0 := s0) y ?_ ?_; (on_goal 1 => subst y); (on_goal 2 => (intro hy; try clear_value y))) | ((fail_if_no_progress (extract_lets +onlyGivenNames y)); (have z_ := y; guard_hyp z_ : State × _; clear z_); refine Keeps.cut1 (kq := kq) (s0 := s0) y ?_ ?_; (on_goal 1 => subst y); (on_goal 2 => (intro hy; try clear_value y))) | ((fail_if_no_progress (extract_lets +onlyGivenNames y)); (have z_ := y; guard_hyp z_ : _ × State; clear z_); refine Keeps.cut2 (kq := kq) (s0 := s0) y ?_ ?_; (on_goal 1 => subst y); (on_goal 2 => (intro hy; try clear_value y))) | ((fail_if_no_progress (extract_lets +onlyGivenNames y)); refine Keeps.fn y ?_; subst y; beta_reduce) | ((fail_if_no_progress (extract_lets +onlyGivenNames y)); clear_value y) | ((fail_if_no_progress (extract_lets +onlyGivenNames y)); subst y) | with_reducible apply State.setFld_keeps | with_reducible apply State.putPat_keeps | with_reducible apply State.countBits_keeps | with_reducible apply Done.plain_keeps | with_reducible apply Done.bad_keeps | fail_if_no_progress (with_reducible apply Keeps.upd) | (with_reducible refine Keeps.foldl ?_ ?_; on_goal 2 => (intro t x ht; beta_reduce)) | (with_reducible refine Keeps.foldl2 ?_ ?_; on_goal 2 => (intro t x ht; beta_reduce)) | with_reducible apply KeepsO.next | fail_if_no_progress (with_reducible apply Keeps.updFree) | (with_reducible refine Keeps.foldl1 ?_ ?_; on_goal 2 => (intro t x ht; beta_reduce)) | (with_reducible apply Keeps.fst; with_reducible assumption) | refine Keeps.ite ?_ ?_ | split | (intro a; intros; beta_reduce) | (with_reducible apply Keeps.snd; with_reducible assumption))

theorem State.checkerLoss_keeps {s0 s : State} {l} (h : Keeps kq s0 s) : Keeps kq s0 (State.checkerLoss s l) := by
  unfold State.checkerLoss
  repeat' (first | with_reducible assumption | with_reducible refine Keeps.ite ?_ ?_ | ((fail_if_no_progress (extract_lets +onlyGivenNames y)); (have z_ := y; guard_hyp z_ : State; clear z_); refine Keeps.cut (kq := kq) (s0 := s0) y ?_ ?_; (on_goal 1 => subst y); (on_goal 2 => (intro hy; try clear_value y))) | ((fail_if_no_progress (extract_lets +onlyGivenNames y)); (have z_ := y; guard_hyp z_ : State × _; clear z_); refine Keeps.cut1 (kq := kq) (s0 := s0) y ?_ ?_; (on_goal 1 => subst y); (on_goal 2 => (intro hy; try clear_value y))) | ((fail_if_no_progress (extract_lets +onlyGivenNames y)); (have z_ := y; guard_hyp z_ : _ × State; clear z_); refine Keeps.cut2 (kq := kq) (s0 := s0) y ?_ ?_; (on_goal 1 => subst y); (on_goal 2 => (intro hy; try clear_value y))) | ((fail_if_no_progress (extract_lets +onlyGivenNames y)); refine Keeps.fn y ?_; subst y; beta_reduce) | ((fail_if_no_progress (extract_lets +onlyGivenNames y)); clear_value y) | ((fail_if_no_progress (extract_lets +onlyGivenNames y)); subst y) | with_reducible apply State.addFld_keeps | with_reducible apply State.setFld_keeps | with_reducible apply State.putPat_keeps | with_reducible apply Done.plain_keeps | with_reducible apply Done.bad_keeps | fail_if_no_progress (with_reducible apply Keeps.upd) | (with_reducible refine Keeps.foldl ?_ ?_; on_goal 2 => (intro t x ht; beta_reduce)) | (with_reducible refine Keeps.foldl2 ?_ ?_; on_goal 2 => (intro t x ht; beta_reduce)) | with_reducible apply KeepsO.next | fail_if_no_progress (with_reducible apply Keeps.updFree) | (with_reducible refine Keeps.foldl1 ?_ ?_; on_goal 2 => (intro t x ht; beta_reduce)) | (with_reducible apply Keeps.fst; with_reducible assumption) | refine Keeps.ite ?_ ?_ | split | (intro a; intros; beta_reduce) | (with_reducible apply Keeps.snd; with_reducible assumption))

theorem execCasConfig_keeps {s0 s : State} {tag} (h : Keeps kq s0 s) : KeepsO kq s0 (execCasConfig tag s) := by
  unfold execCasConfig
  repeat' (first | with_reducible assumption | with_reducible apply State.performCommit_keeps | with_reducible apply State.armCmd_keeps | with_reducible apply KeepsO.next | (intro a; intros; beta_reduce))

theorem State.meritTick_keeps {s0 s : State} {l m} (h : Keeps kq s0 s) : Keeps kq s0 (State.meritTick s l m) := by
  unfold State.meritTick
  repeat' (first | with_reducible assumption | with_reducible refine Keeps.ite ?_ ?_ | ((fail_if_no_progress (extract_lets +onlyGivenNames y)); (have z_ := y; guard_hyp z_ : State; clear z_); refine Keeps.cut (kq := kq) (s0 := s0) y ?_ ?_; (on_goal 1 => subst y); (on_goal 2 => (intro hy; try clear_value y))) | ((fail_if_no_progress (extract_lets +onlyGivenNames y)); (have z_ := y; guard_hyp z_ : State × _; clear z_); refine Keeps.cut1 (kq := kq) (s0 := s0) y ?_ ?_; (on_goal 1 => subst y); (on_goal 2 => (intro hy; try clear_value y))) | ((fail_if_no_progress (extract_lets +onlyGivenNames y)); (have z_ := y; guard_hyp z_ : _ × State; clear z_); refine Keeps.cut2 (kq := kq) (s0 := s0) y ?_ ?_; (on_goal 1 => subst y); (on_goal 2 => (intro hy; try clear_value y))) | ((fail_if_no_progress (extract_lets +onlyGivenNames y)); refine Keeps.fn y ?_; subst y; beta_reduce) | ((fail_if_no_progress (extract_lets +onlyGivenNames y)); clear_value y) | ((fail_if_no_progress (extract_lets +onlyGivenNames y)); subst y) | with_reducible apply State.putLaneHw_keeps | with_reducible apply Done.plain_keeps | with_reducible apply Done.bad_keeps | fail_if_no_progress (with_reducible apply Keeps.upd) | (with_reducible refine Keeps.foldl ?_ ?_; on_goal 2 => (intro t x ht; beta_reduce)) | (with_reducible refine Keeps.foldl2 ?_ ?_; on_goal 2 => (intro t x ht; beta_reduce)) | with_reducible apply KeepsO.next | fail_if_no_progress (with_reducible apply Keeps.updFree) | (with_reducible refine Keeps.foldl1 ?_ ?_; on_goal 2 => (intro t x ht; beta_reduce)) | (with_reducible apply Keeps.fst; with_reducible assumption) | refine Keeps.ite ?_ ?_ | split | (intro a; intros; beta_reduce) | (with_reducible apply Keeps.snd; with_reducible assumption))

theorem State.receive_keeps {s0 s : State} {x} (h : Keeps kq s0 s) : Keeps kq s0 (State.receive s x) := by
  unfold State.receive
  repeat' (first | with_reducible assumption | with_reducible refine Keeps.ite ?_ ?_ | ((fail_if_no_progress (extract_lets +onlyGivenNames y)); (have z_ := y; guard_hyp z_ : State; clear z_); refine Keeps.cut (kq := kq) (s0 := s0) y ?_ ?_; (on_goal 1 => subst y); (on_goal 2 => (intro hy; try clear_value y))) | ((fail_if_no_progress (extract_lets +onlyGivenNames y)); (have z_ := y; guard_hyp z_ : State × _; clear z_); refine Keeps.cut1 (kq := kq) (s0 := s0) y ?_ ?_; (on_goal 1 => subst y); (on_goal 2 => (intro hy; try clear_value y))) | ((fail_if_no_progress (extract_lets +onlyGivenNames y)); (have z_ := y; guard_hyp z_ : _ × State; clear z_); refine Keeps.cut2 (kq := kq) (s0 := s0) y ?_ ?_; (on_goal 1 => subst y); (on_goal 2 => (intro hy; try clear_value y))) | ((fail_if_no_progress (extract_lets +onlyGivenNames y)); refine Keeps.fn y ?_; subst y; beta_reduce) | ((fail_if_no_progress (extract_lets +onlyGivenNames y)); clear_value y) | ((fail_if_no_progress (extract_lets +onlyGivenNames y)); subst y) | with_reducible apply State.meritTick_keeps | with_reducible apply State.putLaneHw_keeps | with_reducible apply State.checkTick_keeps | with_reducible apply Done.plain_keeps | with_reducible apply Done.bad_keeps | fail_if_no_progress (with_reducible apply Keeps.upd) | (with_reducible refine Keeps.foldl ?_ ?_; on_goal 2 => (intro t x ht; beta_reduce)) | (with_reducible refine Keeps.foldl2 ?_ ?_; on_goal 2 => (intro t x ht; beta_reduce)) | with_reducible apply KeepsO.next | fail_if_no_progress (with_reducible apply Keeps.updFree) | (with_reducible refine Keeps.foldl1 ?_ ?_; on_goal 2 => (intro t x ht; beta_reduce)) | (with_reducible apply Keeps.fst; with_reducible assumption) | refine Keeps.ite ?_ ?_ | split | (intro a; intros; beta_reduce) | (with_reducible apply Keeps.snd; with_reducible assumption))

theorem State.laneChange_keeps {s0 s : State} {x} (h : Keeps kq s0 s) : Keeps kq s0 (State.laneChange s x) := by
  unfold State.laneChange
  repeat' (first | with_reducible assumption | with_reducible refine Keeps.ite ?_ ?_ | ((fail_if_no_progress (extract_lets +onlyGivenNames y)); (have z_ := y; guard_hyp z_ : State; clear z_); refine Keeps.cut (kq := kq) (s0 := s0) y ?_ ?_; (on_goal 1 => subst y); (on_goal 2 => (intro hy; try clear_value y))) | ((fail_if_no_progress (extract_lets +onlyGivenNames y)); (have z_ := y; guard_hyp z_ : State × _; clear z_); refine Keeps.cut1 (kq := kq) (s0 := s0) y ?_ ?_; (on_goal 1 => subst y); (on_goal 2 => (intro hy; try clear_value y))) | ((fail_if_no_progress (extract_lets +onlyGivenNames y)); (have z_ := y; guard_hyp z_ : _ × State; clear z_); refine Keeps.cut2 (kq := kq) (s0 := s0) y ?_ ?_; (on_goal 1 => subst y); (on_goal 2 => (intro hy; try clear_value y))) | ((fail_if_no_progress (extract_lets +onlyGivenNames y)); refine Keeps.fn y ?_; subst y; beta_reduce) | ((fail_if_no_progress (extract_lets +onlyGivenNames y)); clear_value y) | ((fail_if_no_progress (extract_lets +onlyGivenNames y)); subst y) | with_reducible apply State.setFld_keeps | with_reducible apply State.checkerLoss_keeps | with_reducible apply State.putPat_keeps | with_reducible apply Done.plain_keeps | with_reducible apply Done.bad_keeps | fail_if_no_progress (with_reducible apply Keeps.upd) | (with_reducible refine Keeps.foldl ?_ ?_; on_goal 2 => (intro t x ht; beta_reduce)) | (with_reducible refine Keeps.foldl2 ?_ ?_; on_goal 2 => (intro t x ht; beta_reduce)) | with_reducible apply KeepsO.next | fail_if_no_progress (with_reducible apply Keeps.updFree) | (with_reducible refine Keeps.foldl1 ?_ ?_; on_goal 2 => (intro t x ht; beta_reduce)) | (with_reducible apply Keeps.fst; with_reducible assumption) | refine Keeps.ite ?_ ?_ | split | (intro a; intros; beta_reduce) | (with_reducible apply Keeps.snd; with_reducible assumption))

theorem State.laneTick_keeps {s0 s : State} {ins} (h : Keeps kq s0 s) : Keeps kq s0 (State.laneTick s ins) := by
  unfold State.laneTick
  repeat' (first | with_reducible assumption | with_reducible refine Keeps.ite ?_ ?_ | ((fail_if_no_progress (extract_lets +onlyGivenNames y)); (have z_ := y; guard_hyp z_ : State; clear z_); refine Keeps.cut (kq := kq) (s0 := s0) y ?_ ?_; (on_goal 1 => subst y); (on_goal 2 => (intro hy; try clear_value y))) | ((fail_if_no_progress (extract_lets +onlyGivenNames y)); (have z_ := y; guard_hyp z_ : State × _; clear z_); refine Keeps.cut1 (kq := kq) (s0 := s0) y ?_ ?_; (on_goal 1 => subst y); (on_goal 2 => (intro hy; try clear_value y))) | ((fail_if_no_progress (extract_lets +onlyGivenNames y)); (have z_ := y; guard_hyp z_ : _ × State; clear z_); refine Keeps.cut2 (kq := kq) (s0 := s0) y ?_ ?_; (on_goal 1 => subst y); (on_goal 2 => (intro hy; try clear_value y))) | ((fail_if_no_progress (extract_lets +onlyGivenNames y)); refine Keeps.fn y ?_; subst y; beta_reduce) | ((fail_if_no_progress (extract_lets +onlyGivenNames y)); clear_value y) | ((fail_if_no_progress (extract_lets +onlyGivenNames y)); subst y) | with_reducible apply State.receive_keeps | with_reducible apply State.putPat_keeps | with_reducible apply State.setLane_keeps | with_reducible apply State.reloadRx_keeps | with_reducible apply State.putLaneHw_keeps | with_reducible apply State.laneChange_keeps | with_reducible apply Done.plain_keeps | with_reducible apply Done.bad_keeps | fail_if_no_progress (with_reducible apply Keeps.upd) | (with_reducible refine Keeps.foldl ?_ ?_; on_goal 2 => (intro t x ht; beta_reduce)) | (with_reducible refine Keeps.foldl2 ?_ ?_; on_goal 2 => (intro t x ht; beta_reduce)) | with_reducible apply KeepsO.next | fail_if_no_progress (with_reducible apply Keeps.updFree) | (with_reducible refine Keeps.foldl1 ?_ ?_; on_goal 2 => (intro t x ht; beta_reduce)) | (with_reducible apply Keeps.fst; with_reducible assumption) | refine Keeps.ite ?_ ?_ | split | (intro a; intros; beta_reduce) | (with_reducible apply Keeps.snd; with_reducible assumption))

theorem State.stopPrbs_keeps {s0 s : State} {l} (h : Keeps kq s0 s) : Keeps kq s0 (State.stopPrbs s l) := by
  unfold State.stopPrbs
  repeat' (first | with_reducible assumption | ((fail_if_no_progress (extract_lets +onlyGivenNames y)); (have z_ := y; guard_hyp z_ : State; clear z_); refine Keeps.cut (kq := kq) (s0 := s0) y ?_ ?_; (on_goal 1 => subst y); (on_goal 2 => (intro hy; try clear_value y))) | ((fail_if_no_progress (extract_lets +onlyGivenNames y)); clear_value y) | with_reducible apply State.setFld_keeps | fail_if_no_progress (with_reducible apply Keeps.upd))

theorem State.setGroup_keeps {s0 s : State} {c apps} (h : Keeps kq s0 s) : Keeps kq s0 (State.setGroup s c apps) := by
  unfold State.setGroup
  repeat' (first | with_reducible assumption | with_reducible refine Keeps.ite ?_ ?_ | ((fail_if_no_progress (extract_lets +onlyGivenNames y)); (have z_ := y; guard_hyp z_ : State; clear z_); refine Keeps.cut (kq := kq) (s0 := s0) y ?_ ?_; (on_goal 1 => subst y); (on_goal 2 => (intro hy; try clear_value y))) | ((fail_if_no_progress (extract_lets +onlyGivenNames y)); (have z_ := y; guard_hyp z_ : State × _; clear z_); refine Keeps.cut1 (kq := kq) (s0 := s0) y ?_ ?_; (on_goal 1 => subst y); (on_goal 2 => (intro hy; try clear_value y))) | ((fail_if_no_progress (extract_lets +onlyGivenNames y)); (have z_ := y; guard_hyp z_ : _ × State; clear z_); refine Keeps.cut2 (kq := kq) (s0 := s0) y ?_ ?_; (on_goal 1 => subst y); (on_goal 2 => (intro hy; try clear_value y))) | ((fail_if_no_progress (extract_lets +onlyGivenNames y)); refine Keeps.fn y ?_; subst y; beta_reduce) | ((fail_if_no_progress (extract_lets +onlyGivenNames y)); clear_value y) | ((fail_if_no_progress (extract_lets +onlyGivenNames y)); subst y) | with_reducible apply State.laneOff_keeps | with_reducible apply State.setFld_keeps | with_reducible apply State.stopPrbs_keeps | with_reducible apply State.laneStart_keeps | with_reducible apply State.appSelect_keeps | with_reducible apply State.outputHolds_keeps | with_reducible apply State.finishPart_keeps | with_reducible apply State.laneDone_keeps | with_reducible apply Done.plain_keeps | with_reducible apply Done.bad_keeps | fail_if_no_progress (with_reducible apply Keeps.upd) | (with_reducible refine Keeps.foldl ?_ ?_; on_goal 2 => (intro t x ht; beta_reduce)) | (with_reducible refine Keeps.foldl2 ?_ ?_; on_goal 2 => (intro t x ht; beta_reduce)) | with_reducible apply KeepsO.next | fail_if_no_progress (with_reducible apply Keeps.updFree) | (with_reducible refine Keeps.foldl1 ?_ ?_; on_goal 2 => (intro t x ht; beta_reduce)) | (with_reducible apply Keeps.fst; with_reducible assumption) | refine Keeps.ite ?_ ?_ | split | (intro a; intros; beta_reduce) | (with_reducible apply Keeps.snd; with_reducible assumption))

theorem State.configGroup_keeps {s0 s : State} {c apps} (h : Keeps kq s0 s) : Keeps kq s0 (State.configGroup s c apps) := by
  unfold State.configGroup
  repeat' (first | with_reducible assumption | with_reducible refine Keeps.ite ?_ ?_ | ((fail_if_no_progress (extract_lets +onlyGivenNames y)); (have z_ := y; guard_hyp z_ : State; clear z_); refine Keeps.cut (kq := kq) (s0 := s0) y ?_ ?_; (on_goal 1 => subst y); (on_goal 2 => (intro hy; try clear_value y))) | ((fail_if_no_progress (extract_lets +onlyGivenNames y)); clear_value y) | with_reducible apply State.finishNow_keeps | with_reducible apply State.setGroup_keeps | with_reducible apply Done.plain_keeps | with_reducible apply Done.bad_keeps | fail_if_no_progress (with_reducible apply Keeps.upd) | (with_reducible refine Keeps.foldl ?_ ?_; on_goal 2 => (intro t x ht; beta_reduce)) | (with_reducible refine Keeps.foldl2 ?_ ?_; on_goal 2 => (intro t x ht; beta_reduce)) | with_reducible apply KeepsO.next | (with_reducible apply Keeps.fst; with_reducible assumption) | refine Keeps.ite ?_ ?_)

theorem State.discoverComplete_keeps {s0 s : State} (h : Keeps kq s0 s) : Keeps kq s0 (State.discoverComplete s) := by
  unfold State.discoverComplete
  repeat' (first | with_reducible assumption | ((fail_if_no_progress (extract_lets +onlyGivenNames y)); (have z_ := y; guard_hyp z_ : State; clear z_); refine Keeps.cut (kq := kq) (s0 := s0) y ?_ ?_; (on_goal 1 => subst y); (on_goal 2 => (intro hy; try clear_value y))) | ((fail_if_no_progress (extract_lets +onlyGivenNames y)); clear_value y) | with_reducible apply State.finishNow_keeps | fail_if_no_progress (with_reducible apply Keeps.upd) | (with_reducible refine Keeps.foldl ?_ ?_; on_goal 2 => (intro t x ht; beta_reduce)))

theorem State.finefIn_keeps {s0 s : State} {k f} (h : Keeps kq s0 s) : Keeps kq s0 (State.finefIn s k f) := by
  unfold State.finefIn
  repeat' (first | with_reducible assumption | with_reducible refine Keeps.ite ?_ ?_ | ((fail_if_no_progress (extract_lets +onlyGivenNames y)); clear_value y) | with_reducible apply State.casBad_keeps | with_reducible apply State.raiseFree_keeps | with_reducible apply State.addFld_keeps | with_reducible apply State.setFld_keeps | with_reducible apply State.casUse_keeps | fail_if_no_progress (with_reducible apply Keeps.upd))

theorem State.fomReport_keeps {s0 s : State} {l} (h : Keeps kq s0 s) : Keeps kq s0 (State.fomReport s l) := by
  unfold State.fomReport
  repeat' (first | with_reducible assumption | with_reducible refine Keeps.ite ?_ ?_ | ((fail_if_no_progress (extract_lets +onlyGivenNames y)); (have z_ := y; guard_hyp z_ : State; clear z_); refine Keeps.cut (kq := kq) (s0 := s0) y ?_ ?_; (on_goal 1 => subst y); (on_goal 2 => (intro hy; try clear_value y))) | ((fail_if_no_progress (extract_lets +onlyGivenNames y)); (have z_ := y; guard_hyp z_ : State × _; clear z_); refine Keeps.cut1 (kq := kq) (s0 := s0) y ?_ ?_; (on_goal 1 => subst y); (on_goal 2 => (intro hy; try clear_value y))) | ((fail_if_no_progress (extract_lets +onlyGivenNames y)); (have z_ := y; guard_hyp z_ : _ × State; clear z_); refine Keeps.cut2 (kq := kq) (s0 := s0) y ?_ ?_; (on_goal 1 => subst y); (on_goal 2 => (intro hy; try clear_value y))) | ((fail_if_no_progress (extract_lets +onlyGivenNames y)); refine Keeps.fn y ?_; subst y; beta_reduce) | ((fail_if_no_progress (extract_lets +onlyGivenNames y)); clear_value y) | ((fail_if_no_progress (extract_lets +onlyGivenNames y)); subst y) | with_reducible apply State.putLaneHw_keeps | with_reducible apply State.setFld_keeps | with_reducible apply State.addFld_keeps | with_reducible apply Done.plain_keeps | with_reducible apply Done.bad_keeps | fail_if_no_progress (with_reducible apply Keeps.upd) | (with_reducible refine Keeps.foldl ?_ ?_; on_goal 2 => (intro t x ht; beta_reduce)) | (with_reducible refine Keeps.foldl2 ?_ ?_; on_goal 2 => (intro t x ht; beta_reduce)) | with_reducible apply KeepsO.next | fail_if_no_progress (with_reducible apply Keeps.updFree) | (with_reducible refine Keeps.foldl1 ?_ ?_; on_goal 2 => (intro t x ht; beta_reduce)) | (with_reducible apply Keeps.fst; with_reducible assumption) | refine Keeps.ite ?_ ?_ | split | (intro a; intros; beta_reduce) | (with_reducible apply Keeps.snd; with_reducible assumption))

theorem State.groupOff_keeps {s0 s : State} {k} (h : Keeps kq s0 s) : Keeps kq s0 (State.groupOff s k) := by
  unfold State.groupOff
  repeat' (first | with_reducible assumption | with_reducible apply State.laneOff_keeps)

theorem State.rawEnd_keeps {s0 s : State} (h : Keeps kq s0 s) : Keeps kq s0 (State.rawEnd s) := by
  unfold State.rawEnd
  repeat' (first | with_reducible assumption | with_reducible refine Keeps.ite ?_ ?_ | ((fail_if_no_progress (extract_lets +onlyGivenNames y)); (have z_ := y; guard_hyp z_ : State; clear z_); refine Keeps.cut (kq := kq) (s0 := s0) y ?_ ?_; (on_goal 1 => subst y); (on_goal 2 => (intro hy; try clear_value y))) | with_reducible apply State.groupOff_keeps | with_reducible apply State.setFld_keeps | with_reducible apply State.stopPrbs_keeps | with_reducible apply State.raiseFree_keeps | (with_reducible refine Keeps.foldl ?_ ?_; on_goal 2 => (intro t x ht; beta_reduce)))

theorem State.readLaneCoef_keeps {s0 s : State} {l} (h : Keeps kq s0 s) : Keeps kq s0 (State.readLaneCoef s l).2 := by
  unfold State.readLaneCoef
  repeat' (first | with_reducible assumption | ((fail_if_no_progress (extract_lets +onlyGivenNames y)); clear_value y) | with_reducible apply State.setFld_keeps)

theorem State.readPrbsErr_keeps {s0 s : State} {l} (h : Keeps kq s0 s) : Keeps kq s0 (State.readPrbsErr s l).2 := by
  unfold State.readPrbsErr
  repeat' (first | with_reducible assumption | ((fail_if_no_progress (extract_lets +onlyGivenNames y)); clear_value y) | with_reducible apply State.setFld_keeps)

theorem State.readPrbsBits_keeps {s0 s : State} {l} (h : Keeps kq s0 s) : Keeps kq s0 (State.readPrbsBits s l).2 := by
  unfold State.readPrbsBits
  repeat' (first | with_reducible assumption | ((fail_if_no_progress (extract_lets +onlyGivenNames y)); clear_value y) | with_reducible apply State.setFld_keeps)

theorem State.laneFreeze_keeps {s0 s : State} {l} (h : Keeps kq s0 s) : Keeps kq s0 (State.laneFreeze s l) := by
  unfold State.laneFreeze
  repeat' (first | with_reducible assumption | with_reducible refine Keeps.ite ?_ ?_ | ((fail_if_no_progress (extract_lets +onlyGivenNames y)); clear_value y) | with_reducible apply State.addFld_keeps | with_reducible apply State.setLane_keeps | with_reducible apply State.putLaneHw_keeps)

theorem State.laneHold_keeps {s0 s : State} {l} (h : Keeps kq s0 s) : Keeps kq s0 (State.laneHold s l) := by
  unfold State.laneHold
  repeat' (first | with_reducible assumption | with_reducible refine Keeps.ite ?_ ?_ | with_reducible apply State.setFld_keeps | with_reducible apply State.setLane_keeps)

theorem State.laneInject_keeps {s0 s : State} {l} (h : Keeps kq s0 s) : Keeps kq s0 (State.laneInject s l) := by
  unfold State.laneInject
  repeat' (first | with_reducible assumption | with_reducible refine Keeps.ite ?_ ?_ | ((fail_if_no_progress (extract_lets +onlyGivenNames y)); (have z_ := y; guard_hyp z_ : State; clear z_); refine Keeps.cut (kq := kq) (s0 := s0) y ?_ ?_; (on_goal 1 => subst y); (on_goal 2 => (intro hy; try clear_value y))) | ((fail_if_no_progress (extract_lets +onlyGivenNames y)); (have z_ := y; guard_hyp z_ : State × _; clear z_); refine Keeps.cut1 (kq := kq) (s0 := s0) y ?_ ?_; (on_goal 1 => subst y); (on_goal 2 => (intro hy; try clear_value y))) | ((fail_if_no_progress (extract_lets +onlyGivenNames y)); (have z_ := y; guard_hyp z_ : _ × State; clear z_); refine Keeps.cut2 (kq := kq) (s0 := s0) y ?_ ?_; (on_goal 1 => subst y); (on_goal 2 => (intro hy; try clear_value y))) | ((fail_if_no_progress (extract_lets +onlyGivenNames y)); refine Keeps.fn y ?_; subst y; beta_reduce) | ((fail_if_no_progress (extract_lets +onlyGivenNames y)); clear_value y) | ((fail_if_no_progress (extract_lets +onlyGivenNames y)); subst y) | with_reducible apply State.putPat_keeps | with_reducible apply State.addFld_keeps | with_reducible apply Done.plain_keeps | with_reducible apply Done.bad_keeps | fail_if_no_progress (with_reducible apply Keeps.upd) | (with_reducible refine Keeps.foldl ?_ ?_; on_goal 2 => (intro t x ht; beta_reduce)) | (with_reducible refine Keeps.foldl2 ?_ ?_; on_goal 2 => (intro t x ht; beta_reduce)) | with_reducible apply KeepsO.next | fail_if_no_progress (with_reducible apply Keeps.updFree) | (with_reducible refine Keeps.foldl1 ?_ ?_; on_goal 2 => (intro t x ht; beta_reduce)) | (with_reducible apply Keeps.fst; with_reducible assumption) | refine Keeps.ite ?_ ?_ | split | (intro a; intros; beta_reduce) | (with_reducible apply Keeps.snd; with_reducible assumption))

theorem State.laneLock_keeps {s0 s : State} {l} (h : Keeps kq s0 s) : Keeps kq s0 (State.laneLock s l) := by
  unfold State.laneLock
  repeat' (first | with_reducible assumption | with_reducible refine Keeps.ite ?_ ?_ | with_reducible apply State.laneDone_keeps | with_reducible apply State.raiseFree_keeps | with_reducible apply State.addFld_keeps | with_reducible apply State.setLane_keeps)

theorem State.laneRelease_keeps {s0 s : State} {l} (h : Keeps kq s0 s) : Keeps kq s0 (State.laneRelease s l) := by
  unfold State.laneRelease
  repeat' (first | with_reducible assumption | with_reducible apply State.laneResume_keeps | with_reducible apply State.setFld_keeps)

theorem State.laneRestart_keeps {s0 s : State} {l} (h : Keeps kq s0 s) : Keeps kq s0 (State.laneRestart s l) := by
  unfold State.laneRestart
  repeat' (first | with_reducible assumption | with_reducible apply State.setLane_keeps | with_reducible apply State.reloadRx_keeps | with_reducible apply State.setFld_keeps)

theorem State.toPreset_keeps {s0 s : State} {v} (h : Keeps kq s0 s) : Keeps kq s0 (State.toPreset s v).2 := by
  unfold State.toPreset
  repeat' (first | with_reducible assumption | with_reducible apply State.fresh_keeps | split)

theorem State.laneStore_keeps {s0 s : State} {l} (h : Keeps kq s0 s) : Keeps kq s0 (State.laneStore s l) := by
  unfold State.laneStore
  repeat' (first | with_reducible assumption | ((fail_if_no_progress (extract_lets +onlyGivenNames y)); clear_value y) | with_reducible apply State.toPreset_keeps | fail_if_no_progress (with_reducible apply Keeps.upd) | (with_reducible refine Keeps.foldl2 ?_ ?_; on_goal 2 => (intro t x ht; beta_reduce)))

theorem State.laneUnfreeze_keeps {s0 s : State} {l} (h : Keeps kq s0 s) : Keeps kq s0 (State.laneUnfreeze s l) := by
  unfold State.laneUnfreeze
  repeat' (first | with_reducible assumption | with_reducible refine Keeps.ite ?_ ?_ | with_reducible apply State.laneDone_keeps | with_reducible apply State.setLane_keeps)

theorem State.laneUnlock_keeps {s0 s : State} {l} (h : Keeps kq s0 s) : Keeps kq s0 (State.laneUnlock s l) := by
  unfold State.laneUnlock
  repeat' (first | with_reducible assumption | with_reducible refine Keeps.ite ?_ ?_ | with_reducible apply State.raiseFree_keeps | with_reducible apply State.addFld_keeps | with_reducible apply State.setLane_keeps | with_reducible apply State.reloadRx_keeps)

theorem State.modulePoll_keeps {s0 s : State} {m rev st bad apps} (h : Keeps kq s0 s) : Keeps kq s0 (State.modulePoll s m rev st bad apps) := by
  unfold State.modulePoll
  repeat' (first | with_reducible assumption | with_reducible refine Keeps.ite ?_ ?_ | ((fail_if_no_progress (extract_lets +onlyGivenNames y)); (have z_ := y; guard_hyp z_ : State; clear z_); refine Keeps.cut (kq := kq) (s0 := s0) y ?_ ?_; (on_goal 1 => subst y); (on_goal 2 => (intro hy; try clear_value y))) | ((fail_if_no_progress (extract_lets +onlyGivenNames y)); (have z_ := y; guard_hyp z_ : State × _; clear z_); refine Keeps.cut1 (kq := kq) (s0 := s0) y ?_ ?_; (on_goal 1 => subst y); (on_goal 2 => (intro hy; try clear_value y))) | ((fail_if_no_progress (extract_lets +onlyGivenNames y)); (have z_ := y; guard_hyp z_ : _ × State; clear z_); refine Keeps.cut2 (kq := kq) (s0 := s0) y ?_ ?_; (on_goal 1 => subst y); (on_goal 2 => (intro hy; try clear_value y))) | ((fail_if_no_progress (extract_lets +onlyGivenNames y)); refine Keeps.fn y ?_; subst y; beta_reduce) | ((fail_if_no_progress (extract_lets +onlyGivenNames y)); clear_value y) | ((fail_if_no_progress (extract_lets +onlyGivenNames y)); subst y) | with_reducible apply State.setFld_keeps | with_reducible apply State.emit_keeps | with_reducible apply State.appSelect_keeps | with_reducible apply State.raiseFree_keeps | with_reducible apply Done.plain_keeps | with_reducible apply Done.bad_keeps | fail_if_no_progress (with_reducible apply Keeps.upd) | (with_reducible refine Keeps.foldl ?_ ?_; on_goal 2 => (intro t x ht; beta_reduce)) | (with_reducible refine Keeps.foldl2 ?_ ?_; on_goal 2 => (intro t x ht; beta_reduce)) | with_reducible apply KeepsO.next | fail_if_no_progress (with_reducible apply Keeps.updFree) | (with_reducible refine Keeps.foldl1 ?_ ?_; on_goal 2 => (intro t x ht; beta_reduce)) | (with_reducible apply Keeps.fst; with_reducible assumption) | refine Keeps.ite ?_ ?_ | split | (intro a; intros; beta_reduce) | (with_reducible apply Keeps.snd; with_reducible assumption))

theorem State.turnAround_keeps {s0 s : State} (h : Keeps kq s0 s) : Keeps kq s0 (State.turnAround s) := by
  unfold State.turnAround
  repeat' (first | with_reducible assumption | with_reducible refine Keeps.ite ?_ ?_ | ((fail_if_no_progress (extract_lets +onlyGivenNames y)); (have z_ := y; guard_hyp z_ : State; clear z_); refine Keeps.cut (kq := kq) (s0 := s0) y ?_ ?_; (on_goal 1 => subst y); (on_goal 2 => (intro hy; try clear_value y))) | ((fail_if_no_progress (extract_lets +onlyGivenNames y)); (have z_ := y; guard_hyp z_ : State × _; clear z_); refine Keeps.cut1 (kq := kq) (s0 := s0) y ?_ ?_; (on_goal 1 => subst y); (on_goal 2 => (intro hy; try clear_value y))) | ((fail_if_no_progress (extract_lets +onlyGivenNames y)); (have z_ := y; guard_hyp z_ : _ × State; clear z_); refine Keeps.cut2 (kq := kq) (s0 := s0) y ?_ ?_; (on_goal 1 => subst y); (on_goal 2 => (intro hy; try clear_value y))) | ((fail_if_no_progress (extract_lets +onlyGivenNames y)); refine Keeps.fn y ?_; subst y; beta_reduce) | ((fail_if_no_progress (extract_lets +onlyGivenNames y)); clear_value y) | ((fail_if_no_progress (extract_lets +onlyGivenNames y)); subst y) | with_reducible apply State.setFld_keeps | with_reducible apply State.setCasPort_keeps | with_reducible apply Done.plain_keeps | with_reducible apply Done.bad_keeps | fail_if_no_progress (with_reducible apply Keeps.upd) | (with_reducible refine Keeps.foldl ?_ ?_; on_goal 2 => (intro t x ht; beta_reduce)) | (with_reducible refine Keeps.foldl2 ?_ ?_; on_goal 2 => (intro t x ht; beta_reduce)) | with_reducible apply KeepsO.next | fail_if_no_progress (with_reducible apply Keeps.updFree) | (with_reducible refine Keeps.foldl1 ?_ ?_; on_goal 2 => (intro t x ht; beta_reduce)) | (with_reducible apply Keeps.fst; with_reducible assumption) | refine Keeps.ite ?_ ?_ | split | (intro a; intros; beta_reduce) | (with_reducible apply Keeps.snd; with_reducible assumption))

theorem State.ringReversal_keeps {s0 s : State} (h : Keeps kq s0 s) : Keeps kq s0 (State.ringReversal s) := by
  unfold State.ringReversal
  split
  · exact h
  · refine Keeps.ite h ?_
    extract_lets c1 s1 m near k s2 s3 s4 t1 c2 s5
    have h1 : Keeps kq s0 s1 := Keeps.upd h
    refine Keeps.ite ?_ (Keeps.ite ?_ h1)
    · have h2 : Keeps kq s0 s2 := State.setFld_keeps h1
      have h3 : Keeps kq s0 s3 := Keeps.ite (State.setCasPort_keeps h2) h2
      exact State.raise_keeps (State.refreshPresent_keeps (State.addFld_keeps (State.setFld_keeps h3)))
    · exact State.refreshCasState_keeps (State.setFld_keeps (Keeps.upd (State.turnAround_keeps h1)))

theorem State.signalLost_keeps {s0 s : State} {l} (h : Keeps kq s0 s) : Keeps kq s0 (State.signalLost s l) := by
  unfold State.signalLost
  repeat' (first | with_reducible assumption | with_reducible refine Keeps.ite ?_ ?_ | with_reducible apply State.setFld_keeps | with_reducible apply State.raiseFree_keeps | with_reducible apply State.setLane_keeps)

theorem State.signalSet_keeps {s0 s : State} {l} (h : Keeps kq s0 s) : Keeps kq s0 (State.signalSet s l) := by
  unfold State.signalSet
  repeat' (first | with_reducible assumption | with_reducible refine Keeps.ite ?_ ?_ | with_reducible apply State.setFld_keeps | with_reducible apply State.setLane_keeps | with_reducible apply State.reloadRx_keeps)

theorem execCasDiscover_keeps {s0 s : State} {tag} (h : Keeps kq s0 s) : KeepsO kq s0 (execCasDiscover tag s) := by
  unfold execCasDiscover
  repeat' (first | with_reducible assumption | ((fail_if_no_progress (extract_lets +onlyGivenNames y)); clear_value y) | with_reducible apply State.performStart_keeps | fail_if_no_progress (with_reducible apply Keeps.upd) | with_reducible apply KeepsO.next | (intro a; intros; beta_reduce))

theorem execCasDiscoverComplete_keeps {s0 s : State} (h : Keeps kq s0 s) : KeepsO kq s0 (execCasDiscoverComplete s) := by
  unfold execCasDiscoverComplete
  repeat' (first | with_reducible assumption | with_reducible apply State.discoverComplete_keeps | with_reducible apply KeepsO.next)

theorem execCasLinkDown_keeps {s0 s : State} {k} (h : Keeps kq s0 s) : KeepsO kq s0 (execCasLinkDown k s) := by
  unfold execCasLinkDown
  repeat' (first | with_reducible assumption | with_reducible apply State.casLinkDown_keeps | with_reducible apply KeepsO.next)

theorem execCasLinkUp_keeps {s0 s : State} {k} (h : Keeps kq s0 s) : KeepsO kq s0 (execCasLinkUp k s) := by
  unfold execCasLinkUp
  repeat' (first | with_reducible assumption | with_reducible apply State.casLinkUp_keeps | with_reducible apply KeepsO.next)

theorem execCasRejoin_keeps {s0 s : State} {k} (h : Keeps kq s0 s) : KeepsO kq s0 (execCasRejoin k s) := by
  unfold execCasRejoin
  repeat' (first | with_reducible assumption | with_reducible apply State.casRejoin_keeps | with_reducible apply KeepsO.next)

theorem execFinefFrameReceived_keeps {s0 s : State} {port f} (h : Keeps kq s0 s) : KeepsO kq s0 (execFinefFrameReceived port f s) := by
  unfold execFinefFrameReceived
  repeat' (first | with_reducible assumption | with_reducible refine Keeps.ite ?_ ?_ | with_reducible apply State.finefIn_keeps | with_reducible apply State.noteItem_keeps | with_reducible apply KeepsO.next)

theorem execLaneAcqFail_keeps {s0 s : State} {l} (h : Keeps kq s0 s) : KeepsO kq s0 (execLaneAcqFail l s) := by
  unfold execLaneAcqFail
  repeat' (first | with_reducible assumption | with_reducible apply State.acqFail_keeps | with_reducible apply KeepsO.next)

theorem execLaneAdaptHold_keeps {s0 s : State} {tag} (h : Keeps kq s0 s) : KeepsO kq s0 (execLaneAdaptHold tag s) := by
  unfold execLaneAdaptHold
  repeat' (first | with_reducible assumption | with_reducible apply State.performStart_keeps | with_reducible apply State.outputHolds_keeps | with_reducible apply State.adaptOp_keeps | with_reducible apply State.laneHold_keeps | with_reducible apply KeepsO.next | (intro a; intros; beta_reduce))

theorem execLaneAdaptRelease_keeps {s0 s : State} {tag} (h : Keeps kq s0 s) : KeepsO kq s0 (execLaneAdaptRelease tag s) := by
  unfold execLaneAdaptRelease
  repeat' (first | with_reducible assumption | with_reducible apply State.performStart_keeps | with_reducible apply State.outputHolds_keeps | with_reducible apply State.adaptOp_keeps | with_reducible apply State.laneRelease_keeps | with_reducible apply KeepsO.next | (intro a; intros; beta_reduce))

theorem execLaneAdaptRestart_keeps {s0 s : State} {tag} (h : Keeps kq s0 s) : KeepsO kq s0 (execLaneAdaptRestart tag s) := by
  unfold execLaneAdaptRestart
  repeat' (first | with_reducible assumption | with_reducible apply State.performStart_keeps | with_reducible apply State.outputHolds_keeps | with_reducible apply State.adaptOp_keeps | with_reducible apply State.laneRestart_keeps | with_reducible apply KeepsO.next | (intro a; intros; beta_reduce))

theorem execLaneAdaptStore_keeps {s0 s : State} {tag} (h : Keeps kq s0 s) : KeepsO kq s0 (execLaneAdaptStore tag s) := by
  unfold execLaneAdaptStore
  repeat' (first | with_reducible assumption | with_reducible apply State.performStart_keeps | with_reducible apply State.adaptOp_keeps | with_reducible apply State.laneStore_keeps | with_reducible apply KeepsO.next | (intro a; intros; beta_reduce))

theorem execLaneBitSlip_keeps {s0 s : State} {tag} (h : Keeps kq s0 s) : KeepsO kq s0 (execLaneBitSlip tag s) := by
  unfold execLaneBitSlip
  repeat' (first | with_reducible assumption | ((fail_if_no_progress (extract_lets +onlyGivenNames y)); clear_value y) | with_reducible apply State.performStart_keeps | with_reducible apply State.finishNow_keeps | fail_if_no_progress (with_reducible apply Keeps.upd) | with_reducible apply KeepsO.next | (intro a; intros; beta_reduce))

theorem execLaneConfigGroup_keeps {s0 s : State} {tag apps} (h : Keeps kq s0 s) : KeepsO kq s0 (execLaneConfigGroup tag apps s) := by
  unfold execLaneConfigGroup
  repeat' (first | with_reducible assumption | with_reducible apply State.performStart_keeps | with_reducible apply State.configGroup_keeps | with_reducible apply KeepsO.next | (intro a; intros; beta_reduce))

theorem execLaneConfigTimeout_keeps {s0 s : State} {k} (h : Keeps kq s0 s) : KeepsO kq s0 (execLaneConfigTimeout k s) := by
  unfold execLaneConfigTimeout
  repeat' (first | with_reducible assumption | ((fail_if_no_progress (extract_lets +onlyGivenNames y)); (have z_ := y; guard_hyp z_ : State; clear z_); refine Keeps.cut (kq := kq) (s0 := s0) y ?_ ?_; (on_goal 1 => subst y); (on_goal 2 => (intro hy; try clear_value y))) | ((fail_if_no_progress (extract_lets +onlyGivenNames y)); clear_value y) | with_reducible apply State.finishPart_keeps | fail_if_no_progress (with_reducible apply Keeps.upd) | (with_reducible refine Keeps.foldl ?_ ?_; on_goal 2 => (intro t x ht; beta_reduce)) | with_reducible apply KeepsO.next)

theorem execLaneErrorInject_keeps {s0 s : State} {l} (h : Keeps kq s0 s) : KeepsO kq s0 (execLaneErrorInject l s) := by
  unfold execLaneErrorInject
  repeat' (first | with_reducible assumption | with_reducible apply State.laneInject_keeps | with_reducible apply KeepsO.next)

theorem execLaneFomReport_keeps {s0 s : State} {l _fom} (h : Keeps kq s0 s) : KeepsO kq s0 (execLaneFomReport l _fom s) := by
  unfold execLaneFomReport
  repeat' (first | with_reducible assumption | with_reducible apply State.fomReport_keeps | with_reducible apply KeepsO.next)

theorem execLaneFreeze_keeps {s0 s : State} {l} (h : Keeps kq s0 s) : KeepsO kq s0 (execLaneFreeze l s) := by
  unfold execLaneFreeze
  repeat' (first | with_reducible assumption | with_reducible apply State.outputHolds_keeps | with_reducible apply State.laneFreeze_keeps | with_reducible apply KeepsO.next)

theorem execLaneLoadPreset_keeps {s0 s : State} {tag} (h : Keeps kq s0 s) : KeepsO kq s0 (execLaneLoadPreset tag s) := by
  unfold execLaneLoadPreset
  repeat' (first | with_reducible assumption | ((fail_if_no_progress (extract_lets +onlyGivenNames y)); (have z_ := y; guard_hyp z_ : State; clear z_); refine Keeps.cut (kq := kq) (s0 := s0) y ?_ ?_; (on_goal 1 => subst y); (on_goal 2 => (intro hy; try clear_value y))) | ((fail_if_no_progress (extract_lets +onlyGivenNames y)); clear_value y) | with_reducible apply State.performStart_keeps | with_reducible apply State.finishNow_keeps | fail_if_no_progress (with_reducible apply Keeps.upd) | with_reducible apply KeepsO.next | (intro a; intros; beta_reduce))

theorem execLaneLock_keeps {s0 s : State} {l} (h : Keeps kq s0 s) : KeepsO kq s0 (execLaneLock l s) := by
  unfold execLaneLock
  repeat' (first | with_reducible assumption | with_reducible apply State.outputHolds_keeps | with_reducible apply State.laneLock_keeps | with_reducible apply KeepsO.next)

theorem execLaneLos_keeps {s0 s : State} {l} (h : Keeps kq s0 s) : KeepsO kq s0 (execLaneLos l s) := by
  unfold execLaneLos
  repeat' (first | with_reducible assumption | with_reducible apply State.signalLost_keeps | with_reducible apply KeepsO.next)

theorem execLanePrbs_keeps {s0 s : State} {tag} (h : Keeps kq s0 s) : KeepsO kq s0 (execLanePrbs tag s) := by
  unfold execLanePrbs
  repeat' (first | with_reducible assumption | ((fail_if_no_progress (extract_lets +onlyGivenNames y)); clear_value y) | with_reducible apply State.performStart_keeps | with_reducible apply State.finishPart_keeps | fail_if_no_progress (with_reducible apply Keeps.upd) | with_reducible apply KeepsO.next | (intro a; intros; beta_reduce))

theorem execLaneSignalSet_keeps {s0 s : State} {l} (h : Keeps kq s0 s) : KeepsO kq s0 (execLaneSignalSet l s) := by
  unfold execLaneSignalSet
  repeat' (first | with_reducible assumption | with_reducible apply State.signalSet_keeps | with_reducible apply KeepsO.next)

theorem execLaneUnfreeze_keeps {s0 s : State} {l} (h : Keeps kq s0 s) : KeepsO kq s0 (execLaneUnfreeze l s) := by
  unfold execLaneUnfreeze
  repeat' (first | with_reducible assumption | with_reducible apply State.outputHolds_keeps | with_reducible apply State.laneUnfreeze_keeps | with_reducible apply KeepsO.next)

theorem execLaneUnlock_keeps {s0 s : State} {l} (h : Keeps kq s0 s) : KeepsO kq s0 (execLaneUnlock l s) := by
  unfold execLaneUnlock
  repeat' (first | with_reducible assumption | with_reducible apply State.outputHolds_keeps | with_reducible apply State.laneUnlock_keeps | with_reducible apply KeepsO.next)

theorem execModuleAccessComplete_keeps {s0 s : State} {m nack data} (h : Keeps kq s0 s) : KeepsO kq s0 (execModuleAccessComplete m nack data s) := by
  unfold execModuleAccessComplete
  repeat' (first | with_reducible assumption | with_reducible refine KeepsO.ite ?_ ?_ | with_reducible apply State.setFld_keeps | with_reducible apply KeepsO.next)

theorem execModuleFlagPoll_keeps {s0 s : State} {m flags} (h : Keeps kq s0 s) : KeepsO kq s0 (execModuleFlagPoll m flags s) := by
  unfold execModuleFlagPoll
  repeat' (first | with_reducible assumption | with_reducible refine KeepsO.ite ?_ ?_ | with_reducible apply State.raise_keeps | with_reducible apply State.addFld_keeps | (with_reducible refine Keeps.foldl ?_ ?_; on_goal 2 => (intro t x ht; beta_reduce)) | with_reducible apply KeepsO.next)

theorem execModuleMonitorPoll_keeps {s0 s : State} {m temp vcc lanes} (h : Keeps kq s0 s) : KeepsO kq s0 (execModuleMonitorPoll m temp vcc lanes s) := by
  unfold execModuleMonitorPoll
  repeat' (first | with_reducible assumption | with_reducible refine Keeps.ite ?_ ?_ | with_reducible refine KeepsO.ite ?_ ?_ | ((fail_if_no_progress (extract_lets +onlyGivenNames y)); (have z_ := y; guard_hyp z_ : State; clear z_); refine Keeps.cut (kq := kq) (s0 := s0) y ?_ ?_; (on_goal 1 => subst y); (on_goal 2 => (intro hy; try clear_value y))) | with_reducible apply State.setFld_keeps | (with_reducible refine Keeps.foldl ?_ ?_; on_goal 2 => (intro t x ht; beta_reduce)) | with_reducible apply KeepsO.next)

theorem execModulePresencePoll_keeps {s0 s : State} {m rev st bad apps} (h : Keeps kq s0 s) : KeepsO kq s0 (execModulePresencePoll m rev st bad apps s) := by
  unfold execModulePresencePoll
  repeat' (first | with_reducible assumption | with_reducible apply State.modulePoll_keeps | with_reducible apply KeepsO.next)

theorem execPrbsCheckerLock_keeps {s0 s : State} {l} (h : Keeps kq s0 s) : KeepsO kq s0 (execPrbsCheckerLock l s) := by
  unfold execPrbsCheckerLock
  repeat' (first | with_reducible assumption | with_reducible apply State.checkerLock_keeps | with_reducible apply KeepsO.next)

theorem execPrbsCheckerLoss_keeps {s0 s : State} {l} (h : Keeps kq s0 s) : KeepsO kq s0 (execPrbsCheckerLoss l s) := by
  unfold execPrbsCheckerLoss
  repeat' (first | with_reducible assumption | with_reducible refine Keeps.ite ?_ ?_ | with_reducible refine KeepsO.ite ?_ ?_ | ((fail_if_no_progress (extract_lets +onlyGivenNames y)); (have z_ := y; guard_hyp z_ : State; clear z_); refine Keeps.cut (kq := kq) (s0 := s0) y ?_ ?_; (on_goal 1 => subst y); (on_goal 2 => (intro hy; try clear_value y))) | ((fail_if_no_progress (extract_lets +onlyGivenNames y)); (have z_ := y; guard_hyp z_ : State × _; clear z_); refine Keeps.cut1 (kq := kq) (s0 := s0) y ?_ ?_; (on_goal 1 => subst y); (on_goal 2 => (intro hy; try clear_value y))) | ((fail_if_no_progress (extract_lets +onlyGivenNames y)); (have z_ := y; guard_hyp z_ : _ × State; clear z_); refine Keeps.cut2 (kq := kq) (s0 := s0) y ?_ ?_; (on_goal 1 => subst y); (on_goal 2 => (intro hy; try clear_value y))) | ((fail_if_no_progress (extract_lets +onlyGivenNames y)); refine Keeps.fn y ?_; subst y; beta_reduce) | ((fail_if_no_progress (extract_lets +onlyGivenNames y)); clear_value y) | ((fail_if_no_progress (extract_lets +onlyGivenNames y)); subst y) | with_reducible apply State.checkerLoss_keeps | with_reducible apply Done.plain_keeps | with_reducible apply Done.bad_keeps | fail_if_no_progress (with_reducible apply Keeps.upd) | (with_reducible refine Keeps.foldl ?_ ?_; on_goal 2 => (intro t x ht; beta_reduce)) | (with_reducible refine Keeps.foldl2 ?_ ?_; on_goal 2 => (intro t x ht; beta_reduce)) | with_reducible apply KeepsO.next | fail_if_no_progress (with_reducible apply Keeps.updFree) | (with_reducible refine Keeps.foldl1 ?_ ?_; on_goal 2 => (intro t x ht; beta_reduce)) | (with_reducible apply Keeps.fst; with_reducible assumption) | refine Keeps.ite ?_ ?_ | split | (intro a; intros; beta_reduce) | (with_reducible apply Keeps.snd; with_reducible assumption))

theorem execRingReversal_keeps {s0 s : State} (h : Keeps kq s0 s) : KeepsO kq s0 (execRingReversal s) := by
  unfold execRingReversal
  repeat' (first | with_reducible assumption | with_reducible apply State.ringReversal_keeps | with_reducible apply KeepsO.next)

end Sys2Proof.Machine
end

