-- ==== Sys2Proof/Laws/KeepsEngines.lean ====
section
/-!
SUPPORT. Sys2Proof/Laws/KeepsEngines.lean: what every state function leaves of the model's bookkeeping (`Keeps`): the signal engines, the DMA channels and the recorder.
-/
set_option linter.unusedTactic false
set_option linter.tactic.unusedName false
set_option linter.unreachableTactic false
set_option linter.unusedVariables false
namespace Sys2Proof.Machine

variable {kq : Bool}

theorem State.refreshLoad13_keeps {s0 s : State} (h : Keeps kq s0 s) : Keeps kq s0 (State.refreshLoad13 s) := by
  unfold State.refreshLoad13
  repeat' (first | with_reducible assumption | with_reducible apply State.setFld_keeps)

theorem State.setEngRun_keeps {s0 s : State} {e x} (h : Keeps kq s0 s) : Keeps kq s0 (State.setEngRun s e x) := by
  unfold State.setEngRun
  repeat' (first | with_reducible assumption | with_reducible apply State.refreshLoad13_keeps | with_reducible apply State.setFld_keeps)

theorem State.setRole_keeps {s0 s : State} {e r} (h : Keeps kq s0 s) : Keeps kq s0 (State.setRole s e r) := by
  unfold State.setRole
  repeat' (first | with_reducible assumption | ((fail_if_no_progress (extract_lets +onlyGivenNames y)); (have z_ := y; guard_hyp z_ : State; clear z_); refine Keeps.cut (kq := kq) (s0 := s0) y ?_ ?_; (on_goal 1 => subst y); (on_goal 2 => (intro hy; try clear_value y))) | with_reducible apply State.setFld_keeps)

theorem State.retireEngine_keeps {s0 s : State} {e} (h : Keeps kq s0 s) : Keeps kq s0 (State.retireEngine s e) := by
  unfold State.retireEngine
  repeat' (first | with_reducible assumption | with_reducible refine Keeps.ite ?_ ?_ | ((fail_if_no_progress (extract_lets +onlyGivenNames y)); (have z_ := y; guard_hyp z_ : State; clear z_); refine Keeps.cut (kq := kq) (s0 := s0) y ?_ ?_; (on_goal 1 => subst y); (on_goal 2 => (intro hy; try clear_value y))) | ((fail_if_no_progress (extract_lets +onlyGivenNames y)); clear_value y) | with_reducible apply State.setEngRun_keeps | with_reducible apply State.setRole_keeps | fail_if_no_progress (with_reducible apply Keeps.upd))

theorem State.setRecSt_keeps {s0 s : State} {x} (h : Keeps kq s0 s) : Keeps kq s0 (State.setRecSt s x) := by
  unfold State.setRecSt
  repeat' (first | with_reducible assumption | with_reducible apply State.setFld_keeps)

theorem State.recEvent_keeps {s0 s : State} {code value sev} (h : Keeps kq s0 s) : Keeps kq s0 (State.recEvent s code value sev) := by
  unfold State.recEvent
  repeat' (first | with_reducible assumption | with_reducible apply State.raise_keeps)

theorem State.recStop_keeps {s0 s : State} {reason x} (h : Keeps kq s0 s) : Keeps kq s0 (State.recStop s reason x) := by
  unfold State.recStop
  repeat' (first | with_reducible assumption | ((fail_if_no_progress (extract_lets +onlyGivenNames y)); (have z_ := y; guard_hyp z_ : State; clear z_); refine Keeps.cut (kq := kq) (s0 := s0) y ?_ ?_; (on_goal 1 => subst y); (on_goal 2 => (intro hy; try clear_value y))) | ((fail_if_no_progress (extract_lets +onlyGivenNames y)); clear_value y) | with_reducible apply State.setFld_keeps | with_reducible apply State.setRecSt_keeps | with_reducible apply State.recEvent_keeps | fail_if_no_progress (with_reducible apply Keeps.upd))

theorem State.recLost_keeps {s0 s : State} {retired} (h : Keeps kq s0 s) : Keeps kq s0 (State.recLost s retired) := by
  unfold State.recLost
  repeat' (first | with_reducible assumption | with_reducible refine Keeps.ite ?_ ?_ | ((fail_if_no_progress (extract_lets +onlyGivenNames y)); (have z_ := y; guard_hyp z_ : State; clear z_); refine Keeps.cut (kq := kq) (s0 := s0) y ?_ ?_; (on_goal 1 => subst y); (on_goal 2 => (intro hy; try clear_value y))) | ((fail_if_no_progress (extract_lets +onlyGivenNames y)); clear_value y) | with_reducible apply State.finishNow_keeps | with_reducible apply State.setFld_keeps | with_reducible apply State.recStop_keeps | fail_if_no_progress (with_reducible apply Keeps.upd) | split)

theorem State.setDmaSt_keeps {s0 s : State} {n x} (h : Keeps kq s0 s) : Keeps kq s0 (State.setDmaSt s n x) := by
  unfold State.setDmaSt
  repeat' (first | with_reducible assumption | ((fail_if_no_progress (extract_lets +onlyGivenNames y)); (have z_ := y; guard_hyp z_ : State; clear z_); refine Keeps.cut (kq := kq) (s0 := s0) y ?_ ?_; (on_goal 1 => subst y); (on_goal 2 => (intro hy; try clear_value y))) | with_reducible apply State.setFld_keeps)

theorem State.putDmaChan_keeps {s0 s : State} {n c} (h : Keeps kq s0 s) : Keeps kq s0 (State.putDmaChan s n c) := by
  unfold State.putDmaChan
  repeat' (first | with_reducible assumption | ((fail_if_no_progress (extract_lets +onlyGivenNames y)); clear_value y) | fail_if_no_progress (with_reducible apply Keeps.upd))

theorem State.dmaReset_keeps {s0 s : State} {n} (h : Keeps kq s0 s) : Keeps kq s0 (State.dmaReset s n) := by
  unfold State.dmaReset
  repeat' (first | with_reducible assumption | with_reducible refine Keeps.ite ?_ ?_ | ((fail_if_no_progress (extract_lets +onlyGivenNames y)); (have z_ := y; guard_hyp z_ : State; clear z_); refine Keeps.cut (kq := kq) (s0 := s0) y ?_ ?_; (on_goal 1 => subst y); (on_goal 2 => (intro hy; try clear_value y))) | ((fail_if_no_progress (extract_lets +onlyGivenNames y)); clear_value y) | with_reducible apply State.setFld_keeps | with_reducible apply State.setDmaSt_keeps | with_reducible apply State.putDmaChan_keeps)

theorem State.refreshHolds_keeps {s0 s : State} (h : Keeps kq s0 s) : Keeps kq s0 (State.refreshHolds s) := by
  unfold State.refreshHolds
  repeat' (first | with_reducible assumption | with_reducible refine Keeps.ite ?_ ?_ | with_reducible apply State.setFld_keeps | with_reducible apply State.dmaReset_keeps | (with_reducible refine Keeps.foldl ?_ ?_; on_goal 2 => (intro t x ht; beta_reduce)))

theorem State.hostChReset_keeps {s0 s : State} {n} (h : Keeps kq s0 s) : Keeps kq s0 (State.hostChReset s n) := by
  unfold State.hostChReset
  repeat' (first | with_reducible assumption | with_reducible refine Keeps.ite ?_ ?_ | with_reducible apply State.dmaReset_keeps)

theorem State.setDmaCur_keeps {s0 s : State} {n a} (h : Keeps kq s0 s) : Keeps kq s0 (State.setDmaCur s n a) := by
  unfold State.setDmaCur
  repeat' (first | with_reducible assumption | with_reducible apply State.setFld_keeps)

theorem State.setStop_keeps {s0 s : State} {n} (h : Keeps kq s0 s) : Keeps kq s0 (State.setStop s n) := by
  unfold State.setStop
  repeat' (first | with_reducible assumption | with_reducible apply State.setIrq_keeps)

theorem State.endWaits_keeps {s0 s : State} {n st} (h : Keeps kq s0 s) : Keeps kq s0 (State.endWaits s n st) := by
  unfold State.endWaits
  repeat' (first | with_reducible assumption | ((fail_if_no_progress (extract_lets +onlyGivenNames y)); (have z_ := y; guard_hyp z_ : State; clear z_); refine Keeps.cut (kq := kq) (s0 := s0) y ?_ ?_; (on_goal 1 => subst y); (on_goal 2 => (intro hy; try clear_value y))) | ((fail_if_no_progress (extract_lets +onlyGivenNames y)); clear_value y) | with_reducible apply State.finishNow_keeps | fail_if_no_progress (with_reducible apply Keeps.upd) | (with_reducible refine Keeps.foldl ?_ ?_; on_goal 2 => (intro t x ht; beta_reduce)))

theorem State.dmaError_keeps {s0 s : State} {n reason} (h : Keeps kq s0 s) : Keeps kq s0 (State.dmaError s n reason) := by
  unfold State.dmaError
  repeat' (first | with_reducible assumption | with_reducible refine Keeps.ite ?_ ?_ | ((fail_if_no_progress (extract_lets +onlyGivenNames y)); (have z_ := y; guard_hyp z_ : State; clear z_); refine Keeps.cut (kq := kq) (s0 := s0) y ?_ ?_; (on_goal 1 => subst y); (on_goal 2 => (intro hy; try clear_value y))) | ((fail_if_no_progress (extract_lets +onlyGivenNames y)); clear_value y) | with_reducible apply State.setDmaSt_keeps | with_reducible apply State.setFld_keeps | with_reducible apply State.putDmaChan_keeps | with_reducible apply State.setStop_keeps | with_reducible apply State.raiseFree_keeps | with_reducible apply State.raise_keeps | with_reducible apply State.endWaits_keeps)

theorem State.dmaFetch_keeps {s0 s : State} {n a} (h : Keeps kq s0 s) : Keeps kq s0 (State.dmaFetch s n a) := by
  unfold State.dmaFetch
  repeat' (first | with_reducible assumption | with_reducible refine Keeps.ite ?_ ?_ | ((fail_if_no_progress (extract_lets +onlyGivenNames y)); (have z_ := y; guard_hyp z_ : State; clear z_); refine Keeps.cut (kq := kq) (s0 := s0) y ?_ ?_; (on_goal 1 => subst y); (on_goal 2 => (intro hy; try clear_value y))) | ((fail_if_no_progress (extract_lets +onlyGivenNames y)); (have z_ := y; guard_hyp z_ : State × _; clear z_); refine Keeps.cut1 (kq := kq) (s0 := s0) y ?_ ?_; (on_goal 1 => subst y); (on_goal 2 => (intro hy; try clear_value y))) | ((fail_if_no_progress (extract_lets +onlyGivenNames y)); (have z_ := y; guard_hyp z_ : _ × State; clear z_); refine Keeps.cut2 (kq := kq) (s0 := s0) y ?_ ?_; (on_goal 1 => subst y); (on_goal 2 => (intro hy; try clear_value y))) | ((fail_if_no_progress (extract_lets +onlyGivenNames y)); refine Keeps.fn y ?_; subst y; beta_reduce) | ((fail_if_no_progress (extract_lets +onlyGivenNames y)); clear_value y) | ((fail_if_no_progress (extract_lets +onlyGivenNames y)); subst y) | with_reducible apply State.setFld_keeps | with_reducible apply State.setDmaCur_keeps | with_reducible apply State.dmaError_keeps | with_reducible apply State.setDmaSt_keeps | with_reducible apply State.putDmaChan_keeps | with_reducible apply Done.plain_keeps | with_reducible apply Done.bad_keeps | fail_if_no_progress (with_reducible apply Keeps.upd) | (with_reducible refine Keeps.foldl ?_ ?_; on_goal 2 => (intro t x ht; beta_reduce)) | (with_reducible refine Keeps.foldl2 ?_ ?_; on_goal 2 => (intro t x ht; beta_reduce)) | with_reducible apply KeepsO.next | fail_if_no_progress (with_reducible apply Keeps.updFree) | (with_reducible refine Keeps.foldl1 ?_ ?_; on_goal 2 => (intro t x ht; beta_reduce)) | (with_reducible apply Keeps.fst; with_reducible assumption) | refine Keeps.ite ?_ ?_ | split | (intro a; intros; beta_reduce) | (with_reducible apply Keeps.snd; with_reducible assumption))

theorem State.dozePause_keeps {s0 s : State} {n} (h : Keeps kq s0 s) : Keeps kq s0 (State.dozePause s n) := by
  unfold State.dozePause
  repeat' (first | with_reducible assumption | with_reducible refine Keeps.ite ?_ ?_ | with_reducible apply State.setFld_keeps)

theorem State.dmaStart_keeps {s0 s : State} {n fresh} (h : Keeps kq s0 s) : Keeps kq s0 (State.dmaStart s n fresh) := by
  unfold State.dmaStart
  repeat' (first | with_reducible assumption | with_reducible refine Keeps.ite ?_ ?_ | ((fail_if_no_progress (extract_lets +onlyGivenNames y)); (have z_ := y; guard_hyp z_ : State; clear z_); refine Keeps.cut (kq := kq) (s0 := s0) y ?_ ?_; (on_goal 1 => subst y); (on_goal 2 => (intro hy; try clear_value y))) | ((fail_if_no_progress (extract_lets +onlyGivenNames y)); clear_value y) | with_reducible apply State.setFld_keeps | with_reducible apply State.putDmaChan_keeps | with_reducible apply State.dmaFetch_keeps | with_reducible apply State.dozePause_keeps)

theorem State.reread_keeps {s0 s : State} {n} (h : Keeps kq s0 s) : Keeps kq s0 (State.reread s n) := by
  unfold State.reread
  repeat' (first | with_reducible assumption | ((fail_if_no_progress (extract_lets +onlyGivenNames y)); clear_value y) | with_reducible apply State.setFld_keeps | with_reducible apply State.putDmaChan_keeps)

theorem State.dmaDoorbell_keeps {s0 s : State} {n} (h : Keeps kq s0 s) : Keeps kq s0 (State.dmaDoorbell s n) := by
  unfold State.dmaDoorbell
  repeat' (first | with_reducible assumption | with_reducible refine Keeps.ite ?_ ?_ | ((fail_if_no_progress (extract_lets +onlyGivenNames y)); clear_value y) | with_reducible apply State.dmaStart_keeps | with_reducible apply State.setFld_keeps | with_reducible apply State.putDmaChan_keeps | with_reducible apply State.reread_keeps | split)

theorem State.hostDoorbell_keeps {s0 s : State} {n} (h : Keeps kq s0 s) : Keeps kq s0 (State.hostDoorbell s n) := by
  unfold State.hostDoorbell
  repeat' (first | with_reducible assumption | with_reducible refine Keeps.ite ?_ ?_ | with_reducible apply State.dmaDoorbell_keeps)

theorem State.recFlag_keeps {s0 s : State} {b} (h : Keeps kq s0 s) : Keeps kq s0 (State.recFlag s b) := by
  unfold State.recFlag
  repeat' (first | with_reducible assumption | ((fail_if_no_progress (extract_lets +onlyGivenNames y)); clear_value y) | fail_if_no_progress (with_reducible apply Keeps.upd))

theorem State.recordTick_keeps {s0 s : State} {ins quals points} (h : Keeps kq s0 s) : Keeps kq s0 (State.recordTick s ins quals points) := by
  unfold State.recordTick
  repeat' (first | with_reducible assumption | with_reducible refine Keeps.ite ?_ ?_ | ((fail_if_no_progress (extract_lets +onlyGivenNames y)); (have z_ := y; guard_hyp z_ : State; clear z_); refine Keeps.cut (kq := kq) (s0 := s0) y ?_ ?_; (on_goal 1 => subst y); (on_goal 2 => (intro hy; try clear_value y))) | ((fail_if_no_progress (extract_lets +onlyGivenNames y)); clear_value y) | with_reducible apply State.recFlag_keeps | with_reducible apply State.addFld_keeps | fail_if_no_progress (with_reducible apply Keeps.upd))

theorem State.recAbort_keeps {s0 s : State} {reason} (h : Keeps kq s0 s) : Keeps kq s0 (State.recAbort s reason) := by
  unfold State.recAbort
  repeat' (first | with_reducible assumption | with_reducible refine Keeps.ite ?_ ?_ | ((fail_if_no_progress (extract_lets +onlyGivenNames y)); (have z_ := y; guard_hyp z_ : State; clear z_); refine Keeps.cut (kq := kq) (s0 := s0) y ?_ ?_; (on_goal 1 => subst y); (on_goal 2 => (intro hy; try clear_value y))) | with_reducible apply State.recordTick_keeps | with_reducible apply State.recFlag_keeps | with_reducible apply State.recStop_keeps)

theorem State.dmaPause_keeps {s0 s : State} (h : Keeps kq s0 s) : Keeps kq s0 (State.dmaPause s) := by
  unfold State.dmaPause
  repeat' (first | with_reducible assumption | with_reducible refine Keeps.ite ?_ ?_ | ((fail_if_no_progress (extract_lets +onlyGivenNames y)); (have z_ := y; guard_hyp z_ : State; clear z_); refine Keeps.cut (kq := kq) (s0 := s0) y ?_ ?_; (on_goal 1 => subst y); (on_goal 2 => (intro hy; try clear_value y))) | ((fail_if_no_progress (extract_lets +onlyGivenNames y)); (have z_ := y; guard_hyp z_ : State × _; clear z_); refine Keeps.cut1 (kq := kq) (s0 := s0) y ?_ ?_; (on_goal 1 => subst y); (on_goal 2 => (intro hy; try clear_value y))) | ((fail_if_no_progress (extract_lets +onlyGivenNames y)); (have z_ := y; guard_hyp z_ : _ × State; clear z_); refine Keeps.cut2 (kq := kq) (s0 := s0) y ?_ ?_; (on_goal 1 => subst y); (on_goal 2 => (intro hy; try clear_value y))) | ((fail_if_no_progress (extract_lets +onlyGivenNames y)); refine Keeps.fn y ?_; subst y; beta_reduce) | ((fail_if_no_progress (extract_lets +onlyGivenNames y)); clear_value y) | ((fail_if_no_progress (extract_lets +onlyGivenNames y)); subst y) | with_reducible apply State.setFld_keeps | with_reducible apply Done.plain_keeps | with_reducible apply Done.bad_keeps | fail_if_no_progress (with_reducible apply Keeps.upd) | (with_reducible refine Keeps.foldl ?_ ?_; on_goal 2 => (intro t x ht; beta_reduce)) | (with_reducible refine Keeps.foldl2 ?_ ?_; on_goal 2 => (intro t x ht; beta_reduce)) | with_reducible apply KeepsO.next | fail_if_no_progress (with_reducible apply Keeps.updFree) | (with_reducible refine Keeps.foldl1 ?_ ?_; on_goal 2 => (intro t x ht; beta_reduce)) | (with_reducible apply Keeps.fst; with_reducible assumption) | refine Keeps.ite ?_ ?_ | split | (intro a; intros; beta_reduce) | (with_reducible apply Keeps.snd; with_reducible assumption))

theorem State.dmaResume_keeps {s0 s : State} (h : Keeps kq s0 s) : Keeps kq s0 (State.dmaResume s) := by
  unfold State.dmaResume
  repeat' (first | with_reducible assumption | with_reducible refine Keeps.ite ?_ ?_ | ((fail_if_no_progress (extract_lets +onlyGivenNames y)); (have z_ := y; guard_hyp z_ : State; clear z_); refine Keeps.cut (kq := kq) (s0 := s0) y ?_ ?_; (on_goal 1 => subst y); (on_goal 2 => (intro hy; try clear_value y))) | ((fail_if_no_progress (extract_lets +onlyGivenNames y)); (have z_ := y; guard_hyp z_ : State × _; clear z_); refine Keeps.cut1 (kq := kq) (s0 := s0) y ?_ ?_; (on_goal 1 => subst y); (on_goal 2 => (intro hy; try clear_value y))) | ((fail_if_no_progress (extract_lets +onlyGivenNames y)); (have z_ := y; guard_hyp z_ : _ × State; clear z_); refine Keeps.cut2 (kq := kq) (s0 := s0) y ?_ ?_; (on_goal 1 => subst y); (on_goal 2 => (intro hy; try clear_value y))) | ((fail_if_no_progress (extract_lets +onlyGivenNames y)); refine Keeps.fn y ?_; subst y; beta_reduce) | ((fail_if_no_progress (extract_lets +onlyGivenNames y)); clear_value y) | ((fail_if_no_progress (extract_lets +onlyGivenNames y)); subst y) | with_reducible apply State.setFld_keeps | with_reducible apply Done.plain_keeps | with_reducible apply Done.bad_keeps | fail_if_no_progress (with_reducible apply Keeps.upd) | (with_reducible refine Keeps.foldl ?_ ?_; on_goal 2 => (intro t x ht; beta_reduce)) | (with_reducible refine Keeps.foldl2 ?_ ?_; on_goal 2 => (intro t x ht; beta_reduce)) | with_reducible apply KeepsO.next | fail_if_no_progress (with_reducible apply Keeps.updFree) | (with_reducible refine Keeps.foldl1 ?_ ?_; on_goal 2 => (intro t x ht; beta_reduce)) | (with_reducible apply Keeps.fst; with_reducible assumption) | refine Keeps.ite ?_ ?_ | split | (intro a; intros; beta_reduce) | (with_reducible apply Keeps.snd; with_reducible assumption))

theorem State.loadKernel_keeps {s0 s : State} {e k src compat own} (h : Keeps kq s0 s) : Keeps kq s0 (State.loadKernel s e k src compat own) := by
  unfold State.loadKernel
  repeat' (first | with_reducible assumption | ((fail_if_no_progress (extract_lets +onlyGivenNames y)); (have z_ := y; guard_hyp z_ : State; clear z_); refine Keeps.cut (kq := kq) (s0 := s0) y ?_ ?_; (on_goal 1 => subst y); (on_goal 2 => (intro hy; try clear_value y))) | ((fail_if_no_progress (extract_lets +onlyGivenNames y)); clear_value y) | with_reducible apply State.putEngine_keeps | with_reducible apply State.setFld_keeps | with_reducible apply State.setEngRun_keeps | fail_if_no_progress (with_reducible apply Keeps.upd))

theorem State.startEngine_keeps {s0 s : State} {e} (h : Keeps kq s0 s) : Keeps kq s0 (State.startEngine s e) := by
  unfold State.startEngine
  repeat' (first | with_reducible assumption | ((fail_if_no_progress (extract_lets +onlyGivenNames y)); clear_value y) | with_reducible apply State.setEngRun_keeps | with_reducible apply State.putEngine_keeps)

theorem State.loadRole_keeps {s0 s : State} {e r} (h : Keeps kq s0 s) : Keeps kq s0 (State.loadRole s e r) := by
  unfold State.loadRole
  repeat' (first | with_reducible assumption | with_reducible refine Keeps.ite ?_ ?_ | ((fail_if_no_progress (extract_lets +onlyGivenNames y)); (have z_ := y; guard_hyp z_ : State; clear z_); refine Keeps.cut (kq := kq) (s0 := s0) y ?_ ?_; (on_goal 1 => subst y); (on_goal 2 => (intro hy; try clear_value y))) | ((fail_if_no_progress (extract_lets +onlyGivenNames y)); clear_value y) | with_reducible apply State.loadKernel_keeps | with_reducible apply State.setFld_keeps | with_reducible apply State.startEngine_keeps)

theorem State.assignRoles_keeps {s0 s : State} (h : Keeps kq s0 s) : Keeps kq s0 (State.assignRoles s) := by
  unfold State.assignRoles
  repeat' (first | with_reducible assumption | with_reducible refine Keeps.ite ?_ ?_ | ((fail_if_no_progress (extract_lets +onlyGivenNames y)); (have z_ := y; guard_hyp z_ : State; clear z_); refine Keeps.cut (kq := kq) (s0 := s0) y ?_ ?_; (on_goal 1 => subst y); (on_goal 2 => (intro hy; try clear_value y))) | ((fail_if_no_progress (extract_lets +onlyGivenNames y)); clear_value y) | with_reducible apply State.setRole_keeps | with_reducible apply State.loadRole_keeps | fail_if_no_progress (with_reducible apply Keeps.upd) | (with_reducible refine Keeps.foldl ?_ ?_; on_goal 2 => (intro t x ht; beta_reduce)))

theorem State.backOffTick_keeps {s0 s : State} (h : Keeps kq s0 s) : Keeps kq s0 (State.backOffTick s) := by
  unfold State.backOffTick
  repeat' (first | with_reducible assumption | with_reducible refine Keeps.ite ?_ ?_ | ((fail_if_no_progress (extract_lets +onlyGivenNames y)); (have z_ := y; guard_hyp z_ : State; clear z_); refine Keeps.cut (kq := kq) (s0 := s0) y ?_ ?_; (on_goal 1 => subst y); (on_goal 2 => (intro hy; try clear_value y))) | ((fail_if_no_progress (extract_lets +onlyGivenNames y)); (have z_ := y; guard_hyp z_ : State × _; clear z_); refine Keeps.cut1 (kq := kq) (s0 := s0) y ?_ ?_; (on_goal 1 => subst y); (on_goal 2 => (intro hy; try clear_value y))) | ((fail_if_no_progress (extract_lets +onlyGivenNames y)); (have z_ := y; guard_hyp z_ : _ × State; clear z_); refine Keeps.cut2 (kq := kq) (s0 := s0) y ?_ ?_; (on_goal 1 => subst y); (on_goal 2 => (intro hy; try clear_value y))) | ((fail_if_no_progress (extract_lets +onlyGivenNames y)); refine Keeps.fn y ?_; subst y; beta_reduce) | ((fail_if_no_progress (extract_lets +onlyGivenNames y)); clear_value y) | ((fail_if_no_progress (extract_lets +onlyGivenNames y)); subst y) | with_reducible apply State.putDmaChan_keeps | with_reducible apply Done.plain_keeps | with_reducible apply Done.bad_keeps | fail_if_no_progress (with_reducible apply Keeps.upd) | (with_reducible refine Keeps.foldl ?_ ?_; on_goal 2 => (intro t x ht; beta_reduce)) | (with_reducible refine Keeps.foldl2 ?_ ?_; on_goal 2 => (intro t x ht; beta_reduce)) | with_reducible apply KeepsO.next | fail_if_no_progress (with_reducible apply Keeps.updFree) | (with_reducible refine Keeps.foldl1 ?_ ?_; on_goal 2 => (intro t x ht; beta_reduce)) | (with_reducible apply Keeps.fst; with_reducible assumption) | refine Keeps.ite ?_ ?_ | split | (intro a; intros; beta_reduce) | (with_reducible apply Keeps.snd; with_reducible assumption))

theorem State.busTimeout_keeps {s0 s : State} {n} (h : Keeps kq s0 s) : Keeps kq s0 (State.busTimeout s n) := by
  unfold State.busTimeout
  repeat' (first | with_reducible assumption | with_reducible refine Keeps.ite ?_ ?_ | with_reducible apply State.addFld_keeps | with_reducible apply State.raiseFree_keeps | with_reducible apply State.setDmaSt_keeps | with_reducible apply State.putDmaChan_keeps | with_reducible apply State.dmaError_keeps)

theorem State.captureIrq_keeps {s0 s : State} (h : Keeps kq s0 s) : Keeps kq s0 (State.captureIrq s) := by
  unfold State.captureIrq
  repeat' (first | with_reducible assumption | with_reducible refine Keeps.ite ?_ ?_ | with_reducible apply State.setFld_keeps | (with_reducible refine Keeps.foldl ?_ ?_; on_goal 2 => (intro t x ht; beta_reduce)))

theorem State.clmRead_keeps {s0 s : State} {w} (h : Keeps kq s0 s) : Keeps kq s0 (State.clmRead s w).2 := by
  unfold State.clmRead
  repeat' (first | with_reducible assumption | with_reducible refine Keeps.ite ?_ ?_ | ((fail_if_no_progress (extract_lets +onlyGivenNames y)); (have z_ := y; guard_hyp z_ : State; clear z_); refine Keeps.cut (kq := kq) (s0 := s0) y ?_ ?_; (on_goal 1 => subst y); (on_goal 2 => (intro hy; try clear_value y))) | ((fail_if_no_progress (extract_lets +onlyGivenNames y)); (have z_ := y; guard_hyp z_ : State × _; clear z_); refine Keeps.cut1 (kq := kq) (s0 := s0) y ?_ ?_; (on_goal 1 => subst y); (on_goal 2 => (intro hy; try clear_value y))) | ((fail_if_no_progress (extract_lets +onlyGivenNames y)); (have z_ := y; guard_hyp z_ : _ × State; clear z_); refine Keeps.cut2 (kq := kq) (s0 := s0) y ?_ ?_; (on_goal 1 => subst y); (on_goal 2 => (intro hy; try clear_value y))) | ((fail_if_no_progress (extract_lets +onlyGivenNames y)); refine Keeps.fn y ?_; subst y; beta_reduce) | ((fail_if_no_progress (extract_lets +onlyGivenNames y)); clear_value y) | ((fail_if_no_progress (extract_lets +onlyGivenNames y)); subst y) | with_reducible apply State.fresh_keeps | with_reducible apply Done.plain_keeps | with_reducible apply Done.bad_keeps | fail_if_no_progress (with_reducible apply Keeps.upd) | (with_reducible refine Keeps.foldl ?_ ?_; on_goal 2 => (intro t x ht; beta_reduce)) | (with_reducible refine Keeps.foldl2 ?_ ?_; on_goal 2 => (intro t x ht; beta_reduce)) | with_reducible apply KeepsO.next | fail_if_no_progress (with_reducible apply Keeps.updFree) | (with_reducible refine Keeps.foldl1 ?_ ?_; on_goal 2 => (intro t x ht; beta_reduce)) | (with_reducible apply Keeps.fst; with_reducible assumption) | refine Keeps.ite ?_ ?_ | split | (intro a; intros; beta_reduce) | (with_reducible apply Keeps.snd; with_reducible assumption))

theorem State.clmWrite_keeps {s0 s : State} {w v} (h : Keeps kq s0 s) : Keeps kq s0 (State.clmWrite s w v) := by
  unfold State.clmWrite
  repeat' (first | with_reducible assumption | ((fail_if_no_progress (extract_lets +onlyGivenNames y)); clear_value y) | fail_if_no_progress (with_reducible apply Keeps.upd))

theorem State.clmByte_keeps {s0 s : State} {a b} (h : Keeps kq s0 s) : Keeps kq s0 (State.clmByte s a b) := by
  unfold State.clmByte
  repeat' (first | with_reducible assumption | with_reducible refine Keeps.ite ?_ ?_ | ((fail_if_no_progress (extract_lets +onlyGivenNames y)); (have z_ := y; guard_hyp z_ : State; clear z_); refine Keeps.cut (kq := kq) (s0 := s0) y ?_ ?_; (on_goal 1 => subst y); (on_goal 2 => (intro hy; try clear_value y))) | ((fail_if_no_progress (extract_lets +onlyGivenNames y)); (have z_ := y; guard_hyp z_ : State × _; clear z_); refine Keeps.cut1 (kq := kq) (s0 := s0) y ?_ ?_; (on_goal 1 => subst y); (on_goal 2 => (intro hy; try clear_value y))) | ((fail_if_no_progress (extract_lets +onlyGivenNames y)); (have z_ := y; guard_hyp z_ : _ × State; clear z_); refine Keeps.cut2 (kq := kq) (s0 := s0) y ?_ ?_; (on_goal 1 => subst y); (on_goal 2 => (intro hy; try clear_value y))) | ((fail_if_no_progress (extract_lets +onlyGivenNames y)); refine Keeps.fn y ?_; subst y; beta_reduce) | ((fail_if_no_progress (extract_lets +onlyGivenNames y)); clear_value y) | ((fail_if_no_progress (extract_lets +onlyGivenNames y)); subst y) | with_reducible apply State.clmRead_keeps | with_reducible apply State.clmWrite_keeps | with_reducible apply Done.plain_keeps | with_reducible apply Done.bad_keeps | fail_if_no_progress (with_reducible apply Keeps.upd) | (with_reducible refine Keeps.foldl ?_ ?_; on_goal 2 => (intro t x ht; beta_reduce)) | (with_reducible refine Keeps.foldl2 ?_ ?_; on_goal 2 => (intro t x ht; beta_reduce)) | with_reducible apply KeepsO.next | fail_if_no_progress (with_reducible apply Keeps.updFree) | (with_reducible refine Keeps.foldl1 ?_ ?_; on_goal 2 => (intro t x ht; beta_reduce)) | (with_reducible apply Keeps.fst; with_reducible assumption) | refine Keeps.ite ?_ ?_ | split | (intro a; intros; beta_reduce) | (with_reducible apply Keeps.snd; with_reducible assumption))

theorem State.clmBytes_keeps {s0 s : State} {w bs} (h : Keeps kq s0 s) : Keeps kq s0 (State.clmBytes s w bs) := by
  unfold State.clmBytes
  repeat' (first | with_reducible assumption | with_reducible apply State.clmWrite_keeps | (with_reducible refine Keeps.foldl ?_ ?_; on_goal 2 => (intro t x ht; beta_reduce)))

theorem State.clmGet_keeps {s0 s : State} {a a__internal_hyg0} (h : Keeps kq s0 s) : Keeps kq s0 (State.clmGet s a a__internal_hyg0).2 := by
  induction a__internal_hyg0 generalizing s a with
  | zero => unfold State.clmGet; repeat' (first | with_reducible assumption | with_reducible apply State.clmRead_keeps | split | (with_reducible apply Keeps.snd; with_reducible assumption) | with_reducible apply ih)
  | succ n_ ih => unfold State.clmGet; repeat' (first | with_reducible assumption | with_reducible apply State.clmRead_keeps | split | (with_reducible apply Keeps.snd; with_reducible assumption) | with_reducible apply ih)

theorem State.clmWords_keeps {s0 s : State} {w n} (h : Keeps kq s0 s) : Keeps kq s0 (State.clmWords s w n).2 := by
  unfold State.clmWords
  repeat' (first | with_reducible assumption | with_reducible refine Keeps.ite ?_ ?_ | ((fail_if_no_progress (extract_lets +onlyGivenNames y)); (have z_ := y; guard_hyp z_ : State; clear z_); refine Keeps.cut (kq := kq) (s0 := s0) y ?_ ?_; (on_goal 1 => subst y); (on_goal 2 => (intro hy; try clear_value y))) | ((fail_if_no_progress (extract_lets +onlyGivenNames y)); (have z_ := y; guard_hyp z_ : State × _; clear z_); refine Keeps.cut1 (kq := kq) (s0 := s0) y ?_ ?_; (on_goal 1 => subst y); (on_goal 2 => (intro hy; try clear_value y))) | ((fail_if_no_progress (extract_lets +onlyGivenNames y)); (have z_ := y; guard_hyp z_ : _ × State; clear z_); refine Keeps.cut2 (kq := kq) (s0 := s0) y ?_ ?_; (on_goal 1 => subst y); (on_goal 2 => (intro hy; try clear_value y))) | ((fail_if_no_progress (extract_lets +onlyGivenNames y)); refine Keeps.fn y ?_; subst y; beta_reduce) | ((fail_if_no_progress (extract_lets +onlyGivenNames y)); clear_value y) | ((fail_if_no_progress (extract_lets +onlyGivenNames y)); subst y) | with_reducible apply State.clmRead_keeps | with_reducible apply Done.plain_keeps | with_reducible apply Done.bad_keeps | fail_if_no_progress (with_reducible apply Keeps.upd) | (with_reducible refine Keeps.foldl ?_ ?_; on_goal 2 => (intro t x ht; beta_reduce)) | (with_reducible refine Keeps.foldl2 ?_ ?_; on_goal 2 => (intro t x ht; beta_reduce)) | with_reducible apply KeepsO.next | fail_if_no_progress (with_reducible apply Keeps.updFree) | (with_reducible refine Keeps.foldl1 ?_ ?_; on_goal 2 => (intro t x ht; beta_reduce)) | (with_reducible apply Keeps.fst; with_reducible assumption) | refine Keeps.ite ?_ ?_ | split | (intro a; intros; beta_reduce) | (with_reducible apply Keeps.snd; with_reducible assumption))

theorem State.failEstimations_keeps {s0 s : State} {e} (h : Keeps kq s0 s) : Keeps kq s0 (State.failEstimations s e) := by
  unfold State.failEstimations
  repeat' (first | with_reducible assumption | with_reducible refine Keeps.ite ?_ ?_ | with_reducible apply State.failEstimation_keeps | (with_reducible refine Keeps.foldl ?_ ?_; on_goal 2 => (intro t x ht; beta_reduce)))

theorem State.engTick_keeps {s0 s : State} {overs cycles} (h : Keeps kq s0 s) : Keeps kq s0 (State.engTick s overs cycles) := by
  unfold State.engTick
  repeat' (first | with_reducible assumption | with_reducible refine Keeps.ite ?_ ?_ | ((fail_if_no_progress (extract_lets +onlyGivenNames y)); (have z_ := y; guard_hyp z_ : State; clear z_); refine Keeps.cut (kq := kq) (s0 := s0) y ?_ ?_; (on_goal 1 => subst y); (on_goal 2 => (intro hy; try clear_value y))) | with_reducible apply State.setFld_keeps | with_reducible apply State.noteOverrun_keeps | with_reducible apply State.addFld_keeps | with_reducible apply State.failEstimations_keeps | with_reducible apply State.putEngine_keeps | (with_reducible refine Keeps.foldl ?_ ?_; on_goal 2 => (intro t x ht; beta_reduce)))

theorem State.compareTick_keeps {s0 s : State} {points} (h : Keeps kq s0 s) : Keeps kq s0 (State.compareTick s points) := by
  unfold State.compareTick
  repeat' (first | with_reducible assumption | with_reducible refine Keeps.ite ?_ ?_ | ((fail_if_no_progress (extract_lets +onlyGivenNames y)); (have z_ := y; guard_hyp z_ : State; clear z_); refine Keeps.cut (kq := kq) (s0 := s0) y ?_ ?_; (on_goal 1 => subst y); (on_goal 2 => (intro hy; try clear_value y))) | ((fail_if_no_progress (extract_lets +onlyGivenNames y)); clear_value y) | with_reducible apply State.addFld_keeps | with_reducible apply State.setFld_keeps | with_reducible apply State.recEvent_keeps | fail_if_no_progress (with_reducible apply Keeps.upd) | split)

theorem State.engFault_keeps {s0 s : State} {e code} (h : Keeps kq s0 s) : Keeps kq s0 (State.engFault s e code) := by
  unfold State.engFault
  repeat' (first | with_reducible assumption | with_reducible refine Keeps.ite ?_ ?_ | with_reducible apply State.setEngRun_keeps | with_reducible apply State.setFld_keeps | with_reducible apply State.raise_keeps | with_reducible apply State.loadRole_keeps)

theorem State.mdPut_keeps {s0 s : State} {a bs} (h : Keeps kq s0 s) : Keeps kq s0 (State.mdPut s a bs) := by
  unfold State.mdPut
  repeat' (first | with_reducible assumption | with_reducible refine Keeps.ite ?_ ?_ | ((fail_if_no_progress (extract_lets +onlyGivenNames y)); clear_value y) | with_reducible apply State.fresh_keeps | fail_if_no_progress (with_reducible apply Keeps.upd))

theorem State.spaceWrite_keeps {s0 s : State} {wr sp a bs} (hwr : ∀ a0 a1 a2, Keeps false s0 a0 → Keeps false s0 (wr a0 a1 a2)) (h : Keeps false s0 s) : Keeps false s0 (State.spaceWrite wr s sp a bs) := by
  unfold State.spaceWrite
  repeat' (first | with_reducible assumption | with_reducible refine Keeps.ite ?_ ?_ | with_reducible apply State.hostWrite_keeps | with_reducible apply State.clmByte_keeps | with_reducible apply State.mdPut_keeps | with_reducible apply hwr | (with_reducible refine Keeps.foldl ?_ ?_; on_goal 2 => (intro t x ht; beta_reduce)))

theorem State.storeCrc_keeps {s0 s : State} {wr n} (hwr : ∀ a0 a1 a2, Keeps false s0 a0 → Keeps false s0 (wr a0 a1 a2)) (h : Keeps false s0 s) : Keeps false s0 (State.storeCrc wr s n) := by
  unfold State.storeCrc
  repeat' (first | with_reducible assumption | with_reducible refine Keeps.ite ?_ ?_ | ((fail_if_no_progress (extract_lets +onlyGivenNames y)); (have z_ := y; guard_hyp z_ : State; clear z_); refine Keeps.cut (kq := false) (s0 := s0) y ?_ ?_; (on_goal 1 => subst y); (on_goal 2 => (intro hy; try clear_value y))) | ((fail_if_no_progress (extract_lets +onlyGivenNames y)); (have z_ := y; guard_hyp z_ : State × _; clear z_); refine Keeps.cut1 (kq := false) (s0 := s0) y ?_ ?_; (on_goal 1 => subst y); (on_goal 2 => (intro hy; try clear_value y))) | ((fail_if_no_progress (extract_lets +onlyGivenNames y)); (have z_ := y; guard_hyp z_ : _ × State; clear z_); refine Keeps.cut2 (kq := false) (s0 := s0) y ?_ ?_; (on_goal 1 => subst y); (on_goal 2 => (intro hy; try clear_value y))) | ((fail_if_no_progress (extract_lets +onlyGivenNames y)); refine Keeps.fn y ?_; subst y; beta_reduce) | ((fail_if_no_progress (extract_lets +onlyGivenNames y)); clear_value y) | ((fail_if_no_progress (extract_lets +onlyGivenNames y)); subst y) | with_reducible apply State.putDmaChan_keeps | with_reducible apply State.setFld_keeps | with_reducible apply State.spaceWrite_keeps | with_reducible apply hwr | with_reducible apply Done.plain_keeps | with_reducible apply Done.bad_keeps | fail_if_no_progress (with_reducible apply Keeps.upd) | (with_reducible refine Keeps.foldl ?_ ?_; on_goal 2 => (intro t x ht; beta_reduce)) | (with_reducible refine Keeps.foldl2 ?_ ?_; on_goal 2 => (intro t x ht; beta_reduce)) | with_reducible apply KeepsO.next | fail_if_no_progress (with_reducible apply Keeps.updFree) | (with_reducible refine Keeps.foldl1 ?_ ?_; on_goal 2 => (intro t x ht; beta_reduce)) | (with_reducible apply Keeps.fst; with_reducible assumption) | refine Keeps.ite ?_ ?_ | split | (intro a; intros; beta_reduce) | (with_reducible apply Keeps.snd; with_reducible assumption))

theorem State.mdByte_keeps {s0 s : State} {a} (h : Keeps kq s0 s) : Keeps kq s0 (State.mdByte s a).2 := by
  have hf : Keeps kq s0 (s.fresh 8).2 := State.fresh_keeps h
  unfold State.mdByte
  split
  · exact h
  · dsimp only
    split
    · split
      · exact h
      · split
        · exact h
        · exact hf
    · exact hf

theorem State.mdGet_keeps {s0 s : State} {a a__internal_hyg0} (h : Keeps kq s0 s) : Keeps kq s0 (State.mdGet s a a__internal_hyg0).2 := by
  induction a__internal_hyg0 generalizing s a with
  | zero => unfold State.mdGet; repeat' (first | with_reducible assumption | with_reducible apply State.mdByte_keeps | split | (with_reducible apply Keeps.snd; with_reducible assumption) | with_reducible apply ih)
  | succ n_ ih => unfold State.mdGet; repeat' (first | with_reducible assumption | with_reducible apply State.mdByte_keeps | split | (with_reducible apply Keeps.snd; with_reducible assumption) | with_reducible apply ih)

theorem State.spaceRead_keeps {s0 s : State} {rd sp a n host} (hrd : ∀ a0 a1, Keeps kq s0 a0 → Keeps kq s0 (rd a0 a1).2) (h : Keeps kq s0 s) : Keeps kq s0 (State.spaceRead rd s sp a n host).2 := by
  unfold State.spaceRead
  repeat' (first | with_reducible assumption | with_reducible apply State.clmGet_keeps | with_reducible apply State.mdGet_keeps | with_reducible apply hrd | split)

theorem State.readLast_keeps {s0 s : State} {n} (h : Keeps kq s0 s) : Keeps kq s0 (State.readLast s n) := by
  unfold State.readLast
  repeat' (first | with_reducible assumption | with_reducible refine Keeps.ite ?_ ?_ | ((fail_if_no_progress (extract_lets +onlyGivenNames y)); (have z_ := y; guard_hyp z_ : State; clear z_); refine Keeps.cut (kq := kq) (s0 := s0) y ?_ ?_; (on_goal 1 => subst y); (on_goal 2 => (intro hy; try clear_value y))) | ((fail_if_no_progress (extract_lets +onlyGivenNames y)); (have z_ := y; guard_hyp z_ : State × _; clear z_); refine Keeps.cut1 (kq := kq) (s0 := s0) y ?_ ?_; (on_goal 1 => subst y); (on_goal 2 => (intro hy; try clear_value y))) | ((fail_if_no_progress (extract_lets +onlyGivenNames y)); (have z_ := y; guard_hyp z_ : _ × State; clear z_); refine Keeps.cut2 (kq := kq) (s0 := s0) y ?_ ?_; (on_goal 1 => subst y); (on_goal 2 => (intro hy; try clear_value y))) | ((fail_if_no_progress (extract_lets +onlyGivenNames y)); refine Keeps.fn y ?_; subst y; beta_reduce) | ((fail_if_no_progress (extract_lets +onlyGivenNames y)); clear_value y) | ((fail_if_no_progress (extract_lets +onlyGivenNames y)); subst y) | with_reducible apply State.putDmaChan_keeps | with_reducible apply State.spaceRead_keeps | with_reducible apply Done.plain_keeps | with_reducible apply Done.bad_keeps | fail_if_no_progress (with_reducible apply Keeps.upd) | (with_reducible refine Keeps.foldl ?_ ?_; on_goal 2 => (intro t x ht; beta_reduce)) | (with_reducible refine Keeps.foldl2 ?_ ?_; on_goal 2 => (intro t x ht; beta_reduce)) | with_reducible apply KeepsO.next | fail_if_no_progress (with_reducible apply Keeps.updFree) | (with_reducible refine Keeps.foldl1 ?_ ?_; on_goal 2 => (intro t x ht; beta_reduce)) | (with_reducible apply Keeps.fst; with_reducible assumption) | refine Keeps.ite ?_ ?_ | split | (intro a; intros; beta_reduce) | (with_reducible apply Keeps.snd; with_reducible assumption))

theorem State.dmaEnd_keeps {s0 s : State} {n} (h : Keeps kq s0 s) : Keeps kq s0 (State.dmaEnd s n) := by
  unfold State.dmaEnd
  repeat' (first | with_reducible assumption | ((fail_if_no_progress (extract_lets +onlyGivenNames y)); (have z_ := y; guard_hyp z_ : State; clear z_); refine Keeps.cut (kq := kq) (s0 := s0) y ?_ ?_; (on_goal 1 => subst y); (on_goal 2 => (intro hy; try clear_value y))) | ((fail_if_no_progress (extract_lets +onlyGivenNames y)); clear_value y) | with_reducible apply State.setDmaSt_keeps | with_reducible apply State.setFld_keeps | with_reducible apply State.putDmaChan_keeps | with_reducible apply State.endWaits_keeps | with_reducible apply State.setStop_keeps)

theorem State.takeDesc_keeps {s0 s : State} {n d} (h : Keeps kq s0 s) : Keeps kq s0 (State.takeDesc s n d) := by
  unfold State.takeDesc
  repeat' (first | with_reducible assumption | with_reducible refine Keeps.ite ?_ ?_ | ((fail_if_no_progress (extract_lets +onlyGivenNames y)); (have z_ := y; guard_hyp z_ : State; clear z_); refine Keeps.cut (kq := kq) (s0 := s0) y ?_ ?_; (on_goal 1 => subst y); (on_goal 2 => (intro hy; try clear_value y))) | ((fail_if_no_progress (extract_lets +onlyGivenNames y)); clear_value y) | with_reducible apply State.dmaError_keeps | with_reducible apply State.putDmaChan_keeps | with_reducible apply Done.plain_keeps)

theorem State.dmaContinue_keeps {s0 s : State} {n} (h : Keeps kq s0 s) : Keeps kq s0 (State.dmaContinue s n) := by
  unfold State.dmaContinue
  repeat' (first | with_reducible assumption | with_reducible refine Keeps.ite ?_ ?_ | ((fail_if_no_progress (extract_lets +onlyGivenNames y)); clear_value y) | with_reducible apply State.dmaFetch_keeps | with_reducible apply State.putDmaChan_keeps | with_reducible apply State.takeDesc_keeps)

theorem State.descComplete_keeps {s0 s : State} {wr n} (hwr : ∀ a0 a1 a2, Keeps false s0 a0 → Keeps false s0 (wr a0 a1 a2)) (h : Keeps false s0 s) : Keeps false s0 (State.descComplete wr s n) := by
  unfold State.descComplete
  repeat' (first | with_reducible assumption | with_reducible refine Keeps.ite ?_ ?_ | ((fail_if_no_progress (extract_lets +onlyGivenNames y)); (have z_ := y; guard_hyp z_ : State; clear z_); refine Keeps.cut (kq := false) (s0 := s0) y ?_ ?_; (on_goal 1 => subst y); (on_goal 2 => (intro hy; try clear_value y))) | ((fail_if_no_progress (extract_lets +onlyGivenNames y)); (have z_ := y; guard_hyp z_ : State × _; clear z_); refine Keeps.cut1 (kq := false) (s0 := s0) y ?_ ?_; (on_goal 1 => subst y); (on_goal 2 => (intro hy; try clear_value y))) | ((fail_if_no_progress (extract_lets +onlyGivenNames y)); (have z_ := y; guard_hyp z_ : _ × State; clear z_); refine Keeps.cut2 (kq := false) (s0 := s0) y ?_ ?_; (on_goal 1 => subst y); (on_goal 2 => (intro hy; try clear_value y))) | ((fail_if_no_progress (extract_lets +onlyGivenNames y)); refine Keeps.fn y ?_; subst y; beta_reduce) | ((fail_if_no_progress (extract_lets +onlyGivenNames y)); clear_value y) | ((fail_if_no_progress (extract_lets +onlyGivenNames y)); subst y) | with_reducible apply State.storeCrc_keeps | with_reducible apply State.readLast_keeps | with_reducible apply State.setFld_keeps | with_reducible apply State.addFld_keeps | with_reducible apply State.setIrq_keeps | with_reducible apply State.reread_keeps | with_reducible apply State.dmaEnd_keeps | with_reducible apply State.dmaContinue_keeps | with_reducible apply hwr | with_reducible apply Done.plain_keeps | with_reducible apply Done.bad_keeps | fail_if_no_progress (with_reducible apply Keeps.upd) | (with_reducible refine Keeps.foldl ?_ ?_; on_goal 2 => (intro t x ht; beta_reduce)) | (with_reducible refine Keeps.foldl2 ?_ ?_; on_goal 2 => (intro t x ht; beta_reduce)) | with_reducible apply KeepsO.next | fail_if_no_progress (with_reducible apply Keeps.updFree) | (with_reducible refine Keeps.foldl1 ?_ ?_; on_goal 2 => (intro t x ht; beta_reduce)) | (with_reducible apply Keeps.fst; with_reducible assumption) | refine Keeps.ite ?_ ?_ | split | (intro a; intros; beta_reduce) | (with_reducible apply Keeps.snd; with_reducible assumption))

theorem State.descRead_keeps {s0 s : State} {n d} (h : Keeps kq s0 s) : Keeps kq s0 (State.descRead s n d) := by
  unfold State.descRead
  repeat' (first | with_reducible assumption | with_reducible refine Keeps.ite ?_ ?_ | ((fail_if_no_progress (extract_lets +onlyGivenNames y)); (have z_ := y; guard_hyp z_ : State; clear z_); refine Keeps.cut (kq := kq) (s0 := s0) y ?_ ?_; (on_goal 1 => subst y); (on_goal 2 => (intro hy; try clear_value y))) | ((fail_if_no_progress (extract_lets +onlyGivenNames y)); clear_value y) | with_reducible apply State.takeDesc_keeps | with_reducible apply State.setFld_keeps | with_reducible apply State.putDmaChan_keeps | with_reducible apply State.reread_keeps | with_reducible apply State.dmaContinue_keeps | with_reducible apply State.dozePause_keeps | with_reducible apply State.setDmaSt_keeps | with_reducible apply State.dmaEnd_keeps | split)

theorem State.dmaStandby_keeps {s0 s : State} (h : Keeps kq s0 s) : Keeps kq s0 (State.dmaStandby s) := by
  unfold State.dmaStandby
  repeat' (first | with_reducible assumption | ((fail_if_no_progress (extract_lets +onlyGivenNames y)); (have z_ := y; guard_hyp z_ : State; clear z_); refine Keeps.cut (kq := kq) (s0 := s0) y ?_ ?_; (on_goal 1 => subst y); (on_goal 2 => (intro hy; try clear_value y))) | with_reducible apply State.setFld_keeps | with_reducible apply State.dmaReset_keeps | fail_if_no_progress (with_reducible apply Keeps.upd) | (with_reducible refine Keeps.foldl ?_ ?_; on_goal 2 => (intro t x ht; beta_reduce)))

theorem State.endLoads_keeps {s0 s : State} {old x ls} (h : Keeps kq s0 s) : Keeps kq s0 (State.endLoads s old x ls).2 := by
  unfold State.endLoads
  repeat' (first | with_reducible assumption | ((fail_if_no_progress (extract_lets +onlyGivenNames y)); clear_value y) | with_reducible apply State.fresh_keeps | (with_reducible refine Keeps.foldl2 ?_ ?_; on_goal 2 => (intro t x ht; beta_reduce)) | split)

theorem State.moveDone_keeps {s0 s : State} {e} (h : Keeps kq s0 s) : Keeps kq s0 (State.moveDone s e) := by
  unfold State.moveDone
  repeat' (first | with_reducible assumption | with_reducible refine Keeps.ite ?_ ?_ | ((fail_if_no_progress (extract_lets +onlyGivenNames y)); (have z_ := y; guard_hyp z_ : State; clear z_); refine Keeps.cut (kq := kq) (s0 := s0) y ?_ ?_; (on_goal 1 => subst y); (on_goal 2 => (intro hy; try clear_value y))) | ((fail_if_no_progress (extract_lets +onlyGivenNames y)); (have z_ := y; guard_hyp z_ : State × _; clear z_); refine Keeps.cut1 (kq := kq) (s0 := s0) y ?_ ?_; (on_goal 1 => subst y); (on_goal 2 => (intro hy; try clear_value y))) | ((fail_if_no_progress (extract_lets +onlyGivenNames y)); (have z_ := y; guard_hyp z_ : _ × State; clear z_); refine Keeps.cut2 (kq := kq) (s0 := s0) y ?_ ?_; (on_goal 1 => subst y); (on_goal 2 => (intro hy; try clear_value y))) | ((fail_if_no_progress (extract_lets +onlyGivenNames y)); refine Keeps.fn y ?_; subst y; beta_reduce) | ((fail_if_no_progress (extract_lets +onlyGivenNames y)); clear_value y) | ((fail_if_no_progress (extract_lets +onlyGivenNames y)); subst y) | with_reducible apply State.clmRead_keeps | with_reducible apply State.putEngine_keeps | with_reducible apply State.clmWrite_keeps | with_reducible apply State.setFld_keeps | with_reducible apply Done.plain_keeps | with_reducible apply Done.bad_keeps | fail_if_no_progress (with_reducible apply Keeps.upd) | (with_reducible refine Keeps.foldl ?_ ?_; on_goal 2 => (intro t x ht; beta_reduce)) | (with_reducible refine Keeps.foldl2 ?_ ?_; on_goal 2 => (intro t x ht; beta_reduce)) | with_reducible apply KeepsO.next | fail_if_no_progress (with_reducible apply Keeps.updFree) | (with_reducible refine Keeps.foldl1 ?_ ?_; on_goal 2 => (intro t x ht; beta_reduce)) | (with_reducible apply Keeps.fst; with_reducible assumption) | refine Keeps.ite ?_ ?_ | split | (intro a; intros; beta_reduce) | (with_reducible apply Keeps.snd; with_reducible assumption))

theorem State.endMoves_keeps {s0 s : State} (h : Keeps kq s0 s) : Keeps kq s0 (State.endMoves s) := by
  unfold State.endMoves
  repeat' (first | with_reducible assumption | with_reducible refine Keeps.ite ?_ ?_ | ((fail_if_no_progress (extract_lets +onlyGivenNames y)); (have z_ := y; guard_hyp z_ : State; clear z_); refine Keeps.cut (kq := kq) (s0 := s0) y ?_ ?_; (on_goal 1 => subst y); (on_goal 2 => (intro hy; try clear_value y))) | ((fail_if_no_progress (extract_lets +onlyGivenNames y)); (have z_ := y; guard_hyp z_ : State × _; clear z_); refine Keeps.cut1 (kq := kq) (s0 := s0) y ?_ ?_; (on_goal 1 => subst y); (on_goal 2 => (intro hy; try clear_value y))) | ((fail_if_no_progress (extract_lets +onlyGivenNames y)); (have z_ := y; guard_hyp z_ : _ × State; clear z_); refine Keeps.cut2 (kq := kq) (s0 := s0) y ?_ ?_; (on_goal 1 => subst y); (on_goal 2 => (intro hy; try clear_value y))) | ((fail_if_no_progress (extract_lets +onlyGivenNames y)); refine Keeps.fn y ?_; subst y; beta_reduce) | ((fail_if_no_progress (extract_lets +onlyGivenNames y)); clear_value y) | ((fail_if_no_progress (extract_lets +onlyGivenNames y)); subst y) | with_reducible apply State.moveDone_keeps | with_reducible apply State.putEngine_keeps | with_reducible apply Done.plain_keeps | with_reducible apply Done.bad_keeps | fail_if_no_progress (with_reducible apply Keeps.upd) | (with_reducible refine Keeps.foldl ?_ ?_; on_goal 2 => (intro t x ht; beta_reduce)) | (with_reducible refine Keeps.foldl2 ?_ ?_; on_goal 2 => (intro t x ht; beta_reduce)) | with_reducible apply KeepsO.next | fail_if_no_progress (with_reducible apply Keeps.updFree) | (with_reducible refine Keeps.foldl1 ?_ ?_; on_goal 2 => (intro t x ht; beta_reduce)) | (with_reducible apply Keeps.fst; with_reducible assumption) | refine Keeps.ite ?_ ?_ | split | (intro a; intros; beta_reduce) | (with_reducible apply Keeps.snd; with_reducible assumption))

theorem State.enterKernel_keeps {s0 s : State} {e} (h : Keeps kq s0 s) : Keeps kq s0 (State.enterKernel s e) := by
  unfold State.enterKernel
  repeat' (first | with_reducible assumption | ((fail_if_no_progress (extract_lets +onlyGivenNames y)); (have z_ := y; guard_hyp z_ : State; clear z_); refine Keeps.cut (kq := kq) (s0 := s0) y ?_ ?_; (on_goal 1 => subst y); (on_goal 2 => (intro hy; try clear_value y))) | ((fail_if_no_progress (extract_lets +onlyGivenNames y)); clear_value y) | with_reducible apply State.addFld_keeps | with_reducible apply State.putEngine_keeps)

theorem State.engBoundary_keeps {s0 s : State} (h : Keeps kq s0 s) : Keeps kq s0 (State.engBoundary s) := by
  unfold State.engBoundary
  repeat' (first | with_reducible assumption | with_reducible refine Keeps.ite ?_ ?_ | ((fail_if_no_progress (extract_lets +onlyGivenNames y)); (have z_ := y; guard_hyp z_ : State; clear z_); refine Keeps.cut (kq := kq) (s0 := s0) y ?_ ?_; (on_goal 1 => subst y); (on_goal 2 => (intro hy; try clear_value y))) | ((fail_if_no_progress (extract_lets +onlyGivenNames y)); (have z_ := y; guard_hyp z_ : State × _; clear z_); refine Keeps.cut1 (kq := kq) (s0 := s0) y ?_ ?_; (on_goal 1 => subst y); (on_goal 2 => (intro hy; try clear_value y))) | ((fail_if_no_progress (extract_lets +onlyGivenNames y)); (have z_ := y; guard_hyp z_ : _ × State; clear z_); refine Keeps.cut2 (kq := kq) (s0 := s0) y ?_ ?_; (on_goal 1 => subst y); (on_goal 2 => (intro hy; try clear_value y))) | ((fail_if_no_progress (extract_lets +onlyGivenNames y)); refine Keeps.fn y ?_; subst y; beta_reduce) | ((fail_if_no_progress (extract_lets +onlyGivenNames y)); clear_value y) | ((fail_if_no_progress (extract_lets +onlyGivenNames y)); subst y) | with_reducible apply State.endMoves_keeps | with_reducible apply State.setEngRun_keeps | with_reducible apply State.putEngine_keeps | with_reducible apply State.enterKernel_keeps | with_reducible apply Done.plain_keeps | with_reducible apply Done.bad_keeps | fail_if_no_progress (with_reducible apply Keeps.upd) | (with_reducible refine Keeps.foldl ?_ ?_; on_goal 2 => (intro t x ht; beta_reduce)) | (with_reducible refine Keeps.foldl2 ?_ ?_; on_goal 2 => (intro t x ht; beta_reduce)) | with_reducible apply KeepsO.next | fail_if_no_progress (with_reducible apply Keeps.updFree) | (with_reducible refine Keeps.foldl1 ?_ ?_; on_goal 2 => (intro t x ht; beta_reduce)) | (with_reducible apply Keeps.fst; with_reducible assumption) | refine Keeps.ite ?_ ?_ | split | (intro a; intros; beta_reduce) | (with_reducible apply Keeps.snd; with_reducible assumption))

theorem State.runMove_keeps {s0 s : State} {m b x} (h : Keeps kq s0 s) : Keeps kq s0 (State.runMove s m b x).2.2 := by
  unfold State.runMove
  repeat' (first | with_reducible assumption | with_reducible apply State.fresh_keeps | split | (with_reducible apply Keeps.snd; with_reducible assumption))

theorem State.runMoves_keeps {s0 s : State} {w x} (h : Keeps kq s0 s) : Keeps kq s0 (State.runMoves s w x).2.2 := by
  unfold State.runMoves
  repeat' (first | (with_reducible apply Keeps.snd2; with_reducible assumption) | (fail_if_no_progress dsimp only) | with_reducible assumption | with_reducible refine Keeps.ite ?_ ?_ | with_reducible refine KeepsO.ite ?_ ?_ | ((fail_if_no_progress (extract_lets +onlyGivenNames y)); (have z_ := y; guard_hyp z_ : State; clear z_); refine Keeps.cut (kq := kq) (s0 := s0) y ?_ ?_; (on_goal 1 => subst y); (on_goal 2 => (intro hy; try clear_value y))) | ((fail_if_no_progress (extract_lets +onlyGivenNames y)); (have z_ := y; guard_hyp z_ : State × _; clear z_); refine Keeps.cut1 (kq := kq) (s0 := s0) y ?_ ?_; (on_goal 1 => subst y); (on_goal 2 => (intro hy; try clear_value y))) | ((fail_if_no_progress (extract_lets +onlyGivenNames y)); (have z_ := y; guard_hyp z_ : _ × State; clear z_); refine Keeps.cut2 (kq := kq) (s0 := s0) y ?_ ?_; (on_goal 1 => subst y); (on_goal 2 => (intro hy; try clear_value y))) | ((fail_if_no_progress (extract_lets +onlyGivenNames y)); refine Keeps.fn y ?_; subst y; beta_reduce) | ((fail_if_no_progress (extract_lets +onlyGivenNames y)); clear_value y) | ((fail_if_no_progress (extract_lets +onlyGivenNames y)); subst y) | with_reducible apply State.runMove_keeps | with_reducible apply State.fresh_keeps | with_reducible apply Done.plain_keeps | with_reducible apply Done.bad_keeps | fail_if_no_progress (with_reducible apply Keeps.upd) | (with_reducible refine Keeps.foldl ?_ ?_; on_goal 2 => (intro t x ht; beta_reduce)) | (with_reducible refine Keeps.foldl2 ?_ ?_; on_goal 2 => (intro t x ht; beta_reduce)) | with_reducible apply KeepsO.next | fail_if_no_progress (with_reducible apply Keeps.updFree) | (with_reducible refine Keeps.foldl1 ?_ ?_; on_goal 2 => (intro t x ht; beta_reduce)) | (with_reducible apply Keeps.fst; with_reducible assumption) | refine Keeps.ite ?_ ?_ | split | (intro a; intros; beta_reduce) | (with_reducible apply Keeps.snd; with_reducible assumption))

theorem State.engMoves_keeps {s0 s : State} {e} (h : Keeps kq s0 s) : Keeps kq s0 (s.engMoves e).2.2 := by
  unfold State.engMoves
  dsimp only
  split
  · exact State.runMoves_keeps h
  · exact h

theorem State.passParams_keeps {s0 s : State} {c} (h : Keeps kq s0 s) : Keeps kq s0 (State.passParams s c) := by
  unfold State.passParams
  repeat' (first | with_reducible assumption | with_reducible refine Keeps.ite ?_ ?_ | ((fail_if_no_progress (extract_lets +onlyGivenNames y)); clear_value y) | with_reducible apply State.clmBytes_keeps | with_reducible apply State.putEngine_keeps | (with_reducible refine Keeps.foldl ?_ ?_; on_goal 2 => (intro t x ht; beta_reduce)))

theorem State.engOp_keeps {s0 s : State} {c f reply} (hf : ∀ a0 a1, Keeps kq s0 a0 → Keeps kq s0 (f a0 a1)) (h : Keeps kq s0 s) : Keeps kq s0 (State.engOp s c f reply) := by
  unfold State.engOp
  repeat' (first | with_reducible assumption | ((fail_if_no_progress (extract_lets +onlyGivenNames y)); (have z_ := y; guard_hyp z_ : State; clear z_); refine Keeps.cut (kq := kq) (s0 := s0) y ?_ ?_; (on_goal 1 => subst y); (on_goal 2 => (intro hy; try clear_value y))) | with_reducible apply State.passParams_keeps | with_reducible apply State.finishPart_keeps | with_reducible apply hf | (with_reducible refine Keeps.foldl ?_ ?_; on_goal 2 => (intro t x ht; beta_reduce)))

theorem State.spend_keeps {s0 s : State} {e x cyc} (h : Keeps kq s0 s) : Keeps kq s0 (State.spend s e x cyc) := by
  unfold State.spend
  repeat' (first | with_reducible assumption | with_reducible refine Keeps.ite ?_ ?_ | ((fail_if_no_progress (extract_lets +onlyGivenNames y)); (have z_ := y; guard_hyp z_ : State; clear z_); refine Keeps.cut (kq := kq) (s0 := s0) y ?_ ?_; (on_goal 1 => subst y); (on_goal 2 => (intro hy; try clear_value y))) | ((fail_if_no_progress (extract_lets +onlyGivenNames y)); (have z_ := y; guard_hyp z_ : State × _; clear z_); refine Keeps.cut1 (kq := kq) (s0 := s0) y ?_ ?_; (on_goal 1 => subst y); (on_goal 2 => (intro hy; try clear_value y))) | ((fail_if_no_progress (extract_lets +onlyGivenNames y)); (have z_ := y; guard_hyp z_ : _ × State; clear z_); refine Keeps.cut2 (kq := kq) (s0 := s0) y ?_ ?_; (on_goal 1 => subst y); (on_goal 2 => (intro hy; try clear_value y))) | ((fail_if_no_progress (extract_lets +onlyGivenNames y)); refine Keeps.fn y ?_; subst y; beta_reduce) | ((fail_if_no_progress (extract_lets +onlyGivenNames y)); clear_value y) | ((fail_if_no_progress (extract_lets +onlyGivenNames y)); subst y) | with_reducible apply State.putEngine_keeps | with_reducible apply State.moveDone_keeps | with_reducible apply Done.plain_keeps | with_reducible apply Done.bad_keeps | fail_if_no_progress (with_reducible apply Keeps.upd) | (with_reducible refine Keeps.foldl ?_ ?_; on_goal 2 => (intro t x ht; beta_reduce)) | (with_reducible refine Keeps.foldl2 ?_ ?_; on_goal 2 => (intro t x ht; beta_reduce)) | with_reducible apply KeepsO.next | fail_if_no_progress (with_reducible apply Keeps.updFree) | (with_reducible refine Keeps.foldl1 ?_ ?_; on_goal 2 => (intro t x ht; beta_reduce)) | (with_reducible apply Keeps.fst; with_reducible assumption) | refine Keeps.ite ?_ ?_ | split | (intro a; intros; beta_reduce) | (with_reducible apply Keeps.snd; with_reducible assumption))

theorem State.engEnd_keeps {s0 : State} {x e l} {d : Done} (h : Keeps kq s0 d.s) : Keeps kq s0 (State.engEnd x e l d) := by
  unfold State.engEnd
  split
  · exact State.engFault_keeps (State.putEngine_keeps h)
  · exact State.spend_keeps (State.endLoads_keeps h)
theorem State.engStep_keeps {s0 s : State} {e op sel f} (hf : ∀ w x t, Keeps kq s0 t → Keeps kq s0 (f w x t).s) (h : Keeps kq s0 s) :
    Keeps kq s0 (State.engStep s e op sel f) := by
  unfold State.engStep
  extract_lets x w o
  refine Keeps.ite h (Keeps.ite (State.engFault_keeps (State.putEngine_keeps h)) (Keeps.ite h
    (Keeps.ite (State.engFault_keeps (State.putEngine_keeps h)) ?_)))
  exact State.engEnd_keeps (hf _ _ _ (State.engMoves_keeps h))

theorem State.flushPipes_keeps {s0 s : State} (h : Keeps kq s0 s) : Keeps kq s0 (State.flushPipes s) := by
  unfold State.flushPipes
  repeat' (first | with_reducible assumption | ((fail_if_no_progress (extract_lets +onlyGivenNames y)); clear_value y) | fail_if_no_progress (with_reducible apply Keeps.upd))

theorem State.freeMove_keeps {s0 s : State} {x k} (h : Keeps kq s0 s) : Keeps kq s0 (State.freeMove s x k).2 := by
  unfold State.freeMove
  repeat' (first | with_reducible assumption | with_reducible refine Keeps.ite ?_ ?_ | ((fail_if_no_progress (extract_lets +onlyGivenNames y)); (have z_ := y; guard_hyp z_ : State; clear z_); refine Keeps.cut (kq := kq) (s0 := s0) y ?_ ?_; (on_goal 1 => subst y); (on_goal 2 => (intro hy; try clear_value y))) | ((fail_if_no_progress (extract_lets +onlyGivenNames y)); (have z_ := y; guard_hyp z_ : State × _; clear z_); refine Keeps.cut1 (kq := kq) (s0 := s0) y ?_ ?_; (on_goal 1 => subst y); (on_goal 2 => (intro hy; try clear_value y))) | ((fail_if_no_progress (extract_lets +onlyGivenNames y)); (have z_ := y; guard_hyp z_ : _ × State; clear z_); refine Keeps.cut2 (kq := kq) (s0 := s0) y ?_ ?_; (on_goal 1 => subst y); (on_goal 2 => (intro hy; try clear_value y))) | ((fail_if_no_progress (extract_lets +onlyGivenNames y)); refine Keeps.fn y ?_; subst y; beta_reduce) | ((fail_if_no_progress (extract_lets +onlyGivenNames y)); clear_value y) | ((fail_if_no_progress (extract_lets +onlyGivenNames y)); subst y) | with_reducible apply State.fresh_keeps | with_reducible apply Done.plain_keeps | with_reducible apply Done.bad_keeps | fail_if_no_progress (with_reducible apply Keeps.upd) | (with_reducible refine Keeps.foldl ?_ ?_; on_goal 2 => (intro t x ht; beta_reduce)) | (with_reducible refine Keeps.foldl2 ?_ ?_; on_goal 2 => (intro t x ht; beta_reduce)) | with_reducible apply KeepsO.next | fail_if_no_progress (with_reducible apply Keeps.updFree) | (with_reducible refine Keeps.foldl1 ?_ ?_; on_goal 2 => (intro t x ht; beta_reduce)) | (with_reducible apply Keeps.fst; with_reducible assumption) | refine Keeps.ite ?_ ?_ | split | (intro a; intros; beta_reduce) | (with_reducible apply Keeps.snd; with_reducible assumption))

theorem State.writeBurst_keeps {s0 s : State} {wr n now} (hwr : ∀ a0 a1 a2, Keeps false s0 a0 → Keeps false s0 (wr a0 a1 a2)) (h : Keeps false s0 s) : Keeps false s0 (State.writeBurst wr s n now) := by
  unfold State.writeBurst
  repeat' (first | with_reducible assumption | ((fail_if_no_progress (extract_lets +onlyGivenNames y)); clear_value y) | with_reducible apply State.putDmaChan_keeps | with_reducible apply State.setFld_keeps | with_reducible apply State.spaceWrite_keeps | fail_if_no_progress (with_reducible apply Keeps.upd))

theorem State.writeAccess_keeps {s0 s : State} {wr n now} (hwr : ∀ a0 a1 a2, Keeps false s0 a0 → Keeps false s0 (wr a0 a1 a2)) (h : Keeps false s0 s) : Keeps false s0 (State.writeAccess wr s n now) := by
  unfold State.writeAccess
  repeat' (first | with_reducible assumption | with_reducible refine Keeps.ite ?_ ?_ | ((fail_if_no_progress (extract_lets +onlyGivenNames y)); (have z_ := y; guard_hyp z_ : State; clear z_); refine Keeps.cut (kq := false) (s0 := s0) y ?_ ?_; (on_goal 1 => subst y); (on_goal 2 => (intro hy; try clear_value y))) | ((fail_if_no_progress (extract_lets +onlyGivenNames y)); (have z_ := y; guard_hyp z_ : State × _; clear z_); refine Keeps.cut1 (kq := false) (s0 := s0) y ?_ ?_; (on_goal 1 => subst y); (on_goal 2 => (intro hy; try clear_value y))) | ((fail_if_no_progress (extract_lets +onlyGivenNames y)); (have z_ := y; guard_hyp z_ : _ × State; clear z_); refine Keeps.cut2 (kq := false) (s0 := s0) y ?_ ?_; (on_goal 1 => subst y); (on_goal 2 => (intro hy; try clear_value y))) | ((fail_if_no_progress (extract_lets +onlyGivenNames y)); refine Keeps.fn y ?_; subst y; beta_reduce) | ((fail_if_no_progress (extract_lets +onlyGivenNames y)); clear_value y) | ((fail_if_no_progress (extract_lets +onlyGivenNames y)); subst y) | with_reducible apply State.putDmaChan_keeps | with_reducible apply State.storeCrc_keeps | with_reducible apply State.setFld_keeps | with_reducible apply State.writeBurst_keeps | with_reducible apply hwr | with_reducible apply Done.plain_keeps | with_reducible apply Done.bad_keeps | fail_if_no_progress (with_reducible apply Keeps.upd) | (with_reducible refine Keeps.foldl ?_ ?_; on_goal 2 => (intro t x ht; beta_reduce)) | (with_reducible refine Keeps.foldl2 ?_ ?_; on_goal 2 => (intro t x ht; beta_reduce)) | with_reducible apply KeepsO.next | fail_if_no_progress (with_reducible apply Keeps.updFree) | (with_reducible refine Keeps.foldl1 ?_ ?_; on_goal 2 => (intro t x ht; beta_reduce)) | (with_reducible apply Keeps.fst; with_reducible assumption) | refine Keeps.ite ?_ ?_ | split | (intro a; intros; beta_reduce) | (with_reducible apply Keeps.snd; with_reducible assumption))

theorem State.readBurst_keeps {s0 s : State} {rd n now host} (hrd : ∀ a0 a1, Keeps kq s0 a0 → Keeps kq s0 (rd a0 a1).2) (h : Keeps kq s0 s) : Keeps kq s0 (State.readBurst rd s n now host) := by
  unfold State.readBurst
  repeat' (first | with_reducible assumption | ((fail_if_no_progress (extract_lets +onlyGivenNames y)); clear_value y) | with_reducible apply State.spaceRead_keeps | with_reducible apply State.putDmaChan_keeps | with_reducible apply State.setFld_keeps | fail_if_no_progress (with_reducible apply Keeps.upd))

theorem State.readAccess_keeps {s0 s : State} {rd n now host} (hrd : ∀ a0 a1, Keeps kq s0 a0 → Keeps kq s0 (rd a0 a1).2) (h : Keeps kq s0 s) : Keeps kq s0 (State.readAccess rd s n now host) := by
  unfold State.readAccess
  repeat' (first | with_reducible assumption | with_reducible refine Keeps.ite ?_ ?_ | ((fail_if_no_progress (extract_lets +onlyGivenNames y)); (have z_ := y; guard_hyp z_ : State; clear z_); refine Keeps.cut (kq := kq) (s0 := s0) y ?_ ?_; (on_goal 1 => subst y); (on_goal 2 => (intro hy; try clear_value y))) | ((fail_if_no_progress (extract_lets +onlyGivenNames y)); (have z_ := y; guard_hyp z_ : State × _; clear z_); refine Keeps.cut1 (kq := kq) (s0 := s0) y ?_ ?_; (on_goal 1 => subst y); (on_goal 2 => (intro hy; try clear_value y))) | ((fail_if_no_progress (extract_lets +onlyGivenNames y)); (have z_ := y; guard_hyp z_ : _ × State; clear z_); refine Keeps.cut2 (kq := kq) (s0 := s0) y ?_ ?_; (on_goal 1 => subst y); (on_goal 2 => (intro hy; try clear_value y))) | ((fail_if_no_progress (extract_lets +onlyGivenNames y)); refine Keeps.fn y ?_; subst y; beta_reduce) | ((fail_if_no_progress (extract_lets +onlyGivenNames y)); clear_value y) | ((fail_if_no_progress (extract_lets +onlyGivenNames y)); subst y) | with_reducible apply State.putDmaChan_keeps | with_reducible apply State.readLast_keeps | with_reducible apply State.setFld_keeps | with_reducible apply State.readBurst_keeps | with_reducible apply hrd | with_reducible apply Done.plain_keeps | with_reducible apply Done.bad_keeps | fail_if_no_progress (with_reducible apply Keeps.upd) | (with_reducible refine Keeps.foldl ?_ ?_; on_goal 2 => (intro t x ht; beta_reduce)) | (with_reducible refine Keeps.foldl2 ?_ ?_; on_goal 2 => (intro t x ht; beta_reduce)) | with_reducible apply KeepsO.next | fail_if_no_progress (with_reducible apply Keeps.updFree) | (with_reducible refine Keeps.foldl1 ?_ ?_; on_goal 2 => (intro t x ht; beta_reduce)) | (with_reducible apply Keeps.fst; with_reducible assumption) | refine Keeps.ite ?_ ?_ | split | (intro a; intros; beta_reduce) | (with_reducible apply Keeps.snd; with_reducible assumption))

theorem State.grantBurst_keeps {s0 s : State} {rd wr write cycle host} (hrd : ∀ a0 a1, Keeps false s0 a0 → Keeps false s0 (rd a0 a1).2) (hwr : ∀ a0 a1 a2, Keeps false s0 a0 → Keeps false s0 (wr a0 a1 a2)) (h : Keeps false s0 s) : Keeps false s0 (State.grantBurst rd wr s write cycle host) := by
  unfold State.grantBurst
  repeat' (first | with_reducible assumption | with_reducible refine Keeps.ite ?_ ?_ | ((fail_if_no_progress (extract_lets +onlyGivenNames y)); (have z_ := y; guard_hyp z_ : State; clear z_); refine Keeps.cut (kq := false) (s0 := s0) y ?_ ?_; (on_goal 1 => subst y); (on_goal 2 => (intro hy; try clear_value y))) | ((fail_if_no_progress (extract_lets +onlyGivenNames y)); (have z_ := y; guard_hyp z_ : State × _; clear z_); refine Keeps.cut1 (kq := false) (s0 := s0) y ?_ ?_; (on_goal 1 => subst y); (on_goal 2 => (intro hy; try clear_value y))) | ((fail_if_no_progress (extract_lets +onlyGivenNames y)); (have z_ := y; guard_hyp z_ : _ × State; clear z_); refine Keeps.cut2 (kq := false) (s0 := s0) y ?_ ?_; (on_goal 1 => subst y); (on_goal 2 => (intro hy; try clear_value y))) | ((fail_if_no_progress (extract_lets +onlyGivenNames y)); refine Keeps.fn y ?_; subst y; beta_reduce) | ((fail_if_no_progress (extract_lets +onlyGivenNames y)); clear_value y) | ((fail_if_no_progress (extract_lets +onlyGivenNames y)); subst y) | with_reducible apply State.writeAccess_keeps | with_reducible apply State.readAccess_keeps | with_reducible apply hrd | with_reducible apply hwr | with_reducible apply Done.plain_keeps | with_reducible apply Done.bad_keeps | fail_if_no_progress (with_reducible apply Keeps.upd) | (with_reducible refine Keeps.foldl ?_ ?_; on_goal 2 => (intro t x ht; beta_reduce)) | (with_reducible refine Keeps.foldl2 ?_ ?_; on_goal 2 => (intro t x ht; beta_reduce)) | with_reducible apply KeepsO.next | fail_if_no_progress (with_reducible apply Keeps.updFree) | (with_reducible refine Keeps.foldl1 ?_ ?_; on_goal 2 => (intro t x ht; beta_reduce)) | (with_reducible apply Keeps.fst; with_reducible assumption) | refine Keeps.ite ?_ ?_ | split | (intro a; intros; beta_reduce) | (with_reducible apply Keeps.snd; with_reducible assumption))

theorem State.recEventTrigger_keeps {s0 s : State} {code t} (h : Keeps kq s0 s) : Keeps kq s0 (State.recEventTrigger s code t) := by
  unfold State.recEventTrigger
  repeat' (first | with_reducible assumption | with_reducible refine Keeps.ite ?_ ?_ | ((fail_if_no_progress (extract_lets +onlyGivenNames y)); clear_value y) | fail_if_no_progress (with_reducible apply Keeps.upd) | split)

theorem State.leWord_keeps {s0 s : State} {e} (h : Keeps kq s0 s) : Keeps kq s0 (State.leWord s e).2 := by
  unfold State.leWord
  repeat' (first | with_reducible assumption | ((fail_if_no_progress (extract_lets +onlyGivenNames y)); clear_value y) | with_reducible apply State.fresh_keeps | split)

theorem State.stepLeIndex_keeps {s0 s : State} {e} (h : Keeps kq s0 s) : Keeps kq s0 (State.stepLeIndex s e) := by
  unfold State.stepLeIndex
  repeat' (first | with_reducible assumption | with_reducible apply State.setFld_keeps)

theorem State.readLeMem_keeps {s0 s : State} {e} (h : Keeps kq s0 s) : Keeps kq s0 (State.readLeMem s e).2 := by
  unfold State.readLeMem
  repeat' (first | with_reducible assumption | with_reducible apply State.leWord_keeps | with_reducible apply State.stepLeIndex_keeps)

theorem State.stepClmIndex_keeps {s0 s : State} (h : Keeps kq s0 s) : Keeps kq s0 (State.stepClmIndex s) := by
  unfold State.stepClmIndex
  repeat' (first | with_reducible assumption | with_reducible apply State.setFld_keeps)

theorem State.readClm_keeps {s0 s : State} (h : Keeps kq s0 s) : Keeps kq s0 (State.readClm s).2 := by
  unfold State.readClm
  repeat' (first | with_reducible assumption | with_reducible apply State.clmRead_keeps | with_reducible apply State.stepClmIndex_keeps)

theorem State.leStore_keeps {s0 s : State} {e v} (h : Keeps kq s0 s) : Keeps kq s0 (State.leStore s e v) := by
  unfold State.leStore
  repeat' (first | with_reducible assumption | with_reducible refine Keeps.ite ?_ ?_ | ((fail_if_no_progress (extract_lets +onlyGivenNames y)); clear_value y) | with_reducible apply State.putEngine_keeps | split)

theorem State.writeLeMem_keeps {s0 s : State} {e v} (h : Keeps kq s0 s) : Keeps kq s0 (State.writeLeMem s e v) := by
  unfold State.writeLeMem
  repeat' (first | with_reducible assumption | with_reducible refine Keeps.ite ?_ ?_ | with_reducible apply State.stepLeIndex_keeps | with_reducible apply State.leStore_keeps)

theorem State.writeClm_keeps {s0 s : State} {v} (h : Keeps kq s0 s) : Keeps kq s0 (State.writeClm s v) := by
  unfold State.writeClm
  repeat' (first | with_reducible assumption | with_reducible refine Keeps.ite ?_ ?_ | with_reducible apply State.stepClmIndex_keeps | with_reducible apply State.clmWrite_keeps)

theorem State.interruptEntry_keeps {s0 s : State} {e} (h : Keeps kq s0 s) : Keeps kq s0 (State.interruptEntry s e) := by
  unfold State.interruptEntry
  repeat' (first | with_reducible assumption | with_reducible refine Keeps.ite ?_ ?_ | ((fail_if_no_progress (extract_lets +onlyGivenNames y)); clear_value y) | with_reducible apply State.spend_keeps | with_reducible apply State.setFld_keeps | split)

theorem State.jobBlock_keeps {s0 s : State} {e p} (h : Keeps kq s0 s) : Keeps kq s0 (State.jobBlock s e p) := by
  unfold State.jobBlock
  repeat' (first | with_reducible assumption | with_reducible refine Keeps.ite ?_ ?_ | ((fail_if_no_progress (extract_lets +onlyGivenNames y)); (have z_ := y; guard_hyp z_ : State; clear z_); refine Keeps.cut (kq := kq) (s0 := s0) y ?_ ?_; (on_goal 1 => subst y); (on_goal 2 => (intro hy; try clear_value y))) | ((fail_if_no_progress (extract_lets +onlyGivenNames y)); (have z_ := y; guard_hyp z_ : State × _; clear z_); refine Keeps.cut1 (kq := kq) (s0 := s0) y ?_ ?_; (on_goal 1 => subst y); (on_goal 2 => (intro hy; try clear_value y))) | ((fail_if_no_progress (extract_lets +onlyGivenNames y)); (have z_ := y; guard_hyp z_ : _ × State; clear z_); refine Keeps.cut2 (kq := kq) (s0 := s0) y ?_ ?_; (on_goal 1 => subst y); (on_goal 2 => (intro hy; try clear_value y))) | ((fail_if_no_progress (extract_lets +onlyGivenNames y)); refine Keeps.fn y ?_; subst y; beta_reduce) | ((fail_if_no_progress (extract_lets +onlyGivenNames y)); clear_value y) | ((fail_if_no_progress (extract_lets +onlyGivenNames y)); subst y) | with_reducible apply State.fresh_keeps | with_reducible apply State.putEngine_keeps | with_reducible apply State.clmBytes_keeps | with_reducible apply State.setFld_keeps | with_reducible apply Done.plain_keeps | with_reducible apply Done.bad_keeps | fail_if_no_progress (with_reducible apply Keeps.upd) | (with_reducible refine Keeps.foldl ?_ ?_; on_goal 2 => (intro t x ht; beta_reduce)) | (with_reducible refine Keeps.foldl2 ?_ ?_; on_goal 2 => (intro t x ht; beta_reduce)) | with_reducible apply KeepsO.next | fail_if_no_progress (with_reducible apply Keeps.updFree) | (with_reducible refine Keeps.foldl1 ?_ ?_; on_goal 2 => (intro t x ht; beta_reduce)) | (with_reducible apply Keeps.fst; with_reducible assumption) | refine Keeps.ite ?_ ?_ | split | (intro a; intros; beta_reduce) | (with_reducible apply Keeps.snd; with_reducible assumption))

theorem State.loadSnapshot_keeps {s0 s : State} {x} (h : Keeps kq s0 s) : Keeps kq s0 (State.loadSnapshot s x) := by
  have hd : Keeps kq s0 s.discardAll := State.discardAll_keeps h
  have key : ∀ (l : List (Nat × Word)) (m : List (Nat × Word)), swf resetWord m = true →
      swf resetWord (l.foldl (fun m e => sput resetWord m e.1 e.2) m) = true := by
    intro l
    induction l with
    | nil => exact fun m hm => hm
    | cons e r ih => exact fun m hm => ih _ (sput_swf hm)
  unfold State.loadSnapshot
  refine State.flushPipes_keeps ⟨hd.pending, fun hc => ?_, hd.elapsed, hd.free, hd.host⟩
  have := hd.stores hc
  simp only [State.canonical, Bool.and_eq_true] at this ⊢
  exact ⟨key _ _ (sclear_swf _ this.1), this.2⟩

theorem State.loseEstimation_keeps {s0 s : State} {e} (h : Keeps kq s0 s) : Keeps kq s0 (State.loseEstimation s e) := by
  unfold State.loseEstimation
  repeat' (first | with_reducible assumption | with_reducible refine Keeps.ite ?_ ?_ | with_reducible apply State.staleEstimate_keeps | (with_reducible refine Keeps.foldl ?_ ?_; on_goal 2 => (intro t x ht; beta_reduce)))

theorem State.replayEnd_keeps {s0 s : State} (h : Keeps kq s0 s) : Keeps kq s0 (State.replayEnd s) := by
  unfold State.replayEnd
  repeat' (first | with_reducible assumption | ((fail_if_no_progress (extract_lets +onlyGivenNames y)); (have z_ := y; guard_hyp z_ : State; clear z_); refine Keeps.cut (kq := kq) (s0 := s0) y ?_ ?_; (on_goal 1 => subst y); (on_goal 2 => (intro hy; try clear_value y))) | ((fail_if_no_progress (extract_lets +onlyGivenNames y)); clear_value y) | with_reducible apply State.setRecSt_keeps | with_reducible apply State.finishNow_keeps | with_reducible apply State.recEvent_keeps | fail_if_no_progress (with_reducible apply Keeps.upd) | split)

theorem State.recStart_keeps {s0 s : State} (h : Keeps kq s0 s) : Keeps kq s0 (State.recStart s) := by
  unfold State.recStart
  repeat' (first | with_reducible assumption | ((fail_if_no_progress (extract_lets +onlyGivenNames y)); (have z_ := y; guard_hyp z_ : State; clear z_); refine Keeps.cut (kq := kq) (s0 := s0) y ?_ ?_; (on_goal 1 => subst y); (on_goal 2 => (intro hy; try clear_value y))) | ((fail_if_no_progress (extract_lets +onlyGivenNames y)); clear_value y) | with_reducible apply State.setRecSt_keeps | with_reducible apply State.setFld_keeps | with_reducible apply State.recEvent_keeps | fail_if_no_progress (with_reducible apply Keeps.upd) | split)

theorem State.recBoundary_keeps {s0 s : State} (h : Keeps kq s0 s) : Keeps kq s0 (State.recBoundary s) := by
  unfold State.recBoundary
  repeat' (first | with_reducible assumption | with_reducible refine Keeps.ite ?_ ?_ | ((fail_if_no_progress (extract_lets +onlyGivenNames y)); (have z_ := y; guard_hyp z_ : State; clear z_); refine Keeps.cut (kq := kq) (s0 := s0) y ?_ ?_; (on_goal 1 => subst y); (on_goal 2 => (intro hy; try clear_value y))) | ((fail_if_no_progress (extract_lets +onlyGivenNames y)); clear_value y) | with_reducible apply State.recStop_keeps | with_reducible apply State.replayEnd_keeps | with_reducible apply State.finishNow_keeps | with_reducible apply State.recStart_keeps | fail_if_no_progress (with_reducible apply Keeps.upd) | split)

theorem State.publish_keeps {s0 s : State} {e} (h : Keeps kq s0 s) : Keeps kq s0 (State.publish s e) := by
  unfold State.publish
  repeat' (first | with_reducible assumption | with_reducible refine Keeps.ite ?_ ?_ | ((fail_if_no_progress (extract_lets +onlyGivenNames y)); clear_value y) | with_reducible apply State.setFld_keeps | with_reducible apply State.putEngine_keeps | with_reducible apply State.raise_keeps | fail_if_no_progress (with_reducible apply Keeps.upd) | split)

theorem State.rawTickEnd_keeps {s0 s : State} (h : Keeps kq s0 s) : Keeps kq s0 (State.rawTickEnd s) := by
  unfold State.rawTickEnd
  repeat' (first | with_reducible assumption | with_reducible refine Keeps.ite ?_ ?_ | ((fail_if_no_progress (extract_lets +onlyGivenNames y)); (have z_ := y; guard_hyp z_ : State; clear z_); refine Keeps.cut (kq := kq) (s0 := s0) y ?_ ?_; (on_goal 1 => subst y); (on_goal 2 => (intro hy; try clear_value y))) | ((fail_if_no_progress (extract_lets +onlyGivenNames y)); clear_value y) | with_reducible apply State.addFld_keeps | fail_if_no_progress (with_reducible apply Keeps.upd))

theorem State.readOutput_keeps {s0 s : State} {e} (h : Keeps kq s0 s) : Keeps kq s0 (State.readOutput s e).2.2 := by
  unfold State.readOutput
  repeat' (first | with_reducible assumption | with_reducible refine Keeps.ite ?_ ?_ | ((fail_if_no_progress (extract_lets +onlyGivenNames y)); (have z_ := y; guard_hyp z_ : State; clear z_); refine Keeps.cut (kq := kq) (s0 := s0) y ?_ ?_; (on_goal 1 => subst y); (on_goal 2 => (intro hy; try clear_value y))) | ((fail_if_no_progress (extract_lets +onlyGivenNames y)); (have z_ := y; guard_hyp z_ : State × _; clear z_); refine Keeps.cut1 (kq := kq) (s0 := s0) y ?_ ?_; (on_goal 1 => subst y); (on_goal 2 => (intro hy; try clear_value y))) | ((fail_if_no_progress (extract_lets +onlyGivenNames y)); (have z_ := y; guard_hyp z_ : _ × State; clear z_); refine Keeps.cut2 (kq := kq) (s0 := s0) y ?_ ?_; (on_goal 1 => subst y); (on_goal 2 => (intro hy; try clear_value y))) | ((fail_if_no_progress (extract_lets +onlyGivenNames y)); refine Keeps.fn y ?_; subst y; beta_reduce) | ((fail_if_no_progress (extract_lets +onlyGivenNames y)); clear_value y) | ((fail_if_no_progress (extract_lets +onlyGivenNames y)); subst y) | with_reducible apply State.clmWords_keeps | with_reducible apply Done.plain_keeps | with_reducible apply Done.bad_keeps | fail_if_no_progress (with_reducible apply Keeps.upd) | (with_reducible refine Keeps.foldl ?_ ?_; on_goal 2 => (intro t x ht; beta_reduce)) | (with_reducible refine Keeps.foldl2 ?_ ?_; on_goal 2 => (intro t x ht; beta_reduce)) | with_reducible apply KeepsO.next | fail_if_no_progress (with_reducible apply Keeps.updFree) | (with_reducible refine Keeps.foldl1 ?_ ?_; on_goal 2 => (intro t x ht; beta_reduce)) | (with_reducible apply Keeps.fst; with_reducible assumption) | refine Keeps.ite ?_ ?_ | split | (intro a; intros; beta_reduce) | (with_reducible apply Keeps.snd; with_reducible assumption))

theorem State.recTick_keeps {s0 s : State} {ins quals points} (h : Keeps kq s0 s) : Keeps kq s0 (State.recTick s ins quals points) := by
  unfold State.recTick
  repeat' (first | with_reducible assumption | with_reducible refine Keeps.ite ?_ ?_ | ((fail_if_no_progress (extract_lets +onlyGivenNames y)); clear_value y) | with_reducible apply State.rawTickEnd_keeps | with_reducible apply State.recordTick_keeps | fail_if_no_progress (with_reducible apply Keeps.upd))

theorem State.resetEngines_keeps {s0 s : State} (h : Keeps kq s0 s) : Keeps kq s0 (State.resetEngines s) := by
  unfold State.resetEngines
  repeat' (first | with_reducible assumption | with_reducible refine Keeps.ite ?_ ?_ | ((fail_if_no_progress (extract_lets +onlyGivenNames y)); (have z_ := y; guard_hyp z_ : State; clear z_); refine Keeps.cut (kq := kq) (s0 := s0) y ?_ ?_; (on_goal 1 => subst y); (on_goal 2 => (intro hy; try clear_value y))) | with_reducible apply State.resetRange_keeps | with_reducible apply State.setEngRun_keeps | fail_if_no_progress (with_reducible apply Keeps.upd) | (with_reducible refine Keeps.foldl ?_ ?_; on_goal 2 => (intro t x ht; beta_reduce)))

theorem State.ringEngine_keeps {s0 s : State} {e} (h : Keeps kq s0 s) : Keeps kq s0 (State.ringEngine s e) := by
  unfold State.ringEngine
  repeat' (first | with_reducible assumption | with_reducible refine Keeps.ite ?_ ?_ | with_reducible apply State.setFld_keeps)

theorem State.rowResult_keeps {s0 s : State} {e ok coefs predicted} (h : Keeps kq s0 s) : Keeps kq s0 (State.rowResult s e ok coefs predicted) := by
  unfold State.rowResult
  repeat' (first | with_reducible assumption | with_reducible refine Keeps.ite ?_ ?_ | ((fail_if_no_progress (extract_lets +onlyGivenNames y)); (have z_ := y; guard_hyp z_ : State; clear z_); refine Keeps.cut (kq := kq) (s0 := s0) y ?_ ?_; (on_goal 1 => subst y); (on_goal 2 => (intro hy; try clear_value y))) | ((fail_if_no_progress (extract_lets +onlyGivenNames y)); (have z_ := y; guard_hyp z_ : State × _; clear z_); refine Keeps.cut1 (kq := kq) (s0 := s0) y ?_ ?_; (on_goal 1 => subst y); (on_goal 2 => (intro hy; try clear_value y))) | ((fail_if_no_progress (extract_lets +onlyGivenNames y)); (have z_ := y; guard_hyp z_ : _ × State; clear z_); refine Keeps.cut2 (kq := kq) (s0 := s0) y ?_ ?_; (on_goal 1 => subst y); (on_goal 2 => (intro hy; try clear_value y))) | ((fail_if_no_progress (extract_lets +onlyGivenNames y)); refine Keeps.fn y ?_; subst y; beta_reduce) | ((fail_if_no_progress (extract_lets +onlyGivenNames y)); clear_value y) | ((fail_if_no_progress (extract_lets +onlyGivenNames y)); subst y) | with_reducible apply State.fresh_keeps | with_reducible apply State.clmBytes_keeps | with_reducible apply State.publish_keeps | with_reducible apply State.putEngine_keeps | with_reducible apply Done.plain_keeps | with_reducible apply Done.bad_keeps | fail_if_no_progress (with_reducible apply Keeps.upd) | (with_reducible refine Keeps.foldl ?_ ?_; on_goal 2 => (intro t x ht; beta_reduce)) | (with_reducible refine Keeps.foldl2 ?_ ?_; on_goal 2 => (intro t x ht; beta_reduce)) | with_reducible apply KeepsO.next | fail_if_no_progress (with_reducible apply Keeps.updFree) | (with_reducible refine Keeps.foldl1 ?_ ?_; on_goal 2 => (intro t x ht; beta_reduce)) | (with_reducible apply Keeps.fst; with_reducible assumption) | refine Keeps.ite ?_ ?_ | split | (intro a; intros; beta_reduce) | (with_reducible apply Keeps.snd; with_reducible assumption))

theorem State.takeKernel_keeps {s0 s : State} {b r img own compat} (h : Keeps kq s0 s) : Keeps kq s0 (State.takeKernel s b r img own compat) := by
  unfold State.takeKernel
  repeat' (first | with_reducible assumption | with_reducible refine Keeps.ite ?_ ?_ | ((fail_if_no_progress (extract_lets +onlyGivenNames y)); (have z_ := y; guard_hyp z_ : State; clear z_); refine Keeps.cut (kq := kq) (s0 := s0) y ?_ ?_; (on_goal 1 => subst y); (on_goal 2 => (intro hy; try clear_value y))) | ((fail_if_no_progress (extract_lets +onlyGivenNames y)); (have z_ := y; guard_hyp z_ : State × _; clear z_); refine Keeps.cut1 (kq := kq) (s0 := s0) y ?_ ?_; (on_goal 1 => subst y); (on_goal 2 => (intro hy; try clear_value y))) | ((fail_if_no_progress (extract_lets +onlyGivenNames y)); (have z_ := y; guard_hyp z_ : _ × State; clear z_); refine Keeps.cut2 (kq := kq) (s0 := s0) y ?_ ?_; (on_goal 1 => subst y); (on_goal 2 => (intro hy; try clear_value y))) | ((fail_if_no_progress (extract_lets +onlyGivenNames y)); refine Keeps.fn y ?_; subst y; beta_reduce) | ((fail_if_no_progress (extract_lets +onlyGivenNames y)); clear_value y) | ((fail_if_no_progress (extract_lets +onlyGivenNames y)); subst y) | with_reducible apply State.loadRole_keeps | with_reducible apply State.authFail_keeps | with_reducible apply State.startEngine_keeps | with_reducible apply State.loadKernel_keeps | with_reducible apply Done.plain_keeps | with_reducible apply Done.bad_keeps | fail_if_no_progress (with_reducible apply Keeps.upd) | (with_reducible refine Keeps.foldl ?_ ?_; on_goal 2 => (intro t x ht; beta_reduce)) | (with_reducible refine Keeps.foldl2 ?_ ?_; on_goal 2 => (intro t x ht; beta_reduce)) | with_reducible apply KeepsO.next | fail_if_no_progress (with_reducible apply Keeps.updFree) | (with_reducible refine Keeps.foldl1 ?_ ?_; on_goal 2 => (intro t x ht; beta_reduce)) | (with_reducible apply Keeps.fst; with_reducible assumption) | refine Keeps.ite ?_ ?_ | split | (intro a; intros; beta_reduce) | (with_reducible apply Keeps.snd; with_reducible assumption))

theorem State.takeOver_keeps {s0 s : State} {a b} (h : Keeps kq s0 s) : Keeps kq s0 (State.takeOver s a b) := by
  unfold State.takeOver
  repeat' (first | with_reducible assumption | with_reducible refine Keeps.ite ?_ ?_ | ((fail_if_no_progress (extract_lets +onlyGivenNames y)); (have z_ := y; guard_hyp z_ : State; clear z_); refine Keeps.cut (kq := kq) (s0 := s0) y ?_ ?_; (on_goal 1 => subst y); (on_goal 2 => (intro hy; try clear_value y))) | ((fail_if_no_progress (extract_lets +onlyGivenNames y)); (have z_ := y; guard_hyp z_ : State × _; clear z_); refine Keeps.cut1 (kq := kq) (s0 := s0) y ?_ ?_; (on_goal 1 => subst y); (on_goal 2 => (intro hy; try clear_value y))) | ((fail_if_no_progress (extract_lets +onlyGivenNames y)); (have z_ := y; guard_hyp z_ : _ × State; clear z_); refine Keeps.cut2 (kq := kq) (s0 := s0) y ?_ ?_; (on_goal 1 => subst y); (on_goal 2 => (intro hy; try clear_value y))) | ((fail_if_no_progress (extract_lets +onlyGivenNames y)); refine Keeps.fn y ?_; subst y; beta_reduce) | ((fail_if_no_progress (extract_lets +onlyGivenNames y)); clear_value y) | ((fail_if_no_progress (extract_lets +onlyGivenNames y)); subst y) | with_reducible apply State.setEngRun_keeps | with_reducible apply State.setRole_keeps | with_reducible apply State.clmWrite_keeps | with_reducible apply State.clmBytes_keeps | with_reducible apply State.putEngine_keeps | with_reducible apply State.takeKernel_keeps | with_reducible apply Done.plain_keeps | with_reducible apply Done.bad_keeps | fail_if_no_progress (with_reducible apply Keeps.upd) | (with_reducible refine Keeps.foldl ?_ ?_; on_goal 2 => (intro t x ht; beta_reduce)) | (with_reducible refine Keeps.foldl2 ?_ ?_; on_goal 2 => (intro t x ht; beta_reduce)) | with_reducible apply KeepsO.next | fail_if_no_progress (with_reducible apply Keeps.updFree) | (with_reducible refine Keeps.foldl1 ?_ ?_; on_goal 2 => (intro t x ht; beta_reduce)) | (with_reducible apply Keeps.fst; with_reducible assumption) | refine Keeps.ite ?_ ?_ | split | (intro a; intros; beta_reduce) | (with_reducible apply Keeps.snd; with_reducible assumption))

theorem State.spareTakeover_keeps {s0 s : State} {e} (h : Keeps kq s0 s) : Keeps kq s0 (State.spareTakeover s e) := by
  unfold State.spareTakeover
  repeat' (first | with_reducible assumption | with_reducible refine Keeps.ite ?_ ?_ | ((fail_if_no_progress (extract_lets +onlyGivenNames y)); (have z_ := y; guard_hyp z_ : State; clear z_); refine Keeps.cut (kq := kq) (s0 := s0) y ?_ ?_; (on_goal 1 => subst y); (on_goal 2 => (intro hy; try clear_value y))) | ((fail_if_no_progress (extract_lets +onlyGivenNames y)); refine Keeps.fn y ?_; subst y; beta_reduce) | ((fail_if_no_progress (extract_lets +onlyGivenNames y)); clear_value y) | with_reducible apply State.loseEstimation_keeps | with_reducible apply State.addFld_keeps | with_reducible apply State.takeOver_keeps | with_reducible apply State.raise_keeps | with_reducible apply State.setRole_keeps | fail_if_no_progress (with_reducible apply Keeps.upd) | split)

theorem State.stopEngine_keeps {s0 s : State} {e} (h : Keeps kq s0 s) : Keeps kq s0 (State.stopEngine s e) := by
  unfold State.stopEngine
  repeat' (first | with_reducible assumption | ((fail_if_no_progress (extract_lets +onlyGivenNames y)); clear_value y) | with_reducible apply State.putEngine_keeps | with_reducible apply State.setEngRun_keeps | with_reducible apply State.setFld_keeps | split)

theorem State.takeResult_keeps {s0 s : State} {p e} (h : Keeps kq s0 s) : Keeps kq s0 (State.takeResult s p e) := by
  unfold State.takeResult
  repeat' (first | with_reducible assumption | with_reducible refine Keeps.ite ?_ ?_ | ((fail_if_no_progress (extract_lets +onlyGivenNames y)); (have z_ := y; guard_hyp z_ : State; clear z_); refine Keeps.cut (kq := kq) (s0 := s0) y ?_ ?_; (on_goal 1 => subst y); (on_goal 2 => (intro hy; try clear_value y))) | ((fail_if_no_progress (extract_lets +onlyGivenNames y)); (have z_ := y; guard_hyp z_ : State × _; clear z_); refine Keeps.cut1 (kq := kq) (s0 := s0) y ?_ ?_; (on_goal 1 => subst y); (on_goal 2 => (intro hy; try clear_value y))) | ((fail_if_no_progress (extract_lets +onlyGivenNames y)); (have z_ := y; guard_hyp z_ : _ × State; clear z_); refine Keeps.cut2 (kq := kq) (s0 := s0) y ?_ ?_; (on_goal 1 => subst y); (on_goal 2 => (intro hy; try clear_value y))) | ((fail_if_no_progress (extract_lets +onlyGivenNames y)); refine Keeps.fn y ?_; subst y; beta_reduce) | ((fail_if_no_progress (extract_lets +onlyGivenNames y)); clear_value y) | ((fail_if_no_progress (extract_lets +onlyGivenNames y)); subst y) | with_reducible apply State.failEstimation_keeps | with_reducible apply State.putDpd_keeps | with_reducible apply State.addFld_keeps | with_reducible apply State.readOutput_keeps | with_reducible apply State.guardCandidate_keeps | with_reducible apply Done.plain_keeps | with_reducible apply Done.bad_keeps | fail_if_no_progress (with_reducible apply Keeps.upd) | (with_reducible refine Keeps.foldl ?_ ?_; on_goal 2 => (intro t x ht; beta_reduce)) | (with_reducible refine Keeps.foldl2 ?_ ?_; on_goal 2 => (intro t x ht; beta_reduce)) | with_reducible apply KeepsO.next | fail_if_no_progress (with_reducible apply Keeps.updFree) | (with_reducible refine Keeps.foldl1 ?_ ?_; on_goal 2 => (intro t x ht; beta_reduce)) | (with_reducible apply Keeps.fst; with_reducible assumption) | refine Keeps.ite ?_ ?_ | split | (intro a; intros; beta_reduce) | (with_reducible apply Keeps.snd; with_reducible assumption))

theorem execAcceptanceGuard_keeps {s0 s : State} {p kernelOk coefs predicted _acfPred _acfMeas _gainMeas} (h : Keeps kq s0 s) : KeepsO kq s0 (execAcceptanceGuard p kernelOk coefs predicted _acfPred _acfMeas _gainMeas s) := by
  unfold execAcceptanceGuard
  repeat' (first | with_reducible assumption | with_reducible refine Keeps.ite ?_ ?_ | with_reducible refine KeepsO.ite ?_ ?_ | ((fail_if_no_progress (extract_lets +onlyGivenNames y)); (have z_ := y; guard_hyp z_ : State; clear z_); refine Keeps.cut (kq := kq) (s0 := s0) y ?_ ?_; (on_goal 1 => subst y); (on_goal 2 => (intro hy; try clear_value y))) | ((fail_if_no_progress (extract_lets +onlyGivenNames y)); (have z_ := y; guard_hyp z_ : State × _; clear z_); refine Keeps.cut1 (kq := kq) (s0 := s0) y ?_ ?_; (on_goal 1 => subst y); (on_goal 2 => (intro hy; try clear_value y))) | ((fail_if_no_progress (extract_lets +onlyGivenNames y)); (have z_ := y; guard_hyp z_ : _ × State; clear z_); refine Keeps.cut2 (kq := kq) (s0 := s0) y ?_ ?_; (on_goal 1 => subst y); (on_goal 2 => (intro hy; try clear_value y))) | ((fail_if_no_progress (extract_lets +onlyGivenNames y)); refine Keeps.fn y ?_; subst y; beta_reduce) | ((fail_if_no_progress (extract_lets +onlyGivenNames y)); clear_value y) | ((fail_if_no_progress (extract_lets +onlyGivenNames y)); subst y) | with_reducible apply State.rowResult_keeps | with_reducible apply State.takeResult_keeps | with_reducible apply Done.plain_keeps | with_reducible apply Done.bad_keeps | fail_if_no_progress (with_reducible apply Keeps.upd) | (with_reducible refine Keeps.foldl ?_ ?_; on_goal 2 => (intro t x ht; beta_reduce)) | (with_reducible refine Keeps.foldl2 ?_ ?_; on_goal 2 => (intro t x ht; beta_reduce)) | with_reducible apply KeepsO.next | fail_if_no_progress (with_reducible apply Keeps.updFree) | (with_reducible refine Keeps.foldl1 ?_ ?_; on_goal 2 => (intro t x ht; beta_reduce)) | (with_reducible apply Keeps.fst; with_reducible assumption) | refine Keeps.ite ?_ ?_ | split | (intro a; intros; beta_reduce) | (with_reducible apply Keeps.snd; with_reducible assumption))

theorem execAop_keeps {s0 s : State} {e ac op} (h : Keeps kq s0 s) : KeepsO kq s0 (execAop e ac op s) := by
  unfold execAop
  repeat' (first | with_reducible assumption | with_reducible apply State.engStep_keeps | with_reducible apply Done.plain_keeps | with_reducible apply KeepsO.next | (intro a; intros; beta_reduce))

theorem execBr_keeps {s0 s : State} {e} (h : Keeps kq s0 s) : KeepsO kq s0 (execBr e s) := by
  unfold execBr
  repeat' (first | with_reducible assumption | with_reducible apply State.engStep_keeps | with_reducible apply KeepsO.next | (intro a; intros; beta_reduce))

theorem execCall_keeps {s0 s : State} {e} (h : Keeps kq s0 s) : KeepsO kq s0 (execCall e s) := by
  unfold execCall
  repeat' (first | with_reducible assumption | with_reducible apply State.engStep_keeps | with_reducible apply KeepsO.next | (intro a; intros; beta_reduce))

theorem execCaptureDelivered_keeps {s0 s : State} {j _densities _acf _gain} (h : Keeps kq s0 s) : KeepsO kq s0 (execCaptureDelivered j _densities _acf _gain s) := by
  unfold execCaptureDelivered
  repeat' (first | with_reducible assumption | ((fail_if_no_progress (extract_lets +onlyGivenNames y)); (have z_ := y; guard_hyp z_ : State; clear z_); refine Keeps.cut (kq := kq) (s0 := s0) y ?_ ?_; (on_goal 1 => subst y); (on_goal 2 => (intro hy; try clear_value y))) | ((fail_if_no_progress (extract_lets +onlyGivenNames y)); clear_value y) | ((fail_if_no_progress (extract_lets +onlyGivenNames y)); subst y) | with_reducible apply State.setOx_keeps | with_reducible apply State.captureIrq_keeps | with_reducible apply State.noteItem_keeps | with_reducible apply State.clmBytes_keeps | with_reducible apply State.setFld_keeps | with_reducible apply State.addFld_keeps | with_reducible apply State.useCapture_keeps | fail_if_no_progress (with_reducible apply Keeps.upd) | with_reducible apply KeepsO.next | refine Keeps.ite ?_ ?_ | split)

theorem execCmac_keeps {s0 s : State} {e hi conj sub} (h : Keeps kq s0 s) : KeepsO kq s0 (execCmac e hi conj sub s) := by
  unfold execCmac
  repeat' (first | with_reducible assumption | ((fail_if_no_progress (extract_lets +onlyGivenNames y)); clear_value y) | with_reducible apply State.engStep_keeps | with_reducible apply Done.plain_keeps | with_reducible apply KeepsO.next | (intro a; intros; beta_reduce))

theorem execDi_keeps {s0 s : State} {e} (h : Keeps kq s0 s) : KeepsO kq s0 (execDi e s) := by
  unfold execDi
  repeat' (first | with_reducible assumption | with_reducible apply State.engStep_keeps | with_reducible apply Done.plain_keeps | with_reducible apply KeepsO.next | (intro a; intros; beta_reduce))

theorem execDmaBusError_keeps {s0 s : State} {n} (h : Keeps kq s0 s) : KeepsO kq s0 (execDmaBusError n s) := by
  unfold execDmaBusError
  repeat' (first | with_reducible assumption | with_reducible refine KeepsO.ite ?_ ?_ | with_reducible apply State.dmaError_keeps | with_reducible apply KeepsO.next)

theorem execDmaBusTimeout_keeps {s0 s : State} {n} (h : Keeps kq s0 s) : KeepsO kq s0 (execDmaBusTimeout n s) := by
  unfold execDmaBusTimeout
  repeat' (first | with_reducible assumption | with_reducible apply State.busTimeout_keeps | with_reducible apply KeepsO.next)

theorem execDmaDescriptorRead_keeps {s0 s : State} {n desc} (h : Keeps kq s0 s) : KeepsO kq s0 (execDmaDescriptorRead n desc s) := by
  unfold execDmaDescriptorRead
  repeat' (first | with_reducible assumption | with_reducible apply State.descRead_keeps | with_reducible apply KeepsO.next)

theorem execDmaRetry_keeps {s0 s : State} {n} (h : Keeps kq s0 s) : KeepsO kq s0 (execDmaRetry n s) := by
  unfold execDmaRetry
  repeat' (first | with_reducible assumption | with_reducible refine Keeps.ite ?_ ?_ | with_reducible refine KeepsO.ite ?_ ?_ | ((fail_if_no_progress (extract_lets +onlyGivenNames y)); (have z_ := y; guard_hyp z_ : State; clear z_); refine Keeps.cut (kq := kq) (s0 := s0) y ?_ ?_; (on_goal 1 => subst y); (on_goal 2 => (intro hy; try clear_value y))) | ((fail_if_no_progress (extract_lets +onlyGivenNames y)); (have z_ := y; guard_hyp z_ : State × _; clear z_); refine Keeps.cut1 (kq := kq) (s0 := s0) y ?_ ?_; (on_goal 1 => subst y); (on_goal 2 => (intro hy; try clear_value y))) | ((fail_if_no_progress (extract_lets +onlyGivenNames y)); (have z_ := y; guard_hyp z_ : _ × State; clear z_); refine Keeps.cut2 (kq := kq) (s0 := s0) y ?_ ?_; (on_goal 1 => subst y); (on_goal 2 => (intro hy; try clear_value y))) | ((fail_if_no_progress (extract_lets +onlyGivenNames y)); refine Keeps.fn y ?_; subst y; beta_reduce) | ((fail_if_no_progress (extract_lets +onlyGivenNames y)); clear_value y) | ((fail_if_no_progress (extract_lets +onlyGivenNames y)); subst y) | with_reducible apply State.setDmaSt_keeps | with_reducible apply State.addFld_keeps | with_reducible apply Done.plain_keeps | with_reducible apply Done.bad_keeps | fail_if_no_progress (with_reducible apply Keeps.upd) | (with_reducible refine Keeps.foldl ?_ ?_; on_goal 2 => (intro t x ht; beta_reduce)) | (with_reducible refine Keeps.foldl2 ?_ ?_; on_goal 2 => (intro t x ht; beta_reduce)) | with_reducible apply KeepsO.next | fail_if_no_progress (with_reducible apply Keeps.updFree) | (with_reducible refine Keeps.foldl1 ?_ ?_; on_goal 2 => (intro t x ht; beta_reduce)) | (with_reducible apply Keeps.fst; with_reducible assumption) | refine Keeps.ite ?_ ?_ | split | (intro a; intros; beta_reduce) | (with_reducible apply Keeps.snd; with_reducible assumption))

theorem execDmaSubmit_keeps {s0 s : State} {tag} (h : Keeps kq s0 s) : KeepsO kq s0 (execDmaSubmit tag s) := by
  unfold execDmaSubmit
  repeat' (first | with_reducible assumption | with_reducible refine Keeps.ite ?_ ?_ | ((fail_if_no_progress (extract_lets +onlyGivenNames y)); (have z_ := y; guard_hyp z_ : State; clear z_); refine Keeps.cut (kq := kq) (s0 := s0) y ?_ ?_; (on_goal 1 => subst y); (on_goal 2 => (intro hy; try clear_value y))) | ((fail_if_no_progress (extract_lets +onlyGivenNames y)); clear_value y) | with_reducible apply State.performStart_keeps | with_reducible apply State.finishNow_keeps | with_reducible apply State.dmaReset_keeps | with_reducible apply State.setFld_keeps | with_reducible apply State.dmaStart_keeps | fail_if_no_progress (with_reducible apply Keeps.upd) | with_reducible apply KeepsO.next | split | (intro a; intros; beta_reduce))

theorem execDmaSubmitWaitTimeout_keeps {s0 s : State} {tag} (h : Keeps kq s0 s) : KeepsO kq s0 (execDmaSubmitWaitTimeout tag s) := by
  unfold execDmaSubmitWaitTimeout
  repeat' (first | with_reducible assumption | with_reducible refine Keeps.ite ?_ ?_ | ((fail_if_no_progress (extract_lets +onlyGivenNames y)); clear_value y) | with_reducible apply State.finishNow_keeps | fail_if_no_progress (with_reducible apply Keeps.upd) | with_reducible apply KeepsO.next | split)

theorem execDone_keeps {s0 s : State} {e} (h : Keeps kq s0 s) : KeepsO kq s0 (execDone e s) := by
  unfold execDone
  repeat' (first | with_reducible assumption | with_reducible apply State.engStep_keeps | with_reducible apply Done.plain_keeps | with_reducible apply KeepsO.next | (intro a; intros; beta_reduce))

theorem execEi_keeps {s0 s : State} {e} (h : Keeps kq s0 s) : KeepsO kq s0 (execEi e s) := by
  unfold execEi
  repeat' (first | with_reducible assumption | with_reducible apply State.engStep_keeps | with_reducible apply Done.plain_keeps | with_reducible apply KeepsO.next | (intro a; intros; beta_reduce))

theorem execEngDoorbell_keeps {s0 s : State} {tag} (h : Keeps kq s0 s) : KeepsO kq s0 (execEngDoorbell tag s) := by
  unfold execEngDoorbell
  repeat' (first | with_reducible assumption | with_reducible apply State.performStart_keeps | with_reducible apply State.engOp_keeps | with_reducible apply State.ringEngine_keeps | with_reducible apply KeepsO.next | (intro a; intros; beta_reduce))

theorem execEngLoadKernel_keeps {s0 s : State} {tag v} (h : Keeps kq s0 s) : KeepsO kq s0 (execEngLoadKernel tag v s) := by
  unfold execEngLoadKernel
  repeat' (first | with_reducible assumption | with_reducible refine Keeps.ite ?_ ?_ | ((fail_if_no_progress (extract_lets +onlyGivenNames y)); (have z_ := y; guard_hyp z_ : State; clear z_); refine Keeps.cut (kq := kq) (s0 := s0) y ?_ ?_; (on_goal 1 => subst y); (on_goal 2 => (intro hy; try clear_value y))) | ((fail_if_no_progress (extract_lets +onlyGivenNames y)); clear_value y) | with_reducible apply State.performStart_keeps | with_reducible apply State.finishNow_keeps | with_reducible apply State.authFail_keeps | with_reducible apply State.loseEstimation_keeps | with_reducible apply State.loadKernel_keeps | with_reducible apply State.startEngine_keeps | with_reducible apply State.finishPart_keeps | (with_reducible refine Keeps.foldl ?_ ?_; on_goal 2 => (intro t x ht; beta_reduce)) | with_reducible apply KeepsO.next | split | (intro a; intros; beta_reduce))

theorem execEngStartKernel_keeps {s0 s : State} {tag} (h : Keeps kq s0 s) : KeepsO kq s0 (execEngStartKernel tag s) := by
  unfold execEngStartKernel
  repeat' (first | with_reducible assumption | with_reducible refine Keeps.ite ?_ ?_ | with_reducible apply State.performStart_keeps | with_reducible apply State.engOp_keeps | with_reducible apply State.startEngine_keeps | with_reducible apply KeepsO.next | (intro a; intros; beta_reduce))

theorem execEngStop_keeps {s0 s : State} {tag} (h : Keeps kq s0 s) : KeepsO kq s0 (execEngStop tag s) := by
  unfold execEngStop
  repeat' (first | with_reducible assumption | with_reducible apply State.performStart_keeps | with_reducible apply State.engOp_keeps | with_reducible apply State.stopEngine_keeps | with_reducible apply KeepsO.next | (intro a; intros; beta_reduce))

theorem execEstimationStart_keeps {s0 s : State} {e} (h : Keeps kq s0 s) : KeepsO kq s0 (execEstimationStart e s) := by
  unfold execEstimationStart
  repeat' (first | with_reducible assumption | with_reducible apply State.estimationStart_keeps | with_reducible apply State.jobBlock_keeps | with_reducible apply KeepsO.next | split | (with_reducible apply Keeps.snd; with_reducible assumption))

theorem execGop_keeps {s0 s : State} {e op d a b} (h : Keeps kq s0 s) : KeepsO kq s0 (execGop e op d a b s) := by
  unfold execGop
  repeat' (first | with_reducible assumption | ((fail_if_no_progress (extract_lets +onlyGivenNames y)); clear_value y) | with_reducible apply State.engStep_keeps | with_reducible apply Done.plain_keeps | with_reducible apply KeepsO.next | split | (intro a; intros; beta_reduce))

theorem execHalt_keeps {s0 s : State} {e} (h : Keeps kq s0 s) : KeepsO kq s0 (execHalt e s) := by
  unfold execHalt
  repeat' (first | with_reducible assumption | with_reducible apply State.engStep_keeps | with_reducible apply Done.bad_keeps | with_reducible apply KeepsO.next | (intro a; intros; beta_reduce))

theorem execInterruptEntry_keeps {s0 s : State} {e} (h : Keeps kq s0 s) : KeepsO kq s0 (execInterruptEntry e s) := by
  unfold execInterruptEntry
  repeat' (first | with_reducible assumption | with_reducible apply State.interruptEntry_keeps | with_reducible apply KeepsO.next)

theorem execLdg_keeps {s0 s : State} {e r b a} (h : Keeps kq s0 s) : KeepsO kq s0 (execLdg e r b a s) := by
  unfold execLdg
  repeat' (first | with_reducible assumption | with_reducible apply State.engStep_keeps | with_reducible apply KeepsO.next | (intro a; intros; beta_reduce))

theorem execLdi_keeps {s0 s : State} {e r} (h : Keeps kq s0 s) : KeepsO kq s0 (execLdi e r s) := by
  unfold execLdi
  repeat' (first | with_reducible assumption | with_reducible apply State.engStep_keeps | with_reducible apply Done.plain_keeps | with_reducible apply KeepsO.next | (intro a; intros; beta_reduce))

theorem execLeave_keeps {s0 s : State} {e} (h : Keeps kq s0 s) : KeepsO kq s0 (execLeave e s) := by
  unfold execLeave
  repeat' (first | with_reducible assumption | with_reducible apply State.engStep_keeps | with_reducible apply Done.plain_keeps | with_reducible apply Done.bad_keeps | with_reducible apply KeepsO.next | split | (intro a; intros; beta_reduce))

theorem execLoop_keeps {s0 s : State} {e} (h : Keeps kq s0 s) : KeepsO kq s0 (execLoop e s) := by
  unfold execLoop
  repeat' (first | with_reducible assumption | ((fail_if_no_progress (extract_lets +onlyGivenNames y)); clear_value y) | with_reducible apply State.engStep_keeps | with_reducible apply Done.bad_keeps | with_reducible apply KeepsO.next | split | (intro a; intros; beta_reduce))

theorem execMac_keeps {s0 s : State} {e ac u v sub} (h : Keeps kq s0 s) : KeepsO kq s0 (execMac e ac u v sub s) := by
  unfold execMac
  repeat' (first | with_reducible assumption | ((fail_if_no_progress (extract_lets +onlyGivenNames y)); clear_value y) | with_reducible apply State.engStep_keeps | with_reducible apply Done.plain_keeps | with_reducible apply KeepsO.next | (intro a; intros; beta_reduce))

theorem execMac4_keeps {s0 s : State} {e sub} (h : Keeps kq s0 s) : KeepsO kq s0 (execMac4 e sub s) := by
  unfold execMac4
  repeat' (first | with_reducible assumption | ((fail_if_no_progress (extract_lets +onlyGivenNames y)); clear_value y) | with_reducible apply State.engStep_keeps | with_reducible apply Done.plain_keeps | with_reducible apply KeepsO.next | (intro a; intros; beta_reduce))

theorem execMova_keeps {s0 s : State} {e ac dst} (h : Keeps kq s0 s) : KeepsO kq s0 (execMova e ac dst s) := by
  unfold execMova
  repeat' (first | with_reducible assumption | with_reducible refine Keeps.ite ?_ ?_ | with_reducible refine KeepsO.ite ?_ ?_ | ((fail_if_no_progress (extract_lets +onlyGivenNames y)); (have z_ := y; guard_hyp z_ : State; clear z_); refine Keeps.cut (kq := kq) (s0 := s0) y ?_ ?_; (on_goal 1 => subst y); (on_goal 2 => (intro hy; try clear_value y))) | ((fail_if_no_progress (extract_lets +onlyGivenNames y)); (have z_ := y; guard_hyp z_ : State × _; clear z_); refine Keeps.cut1 (kq := kq) (s0 := s0) y ?_ ?_; (on_goal 1 => subst y); (on_goal 2 => (intro hy; try clear_value y))) | ((fail_if_no_progress (extract_lets +onlyGivenNames y)); (have z_ := y; guard_hyp z_ : _ × State; clear z_); refine Keeps.cut2 (kq := kq) (s0 := s0) y ?_ ?_; (on_goal 1 => subst y); (on_goal 2 => (intro hy; try clear_value y))) | ((fail_if_no_progress (extract_lets +onlyGivenNames y)); refine Keeps.fn y ?_; subst y; beta_reduce) | ((fail_if_no_progress (extract_lets +onlyGivenNames y)); clear_value y) | ((fail_if_no_progress (extract_lets +onlyGivenNames y)); subst y) | with_reducible apply State.engStep_keeps | with_reducible apply State.freeMove_keeps | with_reducible apply State.fresh_keeps | with_reducible apply Done.plain_keeps | with_reducible apply Done.bad_keeps | fail_if_no_progress (with_reducible apply Keeps.upd) | (with_reducible refine Keeps.foldl ?_ ?_; on_goal 2 => (intro t x ht; beta_reduce)) | (with_reducible refine Keeps.foldl2 ?_ ?_; on_goal 2 => (intro t x ht; beta_reduce)) | with_reducible apply KeepsO.next | fail_if_no_progress (with_reducible apply Keeps.updFree) | (with_reducible refine Keeps.foldl1 ?_ ?_; on_goal 2 => (intro t x ht; beta_reduce)) | (with_reducible apply Keeps.fst; with_reducible assumption) | refine Keeps.ite ?_ ?_ | split | (intro a; intros; beta_reduce) | (with_reducible apply Keeps.snd; with_reducible assumption))

theorem execMovr_keeps {s0 s : State} {e dst src} (h : Keeps kq s0 s) : KeepsO kq s0 (execMovr e dst src s) := by
  unfold execMovr
  repeat' (first | with_reducible assumption | ((fail_if_no_progress (extract_lets +onlyGivenNames y)); clear_value y) | with_reducible apply State.engStep_keeps | with_reducible apply State.fresh_keeps | with_reducible apply State.putEngReg_keeps | with_reducible apply Done.plain_keeps | with_reducible apply KeepsO.next | split | (intro a; intros; beta_reduce))

theorem execMpy_keeps {s0 s : State} {e ac u v} (h : Keeps kq s0 s) : KeepsO kq s0 (execMpy e ac u v s) := by
  unfold execMpy
  repeat' (first | with_reducible assumption | ((fail_if_no_progress (extract_lets +onlyGivenNames y)); clear_value y) | with_reducible apply State.engStep_keeps | with_reducible apply Done.plain_keeps | with_reducible apply KeepsO.next | (intro a; intros; beta_reduce))

theorem execNop_keeps {s0 s : State} {e} (h : Keeps kq s0 s) : KeepsO kq s0 (execNop e s) := by
  unfold execNop
  repeat' (first | with_reducible assumption | with_reducible apply State.engStep_keeps | with_reducible apply Done.plain_keeps | with_reducible apply KeepsO.next | (intro a; intros; beta_reduce))

theorem execRecArm_keeps {s0 s : State} {tag} (h : Keeps kq s0 s) : KeepsO kq s0 (execRecArm tag s) := by
  unfold execRecArm
  repeat' (first | with_reducible assumption | ((fail_if_no_progress (extract_lets +onlyGivenNames y)); (have z_ := y; guard_hyp z_ : State; clear z_); refine Keeps.cut (kq := kq) (s0 := s0) y ?_ ?_; (on_goal 1 => subst y); (on_goal 2 => (intro hy; try clear_value y))) | ((fail_if_no_progress (extract_lets +onlyGivenNames y)); clear_value y) | with_reducible apply State.performStart_keeps | with_reducible apply State.finishNow_keeps | with_reducible apply State.setFld_keeps | with_reducible apply State.setRecSt_keeps | fail_if_no_progress (with_reducible apply Keeps.upd) | with_reducible apply KeepsO.next | split | (intro a; intros; beta_reduce))

theorem execRecStop_keeps {s0 s : State} {tag} (h : Keeps kq s0 s) : KeepsO kq s0 (execRecStop tag s) := by
  unfold execRecStop
  repeat' (first | with_reducible assumption | ((fail_if_no_progress (extract_lets +onlyGivenNames y)); clear_value y) | with_reducible apply State.performStart_keeps | with_reducible apply State.finishNow_keeps | fail_if_no_progress (with_reducible apply Keeps.upd) | with_reducible apply KeepsO.next | split | (intro a; intros; beta_reduce))

theorem execRecordingLimitReached_keeps {s0 s : State} {reason} (h : Keeps kq s0 s) : KeepsO kq s0 (execRecordingLimitReached reason s) := by
  unfold execRecordingLimitReached
  repeat' (first | with_reducible assumption | with_reducible refine Keeps.ite ?_ ?_ | with_reducible apply State.recStop_keeps | with_reducible apply KeepsO.next)

theorem execReplayDone_keeps {s0 s : State} (h : Keeps kq s0 s) : KeepsO kq s0 (execReplayDone s) := by
  unfold execReplayDone
  repeat' (first | with_reducible assumption | with_reducible refine KeepsO.ite ?_ ?_ | with_reducible apply State.replayEnd_keeps | with_reducible apply KeepsO.next | split)

theorem execReplayStart_keeps {s0 s : State} {tag} (h : Keeps kq s0 s) : KeepsO kq s0 (execReplayStart tag s) := by
  unfold execReplayStart
  repeat' (first | with_reducible assumption | ((fail_if_no_progress (extract_lets +onlyGivenNames y)); (have z_ := y; guard_hyp z_ : State; clear z_); refine Keeps.cut (kq := kq) (s0 := s0) y ?_ ?_; (on_goal 1 => subst y); (on_goal 2 => (intro hy; try clear_value y))) | ((fail_if_no_progress (extract_lets +onlyGivenNames y)); clear_value y) | with_reducible apply State.performStart_keeps | with_reducible apply State.setRecSt_keeps | with_reducible apply State.loadSnapshot_keeps | with_reducible apply State.setFld_keeps | with_reducible apply State.finishNow_keeps | fail_if_no_progress (with_reducible apply Keeps.upd) | with_reducible apply KeepsO.next | split | (intro a; intros; beta_reduce))

theorem execRet_keeps {s0 s : State} {e} (h : Keeps kq s0 s) : KeepsO kq s0 (execRet e s) := by
  unfold execRet
  repeat' (first | with_reducible assumption | with_reducible apply State.engStep_keeps | with_reducible apply KeepsO.next | (intro a; intros; beta_reduce))

theorem execRpt_keeps {s0 s : State} {e} (h : Keeps kq s0 s) : KeepsO kq s0 (execRpt e s) := by
  unfold execRpt
  repeat' (first | with_reducible assumption | ((fail_if_no_progress (extract_lets +onlyGivenNames y)); clear_value y) | with_reducible apply State.engStep_keeps | with_reducible apply KeepsO.next | split | (intro a; intros; beta_reduce))

theorem execRti_keeps {s0 s : State} {e} (h : Keeps kq s0 s) : KeepsO kq s0 (execRti e s) := by
  unfold execRti
  repeat' (first | with_reducible assumption | with_reducible apply State.engStep_keeps | with_reducible apply KeepsO.next | (intro a; intros; beta_reduce))

theorem execScm_keeps {s0 s : State} {e mode} (h : Keeps kq s0 s) : KeepsO kq s0 (execScm e mode s) := by
  unfold execScm
  repeat' (first | with_reducible assumption | with_reducible apply State.engStep_keeps | with_reducible apply Done.plain_keeps | with_reducible apply KeepsO.next | (intro a; intros; beta_reduce))

theorem execSnapshotDone_keeps {s0 s : State} (h : Keeps kq s0 s) : KeepsO kq s0 (execSnapshotDone s) := by
  unfold execSnapshotDone
  repeat' (first | with_reducible assumption | with_reducible refine KeepsO.ite ?_ ?_ | with_reducible apply State.setFld_keeps | with_reducible apply KeepsO.next)

theorem execStg_keeps {s0 s : State} {e r b a} (h : Keeps kq s0 s) : KeepsO kq s0 (execStg e r b a s) := by
  unfold execStg
  repeat' (first | with_reducible assumption | with_reducible apply State.engStep_keeps | with_reducible apply Done.plain_keeps | with_reducible apply KeepsO.next | (intro a; intros; beta_reduce))

theorem execSwi_keeps {s0 s : State} {e} (h : Keeps kq s0 s) : KeepsO kq s0 (execSwi e s) := by
  unfold execSwi
  repeat' (first | with_reducible assumption | with_reducible apply State.engStep_keeps | with_reducible apply State.setFld_keeps | with_reducible apply Done.plain_keeps | with_reducible apply KeepsO.next | (intro a; intros; beta_reduce))

theorem execTend_keeps {s0 s : State} {e} (h : Keeps kq s0 s) : KeepsO kq s0 (execTend e s) := by
  unfold execTend
  repeat' (first | with_reducible assumption | with_reducible refine KeepsO.ite ?_ ?_ | ((fail_if_no_progress (extract_lets +onlyGivenNames y)); (have z_ := y; guard_hyp z_ : State; clear z_); refine Keeps.cut (kq := kq) (s0 := s0) y ?_ ?_; (on_goal 1 => subst y); (on_goal 2 => (intro hy; try clear_value y))) | ((fail_if_no_progress (extract_lets +onlyGivenNames y)); clear_value y) | with_reducible apply State.engStep_keeps | with_reducible apply State.setFld_keeps | with_reducible apply State.publish_keeps | with_reducible apply Done.plain_keeps | with_reducible apply KeepsO.next | (intro a; intros; beta_reduce))

theorem execWaitx_keeps {s0 s : State} {e} (h : Keeps kq s0 s) : KeepsO kq s0 (execWaitx e s) := by
  unfold execWaitx
  repeat' (first | with_reducible assumption | ((fail_if_no_progress (extract_lets +onlyGivenNames y)); (have z_ := y; guard_hyp z_ : State; clear z_); refine Keeps.cut (kq := kq) (s0 := s0) y ?_ ?_; (on_goal 1 => subst y); (on_goal 2 => (intro hy; try clear_value y))) | with_reducible apply State.engStep_keeps | with_reducible apply State.moveDone_keeps | with_reducible apply State.putEngine_keeps | with_reducible apply Done.plain_keeps | with_reducible apply KeepsO.next | split | (intro a; intros; beta_reduce))

theorem execXfer_keeps {s0 s : State} {e into b g p n} (h : Keeps kq s0 s) : KeepsO kq s0 (execXfer e into b g p n s) := by
  unfold execXfer
  repeat' (first | with_reducible assumption | with_reducible refine Keeps.ite ?_ ?_ | ((fail_if_no_progress (extract_lets +onlyGivenNames y)); (have z_ := y; guard_hyp z_ : State; clear z_); refine Keeps.cut (kq := kq) (s0 := s0) y ?_ ?_; (on_goal 1 => subst y); (on_goal 2 => (intro hy; try clear_value y))) | ((fail_if_no_progress (extract_lets +onlyGivenNames y)); clear_value y) | with_reducible apply State.engStep_keeps | with_reducible apply State.moveDone_keeps | with_reducible apply State.putEngine_keeps | with_reducible apply Done.bad_keeps | with_reducible apply KeepsO.next | split | (intro a; intros; beta_reduce))

theorem execXferComplete_keeps {s0 s : State} {e} (h : Keeps kq s0 s) : KeepsO kq s0 (execXferComplete e s) := by
  unfold execXferComplete
  repeat' (first | with_reducible assumption | with_reducible refine KeepsO.ite ?_ ?_ | ((fail_if_no_progress (extract_lets +onlyGivenNames y)); clear_value y) | with_reducible apply State.moveDone_keeps | with_reducible apply KeepsO.next | split)

end Sys2Proof.Machine
end

