-- ==== Sys2Proof/Laws/KeepsHealth.lean ====
section
/-!
SUPPORT. Sys2Proof/Laws/KeepsHealth.lean: what every state function leaves of the model's bookkeeping (`Keeps`): faults, housekeeping and calibration.
-/
set_option linter.unusedTactic false
set_option linter.tactic.unusedName false
set_option linter.unreachableTactic false
set_option linter.unusedVariables false
namespace Sys2Proof.Machine

variable {kq : Bool}

theorem State.calRetire_keeps {s0 s : State} {src} (h : Keeps kq s0 s) : Keeps kq s0 (State.calRetire s src) := by
  unfold State.calRetire
  repeat' (first | with_reducible assumption | ((fail_if_no_progress (extract_lets +onlyGivenNames y)); refine Keeps.fn y ?_; subst y; beta_reduce) | ((fail_if_no_progress (extract_lets +onlyGivenNames y)); clear_value y) | fail_if_no_progress (with_reducible apply Keeps.upd))

theorem State.markRetired_keeps {s0 s : State} {src} (h : Keeps kq s0 s) : Keeps kq s0 (State.markRetired s src) := by
  unfold State.markRetired
  repeat' (first | with_reducible assumption | ((fail_if_no_progress (extract_lets +onlyGivenNames y)); clear_value y) | fail_if_no_progress (with_reducible apply Keeps.upd))

theorem State.retireOne_keeps {s0 s : State} {src} (h : Keeps kq s0 s) : Keeps kq s0 (State.retireOne s src) := by
  unfold State.retireOne
  repeat' (first | with_reducible assumption | with_reducible refine Keeps.ite ?_ ?_ | ((fail_if_no_progress (extract_lets +onlyGivenNames y)); (have z_ := y; guard_hyp z_ : State; clear z_); refine Keeps.cut (kq := kq) (s0 := s0) y ?_ ?_; (on_goal 1 => subst y); (on_goal 2 => (intro hy; try clear_value y))) | ((fail_if_no_progress (extract_lets +onlyGivenNames y)); (have z_ := y; guard_hyp z_ : State × _; clear z_); refine Keeps.cut1 (kq := kq) (s0 := s0) y ?_ ?_; (on_goal 1 => subst y); (on_goal 2 => (intro hy; try clear_value y))) | ((fail_if_no_progress (extract_lets +onlyGivenNames y)); (have z_ := y; guard_hyp z_ : _ × State; clear z_); refine Keeps.cut2 (kq := kq) (s0 := s0) y ?_ ?_; (on_goal 1 => subst y); (on_goal 2 => (intro hy; try clear_value y))) | ((fail_if_no_progress (extract_lets +onlyGivenNames y)); refine Keeps.fn y ?_; subst y; beta_reduce) | ((fail_if_no_progress (extract_lets +onlyGivenNames y)); clear_value y) | ((fail_if_no_progress (extract_lets +onlyGivenNames y)); subst y) | with_reducible apply State.retireRx_keeps | with_reducible apply State.refreshQueue_keeps | with_reducible apply State.retireTx_keeps | with_reducible apply State.setQuad_keeps | with_reducible apply State.retireOx_keeps | with_reducible apply State.retireEngine_keeps | with_reducible apply State.retireLane_keeps | with_reducible apply State.retirePort_keeps | with_reducible apply State.retireCas_keeps | with_reducible apply State.recLost_keeps | with_reducible apply State.calRetire_keeps | with_reducible apply State.markRetired_keeps | with_reducible apply Done.plain_keeps | with_reducible apply Done.bad_keeps | fail_if_no_progress (with_reducible apply Keeps.upd) | (with_reducible refine Keeps.foldl ?_ ?_; on_goal 2 => (intro t x ht; beta_reduce)) | (with_reducible refine Keeps.foldl2 ?_ ?_; on_goal 2 => (intro t x ht; beta_reduce)) | with_reducible apply KeepsO.next | fail_if_no_progress (with_reducible apply Keeps.updFree) | (with_reducible refine Keeps.foldl1 ?_ ?_; on_goal 2 => (intro t x ht; beta_reduce)) | (with_reducible apply Keeps.fst; with_reducible assumption) | refine Keeps.ite ?_ ?_ | split | (intro a; intros; beta_reduce) | (with_reducible apply Keeps.snd; with_reducible assumption))

theorem State.retireUnit_keeps {s0 s : State} {src cause det} (h : Keeps kq s0 s) : Keeps kq s0 (State.retireUnit s src cause det) := by
  unfold State.retireUnit
  repeat' (first | with_reducible assumption | with_reducible refine Keeps.ite ?_ ?_ | ((fail_if_no_progress (extract_lets +onlyGivenNames y)); (have z_ := y; guard_hyp z_ : State; clear z_); refine Keeps.cut (kq := kq) (s0 := s0) y ?_ ?_; (on_goal 1 => subst y); (on_goal 2 => (intro hy; try clear_value y))) | ((fail_if_no_progress (extract_lets +onlyGivenNames y)); clear_value y) | with_reducible apply State.retireOne_keeps | with_reducible apply State.refreshExcl_keeps | with_reducible apply State.raise_keeps | (with_reducible refine Keeps.foldl ?_ ?_; on_goal 2 => (intro t x ht; beta_reduce)))

theorem State.setEvrIrq_keeps {s0 s : State} {b} (h : Keeps kq s0 s) : Keeps kq s0 (State.setEvrIrq s b) := by
  unfold State.setEvrIrq
  repeat' (first | with_reducible assumption | with_reducible apply State.setIrq_keeps)

theorem State.refreshService_keeps {s0 s : State} (h : Keeps kq s0 s) : Keeps kq s0 (State.refreshService s) := by
  unfold State.refreshService
  repeat' (first | with_reducible assumption | with_reducible apply State.setFld_keeps)

theorem State.refreshReplace_keeps {s0 s : State} (h : Keeps kq s0 s) : Keeps kq s0 (State.refreshReplace s) := by
  unfold State.refreshReplace
  repeat' (first | with_reducible assumption | with_reducible refine Keeps.ite ?_ ?_ | ((fail_if_no_progress (extract_lets +onlyGivenNames y)); (have z_ := y; guard_hyp z_ : State; clear z_); refine Keeps.cut (kq := kq) (s0 := s0) y ?_ ?_; (on_goal 1 => subst y); (on_goal 2 => (intro hy; try clear_value y))) | ((fail_if_no_progress (extract_lets +onlyGivenNames y)); clear_value y) | with_reducible apply State.setFld_keeps | with_reducible apply State.raise_keeps | with_reducible apply State.setEvrIrq_keeps | with_reducible apply State.refreshService_keeps)

theorem State.refreshCal_keeps {s0 s : State} (h : Keeps kq s0 s) : Keeps kq s0 (State.refreshCal s) := by
  unfold State.refreshCal
  repeat' (first | with_reducible assumption | ((fail_if_no_progress (extract_lets +onlyGivenNames y)); (have z_ := y; guard_hyp z_ : State; clear z_); refine Keeps.cut (kq := kq) (s0 := s0) y ?_ ?_; (on_goal 1 => subst y); (on_goal 2 => (intro hy; try clear_value y))) | ((fail_if_no_progress (extract_lets +onlyGivenNames y)); clear_value y) | with_reducible apply State.setFld_keeps)

theorem State.putCal_keeps {s0 s : State} {k e} (h : Keeps kq s0 s) : Keeps kq s0 (State.putCal s k e) := by
  unfold State.putCal
  repeat' (first | with_reducible assumption | ((fail_if_no_progress (extract_lets +onlyGivenNames y)); clear_value y) | fail_if_no_progress (with_reducible apply Keeps.upd))

theorem State.calDiscard_keeps {s0 s : State} (h : Keeps kq s0 s) : Keeps kq s0 (State.calDiscard s) := by
  unfold State.calDiscard
  repeat' (first | with_reducible assumption | with_reducible refine Keeps.ite ?_ ?_ | ((fail_if_no_progress (extract_lets +onlyGivenNames y)); clear_value y) | with_reducible apply State.refreshCal_keeps | with_reducible apply State.putCal_keeps | with_reducible apply State.setReady_keeps | (with_reducible refine Keeps.foldl ?_ ?_; on_goal 2 => (intro t x ht; beta_reduce)))

theorem State.toShadow_keeps {s0 s : State} (h : Keeps kq s0 s) : Keeps kq s0 (State.toShadow s) := by
  unfold State.toShadow
  repeat' (first | with_reducible assumption | with_reducible refine Keeps.ite ?_ ?_ | ((fail_if_no_progress (extract_lets +onlyGivenNames y)); (have z_ := y; guard_hyp z_ : State; clear z_); refine Keeps.cut (kq := kq) (s0 := s0) y ?_ ?_; (on_goal 1 => subst y); (on_goal 2 => (intro hy; try clear_value y))) | ((fail_if_no_progress (extract_lets +onlyGivenNames y)); clear_value y) | with_reducible apply State.setEvrIrq_keeps | with_reducible apply State.setFld_keeps | fail_if_no_progress (with_reducible apply Keeps.upd))

theorem State.refreshTable_keeps {s0 s : State} (h : Keeps kq s0 s) : Keeps kq s0 (State.refreshTable s) := by
  unfold State.refreshTable
  repeat' (first | with_reducible assumption | with_reducible apply State.setFld_keeps)

theorem State.putFifo_keeps {s0 s : State} {l} (h : Keeps kq s0 s) : Keeps kq s0 (State.putFifo s l) := by
  unfold State.putFifo
  repeat' (first | with_reducible assumption | ((fail_if_no_progress (extract_lets +onlyGivenNames y)); (have z_ := y; guard_hyp z_ : State; clear z_); refine Keeps.cut (kq := kq) (s0 := s0) y ?_ ?_; (on_goal 1 => subst y); (on_goal 2 => (intro hy; try clear_value y))) | ((fail_if_no_progress (extract_lets +onlyGivenNames y)); clear_value y) | with_reducible apply State.setFld_keeps | fail_if_no_progress (with_reducible apply Keeps.upd))

theorem State.urgentRequest_keeps {s0 s : State} {ch avg} (h : Keeps kq s0 s) : Keeps kq s0 (State.urgentRequest s ch avg) := by
  unfold State.urgentRequest
  repeat' (first | with_reducible assumption | with_reducible refine Keeps.ite ?_ ?_ | ((fail_if_no_progress (extract_lets +onlyGivenNames y)); (have z_ := y; guard_hyp z_ : State; clear z_); refine Keeps.cut (kq := kq) (s0 := s0) y ?_ ?_; (on_goal 1 => subst y); (on_goal 2 => (intro hy; try clear_value y))) | with_reducible apply State.setFld_keeps)

theorem State.calDue_keeps {s0 s : State} {k cause fore moved} (h : Keeps kq s0 s) : Keeps kq s0 (State.calDue s k cause fore moved) := by
  unfold State.calDue
  repeat' (first | with_reducible assumption | with_reducible refine Keeps.ite ?_ ?_ | with_reducible apply State.putCal_keeps)

theorem State.firstGroups_keeps {s0 s : State} {old} (h : Keeps kq s0 s) : Keeps kq s0 (State.firstGroups s old) := by
  unfold State.firstGroups
  repeat' (first | with_reducible assumption | with_reducible refine Keeps.ite ?_ ?_ | ((fail_if_no_progress (extract_lets +onlyGivenNames y)); (have z_ := y; guard_hyp z_ : State; clear z_); refine Keeps.cut (kq := kq) (s0 := s0) y ?_ ?_; (on_goal 1 => subst y); (on_goal 2 => (intro hy; try clear_value y))) | ((fail_if_no_progress (extract_lets +onlyGivenNames y)); refine Keeps.fn y ?_; subst y; beta_reduce) | with_reducible apply State.calDue_keeps | with_reducible apply State.refreshCal_keeps | (with_reducible refine Keeps.foldl ?_ ?_; on_goal 2 => (intro t x ht; beta_reduce)))

theorem State.noteForced_keeps {s0 s : State} (h : Keeps kq s0 s) : Keeps kq s0 (State.noteForced s) := by
  unfold State.noteForced
  repeat' (first | with_reducible assumption | with_reducible refine Keeps.ite ?_ ?_ | with_reducible apply State.setFld_keeps)

theorem State.calStart_keeps {s0 s : State} {k} (h : Keeps kq s0 s) : Keeps kq s0 (State.calStart s k) := by
  unfold State.calStart
  repeat' (first | with_reducible assumption | with_reducible refine Keeps.ite ?_ ?_ | ((fail_if_no_progress (extract_lets +onlyGivenNames y)); (have z_ := y; guard_hyp z_ : State; clear z_); refine Keeps.cut (kq := kq) (s0 := s0) y ?_ ?_; (on_goal 1 => subst y); (on_goal 2 => (intro hy; try clear_value y))) | ((fail_if_no_progress (extract_lets +onlyGivenNames y)); clear_value y) | with_reducible apply State.putCal_keeps | with_reducible apply State.setReady_keeps | with_reducible apply State.refreshCal_keeps)

theorem State.calForce_keeps {s0 s : State} (h : Keeps kq s0 s) : Keeps kq s0 (State.calForce s) := by
  unfold State.calForce
  repeat' (first | with_reducible assumption | with_reducible refine Keeps.ite ?_ ?_ | ((fail_if_no_progress (extract_lets +onlyGivenNames y)); (have z_ := y; guard_hyp z_ : State; clear z_); refine Keeps.cut (kq := kq) (s0 := s0) y ?_ ?_; (on_goal 1 => subst y); (on_goal 2 => (intro hy; try clear_value y))) | ((fail_if_no_progress (extract_lets +onlyGivenNames y)); clear_value y) | with_reducible apply State.refreshCal_keeps | with_reducible apply State.calDue_keeps | with_reducible apply State.noteForced_keeps | with_reducible apply State.calStart_keeps | (with_reducible refine Keeps.foldl ?_ ?_; on_goal 2 => (intro t x ht; beta_reduce)))

theorem State.settleCal_keeps {s0 s : State} (h : Keeps kq s0 s) : Keeps kq s0 (State.settleCal s) := by
  unfold State.settleCal
  repeat' (first | with_reducible assumption | ((fail_if_no_progress (extract_lets +onlyGivenNames y)); (have z_ := y; guard_hyp z_ : State; clear z_); refine Keeps.cut (kq := kq) (s0 := s0) y ?_ ?_; (on_goal 1 => subst y); (on_goal 2 => (intro hy; try clear_value y))) | ((fail_if_no_progress (extract_lets +onlyGivenNames y)); clear_value y) | with_reducible apply State.finishPart_keeps | fail_if_no_progress (with_reducible apply Keeps.upd) | (with_reducible refine Keeps.foldl ?_ ?_; on_goal 2 => (intro t x ht; beta_reduce)))

theorem State.calEnd_keeps {s0 s : State} {k disagreed retired} (h : Keeps kq s0 s) : Keeps kq s0 (State.calEnd s k disagreed retired) := by
  unfold State.calEnd
  repeat' (first | with_reducible assumption | with_reducible refine Keeps.ite ?_ ?_ | ((fail_if_no_progress (extract_lets +onlyGivenNames y)); clear_value y) | with_reducible apply State.setReady_keeps | with_reducible apply State.refreshCal_keeps | with_reducible apply State.settleCal_keeps | with_reducible apply State.noteForced_keeps | fail_if_no_progress (with_reducible apply Keeps.upd))

theorem State.calAgree_keeps {s0 s : State} {k result} (h : Keeps kq s0 s) : Keeps kq s0 (State.calAgree s k result) := by
  unfold State.calAgree
  repeat' (first | with_reducible assumption | ((fail_if_no_progress (extract_lets +onlyGivenNames y)); clear_value y) | with_reducible apply State.calEnd_keeps | with_reducible apply State.putCal_keeps)

theorem State.refreshCalValid_keeps {s0 s : State} {p} (h : Keeps kq s0 s) : Keeps kq s0 (State.refreshCalValid s p) := by
  unfold State.refreshCalValid
  repeat' (first | with_reducible assumption | ((fail_if_no_progress (extract_lets +onlyGivenNames y)); clear_value y) | with_reducible apply State.setFld_keeps)

theorem State.calApply_keeps {s0 s : State} (h : Keeps kq s0 s) : Keeps kq s0 (State.calApply s) := by
  unfold State.calApply
  repeat' (first | with_reducible assumption | with_reducible refine Keeps.ite ?_ ?_ | ((fail_if_no_progress (extract_lets +onlyGivenNames y)); clear_value y) | with_reducible apply State.putCal_keeps | with_reducible apply State.refreshCalValid_keeps | (with_reducible refine Keeps.foldl ?_ ?_; on_goal 2 => (intro t x ht; beta_reduce)))

theorem State.coreBlockFault_keeps {s0 s : State} {det} (h : Keeps kq s0 s) : Keeps kq s0 (State.coreBlockFault s det) := by
  unfold State.coreBlockFault
  repeat' (first | with_reducible assumption | ((fail_if_no_progress (extract_lets +onlyGivenNames y)); (have z_ := y; guard_hyp z_ : State; clear z_); refine Keeps.cut (kq := kq) (s0 := s0) y ?_ ?_; (on_goal 1 => subst y); (on_goal 2 => (intro hy; try clear_value y))) | ((fail_if_no_progress (extract_lets +onlyGivenNames y)); clear_value y) | with_reducible apply State.refreshReplace_keeps | with_reducible apply State.raise_keeps | fail_if_no_progress (with_reducible apply Keeps.upd))

theorem State.calDispute_keeps {s0 s : State} {k} (h : Keeps kq s0 s) : Keeps kq s0 (State.calDispute s k) := by
  unfold State.calDispute
  repeat' (first | with_reducible assumption | with_reducible refine Keeps.ite ?_ ?_ | ((fail_if_no_progress (extract_lets +onlyGivenNames y)); (have z_ := y; guard_hyp z_ : State; clear z_); refine Keeps.cut (kq := kq) (s0 := s0) y ?_ ?_; (on_goal 1 => subst y); (on_goal 2 => (intro hy; try clear_value y))) | ((fail_if_no_progress (extract_lets +onlyGivenNames y)); clear_value y) | with_reducible apply State.addFld_keeps | with_reducible apply State.raise_keeps | with_reducible apply State.calEnd_keeps | with_reducible apply State.putCal_keeps | with_reducible apply State.coreBlockFault_keeps | fail_if_no_progress (with_reducible apply Keeps.upd) | split)

theorem State.xresRun_keeps {s0 s : State} {dev} (h : Keeps kq s0 s) : Keeps kq s0 (State.xresRun s dev) := by
  unfold State.xresRun
  repeat' (first | with_reducible assumption | with_reducible refine Keeps.ite ?_ ?_ | with_reducible apply State.setFld_keeps | with_reducible apply State.refreshReplace_keeps | with_reducible apply State.raiseFree_keeps)

theorem State.calRunComplete_keeps {s0 s : State} {k comps xres} (h : Keeps kq s0 s) : Keeps kq s0 (State.calRunComplete s k comps xres) := by
  unfold State.calRunComplete
  repeat' (first | with_reducible assumption | with_reducible refine Keeps.ite ?_ ?_ | ((fail_if_no_progress (extract_lets +onlyGivenNames y)); (have z_ := y; guard_hyp z_ : State; clear z_); refine Keeps.cut (kq := kq) (s0 := s0) y ?_ ?_; (on_goal 1 => subst y); (on_goal 2 => (intro hy; try clear_value y))) | ((fail_if_no_progress (extract_lets +onlyGivenNames y)); clear_value y) | with_reducible apply State.addFld_keeps | with_reducible apply State.xresRun_keeps | with_reducible apply State.calEnd_keeps | with_reducible apply State.putCal_keeps | with_reducible apply State.calAgree_keeps | with_reducible apply State.calDispute_keeps | split)

theorem State.putRecord_keeps {s0 s : State} {i r} (h : Keeps kq s0 s) : Keeps kq s0 (State.putRecord s i r) := by
  unfold State.putRecord
  repeat' (first | with_reducible assumption | with_reducible refine Keeps.ite ?_ ?_ | ((fail_if_no_progress (extract_lets +onlyGivenNames y)); (have z_ := y; guard_hyp z_ : State; clear z_); refine Keeps.cut (kq := kq) (s0 := s0) y ?_ ?_; (on_goal 1 => subst y); (on_goal 2 => (intro hy; try clear_value y))) | ((fail_if_no_progress (extract_lets +onlyGivenNames y)); clear_value y) | with_reducible apply State.setFld_keeps | fail_if_no_progress (with_reducible apply Keeps.upd))

theorem State.putCodeCfg_keeps {s0 s : State} {code c} (h : Keeps kq s0 s) : Keeps kq s0 (State.putCodeCfg s code c) := by
  unfold State.putCodeCfg
  repeat' (first | with_reducible assumption | ((fail_if_no_progress (extract_lets +onlyGivenNames y)); clear_value y) | fail_if_no_progress (with_reducible apply Keeps.upd))

theorem State.clearNotify_keeps {s0 s : State} {is} (h : Keeps kq s0 s) : Keeps kq s0 (State.clearNotify s is) := by
  unfold State.clearNotify
  repeat' (first | with_reducible assumption | ((fail_if_no_progress (extract_lets +onlyGivenNames y)); (have z_ := y; guard_hyp z_ : State; clear z_); refine Keeps.cut (kq := kq) (s0 := s0) y ?_ ?_; (on_goal 1 => subst y); (on_goal 2 => (intro hy; try clear_value y))) | ((fail_if_no_progress (extract_lets +onlyGivenNames y)); clear_value y) | with_reducible apply State.putRecord_keeps | with_reducible apply State.putCodeCfg_keeps | (with_reducible refine Keeps.foldl ?_ ?_; on_goal 2 => (intro t x ht; beta_reduce)))

theorem State.columnsDue_keeps {s0 s : State} {d} (h : Keeps kq s0 s) : Keeps kq s0 (State.columnsDue s d) := by
  unfold State.columnsDue
  repeat' (first | with_reducible assumption | with_reducible refine Keeps.ite ?_ ?_ | ((fail_if_no_progress (extract_lets +onlyGivenNames y)); clear_value y) | fail_if_no_progress (with_reducible apply Keeps.upd))

theorem State.configCode_keeps {s0 s : State} {p code} (h : Keeps kq s0 s) : Keeps kq s0 (State.configCode s p code) := by
  unfold State.configCode
  repeat' (first | with_reducible assumption | with_reducible refine Keeps.ite ?_ ?_ | ((fail_if_no_progress (extract_lets +onlyGivenNames y)); (have z_ := y; guard_hyp z_ : State; clear z_); refine Keeps.cut (kq := kq) (s0 := s0) y ?_ ?_; (on_goal 1 => subst y); (on_goal 2 => (intro hy; try clear_value y))) | ((fail_if_no_progress (extract_lets +onlyGivenNames y)); clear_value y) | with_reducible apply State.putCodeCfg_keeps | with_reducible apply State.putRecord_keeps | split)

theorem State.promote_keeps {s0 s : State} {i e} (h : Keeps kq s0 s) : Keeps kq s0 (State.promote s i e) := by
  unfold State.promote
  repeat' (first | with_reducible assumption | with_reducible refine Keeps.ite ?_ ?_ | ((fail_if_no_progress (extract_lets +onlyGivenNames y)); clear_value y) | with_reducible apply State.engFault_keeps | with_reducible apply State.setFld_keeps | with_reducible apply State.coreBlockFault_keeps | fail_if_no_progress (with_reducible apply Keeps.upd) | split)

theorem State.countFault_keeps {s0 s : State} {e} (h : Keeps kq s0 s) : Keeps kq s0 (State.countFault s e) := by
  unfold State.countFault
  repeat' (first | with_reducible assumption | with_reducible refine Keeps.ite ?_ ?_ | ((fail_if_no_progress (extract_lets +onlyGivenNames y)); clear_value y) | with_reducible apply State.promote_keeps | fail_if_no_progress (with_reducible apply Keeps.upd) | split)

theorem State.crossCheck_keeps {s0 s : State} {i v} (h : Keeps kq s0 s) : Keeps kq s0 (State.crossCheck s i v) := by
  unfold State.crossCheck
  repeat' (first | with_reducible assumption | with_reducible refine Keeps.ite ?_ ?_ | ((fail_if_no_progress (extract_lets +onlyGivenNames y)); (have z_ := y; guard_hyp z_ : State; clear z_); refine Keeps.cut (kq := kq) (s0 := s0) y ?_ ?_; (on_goal 1 => subst y); (on_goal 2 => (intro hy; try clear_value y))) | ((fail_if_no_progress (extract_lets +onlyGivenNames y)); refine Keeps.fn y ?_; subst y; beta_reduce) | ((fail_if_no_progress (extract_lets +onlyGivenNames y)); clear_value y) | with_reducible apply State.raise_keeps | with_reducible apply State.setFld_keeps | fail_if_no_progress (with_reducible apply Keeps.upd) | split)

theorem State.crossChecks_keeps {s0 s : State} {temps} (h : Keeps kq s0 s) : Keeps kq s0 (State.crossChecks s temps) := by
  unfold State.crossChecks
  repeat' (first | with_reducible assumption | ((fail_if_no_progress (extract_lets +onlyGivenNames y)); clear_value y) | with_reducible apply State.crossCheck_keeps | (with_reducible refine Keeps.foldl ?_ ?_; on_goal 2 => (intro t x ht; beta_reduce)))

theorem State.putHist_keeps {s0 s : State} {d h_} (h : Keeps kq s0 s) : Keeps kq s0 (State.putHist s d h_) := by
  unfold State.putHist
  repeat' (first | with_reducible assumption | ((fail_if_no_progress (extract_lets +onlyGivenNames y)); clear_value y) | fail_if_no_progress (with_reducible apply Keeps.upd))

theorem State.setRate16_keeps {s0 s : State} {d sum} (h : Keeps kq s0 s) : Keeps kq s0 (State.setRate16 s d sum) := by
  unfold State.setRate16
  repeat' (first | with_reducible assumption | ((fail_if_no_progress (extract_lets +onlyGivenNames y)); clear_value y) | with_reducible apply State.fresh_keeps | with_reducible apply State.setFld_keeps | split)

theorem State.rateDomain_keeps {s0 s : State} {d h_} (h : Keeps kq s0 s) : Keeps kq s0 (State.rateDomain s d h_) := by
  unfold State.rateDomain
  repeat' (first | with_reducible assumption | with_reducible refine Keeps.ite ?_ ?_ | with_reducible apply State.setRate16_keeps | with_reducible apply State.putHist_keeps | with_reducible apply State.raiseFree_keeps | with_reducible apply State.setFld_keeps)

theorem State.setBand_keeps {s0 s : State} {d} (h : Keeps kq s0 s) : Keeps kq s0 (State.setBand s d) := by
  unfold State.setBand
  repeat' (first | with_reducible assumption | with_reducible refine Keeps.ite ?_ ?_ | with_reducible apply State.columnsDue_keeps | with_reducible apply State.raise_keeps | with_reducible apply State.setFld_keeps)

theorem State.firstSlots_keeps {s0 s : State} {d} (h : Keeps kq s0 s) : Keeps kq s0 (State.firstSlots s d) := by
  unfold State.firstSlots
  repeat' (first | with_reducible assumption | with_reducible refine Keeps.ite ?_ ?_ | ((fail_if_no_progress (extract_lets +onlyGivenNames y)); (have z_ := y; guard_hyp z_ : State; clear z_); refine Keeps.cut (kq := kq) (s0 := s0) y ?_ ?_; (on_goal 1 => subst y); (on_goal 2 => (intro hy; try clear_value y))) | ((fail_if_no_progress (extract_lets +onlyGivenNames y)); (have z_ := y; guard_hyp z_ : State × _; clear z_); refine Keeps.cut1 (kq := kq) (s0 := s0) y ?_ ?_; (on_goal 1 => subst y); (on_goal 2 => (intro hy; try clear_value y))) | ((fail_if_no_progress (extract_lets +onlyGivenNames y)); (have z_ := y; guard_hyp z_ : _ × State; clear z_); refine Keeps.cut2 (kq := kq) (s0 := s0) y ?_ ?_; (on_goal 1 => subst y); (on_goal 2 => (intro hy; try clear_value y))) | ((fail_if_no_progress (extract_lets +onlyGivenNames y)); refine Keeps.fn y ?_; subst y; beta_reduce) | ((fail_if_no_progress (extract_lets +onlyGivenNames y)); clear_value y) | ((fail_if_no_progress (extract_lets +onlyGivenNames y)); subst y) | with_reducible apply State.refreshCap_keeps | with_reducible apply State.switchSlot_keeps | with_reducible apply Done.plain_keeps | with_reducible apply Done.bad_keeps | fail_if_no_progress (with_reducible apply Keeps.upd) | (with_reducible refine Keeps.foldl ?_ ?_; on_goal 2 => (intro t x ht; beta_reduce)) | (with_reducible refine Keeps.foldl2 ?_ ?_; on_goal 2 => (intro t x ht; beta_reduce)) | with_reducible apply KeepsO.next | fail_if_no_progress (with_reducible apply Keeps.updFree) | (with_reducible refine Keeps.foldl1 ?_ ?_; on_goal 2 => (intro t x ht; beta_reduce)) | (with_reducible apply Keeps.fst; with_reducible assumption) | refine Keeps.ite ?_ ?_ | split | (intro a; intros; beta_reduce) | (with_reducible apply Keeps.snd; with_reducible assumption))

theorem State.domainRound_keeps {s0 s : State} {temps first d} (h : Keeps kq s0 s) : Keeps kq s0 (State.domainRound s temps first d) := by
  unfold State.domainRound
  repeat' (first | with_reducible assumption | with_reducible refine Keeps.ite ?_ ?_ | ((fail_if_no_progress (extract_lets +onlyGivenNames y)); (have z_ := y; guard_hyp z_ : State; clear z_); refine Keeps.cut (kq := kq) (s0 := s0) y ?_ ?_; (on_goal 1 => subst y); (on_goal 2 => (intro hy; try clear_value y))) | ((fail_if_no_progress (extract_lets +onlyGivenNames y)); (have z_ := y; guard_hyp z_ : State × _; clear z_); refine Keeps.cut1 (kq := kq) (s0 := s0) y ?_ ?_; (on_goal 1 => subst y); (on_goal 2 => (intro hy; try clear_value y))) | ((fail_if_no_progress (extract_lets +onlyGivenNames y)); (have z_ := y; guard_hyp z_ : _ × State; clear z_); refine Keeps.cut2 (kq := kq) (s0 := s0) y ?_ ?_; (on_goal 1 => subst y); (on_goal 2 => (intro hy; try clear_value y))) | ((fail_if_no_progress (extract_lets +onlyGivenNames y)); refine Keeps.fn y ?_; subst y; beta_reduce) | ((fail_if_no_progress (extract_lets +onlyGivenNames y)); clear_value y) | ((fail_if_no_progress (extract_lets +onlyGivenNames y)); subst y) | with_reducible apply State.raiseFree_keeps | with_reducible apply State.setFld_keeps | with_reducible apply State.putHist_keeps | with_reducible apply State.rateDomain_keeps | with_reducible apply State.setBand_keeps | with_reducible apply State.firstSlots_keeps | with_reducible apply Done.plain_keeps | with_reducible apply Done.bad_keeps | fail_if_no_progress (with_reducible apply Keeps.upd) | (with_reducible refine Keeps.foldl ?_ ?_; on_goal 2 => (intro t x ht; beta_reduce)) | (with_reducible refine Keeps.foldl2 ?_ ?_; on_goal 2 => (intro t x ht; beta_reduce)) | with_reducible apply KeepsO.next | fail_if_no_progress (with_reducible apply Keeps.updFree) | (with_reducible refine Keeps.foldl1 ?_ ?_; on_goal 2 => (intro t x ht; beta_reduce)) | (with_reducible apply Keeps.fst; with_reducible assumption) | refine Keeps.ite ?_ ?_ | split | (intro a; intros; beta_reduce) | (with_reducible apply Keeps.snd; with_reducible assumption))

theorem State.grantEvent_keeps {s0 s : State} (h : Keeps kq s0 s) : Keeps kq s0 (State.grantEvent s) := by
  unfold State.grantEvent
  repeat' (first | with_reducible assumption | with_reducible refine Keeps.ite ?_ ?_ | ((fail_if_no_progress (extract_lets +onlyGivenNames y)); (have z_ := y; guard_hyp z_ : State; clear z_); refine Keeps.cut (kq := kq) (s0 := s0) y ?_ ?_; (on_goal 1 => subst y); (on_goal 2 => (intro hy; try clear_value y))) | ((fail_if_no_progress (extract_lets +onlyGivenNames y)); clear_value y) | with_reducible apply State.recEventTrigger_keeps | with_reducible apply State.numberAnchors_keeps | fail_if_no_progress (with_reducible apply Keeps.upd) | split)

theorem State.tempTriggers_keeps {s0 s : State} (h : Keeps kq s0 s) : Keeps kq s0 (State.tempTriggers s) := by
  unfold State.tempTriggers
  repeat' (first | with_reducible assumption | with_reducible refine Keeps.ite ?_ ?_ | ((fail_if_no_progress (extract_lets +onlyGivenNames y)); (have z_ := y; guard_hyp z_ : State; clear z_); refine Keeps.cut (kq := kq) (s0 := s0) y ?_ ?_; (on_goal 1 => subst y); (on_goal 2 => (intro hy; try clear_value y))) | with_reducible apply State.calDue_keeps | with_reducible apply State.refreshCal_keeps | (with_reducible refine Keeps.foldl ?_ ?_; on_goal 2 => (intro t x ht; beta_reduce)))

theorem State.storeTemps_keeps {s0 s : State} {temps} (h : Keeps kq s0 s) : Keeps kq s0 (State.storeTemps s temps) := by
  unfold State.storeTemps
  repeat' (first | with_reducible assumption | with_reducible refine Keeps.ite ?_ ?_ | with_reducible apply State.setFld_keeps | (with_reducible refine Keeps.foldl ?_ ?_; on_goal 2 => (intro t x ht; beta_reduce)))

theorem State.thermalLimits_keeps {s0 s : State} {temps} (h : Keeps kq s0 s) : Keeps kq s0 (State.thermalLimits s temps) := by
  unfold State.thermalLimits
  repeat' (first | with_reducible assumption | with_reducible refine Keeps.ite ?_ ?_ | ((fail_if_no_progress (extract_lets +onlyGivenNames y)); clear_value y) | with_reducible apply State.raiseFree_keeps | fail_if_no_progress (with_reducible apply Keeps.upd) | split)

theorem State.supplyRound_keeps {s0 s : State} {i v} (h : Keeps kq s0 s) : Keeps kq s0 (State.supplyRound s i v) := by
  unfold State.supplyRound
  repeat' (first | with_reducible assumption | with_reducible refine Keeps.ite ?_ ?_ | ((fail_if_no_progress (extract_lets +onlyGivenNames y)); clear_value y) | with_reducible apply State.setFld_keeps | with_reducible apply State.raise_keeps | fail_if_no_progress (with_reducible apply Keeps.upd))

theorem State.round_keeps {s0 s : State} {temps supplies} (h : Keeps kq s0 s) : Keeps kq s0 (State.round s temps supplies) := by
  unfold State.round
  repeat' (first | with_reducible assumption | ((fail_if_no_progress (extract_lets +onlyGivenNames y)); (have z_ := y; guard_hyp z_ : State; clear z_); refine Keeps.cut (kq := kq) (s0 := s0) y ?_ ?_; (on_goal 1 => subst y); (on_goal 2 => (intro hy; try clear_value y))) | ((fail_if_no_progress (extract_lets +onlyGivenNames y)); clear_value y) | with_reducible apply State.crossChecks_keeps | with_reducible apply State.storeTemps_keeps | with_reducible apply State.setFld_keeps | with_reducible apply State.domainRound_keeps | with_reducible apply State.thermalLimits_keeps | with_reducible apply State.supplyRound_keeps | (with_reducible refine Keeps.foldl ?_ ?_; on_goal 2 => (intro t x ht; beta_reduce)))

theorem State.hkRound_keeps {s0 s : State} {temps supplies} (h : Keeps kq s0 s) : Keeps kq s0 (State.hkRound s temps supplies) := by
  unfold State.hkRound
  repeat' (first | with_reducible assumption | with_reducible apply State.tempTriggers_keeps | with_reducible apply State.round_keeps)

theorem State.readNotify_keeps {s0 s : State} (h : Keeps kq s0 s) : Keeps kq s0 (State.readNotify s).2 := by
  unfold State.readNotify
  repeat' (first | with_reducible assumption | ((fail_if_no_progress (extract_lets +onlyGivenNames y)); clear_value y) | fail_if_no_progress (with_reducible apply Keeps.upd) | split)

theorem State.readEvrWin_keeps {s0 s : State} (h : Keeps kq s0 s) : Keeps kq s0 (State.readEvrWin s).2 := by
  unfold State.readEvrWin
  repeat' (first | with_reducible assumption | ((fail_if_no_progress (extract_lets +onlyGivenNames y)); (have z_ := y; guard_hyp z_ : State; clear z_); refine Keeps.cut (kq := kq) (s0 := s0) y ?_ ?_; (on_goal 1 => subst y); (on_goal 2 => (intro hy; try clear_value y))) | ((fail_if_no_progress (extract_lets +onlyGivenNames y)); clear_value y) | with_reducible apply State.setFld_keeps)

theorem State.readHkSeq_keeps {s0 s : State} (h : Keeps kq s0 s) : Keeps kq s0 (State.readHkSeq s).2 := by
  unfold State.readHkSeq
  repeat' (first | with_reducible assumption | ((fail_if_no_progress (extract_lets +onlyGivenNames y)); clear_value y) | with_reducible apply State.setFld_keeps)

theorem State.readHkFifo_keeps {s0 s : State} (h : Keeps kq s0 s) : Keeps kq s0 (State.readHkFifo s).2 := by
  unfold State.readHkFifo
  repeat' (first | with_reducible assumption | with_reducible apply State.putFifo_keeps | split)

theorem State.readCalRes_keeps {s0 s : State} (h : Keeps kq s0 s) : Keeps kq s0 (State.readCalRes s).2 := by
  unfold State.readCalRes
  repeat' (first | with_reducible assumption | ((fail_if_no_progress (extract_lets +onlyGivenNames y)); clear_value y) | with_reducible apply State.setFld_keeps)

theorem State.takeRecord_keeps {s0 s : State} {code sev} (h : Keeps kq s0 s) : Keeps kq s0 (State.takeRecord s code sev).2 := by
  unfold State.takeRecord
  repeat' (first | with_reducible assumption | with_reducible refine Keeps.ite ?_ ?_ | ((fail_if_no_progress (extract_lets +onlyGivenNames y)); (have z_ := y; guard_hyp z_ : State; clear z_); refine Keeps.cut (kq := kq) (s0 := s0) y ?_ ?_; (on_goal 1 => subst y); (on_goal 2 => (intro hy; try clear_value y))) | ((fail_if_no_progress (extract_lets +onlyGivenNames y)); clear_value y) | with_reducible apply State.putCodeCfg_keeps | with_reducible apply State.putRecord_keeps | split)

theorem State.takeToken_keeps {s0 s : State} {code} (h : Keeps kq s0 s) : Keeps kq s0 (State.takeToken s code).2 := by
  unfold State.takeToken
  repeat' (first | with_reducible assumption | ((fail_if_no_progress (extract_lets +onlyGivenNames y)); clear_value y) | with_reducible apply State.putCodeCfg_keeps | split)

theorem State.logEvent_keeps {s0 s : State} {e seq} (h : Keeps kq s0 s) : Keeps kq s0 (State.logEvent s e seq) := by
  unfold State.logEvent
  repeat' (first | with_reducible assumption | with_reducible refine Keeps.ite ?_ ?_ | with_reducible apply State.takeRecord_keeps | with_reducible apply State.addFld_keeps | with_reducible apply State.takeToken_keeps | with_reducible apply State.putRecord_keeps | with_reducible apply State.putCodeCfg_keeps | split | (with_reducible apply Keeps.snd; with_reducible assumption))

theorem State.nextEntry_keeps {s0 s : State} (h : Keeps kq s0 s) : Keeps kq s0 (State.nextEntry s) := by
  unfold State.nextEntry
  repeat' (first | with_reducible assumption | ((fail_if_no_progress (extract_lets +onlyGivenNames y)); (have z_ := y; guard_hyp z_ : State; clear z_); refine Keeps.cut (kq := kq) (s0 := s0) y ?_ ?_; (on_goal 1 => subst y); (on_goal 2 => (intro hy; try clear_value y))) | ((fail_if_no_progress (extract_lets +onlyGivenNames y)); clear_value y) | with_reducible apply State.setFld_keeps | fail_if_no_progress (with_reducible apply Keeps.upd))

theorem State.noteOpen_keeps {s0 s : State} {ch} (h : Keeps kq s0 s) : Keeps kq s0 (State.noteOpen s ch) := by
  unfold State.noteOpen
  repeat' (first | with_reducible assumption | with_reducible refine Keeps.ite ?_ ?_ | with_reducible apply State.raise_keeps | with_reducible apply State.setFld_keeps)

theorem State.notifyPush_keeps {s0 s : State} {code} (h : Keeps kq s0 s) : Keeps kq s0 (State.notifyPush s code) := by
  unfold State.notifyPush
  repeat' (first | with_reducible assumption | with_reducible refine Keeps.ite ?_ ?_ | ((fail_if_no_progress (extract_lets +onlyGivenNames y)); (have z_ := y; guard_hyp z_ : State; clear z_); refine Keeps.cut (kq := kq) (s0 := s0) y ?_ ?_; (on_goal 1 => subst y); (on_goal 2 => (intro hy; try clear_value y))) | ((fail_if_no_progress (extract_lets +onlyGivenNames y)); clear_value y) | with_reducible apply State.putCodeCfg_keeps | with_reducible apply State.setEvrIrq_keeps | with_reducible apply State.addFld_keeps | fail_if_no_progress (with_reducible apply Keeps.upd))

theorem State.retirePromoted_keeps {s0 s : State} (h : Keeps kq s0 s) : Keeps kq s0 (State.retirePromoted s) := by
  unfold State.retirePromoted
  repeat' (first | with_reducible assumption | with_reducible refine Keeps.ite ?_ ?_ | ((fail_if_no_progress (extract_lets +onlyGivenNames y)); (have z_ := y; guard_hyp z_ : State; clear z_); refine Keeps.cut (kq := kq) (s0 := s0) y ?_ ?_; (on_goal 1 => subst y); (on_goal 2 => (intro hy; try clear_value y))) | ((fail_if_no_progress (extract_lets +onlyGivenNames y)); clear_value y) | with_reducible apply State.refreshReplace_keeps | with_reducible apply State.retireUnit_keeps | fail_if_no_progress (with_reducible apply Keeps.upd) | (with_reducible refine Keeps.foldl ?_ ?_; on_goal 2 => (intro t x ht; beta_reduce)))

theorem State.pushResult_keeps {s0 s : State} {ch value isOpen} (h : Keeps kq s0 s) : Keeps kq s0 (State.pushResult s ch value isOpen) := by
  unfold State.pushResult
  repeat' (first | with_reducible assumption | with_reducible refine Keeps.ite ?_ ?_ | ((fail_if_no_progress (extract_lets +onlyGivenNames y)); clear_value y) | with_reducible apply State.putFifo_keeps | with_reducible apply State.addFld_keeps | fail_if_no_progress (with_reducible apply Keeps.upd))

theorem State.recordEvent_keeps {s0 s : State} (h : Keeps kq s0 s) : Keeps kq s0 (State.recordEvent s) := by
  unfold State.recordEvent
  repeat' (first | with_reducible assumption | ((fail_if_no_progress (extract_lets +onlyGivenNames y)); (have z_ := y; guard_hyp z_ : State; clear z_); refine Keeps.cut (kq := kq) (s0 := s0) y ?_ ?_; (on_goal 1 => subst y); (on_goal 2 => (intro hy; try clear_value y))) | ((fail_if_no_progress (extract_lets +onlyGivenNames y)); clear_value y) | with_reducible apply State.countFault_keeps | with_reducible apply State.logEvent_keeps | fail_if_no_progress (with_reducible apply Keeps.upd) | split)

theorem State.tableResult_keeps {s0 s : State} {value} (h : Keeps kq s0 s) : Keeps kq s0 (State.tableResult s value) := by
  unfold State.tableResult
  repeat' (first | with_reducible assumption | with_reducible refine Keeps.ite ?_ ?_ | ((fail_if_no_progress (extract_lets +onlyGivenNames y)); clear_value y) | with_reducible apply State.pushResult_keeps | with_reducible apply State.noteOpen_keeps | with_reducible apply State.nextEntry_keeps | fail_if_no_progress (with_reducible apply Keeps.upd))

theorem State.takeTable_keeps {s0 s : State} (h : Keeps kq s0 s) : Keeps kq s0 (State.takeTable s) := by
  unfold State.takeTable
  repeat' (first | with_reducible assumption | with_reducible refine Keeps.ite ?_ ?_ | ((fail_if_no_progress (extract_lets +onlyGivenNames y)); (have z_ := y; guard_hyp z_ : State; clear z_); refine Keeps.cut (kq := kq) (s0 := s0) y ?_ ?_; (on_goal 1 => subst y); (on_goal 2 => (intro hy; try clear_value y))) | ((fail_if_no_progress (extract_lets +onlyGivenNames y)); clear_value y) | with_reducible apply State.setFld_keeps | with_reducible apply State.refreshTable_keeps | with_reducible apply State.putFifo_keeps | fail_if_no_progress (with_reducible apply Keeps.upd) | split)

theorem State.urgentDone_keeps {s0 s : State} {value} (h : Keeps kq s0 s) : Keeps kq s0 (State.urgentDone s value) := by
  unfold State.urgentDone
  repeat' (first | with_reducible assumption | with_reducible refine Keeps.ite ?_ ?_ | with_reducible apply State.setFld_keeps | with_reducible apply State.fresh_keeps | with_reducible apply State.noteOpen_keeps | split)

theorem execCalAttemptStart_keeps {s0 s : State} {key} (h : Keeps kq s0 s) : KeepsO kq s0 (execCalAttemptStart key s) := by
  unfold execCalAttemptStart
  repeat' (first | with_reducible assumption | with_reducible refine Keeps.ite ?_ ?_ | ((fail_if_no_progress (extract_lets +onlyGivenNames y)); clear_value y) | with_reducible apply State.calStart_keeps | with_reducible apply KeepsO.next)

theorem execCalHoldoffExpiry_keeps {s0 s : State} {key} (h : Keeps kq s0 s) : KeepsO kq s0 (execCalHoldoffExpiry key s) := by
  unfold execCalHoldoffExpiry
  repeat' (first | with_reducible assumption | with_reducible refine Keeps.ite ?_ ?_ | ((fail_if_no_progress (extract_lets +onlyGivenNames y)); clear_value y) | with_reducible apply State.refreshCal_keeps | with_reducible apply State.putCal_keeps | with_reducible apply KeepsO.next)

theorem execCalRun_keeps {s0 s : State} {tag} (h : Keeps kq s0 s) : KeepsO kq s0 (execCalRun tag s) := by
  unfold execCalRun
  repeat' (first | with_reducible assumption | with_reducible refine Keeps.ite ?_ ?_ | ((fail_if_no_progress (extract_lets +onlyGivenNames y)); (have z_ := y; guard_hyp z_ : State; clear z_); refine Keeps.cut (kq := kq) (s0 := s0) y ?_ ?_; (on_goal 1 => subst y); (on_goal 2 => (intro hy; try clear_value y))) | ((fail_if_no_progress (extract_lets +onlyGivenNames y)); clear_value y) | ((fail_if_no_progress (extract_lets +onlyGivenNames y)); subst y) | with_reducible apply State.performStart_keeps | with_reducible apply State.putCal_keeps | with_reducible apply State.calStart_keeps | with_reducible apply State.refreshCal_keeps | with_reducible apply State.settleCal_keeps | fail_if_no_progress (with_reducible apply Keeps.upd) | (with_reducible refine Keeps.foldl ?_ ?_; on_goal 2 => (intro t x ht; beta_reduce)) | with_reducible apply KeepsO.next | (intro a; intros; beta_reduce))

theorem execCalRunTimeout_keeps {s0 s : State} {tag} (h : Keeps kq s0 s) : KeepsO kq s0 (execCalRunTimeout tag s) := by
  unfold execCalRunTimeout
  repeat' (first | with_reducible assumption | with_reducible refine Keeps.ite ?_ ?_ | ((fail_if_no_progress (extract_lets +onlyGivenNames y)); clear_value y) | with_reducible apply State.finishNow_keeps | fail_if_no_progress (with_reducible apply Keeps.upd) | with_reducible apply KeepsO.next | split)

theorem execCalSetPolicy_keeps {s0 s : State} {tag} (h : Keeps kq s0 s) : KeepsO kq s0 (execCalSetPolicy tag s) := by
  unfold execCalSetPolicy
  repeat' (first | with_reducible assumption | ((fail_if_no_progress (extract_lets +onlyGivenNames y)); (have z_ := y; guard_hyp z_ : State; clear z_); refine Keeps.cut (kq := kq) (s0 := s0) y ?_ ?_; (on_goal 1 => subst y); (on_goal 2 => (intro hy; try clear_value y))) | ((fail_if_no_progress (extract_lets +onlyGivenNames y)); clear_value y) | with_reducible apply State.performStart_keeps | with_reducible apply State.setFld_keeps | with_reducible apply State.finishNow_keeps | with_reducible apply KeepsO.next | (intro a; intros; beta_reduce))

theorem execCalStarved_keeps {s0 s : State} {key} (h : Keeps kq s0 s) : KeepsO kq s0 (execCalStarved key s) := by
  unfold execCalStarved
  repeat' (first | with_reducible assumption | with_reducible refine Keeps.ite ?_ ?_ | ((fail_if_no_progress (extract_lets +onlyGivenNames y)); clear_value y) | with_reducible apply State.raise_keeps | with_reducible apply State.putCal_keeps | with_reducible apply KeepsO.next)

theorem execEvConfigCode_keeps {s0 s : State} {tag} (h : Keeps kq s0 s) : KeepsO kq s0 (execEvConfigCode tag s) := by
  unfold execEvConfigCode
  repeat' (first | with_reducible assumption | ((fail_if_no_progress (extract_lets +onlyGivenNames y)); (have z_ := y; guard_hyp z_ : State; clear z_); refine Keeps.cut (kq := kq) (s0 := s0) y ?_ ?_; (on_goal 1 => subst y); (on_goal 2 => (intro hy; try clear_value y))) | ((fail_if_no_progress (extract_lets +onlyGivenNames y)); clear_value y) | with_reducible apply State.performStart_keeps | with_reducible apply State.configCode_keeps | with_reducible apply State.finishNow_keeps | (with_reducible refine Keeps.foldl ?_ ?_; on_goal 2 => (intro t x ht; beta_reduce)) | with_reducible apply KeepsO.next | (intro a; intros; beta_reduce))

theorem execEvRead_keeps {s0 s : State} {tag} (h : Keeps kq s0 s) : KeepsO kq s0 (execEvRead tag s) := by
  unfold execEvRead
  repeat' (first | with_reducible assumption | with_reducible refine Keeps.ite ?_ ?_ | ((fail_if_no_progress (extract_lets +onlyGivenNames y)); (have z_ := y; guard_hyp z_ : State; clear z_); refine Keeps.cut (kq := kq) (s0 := s0) y ?_ ?_; (on_goal 1 => subst y); (on_goal 2 => (intro hy; try clear_value y))) | ((fail_if_no_progress (extract_lets +onlyGivenNames y)); clear_value y) | with_reducible apply State.performStart_keeps | with_reducible apply State.clearNotify_keeps | with_reducible apply State.finishNow_keeps | with_reducible apply KeepsO.next | (intro a; intros; beta_reduce))

theorem execEventArbitration_keeps {s0 s : State} {src} (h : Keeps kq s0 s) : KeepsO kq s0 (execEventArbitration src s) := by
  unfold execEventArbitration
  repeat' (first | with_reducible assumption | with_reducible refine Keeps.ite ?_ ?_ | with_reducible refine KeepsO.ite ?_ ?_ | ((fail_if_no_progress (extract_lets +onlyGivenNames y)); (have z_ := y; guard_hyp z_ : State; clear z_); refine Keeps.cut (kq := kq) (s0 := s0) y ?_ ?_; (on_goal 1 => subst y); (on_goal 2 => (intro hy; try clear_value y))) | ((fail_if_no_progress (extract_lets +onlyGivenNames y)); (have z_ := y; guard_hyp z_ : State × _; clear z_); refine Keeps.cut1 (kq := kq) (s0 := s0) y ?_ ?_; (on_goal 1 => subst y); (on_goal 2 => (intro hy; try clear_value y))) | ((fail_if_no_progress (extract_lets +onlyGivenNames y)); (have z_ := y; guard_hyp z_ : _ × State; clear z_); refine Keeps.cut2 (kq := kq) (s0 := s0) y ?_ ?_; (on_goal 1 => subst y); (on_goal 2 => (intro hy; try clear_value y))) | ((fail_if_no_progress (extract_lets +onlyGivenNames y)); refine Keeps.fn y ?_; subst y; beta_reduce) | ((fail_if_no_progress (extract_lets +onlyGivenNames y)); clear_value y) | ((fail_if_no_progress (extract_lets +onlyGivenNames y)); subst y) | with_reducible apply State.grantEvent_keeps | with_reducible apply Done.plain_keeps | with_reducible apply Done.bad_keeps | fail_if_no_progress (with_reducible apply Keeps.upd) | (with_reducible refine Keeps.foldl ?_ ?_; on_goal 2 => (intro t x ht; beta_reduce)) | (with_reducible refine Keeps.foldl2 ?_ ?_; on_goal 2 => (intro t x ht; beta_reduce)) | with_reducible apply KeepsO.next | fail_if_no_progress (with_reducible apply Keeps.updFree) | (with_reducible refine Keeps.foldl1 ?_ ?_; on_goal 2 => (intro t x ht; beta_reduce)) | (with_reducible apply Keeps.fst; with_reducible assumption) | refine Keeps.ite ?_ ?_ | split | (intro a; intros; beta_reduce) | (with_reducible apply Keeps.snd; with_reducible assumption))

theorem execEventRecord_keeps {s0 s : State} (h : Keeps kq s0 s) : KeepsO kq s0 (execEventRecord s) := by
  unfold execEventRecord
  repeat' (first | with_reducible assumption | with_reducible apply State.recordEvent_keeps | with_reducible apply KeepsO.next)

theorem execHkLoadSequence_keeps {s0 s : State} {tag} (h : Keeps kq s0 s) : KeepsO kq s0 (execHkLoadSequence tag s) := by
  unfold execHkLoadSequence
  repeat' (first | with_reducible assumption | with_reducible refine Keeps.ite ?_ ?_ | ((fail_if_no_progress (extract_lets +onlyGivenNames y)); (have z_ := y; guard_hyp z_ : State; clear z_); refine Keeps.cut (kq := kq) (s0 := s0) y ?_ ?_; (on_goal 1 => subst y); (on_goal 2 => (intro hy; try clear_value y))) | ((fail_if_no_progress (extract_lets +onlyGivenNames y)); clear_value y) | with_reducible apply State.performStart_keeps | with_reducible apply State.takeTable_keeps | with_reducible apply State.finishNow_keeps | fail_if_no_progress (with_reducible apply Keeps.upd) | with_reducible apply KeepsO.next | (intro a; intros; beta_reduce))

theorem execNotifyPush_keeps {s0 s : State} {code} (h : Keeps kq s0 s) : KeepsO kq s0 (execNotifyPush code s) := by
  unfold execNotifyPush
  repeat' (first | with_reducible assumption | with_reducible apply State.notifyPush_keeps | with_reducible apply KeepsO.next)

theorem execSnowdropConversion_keeps {s0 s : State} {value} (h : Keeps kq s0 s) : KeepsO kq s0 (execSnowdropConversion value s) := by
  unfold execSnowdropConversion
  repeat' (first | with_reducible assumption | with_reducible refine Keeps.ite ?_ ?_ | ((fail_if_no_progress (extract_lets +onlyGivenNames y)); (have z_ := y; guard_hyp z_ : State; clear z_); refine Keeps.cut (kq := kq) (s0 := s0) y ?_ ?_; (on_goal 1 => subst y); (on_goal 2 => (intro hy; try clear_value y))) | with_reducible apply State.urgentDone_keeps | with_reducible apply State.tableResult_keeps | with_reducible apply State.takeTable_keeps | with_reducible apply KeepsO.next)

end Sys2Proof.Machine
end

