-- ==== Sys2Proof/Laws/KeepsServices.lean ====
section
/-!
SUPPORT. Sys2Proof/Laws/KeepsServices.lean: what every state function leaves of the model's bookkeeping (`Keeps`): the mailbox, security, power, the register interface, the tick and the step.
-/
set_option linter.unusedTactic false
set_option linter.tactic.unusedName false
set_option linter.unreachableTactic false
set_option linter.unusedVariables false
namespace Sys2Proof.Machine

variable {kq : Bool}

theorem State.refuse_keeps {s0 s : State} {c st} (h : Keeps kq s0 s) : Keeps kq s0 (State.refuse s c st) := by
  unfold State.refuse
  repeat' (first | with_reducible assumption | with_reducible refine Keeps.ite ?_ ?_ | with_reducible apply State.sendUnstored_keeps | with_reducible apply State.finishNow_keeps)

theorem State.queueCmd_keeps {s0 s : State} {c} (h : Keeps kq s0 s) : Keeps kq s0 (State.queueCmd s c) := by
  unfold State.queueCmd
  repeat' (first | with_reducible assumption | ((fail_if_no_progress (extract_lets +onlyGivenNames y)); clear_value y) | with_reducible apply State.putPrivi_keeps)

theorem State.putGroups_keeps {s0 s : State} {gs} (h : Keeps kq s0 s) : Keeps kq s0 (State.putGroups s gs) := by
  unfold State.putGroups
  repeat' (first | with_reducible assumption | ((fail_if_no_progress (extract_lets +onlyGivenNames y)); clear_value y) | with_reducible apply State.putPrivi_keeps)

theorem State.acceptClose_keeps {s0 s : State} {c} (h : Keeps kq s0 s) : Keeps kq s0 (State.acceptClose s c) := by
  unfold State.acceptClose
  repeat' (first | with_reducible assumption | with_reducible apply State.refuse_keeps | with_reducible apply State.queueCmd_keeps | with_reducible apply State.putGroups_keeps | split)

theorem State.joinGroup_keeps {s0 s : State} {c} (h : Keeps kq s0 s) : Keeps kq s0 (State.joinGroup s c) := by
  unfold State.joinGroup
  repeat' (first | with_reducible assumption | with_reducible refine Keeps.ite ?_ ?_ | with_reducible apply State.refuse_keeps | with_reducible apply State.putGroups_keeps | split)

theorem State.armTrial_keeps {s0 s : State} {c} (h : Keeps kq s0 s) : Keeps kq s0 (State.armTrial s c) := by
  unfold State.armTrial
  repeat' (first | with_reducible assumption | with_reducible apply State.armCommit_keeps | split)

theorem State.withAccepted_keeps {s0 s : State} (h : Keeps kq s0 s) : Keeps kq s0 (State.withAccepted s) := by
  unfold State.withAccepted
  repeat' (first | with_reducible assumption | with_reducible apply State.armTrial_keeps | (with_reducible refine Keeps.foldl ?_ ?_; on_goal 2 => (intro t x ht; beta_reduce)))

theorem State.predict_keeps {s0 s : State} {drop} (h : Keeps kq s0 s) : Keeps kq s0 (State.predict s drop) := by
  unfold State.predict
  repeat' (first | with_reducible assumption | with_reducible apply State.setFld_keeps)

theorem State.predicting_keeps {s0 s : State} {c} (h : Keeps kq s0 s) : Keeps kq s0 (State.predicting s c) := by
  unfold State.predicting
  repeat' (first | with_reducible assumption | with_reducible refine Keeps.ite ?_ ?_ | with_reducible apply State.predict_keeps)

theorem State.acceptLast_keeps {s0 s : State} {c} (h : Keeps kq s0 s) : Keeps kq s0 (State.acceptLast s c) := by
  unfold State.acceptLast
  repeat' (first | with_reducible assumption | with_reducible refine Keeps.ite ?_ ?_ | ((fail_if_no_progress (extract_lets +onlyGivenNames y)); (have z_ := y; guard_hyp z_ : State; clear z_); refine Keeps.cut (kq := kq) (s0 := s0) y ?_ ?_; (on_goal 1 => subst y); (on_goal 2 => (intro hy; try clear_value y))) | ((fail_if_no_progress (extract_lets +onlyGivenNames y)); (have z_ := y; guard_hyp z_ : State × _; clear z_); refine Keeps.cut1 (kq := kq) (s0 := s0) y ?_ ?_; (on_goal 1 => subst y); (on_goal 2 => (intro hy; try clear_value y))) | ((fail_if_no_progress (extract_lets +onlyGivenNames y)); (have z_ := y; guard_hyp z_ : _ × State; clear z_); refine Keeps.cut2 (kq := kq) (s0 := s0) y ?_ ?_; (on_goal 1 => subst y); (on_goal 2 => (intro hy; try clear_value y))) | ((fail_if_no_progress (extract_lets +onlyGivenNames y)); refine Keeps.fn y ?_; subst y; beta_reduce) | ((fail_if_no_progress (extract_lets +onlyGivenNames y)); clear_value y) | ((fail_if_no_progress (extract_lets +onlyGivenNames y)); subst y) | with_reducible apply State.withAccepted_keeps | with_reducible apply State.refuse_keeps | with_reducible apply State.predicting_keeps | with_reducible apply State.finish_keeps | with_reducible apply State.queueCmd_keeps | with_reducible apply State.opPending_keeps | with_reducible apply State.measureCmd_keeps | with_reducible apply Done.plain_keeps | with_reducible apply Done.bad_keeps | fail_if_no_progress (with_reducible apply Keeps.upd) | (with_reducible refine Keeps.foldl ?_ ?_; on_goal 2 => (intro t x ht; beta_reduce)) | (with_reducible refine Keeps.foldl2 ?_ ?_; on_goal 2 => (intro t x ht; beta_reduce)) | with_reducible apply KeepsO.next | fail_if_no_progress (with_reducible apply Keeps.updFree) | (with_reducible refine Keeps.foldl1 ?_ ?_; on_goal 2 => (intro t x ht; beta_reduce)) | (with_reducible apply Keeps.fst; with_reducible assumption) | refine Keeps.ite ?_ ?_ | split | (intro a; intros; beta_reduce) | (with_reducible apply Keeps.snd; with_reducible assumption))

theorem State.acceptCmd_keeps {s0 s : State} {c} (h : Keeps kq s0 s) : Keeps kq s0 (State.acceptCmd s c) := by
  unfold State.acceptCmd
  repeat' (first | with_reducible assumption | with_reducible refine Keeps.ite ?_ ?_ | with_reducible apply State.refuse_keeps | with_reducible apply State.acceptClose_keeps | with_reducible apply State.joinGroup_keeps | with_reducible apply State.acceptLast_keeps | split)

theorem State.discPcie_keeps {s0 s : State} (h : Keeps kq s0 s) : Keeps kq s0 (State.discPcie s) := by
  unfold State.discPcie
  repeat' (first | with_reducible assumption | with_reducible apply State.addFld_keeps)

theorem State.discSpi_keeps {s0 s : State} (h : Keeps kq s0 s) : Keeps kq s0 (State.discSpi s) := by
  unfold State.discSpi
  repeat' (first | with_reducible assumption | with_reducible apply State.addFld_keeps)

theorem State.discInb_keeps {s0 s : State} (h : Keeps kq s0 s) : Keeps kq s0 (State.discInb s) := by
  unfold State.discInb
  repeat' (first | with_reducible assumption | with_reducible apply State.addFld_keeps)

theorem State.discard1_keeps {s0 s : State} {via} (h : Keeps kq s0 s) : Keeps kq s0 (State.discard1 s via) := by
  unfold State.discard1
  repeat' (first | with_reducible assumption | with_reducible apply State.discPcie_keeps | with_reducible apply State.discSpi_keeps | with_reducible apply State.discInb_keeps | split)

theorem State.acceptPacket_keeps {s0 s : State} {via sender bs} (h : Keeps kq s0 s) : Keeps kq s0 (State.acceptPacket s via sender bs) := by
  unfold State.acceptPacket
  repeat' (first | with_reducible assumption | with_reducible refine Keeps.ite ?_ ?_ | ((fail_if_no_progress (extract_lets +onlyGivenNames y)); (have z_ := y; guard_hyp z_ : State; clear z_); refine Keeps.cut (kq := kq) (s0 := s0) y ?_ ?_; (on_goal 1 => subst y); (on_goal 2 => (intro hy; try clear_value y))) | ((fail_if_no_progress (extract_lets +onlyGivenNames y)); clear_value y) | with_reducible apply State.putPrivi_keeps | with_reducible apply State.discard1_keeps | with_reducible apply State.sendUnstored_keeps | with_reducible apply State.acceptCmd_keeps | split)

theorem State.actChange_keeps {s0 s : State} {c} (h : Keeps kq s0 s) : Keeps kq s0 (State.actChange s c) := by
  unfold State.actChange
  repeat' (first | with_reducible assumption | with_reducible refine Keeps.ite ?_ ?_ | ((fail_if_no_progress (extract_lets +onlyGivenNames y)); (have z_ := y; guard_hyp z_ : State; clear z_); refine Keeps.cut (kq := kq) (s0 := s0) y ?_ ?_; (on_goal 1 => subst y); (on_goal 2 => (intro hy; try clear_value y))) | ((fail_if_no_progress (extract_lets +onlyGivenNames y)); (have z_ := y; guard_hyp z_ : State × _; clear z_); refine Keeps.cut1 (kq := kq) (s0 := s0) y ?_ ?_; (on_goal 1 => subst y); (on_goal 2 => (intro hy; try clear_value y))) | ((fail_if_no_progress (extract_lets +onlyGivenNames y)); (have z_ := y; guard_hyp z_ : _ × State; clear z_); refine Keeps.cut2 (kq := kq) (s0 := s0) y ?_ ?_; (on_goal 1 => subst y); (on_goal 2 => (intro hy; try clear_value y))) | ((fail_if_no_progress (extract_lets +onlyGivenNames y)); refine Keeps.fn y ?_; subst y; beta_reduce) | ((fail_if_no_progress (extract_lets +onlyGivenNames y)); clear_value y) | ((fail_if_no_progress (extract_lets +onlyGivenNames y)); subst y) | with_reducible apply State.applyOp_keeps | with_reducible apply State.closeNodes_keeps | with_reducible apply State.pinNodes_keeps | with_reducible apply State.retireUnit_keeps | with_reducible apply State.refreshReplace_keeps | with_reducible apply Done.plain_keeps | with_reducible apply Done.bad_keeps | fail_if_no_progress (with_reducible apply Keeps.upd) | (with_reducible refine Keeps.foldl ?_ ?_; on_goal 2 => (intro t x ht; beta_reduce)) | (with_reducible refine Keeps.foldl2 ?_ ?_; on_goal 2 => (intro t x ht; beta_reduce)) | with_reducible apply KeepsO.next | fail_if_no_progress (with_reducible apply Keeps.updFree) | (with_reducible refine Keeps.foldl1 ?_ ?_; on_goal 2 => (intro t x ht; beta_reduce)) | (with_reducible apply Keeps.fst; with_reducible assumption) | refine Keeps.ite ?_ ?_ | split | (intro a; intros; beta_reduce) | (with_reducible apply Keeps.snd; with_reducible assumption))

theorem State.ringReset_keeps {s0 s : State} (h : Keeps kq s0 s) : Keeps kq s0 (State.ringReset s) := by
  unfold State.ringReset
  repeat' (first | with_reducible assumption | with_reducible refine Keeps.ite ?_ ?_ | ((fail_if_no_progress (extract_lets +onlyGivenNames y)); (have z_ := y; guard_hyp z_ : State; clear z_); refine Keeps.cut (kq := kq) (s0 := s0) y ?_ ?_; (on_goal 1 => subst y); (on_goal 2 => (intro hy; try clear_value y))) | ((fail_if_no_progress (extract_lets +onlyGivenNames y)); clear_value y) | with_reducible apply State.setFld_keeps | with_reducible apply State.putPrivi_keeps)

theorem State.setMbxIrq_keeps {s0 s : State} {f} (h : Keeps kq s0 s) : Keeps kq s0 (State.setMbxIrq s f) := by
  unfold State.setMbxIrq
  repeat' (first | with_reducible assumption | with_reducible apply State.setIrq_keeps)

theorem State.doorbell_keeps {s0 s : State} {index} (h : Keeps kq s0 s) : Keeps kq s0 (State.doorbell s index) := by
  unfold State.doorbell
  repeat' (first | with_reducible assumption | with_reducible refine Keeps.ite ?_ ?_ | ((fail_if_no_progress (extract_lets +onlyGivenNames y)); (have z_ := y; guard_hyp z_ : State; clear z_); refine Keeps.cut (kq := kq) (s0 := s0) y ?_ ?_; (on_goal 1 => subst y); (on_goal 2 => (intro hy; try clear_value y))) | ((fail_if_no_progress (extract_lets +onlyGivenNames y)); clear_value y) | with_reducible apply State.setFld_keeps | with_reducible apply State.discPcie_keeps | with_reducible apply State.setMbxIrq_keeps | with_reducible apply State.putPrivi_keeps)

theorem State.fetchResult_keeps {s0 s : State} {tag} (h : Keeps kq s0 s) : Keeps kq s0 (State.fetchResult s tag) := by
  unfold State.fetchResult
  repeat' (first | with_reducible assumption | with_reducible refine Keeps.ite ?_ ?_ | ((fail_if_no_progress (extract_lets +onlyGivenNames y)); (have z_ := y; guard_hyp z_ : State; clear z_); refine Keeps.cut (kq := kq) (s0 := s0) y ?_ ?_; (on_goal 1 => subst y); (on_goal 2 => (intro hy; try clear_value y))) | ((fail_if_no_progress (extract_lets +onlyGivenNames y)); clear_value y) | with_reducible apply State.setFld_keeps | with_reducible apply State.putPrivi_keeps)

theorem State.putTrans_keeps {s0 s : State} {t} (h : Keeps kq s0 s) : Keeps kq s0 (State.putTrans s t) := by
  unfold State.putTrans
  repeat' (first | with_reducible assumption | ((fail_if_no_progress (extract_lets +onlyGivenNames y)); clear_value y) | fail_if_no_progress (with_reducible apply Keeps.upd))

theorem State.gateSoon_keeps {s0 s : State} {b} (h : Keeps kq s0 s) : Keeps kq s0 (State.gateSoon s b) := by
  unfold State.gateSoon
  repeat' (first | with_reducible assumption | with_reducible refine Keeps.ite ?_ ?_ | ((fail_if_no_progress (extract_lets +onlyGivenNames y)); clear_value y) | fail_if_no_progress (with_reducible apply Keeps.upd))

theorem State.moveOp_keeps {s0 s : State} {target} (h : Keeps kq s0 s) : Keeps kq s0 (State.moveOp s target) := by
  unfold State.moveOp
  repeat' (first | with_reducible assumption | with_reducible refine Keeps.ite ?_ ?_ | ((fail_if_no_progress (extract_lets +onlyGivenNames y)); (have z_ := y; guard_hyp z_ : State; clear z_); refine Keeps.cut (kq := kq) (s0 := s0) y ?_ ?_; (on_goal 1 => subst y); (on_goal 2 => (intro hy; try clear_value y))) | ((fail_if_no_progress (extract_lets +onlyGivenNames y)); (have z_ := y; guard_hyp z_ : State × _; clear z_); refine Keeps.cut1 (kq := kq) (s0 := s0) y ?_ ?_; (on_goal 1 => subst y); (on_goal 2 => (intro hy; try clear_value y))) | ((fail_if_no_progress (extract_lets +onlyGivenNames y)); (have z_ := y; guard_hyp z_ : _ × State; clear z_); refine Keeps.cut2 (kq := kq) (s0 := s0) y ?_ ?_; (on_goal 1 => subst y); (on_goal 2 => (intro hy; try clear_value y))) | ((fail_if_no_progress (extract_lets +onlyGivenNames y)); refine Keeps.fn y ?_; subst y; beta_reduce) | ((fail_if_no_progress (extract_lets +onlyGivenNames y)); clear_value y) | ((fail_if_no_progress (extract_lets +onlyGivenNames y)); subst y) | with_reducible apply State.outputHolds_keeps | with_reducible apply State.applyOp_keeps | with_reducible apply State.setFld_keeps | with_reducible apply State.armCommit_keeps | with_reducible apply Done.plain_keeps | with_reducible apply Done.bad_keeps | fail_if_no_progress (with_reducible apply Keeps.upd) | (with_reducible refine Keeps.foldl ?_ ?_; on_goal 2 => (intro t x ht; beta_reduce)) | (with_reducible refine Keeps.foldl2 ?_ ?_; on_goal 2 => (intro t x ht; beta_reduce)) | with_reducible apply KeepsO.next | fail_if_no_progress (with_reducible apply Keeps.updFree) | (with_reducible refine Keeps.foldl1 ?_ ?_; on_goal 2 => (intro t x ht; beta_reduce)) | (with_reducible apply Keeps.fst; with_reducible assumption) | refine Keeps.ite ?_ ?_ | split | (intro a; intros; beta_reduce) | (with_reducible apply Keeps.snd; with_reducible assumption))

theorem State.beginQuiet_keeps {s0 s : State} (h : Keeps kq s0 s) : Keeps kq s0 (State.beginQuiet s) := by
  unfold State.beginQuiet
  repeat' (first | with_reducible assumption | with_reducible refine Keeps.ite ?_ ?_ | ((fail_if_no_progress (extract_lets +onlyGivenNames y)); (have z_ := y; guard_hyp z_ : State; clear z_); refine Keeps.cut (kq := kq) (s0 := s0) y ?_ ?_; (on_goal 1 => subst y); (on_goal 2 => (intro hy; try clear_value y))) | ((fail_if_no_progress (extract_lets +onlyGivenNames y)); clear_value y) | with_reducible apply State.oxDiscard_keeps | with_reducible apply State.setOx_keeps | with_reducible apply State.recAbort_keeps | with_reducible apply State.calDiscard_keeps | fail_if_no_progress (with_reducible apply Keeps.upd) | (with_reducible refine Keeps.foldl ?_ ?_; on_goal 2 => (intro t x ht; beta_reduce)))

theorem State.quietSoon_keeps {s0 s : State} (h : Keeps kq s0 s) : Keeps kq s0 (State.quietSoon s) := by
  unfold State.quietSoon
  repeat' (first | with_reducible assumption | with_reducible refine Keeps.ite ?_ ?_ | ((fail_if_no_progress (extract_lets +onlyGivenNames y)); clear_value y) | with_reducible apply State.beginQuiet_keeps | fail_if_no_progress (with_reducible apply Keeps.upd))

theorem State.endQuiet_keeps {s0 s : State} (h : Keeps kq s0 s) : Keeps kq s0 (State.endQuiet s) := by
  unfold State.endQuiet
  repeat' (first | with_reducible assumption | with_reducible refine Keeps.ite ?_ ?_ | ((fail_if_no_progress (extract_lets +onlyGivenNames y)); (have z_ := y; guard_hyp z_ : State; clear z_); refine Keeps.cut (kq := kq) (s0 := s0) y ?_ ?_; (on_goal 1 => subst y); (on_goal 2 => (intro hy; try clear_value y))) | ((fail_if_no_progress (extract_lets +onlyGivenNames y)); clear_value y) | with_reducible apply State.voidThenSettle_keeps | fail_if_no_progress (with_reducible apply Keeps.upd) | (with_reducible refine Keeps.foldl ?_ ?_; on_goal 2 => (intro t x ht; beta_reduce)))

theorem State.setDomain_keeps {s0 s : State} {d v} (h : Keeps kq s0 s) : Keeps kq s0 (State.setDomain s d v) := by
  unfold State.setDomain
  repeat' (first | with_reducible assumption | with_reducible apply State.setFld_keeps)

theorem State.domainOff_keeps {s0 s : State} {d} (h : Keeps kq s0 s) : Keeps kq s0 (State.domainOff s d) := by
  unfold State.domainOff
  repeat' (first | with_reducible assumption | with_reducible refine Keeps.ite ?_ ?_ | with_reducible apply State.setDomain_keeps | with_reducible apply State.stopLoop_keeps | with_reducible apply State.lanesDown_keeps | with_reducible apply State.pllUnlock_keeps | (with_reducible refine Keeps.foldl ?_ ?_; on_goal 2 => (intro t x ht; beta_reduce)))

theorem State.uncounted_keeps {s0 s : State} {f} (hf : ∀ a0, Keeps kq s0 a0 → Keeps kq s0 (f a0)) (h : Keeps kq s0 s) : Keeps kq s0 (State.uncounted s f) := by
  unfold State.uncounted
  repeat' (first | with_reducible assumption | ((fail_if_no_progress (extract_lets +onlyGivenNames y)); (have z_ := y; guard_hyp z_ : State; clear z_); refine Keeps.cut (kq := kq) (s0 := s0) y ?_ ?_; (on_goal 1 => subst y); (on_goal 2 => (intro hy; try clear_value y))) | ((fail_if_no_progress (extract_lets +onlyGivenNames y)); clear_value y) | with_reducible apply hf | fail_if_no_progress (with_reducible apply Keeps.upd))

theorem State.linksDown_keeps {s0 s : State} (h : Keeps kq s0 s) : Keeps kq s0 (State.linksDown s) := by
  unfold State.linksDown
  repeat' (first | with_reducible assumption | with_reducible apply State.uncounted_keeps | with_reducible apply State.casLinkDown_keeps | with_reducible apply State.portDown_keeps | (with_reducible refine Keeps.foldl ?_ ?_; on_goal 2 => (intro t x ht; beta_reduce)) | (intro a; intros; beta_reduce))

theorem State.beginStep_keeps {s0 s : State} {dropMd boot x} (h : Keeps kq s0 s) : Keeps kq s0 (State.beginStep s dropMd boot x) := by
  unfold State.beginStep
  repeat' (first | with_reducible assumption | with_reducible refine Keeps.ite ?_ ?_ | ((fail_if_no_progress (extract_lets +onlyGivenNames y)); (have z_ := y; guard_hyp z_ : State; clear z_); refine Keeps.cut (kq := kq) (s0 := s0) y ?_ ?_; (on_goal 1 => subst y); (on_goal 2 => (intro hy; try clear_value y))) | ((fail_if_no_progress (extract_lets +onlyGivenNames y)); clear_value y) | with_reducible apply State.gateSoon_keeps | with_reducible apply State.moveOp_keeps | with_reducible apply State.quietSoon_keeps | with_reducible apply State.endQuiet_keeps | with_reducible apply State.dmaPause_keeps | with_reducible apply State.domainOff_keeps | with_reducible apply State.linksDown_keeps | with_reducible apply State.beginQuiet_keeps | with_reducible apply State.stopLoop_keeps | with_reducible apply State.holdTick_keeps | with_reducible apply State.setDomain_keeps | with_reducible apply State.recLost_keeps | with_reducible apply State.setFld_keeps | with_reducible apply State.startLoop_keeps | with_reducible apply State.resumeTick_keeps | with_reducible apply State.dmaResume_keeps | fail_if_no_progress (with_reducible apply Keeps.upd) | (with_reducible refine Keeps.foldl ?_ ?_; on_goal 2 => (intro t x ht; beta_reduce)) | split)

theorem State.beginGroups_keeps {s0 s : State} {t gs} (h : Keeps kq s0 s) : Keeps kq s0 (State.beginGroups s t gs) := by
  induction gs generalizing s t with
  | nil => unfold State.beginGroups; repeat' (first | with_reducible assumption | with_reducible refine Keeps.ite ?_ ?_ | with_reducible apply State.putTrans_keeps | with_reducible apply State.beginStep_keeps | (with_reducible refine Keeps.foldl ?_ ?_; on_goal 2 => (intro t x ht; beta_reduce)) | with_reducible apply ih)
  | cons x_ r_ ih => unfold State.beginGroups; repeat' (first | with_reducible assumption | with_reducible refine Keeps.ite ?_ ?_ | with_reducible apply State.putTrans_keeps | with_reducible apply State.beginStep_keeps | (with_reducible refine Keeps.foldl ?_ ?_; on_goal 2 => (intro t x ht; beta_reduce)) | with_reducible apply ih)

theorem State.powerPoll_keeps {s0 s : State} (h : Keeps kq s0 s) : Keeps kq s0 (State.powerPoll s) := by
  unfold State.powerPoll
  repeat' (first | with_reducible assumption | with_reducible refine Keeps.ite ?_ ?_ | with_reducible apply State.beginGroups_keeps | split)

theorem State.settleClocks_keeps {s0 s : State} {old} (h : Keeps kq s0 s) : Keeps kq s0 (State.settleClocks s old) := by
  unfold State.settleClocks
  repeat' (first | with_reducible assumption | with_reducible refine Keeps.ite ?_ ?_ | ((fail_if_no_progress (extract_lets +onlyGivenNames y)); (have z_ := y; guard_hyp z_ : State; clear z_); refine Keeps.cut (kq := kq) (s0 := s0) y ?_ ?_; (on_goal 1 => subst y); (on_goal 2 => (intro hy; try clear_value y))) | with_reducible apply State.pllUnlock_keeps | with_reducible apply State.pllLock_keeps | with_reducible apply State.lanePllUnlock_keeps | with_reducible apply State.lanePllLock_keeps | with_reducible apply State.portsSafe_keeps | with_reducible apply State.lanesSafe_keeps | with_reducible apply State.lanesUnsafe_keeps | with_reducible apply State.recAbort_keeps | with_reducible apply State.refreshFes_keeps | (with_reducible refine Keeps.foldl ?_ ?_; on_goal 2 => (intro t x ht; beta_reduce)))

theorem State.clocked_keeps {s0 s : State} {f} (hf : ∀ a0, Keeps kq s0 a0 → Keeps kq s0 (f a0)) (h : Keeps kq s0 s) : Keeps kq s0 (State.clocked s f) := by
  unfold State.clocked
  repeat' (first | with_reducible assumption | with_reducible apply State.settleClocks_keeps | with_reducible apply hf)

theorem State.clockRow_keeps {s0 s : State} {f} (hf : ∀ a0, Keeps kq s0 a0 → Keeps kq s0 (f a0)) (h : Keeps kq s0 s) : Keeps kq s0 (State.clockRow s f) := by
  unfold State.clockRow
  repeat' (first | with_reducible assumption | with_reducible apply State.powerPoll_keeps | with_reducible apply State.settleRelocks_keeps | with_reducible apply State.clocked_keeps)

theorem State.laneMonitor_keeps {s0 s : State} (h : Keeps kq s0 s) : Keeps kq s0 (State.laneMonitor s) := by
  unfold State.laneMonitor
  repeat' (first | with_reducible assumption | with_reducible refine Keeps.ite ?_ ?_ | with_reducible apply State.clockRow_keeps | with_reducible apply State.trip_keeps | (intro a; intros; beta_reduce))

theorem State.reapply_keeps {s0 s : State} {units} (h : Keeps kq s0 s) : Keeps kq s0 (State.reapply s units) := by
  unfold State.reapply
  repeat' (first | with_reducible assumption | ((fail_if_no_progress (extract_lets +onlyGivenNames y)); (have z_ := y; guard_hyp z_ : State; clear z_); refine Keeps.cut (kq := kq) (s0 := s0) y ?_ ?_; (on_goal 1 => subst y); (on_goal 2 => (intro hy; try clear_value y))) | ((fail_if_no_progress (extract_lets +onlyGivenNames y)); clear_value y) | with_reducible apply State.retireOne_keeps | fail_if_no_progress (with_reducible apply Keeps.upd) | (with_reducible refine Keeps.foldl ?_ ?_; on_goal 2 => (intro t x ht; beta_reduce)))

theorem State.wipeCtl_keeps {s0 s : State} (h : Keeps kq s0 s) : Keeps kq s0 (State.wipeCtl s) := by
  unfold State.wipeCtl
  repeat' (first | with_reducible assumption | ((fail_if_no_progress (extract_lets +onlyGivenNames y)); (have z_ := y; guard_hyp z_ : State; clear z_); refine Keeps.cut (kq := kq) (s0 := s0) y ?_ ?_; (on_goal 1 => subst y); (on_goal 2 => (intro hy; try clear_value y))) | ((fail_if_no_progress (extract_lets +onlyGivenNames y)); clear_value y) | with_reducible apply State.resetRange_keeps | with_reducible apply State.refreshSlots_keeps | with_reducible apply State.setFld_keeps | fail_if_no_progress (with_reducible apply Keeps.upd))

theorem State.wipeFab_keeps {s0 s : State} (h : Keeps kq s0 s) : Keeps kq s0 (State.wipeFab s) := by
  unfold State.wipeFab
  repeat' (first | with_reducible assumption | ((fail_if_no_progress (extract_lets +onlyGivenNames y)); (have z_ := y; guard_hyp z_ : State; clear z_); refine Keeps.cut (kq := kq) (s0 := s0) y ?_ ?_; (on_goal 1 => subst y); (on_goal 2 => (intro hy; try clear_value y))) | ((fail_if_no_progress (extract_lets +onlyGivenNames y)); clear_value y) | with_reducible apply State.resetRange_keeps | fail_if_no_progress (with_reducible apply Keeps.upd))

theorem State.allReset_keeps {s0 s : State} (h : Keeps kq s0 s) : Keeps kq s0 (State.allReset s) := by
  unfold State.allReset
  repeat' (first | with_reducible assumption | ((fail_if_no_progress (extract_lets +onlyGivenNames y)); (have z_ := y; guard_hyp z_ : State; clear z_); refine Keeps.cut (kq := kq) (s0 := s0) y ?_ ?_; (on_goal 1 => subst y); (on_goal 2 => (intro hy; try clear_value y))) | ((fail_if_no_progress (extract_lets +onlyGivenNames y)); clear_value y) | with_reducible apply State.wipeCtl_keeps | with_reducible apply State.wipeFab_keeps | with_reducible apply State.resetRange_keeps | fail_if_no_progress (with_reducible apply Keeps.upd))

theorem State.enterSafe_keeps {s0 s : State} {b} (h : Keeps kq s0 s) : Keeps kq s0 (State.enterSafe s b) := by
  unfold State.enterSafe
  repeat' (first | with_reducible assumption | with_reducible apply State.clocked_keeps | with_reducible apply State.trip_keeps | (intro a; intros; beta_reduce))

theorem State.tripPins_keeps {s0 s : State} (h : Keeps kq s0 s) : Keeps kq s0 (State.tripPins s) := by
  unfold State.tripPins
  repeat' (first | with_reducible assumption | with_reducible refine Keeps.ite ?_ ?_ | with_reducible apply State.enterSafe_keeps)

theorem State.logMemFail_keeps {s0 s : State} {injected value} (h : Keeps kq s0 s) : Keeps kq s0 (State.logMemFail s injected value) := by
  unfold State.logMemFail
  repeat' (first | with_reducible assumption | with_reducible refine Keeps.ite ?_ ?_ | with_reducible apply State.fresh_keeps | with_reducible apply State.raiseEv_keeps | with_reducible apply State.toShadow_keeps | split)

theorem State.memTest_keeps {s0 s : State} {ok} (h : Keeps kq s0 s) : Keeps kq s0 (State.memTest s ok) := by
  unfold State.memTest
  repeat' (first | with_reducible assumption | with_reducible refine Keeps.ite ?_ ?_ | with_reducible apply State.logMemFail_keeps)

theorem State.warmBoot_keeps {s0 s : State} {memOk} (h : Keeps kq s0 s) : Keeps kq s0 (State.warmBoot s memOk) := by
  unfold State.warmBoot
  repeat' (first | with_reducible assumption | with_reducible refine Keeps.ite ?_ ?_ | ((fail_if_no_progress (extract_lets +onlyGivenNames y)); (have z_ := y; guard_hyp z_ : State; clear z_); refine Keeps.cut (kq := kq) (s0 := s0) y ?_ ?_; (on_goal 1 => subst y); (on_goal 2 => (intro hy; try clear_value y))) | ((fail_if_no_progress (extract_lets +onlyGivenNames y)); (have z_ := y; guard_hyp z_ : State × _; clear z_); refine Keeps.cut1 (kq := kq) (s0 := s0) y ?_ ?_; (on_goal 1 => subst y); (on_goal 2 => (intro hy; try clear_value y))) | ((fail_if_no_progress (extract_lets +onlyGivenNames y)); (have z_ := y; guard_hyp z_ : _ × State; clear z_); refine Keeps.cut2 (kq := kq) (s0 := s0) y ?_ ?_; (on_goal 1 => subst y); (on_goal 2 => (intro hy; try clear_value y))) | ((fail_if_no_progress (extract_lets +onlyGivenNames y)); refine Keeps.fn y ?_; subst y; beta_reduce) | ((fail_if_no_progress (extract_lets +onlyGivenNames y)); clear_value y) | ((fail_if_no_progress (extract_lets +onlyGivenNames y)); subst y) | with_reducible apply State.resetLinks_keeps | with_reducible apply State.reapply_keeps | with_reducible apply State.allReset_keeps | with_reducible apply State.setReg_keeps | with_reducible apply State.tripPins_keeps | with_reducible apply State.setFld_keeps | with_reducible apply State.beginGroups_keeps | with_reducible apply State.memTest_keeps | with_reducible apply Done.plain_keeps | with_reducible apply Done.bad_keeps | fail_if_no_progress (with_reducible apply Keeps.upd) | (with_reducible refine Keeps.foldl ?_ ?_; on_goal 2 => (intro t x ht; beta_reduce)) | (with_reducible refine Keeps.foldl2 ?_ ?_; on_goal 2 => (intro t x ht; beta_reduce)) | with_reducible apply KeepsO.next | fail_if_no_progress (with_reducible apply Keeps.updFree) | (with_reducible refine Keeps.foldl1 ?_ ?_; on_goal 2 => (intro t x ht; beta_reduce)) | (with_reducible apply Keeps.fst; with_reducible assumption) | refine Keeps.ite ?_ ?_ | split | (intro a; intros; beta_reduce) | (with_reducible apply Keeps.snd; with_reducible assumption))

theorem State.resetKey_keeps {s0 s : State} {memOk} (h : Keeps kq s0 s) : Keeps kq s0 (State.resetKey s memOk) := by
  unfold State.resetKey
  repeat' (first | with_reducible assumption | with_reducible refine Keeps.ite ?_ ?_ | ((fail_if_no_progress (extract_lets +onlyGivenNames y)); (have z_ := y; guard_hyp z_ : State; clear z_); refine Keeps.cut (kq := kq) (s0 := s0) y ?_ ?_; (on_goal 1 => subst y); (on_goal 2 => (intro hy; try clear_value y))) | ((fail_if_no_progress (extract_lets +onlyGivenNames y)); (have z_ := y; guard_hyp z_ : State × _; clear z_); refine Keeps.cut1 (kq := kq) (s0 := s0) y ?_ ?_; (on_goal 1 => subst y); (on_goal 2 => (intro hy; try clear_value y))) | ((fail_if_no_progress (extract_lets +onlyGivenNames y)); (have z_ := y; guard_hyp z_ : _ × State; clear z_); refine Keeps.cut2 (kq := kq) (s0 := s0) y ?_ ?_; (on_goal 1 => subst y); (on_goal 2 => (intro hy; try clear_value y))) | ((fail_if_no_progress (extract_lets +onlyGivenNames y)); refine Keeps.fn y ?_; subst y; beta_reduce) | ((fail_if_no_progress (extract_lets +onlyGivenNames y)); clear_value y) | ((fail_if_no_progress (extract_lets +onlyGivenNames y)); subst y) | with_reducible apply State.resetLinks_keeps | with_reducible apply State.reapply_keeps | with_reducible apply State.allReset_keeps | with_reducible apply State.memTest_keeps | with_reducible apply State.tripPins_keeps | with_reducible apply Done.plain_keeps | with_reducible apply Done.bad_keeps | fail_if_no_progress (with_reducible apply Keeps.upd) | (with_reducible refine Keeps.foldl ?_ ?_; on_goal 2 => (intro t x ht; beta_reduce)) | (with_reducible refine Keeps.foldl2 ?_ ?_; on_goal 2 => (intro t x ht; beta_reduce)) | with_reducible apply KeepsO.next | fail_if_no_progress (with_reducible apply Keeps.updFree) | (with_reducible refine Keeps.foldl1 ?_ ?_; on_goal 2 => (intro t x ht; beta_reduce)) | (with_reducible apply Keeps.fst; with_reducible assumption) | refine Keeps.ite ?_ ?_ | split | (intro a; intros; beta_reduce) | (with_reducible apply Keeps.snd; with_reducible assumption))

theorem State.runFirmware_keeps {s0 s : State} {version svn head} (h : Keeps kq s0 s) : Keeps kq s0 (State.runFirmware s version svn head) := by
  unfold State.runFirmware
  repeat' (first | with_reducible assumption | ((fail_if_no_progress (extract_lets +onlyGivenNames y)); (have z_ := y; guard_hyp z_ : State; clear z_); refine Keeps.cut (kq := kq) (s0 := s0) y ?_ ?_; (on_goal 1 => subst y); (on_goal 2 => (intro hy; try clear_value y))) | ((fail_if_no_progress (extract_lets +onlyGivenNames y)); clear_value y) | with_reducible apply State.setFld_keeps | fail_if_no_progress (with_reducible apply Keeps.upd))

theorem State.recovGo_keeps {s0 s : State} {v} (h : Keeps kq s0 s) : Keeps kq s0 (State.recovGo s v) := by
  unfold State.recovGo
  repeat' (first | with_reducible assumption | with_reducible refine Keeps.ite ?_ ?_ | ((fail_if_no_progress (extract_lets +onlyGivenNames y)); (have z_ := y; guard_hyp z_ : State; clear z_); refine Keeps.cut (kq := kq) (s0 := s0) y ?_ ?_; (on_goal 1 => subst y); (on_goal 2 => (intro hy; try clear_value y))) | ((fail_if_no_progress (extract_lets +onlyGivenNames y)); clear_value y) | with_reducible apply State.authFail_keeps | with_reducible apply State.runFirmware_keeps | with_reducible apply State.refreshService_keeps | with_reducible apply State.setFld_keeps | fail_if_no_progress (with_reducible apply Keeps.upd) | split)

theorem State.recovWord_keeps {s0 s : State} {w} (h : Keeps kq s0 s) : Keeps kq s0 (State.recovWord s w) := by
  unfold State.recovWord
  repeat' (first | with_reducible assumption | with_reducible refine Keeps.ite ?_ ?_ | ((fail_if_no_progress (extract_lets +onlyGivenNames y)); clear_value y) | fail_if_no_progress (with_reducible apply Keeps.upd))

theorem State.afterWrite_keeps {s0 s : State} {old d a v e} (h : Keeps kq s0 s) : Keeps kq s0 (State.afterWrite s old d a v e) := by
  unfold State.afterWrite
  repeat' (first | with_reducible assumption | with_reducible refine Keeps.ite ?_ ?_ | ((fail_if_no_progress (extract_lets +onlyGivenNames y)); refine Keeps.fn y ?_; subst y; beta_reduce) | ((fail_if_no_progress (extract_lets +onlyGivenNames y)); clear_value y) | with_reducible apply State.startTick_keeps | with_reducible apply State.setFld_keeps | with_reducible apply State.clearPeaks_keeps | with_reducible apply State.armHostCommit_keeps | with_reducible apply State.cancelHostCommit_keeps | with_reducible apply State.ringReset_keeps | with_reducible apply State.doorbell_keeps | with_reducible apply State.putPrivi_keeps | with_reducible apply State.fetchResult_keeps | with_reducible apply State.padrvEnable_keeps | with_reducible apply State.refreshHolds_keeps | with_reducible apply State.rawCapture_keeps | with_reducible apply State.histClear_keeps | with_reducible apply State.modXfer_keeps | with_reducible apply State.hostChReset_keeps | with_reducible apply State.hostDoorbell_keeps | with_reducible apply State.armSync_keeps | with_reducible apply State.clockRow_keeps | with_reducible apply State.cancelSync_keeps | with_reducible apply State.laneMonitor_keeps | with_reducible apply State.snapshot_keeps | with_reducible apply State.warmBoot_keeps | with_reducible apply State.resetKey_keeps | with_reducible apply State.refreshTable_keeps | with_reducible apply State.putFifo_keeps | with_reducible apply State.urgentRequest_keeps | with_reducible apply State.refreshReplace_keeps | with_reducible apply State.setRole_keeps | with_reducible apply State.recovGo_keeps | with_reducible apply State.recovWord_keeps | split)

theorem State.answerRead_keeps {s0 s : State} {via sender bs} (h : Keeps kq s0 s) : Keeps kq s0 (State.answerRead s via sender bs) := by
  unfold State.answerRead
  repeat' (first | with_reducible assumption | with_reducible apply State.readResult_keeps | with_reducible apply State.sendReply_keeps)

theorem State.answerWaiting_keeps {s0 s : State} (h : Keeps kq s0 s) : Keeps kq s0 (State.answerWaiting s) := by
  unfold State.answerWaiting
  repeat' (first | with_reducible assumption | ((fail_if_no_progress (extract_lets +onlyGivenNames y)); clear_value y) | with_reducible apply State.answerRead_keeps | with_reducible apply State.putPrivi_keeps | (with_reducible refine Keeps.foldl ?_ ?_; on_goal 2 => (intro t x ht; beta_reduce)))

theorem State.endCommit_keeps {s0 s : State} {k} (h : Keeps kq s0 s) : Keeps kq s0 (State.endCommit s k) := by
  unfold State.endCommit
  repeat' (first | with_reducible assumption | with_reducible refine Keeps.ite ?_ ?_ | ((fail_if_no_progress (extract_lets +onlyGivenNames y)); (have z_ := y; guard_hyp z_ : State; clear z_); refine Keeps.cut (kq := kq) (s0 := s0) y ?_ ?_; (on_goal 1 => subst y); (on_goal 2 => (intro hy; try clear_value y))) | ((fail_if_no_progress (extract_lets +onlyGivenNames y)); clear_value y) | with_reducible apply State.setFld_keeps | with_reducible apply State.openLate_keeps | with_reducible apply State.finish_keeps | (with_reducible refine Keeps.foldl ?_ ?_; on_goal 2 => (intro t x ht; beta_reduce)) | split)

theorem State.tidyShadow_keeps {s0 s : State} (h : Keeps kq s0 s) : Keeps kq s0 (State.tidyShadow s) := by
  unfold State.tidyShadow
  repeat' (first | with_reducible assumption | ((fail_if_no_progress (extract_lets +onlyGivenNames y)); clear_value y) | fail_if_no_progress (with_reducible apply Keeps.upd))

theorem State.applyCommits_keeps {s0 s : State} (h : Keeps kq s0 s) : Keeps kq s0 (State.applyCommits s) := by
  unfold State.applyCommits
  repeat' (first | with_reducible assumption | with_reducible refine Keeps.ite ?_ ?_ | ((fail_if_no_progress (extract_lets +onlyGivenNames y)); (have z_ := y; guard_hyp z_ : State; clear z_); refine Keeps.cut (kq := kq) (s0 := s0) y ?_ ?_; (on_goal 1 => subst y); (on_goal 2 => (intro hy; try clear_value y))) | ((fail_if_no_progress (extract_lets +onlyGivenNames y)); clear_value y) | with_reducible apply State.recFlag_keeps | with_reducible apply State.actChange_keeps | with_reducible apply State.storeAll_keeps | with_reducible apply State.bfCommit_keeps | with_reducible apply State.dpdCommit_keeps | with_reducible apply State.txCommit_keeps | with_reducible apply State.rxCommit_keeps | with_reducible apply State.outputHolds_keeps | with_reducible apply State.firstGroups_keeps | with_reducible apply State.casCommit_keeps | with_reducible apply State.praCommit_keeps | with_reducible apply State.endCommit_keeps | with_reducible apply State.tidyShadow_keeps | fail_if_no_progress (with_reducible apply Keeps.upd) | (with_reducible refine Keeps.foldl ?_ ?_; on_goal 2 => (intro t x ht; beta_reduce)))

theorem State.applyRecord_keeps {s0 s : State} {b} (h : Keeps kq s0 s) : Keeps kq s0 (State.applyRecord s b) := by
  unfold State.applyRecord
  repeat' (first | with_reducible assumption | ((fail_if_no_progress (extract_lets +onlyGivenNames y)); (have z_ := y; guard_hyp z_ : State; clear z_); refine Keeps.cut (kq := kq) (s0 := s0) y ?_ ?_; (on_goal 1 => subst y); (on_goal 2 => (intro hy; try clear_value y))) | ((fail_if_no_progress (extract_lets +onlyGivenNames y)); clear_value y) | with_reducible apply State.raise_keeps | with_reducible apply State.refreshSlots_keeps | fail_if_no_progress (with_reducible apply Keeps.upd))

theorem State.setFrame_keeps {s0 s : State} {ft sfn} (h : Keeps kq s0 s) : Keeps kq s0 (State.setFrame s ft sfn) := by
  unfold State.setFrame
  repeat' (first | with_reducible assumption | with_reducible apply State.setFld_keeps)

theorem State.asTick_keeps {s0 s : State} {t sfn ft f} (hf : ∀ a0, Keeps kq s0 a0 → Keeps kq s0 (f a0)) (h : Keeps kq s0 s) : Keeps kq s0 (State.asTick s t sfn ft f) := by
  unfold State.asTick
  repeat' (first | with_reducible assumption | ((fail_if_no_progress (extract_lets +onlyGivenNames y)); clear_value y) | with_reducible apply State.setReg_keeps | with_reducible apply State.setFrame_keeps | with_reducible apply State.setFld_keeps | with_reducible apply hf)

theorem State.authEnd_keeps {s0 s : State} {tag kind reason} (h : Keeps kq s0 s) : Keeps kq s0 (State.authEnd s tag kind reason) := by
  unfold State.authEnd
  repeat' (first | with_reducible assumption | with_reducible apply State.finishNow_keeps | with_reducible apply State.authFail_keeps)

theorem State.runSlot_keeps {s0 s : State} {i} (h : Keeps kq s0 s) : Keeps kq s0 (State.runSlot s i) := by
  unfold State.runSlot
  repeat' (first | with_reducible assumption | with_reducible apply State.setFld_keeps | with_reducible apply State.runFirmware_keeps)

theorem State.romBoot_keeps {s0 s : State} (h : Keeps kq s0 s) : Keeps kq s0 (State.romBoot s) := by
  unfold State.romBoot
  repeat' (first | with_reducible assumption | with_reducible refine Keeps.ite ?_ ?_ | ((fail_if_no_progress (extract_lets +onlyGivenNames y)); (have z_ := y; guard_hyp z_ : State; clear z_); refine Keeps.cut (kq := kq) (s0 := s0) y ?_ ?_; (on_goal 1 => subst y); (on_goal 2 => (intro hy; try clear_value y))) | ((fail_if_no_progress (extract_lets +onlyGivenNames y)); clear_value y) | with_reducible apply State.setFld_keeps | with_reducible apply State.refreshService_keeps | with_reducible apply State.raise_keeps | with_reducible apply State.runSlot_keeps | with_reducible apply State.authFail_keeps | fail_if_no_progress (with_reducible apply Keeps.upd) | split)

theorem State.bootPoll_keeps {s0 s : State} (h : Keeps kq s0 s) : Keeps kq s0 (State.bootPoll s) := by
  unfold State.bootPoll
  repeat' (first | with_reducible assumption | with_reducible refine Keeps.ite ?_ ?_ | with_reducible apply State.calForce_keeps | with_reducible apply State.refreshReplace_keeps | with_reducible apply State.setFld_keeps | with_reducible apply State.assignRoles_keeps)

theorem State.bootGroupDone_keeps {s0 s : State} (h : Keeps kq s0 s) : Keeps kq s0 (State.bootGroupDone s) := by
  unfold State.bootGroupDone
  repeat' (first | with_reducible assumption | with_reducible refine Keeps.ite ?_ ?_ | ((fail_if_no_progress (extract_lets +onlyGivenNames y)); clear_value y) | with_reducible apply State.romBoot_keeps | with_reducible apply State.bootPoll_keeps | fail_if_no_progress (with_reducible apply Keeps.upd))

theorem State.bridgeCrc_keeps {s0 s : State} {dies} (h : Keeps kq s0 s) : Keeps kq s0 (State.bridgeCrc s dies) := by
  unfold State.bridgeCrc
  repeat' (first | with_reducible assumption | with_reducible apply State.raise_keeps | (with_reducible refine Keeps.foldl ?_ ?_; on_goal 2 => (intro t x ht; beta_reduce)))

theorem State.bridgeFails_keeps {s0 s : State} {k} (h : Keeps kq s0 s) : Keeps kq s0 (State.bridgeFails s k) := by
  unfold State.bridgeFails
  repeat' (first | with_reducible assumption | ((fail_if_no_progress (extract_lets +onlyGivenNames y)); (have z_ := y; guard_hyp z_ : State; clear z_); refine Keeps.cut (kq := kq) (s0 := s0) y ?_ ?_; (on_goal 1 => subst y); (on_goal 2 => (intro hy; try clear_value y))) | ((fail_if_no_progress (extract_lets +onlyGivenNames y)); clear_value y) | with_reducible apply State.raise_keeps | with_reducible apply State.refreshReplace_keeps | with_reducible apply State.retireUnit_keeps | with_reducible apply State.domainOff_keeps | fail_if_no_progress (with_reducible apply Keeps.upd))

theorem State.bridgeRepair_keeps {s0 s : State} {link f} (h : Keeps kq s0 s) : Keeps kq s0 (State.bridgeRepair s link f) := by
  unfold State.bridgeRepair
  repeat' (first | with_reducible assumption | ((fail_if_no_progress (extract_lets +onlyGivenNames y)); clear_value y) | fail_if_no_progress (with_reducible apply Keeps.upd))

theorem State.bringupComplete_keeps {s0 s : State} (h : Keeps kq s0 s) : Keeps kq s0 (State.bringupComplete s) := by
  unfold State.bringupComplete
  repeat' (first | with_reducible assumption | with_reducible refine Keeps.ite ?_ ?_ | ((fail_if_no_progress (extract_lets +onlyGivenNames y)); (have z_ := y; guard_hyp z_ : State; clear z_); refine Keeps.cut (kq := kq) (s0 := s0) y ?_ ?_; (on_goal 1 => subst y); (on_goal 2 => (intro hy; try clear_value y))) | ((fail_if_no_progress (extract_lets +onlyGivenNames y)); clear_value y) | with_reducible apply State.startTick_keeps | with_reducible apply State.setFld_keeps | with_reducible apply State.raiseFree_keeps | with_reducible apply State.refreshCal_keeps | with_reducible apply State.raise_keeps | fail_if_no_progress (with_reducible apply Keeps.upd))

theorem State.brownCtl_keeps {s0 s : State} (h : Keeps kq s0 s) : Keeps kq s0 (State.brownCtl s) := by
  unfold State.brownCtl
  repeat' (first | with_reducible assumption | with_reducible refine Keeps.ite ?_ ?_ | ((fail_if_no_progress (extract_lets +onlyGivenNames y)); (have z_ := y; guard_hyp z_ : State; clear z_); refine Keeps.cut (kq := kq) (s0 := s0) y ?_ ?_; (on_goal 1 => subst y); (on_goal 2 => (intro hy; try clear_value y))) | ((fail_if_no_progress (extract_lets +onlyGivenNames y)); (have z_ := y; guard_hyp z_ : State × _; clear z_); refine Keeps.cut1 (kq := kq) (s0 := s0) y ?_ ?_; (on_goal 1 => subst y); (on_goal 2 => (intro hy; try clear_value y))) | ((fail_if_no_progress (extract_lets +onlyGivenNames y)); (have z_ := y; guard_hyp z_ : _ × State; clear z_); refine Keeps.cut2 (kq := kq) (s0 := s0) y ?_ ?_; (on_goal 1 => subst y); (on_goal 2 => (intro hy; try clear_value y))) | ((fail_if_no_progress (extract_lets +onlyGivenNames y)); refine Keeps.fn y ?_; subst y; beta_reduce) | ((fail_if_no_progress (extract_lets +onlyGivenNames y)); clear_value y) | ((fail_if_no_progress (extract_lets +onlyGivenNames y)); subst y) | with_reducible apply State.setFld_keeps | with_reducible apply State.reapply_keeps | with_reducible apply State.wipeCtl_keeps | with_reducible apply State.setReg_keeps | with_reducible apply State.refreshHolds_keeps | with_reducible apply Done.plain_keeps | with_reducible apply Done.bad_keeps | fail_if_no_progress (with_reducible apply Keeps.upd) | (with_reducible refine Keeps.foldl ?_ ?_; on_goal 2 => (intro t x ht; beta_reduce)) | (with_reducible refine Keeps.foldl2 ?_ ?_; on_goal 2 => (intro t x ht; beta_reduce)) | with_reducible apply KeepsO.next | fail_if_no_progress (with_reducible apply Keeps.updFree) | (with_reducible refine Keeps.foldl1 ?_ ?_; on_goal 2 => (intro t x ht; beta_reduce)) | (with_reducible apply Keeps.fst; with_reducible assumption) | refine Keeps.ite ?_ ?_ | split | (intro a; intros; beta_reduce) | (with_reducible apply Keeps.snd; with_reducible assumption))

theorem State.brownFab_keeps {s0 s : State} (h : Keeps kq s0 s) : Keeps kq s0 (State.brownFab s) := by
  unfold State.brownFab
  repeat' (first | with_reducible assumption | with_reducible refine Keeps.ite ?_ ?_ | ((fail_if_no_progress (extract_lets +onlyGivenNames y)); (have z_ := y; guard_hyp z_ : State; clear z_); refine Keeps.cut (kq := kq) (s0 := s0) y ?_ ?_; (on_goal 1 => subst y); (on_goal 2 => (intro hy; try clear_value y))) | ((fail_if_no_progress (extract_lets +onlyGivenNames y)); (have z_ := y; guard_hyp z_ : State × _; clear z_); refine Keeps.cut1 (kq := kq) (s0 := s0) y ?_ ?_; (on_goal 1 => subst y); (on_goal 2 => (intro hy; try clear_value y))) | ((fail_if_no_progress (extract_lets +onlyGivenNames y)); (have z_ := y; guard_hyp z_ : _ × State; clear z_); refine Keeps.cut2 (kq := kq) (s0 := s0) y ?_ ?_; (on_goal 1 => subst y); (on_goal 2 => (intro hy; try clear_value y))) | ((fail_if_no_progress (extract_lets +onlyGivenNames y)); refine Keeps.fn y ?_; subst y; beta_reduce) | ((fail_if_no_progress (extract_lets +onlyGivenNames y)); clear_value y) | ((fail_if_no_progress (extract_lets +onlyGivenNames y)); subst y) | with_reducible apply State.refreshHolds_keeps | with_reducible apply State.setFld_keeps | with_reducible apply State.reapply_keeps | with_reducible apply State.wipeFab_keeps | with_reducible apply Done.plain_keeps | with_reducible apply Done.bad_keeps | fail_if_no_progress (with_reducible apply Keeps.upd) | (with_reducible refine Keeps.foldl ?_ ?_; on_goal 2 => (intro t x ht; beta_reduce)) | (with_reducible refine Keeps.foldl2 ?_ ?_; on_goal 2 => (intro t x ht; beta_reduce)) | with_reducible apply KeepsO.next | fail_if_no_progress (with_reducible apply Keeps.updFree) | (with_reducible refine Keeps.foldl1 ?_ ?_; on_goal 2 => (intro t x ht; beta_reduce)) | (with_reducible apply Keeps.fst; with_reducible assumption) | refine Keeps.ite ?_ ?_ | split | (intro a; intros; beta_reduce) | (with_reducible apply Keeps.snd; with_reducible assumption))

theorem State.brownLoss_keeps {s0 s : State} {d} (h : Keeps kq s0 s) : Keeps kq s0 (State.brownLoss s d) := by
  unfold State.brownLoss
  repeat' (first | with_reducible assumption | with_reducible refine Keeps.ite ?_ ?_ | ((fail_if_no_progress (extract_lets +onlyGivenNames y)); (have z_ := y; guard_hyp z_ : State; clear z_); refine Keeps.cut (kq := kq) (s0 := s0) y ?_ ?_; (on_goal 1 => subst y); (on_goal 2 => (intro hy; try clear_value y))) | ((fail_if_no_progress (extract_lets +onlyGivenNames y)); (have z_ := y; guard_hyp z_ : State × _; clear z_); refine Keeps.cut1 (kq := kq) (s0 := s0) y ?_ ?_; (on_goal 1 => subst y); (on_goal 2 => (intro hy; try clear_value y))) | ((fail_if_no_progress (extract_lets +onlyGivenNames y)); (have z_ := y; guard_hyp z_ : _ × State; clear z_); refine Keeps.cut2 (kq := kq) (s0 := s0) y ?_ ?_; (on_goal 1 => subst y); (on_goal 2 => (intro hy; try clear_value y))) | ((fail_if_no_progress (extract_lets +onlyGivenNames y)); refine Keeps.fn y ?_; subst y; beta_reduce) | ((fail_if_no_progress (extract_lets +onlyGivenNames y)); clear_value y) | ((fail_if_no_progress (extract_lets +onlyGivenNames y)); subst y) | with_reducible apply State.recLost_keeps | with_reducible apply State.brownFab_keeps | with_reducible apply State.brownCtl_keeps | with_reducible apply State.refreshHolds_keeps | with_reducible apply Done.plain_keeps | with_reducible apply Done.bad_keeps | fail_if_no_progress (with_reducible apply Keeps.upd) | (with_reducible refine Keeps.foldl ?_ ?_; on_goal 2 => (intro t x ht; beta_reduce)) | (with_reducible refine Keeps.foldl2 ?_ ?_; on_goal 2 => (intro t x ht; beta_reduce)) | with_reducible apply KeepsO.next | fail_if_no_progress (with_reducible apply Keeps.updFree) | (with_reducible refine Keeps.foldl1 ?_ ?_; on_goal 2 => (intro t x ht; beta_reduce)) | (with_reducible apply Keeps.fst; with_reducible assumption) | refine Keeps.ite ?_ ?_ | split | (intro a; intros; beta_reduce) | (with_reducible apply Keeps.snd; with_reducible assumption))

theorem State.brownNote_keeps {s0 s : State} {d} (h : Keeps kq s0 s) : Keeps kq s0 (State.brownNote s d) := by
  unfold State.brownNote
  repeat' (first | with_reducible assumption | with_reducible refine Keeps.ite ?_ ?_ | ((fail_if_no_progress (extract_lets +onlyGivenNames y)); (have z_ := y; guard_hyp z_ : State; clear z_); refine Keeps.cut (kq := kq) (s0 := s0) y ?_ ?_; (on_goal 1 => subst y); (on_goal 2 => (intro hy; try clear_value y))) | ((fail_if_no_progress (extract_lets +onlyGivenNames y)); (have z_ := y; guard_hyp z_ : State × _; clear z_); refine Keeps.cut1 (kq := kq) (s0 := s0) y ?_ ?_; (on_goal 1 => subst y); (on_goal 2 => (intro hy; try clear_value y))) | ((fail_if_no_progress (extract_lets +onlyGivenNames y)); (have z_ := y; guard_hyp z_ : _ × State; clear z_); refine Keeps.cut2 (kq := kq) (s0 := s0) y ?_ ?_; (on_goal 1 => subst y); (on_goal 2 => (intro hy; try clear_value y))) | ((fail_if_no_progress (extract_lets +onlyGivenNames y)); refine Keeps.fn y ?_; subst y; beta_reduce) | ((fail_if_no_progress (extract_lets +onlyGivenNames y)); clear_value y) | ((fail_if_no_progress (extract_lets +onlyGivenNames y)); subst y) | with_reducible apply State.setDomain_keeps | with_reducible apply State.addFld_keeps | with_reducible apply State.setFld_keeps | with_reducible apply Done.plain_keeps | with_reducible apply Done.bad_keeps | fail_if_no_progress (with_reducible apply Keeps.upd) | (with_reducible refine Keeps.foldl ?_ ?_; on_goal 2 => (intro t x ht; beta_reduce)) | (with_reducible refine Keeps.foldl2 ?_ ?_; on_goal 2 => (intro t x ht; beta_reduce)) | with_reducible apply KeepsO.next | fail_if_no_progress (with_reducible apply Keeps.updFree) | (with_reducible refine Keeps.foldl1 ?_ ?_; on_goal 2 => (intro t x ht; beta_reduce)) | (with_reducible apply Keeps.fst; with_reducible assumption) | refine Keeps.ite ?_ ?_ | split | (intro a; intros; beta_reduce) | (with_reducible apply Keeps.snd; with_reducible assumption))

theorem State.brownOut_keeps {s0 s : State} {d} (h : Keeps kq s0 s) : Keeps kq s0 (State.brownOut s d) := by
  unfold State.brownOut
  repeat' (first | with_reducible assumption | with_reducible refine Keeps.ite ?_ ?_ | ((fail_if_no_progress (extract_lets +onlyGivenNames y)); (have z_ := y; guard_hyp z_ : State; clear z_); refine Keeps.cut (kq := kq) (s0 := s0) y ?_ ?_; (on_goal 1 => subst y); (on_goal 2 => (intro hy; try clear_value y))) | ((fail_if_no_progress (extract_lets +onlyGivenNames y)); (have z_ := y; guard_hyp z_ : State × _; clear z_); refine Keeps.cut1 (kq := kq) (s0 := s0) y ?_ ?_; (on_goal 1 => subst y); (on_goal 2 => (intro hy; try clear_value y))) | ((fail_if_no_progress (extract_lets +onlyGivenNames y)); (have z_ := y; guard_hyp z_ : _ × State; clear z_); refine Keeps.cut2 (kq := kq) (s0 := s0) y ?_ ?_; (on_goal 1 => subst y); (on_goal 2 => (intro hy; try clear_value y))) | ((fail_if_no_progress (extract_lets +onlyGivenNames y)); refine Keeps.fn y ?_; subst y; beta_reduce) | ((fail_if_no_progress (extract_lets +onlyGivenNames y)); clear_value y) | ((fail_if_no_progress (extract_lets +onlyGivenNames y)); subst y) | with_reducible apply State.raise_keeps | with_reducible apply State.brownLoss_keeps | with_reducible apply State.brownNote_keeps | with_reducible apply Done.plain_keeps | with_reducible apply Done.bad_keeps | fail_if_no_progress (with_reducible apply Keeps.upd) | (with_reducible refine Keeps.foldl ?_ ?_; on_goal 2 => (intro t x ht; beta_reduce)) | (with_reducible refine Keeps.foldl2 ?_ ?_; on_goal 2 => (intro t x ht; beta_reduce)) | with_reducible apply KeepsO.next | fail_if_no_progress (with_reducible apply Keeps.updFree) | (with_reducible refine Keeps.foldl1 ?_ ?_; on_goal 2 => (intro t x ht; beta_reduce)) | (with_reducible apply Keeps.fst; with_reducible assumption) | refine Keeps.ite ?_ ?_ | split | (intro a; intros; beta_reduce) | (with_reducible apply Keeps.snd; with_reducible assumption))

theorem State.brownRestart_keeps {s0 s : State} {d} (h : Keeps kq s0 s) : Keeps kq s0 (State.brownRestart s d) := by
  unfold State.brownRestart
  repeat' (first | with_reducible assumption | with_reducible refine Keeps.ite ?_ ?_ | ((fail_if_no_progress (extract_lets +onlyGivenNames y)); (have z_ := y; guard_hyp z_ : State; clear z_); refine Keeps.cut (kq := kq) (s0 := s0) y ?_ ?_; (on_goal 1 => subst y); (on_goal 2 => (intro hy; try clear_value y))) | ((fail_if_no_progress (extract_lets +onlyGivenNames y)); clear_value y) | with_reducible apply State.setDomain_keeps | with_reducible apply State.romBoot_keeps | with_reducible apply State.refreshReplace_keeps | with_reducible apply State.setFld_keeps | fail_if_no_progress (with_reducible apply Keeps.upd) | split)

theorem State.chainFlush_keeps {s0 s : State} {tx} (h : Keeps kq s0 s) : Keeps kq s0 (State.chainFlush s tx) := by
  unfold State.chainFlush
  repeat' (first | with_reducible assumption | with_reducible refine Keeps.ite ?_ ?_ | ((fail_if_no_progress (extract_lets +onlyGivenNames y)); (have z_ := y; guard_hyp z_ : State; clear z_); refine Keeps.cut (kq := kq) (s0 := s0) y ?_ ?_; (on_goal 1 => subst y); (on_goal 2 => (intro hy; try clear_value y))) | ((fail_if_no_progress (extract_lets +onlyGivenNames y)); (have z_ := y; guard_hyp z_ : State × _; clear z_); refine Keeps.cut1 (kq := kq) (s0 := s0) y ?_ ?_; (on_goal 1 => subst y); (on_goal 2 => (intro hy; try clear_value y))) | ((fail_if_no_progress (extract_lets +onlyGivenNames y)); (have z_ := y; guard_hyp z_ : _ × State; clear z_); refine Keeps.cut2 (kq := kq) (s0 := s0) y ?_ ?_; (on_goal 1 => subst y); (on_goal 2 => (intro hy; try clear_value y))) | ((fail_if_no_progress (extract_lets +onlyGivenNames y)); refine Keeps.fn y ?_; subst y; beta_reduce) | ((fail_if_no_progress (extract_lets +onlyGivenNames y)); clear_value y) | ((fail_if_no_progress (extract_lets +onlyGivenNames y)); subst y) | with_reducible apply Done.plain_keeps | with_reducible apply Done.bad_keeps | fail_if_no_progress (with_reducible apply Keeps.upd) | (with_reducible refine Keeps.foldl ?_ ?_; on_goal 2 => (intro t x ht; beta_reduce)) | (with_reducible refine Keeps.foldl2 ?_ ?_; on_goal 2 => (intro t x ht; beta_reduce)) | with_reducible apply KeepsO.next | fail_if_no_progress (with_reducible apply Keeps.updFree) | (with_reducible refine Keeps.foldl1 ?_ ?_; on_goal 2 => (intro t x ht; beta_reduce)) | (with_reducible apply Keeps.fst; with_reducible assumption) | refine Keeps.ite ?_ ?_ | split | (intro a; intros; beta_reduce) | (with_reducible apply Keeps.snd; with_reducible assumption))

theorem State.clipSlots_keeps {s0 s : State} (h : Keeps kq s0 s) : Keeps kq s0 (State.clipSlots s) := by
  unfold State.clipSlots
  repeat' (first | with_reducible assumption | with_reducible refine Keeps.ite ?_ ?_ | with_reducible apply State.clipSlotEnd_keeps | (with_reducible refine Keeps.foldl ?_ ?_; on_goal 2 => (intro t x ht; beta_reduce)))

theorem State.notePeakUnit_keeps {s0 s : State} {b u n} (h : Keeps kq s0 s) : Keeps kq s0 (State.notePeakUnit s b u n) := by
  unfold State.notePeakUnit
  repeat' (first | with_reducible assumption | with_reducible refine Keeps.ite ?_ ?_ | with_reducible apply State.setFld_keeps)

theorem State.noteOverruns_keeps {s0 s : State} {l} (h : Keeps kq s0 s) : Keeps kq s0 (State.noteOverruns s l) := by
  unfold State.noteOverruns
  repeat' (first | with_reducible assumption | with_reducible refine Keeps.ite ?_ ?_ | ((fail_if_no_progress (extract_lets +onlyGivenNames y)); (have z_ := y; guard_hyp z_ : State; clear z_); refine Keeps.cut (kq := kq) (s0 := s0) y ?_ ?_; (on_goal 1 => subst y); (on_goal 2 => (intro hy; try clear_value y))) | with_reducible apply State.recFlag_keeps | with_reducible apply State.notePeakUnit_keeps | with_reducible apply State.noteOverrun_keeps | (with_reducible refine Keeps.foldl ?_ ?_; on_goal 2 => (intro t x ht; beta_reduce)))

theorem State.quietTick_keeps {s0 s : State} (h : Keeps kq s0 s) : Keeps kq s0 (State.quietTick s) := by
  unfold State.quietTick
  repeat' (first | with_reducible assumption | with_reducible refine Keeps.ite ?_ ?_ | ((fail_if_no_progress (extract_lets +onlyGivenNames y)); (have z_ := y; guard_hyp z_ : State; clear z_); refine Keeps.cut (kq := kq) (s0 := s0) y ?_ ?_; (on_goal 1 => subst y); (on_goal 2 => (intro hy; try clear_value y))) | ((fail_if_no_progress (extract_lets +onlyGivenNames y)); refine Keeps.fn y ?_; subst y; beta_reduce) | ((fail_if_no_progress (extract_lets +onlyGivenNames y)); clear_value y) | with_reducible apply State.gatherSymbols_keeps | with_reducible apply State.combineSymbol_keeps | with_reducible apply State.casTick_keeps | fail_if_no_progress (with_reducible apply Keeps.upd) | (with_reducible refine Keeps.foldl ?_ ?_; on_goal 2 => (intro t x ht; beta_reduce)))

theorem State.frontVoid_keeps {s0 s : State} {rx tx} (h : Keeps kq s0 s) : Keeps kq s0 (State.frontVoid s rx tx) := by
  unfold State.frontVoid
  repeat' (first | with_reducible assumption | ((fail_if_no_progress (extract_lets +onlyGivenNames y)); (have z_ := y; guard_hyp z_ : State; clear z_); refine Keeps.cut (kq := kq) (s0 := s0) y ?_ ?_; (on_goal 1 => subst y); (on_goal 2 => (intro hy; try clear_value y))) | ((fail_if_no_progress (extract_lets +onlyGivenNames y)); clear_value y) | with_reducible apply State.voidAirTick_keeps | fail_if_no_progress (with_reducible apply Keeps.upd) | (with_reducible refine Keeps.foldl ?_ ?_; on_goal 2 => (intro t x ht; beta_reduce)))

theorem State.zeroDue_keeps {s0 s : State} (h : Keeps kq s0 s) : Keeps kq s0 (State.zeroDue s) := by
  unfold State.zeroDue
  repeat' (first | with_reducible assumption | ((fail_if_no_progress (extract_lets +onlyGivenNames y)); clear_value y) | fail_if_no_progress (with_reducible apply Keeps.upd))

theorem State.voidDue_keeps {s0 s : State} (h : Keeps kq s0 s) : Keeps kq s0 (State.voidDue s) := by
  unfold State.voidDue
  repeat' (first | with_reducible assumption | ((fail_if_no_progress (extract_lets +onlyGivenNames y)); clear_value y) | fail_if_no_progress (with_reducible apply Keeps.upd))

theorem State.workTick_keeps {s0 s : State} {x void down} (h : Keeps false s0 s) : Keeps false s0 (State.workTick s x void down) := by
  unfold State.workTick
  repeat' (first | with_reducible assumption | with_reducible refine Keeps.ite ?_ ?_ | ((fail_if_no_progress (extract_lets +onlyGivenNames y)); (have z_ := y; guard_hyp z_ : State; clear z_); refine Keeps.cut (kq := false) (s0 := s0) y ?_ ?_; (on_goal 1 => subst y); (on_goal 2 => (intro hy; try clear_value y))) | ((fail_if_no_progress (extract_lets +onlyGivenNames y)); (have z_ := y; guard_hyp z_ : State × _; clear z_); refine Keeps.cut1 (kq := false) (s0 := s0) y ?_ ?_; (on_goal 1 => subst y); (on_goal 2 => (intro hy; try clear_value y))) | ((fail_if_no_progress (extract_lets +onlyGivenNames y)); (have z_ := y; guard_hyp z_ : _ × State; clear z_); refine Keeps.cut2 (kq := false) (s0 := s0) y ?_ ?_; (on_goal 1 => subst y); (on_goal 2 => (intro hy; try clear_value y))) | ((fail_if_no_progress (extract_lets +onlyGivenNames y)); refine Keeps.fn y ?_; subst y; beta_reduce) | ((fail_if_no_progress (extract_lets +onlyGivenNames y)); clear_value y) | ((fail_if_no_progress (extract_lets +onlyGivenNames y)); subst y) | with_reducible apply State.frontVoid_keeps | with_reducible apply State.ulTick_keeps | with_reducible apply State.rxTick_keeps | with_reducible apply State.rawTick_keeps | with_reducible apply State.praTick_keeps | with_reducible apply State.block12_keeps | with_reducible apply State.zeroDue_keeps | with_reducible apply State.voidDue_keeps | with_reducible apply State.chainFlush_keeps | with_reducible apply State.txTick_keeps | with_reducible apply State.dlTick_keeps | with_reducible apply State.casTick_keeps | with_reducible apply State.overrun9_keeps | with_reducible apply State.oxInputs_keeps | with_reducible apply State.oxTick_keeps | with_reducible apply State.closeSymbols_keeps | with_reducible apply State.airQuality_keeps | with_reducible apply State.clipSlots_keeps | with_reducible apply Done.plain_keeps | with_reducible apply Done.bad_keeps | fail_if_no_progress (with_reducible apply Keeps.upd) | (with_reducible refine Keeps.foldl ?_ ?_; on_goal 2 => (intro t x ht; beta_reduce)) | (with_reducible refine Keeps.foldl2 ?_ ?_; on_goal 2 => (intro t x ht; beta_reduce)) | with_reducible apply KeepsO.next | fail_if_no_progress (with_reducible apply Keeps.updFree) | (with_reducible refine Keeps.foldl1 ?_ ?_; on_goal 2 => (intro t x ht; beta_reduce)) | (with_reducible apply Keeps.fst; with_reducible assumption) | refine Keeps.ite ?_ ?_ | split | (intro a; intros; beta_reduce) | (with_reducible apply Keeps.snd; with_reducible assumption))

theorem State.markForced_keeps {s0 s : State} {n fs} (h : Keeps kq s0 s) : Keeps kq s0 (State.markForced s n fs) := by
  unfold State.markForced
  repeat' (first | with_reducible assumption | ((fail_if_no_progress (extract_lets +onlyGivenNames y)); refine Keeps.fn y ?_; subst y; beta_reduce) | ((fail_if_no_progress (extract_lets +onlyGivenNames y)); clear_value y) | fail_if_no_progress (with_reducible apply Keeps.upd))

theorem State.noteCycles_keeps {s0 s : State} {l ovr} (h : Keeps kq s0 s) : Keeps kq s0 (State.noteCycles s l ovr) := by
  unfold State.noteCycles
  repeat' (first | with_reducible assumption | with_reducible refine Keeps.ite ?_ ?_ | ((fail_if_no_progress (extract_lets +onlyGivenNames y)); clear_value y) | with_reducible apply State.notePeakUnit_keeps | with_reducible apply State.notePeak_keeps | (with_reducible refine Keeps.foldl ?_ ?_; on_goal 2 => (intro t x ht; beta_reduce)))

theorem State.closeBlocks_keeps {s0 s : State} {x} (h : Keeps false s0 s) : Keeps false s0 (State.closeBlocks s x) := by
  unfold State.closeBlocks
  repeat' (first | with_reducible assumption | with_reducible refine Keeps.ite ?_ ?_ | ((fail_if_no_progress (extract_lets +onlyGivenNames y)); (have z_ := y; guard_hyp z_ : State; clear z_); refine Keeps.cut (kq := false) (s0 := s0) y ?_ ?_; (on_goal 1 => subst y); (on_goal 2 => (intro hy; try clear_value y))) | ((fail_if_no_progress (extract_lets +onlyGivenNames y)); refine Keeps.fn y ?_; subst y; beta_reduce) | ((fail_if_no_progress (extract_lets +onlyGivenNames y)); clear_value y) | with_reducible apply State.bridgeCrc_keeps | with_reducible apply State.noteOverruns_keeps | with_reducible apply State.quietTick_keeps | with_reducible apply State.ptpTick_keeps | with_reducible apply State.workTick_keeps | with_reducible apply State.engTick_keeps | with_reducible apply State.bulkTick_keeps | with_reducible apply State.markForced_keeps | with_reducible apply State.slotsEnd_keeps | with_reducible apply State.noteCycles_keeps | fail_if_no_progress (with_reducible apply Keeps.upd))

theorem State.withOthers_keeps {s0 s : State} {ms m} (h : Keeps kq s0 s) : Keeps kq s0 (State.withOthers s ms m) := by
  unfold State.withOthers
  repeat' (first | with_reducible assumption | with_reducible apply State.armTrial_keeps | (with_reducible refine Keeps.foldl ?_ ?_; on_goal 2 => (intro t x ht; beta_reduce)))

theorem stateOf_keeps {s0 s : State} {o} (h : Keeps kq s0 s) (ho : KeepsO kq s0 o) : Keeps kq s0 (stateOf s o) := by
  unfold stateOf; split
  · exact ho _ rfl
  · exact h

theorem State.run_keeps {s0 s : State} {f} (hf : ∀ a0, Keeps kq s0 a0 → KeepsO kq s0 (f a0)) (h : Keeps kq s0 s) : Keeps kq s0 (State.run s f) := by
  unfold State.run
  repeat' (first | with_reducible assumption | with_reducible apply stateOf_keeps | with_reducible apply hf)

theorem State.commitRow_keeps {s0 s : State} {c} (h : Keeps kq s0 s) : Keeps kq s0 (State.commitRow s c) := by
  unfold State.commitRow
  repeat' (first | with_reducible assumption | ((fail_if_no_progress (extract_lets +onlyGivenNames y)); (have z_ := y; guard_hyp z_ : State; clear z_); refine Keeps.cut (kq := kq) (s0 := s0) y ?_ ?_; (on_goal 1 => subst y); (on_goal 2 => (intro hy; try clear_value y))) | ((fail_if_no_progress (extract_lets +onlyGivenNames y)); clear_value y) | with_reducible apply State.putPrivi_keeps | with_reducible apply State.run_keeps | with_reducible apply execPwrSetOp_keeps | with_reducible apply execPwrGateClose_keeps | with_reducible apply execPwrGateRelease_keeps | with_reducible apply execClkUpdateDividers_keeps | with_reducible apply execPathConfigCarriersRx_keeps | with_reducible apply execPathConfigCarriersTx_keeps | with_reducible apply execPathSetGain_keeps | with_reducible apply execPathSelectFreqEntry_keeps | with_reducible apply execPathDefineFreqEntry_keeps | with_reducible apply execPathLoadFilter_keeps | with_reducible apply execPathSetPowerStep_keeps | with_reducible apply execPathLoadPowerColumn_keeps | with_reducible apply execPathRetire_keeps | with_reducible apply execPathSetMask_keeps | with_reducible apply execPathSetFrontendSchedule_keeps | with_reducible apply execBfLoadBeamTable_keeps | with_reducible apply execBfSetCarrier_keeps | with_reducible apply execBfSetBeamLayer_keeps | with_reducible apply execDpdFreeze_keeps | with_reducible apply execDpdLoadModel_keeps | with_reducible apply execDpdLoadCoefficients_keeps | with_reducible apply execPrachConfig_keeps | with_reducible apply execFhMapEaxc_keeps | with_reducible apply execFhSetWindows_keeps | with_reducible apply execFhSetCompression_keeps | with_reducible apply execCasConfig_keeps | split | (intro a; intros; beta_reduce))

theorem State.closeGroup_keeps {s0 s : State} {c g} (h : Keeps kq s0 s) : Keeps kq s0 (State.closeGroup s c g) := by
  unfold State.closeGroup
  repeat' (first | with_reducible assumption | with_reducible refine Keeps.ite ?_ ?_ | ((fail_if_no_progress (extract_lets +onlyGivenNames y)); (have z_ := y; guard_hyp z_ : State; clear z_); refine Keeps.cut (kq := kq) (s0 := s0) y ?_ ?_; (on_goal 1 => subst y); (on_goal 2 => (intro hy; try clear_value y))) | ((fail_if_no_progress (extract_lets +onlyGivenNames y)); clear_value y) | with_reducible apply State.putGroups_keeps | with_reducible apply State.withAccepted_keeps | with_reducible apply State.finish_keeps | with_reducible apply State.commitRow_keeps | with_reducible apply State.measureCmd_keeps | (with_reducible refine Keeps.foldl ?_ ?_; on_goal 2 => (intro t x ht; beta_reduce)) | split)

theorem State.sense_keeps {s0 s : State} {m} (h : Keeps kq s0 s) : Keeps kq s0 (State.sense s m) := by
  unfold State.sense
  repeat' (first | with_reducible assumption | with_reducible refine Keeps.ite ?_ ?_ | with_reducible apply State.setFld_keeps | with_reducible apply State.addFld_keeps | split)

theorem State.closeRest_keeps {s0 s : State} {x} (h : Keeps kq s0 s) : Keeps kq s0 (State.closeRest s x) := by
  unfold State.closeRest
  repeat' (first | with_reducible assumption | with_reducible apply State.sense_keeps | with_reducible apply State.laneTick_keeps | (with_reducible refine Keeps.foldl ?_ ?_; on_goal 2 => (intro t x ht; beta_reduce)))

theorem State.controlLost_keeps {s0 s : State} (h : Keeps kq s0 s) : Keeps kq s0 (State.controlLost s) := by
  unfold State.controlLost
  repeat' (first | with_reducible assumption | with_reducible refine Keeps.ite ?_ ?_ | ((fail_if_no_progress (extract_lets +onlyGivenNames y)); (have z_ := y; guard_hyp z_ : State; clear z_); refine Keeps.cut (kq := kq) (s0 := s0) y ?_ ?_; (on_goal 1 => subst y); (on_goal 2 => (intro hy; try clear_value y))) | ((fail_if_no_progress (extract_lets +onlyGivenNames y)); clear_value y) | with_reducible apply State.refreshService_keeps | with_reducible apply State.enterSafe_keeps | with_reducible apply State.setFld_keeps | fail_if_no_progress (with_reducible apply Keeps.upd))

theorem State.missLoads_keeps {s0 s : State} (h : Keeps kq s0 s) : Keeps kq s0 (State.missLoads s) := by
  unfold State.missLoads
  repeat' (first | with_reducible assumption | with_reducible apply State.raise_keeps | with_reducible apply State.setCmp_keeps | (with_reducible refine Keeps.foldl ?_ ?_; on_goal 2 => (intro t x ht; beta_reduce)))

theorem State.loadCommits_keeps {s0 s : State} {l} (h : Keeps kq s0 s) : Keeps kq s0 (State.loadCommits s l) := by
  unfold State.loadCommits
  repeat' (first | with_reducible assumption | with_reducible refine Keeps.ite ?_ ?_ | ((fail_if_no_progress (extract_lets +onlyGivenNames y)); (have z_ := y; guard_hyp z_ : State; clear z_); refine Keeps.cut (kq := kq) (s0 := s0) y ?_ ?_; (on_goal 1 => subst y); (on_goal 2 => (intro hy; try clear_value y))) | ((fail_if_no_progress (extract_lets +onlyGivenNames y)); clear_value y) | with_reducible apply State.discard_keeps | with_reducible apply State.setFld_keeps | fail_if_no_progress (with_reducible apply Keeps.upd))

theorem State.shiftRamp_keeps {s0 s : State} {l} (h : Keeps kq s0 s) : Keeps kq s0 (State.shiftRamp s l) := by
  unfold State.shiftRamp
  repeat' (first | with_reducible assumption | with_reducible refine Keeps.ite ?_ ?_ | ((fail_if_no_progress (extract_lets +onlyGivenNames y)); (have z_ := y; guard_hyp z_ : State; clear z_); refine Keeps.cut (kq := kq) (s0 := s0) y ?_ ?_; (on_goal 1 => subst y); (on_goal 2 => (intro hy; try clear_value y))) | ((fail_if_no_progress (extract_lets +onlyGivenNames y)); (have z_ := y; guard_hyp z_ : State × _; clear z_); refine Keeps.cut1 (kq := kq) (s0 := s0) y ?_ ?_; (on_goal 1 => subst y); (on_goal 2 => (intro hy; try clear_value y))) | ((fail_if_no_progress (extract_lets +onlyGivenNames y)); (have z_ := y; guard_hyp z_ : _ × State; clear z_); refine Keeps.cut2 (kq := kq) (s0 := s0) y ?_ ?_; (on_goal 1 => subst y); (on_goal 2 => (intro hy; try clear_value y))) | ((fail_if_no_progress (extract_lets +onlyGivenNames y)); refine Keeps.fn y ?_; subst y; beta_reduce) | ((fail_if_no_progress (extract_lets +onlyGivenNames y)); clear_value y) | ((fail_if_no_progress (extract_lets +onlyGivenNames y)); subst y) | with_reducible apply Done.plain_keeps | with_reducible apply Done.bad_keeps | fail_if_no_progress (with_reducible apply Keeps.upd) | (with_reducible refine Keeps.foldl ?_ ?_; on_goal 2 => (intro t x ht; beta_reduce)) | (with_reducible refine Keeps.foldl2 ?_ ?_; on_goal 2 => (intro t x ht; beta_reduce)) | with_reducible apply KeepsO.next | fail_if_no_progress (with_reducible apply Keeps.updFree) | (with_reducible refine Keeps.foldl1 ?_ ?_; on_goal 2 => (intro t x ht; beta_reduce)) | (with_reducible apply Keeps.fst; with_reducible assumption) | refine Keeps.ite ?_ ?_ | split | (intro a; intros; beta_reduce) | (with_reducible apply Keeps.snd; with_reducible assumption))

theorem State.loadTick_keeps {s0 s : State} {l sfn} (h : Keeps kq s0 s) : Keeps kq s0 (State.loadTick s l sfn) := by
  unfold State.loadTick
  repeat' (first | with_reducible assumption | with_reducible refine Keeps.ite ?_ ?_ | ((fail_if_no_progress (extract_lets +onlyGivenNames y)); (have z_ := y; guard_hyp z_ : State; clear z_); refine Keeps.cut (kq := kq) (s0 := s0) y ?_ ?_; (on_goal 1 => subst y); (on_goal 2 => (intro hy; try clear_value y))) | ((fail_if_no_progress (extract_lets +onlyGivenNames y)); (have z_ := y; guard_hyp z_ : State × _; clear z_); refine Keeps.cut1 (kq := kq) (s0 := s0) y ?_ ?_; (on_goal 1 => subst y); (on_goal 2 => (intro hy; try clear_value y))) | ((fail_if_no_progress (extract_lets +onlyGivenNames y)); (have z_ := y; guard_hyp z_ : _ × State; clear z_); refine Keeps.cut2 (kq := kq) (s0 := s0) y ?_ ?_; (on_goal 1 => subst y); (on_goal 2 => (intro hy; try clear_value y))) | ((fail_if_no_progress (extract_lets +onlyGivenNames y)); refine Keeps.fn y ?_; subst y; beta_reduce) | ((fail_if_no_progress (extract_lets +onlyGivenNames y)); clear_value y) | ((fail_if_no_progress (extract_lets +onlyGivenNames y)); subst y) | with_reducible apply State.missLoads_keeps | with_reducible apply State.loadCommits_keeps | with_reducible apply State.shiftRamp_keeps | with_reducible apply State.setFld_keeps | with_reducible apply State.setTickMode_keeps | with_reducible apply State.setFrame_keeps | with_reducible apply State.raiseFree_keeps | with_reducible apply Done.plain_keeps | with_reducible apply Done.bad_keeps | fail_if_no_progress (with_reducible apply Keeps.upd) | (with_reducible refine Keeps.foldl ?_ ?_; on_goal 2 => (intro t x ht; beta_reduce)) | (with_reducible refine Keeps.foldl2 ?_ ?_; on_goal 2 => (intro t x ht; beta_reduce)) | with_reducible apply KeepsO.next | fail_if_no_progress (with_reducible apply Keeps.updFree) | (with_reducible refine Keeps.foldl1 ?_ ?_; on_goal 2 => (intro t x ht; beta_reduce)) | (with_reducible apply Keeps.fst; with_reducible assumption) | refine Keeps.ite ?_ ?_ | split | (intro a; intros; beta_reduce) | (with_reducible apply Keeps.snd; with_reducible assumption))

theorem State.nextTick_keeps {s0 s : State} (h : Keeps kq s0 s) : Keeps kq s0 (State.nextTick s) := by
  unfold State.nextTick
  repeat' (first | with_reducible assumption | with_reducible refine Keeps.ite ?_ ?_ | ((fail_if_no_progress (extract_lets +onlyGivenNames y)); clear_value y) | with_reducible apply State.setFrame_keeps | with_reducible apply State.setFld_keeps | fail_if_no_progress (with_reducible apply Keeps.upd))

theorem State.countTick_keeps {s0 s : State} (h : Keeps kq s0 s) : Keeps kq s0 (State.countTick s) := by
  unfold State.countTick
  repeat' (first | with_reducible assumption | with_reducible apply State.loadTick_keeps | with_reducible apply State.nextTick_keeps | split)

theorem State.countUnlock_keeps {s0 s : State} (h : Keeps kq s0 s) : Keeps kq s0 (State.countUnlock s) := by
  unfold State.countUnlock
  repeat' (first | with_reducible assumption | with_reducible refine Keeps.ite ?_ ?_ | with_reducible apply State.setFld_keeps)

theorem State.deviceReset_keeps {s0 s : State} {flash memOk} (h : Keeps kq s0 s) : Keeps kq s0 (State.deviceReset s flash memOk) := by
  unfold State.deviceReset
  repeat' (first | with_reducible assumption | ((fail_if_no_progress (extract_lets +onlyGivenNames y)); (have z_ := y; guard_hyp z_ : State; clear z_); refine Keeps.cut (kq := kq) (s0 := s0) y ?_ ?_; (on_goal 1 => subst y); (on_goal 2 => (intro hy; try clear_value y))) | ((fail_if_no_progress (extract_lets +onlyGivenNames y)); clear_value y) | with_reducible apply State.allReset_keeps | with_reducible apply State.memTest_keeps | with_reducible apply State.tripPins_keeps | fail_if_no_progress (with_reducible apply Keeps.upd) | split)

theorem State.disarmAll_keeps {s0 s : State} (h : Keeps kq s0 s) : Keeps kq s0 (State.disarmAll s) := by
  unfold State.disarmAll
  repeat' (first | with_reducible assumption | ((fail_if_no_progress (extract_lets +onlyGivenNames y)); (have z_ := y; guard_hyp z_ : State; clear z_); refine Keeps.cut (kq := kq) (s0 := s0) y ?_ ?_; (on_goal 1 => subst y); (on_goal 2 => (intro hy; try clear_value y))) | ((fail_if_no_progress (extract_lets +onlyGivenNames y)); clear_value y) | with_reducible apply State.setFld_keeps | fail_if_no_progress (with_reducible apply Keeps.upd) | (with_reducible refine Keeps.foldl ?_ ?_; on_goal 2 => (intro t x ht; beta_reduce)))

theorem State.putInjections_keeps {s0 s : State} {l} (h : Keeps kq s0 s) : Keeps kq s0 (State.putInjections s l) := by
  unfold State.putInjections
  repeat' (first | with_reducible assumption | ((fail_if_no_progress (extract_lets +onlyGivenNames y)); clear_value y) | fail_if_no_progress (with_reducible apply Keeps.upd))

theorem State.dropInjection_keeps {s0 s : State} {d} (h : Keeps kq s0 s) : Keeps kq s0 (State.dropInjection s d) := by
  unfold State.dropInjection
  repeat' (first | with_reducible assumption | with_reducible apply State.putInjections_keeps)

theorem State.eccError_keeps {s0 s : State} {p} (h : Keeps kq s0 s) : Keeps kq s0 (State.eccError s p) := by
  unfold State.eccError
  repeat' (first | with_reducible assumption | with_reducible refine Keeps.ite ?_ ?_ | ((fail_if_no_progress (extract_lets +onlyGivenNames y)); (have z_ := y; guard_hyp z_ : State; clear z_); refine Keeps.cut (kq := kq) (s0 := s0) y ?_ ?_; (on_goal 1 => subst y); (on_goal 2 => (intro hy; try clear_value y))) | ((fail_if_no_progress (extract_lets +onlyGivenNames y)); clear_value y) | with_reducible apply State.raiseFree_keeps | with_reducible apply State.logMemFail_keeps | with_reducible apply State.addFld_keeps | with_reducible apply State.engFault_keeps | fail_if_no_progress (with_reducible apply Keeps.upd) | split)

theorem State.setActivation_keeps {s0 s : State} {a} (h : Keeps kq s0 s) : Keeps kq s0 (State.setActivation s a) := by
  unfold State.setActivation
  repeat' (first | with_reducible assumption | ((fail_if_no_progress (extract_lets +onlyGivenNames y)); clear_value y) | fail_if_no_progress (with_reducible apply Keeps.upd))

theorem State.setMode_keeps {s0 s : State} {m} (h : Keeps kq s0 s) : Keeps kq s0 (State.setMode s m) := by
  unfold State.setMode
  repeat' (first | with_reducible assumption | with_reducible refine Keeps.ite ?_ ?_ | ((fail_if_no_progress (extract_lets +onlyGivenNames y)); (have z_ := y; guard_hyp z_ : State; clear z_); refine Keeps.cut (kq := kq) (s0 := s0) y ?_ ?_; (on_goal 1 => subst y); (on_goal 2 => (intro hy; try clear_value y))) | with_reducible apply State.setFld_keeps | with_reducible apply State.refreshCal_keeps | with_reducible apply State.refreshReplace_keeps | with_reducible apply State.setMbxIrq_keeps)

theorem State.endActivation_keeps {s0 s : State} {a} (h : Keeps kq s0 s) : Keeps kq s0 (State.endActivation s a) := by
  unfold State.endActivation
  repeat' (first | with_reducible assumption | with_reducible refine Keeps.ite ?_ ?_ | ((fail_if_no_progress (extract_lets +onlyGivenNames y)); (have z_ := y; guard_hyp z_ : State; clear z_); refine Keeps.cut (kq := kq) (s0 := s0) y ?_ ?_; (on_goal 1 => subst y); (on_goal 2 => (intro hy; try clear_value y))) | ((fail_if_no_progress (extract_lets +onlyGivenNames y)); clear_value y) | with_reducible apply State.setActivation_keeps | with_reducible apply State.storeResult_keeps | with_reducible apply State.finishNow_keeps | with_reducible apply State.runSlot_keeps | with_reducible apply State.setMode_keeps | with_reducible apply State.raise_keeps | with_reducible apply State.setFld_keeps | fail_if_no_progress (with_reducible apply Keeps.upd))

theorem State.forgetTag_keeps {s0 s : State} {tag} (h : Keeps kq s0 s) : Keeps kq s0 (State.forgetTag s tag) := by
  unfold State.forgetTag
  repeat' (first | with_reducible assumption | ((fail_if_no_progress (extract_lets +onlyGivenNames y)); clear_value y) | fail_if_no_progress (with_reducible apply Keeps.upd))

theorem State.endPending_keeps {s0 s : State} (h : Keeps kq s0 s) : Keeps kq s0 (State.endPending s) := by
  unfold State.endPending
  repeat' (first | with_reducible assumption | ((fail_if_no_progress (extract_lets +onlyGivenNames y)); clear_value y) | with_reducible apply State.forgetTag_keeps | with_reducible apply State.finishNow_keeps | (with_reducible refine Keeps.foldl ?_ ?_; on_goal 2 => (intro t x ht; beta_reduce)))

theorem State.renewRx_keeps {s0 s : State} {p} (h : Keeps kq s0 s) : Keeps kq s0 (State.renewRx s p) := by
  unfold State.renewRx
  repeat' (first | with_reducible assumption | ((fail_if_no_progress (extract_lets +onlyGivenNames y)); (have z_ := y; guard_hyp z_ : State; clear z_); refine Keeps.cut (kq := kq) (s0 := s0) y ?_ ?_; (on_goal 1 => subst y); (on_goal 2 => (intro hy; try clear_value y))) | ((fail_if_no_progress (extract_lets +onlyGivenNames y)); refine Keeps.fn y ?_; subst y; beta_reduce) | ((fail_if_no_progress (extract_lets +onlyGivenNames y)); clear_value y) | with_reducible apply State.resetRange_keeps | with_reducible apply State.setFld_keeps | with_reducible apply State.refreshRxLoad_keeps | fail_if_no_progress (with_reducible apply Keeps.upd))

theorem State.renewTx_keeps {s0 s : State} {p} (h : Keeps kq s0 s) : Keeps kq s0 (State.renewTx s p) := by
  unfold State.renewTx
  repeat' (first | with_reducible assumption | with_reducible refine Keeps.ite ?_ ?_ | ((fail_if_no_progress (extract_lets +onlyGivenNames y)); (have z_ := y; guard_hyp z_ : State; clear z_); refine Keeps.cut (kq := kq) (s0 := s0) y ?_ ?_; (on_goal 1 => subst y); (on_goal 2 => (intro hy; try clear_value y))) | ((fail_if_no_progress (extract_lets +onlyGivenNames y)); refine Keeps.fn y ?_; subst y; beta_reduce) | ((fail_if_no_progress (extract_lets +onlyGivenNames y)); clear_value y) | with_reducible apply State.resetRange_keeps | with_reducible apply State.setFld_keeps | with_reducible apply State.refreshTxLoad_keeps | with_reducible apply State.refreshCap_keeps | fail_if_no_progress (with_reducible apply Keeps.upd))

theorem State.renewQuad_keeps {s0 s : State} {n} (h : Keeps kq s0 s) : Keeps kq s0 (State.renewQuad s n) := by
  unfold State.renewQuad
  repeat' (first | with_reducible assumption | with_reducible apply State.resetRange_keeps)

theorem State.renewOx_keeps {s0 s : State} {j} (h : Keeps kq s0 s) : Keeps kq s0 (State.renewOx s j) := by
  unfold State.renewOx
  repeat' (first | with_reducible assumption | ((fail_if_no_progress (extract_lets +onlyGivenNames y)); (have z_ := y; guard_hyp z_ : State; clear z_); refine Keeps.cut (kq := kq) (s0 := s0) y ?_ ?_; (on_goal 1 => subst y); (on_goal 2 => (intro hy; try clear_value y))) | with_reducible apply State.resetRange_keeps | with_reducible apply State.setFld_keeps | (with_reducible refine Keeps.foldl ?_ ?_; on_goal 2 => (intro t x ht; beta_reduce)))

theorem State.renewEngine_keeps {s0 s : State} {e} (h : Keeps kq s0 s) : Keeps kq s0 (State.renewEngine s e) := by
  unfold State.renewEngine
  repeat' (first | with_reducible assumption | ((fail_if_no_progress (extract_lets +onlyGivenNames y)); (have z_ := y; guard_hyp z_ : State; clear z_); refine Keeps.cut (kq := kq) (s0 := s0) y ?_ ?_; (on_goal 1 => subst y); (on_goal 2 => (intro hy; try clear_value y))) | ((fail_if_no_progress (extract_lets +onlyGivenNames y)); clear_value y) | with_reducible apply State.resetRange_keeps | with_reducible apply State.setEngRun_keeps | fail_if_no_progress (with_reducible apply Keeps.upd))

theorem State.renewLane_keeps {s0 s : State} {l} (h : Keeps kq s0 s) : Keeps kq s0 (State.renewLane s l) := by
  unfold State.renewLane
  repeat' (first | with_reducible assumption | with_reducible refine Keeps.ite ?_ ?_ | ((fail_if_no_progress (extract_lets +onlyGivenNames y)); (have z_ := y; guard_hyp z_ : State; clear z_); refine Keeps.cut (kq := kq) (s0 := s0) y ?_ ?_; (on_goal 1 => subst y); (on_goal 2 => (intro hy; try clear_value y))) | ((fail_if_no_progress (extract_lets +onlyGivenNames y)); (have z_ := y; guard_hyp z_ : State × _; clear z_); refine Keeps.cut1 (kq := kq) (s0 := s0) y ?_ ?_; (on_goal 1 => subst y); (on_goal 2 => (intro hy; try clear_value y))) | ((fail_if_no_progress (extract_lets +onlyGivenNames y)); (have z_ := y; guard_hyp z_ : _ × State; clear z_); refine Keeps.cut2 (kq := kq) (s0 := s0) y ?_ ?_; (on_goal 1 => subst y); (on_goal 2 => (intro hy; try clear_value y))) | ((fail_if_no_progress (extract_lets +onlyGivenNames y)); refine Keeps.fn y ?_; subst y; beta_reduce) | ((fail_if_no_progress (extract_lets +onlyGivenNames y)); clear_value y) | ((fail_if_no_progress (extract_lets +onlyGivenNames y)); subst y) | with_reducible apply State.resetRange_keeps | with_reducible apply State.setFld_keeps | with_reducible apply Done.plain_keeps | with_reducible apply Done.bad_keeps | fail_if_no_progress (with_reducible apply Keeps.upd) | (with_reducible refine Keeps.foldl ?_ ?_; on_goal 2 => (intro t x ht; beta_reduce)) | (with_reducible refine Keeps.foldl2 ?_ ?_; on_goal 2 => (intro t x ht; beta_reduce)) | with_reducible apply KeepsO.next | fail_if_no_progress (with_reducible apply Keeps.updFree) | (with_reducible refine Keeps.foldl1 ?_ ?_; on_goal 2 => (intro t x ht; beta_reduce)) | (with_reducible apply Keeps.fst; with_reducible assumption) | refine Keeps.ite ?_ ?_ | split | (intro a; intros; beta_reduce) | (with_reducible apply Keeps.snd; with_reducible assumption))

theorem State.renewPort_keeps {s0 s : State} {k} (h : Keeps kq s0 s) : Keeps kq s0 (State.renewPort s k) := by
  unfold State.renewPort
  repeat' (first | with_reducible assumption | with_reducible apply State.resetRange_keeps)

theorem State.renewCas_keeps {s0 s : State} {k} (h : Keeps kq s0 s) : Keeps kq s0 (State.renewCas s k) := by
  unfold State.renewCas
  repeat' (first | with_reducible assumption | with_reducible apply State.refreshPresent_keeps | with_reducible apply State.resetRange_keeps)

theorem State.returnUnit_keeps {s0 s : State} {src} (h : Keeps kq s0 s) : Keeps kq s0 (State.returnUnit s src) := by
  unfold State.returnUnit
  repeat' (first | with_reducible assumption | ((fail_if_no_progress (extract_lets +onlyGivenNames y)); (have z_ := y; guard_hyp z_ : State; clear z_); refine Keeps.cut (kq := kq) (s0 := s0) y ?_ ?_; (on_goal 1 => subst y); (on_goal 2 => (intro hy; try clear_value y))) | ((fail_if_no_progress (extract_lets +onlyGivenNames y)); refine Keeps.fn y ?_; subst y; beta_reduce) | ((fail_if_no_progress (extract_lets +onlyGivenNames y)); clear_value y) | with_reducible apply State.renewRx_keeps | with_reducible apply State.renewTx_keeps | with_reducible apply State.renewQuad_keeps | with_reducible apply State.renewOx_keeps | with_reducible apply State.renewEngine_keeps | with_reducible apply State.renewLane_keeps | with_reducible apply State.renewPort_keeps | with_reducible apply State.renewCas_keeps | with_reducible apply State.setRecSt_keeps | with_reducible apply State.raise_keeps | with_reducible apply State.refreshExcl_keeps | fail_if_no_progress (with_reducible apply Keeps.upd) | split)

theorem State.endReset_keeps {s0 s : State} {u} (h : Keeps kq s0 s) : Keeps kq s0 (State.endReset s u) := by
  unfold State.endReset
  repeat' (first | with_reducible assumption | ((fail_if_no_progress (extract_lets +onlyGivenNames y)); (have z_ := y; guard_hyp z_ : State; clear z_); refine Keeps.cut (kq := kq) (s0 := s0) y ?_ ?_; (on_goal 1 => subst y); (on_goal 2 => (intro hy; try clear_value y))) | ((fail_if_no_progress (extract_lets +onlyGivenNames y)); clear_value y) | with_reducible apply State.calRetire_keeps | with_reducible apply State.returnUnit_keeps | with_reducible apply State.refreshReplace_keeps | with_reducible apply State.finishNow_keeps | (with_reducible refine Keeps.foldl ?_ ?_; on_goal 2 => (intro t x ht; beta_reduce)))

theorem State.storeEnded_keeps {s0 s : State} (h : Keeps kq s0 s) : Keeps kq s0 (State.storeEnded s) := by
  unfold State.storeEnded
  repeat' (first | with_reducible assumption | with_reducible apply State.storeResult_keeps | (with_reducible refine Keeps.foldl ?_ ?_; on_goal 2 => (intro t x ht; beta_reduce)))

theorem State.writeReply_keeps {s0 s : State} (h : Keeps false s0 s) : Keeps false s0 (State.writeReply s) := by
  unfold State.writeReply
  repeat' (first | with_reducible assumption | with_reducible refine Keeps.ite ?_ ?_ | ((fail_if_no_progress (extract_lets +onlyGivenNames y)); (have z_ := y; guard_hyp z_ : State; clear z_); refine Keeps.cut (kq := false) (s0 := s0) y ?_ ?_; (on_goal 1 => subst y); (on_goal 2 => (intro hy; try clear_value y))) | ((fail_if_no_progress (extract_lets +onlyGivenNames y)); clear_value y) | with_reducible apply State.setFld_keeps | with_reducible apply State.hostWrite_keeps | with_reducible apply State.putPrivi_keeps | with_reducible apply State.setMbxIrq_keeps | split)

theorem State.flushReplies_keeps {s0 s : State} {n} (h : Keeps false s0 s) : Keeps false s0 (State.flushReplies s n) := by
  induction n generalizing s with
  | zero => unfold State.flushReplies; repeat' (first | with_reducible assumption | with_reducible apply State.writeReply_keeps | with_reducible apply ih)
  | succ n_ ih => unfold State.flushReplies; repeat' (first | with_reducible assumption | with_reducible apply State.writeReply_keeps | with_reducible apply ih)

theorem State.setTarget_keeps {s0 s : State} {t} (h : Keeps kq s0 s) : Keeps kq s0 (State.setTarget s t) := by
  unfold State.setTarget
  repeat' (first | with_reducible assumption | with_reducible apply State.setFld_keeps | split)

theorem State.enterStandby_keeps {s0 s : State} {t us} (h : Keeps false s0 s) : Keeps false s0 (State.enterStandby s t us) := by
  unfold State.enterStandby
  repeat' (first | with_reducible assumption | with_reducible refine Keeps.ite ?_ ?_ | ((fail_if_no_progress (extract_lets +onlyGivenNames y)); (have z_ := y; guard_hyp z_ : State; clear z_); refine Keeps.cut (kq := false) (s0 := s0) y ?_ ?_; (on_goal 1 => subst y); (on_goal 2 => (intro hy; try clear_value y))) | ((fail_if_no_progress (extract_lets +onlyGivenNames y)); (have z_ := y; guard_hyp z_ : State × _; clear z_); refine Keeps.cut1 (kq := false) (s0 := s0) y ?_ ?_; (on_goal 1 => subst y); (on_goal 2 => (intro hy; try clear_value y))) | ((fail_if_no_progress (extract_lets +onlyGivenNames y)); (have z_ := y; guard_hyp z_ : _ × State; clear z_); refine Keeps.cut2 (kq := false) (s0 := s0) y ?_ ?_; (on_goal 1 => subst y); (on_goal 2 => (intro hy; try clear_value y))) | ((fail_if_no_progress (extract_lets +onlyGivenNames y)); refine Keeps.fn y ?_; subst y; beta_reduce) | ((fail_if_no_progress (extract_lets +onlyGivenNames y)); clear_value y) | ((fail_if_no_progress (extract_lets +onlyGivenNames y)); subst y) | with_reducible apply State.finishNow_keeps | with_reducible apply State.storeEnded_keeps | with_reducible apply State.endPending_keeps | with_reducible apply State.flushReplies_keeps | with_reducible apply State.resetCas_keeps | with_reducible apply State.reapply_keeps | with_reducible apply State.wipeCtl_keeps | with_reducible apply State.wipeFab_keeps | with_reducible apply State.dmaStandby_keeps | with_reducible apply State.setFld_keeps | with_reducible apply State.setTarget_keeps | with_reducible apply Done.plain_keeps | with_reducible apply Done.bad_keeps | fail_if_no_progress (with_reducible apply Keeps.upd) | (with_reducible refine Keeps.foldl ?_ ?_; on_goal 2 => (intro t x ht; beta_reduce)) | (with_reducible refine Keeps.foldl2 ?_ ?_; on_goal 2 => (intro t x ht; beta_reduce)) | with_reducible apply KeepsO.next | fail_if_no_progress (with_reducible apply Keeps.updFree) | (with_reducible refine Keeps.foldl1 ?_ ?_; on_goal 2 => (intro t x ht; beta_reduce)) | (with_reducible apply Keeps.fst; with_reducible assumption) | refine Keeps.ite ?_ ?_ | split | (intro a; intros; beta_reduce) | (with_reducible apply Keeps.snd; with_reducible assumption))

theorem State.failPending_keeps {s0 s : State} (h : Keeps kq s0 s) : Keeps kq s0 (State.failPending s) := by
  unfold State.failPending
  repeat' (first | with_reducible assumption | ((fail_if_no_progress (extract_lets +onlyGivenNames y)); (have z_ := y; guard_hyp z_ : State; clear z_); refine Keeps.cut (kq := kq) (s0 := s0) y ?_ ?_; (on_goal 1 => subst y); (on_goal 2 => (intro hy; try clear_value y))) | ((fail_if_no_progress (extract_lets +onlyGivenNames y)); clear_value y) | with_reducible apply State.putPrivi_keeps | with_reducible apply State.forgetTag_keeps | with_reducible apply State.finishNow_keeps | (with_reducible refine Keeps.foldl ?_ ?_; on_goal 2 => (intro t x ht; beta_reduce)))

theorem State.logTrips_keeps {s0 s : State} {l} (h : Keeps kq s0 s) : Keeps kq s0 (State.logTrips s l) := by
  induction l generalizing s with
  | nil => unfold State.logTrips; repeat' (first | with_reducible assumption | with_reducible refine Keeps.ite ?_ ?_ | ((fail_if_no_progress (extract_lets +onlyGivenNames y)); (have z_ := y; guard_hyp z_ : State; clear z_); refine Keeps.cut (kq := kq) (s0 := s0) y ?_ ?_; (on_goal 1 => subst y); (on_goal 2 => (intro hy; try clear_value y))) | with_reducible apply State.raise_keeps | with_reducible apply State.raiseFree_keeps | with_reducible apply ih)
  | cons x_ r_ ih => unfold State.logTrips; repeat' (first | with_reducible assumption | with_reducible refine Keeps.ite ?_ ?_ | ((fail_if_no_progress (extract_lets +onlyGivenNames y)); (have z_ := y; guard_hyp z_ : State; clear z_); refine Keeps.cut (kq := kq) (s0 := s0) y ?_ ?_; (on_goal 1 => subst y); (on_goal 2 => (intro hy; try clear_value y))) | with_reducible apply State.raise_keeps | with_reducible apply State.raiseFree_keeps | with_reducible apply ih)

theorem State.fallbackStable_keeps {s0 s : State} (h : Keeps kq s0 s) : Keeps kq s0 (State.fallbackStable s) := by
  unfold State.fallbackStable
  repeat' (first | with_reducible assumption | with_reducible refine Keeps.ite ?_ ?_ | ((fail_if_no_progress (extract_lets +onlyGivenNames y)); (have z_ := y; guard_hyp z_ : State; clear z_); refine Keeps.cut (kq := kq) (s0 := s0) y ?_ ?_; (on_goal 1 => subst y); (on_goal 2 => (intro hy; try clear_value y))) | ((fail_if_no_progress (extract_lets +onlyGivenNames y)); clear_value y) | with_reducible apply State.logTrips_keeps | with_reducible apply State.setFld_keeps | with_reducible apply State.beginGroups_keeps | fail_if_no_progress (with_reducible apply Keeps.upd))

theorem State.forceDisagree_keeps {s0 s : State} {src} (h : Keeps kq s0 s) : Keeps kq s0 (State.forceDisagree s src) := by
  unfold State.forceDisagree
  repeat' (first | with_reducible assumption | with_reducible apply State.calDispute_keeps | split)

theorem State.retirePair_keeps {s0 s : State} {x} (h : Keeps kq s0 s) : Keeps kq s0 (State.retirePair s x) := by
  unfold State.retirePair
  repeat' (first | with_reducible assumption | with_reducible apply State.refreshReplace_keeps | with_reducible apply State.raiseFree_keeps | with_reducible apply State.markRetired_keeps)

theorem State.pairFails_keeps {s0 s : State} {x} (h : Keeps kq s0 s) : Keeps kq s0 (State.pairFails s x) := by
  unfold State.pairFails
  repeat' (first | with_reducible assumption | with_reducible refine Keeps.ite ?_ ?_ | ((fail_if_no_progress (extract_lets +onlyGivenNames y)); (have z_ := y; guard_hyp z_ : State; clear z_); refine Keeps.cut (kq := kq) (s0 := s0) y ?_ ?_; (on_goal 1 => subst y); (on_goal 2 => (intro hy; try clear_value y))) | ((fail_if_no_progress (extract_lets +onlyGivenNames y)); clear_value y) | with_reducible apply State.raiseFree_keeps | with_reducible apply State.calDiscard_keeps | with_reducible apply State.staleEstimates_keeps | with_reducible apply State.storeEnded_keeps | with_reducible apply State.failPending_keeps | with_reducible apply State.servoHoldover_keeps | with_reducible apply State.setMode_keeps | with_reducible apply State.retirePair_keeps | with_reducible apply State.controlLost_keeps | fail_if_no_progress (with_reducible apply Keeps.upd))

theorem State.noteWakeFail_keeps {s0 s : State} {d check src tgt} (h : Keeps kq s0 s) : Keeps kq s0 (State.noteWakeFail s d check src tgt) := by
  unfold State.noteWakeFail
  repeat' (first | with_reducible assumption | ((fail_if_no_progress (extract_lets +onlyGivenNames y)); (have z_ := y; guard_hyp z_ : State; clear z_); refine Keeps.cut (kq := kq) (s0 := s0) y ?_ ?_; (on_goal 1 => subst y); (on_goal 2 => (intro hy; try clear_value y))) | with_reducible apply State.setFld_keeps)

theorem State.raiseWakeFail_keeps {s0 s : State} {d check} (h : Keeps kq s0 s) : Keeps kq s0 (State.raiseWakeFail s d check) := by
  unfold State.raiseWakeFail
  repeat' (first | with_reducible assumption | with_reducible apply State.raise_keeps)

theorem State.retireDomain_keeps {s0 s : State} {d} (h : Keeps kq s0 s) : Keeps kq s0 (State.retireDomain s d) := by
  unfold State.retireDomain
  repeat' (first | with_reducible assumption | ((fail_if_no_progress (extract_lets +onlyGivenNames y)); (have z_ := y; guard_hyp z_ : State; clear z_); refine Keeps.cut (kq := kq) (s0 := s0) y ?_ ?_; (on_goal 1 => subst y); (on_goal 2 => (intro hy; try clear_value y))) | ((fail_if_no_progress (extract_lets +onlyGivenNames y)); clear_value y) | with_reducible apply State.refreshReplace_keeps | with_reducible apply State.retireUnit_keeps | fail_if_no_progress (with_reducible apply Keeps.upd) | (with_reducible refine Keeps.foldl ?_ ?_; on_goal 2 => (intro t x ht; beta_reduce)))

theorem State.startRequest_keeps {s0 s : State} {r} (h : Keeps kq s0 s) : Keeps kq s0 (State.startRequest s r) := by
  unfold State.startRequest
  repeat' (first | with_reducible assumption | with_reducible refine Keeps.ite ?_ ?_ | ((fail_if_no_progress (extract_lets +onlyGivenNames y)); (have z_ := y; guard_hyp z_ : State; clear z_); refine Keeps.cut (kq := kq) (s0 := s0) y ?_ ?_; (on_goal 1 => subst y); (on_goal 2 => (intro hy; try clear_value y))) | ((fail_if_no_progress (extract_lets +onlyGivenNames y)); clear_value y) | with_reducible apply State.finishNow_keeps | with_reducible apply State.predict_keeps | with_reducible apply State.beginGroups_keeps | with_reducible apply State.setTarget_keeps)

theorem State.takePending_keeps {s0 s : State} (h : Keeps kq s0 s) : Keeps kq s0 (State.takePending s) := by
  unfold State.takePending
  repeat' (first | with_reducible assumption | with_reducible refine Keeps.ite ?_ ?_ | ((fail_if_no_progress (extract_lets +onlyGivenNames y)); (have z_ := y; guard_hyp z_ : State; clear z_); refine Keeps.cut (kq := kq) (s0 := s0) y ?_ ?_; (on_goal 1 => subst y); (on_goal 2 => (intro hy; try clear_value y))) | ((fail_if_no_progress (extract_lets +onlyGivenNames y)); clear_value y) | with_reducible apply State.setFld_keeps | with_reducible apply State.finishNow_keeps | with_reducible apply State.startRequest_keeps | fail_if_no_progress (with_reducible apply Keeps.upd) | split)

theorem State.reachState_keeps {s0 s : State} {t us} (h : Keeps kq s0 s) : Keeps kq s0 (State.reachState s t us) := by
  unfold State.reachState
  repeat' (first | with_reducible assumption | ((fail_if_no_progress (extract_lets +onlyGivenNames y)); (have z_ := y; guard_hyp z_ : State; clear z_); refine Keeps.cut (kq := kq) (s0 := s0) y ?_ ?_; (on_goal 1 => subst y); (on_goal 2 => (intro hy; try clear_value y))) | ((fail_if_no_progress (extract_lets +onlyGivenNames y)); clear_value y) | with_reducible apply State.setFld_keeps | with_reducible apply State.setTarget_keeps | with_reducible apply State.finishNow_keeps | with_reducible apply State.takePending_keeps | with_reducible apply State.refreshCal_keeps | with_reducible apply State.raise_keeps | fail_if_no_progress (with_reducible apply Keeps.upd) | split)

theorem State.stepDone_keeps {s0 s : State} {t drop woken us} (h : Keeps kq s0 s) : Keeps kq s0 (State.stepDone s t drop woken us) := by
  unfold State.stepDone
  repeat' (first | with_reducible assumption | with_reducible refine Keeps.ite ?_ ?_ | ((fail_if_no_progress (extract_lets +onlyGivenNames y)); (have z_ := y; guard_hyp z_ : State; clear z_); refine Keeps.cut (kq := kq) (s0 := s0) y ?_ ?_; (on_goal 1 => subst y); (on_goal 2 => (intro hy; try clear_value y))) | ((fail_if_no_progress (extract_lets +onlyGivenNames y)); clear_value y) | with_reducible apply State.beginGroups_keeps | with_reducible apply State.bootGroupDone_keeps | with_reducible apply State.reachState_keeps | with_reducible apply State.putTrans_keeps | split)

theorem State.unwake_keeps {s0 s : State} {st d} (h : Keeps kq s0 s) : Keeps kq s0 (State.unwake s st d) := by
  unfold State.unwake
  repeat' (first | with_reducible assumption | with_reducible refine Keeps.ite ?_ ?_ | with_reducible apply State.setDomain_keeps | with_reducible apply State.domainOff_keeps | with_reducible apply State.setFld_keeps)

theorem State.wakeAbort_keeps {s0 s : State} {t d check us} (h : Keeps kq s0 s) : Keeps kq s0 (State.wakeAbort s t d check us) := by
  unfold State.wakeAbort
  repeat' (first | with_reducible assumption | with_reducible refine Keeps.ite ?_ ?_ | ((fail_if_no_progress (extract_lets +onlyGivenNames y)); (have z_ := y; guard_hyp z_ : State; clear z_); refine Keeps.cut (kq := kq) (s0 := s0) y ?_ ?_; (on_goal 1 => subst y); (on_goal 2 => (intro hy; try clear_value y))) | ((fail_if_no_progress (extract_lets +onlyGivenNames y)); clear_value y) | with_reducible apply State.domainOff_keeps | with_reducible apply State.noteWakeFail_keeps | with_reducible apply State.refreshService_keeps | with_reducible apply State.raiseWakeFail_keeps | with_reducible apply State.setFld_keeps | with_reducible apply State.refreshReplace_keeps | with_reducible apply State.retireDomain_keeps | with_reducible apply State.stepDone_keeps | with_reducible apply State.unwake_keeps | with_reducible apply State.setTarget_keeps | with_reducible apply State.finishNow_keeps | with_reducible apply State.takePending_keeps | fail_if_no_progress (with_reducible apply Keeps.upd) | (with_reducible refine Keeps.foldl ?_ ?_; on_goal 2 => (intro t x ht; beta_reduce)) | split)

theorem State.wakeFails_keeps {s0 s : State} {d check us} (h : Keeps kq s0 s) : Keeps kq s0 (State.wakeFails s d check us) := by
  unfold State.wakeFails
  repeat' (first | with_reducible assumption | with_reducible refine Keeps.ite ?_ ?_ | ((fail_if_no_progress (extract_lets +onlyGivenNames y)); (have z_ := y; guard_hyp z_ : State; clear z_); refine Keeps.cut (kq := kq) (s0 := s0) y ?_ ?_; (on_goal 1 => subst y); (on_goal 2 => (intro hy; try clear_value y))) | ((fail_if_no_progress (extract_lets +onlyGivenNames y)); clear_value y) | with_reducible apply State.wakeAbort_keeps | with_reducible apply State.domainOff_keeps | fail_if_no_progress (with_reducible apply Keeps.upd) | split)

theorem State.forceMask_keeps {s0 s : State} {p} (h : Keeps kq s0 s) : Keeps kq s0 (State.forceMask s p) := by
  unfold State.forceMask
  repeat' (first | with_reducible assumption | with_reducible refine Keeps.ite ?_ ?_ | ((fail_if_no_progress (extract_lets +onlyGivenNames y)); clear_value y) | with_reducible apply State.raiseFree_keeps | with_reducible apply State.addFld_keeps | fail_if_no_progress (with_reducible apply Keeps.upd))

theorem State.forceLow_keeps {s0 s : State} {det src arg} (h : Keeps kq s0 s) : Keeps kq s0 (State.forceLow s det src arg) := by
  unfold State.forceLow
  repeat' (first | with_reducible assumption | with_reducible refine Keeps.ite ?_ ?_ | ((fail_if_no_progress (extract_lets +onlyGivenNames y)); clear_value y) | with_reducible apply State.pairFails_keeps | with_reducible apply State.raiseFree_keeps | with_reducible apply State.controlLost_keeps | with_reducible apply State.wakeFails_keeps | with_reducible apply State.brownOut_keeps | with_reducible apply State.clockRow_keeps | with_reducible apply State.lockTimeout_keeps | with_reducible apply State.unlockLoop_keeps | with_reducible apply State.trip_keeps | with_reducible apply State.forceMask_keeps | with_reducible apply State.addFld_keeps | with_reducible apply State.diverge_keeps | fail_if_no_progress (with_reducible apply Keeps.upd) | split | (intro a; intros; beta_reduce))

theorem State.forceMid_keeps {s0 s : State} {det i arg} (h : Keeps kq s0 s) : Keeps kq s0 (State.forceMid s det i arg) := by
  unfold State.forceMid
  repeat' (first | with_reducible assumption | with_reducible refine Keeps.ite ?_ ?_ | ((fail_if_no_progress (extract_lets +onlyGivenNames y)); (have z_ := y; guard_hyp z_ : State; clear z_); refine Keeps.cut (kq := kq) (s0 := s0) y ?_ ?_; (on_goal 1 => subst y); (on_goal 2 => (intro hy; try clear_value y))) | ((fail_if_no_progress (extract_lets +onlyGivenNames y)); clear_value y) | with_reducible apply State.portDown_keeps | with_reducible apply State.acqFail_keeps | with_reducible apply State.laneOff_keeps | with_reducible apply State.casLinkDown_keeps | with_reducible apply State.addFld_keeps | with_reducible apply State.engFault_keeps | with_reducible apply State.eccError_keeps | fail_if_no_progress (with_reducible apply Keeps.upd))

theorem State.forceHigh_keeps {s0 s : State} {det src arg} (h : Keeps kq s0 s) : Keeps kq s0 (State.forceHigh s det src arg) := by
  unfold State.forceHigh
  repeat' (first | with_reducible assumption | with_reducible refine Keeps.ite ?_ ?_ | with_reducible apply State.busTimeout_keeps | with_reducible apply State.dmaError_keeps | with_reducible apply State.setFld_keeps | with_reducible apply State.refreshReplace_keeps | with_reducible apply State.forceDisagree_keeps | with_reducible apply State.eccError_keeps)

set_option maxRecDepth 20000 in
theorem State.forceFault_keeps {s0 s : State} {det src arg} (h : Keeps kq s0 s) : Keeps kq s0 (State.forceFault s det src arg) := by
  unfold State.forceFault
  repeat' (first | with_reducible assumption | with_reducible refine Keeps.ite ?_ ?_ | with_reducible apply State.forceLow_keeps | with_reducible apply State.forceMid_keeps | with_reducible apply State.forceHigh_keeps)

theorem State.fwIgnored_keeps {s0 s : State} {a} (h : Keeps kq s0 s) : Keeps kq s0 (State.fwIgnored s a) := by
  unfold State.fwIgnored
  repeat' (first | with_reducible assumption | with_reducible apply State.setFld_keeps | with_reducible apply State.addFld_keeps)

theorem State.scopeLost_keeps {s0 s : State} (h : Keeps kq s0 s) : Keeps kq s0 (State.scopeLost s) := by
  unfold State.scopeLost
  repeat' (first | with_reducible assumption | with_reducible apply State.disarmAll_keeps | with_reducible apply State.rawEnd_keeps)

theorem State.grantUnlock_keeps {s0 s : State} {b} (h : Keeps kq s0 s) : Keeps kq s0 (State.grantUnlock s b) := by
  unfold State.grantUnlock
  repeat' (first | with_reducible assumption | with_reducible refine Keeps.ite ?_ ?_ | ((fail_if_no_progress (extract_lets +onlyGivenNames y)); (have z_ := y; guard_hyp z_ : State; clear z_); refine Keeps.cut (kq := kq) (s0 := s0) y ?_ ?_; (on_goal 1 => subst y); (on_goal 2 => (intro hy; try clear_value y))) | ((fail_if_no_progress (extract_lets +onlyGivenNames y)); clear_value y) | with_reducible apply State.setFld_keeps | with_reducible apply State.scopeLost_keeps | with_reducible apply State.raise_keeps | fail_if_no_progress (with_reducible apply Keeps.upd))

theorem State.holdEgress_keeps {s0 s : State} {old} (h : Keeps kq s0 s) : Keeps kq s0 (State.holdEgress s old) := by
  unfold State.holdEgress
  repeat' (first | with_reducible assumption | with_reducible refine Keeps.ite ?_ ?_ | ((fail_if_no_progress (extract_lets +onlyGivenNames y)); clear_value y) | with_reducible apply State.egressTick_keeps | fail_if_no_progress (with_reducible apply Keeps.upd))

theorem readInstances_keeps {s0 s : State} {a l} {r : Nat × State}
    (hl : ∀ e ∈ l, ∀ i, Keeps kq s0 ((e : Nat × Nat × Nat × (State → Nat → Nat × State)).2.2.2 s i).2) (hr : readInstances s a l = some r) :
    Keeps kq s0 r.2 := by
  induction l with
  | nil => simp [readInstances] at hr
  | cons e l ih =>
    obtain ⟨b, st, n, f⟩ := e
    simp only [readInstances] at hr
    split at hr
    · cases hr; exact hl _ (List.mem_cons_self ..) _
    · exact ih (fun e he => hl e (List.mem_cons_of_mem _ he)) hr

theorem State.effectRead_keeps {s0 s : State} {a} {r : Nat × State} (h : Keeps kq s0 s) (hr : s.effectRead a = some r) :
    Keeps kq s0 r.2 := by
  refine readInstances_keeps ?_ hr
  simp only [List.mem_cons, List.not_mem_nil, or_false, forall_eq_or_imp, forall_eq]
  refine ⟨?_, ?_, ?_, ?_, ?_, ?_, ?_, ?_, ?_, ?_, ?_, ?_, ?_, ?_, ?_, ?_, ?_, ?_, ?_, ?_, ?_⟩ <;> intro i <;>
    repeat' (first | with_reducible assumption | with_reducible refine Keeps.ite ?_ ?_ | with_reducible refine KeepsO.ite ?_ ?_ | ((fail_if_no_progress (extract_lets +onlyGivenNames y)); (have z_ := y; guard_hyp z_ : State; clear z_); refine Keeps.cut (kq := kq) (s0 := s0) y ?_ ?_; (on_goal 1 => subst y); (on_goal 2 => (intro hy; try clear_value y))) | ((fail_if_no_progress (extract_lets +onlyGivenNames y)); (have z_ := y; guard_hyp z_ : State × _; clear z_); refine Keeps.cut1 (kq := kq) (s0 := s0) y ?_ ?_; (on_goal 1 => subst y); (on_goal 2 => (intro hy; try clear_value y))) | ((fail_if_no_progress (extract_lets +onlyGivenNames y)); (have z_ := y; guard_hyp z_ : _ × State; clear z_); refine Keeps.cut2 (kq := kq) (s0 := s0) y ?_ ?_; (on_goal 1 => subst y); (on_goal 2 => (intro hy; try clear_value y))) | ((fail_if_no_progress (extract_lets +onlyGivenNames y)); refine Keeps.fn y ?_; subst y; beta_reduce) | ((fail_if_no_progress (extract_lets +onlyGivenNames y)); clear_value y) | ((fail_if_no_progress (extract_lets +onlyGivenNames y)); subst y) | with_reducible apply State.readEvseqLo_keeps | with_reducible apply State.readNotify_keeps | with_reducible apply State.readEvrWin_keeps | with_reducible apply State.readQfeCoef_keeps | with_reducible apply State.readQfeTxCoef_keeps | with_reducible apply State.readMask_keeps | with_reducible apply State.readFreq_keeps | with_reducible apply State.readBfWin_keeps | with_reducible apply State.readDpdCoef_keeps | with_reducible apply State.readDpdTerm_keeps | with_reducible apply State.readMap_keeps | with_reducible apply State.readLaneCoef_keeps | with_reducible apply State.readPrbsErr_keeps | with_reducible apply State.readPrbsBits_keeps | with_reducible apply State.readLeMem_keeps | with_reducible apply State.readClm_keeps | with_reducible apply State.readBandData_keeps | with_reducible apply State.readAncData_keeps | with_reducible apply State.readHkSeq_keeps | with_reducible apply State.readHkFifo_keeps | with_reducible apply State.readCalRes_keeps | with_reducible apply Done.plain_keeps | with_reducible apply Done.bad_keeps | fail_if_no_progress (with_reducible apply Keeps.upd) | (with_reducible refine Keeps.foldl ?_ ?_; on_goal 2 => (intro t x ht; beta_reduce)) | (with_reducible refine Keeps.foldl2 ?_ ?_; on_goal 2 => (intro t x ht; beta_reduce)) | with_reducible apply KeepsO.next | fail_if_no_progress (with_reducible apply Keeps.updFree) | (with_reducible refine Keeps.foldl1 ?_ ?_; on_goal 2 => (intro t x ht; beta_reduce)) | (with_reducible apply Keeps.fst; with_reducible assumption) | refine Keeps.ite ?_ ?_ | split | (intro a; intros; beta_reduce) | (with_reducible apply Keeps.snd; with_reducible assumption))
theorem State.readOn_keeps {s0 s : State} {a} (h : Keeps kq s0 s) : Keeps kq s0 (State.readOn s a).2 := by
  unfold State.readOn
  split
  · rename_i e; exact State.effectRead_keeps h e
  · repeat' (first | with_reducible assumption | with_reducible refine Keeps.ite ?_ ?_ | with_reducible refine KeepsO.ite ?_ ?_ | ((fail_if_no_progress (extract_lets +onlyGivenNames y)); (have z_ := y; guard_hyp z_ : State; clear z_); refine Keeps.cut (kq := kq) (s0 := s0) y ?_ ?_; (on_goal 1 => subst y); (on_goal 2 => (intro hy; try clear_value y))) | ((fail_if_no_progress (extract_lets +onlyGivenNames y)); (have z_ := y; guard_hyp z_ : State × _; clear z_); refine Keeps.cut1 (kq := kq) (s0 := s0) y ?_ ?_; (on_goal 1 => subst y); (on_goal 2 => (intro hy; try clear_value y))) | ((fail_if_no_progress (extract_lets +onlyGivenNames y)); (have z_ := y; guard_hyp z_ : _ × State; clear z_); refine Keeps.cut2 (kq := kq) (s0 := s0) y ?_ ?_; (on_goal 1 => subst y); (on_goal 2 => (intro hy; try clear_value y))) | ((fail_if_no_progress (extract_lets +onlyGivenNames y)); refine Keeps.fn y ?_; subst y; beta_reduce) | ((fail_if_no_progress (extract_lets +onlyGivenNames y)); clear_value y) | ((fail_if_no_progress (extract_lets +onlyGivenNames y)); subst y) | with_reducible apply Done.plain_keeps | with_reducible apply Done.bad_keeps | fail_if_no_progress (with_reducible apply Keeps.upd) | (with_reducible refine Keeps.foldl ?_ ?_; on_goal 2 => (intro t x ht; beta_reduce)) | (with_reducible refine Keeps.foldl2 ?_ ?_; on_goal 2 => (intro t x ht; beta_reduce)) | with_reducible apply KeepsO.next | fail_if_no_progress (with_reducible apply Keeps.updFree) | (with_reducible refine Keeps.foldl1 ?_ ?_; on_goal 2 => (intro t x ht; beta_reduce)) | (with_reducible apply Keeps.fst; with_reducible assumption) | refine Keeps.ite ?_ ?_ | split | (intro a; intros; beta_reduce) | (with_reducible apply Keeps.snd; with_reducible assumption))

theorem State.readWord_keeps {s0 s : State} {a} (h : Keeps kq s0 s) : Keeps kq s0 (State.readWord s a).2.2 := by
  unfold State.readWord
  repeat' (first | with_reducible assumption | with_reducible apply State.logAccess_keeps | with_reducible apply State.readOn_keeps | split)

theorem State.hostRead_keeps {s0 s : State} {a} (h : Keeps kq s0 s) : Keeps kq s0 (State.hostRead s a) := by
  unfold State.hostRead
  repeat' (first | with_reducible assumption | with_reducible apply State.readWord_keeps | with_reducible apply State.emit_keeps)

theorem State.storeBits_keeps {s0 s : State} {d a v} (h : Keeps kq s0 s) : Keeps kq s0 (State.storeBits s d a v) := by
  unfold State.storeBits
  repeat' (first | with_reducible assumption | with_reducible refine Keeps.ite ?_ ?_ | with_reducible apply State.fwIgnored_keeps | with_reducible apply State.setReg_keeps | fail_if_no_progress (with_reducible apply Keeps.upd))

theorem State.writeWindow_keeps {s0 s t : State} {a v} (h : Keeps kq s0 s) (ht : s.writeWindow a v = some t) : Keeps kq s0 t := by
  unfold State.writeWindow at ht
  split at ht
  · cases ht
    repeat' (first | with_reducible assumption | with_reducible refine Keeps.ite ?_ ?_ | with_reducible refine KeepsO.ite ?_ ?_ | ((fail_if_no_progress (extract_lets +onlyGivenNames y)); (have z_ := y; guard_hyp z_ : State; clear z_); refine Keeps.cut (kq := kq) (s0 := s0) y ?_ ?_; (on_goal 1 => subst y); (on_goal 2 => (intro hy; try clear_value y))) | ((fail_if_no_progress (extract_lets +onlyGivenNames y)); (have z_ := y; guard_hyp z_ : State × _; clear z_); refine Keeps.cut1 (kq := kq) (s0 := s0) y ?_ ?_; (on_goal 1 => subst y); (on_goal 2 => (intro hy; try clear_value y))) | ((fail_if_no_progress (extract_lets +onlyGivenNames y)); (have z_ := y; guard_hyp z_ : _ × State; clear z_); refine Keeps.cut2 (kq := kq) (s0 := s0) y ?_ ?_; (on_goal 1 => subst y); (on_goal 2 => (intro hy; try clear_value y))) | ((fail_if_no_progress (extract_lets +onlyGivenNames y)); refine Keeps.fn y ?_; subst y; beta_reduce) | ((fail_if_no_progress (extract_lets +onlyGivenNames y)); clear_value y) | ((fail_if_no_progress (extract_lets +onlyGivenNames y)); subst y) | with_reducible apply State.writeLeMem_keeps | with_reducible apply State.fwIgnored_keeps | with_reducible apply Done.plain_keeps | with_reducible apply Done.bad_keeps | fail_if_no_progress (with_reducible apply Keeps.upd) | (with_reducible refine Keeps.foldl ?_ ?_; on_goal 2 => (intro t x ht; beta_reduce)) | (with_reducible refine Keeps.foldl2 ?_ ?_; on_goal 2 => (intro t x ht; beta_reduce)) | with_reducible apply KeepsO.next | fail_if_no_progress (with_reducible apply Keeps.updFree) | (with_reducible refine Keeps.foldl1 ?_ ?_; on_goal 2 => (intro t x ht; beta_reduce)) | (with_reducible apply Keeps.fst; with_reducible assumption) | refine Keeps.ite ?_ ?_ | split | (intro a; intros; beta_reduce) | (with_reducible apply Keeps.snd; with_reducible assumption))
  · split at ht
    · cases ht
      repeat' (first | with_reducible assumption | with_reducible refine Keeps.ite ?_ ?_ | with_reducible refine KeepsO.ite ?_ ?_ | ((fail_if_no_progress (extract_lets +onlyGivenNames y)); (have z_ := y; guard_hyp z_ : State; clear z_); refine Keeps.cut (kq := kq) (s0 := s0) y ?_ ?_; (on_goal 1 => subst y); (on_goal 2 => (intro hy; try clear_value y))) | ((fail_if_no_progress (extract_lets +onlyGivenNames y)); (have z_ := y; guard_hyp z_ : State × _; clear z_); refine Keeps.cut1 (kq := kq) (s0 := s0) y ?_ ?_; (on_goal 1 => subst y); (on_goal 2 => (intro hy; try clear_value y))) | ((fail_if_no_progress (extract_lets +onlyGivenNames y)); (have z_ := y; guard_hyp z_ : _ × State; clear z_); refine Keeps.cut2 (kq := kq) (s0 := s0) y ?_ ?_; (on_goal 1 => subst y); (on_goal 2 => (intro hy; try clear_value y))) | ((fail_if_no_progress (extract_lets +onlyGivenNames y)); refine Keeps.fn y ?_; subst y; beta_reduce) | ((fail_if_no_progress (extract_lets +onlyGivenNames y)); clear_value y) | ((fail_if_no_progress (extract_lets +onlyGivenNames y)); subst y) | with_reducible apply State.writeClm_keeps | with_reducible apply State.fwIgnored_keeps | with_reducible apply Done.plain_keeps | with_reducible apply Done.bad_keeps | fail_if_no_progress (with_reducible apply Keeps.upd) | (with_reducible refine Keeps.foldl ?_ ?_; on_goal 2 => (intro t x ht; beta_reduce)) | (with_reducible refine Keeps.foldl2 ?_ ?_; on_goal 2 => (intro t x ht; beta_reduce)) | with_reducible apply KeepsO.next | fail_if_no_progress (with_reducible apply Keeps.updFree) | (with_reducible refine Keeps.foldl1 ?_ ?_; on_goal 2 => (intro t x ht; beta_reduce)) | (with_reducible apply Keeps.fst; with_reducible assumption) | refine Keeps.ite ?_ ?_ | split | (intro a; intros; beta_reduce) | (with_reducible apply Keeps.snd; with_reducible assumption))
    · cases ht
theorem State.writeWord_keeps {s0 s : State} {a v e} (h : Keeps kq s0 s) : Keeps kq s0 (State.writeWord s a v e) := by
  unfold State.writeWord
  repeat' (first | (with_reducible refine State.writeWindow_keeps ?_ (by with_reducible assumption)) | with_reducible assumption | with_reducible refine Keeps.ite ?_ ?_ | with_reducible refine KeepsO.ite ?_ ?_ | ((fail_if_no_progress (extract_lets +onlyGivenNames y)); (have z_ := y; guard_hyp z_ : State; clear z_); refine Keeps.cut (kq := kq) (s0 := s0) y ?_ ?_; (on_goal 1 => subst y); (on_goal 2 => (intro hy; try clear_value y))) | ((fail_if_no_progress (extract_lets +onlyGivenNames y)); (have z_ := y; guard_hyp z_ : State × _; clear z_); refine Keeps.cut1 (kq := kq) (s0 := s0) y ?_ ?_; (on_goal 1 => subst y); (on_goal 2 => (intro hy; try clear_value y))) | ((fail_if_no_progress (extract_lets +onlyGivenNames y)); (have z_ := y; guard_hyp z_ : _ × State; clear z_); refine Keeps.cut2 (kq := kq) (s0 := s0) y ?_ ?_; (on_goal 1 => subst y); (on_goal 2 => (intro hy; try clear_value y))) | ((fail_if_no_progress (extract_lets +onlyGivenNames y)); refine Keeps.fn y ?_; subst y; beta_reduce) | ((fail_if_no_progress (extract_lets +onlyGivenNames y)); clear_value y) | ((fail_if_no_progress (extract_lets +onlyGivenNames y)); subst y) | with_reducible apply State.onReg_keeps | with_reducible apply State.irqEdges_keeps | with_reducible apply State.msixUnmask_keeps | with_reducible apply State.logAccess_keeps | with_reducible apply State.noteItem_keeps | with_reducible apply State.setReg_keeps | with_reducible apply State.afterWrite_keeps | with_reducible apply State.storeBits_keeps | with_reducible apply Done.plain_keeps | with_reducible apply Done.bad_keeps | fail_if_no_progress (with_reducible apply Keeps.upd) | (with_reducible refine Keeps.foldl ?_ ?_; on_goal 2 => (intro t x ht; beta_reduce)) | (with_reducible refine Keeps.foldl2 ?_ ?_; on_goal 2 => (intro t x ht; beta_reduce)) | with_reducible apply KeepsO.next | fail_if_no_progress (with_reducible apply Keeps.updFree) | (with_reducible refine Keeps.foldl1 ?_ ?_; on_goal 2 => (intro t x ht; beta_reduce)) | (with_reducible apply Keeps.fst; with_reducible assumption) | refine Keeps.ite ?_ ?_ | split | (intro a; intros; beta_reduce) | (with_reducible apply Keeps.snd; with_reducible assumption))

theorem State.hostWrite32_keeps {s0 s : State} {a enables v e} (h : Keeps kq s0 s) : Keeps kq s0 (State.hostWrite32 s a enables v e) := by
  unfold State.hostWrite32
  repeat' (first | with_reducible assumption | with_reducible refine Keeps.ite ?_ ?_ | with_reducible apply State.writeWord_keeps | with_reducible apply State.logAccess_keeps)

theorem State.logOnly_keeps {s0 s : State} {j} (h : Keeps kq s0 s) : Keeps kq s0 (State.logOnly s j) := by
  unfold State.logOnly
  repeat' (first | with_reducible assumption | with_reducible apply State.fresh_keeps | with_reducible apply State.raiseEv_keeps)

theorem State.withInjected_keeps {s0 s : State} {det value src f} (hf : ∀ a0, Keeps kq s0 a0 → Keeps kq s0 (f a0)) (h : Keeps kq s0 s) : Keeps kq s0 (State.withInjected s det value src f) := by
  unfold State.withInjected
  repeat' (first | with_reducible assumption | with_reducible refine Keeps.ite ?_ ?_ | ((fail_if_no_progress (extract_lets +onlyGivenNames y)); (have z_ := y; guard_hyp z_ : State; clear z_); refine Keeps.cut (kq := kq) (s0 := s0) y ?_ ?_; (on_goal 1 => subst y); (on_goal 2 => (intro hy; try clear_value y))) | ((fail_if_no_progress (extract_lets +onlyGivenNames y)); clear_value y) | with_reducible apply State.raiseFree_keeps | with_reducible apply hf | fail_if_no_progress (with_reducible apply Keeps.upd))

theorem State.inject_keeps {s0 s : State} {j arg} (h : Keeps kq s0 s) : Keeps kq s0 (State.inject s j arg) := by
  unfold State.inject
  repeat' (first | with_reducible assumption | with_reducible refine Keeps.ite ?_ ?_ | ((fail_if_no_progress (extract_lets +onlyGivenNames y)); clear_value y) | with_reducible apply State.logOnly_keeps | with_reducible apply State.logMemFail_keeps | with_reducible apply State.withInjected_keeps | with_reducible apply State.forceFault_keeps | fail_if_no_progress (with_reducible apply Keeps.upd) | (intro a; intros; beta_reduce))

theorem State.lock_keeps {s0 s : State} (h : Keeps kq s0 s) : Keeps kq s0 (State.lock s) := by
  unfold State.lock
  repeat' (first | with_reducible assumption | ((fail_if_no_progress (extract_lets +onlyGivenNames y)); (have z_ := y; guard_hyp z_ : State; clear z_); refine Keeps.cut (kq := kq) (s0 := s0) y ?_ ?_; (on_goal 1 => subst y); (on_goal 2 => (intro hy; try clear_value y))) | ((fail_if_no_progress (extract_lets +onlyGivenNames y)); clear_value y) | with_reducible apply State.setFld_keeps | with_reducible apply State.raiseFree_keeps | with_reducible apply State.scopeLost_keeps | fail_if_no_progress (with_reducible apply Keeps.upd))

theorem State.newTick_keeps {s0 s : State} (h : Keeps kq s0 s) : Keeps kq s0 (State.newTick s) := by
  unfold State.newTick
  repeat' (first | with_reducible assumption | ((fail_if_no_progress (extract_lets +onlyGivenNames y)); clear_value y) | fail_if_no_progress (with_reducible apply Keeps.upd))

theorem State.quietBoundary_keeps {s0 s : State} (h : Keeps kq s0 s) : Keeps kq s0 (State.quietBoundary s) := by
  unfold State.quietBoundary
  repeat' (first | with_reducible assumption | with_reducible refine Keeps.ite ?_ ?_ | ((fail_if_no_progress (extract_lets +onlyGivenNames y)); (have z_ := y; guard_hyp z_ : State; clear z_); refine Keeps.cut (kq := kq) (s0 := s0) y ?_ ?_; (on_goal 1 => subst y); (on_goal 2 => (intro hy; try clear_value y))) | ((fail_if_no_progress (extract_lets +onlyGivenNames y)); clear_value y) | with_reducible apply State.beginQuiet_keeps | with_reducible apply State.endQuiet_keeps | fail_if_no_progress (with_reducible apply Keeps.upd) | split)

theorem State.openWork_keeps {s0 s : State} (h : Keeps kq s0 s) : Keeps kq s0 (State.openWork s) := by
  unfold State.openWork
  repeat' (first | with_reducible assumption | ((fail_if_no_progress (extract_lets +onlyGivenNames y)); (have z_ := y; guard_hyp z_ : State; clear z_); refine Keeps.cut (kq := kq) (s0 := s0) y ?_ ?_; (on_goal 1 => subst y); (on_goal 2 => (intro hy; try clear_value y))) | with_reducible apply State.oxBoundary_keeps | with_reducible apply State.praBoundary_keeps | with_reducible apply State.bankBoundary_keeps | with_reducible apply State.casBoundary_keeps | (with_reducible refine Keeps.foldl ?_ ?_; on_goal 2 => (intro t x ht; beta_reduce)))

theorem State.openBlocks_keeps {s0 s : State} (h : Keeps false s0 s) : Keeps false s0 (State.openBlocks s) := by
  unfold State.openBlocks
  repeat' (first | with_reducible assumption | with_reducible refine Keeps.ite ?_ ?_ | ((fail_if_no_progress (extract_lets +onlyGivenNames y)); (have z_ := y; guard_hyp z_ : State; clear z_); refine Keeps.cut (kq := false) (s0 := s0) y ?_ ?_; (on_goal 1 => subst y); (on_goal 2 => (intro hy; try clear_value y))) | with_reducible apply State.padrvBoundary_keeps | with_reducible apply State.settleEntries_keeps | with_reducible apply State.quietBoundary_keeps | with_reducible apply State.calApply_keeps | with_reducible apply State.retirePromoted_keeps | with_reducible apply State.applyCommits_keeps | with_reducible apply State.rxBoundary_keeps | with_reducible apply State.enterQuality_keeps | with_reducible apply State.rcvBoundary_keeps | with_reducible apply State.dpdQuiet_keeps | with_reducible apply State.quietSteps_keeps | with_reducible apply State.calBoundary_keeps | with_reducible apply State.lateBoundary_keeps | with_reducible apply State.casBoundary_keeps | with_reducible apply State.openWork_keeps | with_reducible apply State.refreshFes_keeps | with_reducible apply State.engBoundary_keeps | with_reducible apply State.oxSpoiled_keeps | with_reducible apply State.refreshTxStatus_keeps | with_reducible apply State.refreshGates_keeps | fail_if_no_progress (with_reducible apply Keeps.upd) | (with_reducible refine Keeps.foldl ?_ ?_; on_goal 2 => (intro t x ht; beta_reduce)))

theorem State.openRecorded_keeps {s0 s : State} {r} (h : Keeps false s0 s) : Keeps false s0 (State.openRecorded s r) := by
  unfold State.openRecorded
  repeat' (first | with_reducible assumption | with_reducible refine Keeps.ite ?_ ?_ | ((fail_if_no_progress (extract_lets +onlyGivenNames y)); (have z_ := y; guard_hyp z_ : State; clear z_); refine Keeps.cut (kq := false) (s0 := s0) y ?_ ?_; (on_goal 1 => subst y); (on_goal 2 => (intro hy; try clear_value y))) | ((fail_if_no_progress (extract_lets +onlyGivenNames y)); clear_value y) | with_reducible apply State.asTick_keeps | with_reducible apply State.openBlocks_keeps | fail_if_no_progress (with_reducible apply Keeps.upd) | split)

theorem State.pairResumes_keeps {s0 s : State} (h : Keeps kq s0 s) : Keeps kq s0 (State.pairResumes s) := by
  unfold State.pairResumes
  repeat' (first | with_reducible assumption | with_reducible refine Keeps.ite ?_ ?_ | ((fail_if_no_progress (extract_lets +onlyGivenNames y)); (have z_ := y; guard_hyp z_ : State; clear z_); refine Keeps.cut (kq := kq) (s0 := s0) y ?_ ?_; (on_goal 1 => subst y); (on_goal 2 => (intro hy; try clear_value y))) | ((fail_if_no_progress (extract_lets +onlyGivenNames y)); clear_value y) | with_reducible apply State.raiseFree_keeps | with_reducible apply State.setMode_keeps | fail_if_no_progress (with_reducible apply Keeps.upd))

theorem State.openRest_keeps {s0 s : State} (h : Keeps kq s0 s) : Keeps kq s0 (State.openRest s) := by
  unfold State.openRest
  repeat' (first | with_reducible assumption | with_reducible refine Keeps.ite ?_ ?_ | ((fail_if_no_progress (extract_lets +onlyGivenNames y)); (have z_ := y; guard_hyp z_ : State; clear z_); refine Keeps.cut (kq := kq) (s0 := s0) y ?_ ?_; (on_goal 1 => subst y); (on_goal 2 => (intro hy; try clear_value y))) | with_reducible apply State.writeAnchor_keeps | with_reducible apply State.countUnlock_keeps | with_reducible apply State.powerPoll_keeps | with_reducible apply State.recBoundary_keeps | with_reducible apply State.pairResumes_keeps | with_reducible apply State.noteForced_keeps | with_reducible apply State.settleCal_keeps)

theorem State.soloRows_keeps {s0 s : State} (h : Keeps kq s0 s) : Keeps kq s0 (State.soloRows s) := by
  unfold State.soloRows
  repeat' (first | with_reducible assumption | with_reducible refine Keeps.ite ?_ ?_ | ((fail_if_no_progress (extract_lets +onlyGivenNames y)); (have z_ := y; guard_hyp z_ : State; clear z_); refine Keeps.cut (kq := kq) (s0 := s0) y ?_ ?_; (on_goal 1 => subst y); (on_goal 2 => (intro hy; try clear_value y))) | ((fail_if_no_progress (extract_lets +onlyGivenNames y)); (have z_ := y; guard_hyp z_ : State × _; clear z_); refine Keeps.cut1 (kq := kq) (s0 := s0) y ?_ ?_; (on_goal 1 => subst y); (on_goal 2 => (intro hy; try clear_value y))) | ((fail_if_no_progress (extract_lets +onlyGivenNames y)); (have z_ := y; guard_hyp z_ : _ × State; clear z_); refine Keeps.cut2 (kq := kq) (s0 := s0) y ?_ ?_; (on_goal 1 => subst y); (on_goal 2 => (intro hy; try clear_value y))) | ((fail_if_no_progress (extract_lets +onlyGivenNames y)); refine Keeps.fn y ?_; subst y; beta_reduce) | ((fail_if_no_progress (extract_lets +onlyGivenNames y)); clear_value y) | ((fail_if_no_progress (extract_lets +onlyGivenNames y)); subst y) | with_reducible apply State.retirePair_keeps | with_reducible apply Done.plain_keeps | with_reducible apply Done.bad_keeps | fail_if_no_progress (with_reducible apply Keeps.upd) | (with_reducible refine Keeps.foldl ?_ ?_; on_goal 2 => (intro t x ht; beta_reduce)) | (with_reducible refine Keeps.foldl2 ?_ ?_; on_goal 2 => (intro t x ht; beta_reduce)) | with_reducible apply KeepsO.next | fail_if_no_progress (with_reducible apply Keeps.updFree) | (with_reducible refine Keeps.foldl1 ?_ ?_; on_goal 2 => (intro t x ht; beta_reduce)) | (with_reducible apply Keeps.fst; with_reducible assumption) | refine Keeps.ite ?_ ?_ | split | (intro a; intros; beta_reduce) | (with_reducible apply Keeps.snd; with_reducible assumption))

theorem State.pairBoots_keeps {s0 s : State} {x ok} (h : Keeps kq s0 s) : Keeps kq s0 (State.pairBoots s x ok) := by
  unfold State.pairBoots
  repeat' (first | with_reducible assumption | with_reducible refine Keeps.ite ?_ ?_ | ((fail_if_no_progress (extract_lets +onlyGivenNames y)); clear_value y) | with_reducible apply State.soloRows_keeps | fail_if_no_progress (with_reducible apply Keeps.upd))

theorem State.powerOff_keeps {s0 s : State} (h : Keeps kq s0 s) : Keeps kq s0 (State.powerOff s) := by
  unfold State.powerOff
  repeat' (first | with_reducible assumption | ((fail_if_no_progress (extract_lets +onlyGivenNames y)); (have z_ := y; guard_hyp z_ : State; clear z_); refine Keeps.cut (kq := kq) (s0 := s0) y ?_ ?_; (on_goal 1 => subst y); (on_goal 2 => (intro hy; try clear_value y))) | ((fail_if_no_progress (extract_lets +onlyGivenNames y)); clear_value y) | with_reducible apply State.allReset_keeps | with_reducible apply State.setFld_keeps | fail_if_no_progress (with_reducible apply Keeps.upd))

theorem State.powerStep_keeps {s0 s : State} {domain found us} (h : Keeps false s0 s) : Keeps false s0 (State.powerStep s domain found us) := by
  unfold State.powerStep
  repeat' (first | with_reducible assumption | with_reducible refine Keeps.ite ?_ ?_ | ((fail_if_no_progress (extract_lets +onlyGivenNames y)); (have z_ := y; guard_hyp z_ : State; clear z_); refine Keeps.cut (kq := false) (s0 := s0) y ?_ ?_; (on_goal 1 => subst y); (on_goal 2 => (intro hy; try clear_value y))) | ((fail_if_no_progress (extract_lets +onlyGivenNames y)); clear_value y) | with_reducible apply State.powerPoll_keeps | with_reducible apply State.bridgeFails_keeps | with_reducible apply State.bridgeRepair_keeps | with_reducible apply State.stepDone_keeps | with_reducible apply State.enterStandby_keeps | split)

theorem State.putResets_keeps {s0 s : State} {l} (h : Keeps kq s0 s) : Keeps kq s0 (State.putResets s l) := by
  unfold State.putResets
  repeat' (first | with_reducible assumption | ((fail_if_no_progress (extract_lets +onlyGivenNames y)); clear_value y) | fail_if_no_progress (with_reducible apply Keeps.upd))

theorem State.putReset_keeps {s0 s : State} {u} (h : Keeps kq s0 s) : Keeps kq s0 (State.putReset s u) := by
  unfold State.putReset
  repeat' (first | with_reducible assumption | with_reducible apply State.putResets_keeps)

theorem State.refMeasure_keeps {s0 s : State} {khz} (h : Keeps kq s0 s) : Keeps kq s0 (State.refMeasure s khz) := by
  unfold State.refMeasure
  repeat' (first | with_reducible assumption | with_reducible refine Keeps.ite ?_ ?_ | ((fail_if_no_progress (extract_lets +onlyGivenNames y)); (have z_ := y; guard_hyp z_ : State; clear z_); refine Keeps.cut (kq := kq) (s0 := s0) y ?_ ?_; (on_goal 1 => subst y); (on_goal 2 => (intro hy; try clear_value y))) | with_reducible apply State.setFld_keeps | with_reducible apply State.beginGroups_keeps | with_reducible apply State.raise_keeps)

theorem State.releaseSlot_keeps {s0 s : State} {tag} (h : Keeps kq s0 s) : Keeps kq s0 (State.releaseSlot s tag).1 := by
  unfold State.releaseSlot
  repeat' (first | with_reducible assumption | ((fail_if_no_progress (extract_lets +onlyGivenNames y)); clear_value y) | with_reducible apply State.putPrivi_keeps | split)

theorem State.replayItem_keeps {s0 s : State} {i} (h : Keeps kq s0 s) : Keeps kq s0 (State.replayItem s i) := by
  unfold State.replayItem
  repeat' (first | with_reducible assumption | with_reducible refine Keeps.ite ?_ ?_ | with_reducible apply State.handFrame_keeps | with_reducible apply State.finefIn_keeps | with_reducible apply State.captureIrq_keeps | with_reducible apply State.clmBytes_keeps | with_reducible apply State.writeWord_keeps | with_reducible apply State.armCommit_keeps | with_reducible apply ringEngines_keeps | fail_if_no_progress (with_reducible apply Keeps.upd) | split)

theorem State.settleUnits_keeps {s0 s : State} (h : Keeps kq s0 s) : Keeps kq s0 (State.settleUnits s) := by
  unfold State.settleUnits
  repeat' (first | with_reducible assumption | ((fail_if_no_progress (extract_lets +onlyGivenNames y)); (have z_ := y; guard_hyp z_ : State; clear z_); refine Keeps.cut (kq := kq) (s0 := s0) y ?_ ?_; (on_goal 1 => subst y); (on_goal 2 => (intro hy; try clear_value y))) | ((fail_if_no_progress (extract_lets +onlyGivenNames y)); clear_value y) | with_reducible apply State.putResets_keeps | with_reducible apply State.endReset_keeps | (with_reducible refine Keeps.foldl ?_ ?_; on_goal 2 => (intro t x ht; beta_reduce)))

theorem State.resetFails_keeps {s0 s : State} {u det} (h : Keeps kq s0 s) : Keeps kq s0 (State.resetFails s u det) := by
  unfold State.resetFails
  repeat' (first | with_reducible assumption | with_reducible apply State.settleUnits_keeps | with_reducible apply State.putReset_keeps)

theorem State.resetWakeFails_keeps {s0 s : State} {u d check} (h : Keeps kq s0 s) : Keeps kq s0 (State.resetWakeFails s u d check) := by
  unfold State.resetWakeFails
  repeat' (first | with_reducible assumption | with_reducible refine Keeps.ite ?_ ?_ | ((fail_if_no_progress (extract_lets +onlyGivenNames y)); (have z_ := y; guard_hyp z_ : State; clear z_); refine Keeps.cut (kq := kq) (s0 := s0) y ?_ ?_; (on_goal 1 => subst y); (on_goal 2 => (intro hy; try clear_value y))) | ((fail_if_no_progress (extract_lets +onlyGivenNames y)); clear_value y) | with_reducible apply State.raiseWakeFail_keeps | with_reducible apply State.noteWakeFail_keeps | with_reducible apply State.resetFails_keeps | with_reducible apply State.domainOff_keeps | fail_if_no_progress (with_reducible apply Keeps.upd))

theorem State.startTests_keeps {s0 s : State} {keys} (h : Keeps kq s0 s) : Keeps kq s0 (State.startTests s keys) := by
  unfold State.startTests
  repeat' (first | with_reducible assumption | with_reducible refine Keeps.ite ?_ ?_ | ((fail_if_no_progress (extract_lets +onlyGivenNames y)); clear_value y) | with_reducible apply State.putCal_keeps | with_reducible apply State.calStart_keeps | (with_reducible refine Keeps.foldl ?_ ?_; on_goal 2 => (intro t x ht; beta_reduce)))

theorem State.resetWoken_keeps {s0 s : State} {u d found} (h : Keeps kq s0 s) : Keeps kq s0 (State.resetWoken s u d found) := by
  unfold State.resetWoken
  repeat' (first | with_reducible assumption | with_reducible refine Keeps.ite ?_ ?_ | ((fail_if_no_progress (extract_lets +onlyGivenNames y)); (have z_ := y; guard_hyp z_ : State; clear z_); refine Keeps.cut (kq := kq) (s0 := s0) y ?_ ?_; (on_goal 1 => subst y); (on_goal 2 => (intro hy; try clear_value y))) | ((fail_if_no_progress (extract_lets +onlyGivenNames y)); clear_value y) | with_reducible apply State.raise_keeps | with_reducible apply State.resetFails_keeps | with_reducible apply State.domainOff_keeps | with_reducible apply State.putReset_keeps | with_reducible apply State.settleUnits_keeps | with_reducible apply State.startTests_keeps | fail_if_no_progress (with_reducible apply Keeps.upd))

theorem State.setPins_keeps {s0 s : State} {ref lane safe} (h : Keeps kq s0 s) : Keeps kq s0 (State.setPins s ref lane safe) := by
  unfold State.setPins
  repeat' (first | with_reducible assumption | ((fail_if_no_progress (extract_lets +onlyGivenNames y)); clear_value y) | fail_if_no_progress (with_reducible apply Keeps.upd))

theorem State.setStaging_keeps {s0 s : State} {g} (h : Keeps kq s0 s) : Keeps kq s0 (State.setStaging s g) := by
  unfold State.setStaging
  repeat' (first | with_reducible assumption | ((fail_if_no_progress (extract_lets +onlyGivenNames y)); clear_value y) | fail_if_no_progress (with_reducible apply Keeps.upd))

theorem State.showInjection_keeps {s0 s : State} {j} (h : Keeps kq s0 s) : Keeps kq s0 (State.showInjection s j) := by
  unfold State.showInjection
  repeat' (first | with_reducible assumption | ((fail_if_no_progress (extract_lets +onlyGivenNames y)); (have z_ := y; guard_hyp z_ : State; clear z_); refine Keeps.cut (kq := kq) (s0 := s0) y ?_ ?_; (on_goal 1 => subst y); (on_goal 2 => (intro hy; try clear_value y))) | ((fail_if_no_progress (extract_lets +onlyGivenNames y)); clear_value y) | with_reducible apply State.setFld_keeps)

theorem State.spiWindowRead_keeps {s0 s : State} {fix addr words begun} (h : Keeps kq s0 s) : Keeps kq s0 (State.spiWindowRead s fix addr words begun) := by
  unfold State.spiWindowRead
  repeat' (first | with_reducible assumption | with_reducible refine Keeps.ite ?_ ?_ | with_reducible apply State.discSpi_keeps | with_reducible apply State.readWord_keeps | with_reducible apply State.emit_keeps | (with_reducible refine Keeps.foldl1 ?_ ?_; on_goal 2 => (intro t x ht; beta_reduce)))

theorem State.spiWindowWrite_keeps {s0 s : State} {fix addr words data e} (h : Keeps kq s0 s) : Keeps kq s0 (State.spiWindowWrite s fix addr words data e) := by
  unfold State.spiWindowWrite
  repeat' (first | with_reducible assumption | with_reducible refine Keeps.ite ?_ ?_ | ((fail_if_no_progress (extract_lets +onlyGivenNames y)); clear_value y) | with_reducible apply State.discSpi_keeps | with_reducible apply State.writeWord_keeps | (with_reducible refine Keeps.foldl ?_ ?_; on_goal 2 => (intro t x ht; beta_reduce)))

theorem State.takePacket_keeps {s0 s : State} {via slot} (h : Keeps kq s0 s) : Keeps kq s0 (State.takePacket s via slot) := by
  unfold State.takePacket
  repeat' (first | with_reducible assumption | with_reducible refine Keeps.ite ?_ ?_ | ((fail_if_no_progress (extract_lets +onlyGivenNames y)); clear_value y) | with_reducible apply State.setMbxIrq_keeps | with_reducible apply State.acceptPacket_keeps | with_reducible apply State.setFld_keeps | with_reducible apply State.putPrivi_keeps | split)

theorem State.tsyncCount_keeps {s0 s : State} {marks} (h : Keeps kq s0 s) : Keeps kq s0 (State.tsyncCount s marks) := by
  unfold State.tsyncCount
  repeat' (first | with_reducible assumption | with_reducible refine Keeps.ite ?_ ?_ | ((fail_if_no_progress (extract_lets +onlyGivenNames y)); clear_value y) | with_reducible apply State.recFlag_keeps | with_reducible apply State.noteItem_keeps | with_reducible apply State.setFld_keeps | with_reducible apply State.raiseFree_keeps | fail_if_no_progress (with_reducible apply Keeps.upd))

theorem State.tsyncEdge_keeps {s0 s : State} {periods} (h : Keeps kq s0 s) : Keeps kq s0 (State.tsyncEdge s periods) := by
  unfold State.tsyncEdge
  repeat' (first | with_reducible assumption | with_reducible refine Keeps.ite ?_ ?_ | ((fail_if_no_progress (extract_lets +onlyGivenNames y)); (have z_ := y; guard_hyp z_ : State; clear z_); refine Keeps.cut (kq := kq) (s0 := s0) y ?_ ?_; (on_goal 1 => subst y); (on_goal 2 => (intro hy; try clear_value y))) | ((fail_if_no_progress (extract_lets +onlyGivenNames y)); clear_value y) | with_reducible apply State.clocked_keeps | with_reducible apply State.dividerReset_keeps | with_reducible apply State.raiseFree_keeps | with_reducible apply State.addFld_keeps | with_reducible apply State.tsyncCount_keeps)

theorem State.wakeRetry_keeps {s0 s : State} {d} (h : Keeps kq s0 s) : Keeps kq s0 (State.wakeRetry s d) := by
  unfold State.wakeRetry
  repeat' (first | with_reducible assumption | with_reducible refine Keeps.ite ?_ ?_ | ((fail_if_no_progress (extract_lets +onlyGivenNames y)); (have z_ := y; guard_hyp z_ : State; clear z_); refine Keeps.cut (kq := kq) (s0 := s0) y ?_ ?_; (on_goal 1 => subst y); (on_goal 2 => (intro hy; try clear_value y))) | ((fail_if_no_progress (extract_lets +onlyGivenNames y)); clear_value y) | with_reducible apply State.beginStep_keeps | fail_if_no_progress (with_reducible apply Keeps.upd) | split)

theorem State.writeRow_keeps {s0 s : State} {a v e} (h : Keeps kq s0 s) : Keeps kq s0 (State.writeRow s a v e) := by
  unfold State.writeRow
  repeat' (first | with_reducible assumption | with_reducible apply State.writeWord_keeps)

theorem execAtomicGroupClose_keeps {s0 s : State} {tag} (h : Keeps kq s0 s) : KeepsO kq s0 (execAtomicGroupClose tag s) := by
  unfold execAtomicGroupClose
  repeat' (first | with_reducible assumption | with_reducible apply State.performStart_keeps | with_reducible apply State.closeGroup_keeps | with_reducible apply State.finishNow_keeps | with_reducible apply KeepsO.next | split | (intro a; intros; beta_reduce))

theorem execBfWinDataRead_keeps {s0 s : State} (h : Keeps kq s0 s) : KeepsO kq s0 (execBfWinDataRead s) := by
  unfold execBfWinDataRead
  repeat' (first | with_reducible assumption | with_reducible apply State.hostRead_keeps | with_reducible apply KeepsO.next)

theorem execBootTsyncTimeout_keeps {s0 s : State} (h : Keeps kq s0 s) : KeepsO kq s0 (execBootTsyncTimeout s) := by
  unfold execBootTsyncTimeout
  repeat' (first | with_reducible assumption | with_reducible refine Keeps.ite ?_ ?_ | with_reducible apply State.startTick_keeps | with_reducible apply State.raiseFree_keeps | with_reducible apply State.setFld_keeps | with_reducible apply KeepsO.next)

theorem execBringupComplete_keeps {s0 s : State} (h : Keeps kq s0 s) : KeepsO kq s0 (execBringupComplete s) := by
  unfold execBringupComplete
  repeat' (first | with_reducible assumption | with_reducible apply State.bringupComplete_keeps | with_reducible apply KeepsO.next)

theorem execBrownout_keeps {s0 s : State} {domain} (h : Keeps kq s0 s) : KeepsO kq s0 (execBrownout domain s) := by
  unfold execBrownout
  repeat' (first | with_reducible assumption | with_reducible apply State.brownOut_keeps | with_reducible apply KeepsO.next)

theorem execBrownoutRestart_keeps {s0 s : State} {domain} (h : Keeps kq s0 s) : KeepsO kq s0 (execBrownoutRestart domain s) := by
  unfold execBrownoutRestart
  repeat' (first | with_reducible assumption | with_reducible apply State.brownRestart_keeps | with_reducible apply KeepsO.next)

theorem execCalResDataRead_keeps {s0 s : State} (h : Keeps kq s0 s) : KeepsO kq s0 (execCalResDataRead s) := by
  unfold execCalResDataRead
  repeat' (first | with_reducible assumption | with_reducible apply State.hostRead_keeps | with_reducible apply KeepsO.next)

theorem execCalRunComplete_keeps {s0 s : State} {key comps xres} (h : Keeps kq s0 s) : KeepsO kq s0 (execCalRunComplete key comps xres s) := by
  unfold execCalRunComplete
  repeat' (first | with_reducible assumption | with_reducible apply State.bootPoll_keeps | with_reducible apply State.settleUnits_keeps | with_reducible apply State.calRunComplete_keeps | with_reducible apply KeepsO.next)

theorem execCfrMaskDataRead_keeps {s0 s : State} (h : Keeps kq s0 s) : KeepsO kq s0 (execCfrMaskDataRead s) := by
  unfold execCfrMaskDataRead
  repeat' (first | with_reducible assumption | with_reducible apply State.hostRead_keeps | with_reducible apply KeepsO.next)

theorem execChallengeExpiry_keeps {s0 s : State} (h : Keeps kq s0 s) : KeepsO kq s0 (execChallengeExpiry s) := by
  unfold execChallengeExpiry
  repeat' (first | with_reducible assumption | with_reducible refine Keeps.ite ?_ ?_ | ((fail_if_no_progress (extract_lets +onlyGivenNames y)); clear_value y) | with_reducible apply State.setFld_keeps | fail_if_no_progress (with_reducible apply Keeps.upd) | with_reducible apply KeepsO.next)

theorem execClkBandDataRead_keeps {s0 s : State} (h : Keeps kq s0 s) : KeepsO kq s0 (execClkBandDataRead s) := by
  unfold execClkBandDataRead
  repeat' (first | with_reducible assumption | with_reducible apply State.hostRead_keeps | with_reducible apply KeepsO.next)

theorem execClkLaneLoss_keeps {s0 s : State} (h : Keeps kq s0 s) : KeepsO kq s0 (execClkLaneLoss s) := by
  unfold execClkLaneLoss
  repeat' (first | with_reducible assumption | with_reducible refine Keeps.ite ?_ ?_ | ((fail_if_no_progress (extract_lets +onlyGivenNames y)); (have z_ := y; guard_hyp z_ : State; clear z_); refine Keeps.cut (kq := kq) (s0 := s0) y ?_ ?_; (on_goal 1 => subst y); (on_goal 2 => (intro hy; try clear_value y))) | with_reducible apply State.setPins_keeps | with_reducible apply State.clockRow_keeps | with_reducible apply State.trip_keeps | with_reducible apply KeepsO.next | (intro a; intros; beta_reduce))

theorem execClkRefLoss_keeps {s0 s : State} (h : Keeps kq s0 s) : KeepsO kq s0 (execClkRefLoss s) := by
  unfold execClkRefLoss
  repeat' (first | with_reducible assumption | with_reducible refine Keeps.ite ?_ ?_ | ((fail_if_no_progress (extract_lets +onlyGivenNames y)); (have z_ := y; guard_hyp z_ : State; clear z_); refine Keeps.cut (kq := kq) (s0 := s0) y ?_ ?_; (on_goal 1 => subst y); (on_goal 2 => (intro hy; try clear_value y))) | with_reducible apply State.setPins_keeps | with_reducible apply State.clockRow_keeps | with_reducible apply State.trip_keeps | with_reducible apply KeepsO.next | (intro a; intros; beta_reduce))

theorem execClkRelock_keeps {s0 s : State} {tag} (h : Keeps kq s0 s) : KeepsO kq s0 (execClkRelock tag s) := by
  unfold execClkRelock
  repeat' (first | with_reducible assumption | with_reducible apply State.performStart_keeps | with_reducible apply State.clockRow_keeps | with_reducible apply State.planLoops_keeps | with_reducible apply KeepsO.next | (intro a; intros; beta_reduce))

theorem execClkSyncArm_keeps {s0 s : State} (h : Keeps kq s0 s) : KeepsO kq s0 (execClkSyncArm s) := by
  unfold execClkSyncArm
  repeat' (first | with_reducible assumption | with_reducible apply State.onReg_keeps | with_reducible apply State.armSync_keeps | with_reducible apply KeepsO.next)

theorem execClkSyncCancel_keeps {s0 s : State} (h : Keeps kq s0 s) : KeepsO kq s0 (execClkSyncCancel s) := by
  unfold execClkSyncCancel
  repeat' (first | with_reducible assumption | with_reducible apply State.onReg_keeps | with_reducible apply State.clockRow_keeps | with_reducible apply State.cancelSync_keeps | with_reducible apply KeepsO.next | (intro a; intros; beta_reduce))

theorem execClkUnlock_keeps {s0 s : State} {l} (h : Keeps kq s0 s) : KeepsO kq s0 (execClkUnlock l s) := by
  unfold execClkUnlock
  repeat' (first | with_reducible assumption | with_reducible apply State.clockRow_keeps | with_reducible apply State.unlockLoop_keeps | with_reducible apply KeepsO.next | (intro a; intros; beta_reduce))

theorem execClmDataAccess_keeps {s0 s : State} {w} (h : Keeps kq s0 s) : KeepsO kq s0 (execClmDataAccess w s) := by
  unfold execClmDataAccess
  repeat' (first | with_reducible assumption | with_reducible apply State.writeRow_keeps | with_reducible apply State.hostRead_keeps | with_reducible apply KeepsO.next | split)

theorem execClockSourceQualified_keeps {s0 s : State} {lane} (h : Keeps kq s0 s) : KeepsO kq s0 (execClockSourceQualified lane s) := by
  unfold execClockSourceQualified
  repeat' (first | with_reducible assumption | with_reducible refine Keeps.ite ?_ ?_ | with_reducible refine KeepsO.ite ?_ ?_ | ((fail_if_no_progress (extract_lets +onlyGivenNames y)); (have z_ := y; guard_hyp z_ : State; clear z_); refine Keeps.cut (kq := kq) (s0 := s0) y ?_ ?_; (on_goal 1 => subst y); (on_goal 2 => (intro hy; try clear_value y))) | ((fail_if_no_progress (extract_lets +onlyGivenNames y)); (have z_ := y; guard_hyp z_ : State × _; clear z_); refine Keeps.cut1 (kq := kq) (s0 := s0) y ?_ ?_; (on_goal 1 => subst y); (on_goal 2 => (intro hy; try clear_value y))) | ((fail_if_no_progress (extract_lets +onlyGivenNames y)); (have z_ := y; guard_hyp z_ : _ × State; clear z_); refine Keeps.cut2 (kq := kq) (s0 := s0) y ?_ ?_; (on_goal 1 => subst y); (on_goal 2 => (intro hy; try clear_value y))) | ((fail_if_no_progress (extract_lets +onlyGivenNames y)); refine Keeps.fn y ?_; subst y; beta_reduce) | ((fail_if_no_progress (extract_lets +onlyGivenNames y)); clear_value y) | ((fail_if_no_progress (extract_lets +onlyGivenNames y)); subst y) | with_reducible apply State.setPins_keeps | with_reducible apply State.clockRow_keeps | with_reducible apply State.lateRelocks_keeps | with_reducible apply State.clearSource_keeps | with_reducible apply Done.plain_keeps | with_reducible apply Done.bad_keeps | fail_if_no_progress (with_reducible apply Keeps.upd) | (with_reducible refine Keeps.foldl ?_ ?_; on_goal 2 => (intro t x ht; beta_reduce)) | (with_reducible refine Keeps.foldl2 ?_ ?_; on_goal 2 => (intro t x ht; beta_reduce)) | with_reducible apply KeepsO.next | fail_if_no_progress (with_reducible apply Keeps.updFree) | (with_reducible refine Keeps.foldl1 ?_ ?_; on_goal 2 => (intro t x ht; beta_reduce)) | (with_reducible apply Keeps.fst; with_reducible assumption) | refine Keeps.ite ?_ ?_ | split | (intro a; intros; beta_reduce) | (with_reducible apply Keeps.snd; with_reducible assumption))

theorem execCommandComplete_keeps {s0 s : State} {tag} (h : Keeps kq s0 s) : KeepsO kq s0 (execCommandComplete tag s) := by
  unfold execCommandComplete
  repeat' (first | with_reducible assumption | with_reducible apply State.storeResult_keeps | with_reducible apply KeepsO.next)

theorem execDeviceReset_keeps {s0 s : State} {flash memOk} (h : Keeps kq s0 s) : KeepsO kq s0 (execDeviceReset flash memOk s) := by
  unfold execDeviceReset
  repeat' (first | with_reducible assumption | with_reducible apply State.deviceReset_keeps | with_reducible apply KeepsO.next)

theorem execDmaBurstGrant_keeps {s0 s : State} {write cycle host e} (h : Keeps false s0 s) : KeepsO false s0 (execDmaBurstGrant write cycle host e s) := by
  unfold execDmaBurstGrant
  repeat' (first | with_reducible assumption | with_reducible apply State.grantBurst_keeps | with_reducible apply State.readWord_keeps | with_reducible apply State.writeWord_keeps | with_reducible apply KeepsO.next | (intro a; intros; beta_reduce))

theorem execDmaChDoorbell_keeps {s0 s : State} {n} (h : Keeps kq s0 s) : KeepsO kq s0 (execDmaChDoorbell n s) := by
  unfold execDmaChDoorbell
  repeat' (first | with_reducible assumption | with_reducible apply State.onReg_keeps | with_reducible apply State.hostDoorbell_keeps | with_reducible apply KeepsO.next | (intro a; intros; beta_reduce))

theorem execDmaChReset_keeps {s0 s : State} {n} (h : Keeps kq s0 s) : KeepsO kq s0 (execDmaChReset n s) := by
  unfold execDmaChReset
  repeat' (first | with_reducible assumption | with_reducible apply State.onReg_keeps | with_reducible apply State.hostChReset_keeps | with_reducible apply KeepsO.next | (intro a; intros; beta_reduce))

theorem execDmaDescriptorComplete_keeps {s0 s : State} {n e} (h : Keeps false s0 s) : KeepsO false s0 (execDmaDescriptorComplete n e s) := by
  unfold execDmaDescriptorComplete
  repeat' (first | with_reducible assumption | with_reducible apply State.descComplete_keeps | with_reducible apply State.writeWord_keeps | with_reducible apply KeepsO.next | (intro a; intros; beta_reduce))

theorem execDpdCoefDataRead_keeps {s0 s : State} (h : Keeps kq s0 s) : KeepsO kq s0 (execDpdCoefDataRead s) := by
  unfold execDpdCoefDataRead
  repeat' (first | with_reducible assumption | with_reducible apply State.hostRead_keeps | with_reducible apply KeepsO.next)

theorem execDpdTermDataRead_keeps {s0 s : State} (h : Keeps kq s0 s) : KeepsO kq s0 (execDpdTermDataRead s) := by
  unfold execDpdTermDataRead
  repeat' (first | with_reducible assumption | with_reducible apply State.hostRead_keeps | with_reducible apply KeepsO.next)

theorem execEccUncorrectableError_keeps {s0 s : State} {p} (h : Keeps kq s0 s) : KeepsO kq s0 (execEccUncorrectableError p s) := by
  unfold execEccUncorrectableError
  repeat' (first | with_reducible assumption | with_reducible apply State.eccError_keeps | with_reducible apply KeepsO.next)

theorem execEvrNotifyRead_keeps {s0 s : State} (h : Keeps kq s0 s) : KeepsO kq s0 (execEvrNotifyRead s) := by
  unfold execEvrNotifyRead
  repeat' (first | with_reducible assumption | with_reducible apply State.hostRead_keeps | with_reducible apply KeepsO.next)

theorem execEvrWinDataRead_keeps {s0 s : State} (h : Keeps kq s0 s) : KeepsO kq s0 (execEvrWinDataRead s) := by
  unfold execEvrWinDataRead
  repeat' (first | with_reducible assumption | with_reducible apply State.hostRead_keeps | with_reducible apply KeepsO.next)

theorem execFallbackStable_keeps {s0 s : State} (h : Keeps kq s0 s) : KeepsO kq s0 (execFallbackStable s) := by
  unfold execFallbackStable
  repeat' (first | with_reducible assumption | with_reducible apply State.fallbackStable_keeps | with_reducible apply KeepsO.next)

theorem execFrmMapDataRead_keeps {s0 s : State} (h : Keeps kq s0 s) : KeepsO kq s0 (execFrmMapDataRead s) := by
  unfold execFrmMapDataRead
  repeat' (first | with_reducible assumption | with_reducible apply State.hostRead_keeps | with_reducible apply KeepsO.next)

theorem execFrqDataRead_keeps {s0 s : State} (h : Keeps kq s0 s) : KeepsO kq s0 (execFrqDataRead s) := by
  unfold execFrqDataRead
  repeat' (first | with_reducible assumption | with_reducible apply State.hostRead_keeps | with_reducible apply KeepsO.next)

theorem execFwWatchdog_keeps {s0 s : State} {x} (h : Keeps kq s0 s) : KeepsO kq s0 (execFwWatchdog x s) := by
  unfold execFwWatchdog
  repeat' (first | with_reducible assumption | with_reducible refine Keeps.ite ?_ ?_ | with_reducible apply State.pairFails_keeps | with_reducible apply State.raiseFree_keeps | with_reducible apply KeepsO.next)

theorem execGroupAbandoned_keeps {s0 s : State} {id} (h : Keeps kq s0 s) : KeepsO kq s0 (execGroupAbandoned id s) := by
  unfold execGroupAbandoned
  repeat' (first | with_reducible assumption | with_reducible refine Keeps.ite ?_ ?_ | ((fail_if_no_progress (extract_lets +onlyGivenNames y)); (have z_ := y; guard_hyp z_ : State; clear z_); refine Keeps.cut (kq := kq) (s0 := s0) y ?_ ?_; (on_goal 1 => subst y); (on_goal 2 => (intro hy; try clear_value y))) | ((fail_if_no_progress (extract_lets +onlyGivenNames y)); clear_value y) | with_reducible apply State.putPrivi_keeps | with_reducible apply State.finishNow_keeps | (with_reducible refine Keeps.foldl ?_ ?_; on_goal 2 => (intro t x ht; beta_reduce)) | with_reducible apply KeepsO.next | split)

theorem execHkFifoDataRead_keeps {s0 s : State} (h : Keeps kq s0 s) : KeepsO kq s0 (execHkFifoDataRead s) := by
  unfold execHkFifoDataRead
  repeat' (first | with_reducible assumption | with_reducible apply State.hostRead_keeps | with_reducible apply KeepsO.next)

theorem execHkFifoFlush_keeps {s0 s : State} (h : Keeps kq s0 s) : KeepsO kq s0 (execHkFifoFlush s) := by
  unfold execHkFifoFlush
  repeat' (first | with_reducible assumption | with_reducible apply State.onReg_keeps | with_reducible apply State.putFifo_keeps | with_reducible apply KeepsO.next | (intro a; intros; beta_reduce))

theorem execHkSeqDataRead_keeps {s0 s : State} (h : Keeps kq s0 s) : KeepsO kq s0 (execHkSeqDataRead s) := by
  unfold execHkSeqDataRead
  repeat' (first | with_reducible assumption | with_reducible apply State.hostRead_keeps | with_reducible apply KeepsO.next)

theorem execHkUrgentRequest_keeps {s0 s : State} {ch avg} (h : Keeps kq s0 s) : KeepsO kq s0 (execHkUrgentRequest ch avg s) := by
  unfold execHkUrgentRequest
  repeat' (first | with_reducible assumption | with_reducible apply State.writeRow_keeps | with_reducible apply KeepsO.next)

theorem execHousekeepingRound_keeps {s0 s : State} {temps supplies} (h : Keeps kq s0 s) : KeepsO kq s0 (execHousekeepingRound temps supplies s) := by
  unfold execHousekeepingRound
  repeat' (first | with_reducible assumption | with_reducible apply State.bootPoll_keeps | with_reducible apply State.hkRound_keeps | with_reducible apply KeepsO.next)

theorem execInjArm_keeps {s0 s : State} {tag} (h : Keeps kq s0 s) : KeepsO kq s0 (execInjArm tag s) := by
  unfold execInjArm
  repeat' (first | with_reducible assumption | ((fail_if_no_progress (extract_lets +onlyGivenNames y)); (have z_ := y; guard_hyp z_ : State; clear z_); refine Keeps.cut (kq := kq) (s0 := s0) y ?_ ?_; (on_goal 1 => subst y); (on_goal 2 => (intro hy; try clear_value y))) | ((fail_if_no_progress (extract_lets +onlyGivenNames y)); clear_value y) | with_reducible apply State.performStart_keeps | with_reducible apply State.dropInjection_keeps | with_reducible apply State.finishNow_keeps | with_reducible apply State.showInjection_keeps | with_reducible apply State.putInjections_keeps | with_reducible apply KeepsO.next | (intro a; intros; beta_reduce))

theorem execInjDisarm_keeps {s0 s : State} {tag} (h : Keeps kq s0 s) : KeepsO kq s0 (execInjDisarm tag s) := by
  unfold execInjDisarm
  repeat' (first | with_reducible assumption | ((fail_if_no_progress (extract_lets +onlyGivenNames y)); (have z_ := y; guard_hyp z_ : State; clear z_); refine Keeps.cut (kq := kq) (s0 := s0) y ?_ ?_; (on_goal 1 => subst y); (on_goal 2 => (intro hy; try clear_value y))) | with_reducible apply State.performStart_keeps | with_reducible apply State.setFld_keeps | with_reducible apply State.dropInjection_keeps | with_reducible apply State.finishNow_keeps | with_reducible apply KeepsO.next | (intro a; intros; beta_reduce))

theorem execInjectionFire_keeps {s0 s : State} {det arg} (h : Keeps kq s0 s) : KeepsO kq s0 (execInjectionFire det arg s) := by
  unfold execInjectionFire
  repeat' (first | with_reducible assumption | with_reducible refine Keeps.ite ?_ ?_ | with_reducible refine KeepsO.ite ?_ ?_ | ((fail_if_no_progress (extract_lets +onlyGivenNames y)); (have z_ := y; guard_hyp z_ : State; clear z_); refine Keeps.cut (kq := kq) (s0 := s0) y ?_ ?_; (on_goal 1 => subst y); (on_goal 2 => (intro hy; try clear_value y))) | ((fail_if_no_progress (extract_lets +onlyGivenNames y)); subst y) | with_reducible apply State.dropInjection_keeps | with_reducible apply State.putInjections_keeps | with_reducible apply State.addFld_keeps | with_reducible apply State.showInjection_keeps | with_reducible apply State.inject_keeps | with_reducible apply KeepsO.next | split)

theorem execLaneHistClear_keeps {s0 s : State} {l} (h : Keeps kq s0 s) : KeepsO kq s0 (execLaneHistClear l s) := by
  unfold execLaneHistClear
  repeat' (first | with_reducible assumption | with_reducible apply State.onReg_keeps | with_reducible apply State.histClear_keeps | with_reducible apply KeepsO.next | (intro a; intros; beta_reduce))

theorem execLaneRawCapture_keeps {s0 s : State} {l word} (h : Keeps kq s0 s) : KeepsO kq s0 (execLaneRawCapture l word s) := by
  unfold execLaneRawCapture
  repeat' (first | with_reducible assumption | with_reducible apply State.onReg_keeps | with_reducible apply State.rawCapture_keeps | with_reducible apply KeepsO.next | (intro a; intros; beta_reduce))

theorem execLeMemDataAccess_keeps {s0 s : State} {n w} (h : Keeps kq s0 s) : KeepsO kq s0 (execLeMemDataAccess n w s) := by
  unfold execLeMemDataAccess
  repeat' (first | with_reducible assumption | with_reducible apply State.writeRow_keeps | with_reducible apply State.hostRead_keeps | with_reducible apply KeepsO.next | split)

theorem execLnCoefDataRead_keeps {s0 s : State} {l} (h : Keeps kq s0 s) : KeepsO kq s0 (execLnCoefDataRead l s) := by
  unfold execLnCoefDataRead
  repeat' (first | with_reducible assumption | with_reducible apply State.hostRead_keeps | with_reducible apply KeepsO.next)

theorem execLnPrbsBitsLoRead_keeps {s0 s : State} {l} (h : Keeps kq s0 s) : KeepsO kq s0 (execLnPrbsBitsLoRead l s) := by
  unfold execLnPrbsBitsLoRead
  repeat' (first | with_reducible assumption | with_reducible apply State.hostRead_keeps | with_reducible apply KeepsO.next)

theorem execLnPrbsErrLoRead_keeps {s0 s : State} {l} (h : Keeps kq s0 s) : KeepsO kq s0 (execLnPrbsErrLoRead l s) := by
  unfold execLnPrbsErrLoRead
  repeat' (first | with_reducible assumption | with_reducible apply State.hostRead_keeps | with_reducible apply KeepsO.next)

theorem execLockstepMismatch_keeps {s0 s : State} {x} (h : Keeps kq s0 s) : KeepsO kq s0 (execLockstepMismatch x s) := by
  unfold execLockstepMismatch
  repeat' (first | with_reducible assumption | with_reducible refine Keeps.ite ?_ ?_ | with_reducible apply State.pairFails_keeps | with_reducible apply State.raiseFree_keeps | with_reducible apply KeepsO.next)

theorem execLoopLock_keeps {s0 s : State} {l} (h : Keeps kq s0 s) : KeepsO kq s0 (execLoopLock l s) := by
  unfold execLoopLock
  repeat' (first | with_reducible assumption | with_reducible apply State.clockRow_keeps | with_reducible apply State.tryRelease_keeps | with_reducible apply State.lockLoop_keeps | with_reducible apply KeepsO.next | (intro a; intros; beta_reduce))

theorem execLoopLockTimeout_keeps {s0 s : State} {l} (h : Keeps kq s0 s) : KeepsO kq s0 (execLoopLockTimeout l s) := by
  unfold execLoopLockTimeout
  repeat' (first | with_reducible assumption | with_reducible apply State.clockRow_keeps | with_reducible apply State.lockTimeout_keeps | with_reducible apply KeepsO.next | (intro a; intros; beta_reduce))

theorem execMbxResFetchComplete_keeps {s0 s : State} (h : Keeps kq s0 s) : KeepsO kq s0 (execMbxResFetchComplete s) := by
  unfold execMbxResFetchComplete
  repeat' (first | with_reducible assumption | with_reducible refine KeepsO.ite ?_ ?_ | ((fail_if_no_progress (extract_lets +onlyGivenNames y)); clear_value y) | with_reducible apply State.readResult_keeps | with_reducible apply State.setFld_keeps | with_reducible apply State.putPrivi_keeps | with_reducible apply KeepsO.next | split)

theorem execMbxResTagWrite_keeps {s0 s : State} {tag} (h : Keeps kq s0 s) : KeepsO kq s0 (execMbxResTagWrite tag s) := by
  unfold execMbxResTagWrite
  repeat' (first | with_reducible assumption | with_reducible apply State.writeRow_keeps | with_reducible apply KeepsO.next)

theorem execMbxRingReset_keeps {s0 s : State} (h : Keeps kq s0 s) : KeepsO kq s0 (execMbxRingReset s) := by
  unfold execMbxRingReset
  repeat' (first | with_reducible assumption | with_reducible apply State.onReg_keeps | with_reducible apply State.ringReset_keeps | with_reducible apply KeepsO.next)

theorem execModuleHostXfer_keeps {s0 s : State} {m w} (h : Keeps kq s0 s) : KeepsO kq s0 (execModuleHostXfer m w s) := by
  unfold execModuleHostXfer
  repeat' (first | with_reducible assumption | with_reducible apply State.writeRow_keeps | with_reducible apply KeepsO.next)

theorem execOpRampComplete_keeps {s0 s : State} (h : Keeps kq s0 s) : KeepsO kq s0 (execOpRampComplete s) := by
  unfold execOpRampComplete
  repeat' (first | with_reducible assumption | with_reducible apply State.powerPoll_keeps | with_reducible apply State.endRamp_keeps | with_reducible apply KeepsO.next)

theorem execPacketAcceptance_keeps {s0 s : State} {via slot} (h : Keeps kq s0 s) : KeepsO kq s0 (execPacketAcceptance via slot s) := by
  unfold execPacketAcceptance
  repeat' (first | with_reducible assumption | with_reducible apply State.takePacket_keeps | with_reducible apply KeepsO.next)

theorem execPadrvEnable_keeps {s0 s : State} (h : Keeps kq s0 s) : KeepsO kq s0 (execPadrvEnable s) := by
  unfold execPadrvEnable
  repeat' (first | with_reducible assumption | with_reducible refine Keeps.ite ?_ ?_ | with_reducible apply State.onReg_keeps | with_reducible apply State.padrvEnable_keeps | with_reducible apply KeepsO.next | (intro a; intros; beta_reduce))

theorem execPairBootComplete_keeps {s0 s : State} {x ok} (h : Keeps kq s0 s) : KeepsO kq s0 (execPairBootComplete x ok s) := by
  unfold execPairBootComplete
  repeat' (first | with_reducible assumption | with_reducible refine KeepsO.ite ?_ ?_ | ((fail_if_no_progress (extract_lets +onlyGivenNames y)); (have z_ := y; guard_hyp z_ : State; clear z_); refine Keeps.cut (kq := kq) (s0 := s0) y ?_ ?_; (on_goal 1 => subst y); (on_goal 2 => (intro hy; try clear_value y))) | ((fail_if_no_progress (extract_lets +onlyGivenNames y)); clear_value y) | with_reducible apply State.pairBoots_keeps | with_reducible apply State.setMode_keeps | with_reducible apply State.setActivation_keeps | with_reducible apply State.finishNow_keeps | with_reducible apply State.endActivation_keeps | with_reducible apply State.retirePair_keeps | with_reducible apply State.runSlot_keeps | fail_if_no_progress (with_reducible apply Keeps.upd) | with_reducible apply KeepsO.next | split)

theorem execPcieDoorbell_keeps {s0 s : State} {index} (h : Keeps kq s0 s) : KeepsO kq s0 (execPcieDoorbell index s) := by
  unfold execPcieDoorbell
  repeat' (first | with_reducible assumption | with_reducible apply State.writeRow_keeps | with_reducible apply KeepsO.next)

theorem execPowerOff_keeps {s0 s : State} (h : Keeps kq s0 s) : KeepsO kq s0 (execPowerOff s) := by
  unfold execPowerOff
  repeat' (first | with_reducible assumption | with_reducible apply State.powerOff_keeps | with_reducible apply KeepsO.next)

theorem execPowerStepComplete_keeps {s0 s : State} {domain found us} (h : Keeps false s0 s) : KeepsO false s0 (execPowerStepComplete domain found us s) := by
  unfold execPowerStepComplete
  repeat' (first | with_reducible assumption | with_reducible refine Keeps.ite ?_ ?_ | with_reducible apply State.powerStep_keeps | with_reducible apply State.resetWoken_keeps | with_reducible apply KeepsO.next | split)

theorem execPwrCtrlWake_keeps {s0 s : State} {memOk} (h : Keeps kq s0 s) : KeepsO kq s0 (execPwrCtrlWake memOk s) := by
  unfold execPwrCtrlWake
  repeat' (first | with_reducible assumption | with_reducible apply State.onReg_keeps | with_reducible apply State.warmBoot_keeps | with_reducible apply KeepsO.next | (intro a; intros; beta_reduce))

theorem execPwrGetState_keeps {s0 s : State} {tag} (h : Keeps kq s0 s) : KeepsO kq s0 (execPwrGetState tag s) := by
  unfold execPwrGetState
  repeat' (first | with_reducible assumption | with_reducible apply State.performStart_keeps | with_reducible apply State.finishNow_keeps | with_reducible apply KeepsO.next | (intro a; intros; beta_reduce))

theorem execPwrResetKey_keeps {s0 s : State} {memOk} (h : Keeps kq s0 s) : KeepsO kq s0 (execPwrResetKey memOk s) := by
  unfold execPwrResetKey
  repeat' (first | with_reducible assumption | with_reducible apply State.onReg_keeps | with_reducible apply State.resetKey_keeps | with_reducible apply KeepsO.next | (intro a; intros; beta_reduce))

theorem execPwrSetState_keeps {s0 s : State} {tag} (h : Keeps kq s0 s) : KeepsO kq s0 (execPwrSetState tag s) := by
  unfold execPwrSetState
  repeat' (first | with_reducible assumption | with_reducible refine Keeps.ite ?_ ?_ | ((fail_if_no_progress (extract_lets +onlyGivenNames y)); (have z_ := y; guard_hyp z_ : State; clear z_); refine Keeps.cut (kq := kq) (s0 := s0) y ?_ ?_; (on_goal 1 => subst y); (on_goal 2 => (intro hy; try clear_value y))) | ((fail_if_no_progress (extract_lets +onlyGivenNames y)); clear_value y) | with_reducible apply State.performStart_keeps | with_reducible apply State.finishNow_keeps | with_reducible apply State.setFld_keeps | with_reducible apply State.startRequest_keeps | fail_if_no_progress (with_reducible apply Keeps.upd) | with_reducible apply KeepsO.next | split | (intro a; intros; beta_reduce))

theorem execQfeCoefDataRead_keeps {s0 s : State} {n} (h : Keeps kq s0 s) : KeepsO kq s0 (execQfeCoefDataRead n s) := by
  unfold execQfeCoefDataRead
  repeat' (first | with_reducible assumption | with_reducible apply State.hostRead_keeps | with_reducible apply KeepsO.next)

theorem execQfeTxCoefDataRead_keeps {s0 s : State} {n} (h : Keeps kq s0 s) : KeepsO kq s0 (execQfeTxCoefDataRead n s) := by
  unfold execQfeTxCoefDataRead
  repeat' (first | with_reducible assumption | with_reducible apply State.hostRead_keeps | with_reducible apply KeepsO.next)

theorem execRefclkMeasure_keeps {s0 s : State} {khz} (h : Keeps kq s0 s) : KeepsO kq s0 (execRefclkMeasure khz s) := by
  unfold execRefclkMeasure
  repeat' (first | with_reducible assumption | with_reducible apply State.refMeasure_keeps | with_reducible apply KeepsO.next)

theorem execRegisterWrite_keeps {s0 s : State} {addr enables v e} (h : Keeps kq s0 s) : KeepsO kq s0 (execRegisterWrite addr enables v e s) := by
  unfold execRegisterWrite
  repeat' (first | with_reducible assumption | with_reducible apply State.hostWrite32_keeps | with_reducible apply KeepsO.next)

theorem execReplyRingWrite_keeps {s0 s : State} {pcieOk} (h : Keeps false s0 s) : KeepsO false s0 (execReplyRingWrite pcieOk s) := by
  unfold execReplyRingWrite
  repeat' (first | with_reducible assumption | with_reducible refine Keeps.ite ?_ ?_ | with_reducible apply State.writeReply_keeps | with_reducible apply State.setMbxIrq_keeps | with_reducible apply KeepsO.next)

theorem execResultAck_keeps {s0 s : State} {tag} (h : Keeps kq s0 s) : KeepsO kq s0 (execResultAck tag s) := by
  unfold execResultAck
  repeat' (first | with_reducible assumption | with_reducible refine Keeps.ite ?_ ?_ | ((fail_if_no_progress (extract_lets +onlyGivenNames y)); (have z_ := y; guard_hyp z_ : State; clear z_); refine Keeps.cut (kq := kq) (s0 := s0) y ?_ ?_; (on_goal 1 => subst y); (on_goal 2 => (intro hy; try clear_value y))) | ((fail_if_no_progress (extract_lets +onlyGivenNames y)); clear_value y) | with_reducible apply State.takeCmd_keeps | with_reducible apply State.releaseSlot_keeps | with_reducible apply State.sendUnstored_keeps | with_reducible apply KeepsO.next | (with_reducible refine Keeps.foldl1 ?_ ?_; on_goal 2 => (intro t x ht; beta_reduce)) | split)

theorem execResultRead_keeps {s0 s : State} {spi} (h : Keeps kq s0 s) : KeepsO kq s0 (execResultRead spi s) := by
  unfold execResultRead
  repeat' (first | with_reducible assumption | with_reducible refine Keeps.ite ?_ ?_ | ((fail_if_no_progress (extract_lets +onlyGivenNames y)); (have z_ := y; guard_hyp z_ : State; clear z_); refine Keeps.cut (kq := kq) (s0 := s0) y ?_ ?_; (on_goal 1 => subst y); (on_goal 2 => (intro hy; try clear_value y))) | ((fail_if_no_progress (extract_lets +onlyGivenNames y)); clear_value y) | with_reducible apply State.discSpi_keeps | with_reducible apply State.putPrivi_keeps | with_reducible apply State.answerRead_keeps | with_reducible apply State.discInb_keeps | with_reducible apply KeepsO.next | split)

theorem execSafeNHigh_keeps {s0 s : State} (h : Keeps kq s0 s) : KeepsO kq s0 (execSafeNHigh s) := by
  unfold execSafeNHigh
  repeat' (first | with_reducible assumption | ((fail_if_no_progress (extract_lets +onlyGivenNames y)); (have z_ := y; guard_hyp z_ : State; clear z_); refine Keeps.cut (kq := kq) (s0 := s0) y ?_ ?_; (on_goal 1 => subst y); (on_goal 2 => (intro hy; try clear_value y))) | with_reducible apply State.setPins_keeps | with_reducible apply State.clockRow_keeps | with_reducible apply State.clearSource_keeps | with_reducible apply KeepsO.next | (intro a; intros; beta_reduce))

theorem execSafeNLow_keeps {s0 s : State} (h : Keeps kq s0 s) : KeepsO kq s0 (execSafeNLow s) := by
  unfold execSafeNLow
  repeat' (first | with_reducible assumption | with_reducible refine Keeps.ite ?_ ?_ | ((fail_if_no_progress (extract_lets +onlyGivenNames y)); (have z_ := y; guard_hyp z_ : State; clear z_); refine Keeps.cut (kq := kq) (s0 := s0) y ?_ ?_; (on_goal 1 => subst y); (on_goal 2 => (intro hy; try clear_value y))) | with_reducible apply State.setPins_keeps | with_reducible apply State.clockRow_keeps | with_reducible apply State.trip_keeps | with_reducible apply KeepsO.next | (intro a; intros; beta_reduce))

theorem execSecAttestationBuild_keeps {s0 s : State} {tag} (h : Keeps kq s0 s) : KeepsO kq s0 (execSecAttestationBuild tag s) := by
  unfold execSecAttestationBuild
  repeat' (first | with_reducible assumption | ((fail_if_no_progress (extract_lets +onlyGivenNames y)); clear_value y) | with_reducible apply State.performStart_keeps | with_reducible apply State.finishNow_keeps | fail_if_no_progress (with_reducible apply Keeps.upd) | with_reducible apply KeepsO.next | (intro a; intros; beta_reduce))

theorem execSecAttestationReadCerts_keeps {s0 s : State} {tag} (h : Keeps kq s0 s) : KeepsO kq s0 (execSecAttestationReadCerts tag s) := by
  unfold execSecAttestationReadCerts
  repeat' (first | with_reducible assumption | with_reducible apply State.performStart_keeps | with_reducible apply State.finishNow_keeps | with_reducible apply KeepsO.next | (intro a; intros; beta_reduce))

theorem execSecAttestationReadReport_keeps {s0 s : State} {tag} (h : Keeps kq s0 s) : KeepsO kq s0 (execSecAttestationReadReport tag s) := by
  unfold execSecAttestationReadReport
  repeat' (first | with_reducible assumption | ((fail_if_no_progress (extract_lets +onlyGivenNames y)); clear_value y) | with_reducible apply State.performStart_keeps | with_reducible apply State.finishNow_keeps | with_reducible apply KeepsO.next | (intro a; intros; beta_reduce))

theorem execSecInstallCommit_keeps {s0 s : State} {tag v flashOk} (h : Keeps kq s0 s) : KeepsO kq s0 (execSecInstallCommit tag v flashOk s) := by
  unfold execSecInstallCommit
  repeat' (first | with_reducible assumption | with_reducible refine Keeps.ite ?_ ?_ | ((fail_if_no_progress (extract_lets +onlyGivenNames y)); (have z_ := y; guard_hyp z_ : State; clear z_); refine Keeps.cut (kq := kq) (s0 := s0) y ?_ ?_; (on_goal 1 => subst y); (on_goal 2 => (intro hy; try clear_value y))) | ((fail_if_no_progress (extract_lets +onlyGivenNames y)); clear_value y) | with_reducible apply State.performStart_keeps | with_reducible apply State.finishNow_keeps | with_reducible apply State.setStaging_keeps | with_reducible apply State.authEnd_keeps | with_reducible apply State.applyRecord_keeps | fail_if_no_progress (with_reducible apply Keeps.upd) | with_reducible apply KeepsO.next | fail_if_no_progress (with_reducible apply Keeps.updFree) | split | (intro a; intros; beta_reduce))

theorem execSecInstallOpen_keeps {s0 s : State} {tag} (h : Keeps kq s0 s) : KeepsO kq s0 (execSecInstallOpen tag s) := by
  unfold execSecInstallOpen
  repeat' (first | with_reducible assumption | with_reducible apply State.performStart_keeps | with_reducible apply State.finishNow_keeps | with_reducible apply State.setStaging_keeps | with_reducible apply KeepsO.next | (intro a; intros; beta_reduce))

theorem execSecInstallWrite_keeps {s0 s : State} {tag} (h : Keeps kq s0 s) : KeepsO kq s0 (execSecInstallWrite tag s) := by
  unfold execSecInstallWrite
  repeat' (first | with_reducible assumption | with_reducible refine Keeps.ite ?_ ?_ | ((fail_if_no_progress (extract_lets +onlyGivenNames y)); clear_value y) | with_reducible apply State.performStart_keeps | with_reducible apply State.finishNow_keeps | with_reducible apply State.setStaging_keeps | with_reducible apply KeepsO.next | split | (intro a; intros; beta_reduce))

theorem execSecRecovDataWrite_keeps {s0 s : State} {w} (h : Keeps kq s0 s) : KeepsO kq s0 (execSecRecovDataWrite w s) := by
  unfold execSecRecovDataWrite
  repeat' (first | with_reducible assumption | with_reducible apply State.writeRow_keeps | with_reducible apply KeepsO.next)

theorem execSecRecovGo_keeps {s0 s : State} {v} (h : Keeps kq s0 s) : KeepsO kq s0 (execSecRecovGo v s) := by
  unfold execSecRecovGo
  repeat' (first | with_reducible assumption | with_reducible apply State.onReg_keeps | with_reducible apply State.recovGo_keeps | with_reducible apply KeepsO.next | (intro a; intros; beta_reduce))

theorem execSecUnlockChallenge_keeps {s0 s : State} {tag random} (h : Keeps kq s0 s) : KeepsO kq s0 (execSecUnlockChallenge tag random s) := by
  unfold execSecUnlockChallenge
  repeat' (first | with_reducible assumption | ((fail_if_no_progress (extract_lets +onlyGivenNames y)); (have z_ := y; guard_hyp z_ : State; clear z_); refine Keeps.cut (kq := kq) (s0 := s0) y ?_ ?_; (on_goal 1 => subst y); (on_goal 2 => (intro hy; try clear_value y))) | ((fail_if_no_progress (extract_lets +onlyGivenNames y)); clear_value y) | with_reducible apply State.performStart_keeps | with_reducible apply State.setFld_keeps | with_reducible apply State.finishNow_keeps | fail_if_no_progress (with_reducible apply Keeps.upd) | with_reducible apply KeepsO.next | refine Keeps.ite ?_ ?_ | (intro a; intros; beta_reduce))

theorem execSecUnlockEnd_keeps {s0 s : State} {tag} (h : Keeps kq s0 s) : KeepsO kq s0 (execSecUnlockEnd tag s) := by
  unfold execSecUnlockEnd
  repeat' (first | with_reducible assumption | with_reducible refine Keeps.ite ?_ ?_ | with_reducible apply State.performStart_keeps | with_reducible apply State.finishNow_keeps | with_reducible apply State.lock_keeps | with_reducible apply KeepsO.next | (intro a; intros; beta_reduce))

theorem execSecUnlockStage_keeps {s0 s : State} {tag} (h : Keeps kq s0 s) : KeepsO kq s0 (execSecUnlockStage tag s) := by
  unfold execSecUnlockStage
  repeat' (first | with_reducible assumption | ((fail_if_no_progress (extract_lets +onlyGivenNames y)); clear_value y) | with_reducible apply State.performStart_keeps | with_reducible apply State.finishNow_keeps | fail_if_no_progress (with_reducible apply Keeps.upd) | with_reducible apply KeepsO.next | (intro a; intros; beta_reduce))

theorem execSecUnlockSubmit_keeps {s0 s : State} {tag v} (h : Keeps kq s0 s) : KeepsO kq s0 (execSecUnlockSubmit tag v s) := by
  unfold execSecUnlockSubmit
  repeat' (first | with_reducible assumption | ((fail_if_no_progress (extract_lets +onlyGivenNames y)); (have z_ := y; guard_hyp z_ : State; clear z_); refine Keeps.cut (kq := kq) (s0 := s0) y ?_ ?_; (on_goal 1 => subst y); (on_goal 2 => (intro hy; try clear_value y))) | ((fail_if_no_progress (extract_lets +onlyGivenNames y)); clear_value y) | with_reducible apply State.performStart_keeps | with_reducible apply State.finishNow_keeps | with_reducible apply State.grantUnlock_keeps | with_reducible apply State.setFld_keeps | with_reducible apply State.authEnd_keeps | with_reducible apply KeepsO.next | fail_if_no_progress (with_reducible apply Keeps.updFree) | refine Keeps.ite ?_ ?_ | split | (intro a; intros; beta_reduce))

theorem execSpareTakeover_keeps {s0 s : State} {e} (h : Keeps kq s0 s) : KeepsO kq s0 (execSpareTakeover e s) := by
  unfold execSpareTakeover
  repeat' (first | with_reducible assumption | with_reducible apply State.refreshReplace_keeps | with_reducible apply State.spareTakeover_keeps | with_reducible apply KeepsO.next)

theorem execSpiCommand_keeps {s0 s : State} {bs} (h : Keeps kq s0 s) : KeepsO kq s0 (execSpiCommand bs s) := by
  unfold execSpiCommand
  repeat' (first | with_reducible assumption | with_reducible refine Keeps.ite ?_ ?_ | ((fail_if_no_progress (extract_lets +onlyGivenNames y)); clear_value y) | with_reducible apply State.discSpi_keeps | with_reducible apply State.putPrivi_keeps | with_reducible apply KeepsO.next)

theorem execSpiFetch_keeps {s0 s : State} (h : Keeps kq s0 s) : KeepsO kq s0 (execSpiFetch s) := by
  unfold execSpiFetch
  repeat' (first | with_reducible assumption | ((fail_if_no_progress (extract_lets +onlyGivenNames y)); clear_value y) | with_reducible apply State.emit_keeps | with_reducible apply State.putPrivi_keeps | with_reducible apply KeepsO.next | split)

theorem execSpiStatus_keeps {s0 s : State} (h : Keeps kq s0 s) : KeepsO kq s0 (execSpiStatus s) := by
  unfold execSpiStatus
  repeat' (first | with_reducible assumption | with_reducible apply State.emit_keeps | with_reducible apply KeepsO.next)

theorem execSpiWindowRead_keeps {s0 s : State} {fix addr words begun} (h : Keeps kq s0 s) : KeepsO kq s0 (execSpiWindowRead fix addr words begun s) := by
  unfold execSpiWindowRead
  repeat' (first | with_reducible assumption | with_reducible apply State.spiWindowRead_keeps | with_reducible apply KeepsO.next)

theorem execSpiWindowWrite_keeps {s0 s : State} {fix addr words data e} (h : Keeps kq s0 s) : KeepsO kq s0 (execSpiWindowWrite fix addr words data e s) := by
  unfold execSpiWindowWrite
  repeat' (first | with_reducible assumption | with_reducible apply State.spiWindowWrite_keeps | with_reducible apply KeepsO.next)

theorem execSysActivateFirmware_keeps {s0 s : State} {tag v} (h : Keeps kq s0 s) : KeepsO kq s0 (execSysActivateFirmware tag v s) := by
  unfold execSysActivateFirmware
  repeat' (first | with_reducible assumption | ((fail_if_no_progress (extract_lets +onlyGivenNames y)); clear_value y) | with_reducible apply State.performStart_keeps | with_reducible apply State.authEnd_keeps | with_reducible apply State.setMode_keeps | with_reducible apply State.setActivation_keeps | with_reducible apply KeepsO.next | split | (intro a; intros; beta_reduce))

theorem execSysGetHealth_keeps {s0 s : State} {tag} (h : Keeps kq s0 s) : KeepsO kq s0 (execSysGetHealth tag s) := by
  unfold execSysGetHealth
  repeat' (first | with_reducible assumption | with_reducible apply State.performStart_keeps | with_reducible apply State.finishNow_keeps | with_reducible apply KeepsO.next | (intro a; intros; beta_reduce))

theorem execSysIdentify_keeps {s0 s : State} {tag} (h : Keeps kq s0 s) : KeepsO kq s0 (execSysIdentify tag s) := by
  unfold execSysIdentify
  repeat' (first | with_reducible assumption | with_reducible apply State.performStart_keeps | with_reducible apply State.finishNow_keeps | with_reducible apply KeepsO.next | (intro a; intros; beta_reduce))

theorem execSysNop_keeps {s0 s : State} {tag} (h : Keeps kq s0 s) : KeepsO kq s0 (execSysNop tag s) := by
  unfold execSysNop
  repeat' (first | with_reducible assumption | with_reducible apply State.performStart_keeps | with_reducible apply State.finishNow_keeps | with_reducible apply KeepsO.next | (intro a; intros; beta_reduce))

theorem execSysResetUnit_keeps {s0 s : State} {tag selfOk} (h : Keeps kq s0 s) : KeepsO kq s0 (execSysResetUnit tag selfOk s) := by
  unfold execSysResetUnit
  repeat' (first | with_reducible assumption | with_reducible refine Keeps.ite ?_ ?_ | ((fail_if_no_progress (extract_lets +onlyGivenNames y)); (have z_ := y; guard_hyp z_ : State; clear z_); refine Keeps.cut (kq := kq) (s0 := s0) y ?_ ?_; (on_goal 1 => subst y); (on_goal 2 => (intro hy; try clear_value y))) | ((fail_if_no_progress (extract_lets +onlyGivenNames y)); clear_value y) | ((fail_if_no_progress (extract_lets +onlyGivenNames y)); subst y) | with_reducible apply State.performStart_keeps | with_reducible apply State.refreshReplace_keeps | with_reducible apply State.retireUnit_keeps | with_reducible apply State.raiseFree_keeps | with_reducible apply State.startTests_keeps | with_reducible apply State.beginStep_keeps | with_reducible apply State.domainOff_keeps | with_reducible apply State.settleUnits_keeps | with_reducible apply State.putResets_keeps | fail_if_no_progress (with_reducible apply Keeps.upd) | (with_reducible refine Keeps.foldl ?_ ?_; on_goal 2 => (intro t x ht; beta_reduce)) | with_reducible apply KeepsO.next | (intro a; intros; beta_reduce))

theorem execSysResetUnitTimeout_keeps {s0 s : State} {tag} (h : Keeps kq s0 s) : KeepsO kq s0 (execSysResetUnitTimeout tag s) := by
  unfold execSysResetUnitTimeout
  repeat' (first | with_reducible assumption | with_reducible refine Keeps.ite ?_ ?_ | ((fail_if_no_progress (extract_lets +onlyGivenNames y)); (have z_ := y; guard_hyp z_ : State; clear z_); refine Keeps.cut (kq := kq) (s0 := s0) y ?_ ?_; (on_goal 1 => subst y); (on_goal 2 => (intro hy; try clear_value y))) | with_reducible apply State.putResets_keeps | with_reducible apply State.finishNow_keeps | with_reducible apply State.calRetire_keeps | (with_reducible refine Keeps.foldl ?_ ?_; on_goal 2 => (intro t x ht; beta_reduce)) | with_reducible apply KeepsO.next | split)

theorem execTakeoverComplete_keeps {s0 s : State} (h : Keeps kq s0 s) : KeepsO kq s0 (execTakeoverComplete s) := by
  unfold execTakeoverComplete
  repeat' (first | with_reducible assumption | with_reducible refine Keeps.ite ?_ ?_ | with_reducible refine KeepsO.ite ?_ ?_ | ((fail_if_no_progress (extract_lets +onlyGivenNames y)); (have z_ := y; guard_hyp z_ : State; clear z_); refine Keeps.cut (kq := kq) (s0 := s0) y ?_ ?_; (on_goal 1 => subst y); (on_goal 2 => (intro hy; try clear_value y))) | ((fail_if_no_progress (extract_lets +onlyGivenNames y)); (have z_ := y; guard_hyp z_ : State × _; clear z_); refine Keeps.cut1 (kq := kq) (s0 := s0) y ?_ ?_; (on_goal 1 => subst y); (on_goal 2 => (intro hy; try clear_value y))) | ((fail_if_no_progress (extract_lets +onlyGivenNames y)); (have z_ := y; guard_hyp z_ : _ × State; clear z_); refine Keeps.cut2 (kq := kq) (s0 := s0) y ?_ ?_; (on_goal 1 => subst y); (on_goal 2 => (intro hy; try clear_value y))) | ((fail_if_no_progress (extract_lets +onlyGivenNames y)); refine Keeps.fn y ?_; subst y; beta_reduce) | ((fail_if_no_progress (extract_lets +onlyGivenNames y)); clear_value y) | ((fail_if_no_progress (extract_lets +onlyGivenNames y)); subst y) | with_reducible apply State.soloRows_keeps | with_reducible apply State.answerWaiting_keeps | with_reducible apply State.setMode_keeps | with_reducible apply Done.plain_keeps | with_reducible apply Done.bad_keeps | fail_if_no_progress (with_reducible apply Keeps.upd) | (with_reducible refine Keeps.foldl ?_ ?_; on_goal 2 => (intro t x ht; beta_reduce)) | (with_reducible refine Keeps.foldl2 ?_ ?_; on_goal 2 => (intro t x ht; beta_reduce)) | with_reducible apply KeepsO.next | fail_if_no_progress (with_reducible apply Keeps.updFree) | (with_reducible refine Keeps.foldl1 ?_ ?_; on_goal 2 => (intro t x ht; beta_reduce)) | (with_reducible apply Keeps.fst; with_reducible assumption) | refine Keeps.ite ?_ ?_ | split | (intro a; intros; beta_reduce) | (with_reducible apply Keeps.snd; with_reducible assumption))

theorem execTckCommitArm_keeps {s0 s : State} (h : Keeps kq s0 s) : KeepsO kq s0 (execTckCommitArm s) := by
  unfold execTckCommitArm
  repeat' (first | with_reducible assumption | with_reducible apply State.onReg_keeps | with_reducible apply State.armHostCommit_keeps | with_reducible apply KeepsO.next)

theorem execTckCommitCancel_keeps {s0 s : State} (h : Keeps kq s0 s) : KeepsO kq s0 (execTckCommitCancel s) := by
  unfold execTckCommitCancel
  repeat' (first | with_reducible assumption | with_reducible apply State.onReg_keeps | with_reducible apply State.cancelHostCommit_keeps | with_reducible apply KeepsO.next)

theorem execTckCtrlAlignArm_keeps {s0 s : State} (h : Keeps kq s0 s) : KeepsO kq s0 (execTckCtrlAlignArm s) := by
  unfold execTckCtrlAlignArm
  repeat' (first | with_reducible assumption | with_reducible apply State.onReg_keeps | with_reducible apply State.setFld_keeps | with_reducible apply KeepsO.next | (intro a; intros; beta_reduce))

theorem execTckCtrlPeakClr_keeps {s0 s : State} (h : Keeps kq s0 s) : KeepsO kq s0 (execTckCtrlPeakClr s) := by
  unfold execTckCtrlPeakClr
  repeat' (first | with_reducible assumption | with_reducible apply State.onReg_keeps | with_reducible apply State.clearPeaks_keeps | with_reducible apply KeepsO.next)

theorem execTckCtrlRun_keeps {s0 s : State} {byFirmware} (h : Keeps kq s0 s) : KeepsO kq s0 (execTckCtrlRun byFirmware s) := by
  unfold execTckCtrlRun
  repeat' (first | with_reducible assumption | with_reducible refine Keeps.ite ?_ ?_ | with_reducible apply State.onReg_keeps | with_reducible apply State.startTick_keeps | with_reducible apply State.fwIgnored_keeps | with_reducible apply KeepsO.next | (intro a; intros; beta_reduce))

theorem execTckEvseqLoRead_keeps {s0 s : State} (h : Keeps kq s0 s) : KeepsO kq s0 (execTckEvseqLoRead s) := by
  unfold execTckEvseqLoRead
  repeat' (first | with_reducible assumption | with_reducible apply State.hostRead_keeps | with_reducible apply KeepsO.next)

theorem execTimAncDataRead_keeps {s0 s : State} (h : Keeps kq s0 s) : KeepsO kq s0 (execTimAncDataRead s) := by
  unfold execTimAncDataRead
  repeat' (first | with_reducible assumption | with_reducible apply State.hostRead_keeps | with_reducible apply KeepsO.next)

theorem execTimeSnapshot_keeps {s0 s : State} {edge} (h : Keeps kq s0 s) : KeepsO kq s0 (execTimeSnapshot edge s) := by
  unfold execTimeSnapshot
  repeat' (first | with_reducible assumption | with_reducible apply State.onReg_keeps | with_reducible apply State.snapshot_keeps | with_reducible apply KeepsO.next | (intro a; intros; beta_reduce))

theorem execTsyncEdge_keeps {s0 s : State} {periods} (h : Keeps kq s0 s) : KeepsO kq s0 (execTsyncEdge periods s) := by
  unfold execTsyncEdge
  repeat' (first | with_reducible assumption | with_reducible apply State.powerPoll_keeps | with_reducible apply State.tsyncEdge_keeps | with_reducible apply KeepsO.next)

theorem execUnlockDurationExpiry_keeps {s0 s : State} (h : Keeps kq s0 s) : KeepsO kq s0 (execUnlockDurationExpiry s) := by
  unfold execUnlockDurationExpiry
  repeat' (first | with_reducible assumption | with_reducible refine Keeps.ite ?_ ?_ | with_reducible apply State.lock_keeps | with_reducible apply KeepsO.next)

theorem execWakeStepFail_keeps {s0 s : State} {domain clock us} (h : Keeps kq s0 s) : KeepsO kq s0 (execWakeStepFail domain clock us s) := by
  unfold execWakeStepFail
  repeat' (first | with_reducible assumption | with_reducible refine Keeps.ite ?_ ?_ | ((fail_if_no_progress (extract_lets +onlyGivenNames y)); clear_value y) | with_reducible apply State.wakeFails_keeps | with_reducible apply State.resetWakeFails_keeps | with_reducible apply KeepsO.next | split)

theorem execWakeStepRetry_keeps {s0 s : State} {domain} (h : Keeps kq s0 s) : KeepsO kq s0 (execWakeStepRetry domain s) := by
  unfold execWakeStepRetry
  repeat' (first | with_reducible assumption | with_reducible refine Keeps.ite ?_ ?_ | with_reducible refine KeepsO.ite ?_ ?_ | ((fail_if_no_progress (extract_lets +onlyGivenNames y)); (have z_ := y; guard_hyp z_ : State; clear z_); refine Keeps.cut (kq := kq) (s0 := s0) y ?_ ?_; (on_goal 1 => subst y); (on_goal 2 => (intro hy; try clear_value y))) | ((fail_if_no_progress (extract_lets +onlyGivenNames y)); (have z_ := y; guard_hyp z_ : State × _; clear z_); refine Keeps.cut1 (kq := kq) (s0 := s0) y ?_ ?_; (on_goal 1 => subst y); (on_goal 2 => (intro hy; try clear_value y))) | ((fail_if_no_progress (extract_lets +onlyGivenNames y)); (have z_ := y; guard_hyp z_ : _ × State; clear z_); refine Keeps.cut2 (kq := kq) (s0 := s0) y ?_ ?_; (on_goal 1 => subst y); (on_goal 2 => (intro hy; try clear_value y))) | ((fail_if_no_progress (extract_lets +onlyGivenNames y)); refine Keeps.fn y ?_; subst y; beta_reduce) | ((fail_if_no_progress (extract_lets +onlyGivenNames y)); clear_value y) | ((fail_if_no_progress (extract_lets +onlyGivenNames y)); subst y) | with_reducible apply State.wakeRetry_keeps | with_reducible apply State.beginStep_keeps | with_reducible apply Done.plain_keeps | with_reducible apply Done.bad_keeps | fail_if_no_progress (with_reducible apply Keeps.upd) | (with_reducible refine Keeps.foldl ?_ ?_; on_goal 2 => (intro t x ht; beta_reduce)) | (with_reducible refine Keeps.foldl2 ?_ ?_; on_goal 2 => (intro t x ht; beta_reduce)) | with_reducible apply KeepsO.next | fail_if_no_progress (with_reducible apply Keeps.updFree) | (with_reducible refine Keeps.foldl1 ?_ ?_; on_goal 2 => (intro t x ht; beta_reduce)) | (with_reducible apply Keeps.fst; with_reducible assumption) | refine Keeps.ite ?_ ?_ | split | (intro a; intros; beta_reduce) | (with_reducible apply Keeps.snd; with_reducible assumption))

/-- What a tick's length of time leaves: one tick more on the count. -/
structure Passes (s t : State) : Prop where
  pending : t.pending = s.pending
  stores  : s.canonical = true → t.canonical = true
  elapsed : t.elapsed = s.elapsed + 1
  free    : s.freeCtr ≤ t.freeCtr

theorem State.passTime_passes {s0 s : State} {q : Bool} (h : Keeps q s0 s) : Passes s0 s.passTime :=
  let k := State.backOffTick_keeps h
  ⟨k.pending, k.stores, congrArg (· + 1) k.elapsed, k.free⟩

theorem Passes.then {s0 s t : State} {q : Bool} (h : Passes s0 s) (k : Keeps q s t) : Passes s0 t :=
  ⟨k.pending.trans h.pending, fun c => k.stores (h.stores c), k.elapsed.trans h.elapsed, le_trans h.free k.free⟩

theorem State.liveTick_passes {s0 s : State} {x} (h : Keeps false s0 s) : Passes s0 (s.liveTick x) := by
  unfold State.liveTick
  extract_lets c t
  have ht : Keeps false s0 t := State.closeRest_keeps (State.holdEgress_keeps (State.closeBlocks_keeps h))
  clear_value t
  exact (State.passTime_passes (State.newTick_keeps (State.recTick_keeps ht))).then
    (State.openRest_keeps (State.openBlocks_keeps (State.countTick_keeps (Keeps.refl (kq := false) _))))

theorem State.replayTick_passes {s0 s : State} {r x} (h : Keeps false s0 s) : Passes s0 (s.replayTick r x) := by
  unfold State.replayTick
  extract_lets b c t
  have hb : Keeps false s0 b :=
    State.asTick_keeps (fun a ha => Keeps.foldl ha (fun _ _ k => State.replayItem_keeps k)) h
  clear_value b
  have hc : Keeps false s0 c := State.asTick_keeps (fun a ha => State.closeBlocks_keeps ha) hb
  clear_value c
  have ht : Keeps false s0 t := State.closeRest_keeps (State.compareTick_keeps (State.holdEgress_keeps hc))
  clear_value t
  exact (State.passTime_passes (State.newTick_keeps ht)).then
    (State.openRest_keeps (State.openRecorded_keeps (State.countTick_keeps (Keeps.refl (kq := false) _))))

/-- A boundary passes one tick, or (with the device off) none. -/
theorem State.tickBoundary_passes (s : State) (x : TickIn) :
    (s.pwr.off = true → Keeps false s (s.tickBoundary x)) ∧ (s.pwr.off = false → Passes s (s.tickBoundary x)) := by
  unfold State.tickBoundary
  extract_lets p u
  have hu : Keeps false s u := Keeps.upd (Keeps.refl _)
  have ho : u.pwr.off = s.pwr.off := rfl
  rw [ho]
  clear_value u
  constructor
  · intro e; rw [if_pos e]; exact hu
  · intro e
    rw [if_neg (by simp [e])]
    split
    · exact (State.passTime_passes (State.newTick_keeps hu)).then (State.countUnlock_keeps (State.powerPoll_keeps (Keeps.refl (kq := false) _)))
    · split
      · exact State.replayTick_passes hu
      · split
        · exact (State.passTime_passes (State.newTick_keeps (State.closeRest_keeps hu))).then
            (State.openRest_keeps (State.countTick_keeps (Keeps.refl (kq := false) _)))
        · exact State.liveTick_passes hu

/-- What a command but TICK_BOUNDARY leaves of the bookkeeping; host memory is left alone by all but the commands named. -/
theorem exec_keeps (c : Instr) (s : State) (hc : c.isBoundary = false) : KeepsO (!c.writesHost) s (exec c s) :=
  match c with
  | .deviceReset .. => execDeviceReset_keeps (Keeps.refl s)
  | .pwrResetKey .. => execPwrResetKey_keeps (Keeps.refl s)
  | .pwrCtrlWake .. => execPwrCtrlWake_keeps (Keeps.refl s)
  | .fallbackStable .. => execFallbackStable_keeps (Keeps.refl s)
  | .refclkMeasure .. => execRefclkMeasure_keeps (Keeps.refl s)
  | .bootTsyncTimeout .. => execBootTsyncTimeout_keeps (Keeps.refl s)
  | .bringupComplete .. => execBringupComplete_keeps (Keeps.refl s)
  | .tickBoundary .. => by simp [Instr.isBoundary] at hc
  | .tsyncEdge .. => execTsyncEdge_keeps (Keeps.refl s)
  | .tckCtrlRun .. => execTckCtrlRun_keeps (Keeps.refl s)
  | .tckCtrlAlignArm .. => execTckCtrlAlignArm_keeps (Keeps.refl s)
  | .tckCtrlPeakClr .. => execTckCtrlPeakClr_keeps (Keeps.refl s)
  | .tckCommitArm .. => execTckCommitArm_keeps (Keeps.refl s)
  | .tckCommitCancel .. => execTckCommitCancel_keeps (Keeps.refl s)
  | .tckEvseqLoRead .. => execTckEvseqLoRead_keeps (Keeps.refl s)
  | .eventArbitration .. => execEventArbitration_keeps (Keeps.refl s)
  | .eventRecord .. => execEventRecord_keeps (Keeps.refl s)
  | .notifyPush .. => execNotifyPush_keeps (Keeps.refl s)
  | .eccUncorrectableError .. => execEccUncorrectableError_keeps (Keeps.refl s)
  | .pcieDoorbell .. => execPcieDoorbell_keeps (Keeps.refl s)
  | .spiCommand .. => execSpiCommand_keeps (Keeps.refl s)
  | .packetAcceptance .. => execPacketAcceptance_keeps (Keeps.refl s)
  | .commandComplete .. => execCommandComplete_keeps (Keeps.refl s)
  | .replyRingWrite .. => execReplyRingWrite_keeps (Keeps.refl s)
  | .resultRead .. => execResultRead_keeps (Keeps.refl s)
  | .mbxResTagWrite .. => execMbxResTagWrite_keeps (Keeps.refl s)
  | .spiFetch .. => execSpiFetch_keeps (Keeps.refl s)
  | .spiStatus .. => execSpiStatus_keeps (Keeps.refl s)
  | .mbxRingReset .. => execMbxRingReset_keeps (Keeps.refl s)
  | .spiWindowRead .. => execSpiWindowRead_keeps (Keeps.refl s)
  | .spiWindowWrite .. => execSpiWindowWrite_keeps (Keeps.refl s)
  | .registerWrite .. => execRegisterWrite_keeps (Keeps.refl s)
  | .groupAbandoned .. => execGroupAbandoned_keeps (Keeps.refl s)
  | .sysNop .. => execSysNop_keeps (Keeps.refl s)
  | .atomicGroupClose .. => execAtomicGroupClose_keeps (Keeps.refl s)
  | .sysIdentify .. => execSysIdentify_keeps (Keeps.refl s)
  | .sysGetHealth .. => execSysGetHealth_keeps (Keeps.refl s)
  | .resultAck .. => execResultAck_keeps (Keeps.refl s)
  | .lockstepMismatch .. => execLockstepMismatch_keeps (Keeps.refl s)
  | .fwWatchdog .. => execFwWatchdog_keeps (Keeps.refl s)
  | .takeoverComplete .. => execTakeoverComplete_keeps (Keeps.refl s)
  | .pairBootComplete .. => execPairBootComplete_keeps (Keeps.refl s)
  | .pathConfigCarriersRx .. => execPathConfigCarriersRx_keeps (Keeps.refl s)
  | .pathConfigCarriersTx .. => execPathConfigCarriersTx_keeps (Keeps.refl s)
  | .pathSetGain .. => execPathSetGain_keeps (Keeps.refl s)
  | .pathLoadFilter .. => execPathLoadFilter_keeps (Keeps.refl s)
  | .pathRetire .. => execPathRetire_keeps (Keeps.refl s)
  | .pathSelectFreqEntry .. => execPathSelectFreqEntry_keeps (Keeps.refl s)
  | .pathDefineFreqEntry .. => execPathDefineFreqEntry_keeps (Keeps.refl s)
  | .pathSetPowerStep .. => execPathSetPowerStep_keeps (Keeps.refl s)
  | .pathLoadPowerColumn .. => execPathLoadPowerColumn_keeps (Keeps.refl s)
  | .pathSetMask .. => execPathSetMask_keeps (Keeps.refl s)
  | .pathSetFrontendSchedule .. => execPathSetFrontendSchedule_keeps (Keeps.refl s)
  | .gainLoopGapTickEnd .. => execGainLoopGapTickEnd_keeps (Keeps.refl s)
  | .padrvEnable .. => execPadrvEnable_keeps (Keeps.refl s)
  | .padrvDeferredLatch .. => execPadrvDeferredLatch_keeps (Keeps.refl s)
  | .cfrWindowReport _ y1 y2 y3 => execCfrWindowReport_keeps (_evm := y1) (_papr := y2) (_misses := y3) (Keeps.refl s)
  | .bfLoadBeamTable .. => execBfLoadBeamTable_keeps (Keeps.refl s)
  | .bfSetCarrier .. => execBfSetCarrier_keeps (Keeps.refl s)
  | .bfSetBeamLayer .. => execBfSetBeamLayer_keeps (Keeps.refl s)
  | .bfGetRetiredMask .. => execBfGetRetiredMask_keeps (Keeps.refl s)
  | .dpdStart .. => execDpdStart_keeps (Keeps.refl s)
  | .dpdFreeze .. => execDpdFreeze_keeps (Keeps.refl s)
  | .dpdLoadModel .. => execDpdLoadModel_keeps (Keeps.refl s)
  | .dpdLoadCoefficients .. => execDpdLoadCoefficients_keeps (Keeps.refl s)
  | .dpdGetStatus .. => execDpdGetStatus_keeps (Keeps.refl s)
  | .obsCaptureStart .. => execObsCaptureStart_keeps (Keeps.refl s)
  | .obsCaptureEnd _ y1 y2 y3 y4 => execObsCaptureEnd_keeps (_power := y1) (_observed := y2) (_papr := y3) (_ovr := y4) (Keeps.refl s)
  | .captureDelivered _ y1 y2 y3 => execCaptureDelivered_keeps (_densities := y1) (_acf := y2) (_gain := y3) (Keeps.refl s)
  | .estimationStart .. => execEstimationStart_keeps (Keeps.refl s)
  | .acceptanceGuard _ _ _ _ y4 y5 y6 => execAcceptanceGuard_keeps (_acfPred := y4) (_acfMeas := y5) (_gainMeas := y6) (Keeps.refl s)
  | .prachConfig .. => execPrachConfig_keeps (Keeps.refl s)
  | .prachReadReport .. => execPrachReadReport_keeps (Keeps.refl s)
  | .fhConfigPort .. => execFhConfigPort_keeps (Keeps.refl s)
  | .fhMapEaxc .. => execFhMapEaxc_keeps (Keeps.refl s)
  | .fhSetWindows .. => execFhSetWindows_keeps (Keeps.refl s)
  | .fhSetCompression .. => execFhSetCompression_keeps (Keeps.refl s)
  | .frameReceived .. => execFrameReceived_keeps (Keeps.refl s)
  | .portAligned .. => execPortAligned_keeps (Keeps.refl s)
  | .portAlignTimeout .. => execPortAlignTimeout_keeps (Keeps.refl s)
  | .fhLinkDown .. => execFhLinkDown_keeps (Keeps.refl s)
  | .fhRemoteFault .. => execFhRemoteFault_keeps (Keeps.refl s)
  | .ptpServoUpdate _ y1 y2 _ _ _ => execPtpServoUpdate_keeps (_ms := y1) (_sm := y2) (Keeps.refl s)
  | .ptpParentLoss .. => execPtpParentLoss_keeps (Keeps.refl s)
  | .laneConfigGroup .. => execLaneConfigGroup_keeps (Keeps.refl s)
  | .laneConfigTimeout .. => execLaneConfigTimeout_keeps (Keeps.refl s)
  | .laneAdaptRestart .. => execLaneAdaptRestart_keeps (Keeps.refl s)
  | .laneAdaptHold .. => execLaneAdaptHold_keeps (Keeps.refl s)
  | .laneAdaptRelease .. => execLaneAdaptRelease_keeps (Keeps.refl s)
  | .laneAdaptStore .. => execLaneAdaptStore_keeps (Keeps.refl s)
  | .laneLoadPreset .. => execLaneLoadPreset_keeps (Keeps.refl s)
  | .laneBitSlip .. => execLaneBitSlip_keeps (Keeps.refl s)
  | .lanePrbs .. => execLanePrbs_keeps (Keeps.refl s)
  | .laneSignalSet .. => execLaneSignalSet_keeps (Keeps.refl s)
  | .laneLos .. => execLaneLos_keeps (Keeps.refl s)
  | .laneLock .. => execLaneLock_keeps (Keeps.refl s)
  | .laneAcqFail .. => execLaneAcqFail_keeps (Keeps.refl s)
  | .laneUnlock .. => execLaneUnlock_keeps (Keeps.refl s)
  | .laneFreeze .. => execLaneFreeze_keeps (Keeps.refl s)
  | .laneUnfreeze .. => execLaneUnfreeze_keeps (Keeps.refl s)
  | .laneFomReport _ y1 => execLaneFomReport_keeps (_fom := y1) (Keeps.refl s)
  | .prbsCheckerLock .. => execPrbsCheckerLock_keeps (Keeps.refl s)
  | .prbsCheckerLoss .. => execPrbsCheckerLoss_keeps (Keeps.refl s)
  | .laneErrorInject .. => execLaneErrorInject_keeps (Keeps.refl s)
  | .laneRawCapture .. => execLaneRawCapture_keeps (Keeps.refl s)
  | .laneHistClear .. => execLaneHistClear_keeps (Keeps.refl s)
  | .modulePresencePoll .. => execModulePresencePoll_keeps (Keeps.refl s)
  | .moduleFlagPoll .. => execModuleFlagPoll_keeps (Keeps.refl s)
  | .moduleMonitorPoll .. => execModuleMonitorPoll_keeps (Keeps.refl s)
  | .moduleHostXfer .. => execModuleHostXfer_keeps (Keeps.refl s)
  | .casConfig .. => execCasConfig_keeps (Keeps.refl s)
  | .casDiscover .. => execCasDiscover_keeps (Keeps.refl s)
  | .casDiscoverComplete .. => execCasDiscoverComplete_keeps (Keeps.refl s)
  | .finefFrameReceived .. => execFinefFrameReceived_keeps (Keeps.refl s)
  | .casLinkUp .. => execCasLinkUp_keeps (Keeps.refl s)
  | .casLinkDown .. => execCasLinkDown_keeps (Keeps.refl s)
  | .casRejoin .. => execCasRejoin_keeps (Keeps.refl s)
  | .ringReversal .. => execRingReversal_keeps (Keeps.refl s)
  | .engLoadKernel .. => execEngLoadKernel_keeps (Keeps.refl s)
  | .engStartKernel .. => execEngStartKernel_keeps (Keeps.refl s)
  | .engStop .. => execEngStop_keeps (Keeps.refl s)
  | .engDoorbell .. => execEngDoorbell_keeps (Keeps.refl s)
  | .spareTakeover .. => execSpareTakeover_keeps (Keeps.refl s)
  | .interruptEntry .. => execInterruptEntry_keeps (Keeps.refl s)
  | .xferComplete .. => execXferComplete_keeps (Keeps.refl s)
  | .nop .. => execNop_keeps (Keeps.refl s)
  | .cmac .. => execCmac_keeps (Keeps.refl s)
  | .mac4 .. => execMac4_keeps (Keeps.refl s)
  | .mac .. => execMac_keeps (Keeps.refl s)
  | .mpy .. => execMpy_keeps (Keeps.refl s)
  | .aop .. => execAop_keeps (Keeps.refl s)
  | .mova .. => execMova_keeps (Keeps.refl s)
  | .scm .. => execScm_keeps (Keeps.refl s)
  | .ldg .. => execLdg_keeps (Keeps.refl s)
  | .stg .. => execStg_keeps (Keeps.refl s)
  | .gop .. => execGop_keeps (Keeps.refl s)
  | .ldi .. => execLdi_keeps (Keeps.refl s)
  | .movr .. => execMovr_keeps (Keeps.refl s)
  | .xfer .. => execXfer_keeps (Keeps.refl s)
  | .waitx .. => execWaitx_keeps (Keeps.refl s)
  | .br .. => execBr_keeps (Keeps.refl s)
  | .call .. => execCall_keeps (Keeps.refl s)
  | .ret .. => execRet_keeps (Keeps.refl s)
  | .rti .. => execRti_keeps (Keeps.refl s)
  | .loop .. => execLoop_keeps (Keeps.refl s)
  | .leave .. => execLeave_keeps (Keeps.refl s)
  | .rpt .. => execRpt_keeps (Keeps.refl s)
  | .tend .. => execTend_keeps (Keeps.refl s)
  | .done .. => execDone_keeps (Keeps.refl s)
  | .swi .. => execSwi_keeps (Keeps.refl s)
  | .ei .. => execEi_keeps (Keeps.refl s)
  | .di .. => execDi_keeps (Keeps.refl s)
  | .halt .. => execHalt_keeps (Keeps.refl s)
  | .dmaSubmit .. => execDmaSubmit_keeps (Keeps.refl s)
  | .dmaSubmitWaitTimeout .. => execDmaSubmitWaitTimeout_keeps (Keeps.refl s)
  | .dmaChDoorbell .. => execDmaChDoorbell_keeps (Keeps.refl s)
  | .dmaChReset .. => execDmaChReset_keeps (Keeps.refl s)
  | .dmaBurstGrant .. => execDmaBurstGrant_keeps (Keeps.refl s)
  | .dmaDescriptorRead .. => execDmaDescriptorRead_keeps (Keeps.refl s)
  | .dmaDescriptorComplete .. => execDmaDescriptorComplete_keeps (Keeps.refl s)
  | .dmaBusTimeout .. => execDmaBusTimeout_keeps (Keeps.refl s)
  | .dmaRetry .. => execDmaRetry_keeps (Keeps.refl s)
  | .dmaBusError .. => execDmaBusError_keeps (Keeps.refl s)
  | .clkSetBandTable .. => execClkSetBandTable_keeps (Keeps.refl s)
  | .clkRelock .. => execClkRelock_keeps (Keeps.refl s)
  | .clkUpdateDividers .. => execClkUpdateDividers_keeps (Keeps.refl s)
  | .pwrSetOp .. => execPwrSetOp_keeps (Keeps.refl s)
  | .opRampComplete .. => execOpRampComplete_keeps (Keeps.refl s)
  | .pwrGateClose .. => execPwrGateClose_keeps (Keeps.refl s)
  | .pwrGateRelease .. => execPwrGateRelease_keeps (Keeps.refl s)
  | .loopLock .. => execLoopLock_keeps (Keeps.refl s)
  | .loopLockTimeout .. => execLoopLockTimeout_keeps (Keeps.refl s)
  | .clkUnlock .. => execClkUnlock_keeps (Keeps.refl s)
  | .clkRefLoss .. => execClkRefLoss_keeps (Keeps.refl s)
  | .clkLaneLoss .. => execClkLaneLoss_keeps (Keeps.refl s)
  | .safeNLow .. => execSafeNLow_keeps (Keeps.refl s)
  | .safeNHigh .. => execSafeNHigh_keeps (Keeps.refl s)
  | .clockSourceQualified .. => execClockSourceQualified_keeps (Keeps.refl s)
  | .clkSyncArm .. => execClkSyncArm_keeps (Keeps.refl s)
  | .clkSyncCancel .. => execClkSyncCancel_keeps (Keeps.refl s)
  | .timeAdjust .. => execTimeAdjust_keeps (Keeps.refl s)
  | .timeSetAbsolute .. => execTimeSetAbsolute_keeps (Keeps.refl s)
  | .timeSetRate .. => execTimeSetRate_keeps (Keeps.refl s)
  | .timeStepForceAdjust .. => execTimeStepForceAdjust_keeps (Keeps.refl s)
  | .timeStepForceAbsolute .. => execTimeStepForceAbsolute_keeps (Keeps.refl s)
  | .timeArmTrigger .. => execTimeArmTrigger_keeps (Keeps.refl s)
  | .timeDisarmTrigger .. => execTimeDisarmTrigger_keeps (Keeps.refl s)
  | .timeCmpFired .. => execTimeCmpFired_keeps (Keeps.refl s)
  | .timeCmpMissed .. => execTimeCmpMissed_keeps (Keeps.refl s)
  | .timeSnapshot .. => execTimeSnapshot_keeps (Keeps.refl s)
  | .pwrSetState .. => execPwrSetState_keeps (Keeps.refl s)
  | .pwrGetState .. => execPwrGetState_keeps (Keeps.refl s)
  | .powerStepComplete .. => execPowerStepComplete_keeps (Keeps.refl s)
  | .wakeStepFail .. => execWakeStepFail_keeps (Keeps.refl s)
  | .wakeStepRetry .. => execWakeStepRetry_keeps (Keeps.refl s)
  | .brownout .. => execBrownout_keeps (Keeps.refl s)
  | .brownoutRestart .. => execBrownoutRestart_keeps (Keeps.refl s)
  | .housekeepingRound .. => execHousekeepingRound_keeps (Keeps.refl s)
  | .snowdropConversion .. => execSnowdropConversion_keeps (Keeps.refl s)
  | .hkUrgentRequest .. => execHkUrgentRequest_keeps (Keeps.refl s)
  | .hkFifoFlush .. => execHkFifoFlush_keeps (Keeps.refl s)
  | .hkLoadSequence .. => execHkLoadSequence_keeps (Keeps.refl s)
  | .calRun .. => execCalRun_keeps (Keeps.refl s)
  | .calRunTimeout .. => execCalRunTimeout_keeps (Keeps.refl s)
  | .calSetPolicy .. => execCalSetPolicy_keeps (Keeps.refl s)
  | .calAttemptStart .. => execCalAttemptStart_keeps (Keeps.refl s)
  | .calRunComplete .. => execCalRunComplete_keeps (Keeps.refl s)
  | .calHoldoffExpiry .. => execCalHoldoffExpiry_keeps (Keeps.refl s)
  | .calStarved .. => execCalStarved_keeps (Keeps.refl s)
  | .sysResetUnit .. => execSysResetUnit_keeps (Keeps.refl s)
  | .evRead .. => execEvRead_keeps (Keeps.refl s)
  | .evConfigCode .. => execEvConfigCode_keeps (Keeps.refl s)
  | .injArm .. => execInjArm_keeps (Keeps.refl s)
  | .injDisarm .. => execInjDisarm_keeps (Keeps.refl s)
  | .injectionFire .. => execInjectionFire_keeps (Keeps.refl s)
  | .evrNotifyRead .. => execEvrNotifyRead_keeps (Keeps.refl s)
  | .evrWinDataRead .. => execEvrWinDataRead_keeps (Keeps.refl s)
  | .recArm .. => execRecArm_keeps (Keeps.refl s)
  | .recStop .. => execRecStop_keeps (Keeps.refl s)
  | .recordingLimitReached .. => execRecordingLimitReached_keeps (Keeps.refl s)
  | .snapshotDone .. => execSnapshotDone_keeps (Keeps.refl s)
  | .replayStart .. => execReplayStart_keeps (Keeps.refl s)
  | .replayDone .. => execReplayDone_keeps (Keeps.refl s)
  | .sysActivateFirmware .. => execSysActivateFirmware_keeps (Keeps.refl s)
  | .secInstallOpen .. => execSecInstallOpen_keeps (Keeps.refl s)
  | .secInstallWrite .. => execSecInstallWrite_keeps (Keeps.refl s)
  | .secInstallCommit .. => execSecInstallCommit_keeps (Keeps.refl s)
  | .secAttestationBuild .. => execSecAttestationBuild_keeps (Keeps.refl s)
  | .secAttestationReadReport .. => execSecAttestationReadReport_keeps (Keeps.refl s)
  | .secAttestationReadCerts .. => execSecAttestationReadCerts_keeps (Keeps.refl s)
  | .secUnlockChallenge .. => execSecUnlockChallenge_keeps (Keeps.refl s)
  | .secUnlockStage .. => execSecUnlockStage_keeps (Keeps.refl s)
  | .secUnlockSubmit .. => execSecUnlockSubmit_keeps (Keeps.refl s)
  | .secUnlockEnd .. => execSecUnlockEnd_keeps (Keeps.refl s)
  | .unlockDurationExpiry .. => execUnlockDurationExpiry_keeps (Keeps.refl s)
  | .challengeExpiry .. => execChallengeExpiry_keeps (Keeps.refl s)
  | .secRecovDataWrite .. => execSecRecovDataWrite_keeps (Keeps.refl s)
  | .secRecovGo .. => execSecRecovGo_keeps (Keeps.refl s)
  | .qfeCoefDataRead .. => execQfeCoefDataRead_keeps (Keeps.refl s)
  | .qfeTxCoefDataRead .. => execQfeTxCoefDataRead_keeps (Keeps.refl s)
  | .cfrMaskDataRead .. => execCfrMaskDataRead_keeps (Keeps.refl s)
  | .frqDataRead .. => execFrqDataRead_keeps (Keeps.refl s)
  | .bfWinDataRead .. => execBfWinDataRead_keeps (Keeps.refl s)
  | .dpdCoefDataRead .. => execDpdCoefDataRead_keeps (Keeps.refl s)
  | .dpdTermDataRead .. => execDpdTermDataRead_keeps (Keeps.refl s)
  | .frmMapDataRead .. => execFrmMapDataRead_keeps (Keeps.refl s)
  | .lnCoefDataRead .. => execLnCoefDataRead_keeps (Keeps.refl s)
  | .lnPrbsErrLoRead .. => execLnPrbsErrLoRead_keeps (Keeps.refl s)
  | .lnPrbsBitsLoRead .. => execLnPrbsBitsLoRead_keeps (Keeps.refl s)
  | .leMemDataAccess .. => execLeMemDataAccess_keeps (Keeps.refl s)
  | .clmDataAccess .. => execClmDataAccess_keeps (Keeps.refl s)
  | .clkBandDataRead .. => execClkBandDataRead_keeps (Keeps.refl s)
  | .timAncDataRead .. => execTimAncDataRead_keeps (Keeps.refl s)
  | .hkSeqDataRead .. => execHkSeqDataRead_keeps (Keeps.refl s)
  | .hkFifoDataRead .. => execHkFifoDataRead_keeps (Keeps.refl s)
  | .calResDataRead .. => execCalResDataRead_keeps (Keeps.refl s)
  | .sysResetUnitTimeout .. => execSysResetUnitTimeout_keeps (Keeps.refl s)
  | .moduleAccessComplete .. => execModuleAccessComplete_keeps (Keeps.refl s)
  | .mbxResFetchComplete .. => execMbxResFetchComplete_keeps (Keeps.refl s)
  | .fhRemoteFaultCleared .. => execFhRemoteFaultCleared_keeps (Keeps.refl s)
  | .timePulseEnd .. => execTimePulseEnd_keeps (Keeps.refl s)
  | .powerOff .. => execPowerOff_keeps (Keeps.refl s)
end Sys2Proof.Machine
end

