-- ==== Sys2Proof/Laws/Rows.lean ====
section
/-!
SUPPORT. Sys2Proof/Laws/Rows.lean: what the operations that open a row's meaning can do: a write on the register bus, an
accepted command that starts or commits, and a brown-out.
-/
namespace Sys2Proof.Machine

/-- A write that the bus brings to a register whose domain is on acts. -/
theorem onReg_reached (s : State) (a d : Nat) (f : State → State) (hd : regDomain a = some d) (hb : s.busReaches d = true)
    (h0 : s.domain d ≠ 0) (h3 : s.domain d ≠ 3) : s.onReg a f = f s := by
  simp [State.onReg, hd, hb, h0, h3]

/-- A write to an address without a register is logged as kind 0 and does nothing else. -/
theorem onReg_unmapped (s : State) (a : Nat) (f : State → State) (hd : regDomain a = none) : s.onReg a f = s.logAccess 0 a := by
  simp [State.onReg, hd]

/-- A write to a register in a domain that is off, or in retention, is logged as kind 1 and does nothing else. -/
theorem onReg_off (s : State) (a d : Nat) (f : State → State) (hd : regDomain a = some d) (hb : s.busReaches d = true)
    (h : s.domain d = 0 ∨ s.domain d = 3) : s.onReg a f = s.logAccess 1 a := by
  simp [State.onReg, hd, hb, h]

/-- An accepted command whose tick has come is taken up, measured where its opcode is, and performed. -/
theorem performStart_taken (s : State) (op tag : Nat) (sel : Cmd → Bool) (f : Cmd → State → State) (c : Cmd)
    (h : s.acceptedCmd op tag = some c) (hs : sel c = true) (ht : tickAfter c.actTick s.tickno = false) :
    s.performStart op tag sel f = f c (if measuredStart op then (s.takeCmd c).measureCmd op c.payload else s.takeCmd c) := by
  simp [State.performStart, h, hs, ht]

/-- A row whose tag names no accepted command of its opcode changes nothing. -/
theorem performStart_absent (s : State) (op tag : Nat) (sel : Cmd → Bool) (f : Cmd → State → State)
    (h : s.acceptedCmd op tag = none) : s.performStart op tag sel f = s := by
  simp [State.performStart, h]

/-- An accepted commit command is taken up and arms. -/
theorem performCommit_taken (s : State) (op tag : Nat) (sel : Cmd → Bool) (f : Cmd → State → State) (c : Cmd)
    (h : s.acceptedCmd op tag = some c) (hs : sel c = true) : s.performCommit op tag sel f = f c (s.takeCmd c) := by
  simp [State.performCommit, h, hs]

theorem performCommit_absent (s : State) (op tag : Nat) (sel : Cmd → Bool) (f : Cmd → State → State)
    (h : s.acceptedCmd op tag = none) : s.performCommit op tag sel f = s := by
  simp [State.performCommit, h]

/-- A brown-out of a domain in low power: it is off and noted, loses what it held, and is reported. -/
theorem brownOut_low (s : State) (d : Nat) (h : s.lowPower d = true) :
    s.brownOut d = ((s.brownNote d).brownLoss d).raise 0x0012 d (srcDomain d) sevError := by
  simp only [State.brownOut, if_pos h]

/-- A brown-out of any other domain changes nothing. -/
theorem brownOut_other (s : State) (d : Nat) (h : s.lowPower d = false) : s.brownOut d = s := by
  simp [State.brownOut, h]

end Sys2Proof.Machine
end

