-- ==== Sys2Proof/Machine/Balls.lean ====
section
/-!
DEFINITION. Sys2Proof/Machine/Balls.lean: the ball map (R585-R592): row names, side coordinates, and the net of every ball.
-/
namespace Sys2Proof.Machine

/-- Row letters (R586). -/
def rowLetters : List String := ["A", "B", "C", "D", "E", "F", "G", "H", "J", "K", "L", "M", "N", "P", "T", "U", "V", "W", "Y"]

/-- Letters of row index `r`, 1 to 61 (Table 22-2). -/
def rowName (r : Nat) : String :=
  let at_ := fun (i : Nat) => rowLetters.getD i ""
  if r ≤ 19 then at_ (r - 1) else if r ≤ 38 then "A" ++ at_ (r - 20)
  else if r ≤ 57 then "B" ++ at_ (r - 39) else "C" ++ at_ (r - 58)

/-- A ball's name. -/
def ballName (r c : Nat) : String := rowName r ++ toString c

/-- Row index and column of side coordinates (Table 22-4). -/
def sideBall (die d s : Nat) : Nat × Nat :=
  match die with
  | 0 => (d, s)
  | 1 => (s, 62 - d)
  | 2 => (62 - d, 62 - s)
  | _ => (62 - s, d)

/-- What a ball carries; `neg` is the N ball of a pair. -/
inductive Net where
  | vss | vinIvr | vddLn | vddio | vaon
  | vddaCv (die : Nat) | vddaHv (die : Nat)
  | rxin (p : Nat) (neg : Bool) | txout (p : Nat) (neg : Bool) | orxin (j : Nat) (neg : Bool)
  | paen (p : Nat) | trsw (n : Nat) | swselS (j b : Nat) | swselEn (j : Nat)
  | lnTx (l : Nat) (neg : Bool) | lnRx (l : Nat) (neg : Bool)
  | io (name : String)
deriving DecidableEq, Repr

/-- The control block of a die, in the order it is filled (R589). -/
def controlNet (die i : Nat) : Net :=
  if i < 16 then .paen (16 * die + i)
  else if i < 20 then .trsw (4 * die + i - 16)
  else if i < 28 then
    let j := 2 * die + (i - 20) / 4
    if i % 4 = 3 then .swselEn j else .swselS j (i % 4)
  else .vss

/-- A ball of a side band (R589). -/
def bandNet (die d s : Nat) : Net :=
  if s < 14 then controlNet die (6 * (d - 1) + (s - 8))
  else if 49 ≤ s then (if d = 7 then .vddaHv die else if d % 2 = 1 then .vddaCv die else .vss)
  else if s % 2 = 0 then .vss
  else if s = 47 then
    (match d with
      | 2 => .orxin (2 * die) false | 3 => .orxin (2 * die) true
      | 5 => .orxin (2 * die + 1) false | 6 => .orxin (2 * die + 1) true
      | _ => .vss)
  else
    let p := 16 * die + (s - 15) / 2
    match d with
      | 2 => .rxin p false | 3 => .rxin p true
      | 5 => .txout p false | 6 => .txout p true
      | _ => .vss

/-- A ball of lane group `g`'s corner (R590). -/
def cornerNet (g a b : Nat) : Net :=
  if a = 4 then .vddLn
  else if (a = 2 ∨ a = 6) ∧ b ∈ [2, 3, 5, 6] then
    let l := 2 * g + b / 4
    let neg := b % 3 == 0
    if a = 2 then .lnTx l neg else .lnRx l neg
  else .vss

def seNames : List String := ["PERST_N", "SPI_CLK", "SPI_CS_N", "SPI_MOSI", "SPI_MISO", "IRQ_N0", "IRQ_N1", "SERVICE_N", "SAFE_N",
  "PPS_OUT", "TCK", "TMS", "TDI", "TDO", "TRST_N", "MOD_SCL_0", "MOD_SDA_0", "MOD_SCL_1", "MOD_SDA_1"]

def swNames : List String := ["GPIO0", "GPIO1", "GPIO2", "GPIO3", "GPIO4", "GPIO5", "GPIO6", "GPIO7", "GPIO8", "GPIO9", "GPIO10",
  "GPIO11", "GPIO12", "GPIO13", "GPIO14", "GPIO15", "AUXIN0", "AUXIN1", "AUXIN2", "AUXIN3", "AUXIN4", "AUXIN5", "AUXIN6",
  "AUXIN7", "AUXIN8", "AUXIN9", "AUXIN10", "AUXIN11", "XRES"]

/-- Named balls of the northern inner corners, by row and column (R591). -/
def innerNames : List ((Nat × Nat) × String) :=
  [((9, 9), "REFCLK_P"), ((9, 10), "REFCLK_N"), ((9, 12), "LANECLK_P"), ((9, 13), "LANECLK_N"), ((11, 9), "TSYNC_P"),
   ((11, 10), "TSYNC_N"), ((11, 12), "CLKMON_P"), ((11, 13), "CLKMON_N"), ((13, 9), "RCVCLK"),
   ((8, 49), "PE_TX_P0"), ((8, 50), "PE_TX_N0"), ((8, 52), "PE_TX_P1"), ((8, 53), "PE_TX_N1"),
   ((9, 49), "PE_TX_P2"), ((9, 50), "PE_TX_N2"), ((9, 52), "PE_TX_P3"), ((9, 53), "PE_TX_N3"),
   ((11, 49), "PE_RX_P0"), ((11, 50), "PE_RX_N0"), ((11, 52), "PE_RX_P1"), ((11, 53), "PE_RX_N1"),
   ((12, 49), "PE_RX_P2"), ((12, 50), "PE_RX_N2"), ((12, 52), "PE_RX_P3"), ((12, 53), "PE_RX_N3"),
   ((13, 49), "PE_REFCLK_P"), ((13, 50), "PE_REFCLK_N")]

def ioNet (n : Option String) : Net := (n.map Net.io).getD .vss

/-- A ball of an inner corner. -/
def innerNet (r c : Nat) : Net :=
  if 49 ≤ r then
    if 49 ≤ c then ioNet seNames[6 * (r - 49) + (c - 49)]? else ioNet swNames[6 * (r - 49) + (c - 8)]?
  else ioNet ((innerNames.find? (fun e => e.1 == (r, c))).map Prod.snd)

/-- A ball of a belt (R592). -/
def beltNet (die d s : Nat) : Net :=
  if s % 2 = 0 then .vss
  else if d = 9 ∨ d = 11 then .vddaCv die
  else if d = 13 then .vinIvr else .vss

/-- A ball of the centre (R592). -/
def centreNet (r c : Nat) : Net :=
  if (r + c) % 2 = 0 then .vss
  else if r ∈ [14, 15, 47, 48] then .vddLn
  else if r = 16 then .vddio
  else if r = 46 then (if 23 ≤ c then .vddio else .vaon)
  else .vinIvr

/-- Die and side coordinates of a ball whose depth is at most `n` on one side alone. -/
def sideOf (n r c : Nat) : Nat × Nat × Nat :=
  if r ≤ n then (0, r, c) else if 62 - n ≤ c then (1, 62 - c, r) else if 62 - n ≤ r then (2, 62 - r, 62 - c) else (3, c, 62 - r)

/-- The net of the ball at row index `r` and column `c`, 1 to 61 each (R587). -/
def ballNet (r c : Nat) : Net :=
  let edge := fun (x : Nat) => decide (x ≤ 7 ∨ 55 ≤ x)
  let inner := fun (x : Nat) => decide (8 ≤ x ∧ x ≤ 13 ∨ 49 ≤ x ∧ x ≤ 54)
  let near := fun (x : Nat) => min x (62 - x)
  if edge r ∧ edge c then
    cornerNet (if r ≤ 7 then (if c ≤ 7 then 0 else 1) else if 55 ≤ c then 2 else 3) (near r) (near c)
  else if edge r ∨ edge c then
    let x := sideOf 7 r c
    bandNet x.1 x.2.1 x.2.2
  else if inner r ∧ inner c then innerNet r c
  else if inner r ∨ inner c then
    let x := sideOf 13 r c
    beltNet x.1 x.2.1 x.2.2
  else centreNet r c

/-- Balls that carry a net (Table 22-5). -/
def ballsWith (f : Net → Bool) : Nat :=
  ((List.range 61).map (fun r => (List.range 61).countP (fun c => f (ballNet (r + 1) (c + 1))))).foldl (· + ·) 0

end Sys2Proof.Machine
end

