-- ==== Sys2Proof/Machine/Pins.lean ====
section
/-!
DEFINITION. Sys2Proof/Machine/Pins.lean: what the output balls carry, as functions of the state (R29, R490, Tables 05-9 and 17-5):
front-end controls, the PA-driver bus, time pulses, interrupts, clock outputs and the transmit converters.
-/
namespace Sys2Proof.Machine

/-- The digital output balls. GPIO0 to GPIO5 serve the boot flash (R571). -/
inductive OutPin where
  | paen (p : Fin 64) | trsw (n : Fin 16) | swselS (j : Fin 8) (b : Fin 3) | swselEn (j : Fin 8)
  | gpio (g : Fin 16) | ppsOut | irqN0 | irqN1 | serviceN
  | peTx | modScl (m : Fin 2) | modSda (m : Fin 2) | spiMiso | tdo
deriving DecidableEq, Repr

/-- The power domain that drives a ball (Table 17-5), numbered as PWR_DOMAIN does. -/
def OutPin.domain : OutPin → Nat
  | .paen p => 4 + p.val / 16
  | .trsw n => 4 + n.val / 4
  | .swselS j _ => 4 + j.val / 2
  | .swselEn j => 4 + j.val / 2
  | .gpio _ => 1
  | .ppsOut => 1
  | .irqN0 => 0
  | .irqN1 => 0
  | .serviceN => 0
  | .peTx => 1
  | .modScl _ => 1
  | .modSda _ => 1
  | .spiMiso => 0
  | .tdo => 0

def pinLevel (b : Bool) : PinLevel := if b then .high else .low

/-- An open-drain output: low while it is asserted, else left to the board's pull-up (Table 22-11). -/
def openDrain (asserted : Bool) : PinLevel := if asserted then .low else .floating

/-- SW_LEAD fine steps before the first sample of a capture have come by fine step `fine` of the open tick, and its 16 air ticks have not
ended (R166). -/
def State.swLead (s : State) (j fine : Nat) : Bool :=
  let d := s.ticksTo (s.capTick j)
  (s.ox j == .wait || s.ox j == .capture) && decide (32 * d ≤ (s.fld F.FES_SW_SW_LEAD + fine : Nat)) && decide (-16 < d)

/-- SWSEL_j selects a path: from SW_LEAD before a capture to its end, while its path is driven (R166, Table 05-9). -/
def State.swselOn (s : State) (j fine : Nat) : Bool :=
  s.swLead j fine && !s.frontSafe && !s.txRetired (s.oxPath j) && s.txUsed (s.oxPath j) &&
  bitAt (s.fld F.FES_QUADS_QUADS) (s.oxPath j / 4)

/-- S[2:0] of an observation receiver: the new selection from its lead on, before that and after captures the last one; 0 in the safe
state. -/
def State.swselSel (s : State) (j fine : Nat) : Nat :=
  if s.frontSafe then 0
  else if s.swLead j fine then s.fld (F.OBS_STATUS_SEL j)
  else if s.ox j = .capture ∧ 0 < s.ticksTo (s.capTick j) then (s.oxCap j).was
  else sget (fun _ => 0) s.dpd.swsel j

/-- Bit `i` of the 32 that data line `d` carries, the first shifted first (R152). -/
def PadrvShift.bit (x : PadrvShift) (d i : Nat) : Bool :=
  bitAt (sget (fun _ => 0) x.word (16 * d + 15 - i / 2)) (1 - i % 2)

/-- GPIO(8 + g) as the PA-driver bus in fine step `t`, counted as `PadrvShift` counts: the clock rises in the second fine step of
each of 32 periods, data stand for the whole period, and the latch is high for 2 fine steps (R152). -/
def PadrvShift.line (x : PadrvShift) (g t : Nat) : Bool :=
  let i := (t - x.start) / 2
  let shifting := decide (x.start ≤ t) && decide (i < 32)
  match g with
  | 0 => shifting && (t - x.start) % 2 == 1
  | 1 => x.latchAt.any (fun l => decide (l ≤ t ∧ t < l + 2))
  | _ => shifting && x.bit (g - 2) i

/-- Fine step `fine` of the open tick, counted from reset. -/
def State.fineStep (s : State) (fine : Nat) : Nat := 32 * s.elapsed + fine

/-- The state on the boundary that closes the open tick, as far as the changes already ordered decide it. -/
def State.peekTick (s : State) : State := (s.newTick.passTime.countTick).openBlocks

/-- The transfers that the next `n` boundaries latch (R152). -/
def State.padrvAhead : Nat → State → List PadrvShift
  | 0, _ => []
  | n + 1, s =>
    let t := ({ s with elapsed := s.elapsed + 1 } : State).settleEntries.padrvBoundary
    (if t.tx.bus = s.tx.bus then [] else t.tx.bus.toList) ++ State.padrvAhead n s.peekTick

/-- The transfer on the PA-driver bus in fine step `t`: a latch follows at most 30 + 65 fine steps after its shift has begun, on one of
the next three boundaries, so a shift runs ahead of its change; else the last one's tail (log 185). -/
def State.padrvNow (s : State) (t : Nat) : Option PadrvShift :=
  match (if s.counting then (State.padrvAhead 3 s).find? (fun x => decide (x.start ≤ t)) else none) with
  | some x => some x
  | none => s.tx.bus

/-- A GPIO: the PA-driver bus while it is on, else a comparator's pulses. -/
def State.gpioLevel (s : State) (g t : Nat) : Bool :=
  if s.flag F.FES_PADRV_CTRL_EN ∧ 8 ≤ g ∧ g ≤ 13 then (s.padrvNow t).any (fun x => x.line (g - 8) t)
  else s.gpioPulse g

/-- An I²C ball: open drain, left to its pull-up but while the master makes an access. -/
def State.modPin (s : State) (m : Nat) : PinLevel := if s.flag (F.LN_MOD_XSTAT_BUSY m) then .driven else .floating

/-- IRQ_N0: the mailbox (R89). IRQ_N1: Clematis and Primrose (R425, Table 19-8). -/
def State.irq0 (s : State) : Bool := (s.reg 0x90048 &&& s.reg 0x9004C) != 0
def State.irq1 (s : State) : Bool := (s.reg 0x80008 &&& s.reg 0x8000C) != 0 || (s.reg 0x50010 &&& s.reg 0x50014) != 0

/-- The level of an output ball in fine step `fine` of the open tick. An output whose domain is off, or whose unpowered part drives
nothing, floats (R29, R490). -/
def State.pin (s : State) (o : OutPin) (fine : Nat) : PinLevel :=
  if s.pwr.off ∨ s.domain o.domain = 0 then .floating
  else match o with
    | .paen p => pinLevel (s.paen p.val fine)
    | .trsw n => pinLevel (s.trsw n.val fine)
    | .swselS j b => pinLevel (bitAt (s.swselSel j.val fine) b.val)
    | .swselEn j => pinLevel (s.swselOn j.val fine)
    | .gpio g => if g.val < 6 then .driven else pinLevel (s.gpioLevel g.val (s.fineStep fine))
    | .ppsOut => pinLevel s.ppsOut
    | .irqN0 => openDrain s.irq0
    | .irqN1 => openDrain s.irq1
    | .serviceN => openDrain (s.flag F.EVR_STATUS_SERVICE)
    | .peTx => .driven
    | .modScl m => s.modPin m.val
    | .modSda m => s.modPin m.val
    | .spiMiso => .driven
    | .tdo => .driven

/-! ### Clock outputs (R436, R469, Table 17-5) -/

/-- A clock output: floating, held low, or a square wave of a source frequency [Hz] over a divider. -/
inductive ClockOut where
  | floating
  | low
  | running (hz div : Nat)
deriving DecidableEq, Repr

def State.clkmon (s : State) : ClockOut :=
  if s.pwr.off ∨ s.domain 1 = 0 then .floating
  else if s.fld F.PWR_STATUS_STATE = 3 ∨ !s.flag F.CLK_CLKMON_EN ∨ s.flag F.CLK_CLKMON_LIMIT_HOLD then .low
  else .running (clkmonSource s (s.recoveredOf s.clk.rcvLane) (s.fld F.CLK_CLKMON_SEL)) (s.fld F.CLK_CLKMON_DIV + 1)

def State.rcvclk (s : State) : ClockOut :=
  if s.pwr.off ∨ s.domain 1 = 0 then .floating
  else if s.fld F.PWR_STATUS_STATE = 3 ∨ !s.flag F.TIM_RCV_EN ∨ !s.flag F.CLK_RCVDIV_EN ∨ s.flag F.TIM_RCV_SQUELCH then .low
  else .running (s.recoveredOf s.clk.rcvLane) (s.fld F.CLK_RCVDIV_DIV + 1)

/-! ### Converters and lanes -/

/-- TXOUT_p in the open air tick: the DAC's codes, mid-scale where the chain made none; none while the analogue domain of the die is
off (Table 17-5). -/
def State.txOut (s : State) (p : Nat) : Option (List Int) :=
  if s.pwr.off ∨ s.domain (8 + p / 16) = 0 then none
  else some (match sget (fun _ => []) s.tx.dac p with
    | [] => List.replicate 6400 0
    | xs => if s.offAir ∨ s.pwr.quietAt ∨ s.inSafe then List.replicate 6400 0 else xs)

/-- What LN_TX of a lane carries: floating with its domain off, squelched, the traffic of its port or of the cascade, or the PAM4 levels
of a RAW generator in the open tick; in RAW without a generator what the spec does not state. -/
inductive LaneOut where
  | floating | squelched | traffic | raw
  | levels (xs : List Nat)
deriving DecidableEq, Repr

/-- The lane's transmitter runs: it is enabled in a group that is not OFF, in service, and started (R316, Table 11-1); an Ethernet lane
belongs to a port in use (R300, Table 10-5), and RAW is squelched in the safe state (R327). -/
def State.laneDriven (s : State) (l : Nat) : Bool :=
  s.flag (F.LN_CFG_EN l) && s.lane l != .off && s.lane l != .retired &&
  (match s.fld (F.LN_STATUS_MODE l) with
    | 1 => (List.range 4).any (fun k => (s.lanesOf k).contains l && s.port k != .retired)
    | 2 => true
    | 3 => !s.inSafe
    | _ => false)

/-- LN_TX of a lane in the open tick, with its polarity (R320). -/
def State.laneOut (s : State) (l : Nat) : LaneOut :=
  if s.pwr.off ∨ s.domain 3 = 0 then .floating
  else if !s.laneDriven l then .squelched
  else if s.laneRaw l then
    let code := s.fld (F.LN_PRBS_CTRL_GEN l)
    if code = 0 then .raw
    else .levels (levelsOf (s.flag (F.LN_CFG_TX_INV l)) ((s.pat l).sends code (symbolsIn (s.fld (F.LN_STATUS_RATE l)) s.elapsed)))
  else .traffic

/-- RXIN and ORXIN of a die are terminated while its analogue domain is on (Table 17-5). -/
def State.terminated (s : State) (die : Nat) : Bool := !s.pwr.off && s.domain (8 + die) != 0

end Sys2Proof.Machine
end

