-- ==== Sys2Proof/Tests/Slice0.lean ====
section
/-!
SUPPORT. Sys2Proof/Tests/Slice0.lean: the model's own tests. The checks of WellFormed on ill-formed commands; worked values
of the spec; and for every obligation with hypotheses states and operands that meet them, clause by clause.
-/
set_option Elab.async false -- the tests one after another: run side by side, they take more memory than the check grants
namespace Sys2Proof.Tests
open Sys2Proof Sys2Proof.Machine

/-! ### States to test on -/

/-- Reset state with its registers as listed, in rising order of address. -/
def regsAt (l : List (Nat × Word)) : State := { State.reset with regs := l }

/-- Every domain on, the device in ACTIVE, tick 5 open. -/
def base : State := regsAt [(0x10000, 0#32), (0x1000C, 0x1555555#32), (0x40000, 5#32), (0xA0008, 0x55#32)]

/-- The state with one register word more. -/
def word (s : State) (a : Nat) (w : Word) : State :=
  { s with regs := s.regs.takeWhile (fun e => decide (e.1 < a)) ++ (a, w) :: s.regs.dropWhile (fun e => decide (e.1 ≤ a)) }

/-- The state with one register more that holds `v` in a field and zeros beside it. -/
def put (s : State) (f : Fld) (v : Nat) : State := word s f.addr (BitVec.ofNat 32 (v * 2 ^ f.lo))

/-- A command of an opcode, by its payload. -/
def cmd (op : Nat) (p : List Byte) : Cmd := ⟨op, 1, 0, 0, 0, p, .pcie, ReplyTo.none, 0, 0, 0⟩

/-- The state with one accepted command. -/
def holding (s : State) (c : Cmd) : State := { s with privi := { s.privi with accepted := [c] } }

/-- What a start command that stands alone leaves when it is taken up. -/
def started (s : State) (c : Cmd) : State :=
  if measuredStart c.opcode then ((holding s c).takeCmd c).measureCmd c.opcode c.payload else (holding s c).takeCmd c

theorem starts_alone (s : State) (c : Cmd) (h : tickAfter c.actTick s.tickno = false) :
    Starts (holding s c) c.opcode c.tag c (started s c) := by
  refine ⟨?_, h, rfl⟩
  simp [State.acceptedCmd, holding]

theorem commits_alone (s : State) (c : Cmd) : Commits (holding s c) c.opcode c.tag c ((holding s c).takeCmd c) := by
  refine ⟨?_, rfl⟩
  simp [State.acceptedCmd, holding]

/-- For every opcode and payload, a state in which the start command stands due. -/
theorem starts_due (op : Nat) (p : List Byte) : Starts (holding base (cmd op p)) op 1 (cmd op p) (started base (cmd op p)) :=
  starts_alone base (cmd op p) (by decide : tickAfter 0 base.tickno = false)

theorem commits_due (op : Nat) (p : List Byte) :
    Commits (holding base (cmd op p)) op 1 (cmd op p) ((holding base (cmd op p)).takeCmd (cmd op p)) := commits_alone base (cmd op p)

theorem base_canonical : base.canonical = true := by decide

/-- Every mapped block is on the bus of `base`. -/
theorem base_reaches (a d : Nat) (h : regDomain a = some d) (hd : d < 3) : base.reaches a := by
  refine ⟨d, h, ?_⟩
  have : d = 0 ∨ d = 1 ∨ d = 2 := by omega
  rcases this with rfl | rfl | rfl <;> decide

/-! ### WellFormed refuses what the table does not admit -/

theorem test_wf_tag : (Instr.sysNop 65535).wellFormed = true ∧ (Instr.sysNop 65536).wellFormed = false := by decide
theorem test_wf_edge : (Instr.timeSnapshot 127).wellFormed = true ∧ (Instr.timeSnapshot 128).wellFormed = false := by decide
theorem test_wf_env : (Instr.registerWrite 0 15 0 ⟨127, 2 ^ 128 - 1, true, ⟨true, true⟩⟩).wellFormed = true ∧
    (Instr.registerWrite 0 15 0 ⟨127, 2 ^ 128, true, ⟨true, true⟩⟩).wellFormed = false ∧
    (Instr.dmaDescriptorComplete 0 ⟨128, 0, true, ⟨true, true⟩⟩).wellFormed = false := by decide
theorem test_wf_group : (Instr.groupAbandoned 0).wellFormed = false ∧ (Instr.groupAbandoned 65535).wellFormed = true ∧
    (Instr.groupAbandoned 65536).wellFormed = false := by decide
theorem test_wf_source : (Instr.packetAcceptance .spi (some [])).wellFormed = false ∧
    (Instr.packetAcceptance .pcie (some [])).wellFormed = true := by decide
theorem test_wf_spi_write : (Instr.spiWindowWrite false 0 0 [1, 2, 3, 4] RegEnv.none).wellFormed = true ∧
    (Instr.spiWindowWrite false 0 0 [1, 2, 3, 4, 5] RegEnv.none).wellFormed = false := by decide
theorem test_wf_event : (Instr.notifyPush 65536).wellFormed = false ∧
    (Instr.eccUncorrectableError (.owner 4096)).wellFormed = false := by decide
theorem test_wf_parent : (Instr.ptpServoUpdate (some (0, 256)) 0 0 0 0 0).wellFormed = false := by decide
theorem test_wf_application : (Instr.laneConfigGroup 0 [(255, 255)]).wellFormed = true ∧
    (Instr.laneConfigGroup 0 [(256, 0)]).wellFormed = false := by decide
theorem test_wf_module : (Instr.modulePresencePoll 0 (some 256) 0 false []).wellFormed = false ∧
    (Instr.modulePresencePoll 0 none 8 false []).wellFormed = false ∧
    (Instr.modulePresencePoll 0 none 0 false [(0, 256)]).wellFormed = false ∧
    (Instr.moduleFlagPoll 0 [(256, 0)]).wellFormed = false ∧
    (Instr.moduleMonitorPoll 0 65536 0 []).wellFormed = false ∧
    (Instr.moduleMonitorPoll 0 0 0 [(8, 0, 0, 0)]).wellFormed = false := by decide
theorem test_wf_lane : (Instr.laneFomReport 0 1024).wellFormed = false ∧
    (Instr.laneRawCapture 0 (2 ^ 128)).wellFormed = false := by decide

/-- A frame header, section and frame whose fields stand at their greatest values. -/
def hdrMax : AppHdr := ⟨true, 7, 15, 255, 15, 63, 63, 255⟩
def upMax : UpSection := ⟨4095, 1, true, 1023, 255, some 255, []⟩
def cpMax : CpSection := ⟨4095, 1, true, 1023, 255, 4095, 15, 32767, 32767, none, none, false, 0, 0, 0, 0, []⟩
def frameOf (b : FrameBody) : Frame := ⟨64, 1, 2, false, none, true, b, []⟩

theorem test_wf_frame : wfFrame (frameOf (.ecpri 15 false 255 (.uplane 65535 255 true hdrMax [upMax]))) = true ∧
    wfFrame (frameOf (.ecpri 15 false 255 (.cplane 65535 255 true hdrMax [cpMax]))) = true ∧
    wfFrame (frameOf (.ecpri 16 false 0 .other)) = false ∧ wfFrame (frameOf (.ptp 16 [])) = false ∧
    wfFrame { frameOf .other with dmac := 2 ^ 48 } = false ∧ wfFrame { frameOf .other with tci := some 65536 } = false ∧
    wfFrame { frameOf .other with residence := [(8, 0)] } = false := by decide
theorem test_wf_header : wfHdr { hdrMax with version := 8 } = false ∧ wfHdr { hdrMax with filter := 16 } = false ∧
    wfHdr { hdrMax with frameId := 256 } = false ∧ wfHdr { hdrMax with subframe := 16 } = false ∧
    wfHdr { hdrMax with slot := 64 } = false ∧ wfHdr { hdrMax with sym := 64 } = false ∧
    wfHdr { hdrMax with secType := 256 } = false := by decide
theorem test_wf_sections : wfUp { upMax with secId := 4096 } = false ∧ wfUp { upMax with numPrb := 256 } = false ∧
    wfUp { upMax with compHdr := some 256 } = false ∧ wfCp { cpMax with reMask := 4096 } = false ∧
    wfCp { cpMax with beamId := 32768 } = false ∧ wfCp { cpMax with ueId := 32768 } = false ∧
    wfCp { cpMax with numSym := 16 } = false := by decide

/-- A Finef frame that carries nothing. -/
def finefBare : FinefFrame :=
  ⟨true, true, false, 4, 1, 0, 0, false, false, [], [], [], [], [], [], false, [], [], false, none, [], []⟩

theorem test_wf_finef : wfFinef finefBare = true ∧ wfFinef { finefBare with tickno := 2 ^ 32 } = false ∧
    wfFinef { finefBare with blocks := [⟨0, 0, 0, []⟩] } = false := by decide
theorem test_wf_tick : wfTick TickIn.quiet = true ∧ wfTick { TickIn.quiet with rx := [⟨0, [], []⟩] } = false ∧
    wfTick { TickIn.quiet with obs := [⟨8, [], false⟩] } = false ∧
    wfTick { TickIn.quiet with overruns := [(16, 0)] } = false ∧ wfTick { TickIn.quiet with crcUp := [4] } = false ∧
    wfTick { TickIn.quiet with crcDown := [4] } = false ∧ wfTick { TickIn.quiet with lanes := [⟨8, []⟩] } = false := by decide
theorem test_wf_engine : (Instr.ldg 0 (.g 0) .u 32768).wellFormed = false ∧ (Instr.stg 0 (.g 0) .u 32768).wellFormed = false ∧
    (Instr.xfer 0 true .u 0 0 4097).wellFormed = false := by decide
theorem test_wf_dma : (Instr.dmaBurstGrant true 256 [] RegEnv.none).wellFormed = false ∧
    (Instr.dmaBurstGrant true 0 [] ⟨128, 0, true, ⟨true, true⟩⟩).wellFormed = false ∧
    (Instr.dmaDescriptorRead 0 []).wellFormed = false := by decide
theorem test_wf_housekeeping : (Instr.housekeepingRound [] []).wellFormed = false ∧
    (Instr.snowdropConversion 65536).wellFormed = false ∧ (Instr.hkUrgentRequest 0 5).wellFormed = false ∧
    (Instr.secUnlockChallenge 0 []).wellFormed = false := by decide

/-! ### Values the spec states -/

theorem test_reset_again : State.reset.deviceReset none true = State.reset := by decide

/-- Section 00: the tick that stands 32 ticks ahead across the wrap (R8). -/
theorem test_tick_wrap : tickSub 0x10 0xFFFFFFF0 = 0x20 ∧ tickAfter 0x10 0xFFFFFFF0 = true ∧
    tickAfter 0xFFFFFFF0 0x10 = false ∧ tickAfter (2 ^ 31) 0 = false := by decide

/-- A commit of 55,296 bits toward die 1 that waits with `left` bits. -/
def crossing (left : Nat) : Commit := ⟨1008, 0, .command, [], [], [(1, left)], [], []⟩

/-- Section 02's two coefficient loads on bl1: E is 1,004, then 1,006 while 30,720 bits of the first still cross. -/
theorem test_bulk_earliest : ({ base with regs := [(0x40000, 1000#32)] } : State).earliest [(1, 55296)] = 1004 ∧
    ({ base with regs := [(0x40000, 1001#32)], armed := [crossing 30720] } : State).earliest [(1, 55296)] = 1006 := by decide

/-- Section 03's packet: FH_SET_WINDOWS with tag 0x0031 for tick 76,880. -/
def windowsPacket : List Byte :=
  [0x50, 0x02, 0x02, 0x07, 0x31, 0x00, 0x10, 0x00, 0x50, 0x2C, 0x01, 0x00, 0x00, 0x00, 0x00, 0x00] ++ List.replicate 16 0

theorem test_packet_header : packetCheck (windowsPacket ++ crcBytes windowsPacket) = none ∧
    (cmdOf (windowsPacket ++ crcBytes windowsPacket) .pcie ReplyTo.none 0 0).opcode = 0x0702 ∧
    (cmdOf (windowsPacket ++ crcBytes windowsPacket) .pcie ReplyTo.none 0 0).tag = 0x31 ∧
    (cmdOf (windowsPacket ++ crcBytes windowsPacket) .pcie ReplyTo.none 0 0).target = 76880 ∧
    (cmdOf (windowsPacket ++ crcBytes windowsPacket) .pcie ReplyTo.none 0 0).payload.length = 16 ∧
    (windowsPacket ++ crcBytes windowsPacket).length = 36 := by decide +kernel

/-- The published check value of R59's CRC-32C: that of the characters 1 to 9. -/
theorem test_crc : crc32c [0x31, 0x32, 0x33, 0x34, 0x35, 0x36, 0x37, 0x38, 0x39] = 0xE3069283#32 := by decide +kernel

/-- Section 05's power entry: 2.50 dB, DAC_CUR 61, PADRV 01, -3.20 dB. -/
theorem test_power_entry : powerEntry (cmd 0x0404 (List.replicate 8 0 ++ [0xFA, 0x00, 0x3D, 0x01, 0xC0, 0xFE, 0x00, 0x00])) 0 =
    ⟨250, 61, 1, -320⟩ := by decide

/-- Section 06: one subcarrier of one beam with SHIFT 3. -/
theorem test_beam_output : (roundBeam 3 ⟨false, [⟨64 * (1000 * 11585 - 500 * 11585), 64 * (1000 * 11585 + 500 * 11585)⟩]⟩).1 =
    [⟨2828, 8485⟩] := by decide

/-- Section 06's conjugate weights for s = 2,400: two components fall on ties. -/
theorem test_conj_weights : conjWeights 2400 [⟨1200, -300⟩, ⟨-800, 2400⟩, ⟨150, 90⟩, ⟨-2000, -1000⟩] =
    [⟨8192, 2048⟩, ⟨-5461, -16383⟩, ⟨1024, -614⟩, ⟨-13652, 6826⟩] := by decide

/-- Section 07's actuator output. -/
theorem test_actuator : actuate [0x01000000, 0x03000000] [⟨16384, 0⟩, ⟨4096, -2048⟩] [⟨8192, 0⟩] (fun _ => []) =
    (⟨4352, -128⟩, false) := by decide +kernel

/-- Section 08's merging: two reports of preamble 12, one of preamble 40 with its mask, count and MULTIPEAK. -/
theorem test_prach_clusters :
    (clusters 4 12 2 [⟨3, 24, 164, 0⟩, ⟨3, 148, 241, 0⟩]).map (fun r => (r.top.delay, r.top.m)) = [(148, 241), (24, 164)] ∧
    (clusters 4 40 3 [⟨1, 58, 198, 0⟩, ⟨2, 72, 273, 0⟩, ⟨1, 73, 220, 0⟩]).map
      (fun r => (r.top.delay, r.top.m, r.mask, r.count, r.multi)) = [(72, 273, 6, 3, true)] := by decide

/-- Section 09's PRB at m = 9: exponent 7 and the first three bytes. -/
def examplePrb : List Cplx :=
  [⟨3000, -7400⟩, ⟨12345, 4544⟩, ⟨18200, -20001⟩] ++ List.replicate 9 ⟨0, 0⟩

theorem test_bfp_prb : (bfpPrb 9 examplePrb).take 3 = [0x07, 0x0B, 0xF1] ∧ (bfpPrb 9 examplePrb).length = 28 ∧
    ((expandPrb 1 9 0 0 (bfpPrb 9 examplePrb)).1.take 3 = [⟨2944, -7424⟩, ⟨12288, 4608⟩, ⟨18176, -19968⟩]) := by decide +kernel

/-- 32,700 fits at exponent 7; 32,704 takes 8, and its reconstruction saturates (R265). -/
theorem test_bfp_edge : fitExp 9 [32700] 15 0 = 7 ∧ fitExp 9 [32704] 15 0 = 8 ∧ roundEven 32704 8 = 128 ∧
    saturate 16 (128 * 256) = (32767, true) := by decide

/-- Section 09's μ-law example at m = 9. -/
theorem test_mu_law : muCode 9 0 20001 = 7 * 32 + 7 ∧ muValue 9 0 (muCode 9 0 20001) = 20224 ∧
    muValue 9 0 (muCode 9 0 (-20001)) = -20224 := by decide

/-- Section 09's Petunia widths in symbols 4 and 5. -/
theorem test_petunia : petWidths 8 16 516096 [(0, 273), (2, 273), (5, 273), (6, 273), (9, 273), (11, 273), (20, 273), (31, 273)] =
      [(0, 10), (2, 10), (5, 10), (6, 10), (9, 9), (11, 9), (20, 9), (31, 9)] ∧
    petWidths 8 16 516096 [(0, 273), (2, 273), (5, 273), (6, 273), (9, 273), (11, 273)] =
      [(0, 13), (2, 13), (5, 13), (6, 13), (9, 12), (11, 12)] := by decide

/-- Table 09-6: the partial sums of a chain of depth 3. -/
def oneSum (v : Int) : SumBlock := sumBlock 0 0 0 false (⟨v, 0⟩ :: List.replicate 11 ⟨0, 0⟩)

theorem test_partial_sums : sumExp (oneSum 123456789) = 16 ∧ (oneSum 123456789).bytes.take 3 = [0x18, 0x75, 0xC0] ∧
    (sumValue (oneSum 123456789)).take 1 = [⟨123469824, 0⟩] ∧ (oneSum 123456789).bytes.length = 37 ∧
    (sumValue (oneSum 78469824)).take 1 = [⟨78446592, 0⟩] ∧ ((oneSum 278446592).bytes.drop 1).take 2 = [0x42, 0x60] ∧
    (sumValue (oneSum 278446592)).take 1 = [⟨278396928, 0⟩] ∧ roundEven 288396928 21 = 138 := by decide +kernel

/-- Section 10's three sections for one downlink symbol. -/
def receivedAt (t : Nat) : State := regsAt [(0x40000, BitVec.ofNat 32 t)]

theorem test_section_class : (receivedAt 498600).arrival 500000 480 1096 = .early ∧
    (receivedAt 500000).arrival 500000 480 1096 = .onTime ∧ (receivedAt 500001).arrival 500000 480 1096 = .late ∧
    (receivedAt 498424).arrival 500000 480 1096 = .early ∧ (receivedAt 499520).arrival 500000 480 1096 = .onTime ∧
    (receivedAt 498423).arrival 500000 480 1096 = .tooEarly := by decide

/-- Section 13's moves to a 16-bit half: an engine with the accumulator and SR.SCM named. -/
def movesOf (v : Int) (scm : Nat) : Int × Nat × Int :=
  let r := ({ Engine.init with
    ac := [v, 0, 0, 0]
    sr := scm * 2 ^ 10 } : Engine).moveAc 0 16
  (r.1, bitsAt r.2.sr 8 2, r.2.dcnt)

theorem test_accumulator_moves : movesOf 0x500000000 0 = (32767, 0, 0) ∧ movesOf 0x500000000 1 = (20480, 0, 0) ∧
    movesOf 0x500000000 3 = (20480, 1, 1) ∧ movesOf 0x140000 0 = (2, 0, 0) ∧ movesOf 0x140000 3 = (5, 2, -1) ∧
    movesOf 0x1C0000 1 = (2, 0, 0) ∧ movesOf (-0x200000000) 3 = (-16384, 0, 0) := by decide

/-- Section 14's descriptor. -/
def unalignedCopy : List Byte :=
  leBytes 4 0x0042041B ++ leBytes 4 100 ++ leBytes 6 0x000810000013 ++ leBytes 6 0x002006 ++ leBytes 6 0x00206C ++ leBytes 6 0

theorem test_descriptor : descTag unalignedCopy = 0x42 ∧ descSrcSpace unalignedCopy = spHost ∧
    descDstSpace unalignedCopy = spCluster ∧ descIrq unalignedCopy = true ∧ descCrcStore unalignedCopy = true ∧
    descCrcCont unalignedCopy = false ∧ descEoc unalignedCopy = true ∧ descLen unalignedCopy = 100 ∧
    descDst unalignedCopy = 0x2006 ∧ descCrcAddr unalignedCopy = 0x206C ∧ descOk unalignedCopy = true := by decide

/-- Table 23-3: EVSEQ over SPI, read LO first. -/
def evseqAt : State := { base with ev := { base.ev with evseq := 0x123456789 } }

theorem test_spi_evseq : stateOf evseqAt (exec (.spiWindowRead false 0x40040 1 2) evseqAt) =
    { (evseqAt.setFld F.TCK_EVSEQ_HI_VALUE 1) with outbox :=
      [.spi [0, 0, 0, 0, 0, 0, 0, 0x5A, 0x89, 0x67, 0x45, 0x23, 0, 0, 0, 0x5A, 1, 0, 0, 0]] } := by decide +kernel

/-! ### States and operands that meet the statements' hypotheses

For each obligation with hypotheses, one theorem, clause by clause; a clause whose only hypothesis is that a command stands due
or accepted is met by `starts_due` or `commits_due` for its opcode. -/

theorem reaches_of (s : State) (a d : Nat)
    (h : regDomain a = some d ∧ s.busReaches d = true ∧ s.domain d ≠ 0 ∧ s.domain d ≠ 3) : s.reaches a := ⟨d, h⟩

theorem meets_StepPerformsFrontCommand : ({ base with pending := [.spiFetch, .spiStatus] } : State).pending = .spiFetch :: [.spiStatus] :=
  rfl
theorem meets_QueueRunsEmpty : base.pending = [] ∧
    ({ base with pending := [.spiFetch, .spiStatus] } : State).pending.length ≤ 2 := by decide
theorem meets_EveryStepKeepsStoresCanonical : ∃ t, ({ base with pending := [.spiFetch] } : State).canonical = true ∧
    step { base with pending := [.spiFetch] } = .next t := ⟨_, by decide, rfl⟩
theorem meets_TimePassesAtBoundariesOnly :
    (∃ t, exec (.tickBoundary TickIn.quiet) State.reset = .next t) ∧ ∃ t, exec .spiFetch State.reset = .next t :=
  ⟨⟨_, rfl⟩, ⟨_, rfl⟩⟩
theorem meets_HostMemoryFrame : Instr.spiFetch.writesHost = false ∧ ∃ t, exec .spiFetch State.reset = .next t := ⟨rfl, ⟨_, rfl⟩⟩
theorem meets_TickOrderIsSignedDifference : (0 < 2 ^ 32 ∧ 2 ^ 32 - 1 < 2 ^ 32 ∧ (0 : Nat) ≠ 2 ^ 32 - 1 ∧
    tickSub 0 (2 ^ 32 - 1) ≠ 2 ^ 31) ∧ (0 : Nat) < 2 ^ 31 - 1 ∧ 2 ^ 31 - 1 < 2 ^ 31 := by decide

/-- The last tick of frame 1,023. -/
def lastTick : State := { word base 0x40004 (BitVec.ofNat 32 (1023 * 2 ^ 16 + 38399)) with tick := { base.tick with first := false } }

theorem meets_BoundaryCountsTickAndFrame : lastTick.canonical = true ∧ lastTick.tickLoad = none ∧ lastTick.tick.first = false ∧
    lastTick.frameTick < 38400 ∧ lastTick.fld F.TCK_FRAME_SFN < 1024 ∧ lastTick.frameTick = 38399 := by decide
theorem meets_FieldWriteChangesItsFieldOnly : base.canonical = true ∧ F.TCK_FRAME_SFN.lo + F.TCK_FRAME_SFN.width ≤ 32 ∧
    (Fld.mk 0x40004 0 16).addr = F.TCK_FRAME_SFN.addr ∧ (Fld.mk 0x40004 0 16).lo + (Fld.mk 0x40004 0 16).width ≤ F.TCK_FRAME_SFN.lo ∧
    (Fld.mk 0x40004 26 6).addr = F.TCK_FRAME_SFN.addr ∧
    F.TCK_FRAME_SFN.lo + F.TCK_FRAME_SFN.width ≤ (Fld.mk 0x40004 26 6).lo ∧ (Fld.mk 0x40004 26 6).lo + (Fld.mk 0x40004 26 6).width ≤ 32 ∧
    (0x40000 : Nat) ≠ F.TCK_FRAME_SFN.addr := by decide
theorem meets_CountersSaturate : base.canonical = true ∧
    F.MAP_ERR_COUNT_COUNT.lo + F.MAP_ERR_COUNT_COUNT.width ≤ 32 := by decide
theorem meets_ShadowedWriteLeavesActiveCopy : ∃ d, findReg 0x200100 = some d ∧ d.shadowed = true := ⟨_, rfl, by decide⟩
theorem meets_ShadowReadReturnsShadowCopy : ∃ d, (put base F.MAP_CTRL_SHADOW_READ 1).reaches 0x200100 ∧ mapped 0x200100 = true ∧
    findReg 0x200100 = some d ∧ (put base F.MAP_CTRL_SHADOW_READ 1).effectRead 0x200100 = none ∧
    inRange 0x91000 0x92010 0x200100 = false ∧ d.shadowed = true ∧
    (put base F.MAP_CTRL_SHADOW_READ 1).flag F.MAP_CTRL_SHADOW_READ = true :=
  ⟨_, reaches_of _ _ 2 (by decide), by decide, rfl, by decide, by decide, by decide, by decide⟩
theorem meets_UnmappedAccessReadsZero : mapped 0xFFFFFC = false ∧
    (∀ d, regDomain 0xFFFFFC = some d → base.busReaches d = true ∧ base.domain d ≠ 0 ∧ base.domain d ≠ 3) ∧
    base.canonical = true ∧ base.domain 1 ≠ 0 :=
  ⟨by decide, fun d h => by
    have : regDomain 0xFFFFFC = none := by decide
    rw [this] at h
    exact absurd h (by simp), by decide, by decide⟩

/-- A slot that waits for its command, and one whose command has ended. -/
def slotHeld (o : Option Outcome) : State :=
  { base with privi := { base.privi with slots := [⟨1, 0x0100, .pcie, ReplyTo.none, false, .pending, o, 0, false⟩] } }

theorem meets_FirstEndStandsInSlot : (∃ x, (slotHeld none).slotOf 1 = some x ∧ x.st = .pending ∧ x.outcome = none) ∧
    (∃ x, (slotHeld (some ⟨.ok, false, [], 5⟩)).slotOf 1 = some x ∧ x.st = .pending ∧ x.outcome ≠ none) ∧ (2 : Nat) ≠ 1 :=
  ⟨⟨_, rfl, by decide, by decide⟩, ⟨_, rfl, by decide, by decide⟩, by decide⟩

theorem meets_ResetsRestoreResetWords : base.canonical = true ∧ base.pwr.refPresent = true ∧ base.pwr.safePin = false ∧
    0x40000 ≠ F.SEC_ARC_COUNT.addr ∧ 0x40000 ≠ 0xA0008 ∧ (regDomain 0x40000).isSome = true ∧ base.reaches 0x10008 ∧
    base.pwr.off = false ∧ (15 : Nat) < 16 :=
  ⟨by decide, by decide, by decide, by decide, by decide, by decide, reaches_of _ _ 0 (by decide), by decide, by decide⟩

/-- PWR_STATUS holds a state and a bring-up phase. -/
def inState (st ph : Nat) : State := word base 0x10000 (BitVec.ofNat 32 (st * 2 ^ 8 + ph * 2 ^ 20))

theorem meets_StartUpRowsComplete :
    ((inState 4 0).canonical = true ∧ (inState 4 0).reaches 0x10004 ∧ (inState 4 0).pwrState = stStandby ∧
      (inState 4 0).pwr.off = false) ∧
    (base.pwr.off = false ∧ base.pwr.fallback = false) ∧
    (let s := word (inState 5 2) 0x1000C 0#32
     s.pwrState = stBoot ∧ s.fld F.PWR_STATUS_PHASE = 2 ∧ s.domain 2 = 0 ∧ s.pwr.trans = none ∧
       s.flag F.PWR_STATUS_FAILED = false ∧ (nearFreq 491520 540672 || nearFreq 122880 540672) = true ∧
       (nearFreq 491520 540673 || nearFreq 122880 540673) = false ∧ s.flag F.PWR_STATUS_NO_REFCLK = false) ∧
    ((inState 5 3).pwrState = stBoot ∧ (inState 5 3).fld F.PWR_STATUS_PHASE = 3 ∧ (inState 5 3).flag F.CLK_SYNC_DONE = false ∧
      (inState 5 3).flag F.PWR_STATUS_NO_TSYNC = false) ∧
    (let s := put (inState 5 3) F.CLK_SYNC_DONE 1
     s.pwrState = stBoot ∧ s.fld F.PWR_STATUS_PHASE = 3 ∧ s.flag F.CLK_SYNC_DONE = true ∧ s.fault.lostLogged = false ∧
       ({ s with fault := { s.fault with lostLogged := true } } : State).fault.lostLogged = true) :=
  ⟨⟨by decide, reaches_of _ _ 0 (by decide), by decide, by decide⟩, by decide, by decide, by decide, by decide⟩

/-- A transition out of DOZE that wakes PD_MD, and one that wakes PD_CTL of a device whose control loop is locked. -/
def waking (d : Nat) (s : State) : State :=
  { s with pwr := { s.pwr with trans := some ⟨3, 0, none, false, [[.wake d]], [], 0, true⟩ } }

/-- A boot that wakes a converter die. -/
def testing (d : Nat) (s : State) : State :=
  { put s (F.CLK_LOOP_STATUS_STATE (d - 4)) 3 with pwr := { s.pwr with trans := some ⟨stBoot, 0, none, false, [[.wake d]], [], 0, true⟩ } }

/-- A transition at a step that names no domain. -/
def stepping (x : PowerStep) : State :=
  { base with pwr := { base.pwr with trans := some ⟨3, 0, none, false, [[x]], [], 0, true⟩ } }

/-- A transition with a request that waits for its end. -/
def asked (s : State) : State :=
  { s with pwr := { s.pwr with
      trans := some ⟨3, 0, none, false, [[.resume]], [], 0, true⟩
      request := some ⟨9, 3, false, false⟩ } }

theorem meets_PowerRowsComplete :
    (∃ s tag c u, Starts s 0x0200 tag c u ∧ u.pwr.trans = none ∧ leAt c.payload 0 1 = u.pwrState ∧ c.op = u.pwrState) ∧
    (∃ s tag c u, Starts s 0x0200 tag c u ∧ u.pwr.trans = none ∧ c.op ≠ u.pwrState) ∧
    (∃ s tag c u t, Starts s 0x0200 tag c u ∧ u.pwr.trans = some t ∧ u.pwr.request = none) ∧
    (∃ s tag c u t old, Starts s 0x0200 tag c u ∧ u.pwr.trans = some t ∧ u.pwr.request = some old) ∧
    (∃ s tag c u, Starts s 0x0201 tag c u) ∧
    (∃ t, (waking 12 base).resetWaking 12 = none ∧ (waking 12 base).pwr.trans = some t ∧ t.begun = true ∧
      (t.steps.headD []).contains (.wake 12) = true ∧ (waking 12 base).wakePasses t 12 = true ∧ t.source ≠ stBoot ∧
      (waking 12 base).pwr.retryOff.contains 12 = false ∧ (waking 12 base).pausedBySafe = false ∧
      (waking 12 base).pwr.failedOnce.contains 12 = false) ∧
    (let s := testing 7 base
     ∃ t, s.resetWaking (7 : Fin 13).val = none ∧ s.pwr.trans = some t ∧ t.begun = true ∧
       (t.steps.headD []).contains (.wake 7) = true ∧ s.wakePasses t 7 = true ∧ t.source = stBoot ∧
       repairable ⟨(List.range 8).map (Fin.ofNat 768), []⟩ = true ∧ repairable ⟨[], (List.range 9).map (Fin.ofNat 768)⟩ = false) ∧
    (let s : State := { waking 12 base with pwr := { (waking 12 base).pwr with failedOnce := [12] } }
     s.pwr.retryOff.contains 12 = false ∧ s.pausedBySafe = false ∧ s.pwr.failedOnce.contains 12 = true) ∧
    (let s : State := { waking 12 base with pwr := { (waking 12 base).pwr with retryOff := [12] } }
     ∃ t, s.resetWaking 12 = none ∧ s.pwr.trans = some t ∧ s.pwr.retryOff.contains 12 = true) ∧
    ((stepping .offAll).pwr.trans = some ⟨3, 0, none, false, [[.offAll]], [], 0, true⟩ ∧
      (stepping .resume).pwr.trans = some ⟨3, 0, none, false, [[.resume]], [], 0, true⟩ ∧ (stepping .resume).stepWaits = false) ∧
    (let s := word base 0x1000C 0x3555669#32
     s.lowPower 1 = true ∧ s.lowPower 2 = true ∧ s.lowPower 12 = true ∧ s.lowPower 4 = true ∧ (4 : Nat) ∉ [1, 2, 12]) ∧
    (let s : State := { base with pwr := { base.pwr with brownOff := [1, 2, 4] } }
     s.pwr.brownOff.contains 1 = true ∧ s.pwr.brownOff.contains 2 = true ∧ s.pwr.brownOff.contains 4 = true) :=
  ⟨⟨_, _, _, _, starts_due 0x0200 [0, 0], by decide⟩, ⟨_, _, _, _, starts_due 0x0200 [3, 1], by decide⟩,
    ⟨_, _, _, _, _, starts_alone (waking 12 base) (cmd 0x0200 [0, 0]) (by decide), rfl, rfl⟩,
    ⟨_, _, _, _, _, _, starts_alone (asked base) (cmd 0x0200 [0, 0]) (by decide), rfl, rfl⟩, ⟨_, _, _, _, starts_due 0x0201 []⟩,
    ⟨_, by decide, rfl, by decide, by decide, by decide, by decide, by decide, by decide, by decide⟩,
    ⟨_, by decide, rfl, by decide, by decide, by decide, rfl, by decide, by decide⟩, by decide,
    ⟨_, by decide, rfl, by decide⟩, by decide, by decide, by decide⟩

/-- The fabric loop is locked; a host commit waits for tick 20; EVSEQ of REFCLK's edges. -/
def hostCommit : State := { base with armed := [⟨7, 0, .host, [], [], [], [], []⟩] }

theorem meets_CrocusRowsComplete :
    (base.reaches 0x4000C ∧ base.tickMode = .stopped ∧ (put base (F.CLK_LOOP_STATUS_STATE 4) 3).tickMode = .stopped ∧
      (put base (F.CLK_LOOP_STATUS_STATE 4) 3).reaches 0x4000C ∧
      (put base (F.CLK_LOOP_STATUS_STATE 4) 3).fld (F.CLK_LOOP_STATUS_STATE 4) = 3 ∧ base.fld (F.CLK_LOOP_STATUS_STATE 4) ≠ 3) ∧
    ((put base F.TCK_STATUS_STATE 3).tickMode ≠ .stopped ∧ (put base F.TCK_STATUS_STATE 3).reaches 0x4000C) ∧
    (base.unlocked 3 = false ∧ base.fld F.TCK_CTRL_RUN = 0 ∧ base.canonical = true) ∧
    (let s := put base F.TCK_COMMIT_TICK_TICK 7
     s.reaches 0x40024 ∧ s.armed.all (fun k => decide (k.owner ≠ .host)) = true ∧
       tickBefore (s.fld F.TCK_COMMIT_TICK_TICK) (tickAdd s.tickno 2) = false ∧
       s.hostUnits.any (s.unitBusy (s.fld F.TCK_COMMIT_TICK_TICK)) = false) ∧
    (∃ k, hostCommit.reaches 0x40024 ∧ hostCommit.armed.find? (fun k => k.owner = .host) = some k ∧
      tickAfter k.tick (tickAdd hostCommit.tickno 1) = true) ∧
    base.reaches 0x40040 ∧
    (let s := put (put base F.TCK_STATUS_STATE 1) F.CLK_SYNC_OFFSET 127
     s.pwr.off = false ∧ s.pwr.refPresent = true ∧ s.counting = true ∧ s.flag F.CLK_SYNC_ARM = false ∧ s.bootEdge = false ∧
       127 % (if s.fld F.CLK_CFG_REF_SEL = 0 then 128 else 32) = s.syncOffset ∧ s.replaying = false) ∧
    base.counting = false :=
  ⟨⟨reaches_of _ _ 2 (by decide), by decide, by decide, reaches_of _ _ 2 (by decide), by decide, by decide⟩,
    ⟨by decide, reaches_of _ _ 2 (by decide)⟩, by decide,
    ⟨reaches_of _ _ 2 (by decide), by decide, by decide, by decide⟩,
    ⟨_, reaches_of _ _ 2 (by decide), rfl, by decide⟩, reaches_of _ _ 2 (by decide), by decide, by decide⟩

/-- Waiting events of two sources of one tick and one of a later tick, one in Lavender's queue, a code due for the notify queue, and a notified code. -/
def oneEvent : Event := ⟨5, 0x2003, 1, 0x0700, sevWarning, false, true⟩
def eventful : State :=
  { base with ev := { base.ev with
      waiting := [⟨6, 0x2003, 1, 0x0100, sevWarning, false, true⟩, ⟨5, 0x2003, 1, 0x0300, sevWarning, false, true⟩, oneEvent]
      granted := 0x0300
      queue := [(oneEvent, 9)]
      codes := [(0x2003, { CodeCfg.init with due := true })]
      notify := [0x2003] } }

theorem meets_EventRowsComplete :
    (eventful.nextGrant = some oneEvent ∧ eventful.domain 2 = 1 ∧ eventful.ev.queue.length < 256) ∧
    (∃ e n r, eventful.ev.queue = (e, n) :: r ∧ eventful.ev.failDue = false) ∧
    (let s : State := { eventful with ev := { eventful.ev with
       queue := [(oneEvent, 9), (⟨5, 0xF001, 1, 0x0A10, sevCritical, false, true⟩, 10)]
       failDue := true } }
     s.ev.queue.find? (fun x => x.1.code == 0xF001) = some (⟨5, 0xF001, 1, 0x0A10, sevCritical, false, true⟩, 10) ∧
       s.ev.failDue = true) ∧
    ((eventful.codeCfg 0x2003).due = true ∧ (eventful.codeCfg 0x2003).pushedAt = none ∧ eventful.ev.notify.length < 64) ∧
    (put base (F.LE_STATUS_STATE 15) 2).engRun 15 = .running ∧
    (∃ c r, eventful.reaches 0x50018 ∧ eventful.ev.notify = c :: r) ∧ base.canonical = true ∧ base.reaches 0x50044 :=
  ⟨by decide, ⟨_, _, _, rfl, by decide⟩, by decide, by decide, by decide,
    ⟨_, _, reaches_of _ _ 1 (by decide), rfl⟩, by decide, reaches_of _ _ 1 (by decide)⟩

/-- Privi ready in ACTIVE with its ring enabled, empty and with two packets. -/
def ringUp : State := word (word base 0x90000 5#32) 0x90004 1#32
def ringFull : State := word ringUp 0x90014 2#32

/-- Stored and finished results, and tags. -/
def withSlot (st : SlotState) (o : Option Outcome) (s : State) : State :=
  { s with privi := { s.privi with slots := [⟨7, 0x0100, .pcie, ReplyTo.none, false, st, o, 0, false⟩] } }

/-- A result-read request for tag 7. -/
def readRequest : List Byte := [0x52, 0x02, 7, 0, 0, 0, 0, 0] ++ crcBytes [0x52, 0x02, 7, 0, 0, 0, 0, 0]

theorem meets_TransportRowsComplete :
    (ringUp.canonical = true ∧ ringUp.reaches 0x90014 ∧
      (1 + 2 ^ 16 - ringUp.fld F.MBX_CMD_CONS_INDEX) % 2 ^ 16 ≤ ringSlots (ringUp.fld F.MBX_CMD_SIZE_LOG2)) ∧
    (ringUp.ctlOn = true ∧ ringUp.flag F.MBX_CTRL_SPI_EN = true ∧ frameComplete (List.replicate 20 0) = true ∧
      ({ ringUp.privi with spiCmds := [[]] } : PriviState).spiCmds.length < 2) ∧
    ((∀ v w, v ≠ w → ringUp.viaReady w = false) ∧ Transport.spi = viaAfter ({ ringUp.privi with served := .pcie } : PriviState).served) ∧
    (let s : State := { ringUp with privi := { ringUp.privi with spiCmds := [[0x50]] } }
     s.priviTakes = true ∧ s.viaTurn .spi = true ∧ s.privi.spiCmds = [0x50] :: [] ∧ s.privi.spiReplies.length < 8 ∧
       s.packetWaits [0x50] = false) ∧
    (ringFull.priviTakes = true ∧ ringFull.viaTurn .pcie = true ∧ ringFull.ringReady = true ∧
      ringFull.packetWaits (slotPacket []) = false) ∧
    (let s : State := { ringUp with privi := { ringUp.privi with inbPackets := [([0x50], ReplyTo.none)] } }
     s.priviTakes = true ∧ s.viaTurn .inband = true ∧ s.privi.inbPackets = ([0x50], ReplyTo.none) :: [] ∧ leAt [0x50] 0 1 ≠ 0x52 ∧
       s.packetWaits [0x50] = false) ∧
    (∃ x o, (withSlot .pending (some ⟨.ok, false, [], 5⟩) base).slotOf 7 = some x ∧ x.outcome = some o ∧ x.st = .pending ∧
      x.ackReq = false) ∧
    (let s : State := { ringUp with privi := { ringUp.privi with pcieReplies := [[1]] } }
     s.canonical = true ∧ s.privi.pcieReplies = [1] :: [] ∧ s.replyRingFull = false) ∧
    (readRequestOk readRequest = true ∧ ringUp.privi.spiReplies.length < 8 ∧ ringUp.inTakeover = false ∧
      (put ringUp F.MBX_STATUS_MODE 1).inTakeover = true ∧ (put ringUp F.MBX_STATUS_MODE 1).flag F.MBX_CTRL_SPI_EN = true ∧
      (put ringUp F.MBX_STATUS_MODE 1).ctlOn = true) ∧
    (let s : State := { ringUp with privi := { ringUp.privi with inbPackets := [(readRequest, ReplyTo.none)] } }
     s.inTakeover = false ∧ s.privi.inbPackets = (readRequest, ReplyTo.none) :: [] ∧ leAt readRequest 0 1 = 0x52) ∧
    ({ ringUp with privi := { ringUp.privi with spiReplies := [[1]] } } : State).privi.spiReplies = [1] :: [] ∧
    base.privi.spiReplies = [] ∧
    (base.canonical = true ∧ base.reaches 0x90000 ∧ (put base F.MBX_CTRL_SPI_EN 1).flag F.MBX_CTRL_PCIE_EN = false) ∧
    (base.reaches 0x90040 ∧ base.unlocked 3 = false ∧ base.flag F.MBX_RES_STAT_BUSY = false) ∧
    (let s : State := { base with privi := { base.privi with fetchTag := some 7 } }
     s.privi.fetchTag = some 7 ∧ s.inTakeover = false) :=
  ⟨⟨by decide, reaches_of _ _ 1 (by decide), by decide⟩, by decide +kernel, ⟨fun _ w _ => by cases w <;> decide, rfl⟩,
    by decide +kernel, by decide +kernel, by decide +kernel, ⟨_, _, rfl, rfl, by decide⟩,
    by decide, by decide +kernel, by decide +kernel, by decide, by decide, ⟨by decide, reaches_of _ _ 1 (by decide), by decide⟩,
    ⟨reaches_of _ _ 1 (by decide), by decide⟩, by decide⟩

/-- NOP that closes an atomic group, the group, and a group opened at tick 0. -/
def closing : Cmd := ⟨0x0100, 9, 2, 3, 0, [], .pcie, ReplyTo.none, 0, 0, 0⟩
def grouped : State := { base with
  elapsed := 3840
  privi := { base.privi with groups := [⟨65536 + 9, .pcie, 0, 0, []⟩, ⟨3, .pcie, 0, 0, []⟩] } }

theorem meets_MailboxCommandsComplete :
    (∃ s tag c u, Starts s 0x0100 tag c u ∧ c.atomic = false) ∧
    (∃ s tag c u g, Starts s 0x0100 tag c u ∧ c.atomic = true ∧ u.findGroup (65536 + c.tag) = some g) ∧
    (∃ s tag c u, Starts s 0x0101 tag c u) ∧ (∃ s tag c u, Starts s 0x0103 tag c u) ∧
    (∃ (s : State) (c : Cmd) (x : Slot), s.acceptedCmd 0x0105 1 = some c ∧ leAt c.payload 0 2 ≠ 0 ∧ ackTags c = [7] ∧ (s.takeCmd c).slotOf 7 = some x ∧
      (x.st = .ready ∨ x.st = .read) ∧ c.dryRun = false ∧ c.ackReq = false) ∧
    (∃ g, grouped.privi.groups.find? (fun g => g.id == 3) = some g ∧ (3 : Nat) < 65536 ∧ g.opened + 3840 ≤ grouped.elapsed) :=
  ⟨⟨_, _, _, _, starts_due 0x0100 [], by decide⟩, ⟨_, _, _, _, _, starts_alone grouped closing (by decide), by decide, rfl⟩,
    ⟨_, _, _, _, starts_due 0x0101 []⟩, ⟨_, _, _, _, starts_due 0x0103 []⟩,
    ⟨holding (withSlot .ready (some ⟨.ok, false, [], 5⟩) base) (cmd 0x0105 [1, 0, 0, 0, 7, 0]), _, _, rfl, by decide, by decide, rfl,
      by decide, by decide, by decide⟩, ⟨_, rfl, by decide, by decide⟩⟩

theorem meets_ControlPairRowsComplete :
    (base.canonical = true ∧ base.fault.lost = false ∧ base.fld F.MBX_STATUS_MODE = 0) ∧
    (put base F.MBX_STATUS_MODE 1).fld F.MBX_STATUS_MODE = 1 ∧
    (let s : State := { base with fault := { base.fault with lostPair := some 1 } }
     s.sec.activation = none ∧ s.fault.lostPair = some (1 : Fin 2).val ∧ s.isRetired (srcPair 1) = false ∧ s.fault.lost = false ∧
       s.fault.lostAgain = false ∧ s.fld F.MBX_STATUS_MODE ≠ 1 ∧ (put base F.MBX_STATUS_MODE 1).fld F.MBX_STATUS_MODE = 1 ∧
       ({ s.fault with lostAgain := true } : FaultState).lostAgain = true) ∧
    (let s : State := { put base F.MBX_STATUS_MODE 3 with
       elapsed := 3840000
       fault := { base.fault with
         lostPair := some 0
         mismatchAt := [(0, 1)] } }
     s.fault.lost = false ∧ (s.fld F.MBX_STATUS_MODE = 2 ∨ s.fld F.MBX_STATUS_MODE = 3) ∧
       s.fault.lostPair = some (0 : Fin 2).val ∧ s.isRetired (srcPair 0) = false ∧ s.mismatchRecent 0 = true ∧
       (put base F.MBX_STATUS_MODE 2).fld F.MBX_STATUS_MODE = 2) := by decide

theorem meets_ArmingChangesNothingYet : ∃ k : Commit, k.changes = [.reg 0x200100 0xFF 3] ∧
    (∀ x ∈ (holding { base with armed := [crossing 0] } (cmd 0 [])).armed, x.seq ≤ k.seq) ∧
    swf (fun b => base.reg b) base.shadow = true :=
  ⟨⟨9, 4, .command, [], [.reg 0x200100 0xFF 3], [], [], []⟩, rfl, by decide, by decide⟩

theorem meets_ReceivePathCommandsArm : (∃ s tag c u, Commits s 0x0400 tag c u ∧ c.op = 0) ∧ (∃ s tag c u, Commits s 0x0401 tag c u) ∧
    (∃ s tag c u, Commits s 0x0403 tag c u) ∧ (∃ s tag c u, Commits s 0x0405 tag c u) ∧
    ∃ k : Commit, k.owner = .command ∧ k.late = [] ∧ k.results = [(1, ⟨.ok, false, [], 7⟩)] ∧ k.changes = [Change.retire 1 0] :=
  ⟨⟨_, _, _, _, commits_due 0x0400 [0], by decide⟩, ⟨_, _, _, _, commits_due 0x0401 []⟩, ⟨_, _, _, _, commits_due 0x0403 []⟩,
    ⟨_, _, _, _, commits_due 0x0405 []⟩, ⟨⟨7, 0, .command, [], [.retire 1 0], [], [(1, ⟨.ok, false, [], 7⟩)], []⟩, rfl, rfl, rfl, rfl⟩⟩

theorem meets_TransmitPathCommandsArm : (∃ s tag c u, Commits s 0x0400 tag c u ∧ c.op = 1) ∧
    (∃ s tag c u, Commits s 0x0402 tag c u ∧ c.op = 0) ∧ (∃ s tag c u, Commits s 0x0402 tag c u ∧ c.op = 1) ∧
    (∃ s tag c u, Commits s 0x0404 tag c u ∧ c.op = 0) ∧ (∃ s tag c u, Commits s 0x0404 tag c u ∧ c.op = 1) ∧
    (∃ s tag c u, Commits s 0x0406 tag c u) ∧ (∃ s tag c u, Commits s 0x0407 tag c u) :=
  ⟨⟨_, _, _, _, commits_due 0x0400 [1], by decide⟩, ⟨_, _, _, _, commits_due 0x0402 [0], by decide⟩,
    ⟨_, _, _, _, commits_due 0x0402 [1], by decide⟩, ⟨_, _, _, _, commits_due 0x0404 [0], by decide⟩,
    ⟨_, _, _, _, commits_due 0x0404 [1], by decide⟩, ⟨_, _, _, _, commits_due 0x0406 []⟩, ⟨_, _, _, _, commits_due 0x0407 []⟩⟩

/-- rx63 in TRACK in the last gap tick before a downlink tick. -/
def trackGap : State := word (word (word (word (word (put (put base (F.RXP_STATUS_AGC 63) 1) (F.RXP_GAIN_STAT_ATTEN 63) 29) 0x13F014 0x640C06#32)
  0x221004 0x20002#32) 0x22100C 0x8000#32) 0x221100 1#32) 0x221104 0x10001#32

theorem meets_PathEventsComplete :
    (let s := trackGap
     let u := s.setFld (F.RXP_PEAK_PEAK 63) (encode2c 16 (-89))
     let w := s.setFld (F.RXP_PEAK_PEAK 63) (encode2c 16 (-90))
     s.agc 63 = .track ∧ s.pathClass 63 s.frameTick = some .gap ∧
       ((5 * u.fld (F.RXP_AGC_CFG_UP_MARGIN 63) : Nat) : Int) < -89 + 120 ∧ u.fld (F.RXP_GAIN_STAT_ATTEN 63) < 30 ∧
       (u.setLow 63 0).gapAllows 63 = true ∧
       -90 + 120 ≤ ((5 * w.fld (F.RXP_AGC_CFG_UP_MARGIN 63) : Nat) : Int) ∧
       -((5 * w.fld (F.RXP_AGC_CFG_DOWN_MARGIN 63) : Nat) : Int) ≤ -90 + 120) ∧
    (base.reaches 0x221014 ∧ base.flag F.FES_PADRV_CTRL_EN = false) ∧
    (∃ l, ({ base.tx with
        deferred := [3]
        lastLatch := some 0 } : TxState).deferred ≠ [] ∧ ({ base.tx with
        deferred := [3]
        lastLatch := some 0 } : TxState).lastLatch = some l ∧ l + 3 ≤ ({ base with elapsed := 3 } : State).elapsed) ∧
    (let s := base.putCfr 63 { CfrPath.init with report := some ⟨[(1, 2)], -3, 4⟩ }
     s.canonical = true ∧ (s.cfrPath (63 : Fin 64).val).report = some ⟨[(1, 2)], -3, 4⟩) ∧
    (base.cfrPath 63).report = none ∧ (3 : Nat) < 4 :=
  ⟨by decide, ⟨reaches_of _ _ 2 (by decide), by decide⟩, ⟨_, by decide, rfl, by decide⟩, by decide, by decide, by decide⟩

theorem meets_BeamCommandsComplete : (∃ s tag c u, Commits s 0x0500 tag c u) ∧ (∃ s tag c u, Commits s 0x0501 tag c u ∧ c.op = 0) ∧
    (∃ s tag c u, Commits s 0x0501 tag c u ∧ c.op = 1) ∧ ∃ s tag c u, Starts s 0x0502 tag c u :=
  ⟨⟨_, _, _, _, commits_due 0x0500 []⟩, ⟨_, _, _, _, commits_due 0x0501 [0], by decide⟩, ⟨_, _, _, _, commits_due 0x0501 [1], by decide⟩,
    ⟨_, _, _, _, starts_due 0x0502 []⟩⟩

theorem meets_PredistortionCommandsComplete : (∃ s tag c u, Starts s 0x0600 tag c u) ∧ (∃ s tag c u, Commits s 0x0601 tag c u) ∧
    (∃ s tag c u, Commits s 0x0602 tag c u ∧ c.op = 0) ∧ (∃ s tag c u, Commits s 0x0602 tag c u ∧ c.op = 1) ∧
    ∃ s tag c u, Starts s 0x0603 tag c u :=
  ⟨⟨_, _, _, _, starts_due 0x0600 []⟩, ⟨_, _, _, _, commits_due 0x0601 []⟩, ⟨_, _, _, _, commits_due 0x0602 [0], by decide⟩,
    ⟨_, _, _, _, commits_due 0x0602 [1], by decide⟩, ⟨_, _, _, _, starts_due 0x0603 []⟩⟩

/-- ox7 in a state, its capture begun at air tick `at_`. -/
def oxIn (st at_ : Nat) : State :=
  let s := put base (F.OBS_STATUS_STATE 7) st
  { s with dpd := { s.dpd with capAt := [(7, at_)] } }

def aCapture : Capture := ⟨63, 0, 0, 0, 5, 0, 0, 0, 0, true, false, false, 0, 0, 0, [], [], []⟩

/-- tx63 adapts; its capture waits for an engine, or one is at work on it. -/
def adapting (est : Option Nat) : State :=
  let s := put (put (put base (F.DPD_P_STATUS_STATE 63) 1) F.DPD_ENGINES_MASK 0x8000) (F.LE_STATUS_STATE 15) 2
  { s with dpd := { s.dpd with paths := [(63, { DpdPath.init with
    estCap := some aCapture
    estFrom := some aCapture
    estimating := est })] } }

/-- The last air tick of ox7's capture of tx63, a downlink tick. -/
def lastTickOf : State :=
  let s := word (put trackGap F.TCK_FRAME_FRAME_TICK 1) (F.OBS_STATUS_STATE 7).addr
    (BitVec.ofNat 32 (2 * 2 ^ (F.OBS_STATUS_STATE 7).lo + 7 * 2 ^ (F.OBS_STATUS_SEL 7).lo))
  { s with dpd := { s.dpd with capAt := [(7, 4294967286)] } }

theorem meets_ObservationRowsComplete :
    ((oxIn 1 5).ox 7 = .wait ∧ 32 * tickSub ((oxIn 1 5).capTick 7) (oxIn 1 5).tickno ≤ (oxIn 1 5).fld F.FES_SW_SW_LEAD + 31) ∧
    (let s := oxIn 2 4294967286
     s.ox 7 = .capture ∧ tickSub s.tickno (s.capTick 7) < 16 ∧
       [(⟨7, [], true⟩ : ObsIn)].find? (fun i => i.ox == 7) = some ⟨7, [], true⟩ ∧
       [(⟨7, [], false⟩ : ObsIn)].find? (fun i => i.ox == 7) = some ⟨7, [], false⟩ ∧ s.dlIn (s.oxPath 7) 0 = false) ∧
    (let s := (oxIn 2 4294967285).putOxCap 7 { OxCap.init with final := some aCapture }
     s.ox 7 = .capture ∧ 16 ≤ tickSub s.tickno (s.capTick 7) ∧ tickSub s.tickno (s.capTick 7) < 2 ^ 31 ∧
       (s.oxCap (7 : Fin 8).val).final = some aCapture) ∧
    (let s : State := { base with dpd := { base.dpd with transfer := [⟨7, aCapture, 0, 43⟩] } }
     s.dpd.transfer.find? (fun e => e.ox == (7 : Fin 8).val && decide (43 ≤ e.sent)) = some ⟨7, aCapture, 0, 43⟩) ∧
    (let s := lastTickOf
     s.ox 7 = .capture ∧ tickSub s.tickno (s.capTick 7) = 15 ∧
       [(⟨7, [], false⟩ : ObsIn)].find? (fun i => i.ox == 7) = some ⟨7, [], false⟩ ∧ s.dlIn (s.oxPath 7) 0 = true ∧
       s.airReady (s.oxPath 7) = true ∧ (s.oxCap 7).spoilt = false) ∧
    ((adapting none).estimationStart 15).1 = some 63 ∧
    (let s := adapting (some 15)
     (s.dpdPath 63).estimating = some 15 ∧ s.engResult 15 = none ∧ (s.engine 15).rowed = false) ∧
    (let s : State := { adapting (some 15) with eng := { (adapting (some 15)).eng with results := [(15, 1)] } }
     let v : State := { s with eng := { s.eng with results := sput (fun _ => 0) s.eng.results 15 0 } }
     let u := v.putDpd 63 { v.dpdPath 63 with
       estimating := none
       estFrom := none }
     s.engResult 15 = some 0 ∧ (s.dpdPath 63).estFrom = some aCapture ∧ u.adapt 63 = .run ∧
       (s.dpdPath 63).estSlot = u.slotInForce 63) ∧
    ({ adapting (some 15) with eng := { (adapting (some 15)).eng with results := [(15, 7)] } } : State).engResult 15 = some 6 := by
  decide +kernel

theorem meets_RandomAccessCommandsComplete : (∃ s tag c u, Commits s 0x0680 tag c u) ∧ ∃ s tag c u, Starts s 0x0681 tag c u :=
  ⟨⟨_, _, _, _, commits_due 0x0680 []⟩, ⟨_, _, _, _, starts_due 0x0681 []⟩⟩

theorem meets_RegisterAccessesComplete :
    (∃ d, base.reaches (0x40023 / 4 * 4) ∧ mapped (0x40023 / 4 * 4) = true ∧ findReg (0x40023 / 4 * 4) = some d ∧
      base.writeWindow (0x40023 / 4 * 4) 9 = none ∧ msixTable (0x40023 / 4 * 4) = false ∧
      inCore (0x40023 / 4 * 4) = false) ∧
    (∃ d, base.reaches (0x100000 / 4 * 4) ∧ mapped (0x100000 / 4 * 4) = true ∧ findReg (0x100000 / 4 * 4) = some d ∧
      (base.noteItem (.write (0x100000 / 4 * 4) 9)).writeWindow (0x100000 / 4 * 4) 9 = none ∧
      msixTable (0x100000 / 4 * 4) = false ∧ inCore (0x100000 / 4 * 4) = true) ∧
    (∃ d, base.reaches 0x40020 ∧ (0x40020 : Fin 16777216).val % 4 = 0 ∧ mapped 0x40020 = true ∧ findReg 0x40020 = some d ∧
      base.writeWindow 0x40020 (leAt [1, 2, 3, 4] 0 4) = none ∧ msixTable 0x40020 = false ∧ inCore 0x40020 = false) ∧
    (base.readWord 0x40000).2.1 = true ∧
    (7 : Fin 16).val ≠ 15 ∧ base.pwr.off = false ∧ (0x10000 : Fin 16777216).val % 4 = 0 ∧
    4 ≤ ([1, 2, 3, 4] : List Byte).length ∧
    (∃ u v : State, (1 : Fin 8).val = (0 : Fin 8).val + 1 ∧ 4 * ((1 : Fin 8).val + 1) ≤ (List.replicate 8 (0 : Byte)).length ∧
      (0x10004 : Fin 16777216).val = (if false = true then 0x10000 else 0x10000 + 4 * (1 : Fin 8).val) % 2 ^ 24 ∧
      exec (.spiWindowWrite false 0x10000 0 (List.replicate 8 0) RegEnv.none) base = .next u ∧ u.pwr.off = false ∧
      exec (.registerWrite 0x10004 15 (BitVec.ofNat 32 (leAt (List.replicate 8 0) (4 * (1 : Fin 8).val) 4)) RegEnv.none) u = .next v) ∧
    (∀ x ∈ spiAddrs false 0x10000 (min ((1 : Fin 8).val + 1) (2 : Fin 9).val), (base.readWord (x % 2 ^ 24)).2.1 = true ∧
      (base.readWord (x % 2 ^ 24)).2.2 = base) :=
  ⟨⟨_, reaches_of _ _ 2 (by decide), by decide, rfl, by decide, by decide, by decide⟩,
    ⟨_, reaches_of _ _ 2 (by decide), by decide, rfl, by decide, by decide, by decide⟩,
    ⟨_, reaches_of _ _ 2 (by decide), by decide, by decide, rfl, by decide, by decide, by decide⟩, by decide +kernel,
    by decide, by decide, by decide, by decide, ⟨_, _, by decide, by decide, by decide, rfl, by decide +kernel, rfl⟩, by decide +kernel⟩

/-- The port of an FH_CONFIG_PORT: fh0 up with the rate and place that the payload asks for. -/
def portUp : State := put base (F.ETH_STATUS_STATE 0) 2

theorem meets_FronthaulCommandsComplete :
    (∃ s tag c u, Starts s 0x0700 tag c u ∧ leAt c.payload 1 1 % 2 = 0) ∧
    (∃ s tag c u, Starts s 0x0700 tag c u ∧ leAt c.payload 1 1 % 2 = 1 ∧ (u.storePort c).port (leAt c.payload 0 1) = .up ∧
      (leAt c.payload 2 1 != u.fld (F.ETH_CFG_RATE (leAt c.payload 0 1)) ||
        leAt c.payload 3 1 != u.fld (F.ETH_CFG_PLACE (leAt c.payload 0 1))) = false) ∧
    (∃ s tag c u, Starts s 0x0700 tag c u ∧ leAt c.payload 1 1 % 2 = 1 ∧ (u.storePort c).port (leAt c.payload 0 1) ≠ .up) ∧
    (∃ s tag c u, Commits s 0x0701 tag c u) ∧ (∃ s tag c u, Commits s 0x0702 tag c u) ∧ ∃ s tag c u, Commits s 0x0703 tag c u :=
  ⟨⟨_, _, _, _, starts_due 0x0700 [0, 0], by decide⟩,
    ⟨_, _, _, _, starts_alone portUp (cmd 0x0700 ([0, 1, 0, 0] ++ List.replicate 36 0)) (by decide), by decide, by decide +kernel, by decide +kernel⟩,
    ⟨_, _, _, _, starts_due 0x0700 ([0, 1] ++ List.replicate 38 0), by decide, by decide +kernel⟩,
    ⟨_, _, _, _, commits_due 0x0701 []⟩, ⟨_, _, _, _, commits_due 0x0702 []⟩, ⟨_, _, _, _, commits_due 0x0703 []⟩⟩

/-- fh3 up with in-band control and PTP on. -/
def fh3Up : State := word (word (word base 0x90000 2#32) 0x303000 0x24000016#32) 0x303004 2#32
def frameTo (mac : Nat) (b : FrameBody) : Frame := { frameOf b with dmac := mac }

/-- DL carrier 0 at 30 kHz with 4,096 points and 273 PRBs; symbol 0 of the open slot begins in the open tick. -/
def dlCarrier : State := word (word base 0x200200 0x92000111#32) 0x200204 (BitVec.ofNat 32 (352 * 2 ^ 16 + 288))
def dlHdr (sym : Nat) : AppHdr := ⟨true, 1, 0, 0, 0, 0, sym, 0⟩
def layer0 : Eaxc := ⟨0, 2, 3, 0, 0⟩
def oneByte : UpSection := ⟨0, 0, false, 272, 1, none, [0]⟩
def arrives (s : State) (sym : Nat) : Arrival :=
  let g := s.geo true 0
  s.arrival (s.dueTick (s.resolve g 0 (symIndex g.mu (dlHdr sym) 0))) (s.fld F.FRM_WIN0_DL_UP_OPEN) (s.earlyTicks g)

theorem meets_ReceivedFrameActs :
    (let s := fh3Up
     let k := 3
     let mac := s.fld (F.ETH_MAC_LO_ADDR k) + 2 ^ 32 * s.fld (F.ETH_MAC_HI_ADDR k)
     let mine := fun (f : Frame) => f.dmac = mac ∨ f.dmac = 0x011B19000000 ∨ f.dmac = 0x0180C200000E
     let sized := fun (f : Frame) => 64 ≤ f.length ∧ f.length ≤ s.fld (F.ETH_CFG_MAXFRAME k)
     let u := (s.addFld (F.ETH_RX_FRAMES_COUNT k) 1).noteItem (.frame k (frameTo 0x0180C200000E .other))
     s.replaying = false ∧ s.port k = .up ∧ ({ frameTo 0 .other with fcsOk := false } : Frame).fcsOk = false ∧
       (frameTo 0 .other).fcsOk = true ∧ ¬ sized { frameTo 0 .other with length := 63 } ∧ sized (frameTo 0 .other) ∧
       ¬ mine (frameTo 1 .other) ∧ mine (frameTo 0x0180C200000E .other) ∧
       ({ frameTo 0 .other with tci := some 1 } : Frame).tci = some 1 ∧ 1 % 4096 ≠ s.fld (F.ETH_VLAN_VID k) ∧
       (frameTo 0 .other).stag = false ∧ (frameTo 0 .other).tci = none ∧
       u.pwr.quietAt = false ∧ u.flag (F.ETH_CFG_INBAND k) = true ∧ u.flag F.MBX_CTRL_INB_EN = true ∧
       base.flag F.MBX_CTRL_INB_EN = false ∧ u.privi.inbPackets.length < 16 ∧ u.flag (F.ETH_CFG_PTP k) = true) ∧
    (let s := dlCarrier
     oneByte.rb = 0 ∧ oneByte.startPrb + prbCount (s.carNrb true 0) oneByte.startPrb oneByte.numPrb ≤ s.carNrb true 0 ∧
       oneByte.startPrb < s.carNrb true 0 ∧ arrives s 13 = .tooEarly ∧ arrives s 0 = .late ∧ arrives s 1 = .onTime ∧
       arrives (word s 0x241000 0#32) 2 = .early ∧ s.ingressUsed + oneByte.bytes.length ≤ ingressBytes) := by decide +kernel

/-- A store that is full of one section. -/
def fullSection : DlWait := ⟨⟨0, 0, 5, 0, 1, none, none, List.replicate ingressBytes 0⟩, 5, 5, 400, (0, 0, 0, 0)⟩
def fullStore : State := { dlCarrier with fh := { dlCarrier.fh with ingress := [fullSection] } }

theorem used_one (s : State) (w : DlWait) (h : s.fh.ingress = [w]) (d : tickAfter w.due s.tickno = true) :
    s.ingressUsed = w.part.bytes.length := by
  simp [State.ingressUsed, h, d]

theorem meets_ReceivedFrameActs_full : arrives fullStore 1 = .onTime ∧
    ingressBytes < fullStore.ingressUsed + oneByte.bytes.length := by
  have due : tickAfter fullSection.due fullStore.tickno = true := by decide +kernel
  have size : fullSection.part.bytes.length = ingressBytes := List.length_replicate ..
  have one : oneByte.bytes.length = 1 := rfl
  refine ⟨by decide +kernel, ?_⟩
  have used := used_one fullStore fullSection rfl due
  omega

theorem meets_PortEventsComplete :
    (let s := put base (F.ETH_STATUS_STATE 3) 1
     s.port 3 = .aligning ∧ s.inSafe = false) ∧
    (let s : State := { base with
       elapsed := 384007
       fh := { base.fh with portCmd := [(3, 1, 7)] } }
     s.fh.portCmd = [((3 : Fin 4).val, 1, 7)] ∧ 7 + 384000 ≤ s.elapsed) ∧
    (fh3Up.port 3 = .up ∧ (put base (F.ETH_STATUS_STATE 3) 2).canonical = true ∧ (put base (F.ETH_STATUS_STATE 3) 2).port 3 = .up ∧
      fh3Up.flag (F.ETH_STATUS_REMOTE_FAULT 3) = false) := by decide

theorem meets_RateChangeKeepsTimeContinuous : base.canonical = true ∧ 2 ^ 48 - 1 < 2 ^ 48 ∧ 7 ≤ 7 := by decide
theorem meets_SnapshotLatchesOneEdge : base.canonical = true ∧ base.reaches 0x30004 := ⟨by decide, reaches_of _ _ 1 (by decide)⟩

/-- Comparator 15 armed for time 0, with a period [ns] and a window of 1 µs; time is valid and FRC stands at `frc`. -/
def comparator (per frc : Nat) : State :=
  let s := word (word (word (word base 0x30000 1#32) 0x302E0 1#32) 0x302F0 (BitVec.ofNat 32 per)) 0x302F4 1#32
  { s with time := { s.time with frc := frc } }

theorem meets_TimeRowsComplete :
    (∃ s tag edge c u, Starts s 0x0302 tag c u ∧ c.op = 0 ∧ u.jumpRefused (u.askedStep c (u.frcAt edge)) = false) ∧
    (∃ s tag edge c u, Starts s 0x0302 tag c u ∧ c.op = 1 ∧ u.jumpRefused (u.askedStep c (u.frcAt edge)) = false) ∧
    (∃ s tag c u, Starts s 0x0302 tag c u ∧ c.op = 2) ∧ (∃ s tag c u, Starts s 0x0303 tag c u ∧ c.op = 0) ∧
    (∃ s tag c u, Starts s 0x0303 tag c u ∧ c.op = 1) ∧
    (∃ s tag c u, Starts s 0x0304 tag c u ∧ c.op < 16 ∧ leAt c.payload 1 1 ≠ 0 ∧ u.timeValid = false ∧ u.canonical = true) ∧
    (∃ s tag c u, Starts s 0x0304 tag c u ∧ c.op < 16 ∧ leAt c.payload 1 1 = 0) ∧
    (let near := fun per => comparator per 491
     let far := fun per => comparator per 492
     let d := fun (s : State) => timeDelta (s.linear (s.frcAt 0)) (s.cmpTarget 15)
     let w := fun (s : State) => windowOf (s.fld (F.TIM_CMP_WIN_WINDOW 15))
     (near 0).cmpState 15 = .armed ∧ (near 0).timeValid = true ∧ 0 ≤ d (near 0) ∧ d (near 0) ≤ w (near 0) ∧
       (near 0).fld (F.TIM_CMP_PERIOD_PERIOD 15) = 0 ∧ (near 100).cmpState 15 = .armed ∧ d (near 100) ≤ w (near 100) ∧
       (near 100).fld (F.TIM_CMP_PERIOD_PERIOD 15) ≠ 0 ∧ w (far 0) < d (far 0) ∧ w (far 100) < d (far 100)) ∧
    ((word base 0x30044 0x80000001#32).servoEnabled = true ∧ base.fld F.MBX_STATUS_MODE ≠ 1) ∧
    ((put base F.TIM_STATUS_SERVO 2).servo = .locked ∧ (put base F.TIM_STATUS_SERVO 2).canonical = true) :=
  ⟨⟨_, _, 0, _, _, starts_due 0x0302 [0], by decide, by decide⟩, ⟨_, _, 127, _, _, starts_due 0x0302 [1], by decide, by decide⟩,
    ⟨_, _, _, _, starts_due 0x0302 [2], by decide⟩, ⟨_, _, _, _, starts_due 0x0303 [0], by decide⟩,
    ⟨_, _, _, _, starts_due 0x0303 [1], by decide⟩, ⟨_, _, _, _, starts_due 0x0304 [15, 1], by decide, by decide, by decide, by decide⟩,
    ⟨_, _, _, _, starts_due 0x0304 [0, 0], by decide, by decide⟩, by decide +kernel, by decide, by decide⟩

/-- ln7 in a state of adaptation. -/
def laneIn (a : LaneAdapt) : State := put base (F.LN_STATUS_ADAPT 7) a.code

theorem meets_LaneCommandsComplete :
    (∃ s tag c u, Starts s 0x0800 tag c u ∧ u.canonical = true ∧ leAt c.payload 0 1 < 4 ∧ leAt c.payload 1 1 ≠ 3) ∧
    (let w : LaneWait := ⟨3, 1, 7, false, []⟩
     let s : State := { base with
       elapsed := 153607
       ln := { base.ln with waits := [w] } }
     s.ln.waits = [w] ∧ w.group = (3 : Fin 4).val ∧ w.since + 153600 ≤ s.elapsed) ∧
    (∃ s tag c u, Starts s 0x0801 tag c u ∧ c.op = 0) ∧ (∃ s tag c u, Starts s 0x0801 tag c u ∧ c.op = 1) ∧
    (∃ s tag c u, Starts s 0x0801 tag c u ∧ c.op = 2) ∧ (∃ s tag c u, Starts s 0x0801 tag c u ∧ c.op = 3) ∧
    (∃ s tag c u, Starts s 0x0801 tag c u ∧ c.op = 4) ∧ (∃ s tag c u, Starts s 0x0802 tag c u) ∧
    ∃ s tag c u, Starts s 0x0803 tag c u :=
  ⟨⟨_, _, _, _, starts_due 0x0800 [3, 0], by decide, by decide, by decide⟩, by decide, ⟨_, _, _, _, starts_due 0x0801 [0], by decide⟩,
    ⟨_, _, _, _, starts_due 0x0801 [1], by decide⟩, ⟨_, _, _, _, starts_due 0x0801 [2], by decide⟩,
    ⟨_, _, _, _, starts_due 0x0801 [3], by decide⟩, ⟨_, _, _, _, starts_due 0x0801 [4], by decide⟩,
    ⟨_, _, _, _, starts_due 0x0802 []⟩, ⟨_, _, _, _, starts_due 0x0803 []⟩⟩

/-- A lane's monitors with every count at its threshold. -/
def laneFull : LaneHw := ⟨[], none, 76800, true, List.replicate 16 0, 3840, 384, none, [], 104, 1038⟩

theorem meets_LaneAdaptationMoves :
    ((laneIn .los).setFld (F.LN_STATUS_SIGNAL 7) 1).lane 7 = .los ∧ ((laneIn .off).setFld (F.LN_STATUS_SIGNAL 7) 1).lane 7 ≠ .los ∧
    ((laneIn .track).setFld (F.LN_STATUS_SIGNAL 7) 0).lane 7 ∈ [.acquire, .track, .frozen] ∧
    ((laneIn .held).setFld (F.LN_STATUS_SIGNAL 7) 0).lane 7 ∉ [.acquire, .track, .frozen] ∧
    (let s := (laneIn .acquire).putLaneHw 7 laneFull
     s.lane 7 = .acquire ∧ 3840 ≤ (s.laneHw 7).above ∧ 76800 ≤ (s.laneHw 7).timer) ∧
    (let s := (laneIn .track).putLaneHw 7 laneFull
     s.lane 7 = .track ∧ 384 ≤ (s.laneHw 7).below ∧ (s.laneHw 7).lowContent (s.fld (F.LN_STATUS_RATE 7)) = true) ∧
    (let s := (laneIn .frozen).putLaneHw 7 laneFull
     s.lane 7 = .frozen ∧ (s.laneHw 7).goodContent (s.fld (F.LN_STATUS_RATE 7)) = true) ∧
    (let s := (laneIn .held).putLaneHw 7 laneFull
     s.canonical = true ∧ s.lane 7 ∈ [.acquire, .track, .frozen, .held] ∧ 16 ≤ (s.laneHw 7).foms.length) := by decide +kernel

theorem meets_LaneTestRowsComplete :
    (let s := (put base (F.LN_PRBS_STAT_STATE 7) 1).putPat 7 { PatternHw.init with own := some 1 }
     s.fld (F.LN_PRBS_STAT_STATE 7) = 1 ∧ (s.pat 7).own.isSome = true) ∧
    (let s := put base (F.LN_PRBS_STAT_STATE 7) 2
     s.fld (F.LN_PRBS_STAT_STATE 7) = 2 ∧ (s.pat 7).own = none) ∧
    (let s : State := { base with
       elapsed := 9
       ln := { base.ln with
         injLeft := [(7, 2)]
         injNext := [(7, 9)] } }
     sget (fun _ => 0) s.ln.injLeft 7 ≠ 0 ∧ sget (fun _ => 0) s.ln.injNext 7 ≤ s.elapsed) ∧
    ((put base (F.LN_STATUS_MODE 7) 3).canonical = true ∧ (put base (F.LN_STATUS_MODE 7) 3).reaches (0x310010 + 0x1000 * 7) ∧
      (put base (F.LN_STATUS_MODE 7) 3).laneRaw 7 = true) ∧ base.canonical = true ∧ base.reaches (0x310010 + 0x1000 * 7) :=
  ⟨by decide, by decide, by decide, ⟨by decide, reaches_of _ _ 1 (by decide), by decide⟩, by decide, reaches_of _ _ 1 (by decide)⟩

/-- Module 1 with its master on and present. -/
def module1 : State := word (word base 0x318100 1#32) 0x318104 1#32

theorem meets_ModuleRowsComplete :
    (module1.canonical = true ∧ module1.flag (F.LN_MOD_CFG_EN 1) = true ∧ module1.flag (F.LN_MOD_CFG_WIDE 0) = false ∧
      ((some 5).any fun r => decide (5 ≤ r)) = true ∧ ((some 4).any fun r => decide (5 ≤ r)) = false ∧
      module1.flag (F.LN_MOD_STATUS_PRESENT 1) = true ∧ (7 : Nat) < 8 ∧ module1.masterOf 7 = 1 ∧ module1.masterOf 3 ≠ 1 ∧
      module1.masterOn 1 = true ∧ (put base (F.LN_MOD_CFG_EN 1) 1).flag (F.LN_MOD_CFG_EN 1) = true ∧
      (put base (F.LN_MOD_CFG_EN 1) 1).flag (F.LN_MOD_STATUS_PRESENT 1) = false) ∧
    module1.reaches (0x31800C + 0x100 * 1) ∧
    ((put base (F.LN_MOD_XSTAT_BUSY 1) 1).canonical = true ∧
      (put base (F.LN_MOD_XSTAT_BUSY 1) 1).flag (F.LN_MOD_XSTAT_BUSY 1) = true) :=
  ⟨by decide, reaches_of _ _ 1 (by decide), by decide⟩

/-- cp3 in a state after `good` good and `bad` bad frames, of a root (CAS_CFG), with ln6 and ln7 in TRACK. -/
def portIn (cfg : Nat) (p : CasPort) (good bad : Nat) : State :=
  let s := word (put (put (put base (F.LN_STATUS_ADAPT 6) 3) (F.LN_STATUS_ADAPT 7) 3) (F.CAS_P_STATUS_STATE 3) p.code)
    0x320000 (BitVec.ofNat 32 cfg)
  { s with cas := { s.cas with
      good := [(3, good)]
      bad := [(3, bad)]
      rejoin := [(3, 1)] } }

/-- A role, and a ring reversal announced for the open tick. -/
def turning (role : Nat) : State :=
  let s := put base F.CAS_CFG_ROLE role
  { s with cas := { s.cas with
      switchAt := some 5
      reverse := true } }

theorem meets_CascadeRowsComplete :
    (∃ s tag c u, Commits s 0x0900 tag c u) ∧ (∃ s tag c u, Starts s 0x0901 tag c u) ∧
    (let d : Discovery := ⟨1, 9, []⟩
     let s : State := { base with
       elapsed := 9
       cas := { base.cas with discover := [d] } }
     s.cas.discover = [d] ∧ d.endsAt ≤ s.elapsed) ∧
    (let s := portIn 0 .up 0 0
     s.replaying = false ∧ s.casPort 3 ≠ .disabled ∧ s.casPort 3 ≠ .retired ∧
       ({ finefBare with fault := true } : FinefFrame).fault = true ∧ finefBare.fault = false ∧ finefBare.crcOk = true ∧
       finefBare.fecOk = true ∧ finefBare.tickno % 2 ^ 32 = tickAdd s.tickno (2 ^ 32 - 1) ∧
       ({ finefBare with tickno := 5 } : FinefFrame).tickno % 2 ^ 32 ≠ tickAdd s.tickno (2 ^ 32 - 1) ∧
       ({ finefBare with crcOk := false } : FinefFrame).crcOk = false) ∧
    (let s := portIn 0x3201 .training 16 0
     s.casPort 3 = .training ∧ 16 ≤ sget (fun _ => 0) s.cas.good 3 ∧ s.bothTrack 3 = true ∧ s.isStandby 3 = true) ∧
    (let s := portIn 0x80001 .down 16 0
     s.casPort 3 = .down ∧ 16 ≤ sget (fun _ => 0) s.cas.good 3 ∧ s.bothTrack 3 = true ∧ s.isStandby 3 = false) ∧
    (let s := portIn 0x80001 .up 0 4
     s.casPort 3 = .up ∧ 4 ≤ sget (fun _ => 0) s.cas.bad 3 ∧ sget (fun _ => 0) s.cas.rejoin 3 ≠ 0 ∧
       sget (fun _ => 0) s.cas.rejoin 3 ≤ s.elapsed + 1) ∧
    (let s := turning 2
     s.cas.switchAt = some 5 ∧ tickAfter 5 s.tickno = false ∧ s.casRole ≠ 1 ∧ s.cas.reverse = true) ∧
    (let s := turning 1
     let u : State := { s with cas := { s.cas with switchAt := none } }
     s.cas.switchAt = some 5 ∧ tickAfter 5 s.tickno = false ∧ u.casRole = 1 ∧ u.canonical = true) :=
  ⟨⟨_, _, _, _, commits_due 0x0900 []⟩, ⟨_, _, _, _, starts_due 0x0901 []⟩, by decide, by decide, by decide, by decide, by decide,
    by decide, by decide⟩

/-- le15 at a word of an opcode with the bits `b` beside it. -/
def engineAt (op b : Nat) (f : Engine → Engine) : State :=
  let s := put base (F.LE_STATUS_STATE 15) 2
  { s with eng := { s.eng with engines := [(15, f { Engine.init with
      pm := [(0, op * 2 ^ 58 + b)]
      tleft := 10 })] } }

theorem meets_EngineArithmeticComplete : (engineAt opCmac 0 id).engReady 15 opCmac (acWord 0) = true ∧
    (engineAt opCmac (2 * 2 ^ 56) id).engReady 15 opCmac (acWord 2) = true ∧ (engineAt opMac4 0 id).engReady 15 opMac4 anyWord = true ∧
    (engineAt opMac (3 * 2 ^ 56) id).engReady 15 opMac (acWord 3) = true ∧ (engineAt opMpy 0 id).engReady 15 opMpy (acWord 0) = true ∧
    (engineAt opAop (2 ^ 56) id).engReady 15 opAop (acWord 1) = true ∧ (engineAt opMova 0 id).engReady 15 opMova (acWord 0) = true ∧ (engineAt opScm 0 id).engReady 15 opScm anyWord = true ∧
    (engineAt opGop 0 id).engReady 15 opGop anyWord = true := by decide

/-- A block move of one word. -/
def oneMove (due : Int) (into : Bool) : Move := ⟨into, .u, 0, 0, 1, due⟩

theorem meets_EngineMovementComplete : (engineAt opNop 0 id).engReady 15 opNop anyWord = true ∧
    (engineAt opLdStG 0 id).engReady 15 opLdStG anyWord = true ∧ (engineAt opLdi 0 id).engReady 15 opLdi anyWord = true ∧
    (engineAt opMovr 0 id).engReady 15 opMovr anyWord = true ∧ regWidth (.g 0) ≤ regWidth (.g 1) ∧
    regWidth (.p 0) < regWidth (.g 0) ∧
    (let s := engineAt opXfer 0 id
     s.engReady 15 opXfer anyWord = true ∧ 0 < 4096 ∧ 4096 ≤ 4096 ∧
       (s.engMoves 15).2.2.clmAllowed 15 ((s.engMoves 15).2.1.g.getD 0 0) (4 * 4096) = true ∧ (s.engMoves 15).2.1.move = none) ∧
    (let s := engineAt opXfer 0 (fun x => { x with move := some (oneMove (-1) true) })
     s.engReady 15 opXfer anyWord = true ∧ (s.engMoves 15).2.2.clmAllowed 15 ((s.engMoves 15).2.1.g.getD 0 0) (4 * 1) = true ∧
       (s.engMoves 15).2.1.move = some (oneMove (-1) true) ∧ (oneMove (-1) true).due < 0) ∧
    (let s := engineAt opXfer 0 (fun x => { x with move := some (oneMove 0 true) })
     s.engReady 15 opXfer anyWord = true ∧ (s.engMoves 15).2.2.clmAllowed 15 ((s.engMoves 15).2.1.g.getD 0 0) (4 * 1) = true ∧
       (s.engMoves 15).2.1.move = some (oneMove 0 true) ∧ 0 ≤ (oneMove 0 true).due) ∧
    (let s := engineAt opWaitx 0 id
     s.engReady 15 opWaitx anyWord = true ∧ (s.engMoves 15).2.1.move = none) ∧
    (let s := engineAt opWaitx 0 (fun x => { x with move := some (oneMove (-1) true) })
     s.engReady 15 opWaitx anyWord = true ∧ (s.engMoves 15).2.1.move = some (oneMove (-1) true)) ∧
    (let s := engineAt opWaitx 0 (fun x => { x with move := some (oneMove 0 true) })
     s.engReady 15 opWaitx anyWord = true ∧ (s.engMoves 15).2.1.move = some (oneMove 0 true)) ∧
    (let s := engineAt opNop 0 (fun x => { x with move := some (oneMove 10 false) })
     s.canonical = true ∧ swf (fun _ => Engine.init) s.eng.engines = true ∧ (s.engine 15).move = some (oneMove 10 false) ∧
       (s.engine 15).tleft ≤ (oneMove 10 false).due ∧ (oneMove 10 false).into = false ∧ (oneMove 10 true).into = true) ∧
    (let s := engineAt opNop 0 (fun x => { x with
       move := some (oneMove 0 true)
       ended := true })
     (s.engine 15).move = some (oneMove 0 true) ∧ 0 ≤ (oneMove 0 true).due ∧ (s.engine 15).ended = true) := by decide +kernel

/-- An engine inside `n` loops that end at word 100. -/
def inLoops (n : Nat) (x : Engine) : Engine :=
  { x with
    lfp := n
    lf := List.replicate 4 (100 * 2 ^ 22) }

theorem meets_EngineControlComplete : (engineAt opBr 0 id).engReady 15 opBr anyWord = true ∧
    (engineAt opCall 0 id).engReady 15 opCall anyWord = true ∧ (engineAt opRet 0 id).engReady 15 opRet anyWord = true ∧
    (engineAt opRti 0 id).engReady 15 opRti anyWord = true ∧
    (let s := engineAt opLoop (15 * 2 ^ 50) id
     s.engReady 15 opLoop anyWord = true ∧ countOf (s.engine 15) (s.engine 15).fetch = 0) ∧
    (let s := engineAt opLoop (15 * 2 ^ 50 + 2 ^ 21) (inLoops 3)
     s.engReady 15 opLoop anyWord = true ∧ 0 < countOf (s.engine 15) (s.engine 15).fetch ∧ (s.engine 15).lfp < 4) ∧
    (let s := engineAt opLoop (15 * 2 ^ 50 + 2 ^ 21) (inLoops 4)
     s.engReady 15 opLoop anyWord = true ∧ 0 < countOf (s.engine 15) (s.engine 15).fetch ∧ 4 ≤ (s.engine 15).lfp) ∧
    (let s := engineAt opLeave 0 (inLoops 1)
     s.engReady 15 opLeave anyWord = true ∧ (s.engine 15).lfp ≠ 0) ∧
    (let s := engineAt opLeave 0 id
     s.engReady 15 opLeave anyWord = true ∧ (s.engine 15).lfp = 0) ∧
    (let s := engineAt opRpt (15 * 2 ^ 50) id
     s.engReady 15 opRpt anyWord = true ∧ countOf (s.engine 15) (s.engine 15).fetch = 0) ∧
    (let s := engineAt opRpt (15 * 2 ^ 50 + 2 ^ 21) id
     s.engReady 15 opRpt anyWord = true ∧ 0 < countOf (s.engine 15) (s.engine 15).fetch) ∧
    (let s := engineAt opTend 0 id
     s.engReady 15 opTend anyWord = true ∧ s.canonical = true ∧ swf (fun _ => Engine.init) s.eng.engines = true) ∧
    (engineAt opDone 5 id).engReady 15 opDone anyWord = true ∧ (engineAt opSwi 0 id).engReady 15 opSwi anyWord = true ∧
    (engineAt opEiDi 0 id).engReady 15 opEiDi (fun w => bitsAt w 54 4 == 0) = true ∧
    (engineAt opEiDi (2 ^ 54) id).engReady 15 opEiDi (fun w => bitsAt w 54 4 == 1) = true ∧
    (engineAt opHalt 0 id).engReady 15 opHalt anyWord = true ∧
    (let s := word (engineAt opNop 0 (fun x => x.setFlag srIE 1)) 0x4F0024 0x1010#32
     s.engActive 15 = true ∧ s.irqSource 15 = some 4 ∧ (s.engine 15).flag srIE = true ∧ (s.engine 15).irq = false ∧
       s.flag (F.LE_STATUS_COMPAT 15) = false) ∧
    (let s := word (word (engineAt opNop 0 (fun x => x.setFlag srIE 1)) 0x4F0024 0x1010#32) 0x4F0000 0x12#32
     s.engActive 15 = true ∧ s.irqSource 15 = some 4 ∧ (s.engine 15).flag srIE = true ∧ (s.engine 15).irq = false ∧
       s.flag (F.LE_STATUS_COMPAT 15) = true ∧ (s.engine 15).slots = 0 ∧ (s.engine 15).loads = [] ∧ (s.engine 15).rpc = 0) := by decide +kernel

theorem meets_StraightLineAdvancesPc : base.canonical = true ∧ swf (fun _ => Engine.init) base.eng.engines = true ∧
    Engine.init.loads = [] ∧ Engine.init.slots = 0 ∧ Engine.init.reps = false ∧
    ({ Engine.init with pc := 8191 } : Engine).atLoopEnd = false ∧ (15 : Nat) < 16 ∧ 8191 < 8192 := by decide

/-- Channel 15 in RUN with descriptor access `f`, a descriptor, `g` source bytes read and bytes to write. -/
def channelAt (f : DmaFetch) (pre : Bool) (d : List Byte) (g : Nat) (buf : List Byte) : State :=
  let s := put base (F.DMA_CH_STATUS_STATE 15) 1
  { s with dma := { s.dma with chans := [(15, { DmaChan.init with
      desc := d
      fetch := f
      preWait := pre
      got := g
      buf := buf })] } }

theorem meets_DmaCommandsComplete :
    (∃ s tag c u, Starts s 0x0E00 tag c u ∧ ctxDmaSubmit u c = none ∧ leAt c.payload 1 1 % 2 = 1) ∧
    (∃ s tag c u, Starts s 0x0E00 tag c u ∧ ctxDmaSubmit u c = none ∧ leAt c.payload 1 1 % 2 = 0) ∧
    (let s : State := { base with
       elapsed := 3840007
       dma := { base.dma with waits := [(15, 1, 7)] } }
     s.dma.waits.find? (fun w => w.2.1 == 1) = some (15, 1, 7) ∧ 7 + 3840000 ≤ s.elapsed) ∧
    (base.reaches (0x8010C + 0x40 * 15) ∧ base.dmaHeld 15 = false ∧ base.dmaSt 15 = .idle ∧
      (put base (F.DMA_CH_STATUS_STATE 15) 1).dmaSt 15 = .run ∧ (put base (F.DMA_CH_STATUS_STATE 15) 1).dmaHeld 15 = false ∧
      (put base (F.DMA_CH_STATUS_STATE 15) 3).dmaSt 15 = .ended ∧ (put base (F.DMA_CH_STATUS_STATE 15) 3).dmaHeld 15 = false ∧
      ((put base (F.DMA_CH_STATUS_STATE 15) 3).dmaChan 15).fetch ≠ .ctrl ∧
      (word (channelAt .ctrl false [] 0 []) (F.DMA_CH_STATUS_STATE 15).addr 3#32).dmaSt 15 = .ended ∧
      ((word (channelAt .ctrl false [] 0 []) (F.DMA_CH_STATUS_STATE 15).addr 3#32).dmaChan 15).fetch = .ctrl) ∧
    (base.reaches (0x80100 + 0x40 * 15) ∧ base.canonical = true ∧ (put base (F.DMA_CH_STATUS_STATE 15) 4).dmaSt 15 = .error) :=
  ⟨⟨_, _, _, _, starts_due 0x0E00 [15, 1], by decide, by decide⟩, ⟨_, _, _, _, starts_due 0x0E00 [15, 0], by decide, by decide⟩,
    by decide, ⟨reaches_of _ _ 1 (by decide), by decide⟩, ⟨reaches_of _ _ 1 (by decide), by decide⟩⟩

/-- The descriptor of section 14, and one without EOC whose NEXT is its own place, 0. -/
def selfNext : List Byte := leBytes 4 0x00420418 ++ unalignedCopy.drop 4

/-- The descriptor of section 14 without its CRC. -/
def backCopy : List Byte := leBytes 4 0x00420409 ++ unalignedCopy.drop 4

theorem meets_DmaEventsComplete :
    (let s := channelAt .none false unalignedCopy 100 [1]
     s.dma.freeWr ≤ 0 ∧ nextGrant s.dma.lastWr (s.writeReady 0) = some 15 ∧ (s.dmaChan 15).crcDue = false) ∧
    (let s := channelAt .none false unalignedCopy 100 []
     s.dma.freeWr ≤ 0 ∧ nextGrant s.dma.lastWr (s.writeReady 0) = some 15 ∧ (s.dmaChan 15).crcDue = true) ∧
    (let s := channelAt .none false unalignedCopy 99 []
     s.dma.freeRd ≤ 0 ∧ nextGrant s.dma.lastRd (s.readReady 0) = some 15 ∧ (s.dmaChan 15).backDue = false) ∧
    (let s := channelAt .none false backCopy 100 []
     s.dma.freeRd ≤ 0 ∧ nextGrant s.dma.lastRd (s.readReady 0) = some 15 ∧ (s.dmaChan 15).backDue = true) ∧
    (0 < ({ base.dma with freeRd := 1 } : DmaState).freeRd ∧ 0 < ({ base.dma with freeWr := 1 } : DmaState).freeWr) ∧
    (let s := channelAt .whole false [] 0 []
     s.dmaLive 15 = true ∧ unalignedCopy.length = 32 ∧ (s.dmaChan 15).fetch = .whole) ∧
    (let s := channelAt .none true [] 0 []
     s.dmaLive 15 = true ∧ (s.dmaChan 15).fetch = .none ∧ (s.dmaChan 15).preWait = true) ∧
    (let s := channelAt .ctrl false [] 0 []
     s.dmaLive 15 = true ∧ (s.dmaChan 15).fetch = .ctrl) ∧
    (let s := word (channelAt .ctrl false [] 0 []) (F.DMA_CH_STATUS_STATE 15).addr 3#32
     s.dmaSt 15 = .ended ∧ (s.dmaChan 15).fetch = .ctrl) ∧
    (descEoc selfNext = false ∧ descNext selfNext = base.dmaCur 15) ∧
    (descEoc unalignedCopy = true ∧ descOk unalignedCopy = true ∧ base.spaceReady (descSrcSpace unalignedCopy) = true ∧
      base.spaceReady (descDstSpace unalignedCopy) = true) ∧
    (descEoc (leBytes 4 0x00420481 ++ unalignedCopy.drop 4) = true ∧ descOk (leBytes 4 0x00420481 ++ unalignedCopy.drop 4) = false) ∧
    (let s := channelAt .none false unalignedCopy 100 []
     s.dmaLive 15 = true ∧ (s.dmaChan 15).fetch = .none ∧ (s.dmaChan 15).desc ≠ [] ∧ (s.dmaChan 15).buf = [] ∧
       descLen (s.dmaChan 15).desc ≤ (s.dmaChan 15).got ∧ s.flag (F.DMA_CH_STATUS_REREAD 15) = false ∧
       descEoc (s.dmaChan 15).desc = true) ∧
    (let s := word (channelAt .none false selfNext 100 []) (F.DMA_CH_STATUS_STATE 15).addr
       (BitVec.ofNat 32 (1 + 2 ^ (F.DMA_CH_STATUS_REREAD 15).lo))
     s.dmaLive 15 = true ∧ s.flag (F.DMA_CH_STATUS_REREAD 15) = true ∧ descEoc (s.dmaChan 15).desc = false) ∧
    (let s := channelAt .none false unalignedCopy 0 []
     ((s.addFld (F.DMA_CH_TIMEOUTS_COUNT 15) 1).raiseFree 0xC001 (srcDma 15) sevWarning).fld (F.DMA_CH_ERR_RETRIES 15) < 2) ∧
    (let s := put (channelAt .none false unalignedCopy 0 []) (F.DMA_CH_ERR_RETRIES 15) 2
     2 ≤ ((s.addFld (F.DMA_CH_TIMEOUTS_COUNT 15) 1).raiseFree 0xC001 (srcDma 15) sevWarning).fld (F.DMA_CH_ERR_RETRIES 15)) ∧
    (let s := put base (F.DMA_CH_STATUS_STATE 15) 2
     s.dmaSt 15 = .retry ∧ s.flag (F.DMA_CH_STATUS_PAUSED 15) = false ∧ (s.dmaChan 15).backOff = 0) ∧ base.canonical = true ∧ (15 : Nat) < 16 := by
  decide +kernel

theorem meets_ClockCommandsComplete :
    (∃ s tag c u, Starts s 0x0300 tag c u ∧ c.op = 0) ∧ (∃ s tag c u, Starts s 0x0300 tag c u ∧ c.op = 1) ∧
    (∃ s tag c u, Commits s 0x0301 tag c u) ∧
    (∃ s tag c u, Commits s 0x0202 tag c u ∧ c.op = u.fld F.CLK_STATUS_OP) ∧
    (∃ s tag c u, Commits s 0x0202 tag c u ∧ c.op ≠ u.fld F.CLK_STATUS_OP) ∧
    (∃ o, ({ base with clk := { base.clk with opChange := some ⟨1, 5, true⟩ } } : State).clk.opChange = some o ∧ o.applied = true ∧
      tickAfter o.rampEnd base.tickno = false) ∧
    (∃ s tag c u, Commits s 0x0203 tag c u ∧ c.op = 0) ∧
    (∃ s tag c u, Commits s 0x0203 tag c u ∧ c.op = 0 ∧
      ((gateMask c).filter (fun n => !u.gateRetired n)).filter (fun n => u.gateOpen n &&
        ((gateMask c).filter (fun n => !u.gateRetired n)).any (fun m => [4].contains m && (gateAncestors m).contains n)) ≠ []) ∧
    (∃ s tag c u, Commits s 0x0203 tag c u ∧ c.op = 1) ∧
    (∃ k : Commit, k.changes = [.gateClose (gateMask (cmd 0x0203 [0, 0, 0, 0, 16])) [4]]) ∧
    (let ns := gateMask (cmd 0x0203 [0, 0, 0, 0, 16])
     let stuck := fun (busy : List Nat) => ns.filter (fun n => base.gateOpen n && ns.any (fun m => busy.contains m && (gateAncestors m).contains n))
     stuck [] = [] ∧ stuck [4] ≠ []) ∧
    (base.reaches 0x2000C ∧ base.tickMode = .stopped ∧ (put base F.TCK_STATUS_STATE 1).reaches 0x2000C ∧
      (put base F.TCK_STATUS_STATE 1).tickMode ≠ .stopped ∧ (put base F.TCK_STATUS_STATE 1).safeBy safeRef = false) :=
  ⟨⟨_, _, _, _, starts_due 0x0300 [0], by decide⟩, ⟨_, _, _, _, starts_due 0x0300 [1], by decide⟩, ⟨_, _, _, _, commits_due 0x0301 []⟩,
    ⟨_, _, _, _, commits_due 0x0202 [2], by decide +kernel⟩, ⟨_, _, _, _, commits_due 0x0202 [1], by decide +kernel⟩,
    ⟨_, rfl, by decide, by decide⟩, ⟨_, _, _, _, commits_due 0x0203 [0], by decide⟩,
    ⟨_, _, _, _, commits_due 0x0203 [0, 0, 0, 0, 16], by decide, by decide +kernel⟩,
    ⟨_, _, _, _, commits_due 0x0203 [1], by decide⟩,
    ⟨⟨9, 4, .command, [], [.gateClose (gateMask (cmd 0x0203 [0, 0, 0, 0, 16])) [4]], [], [], []⟩, rfl⟩, by decide +kernel,
    ⟨reaches_of _ _ 1 (by decide), by decide, reaches_of _ _ 1 (by decide), by decide⟩⟩

/-- A loop in a state after `n` attempts. -/
def loopIn (l st n : Nat) : State :=
  let s := put base (F.CLK_LOOP_STATUS_STATE l) st
  { s with clk := { s.clk with
      attempts := [(l, n)]
      bands := (List.range 64).map (fun b => (64 * l + b, if b = 3 then 15000000 else 0)) } }

theorem meets_LoopAndSafeRowsComplete :
    (loopIn 7 2 2).loop 7 = .locking ∧ (loopIn 5 2 0).loop 5 = .locking ∧ 2 ≤ sget (fun _ => 0) (loopIn 7 2 2).clk.attempts 7 ∧
    (sget (fun _ => 0) (loopIn 7 2 1).clk.attempts 7 < 2 ∧
      ((loopIn 7 2 1).nearestBand 7 (some ((loopIn 7 2 1).fld (F.CLK_LOOP_STATUS_BAND 7)))).isSome = true) ∧
    ((loopIn 7 3 0).loop 7 = .locked ∧ (loopIn 7 3 0).refPresent 7 = true) ∧ base.pwr.off = false ∧
    (put base F.CLK_CFG_MON_LANE 1).flag F.CLK_CFG_MON_LANE = true ∧
    (base.canonical = true ∧ (2 : Nat) < 3 ∧ bitAt (base.fld F.CLK_STATUS_SAFE_SRC) 2 = false) ∧
    (let s := (base.trip 0).trip 2
     s.canonical = true ∧ s.mon = .safe ∧ bitAt (s.fld F.CLK_STATUS_SAFE_SRC) 2 = true ∧
       s.fld F.CLK_STATUS_SAFE_SRC ≠ 2 ^ 2) := by decide +kernel

/-- Snowdrop at the first entry of a table of one channel, or at an urgent conversion. -/
def converting (ch bits : Nat) : State :=
  let s := put base F.HK_STATUS_URGENT_BUSY 0
  let s := word s F.HK_STATUS_URGENT_BUSY.addr (BitVec.ofNat 32 bits)
  { s with hk := { s.hk with table := [⟨ch, 1, 0, 0⟩] } }

theorem meets_HousekeepingRowsComplete :
    (let s := put (converting 25 (2 ^ F.HK_STATUS_URGENT_BUSY.lo)) F.HK_URGENT_CHANNEL 35
     s.hk.newTable = none ∧ s.flag F.HK_STATUS_URGENT_BUSY = true ∧ s.fld F.HK_URGENT_CHANNEL < 36 ∧ s.canonical = true) ∧
    (let s := converting 48 (2 ^ F.HK_STATUS_TABLE_RUN.lo)
     s.flag F.HK_STATUS_URGENT_BUSY = false ∧ s.flag F.HK_STATUS_TABLE_RUN = true ∧
       s.convertible (s.seqEntry (s.fld F.HK_SEQ_CFG_POS)).channel = false) ∧
    (let s := converting 47 (2 ^ F.HK_STATUS_TABLE_RUN.lo)
     let e := s.seqEntry (s.fld F.HK_SEQ_CFG_POS)
     s.hk.newTable = none ∧ s.flag F.HK_STATUS_URGENT_BUSY = false ∧ s.flag F.HK_STATUS_TABLE_RUN = true ∧
       s.convertible e.channel = true ∧ s.openWire e.channel 0 = false ∧ s.hk.fifo.length < 256 ∧ s.hk.owed < e.repeats) ∧
    (base.canonical = true ∧ base.reaches 0x60020 ∧ base.flag F.HK_STATUS_URGENT_BUSY = false) ∧
    (base.canonical = true ∧ base.reaches 0x6001C) ∧
    (∃ s tag c u, Starts s 0x0A02 tag c u ∧ u.flag F.HK_STATUS_URGENT_BUSY = false ∧ u.flag F.HK_STATUS_TABLE_RUN = false) ∧
    (∃ s tag c u, Starts s 0x0A02 tag c u ∧ u.flag F.HK_STATUS_TABLE_RUN = true) :=
  ⟨by decide +kernel, by decide +kernel, by decide +kernel, ⟨by decide, reaches_of _ _ 1 (by decide), by decide⟩,
    ⟨by decide, reaches_of _ _ 1 (by decide)⟩, ⟨_, _, _, _, starts_due 0x0A02 [], by decide, by decide⟩,
    ⟨_, _, _, _, starts_alone (put base F.HK_STATUS_TABLE_RUN 1) (cmd 0x0A02 []) (by decide), by decide⟩⟩

theorem meets_HkFifoKeepsOrderAndGaps : base.canonical = true ∧ base.hk.fifo.length < 256 ∧
    256 ≤ ({ base.hk with fifo := List.replicate 256 ⟨0, 0, 0, false⟩ } : HkState).fifo.length ∧
    ({ base.hk with fifo := [⟨63, 255, 2 ^ 16 - 1, true⟩] } : HkState).fifo = ⟨63, 255, 2 ^ 16 - 1, true⟩ :: [] ∧ (63 : Nat) < 64 ∧
    (255 : Nat) < 256 ∧ base.hk.fifo = [] := by decide +kernel

/-- One attempt, by its key, and the tick count. -/
def attempt (k n : Nat) (e : CalEntry) : State := { base with
  elapsed := n
  cal := { base.cal with
    entries := [(k, e)]
    commands := [⟨1, [k], 7, 0, 0, 0⟩] } }

theorem meets_CalibrationRowsComplete :
    (∃ s tag c u, Starts s 0x0A00 tag c u) ∧
    (∃ c, (attempt 0 3840007 CalEntry.init).cal.commands.find? (fun c => c.tag == 1) = some c ∧
      c.started + 3840000 ≤ (attempt 0 3840007 CalEntry.init).elapsed) ∧
    (∃ s tag c u, Starts s 0x0A01 tag c u ∧ u.canonical = true ∧ leAt c.payload 0 1 < 6) ∧
    (let s := attempt 0 0 { CalEntry.init with
       phase := .due
       fore := true }
     s.calReady 0 = true ∧ s.cal.entries.all (fun e => e.1 == 0 || !(s.calReady e.1 && s.calBefore e.1 0)) = true) ∧
    (let s := attempt 24575 0 { CalEntry.init with
       phase := .running
       runs := [[0], [1]] }
     (s.calEntry 24575).phase = .running ∧ calItem 24575 ≠ 0 ∧ (s.calEntry 24575).runs = [[0], [1]] ∧
       runsAgree (calItem 24575) (s.calEntry 24575).scale [1] [0] = true ∧
       runsAgree (calItem 24575) (s.calEntry 24575).scale [1] [100000] = false ∧
       runsAgree (calItem 24575) (s.calEntry 24575).scale [0] [100000] = false) ∧
    (let s := attempt 24575 384007 { CalEntry.init with
       phase := .holdoff
       since := 7 }
     (s.calEntry 24575).phase = .holdoff ∧ (s.calEntry 24575).since + 384000 ≤ s.elapsed) ∧
    (let s := attempt 24575 3840007 { CalEntry.init with
       phase := .due
       since := 7 }
     (s.calEntry 24575).phase = .due ∧ (s.calEntry 24575).since + 3840000 ≤ s.elapsed ∧ (s.calEntry 24575).starved = false ∧
       s.calReady 24575 = false) :=
  ⟨⟨_, _, _, _, starts_due 0x0A00 []⟩, ⟨_, rfl, by decide⟩, ⟨_, _, _, _, starts_due 0x0A01 [5], by decide, by decide⟩,
    by decide +kernel, by decide +kernel, by decide +kernel, by decide +kernel⟩

/-! Signed objects that pass R569 -/

/-- A signed object of Table 21-1 in slot 0, its key and signature bytes zeros: head, digest, the rest, body and signatures. -/
def signedHead (kind ver n : Nat) : List Byte := leBytes 4 0x4B524C02 ++ (leBytes 1 kind ++ ([0, 0, 0] ++ (leBytes 4 n ++ leBytes 4 ver)))

def signedObject (kind ver : Nat) (body : List Byte) : List Byte :=
  signedHead kind ver body.length ++ (sha384 body ++ (List.replicate 448 0 ++ (body ++ List.replicate 16608 0)))

/-- Slot 0 with the hash of keys. -/
def keyBytes : List Byte := List.replicate 436 0

def withHash (s : State) (h : List Byte) : State := { s with sec := { s.sec with keyHash := [(0, h)] } }

theorem signedHead_length (kind ver n : Nat) : (signedHead kind ver n).length = 16 := by simp [signedHead]

theorem signedObject_length (kind ver : Nat) (body : List Byte) : (signedObject kind ver body).length = 17120 + body.length := by
  simp only [signedObject, List.length_append, signedHead_length, sha384_length, List.length_replicate]
  omega

theorem leAt_head (kind ver : Nat) (body : List Byte) (off n : Nat) (h : off + n ≤ 16) :
    leAt (signedObject kind ver body) off n = leAt (signedHead kind ver body.length) off n := by
  unfold leAt signedObject
  rw [slice_left (by rw [signedHead_length]; exact h)]

theorem signed_kind (kind ver : Nat) (body : List Byte) (h : kind < 256) : objKind (signedObject kind ver body) = kind := by
  unfold objKind
  rw [leAt_head _ _ _ _ _ (by omega)]
  unfold leAt signedHead
  rw [slice_right (by simp), slice_left (by simp)]
  simp [slice, leBytes, leValue]
  omega

theorem signed_len (kind ver : Nat) (body : List Byte) (h : body.length < 2 ^ 32) :
    objLen (signedObject kind ver body) = body.length := by
  unfold objLen
  rw [leAt_head _ _ _ _ _ (by omega)]
  unfold leAt signedHead
  rw [slice_right (by simp), slice_right (by simp), slice_right (by simp), slice_left (by simp)]
  simp only [leBytes_length, List.length_cons, List.length_nil]
  rw [show slice (leBytes 4 body.length) (8 - 4 - 1 - (0 + 1 + 1 + 1)) 4 = leBytes 4 body.length from by simp [slice, leBytes]]
  rw [leValue_leBytes]
  omega

theorem signed_body (kind ver : Nat) (body : List Byte) (h : body.length < 2 ^ 32) :
    objBody (signedObject kind ver body) = body := by
  unfold objBody
  rw [signed_len _ _ _ h]
  unfold signedObject
  rw [slice_right (by rw [signedHead_length]; omega), slice_right (by rw [signedHead_length, sha384_length]; omega),
    slice_right (by rw [signedHead_length, sha384_length, List.length_replicate] <;> omega)]
  simp only [signedHead_length, sha384_length, List.length_replicate]
  exact slice_whole rfl

theorem signed_digest (kind ver : Nat) (body : List Byte) : slice (signedObject kind ver body) 16 48 = sha384 body := by
  unfold signedObject
  rw [slice_right (by simp [signedHead_length]), signedHead_length]
  exact slice_whole (by simp)

theorem signed_keys (kind ver : Nat) (body : List Byte) (off n : Nat) (h : 64 ≤ off) (hn : off + n ≤ 512) :
    slice (signedObject kind ver body) off n = List.replicate n 0 := by
  unfold signedObject
  rw [slice_right (by rw [signedHead_length]; omega), slice_right (by rw [signedHead_length, sha384_length]; omega),
    slice_left (by rw [signedHead_length, sha384_length, List.length_replicate]; omega)]
  simp only [signedHead_length, sha384_length, slice, List.drop_replicate, List.take_replicate]
  congr 1
  omega

theorem signed_passes (s : State) (kind ver : Nat) (body : List Byte) (hk : kind < 4) (hb : bodyLenOk kind body.length = true)
    (hl : body.length < 2 ^ 32) (hv : kind < 2 ∨ ver = 0) (ha : s.sec.arc = 0) (h0 : s.keySlot 0 = .programmed)
    (hc : s.slotHash 0 = sha384 keyBytes) (hr : kind = 2 → s.recordOk (signedObject kind ver body) = true)
    (ht : kind = 3 → s.tokenOk (signedObject kind ver body) = true) :
    s.kindReason kind (signedObject kind ver body) ⟨true, true⟩ = none := by
  have k := signed_kind kind ver body (by omega)
  have m : leAt (signedObject kind ver body) 0 4 = 0x4B524C02 := by
    rw [leAt_head _ _ _ _ _ (by omega)]
    unfold leAt signedHead
    rw [slice_whole (by simp)]
    exact (leValue_leBytes _ _).trans (by decide)
  have z : ∀ i, i = 5 ∨ i = 6 ∨ i = 7 → leAt (signedObject kind ver body) i 1 = 0 := by
    intro i hi
    rw [leAt_head _ _ _ _ _ (by omega)]
    unfold leAt signedHead
    rw [slice_right (by simp; omega), slice_right (by simp; omega), slice_left (by simp; omega)]
    rcases hi with rfl | rfl | rfl <;> simp [slice, leValue]
  have w : kind < 2 ∨ objVersion (signedObject kind ver body) = 0 := by
    rcases hv with h | rfl
    · exact .inl h
    · right
      unfold objVersion
      rw [leAt_head _ _ _ _ _ (by omega)]
      unfold leAt signedHead
      rw [slice_right (by simp), slice_right (by simp), slice_right (by simp), slice_right (by simp)]
      simp [slice, leBytes, leValue]
  have f : objFormOk (signedObject kind ver body) = true := by
    have y : leAt (signedObject kind ver body) 500 12 = 0 := by
      unfold leAt
      rw [signed_keys _ _ _ _ _ (by omega) (by omega)]
      rfl
    simp only [objFormOk, k, m, signed_len _ _ _ hl, signedObject_length, hb, y, zeroAt, objSvn, z 7 (by simp), z 6 (by simp),
      Bool.and_eq_true, decide_eq_true_eq, Bool.or_eq_true, beq_self_eq_true, and_true, true_and]
    exact ⟨⟨hk, by omega⟩, w.imp_right (by simp [·])⟩
  have d : slice (signedObject kind ver body) 64 436 = keyBytes := signed_keys _ _ _ _ _ (by omega) (by omega)
  unfold State.kindReason
  rw [if_pos k]
  unfold State.objReason
  simp only [f, objSlot, z 5 (by simp), maySign, ownerSlot, d, hc, h0, ha,
    signed_body _ _ _ hl, signed_digest, objSvn, z 6 (by simp), k]
  simp
  exact ⟨hr, ht⟩

theorem stagedBytes_whole (bs : List Byte) : ∀ ctr i, stagedBytes ((List.range' i bs.length).zip bs) ctr bs.length i = bs := by
  induction bs with
  | nil => intro _ _; rfl
  | cons b r ih =>
    intro ctr i
    simp only [List.length_cons, List.range'_succ, List.zip_cons_cons, stagedBytes, if_true, ih]

/-- A table of staged bytes that holds an object whole. -/
def tableOf (b : List Byte) : List (Nat × Byte) := (List.range' 0 b.length).zip b

theorem tableOf_bytes (b : List Byte) (ctr : Nat) : stagedBytes (tableOf b) ctr b.length 0 = b := stagedBytes_whole b ctr 0

/-- A device that stages an object for SEC_INSTALL_IMAGE, or a token after a challenge. -/
def staging (h : List Byte) (kind : Nat) (b : List Byte) : State :=
  let s := withHash base h
  { s with sec := { s.sec with staging := some ⟨kind, b.length, tableOf b⟩ } }

def challenged (h : List Byte) (ch b : List Byte) : State :=
  let s := withHash base h
  { s with sec := { s.sec with
      challenge := some ch
      token := tableOf b
      tokenLen := b.length } }

/-- What SEC_INSTALL_COMMIT checks its object in. -/
def installing (h : List Byte) (kind : Nat) (b : List Byte) : State := started (staging h kind b) (cmd 0x0D02 [2])
def installed (h : List Byte) (kind : Nat) (b : List Byte) : State :=
  { (installing h kind b).setStaging none with freeCtr := (installing h kind b).freeCtr + b.length }

theorem install_passes (kind ver : Nat) (body : List Byte) (h : List Byte) (hh : h = sha384 keyBytes) (hk : kind < 3)
    (hb : bodyLenOk kind body.length = true) (hl : body.length < 2 ^ 32) (hv : kind < 2 ∨ ver = 0)
    (hr : kind = 2 → (installed h kind (signedObject kind ver body)).recordOk (signedObject kind ver body) = true) :
    ∃ g, (installing h kind (signedObject kind ver body)).sec.staging = some g ∧ g.kind = kind ∧
      (installed h kind (signedObject kind ver body)).kindReason g.kind
        (stagedBytes g.data (installing h kind (signedObject kind ver body)).freeCtr g.length 0) ⟨true, true⟩ = none := by
  refine ⟨⟨kind, (signedObject kind ver body).length, tableOf (signedObject kind ver body)⟩, rfl, rfl, ?_⟩
  show State.kindReason _ kind (stagedBytes (tableOf _) _ (signedObject kind ver body).length 0) _ = none
  rw [tableOf_bytes]
  exact signed_passes _ kind ver body (by omega) hb hl hv rfl rfl hh hr (fun e => by omega)

/-- A key record that programs slot 4. -/
def addKey : List Byte := [0, 4, 0, 0] ++ List.replicate 48 0

theorem addKey_ok (h : List Byte) : (installed h 2 (signedObject 2 0 addKey)).recordOk (signedObject 2 0 addKey) = true := by
  unfold State.recordOk
  rw [signed_body _ _ _ (by decide)]
  rfl

/-- Both firmware slots hold an object that the boot ROM has found good. -/
def bothSlots : State := { base with sec := { base.sec with rom := ⟨true, 0, ⟨true, 0, 0, 0⟩, ⟨true, 0, 0, 0⟩⟩ } }

theorem meets_SecurityObjectsComplete :
    (∃ s tag c u, Starts s 0x0104 tag c u ∧ u.fwReason (1 - u.sec.active) ⟨true, true⟩ = none ∧
      u.fwReason (1 - u.sec.active) ⟨true, false⟩ = some 6) ∧
    (∃ s tag c u, Starts s 0x0D02 tag c u ∧ c.op = 0) ∧
    (∃ s tag c u g, Starts s 0x0D02 tag c u ∧ c.op = 1 ∧ u.sec.staging = some g ∧
      leAt c.payload 4 4 + (c.payload.drop 8).length ≤ g.length) ∧
    (∀ kind ver body, (kind, ver, body) ∈ [(0, 0, []), (1, 0, []), (2, 0, addKey)] → ∀ h, h = sha384 keyBytes →
      Starts (holding (staging h kind (signedObject kind ver body)) (cmd 0x0D02 [2])) 0x0D02 1 (cmd 0x0D02 [2])
        (installing h kind (signedObject kind ver body)) ∧
      (∃ g, (installing h kind (signedObject kind ver body)).sec.staging = some g ∧ g.kind = kind ∧
        (installed h kind (signedObject kind ver body)).kindReason g.kind
          (stagedBytes g.data (installing h kind (signedObject kind ver body)).freeCtr g.length 0) ⟨true, true⟩ = none) ∧
      (installed h kind (signedObject kind ver body)).kernelPlace (signedObject kind ver body) = some 0) ∧
    (∃ s tag c u g, Starts s 0x0D02 tag c u ∧ c.op = 2 ∧ u.sec.staging = some g ∧
      (u.setStaging none).kindReason g.kind (stagedBytes g.data u.freeCtr g.length 0) ⟨true, true⟩ = some 1) ∧
    (∃ s tag c u, Starts s 0x0D00 tag c u ∧ c.op = 0) ∧ (∃ s tag c u, Starts s 0x0D00 tag c u ∧ c.op = 1) ∧
    (∃ s tag c u, Starts s 0x0D00 tag c u ∧ c.op = 2) ∧
    (let s : State := { base with sec := { base.sec with recovery := true } }
     s.reaches 0xA0034 ∧ s.reaches 0xA0030 ∧ s.sec.recovery = true ∧ s.kindReason 0 s.sec.recovBuf ⟨true, true⟩ = some 1 ∧
       s.canonical = true) ∧
    ∀ h, h = sha384 keyBytes →
      let s := withHash base h
      let t : State := { s with sec := { s.sec with
        recovery := true
        recovBuf := signedObject 0 0 [] } }
      t.reaches 0xA0030 ∧ t.sec.recovery = true ∧ t.kindReason 0 t.sec.recovBuf ⟨true, true⟩ = none ∧ t.canonical = true := by
  refine ⟨⟨_, _, _, _, starts_alone bothSlots (cmd 0x0104 []) (by decide), by decide, by decide⟩, ⟨_, _, _, _, starts_due 0x0D02 [0], by decide⟩,
    ⟨_, _, _, _, ⟨0, 1, []⟩, starts_alone { base with sec := { base.sec with staging := some ⟨0, 1, []⟩ } }
      (cmd 0x0D02 [1, 0, 0, 0, 0, 0, 0, 0, 9]) (by decide), by decide, rfl, by decide⟩, ?_,
    ⟨_, _, _, _, ⟨0, 0, []⟩, starts_alone { base with sec := { base.sec with staging := some ⟨0, 0, []⟩ } } (cmd 0x0D02 [2]) (by decide),
      by decide, rfl, by decide⟩,
    ⟨_, _, _, _, starts_due 0x0D00 [0], by decide⟩, ⟨_, _, _, _, starts_due 0x0D00 [1], by decide⟩,
    ⟨_, _, _, _, starts_due 0x0D00 [2], by decide⟩,
    ⟨reaches_of _ _ 1 (by decide), reaches_of _ _ 1 (by decide), rfl, by decide, by decide⟩, ?_⟩
  · intro kind ver body hm h hh
    refine ⟨starts_alone _ _ (show tickAfter 0 base.tickno = false by decide), ?_, rfl⟩
    simp only [List.mem_cons, List.not_mem_nil, or_false, Prod.mk.injEq] at hm
    rcases hm with ⟨rfl, rfl, rfl⟩ | ⟨rfl, rfl, rfl⟩ | ⟨rfl, rfl, rfl⟩
    · exact install_passes 0 0 [] h hh (by omega) rfl (by decide) (.inl (by omega)) (by omega)
    · exact install_passes 1 0 [] h hh (by omega) rfl (by decide) (.inl (by omega)) (by omega)
    · exact install_passes 2 0 addKey h hh (by omega) rfl (by decide) (.inr rfl) (fun _ => addKey_ok h)
  · intro h hh
    exact ⟨(show base.reaches 0xA0030 from reaches_of _ _ 1 (by decide)), rfl,
      signed_passes _ 0 0 [] (by omega) rfl (by decide) (.inl (by omega)) rfl rfl hh (by omega) (by omega), base_canonical⟩

/-- A token for this device and the challenge of 32 bytes 7: scope INJECT, one second. -/
def aToken : List Byte := leBytes 16 Config.deviceId ++ (List.replicate 32 7 ++ [1, 0, 0, 0, 1, 0, 0, 0])

def submitting (h b : List Byte) : State := started (challenged h (List.replicate 32 7) b) (cmd 0x0D01 [2])

theorem submitting_bytes (h b : List Byte) :
    stagedBytes (submitting h b).sec.token (submitting h b).freeCtr (submitting h b).sec.tokenLen 0 = b := tableOf_bytes b _

theorem submitting_fields (h b : List Byte) : (submitting h b).sec.arc = 0 ∧ (submitting h b).keySlot 0 = .programmed ∧
    (submitting h b).slotHash 0 = h ∧ (submitting h b).sec.challenge = some (List.replicate 32 7) := ⟨rfl, rfl, rfl, rfl⟩

theorem aToken_ok (s : State) (h : s.sec.challenge = some (List.replicate 32 7)) : s.tokenOk (signedObject 3 0 aToken) = true := by
  have l : (leBytes 16 Config.deviceId).length = 16 := leBytes_length _ _
  have a : leValue (slice aToken 0 16) = Config.deviceId % 2 ^ 128 := by
    unfold aToken
    rw [slice_whole l.symm]
    exact (leValue_leBytes _ _).trans (congrArg (Config.deviceId % ·) (by decide))
  have r : ∀ off n, 16 ≤ off → slice aToken off n = slice (List.replicate 32 7 ++ [1, 0, 0, 0, 1, 0, 0, 0]) (off - 16) n := by
    intro off n ho
    unfold aToken
    rw [slice_right (by rw [l]; exact ho), l]
  unfold State.tokenOk
  rw [signed_body _ _ _ (by simp [aToken])]
  simp only [a, h, zeroAt, leAt, r 16 32 (by omega), r 48 1 (by omega), r 49 3 (by omega), r 52 4 (by omega), beq_self_eq_true,
    Bool.true_and]
  rfl

theorem submit_passes (h : List Byte) (hh : h = sha384 keyBytes) :
    (submitting h (signedObject 3 0 aToken)).kindReason 3 (stagedBytes (submitting h (signedObject 3 0 aToken)).sec.token
      (submitting h (signedObject 3 0 aToken)).freeCtr (submitting h (signedObject 3 0 aToken)).sec.tokenLen 0) ⟨true, true⟩ = none := by
  obtain ⟨fa, fk, fh, fc⟩ := submitting_fields h (signedObject 3 0 aToken)
  rw [submitting_bytes]
  exact signed_passes _ 3 0 aToken (by omega) (by simp [bodyLenOk, aToken]) (by simp [aToken]) (.inr rfl) fa fk (fh.trans hh) (by omega)
    (fun _ => aToken_ok _ fc)

/-- A maintenance unlock in force, or a challenge out. -/
def unlockedAs (u : Nat) : State := put base F.SEC_STATUS_UNLOCK u

theorem meets_UnlockRowsComplete :
    (∃ s tag c u, Starts s 0x0D01 tag c u ∧ c.op = 0 ∧ (List.replicate 32 (7 : Byte)).length = 32 ∧ u.fld F.SEC_STATUS_UNLOCK ≠ 2) ∧
    (∃ s tag c u, Starts s 0x0D01 tag c u ∧ c.op = 0 ∧ u.fld F.SEC_STATUS_UNLOCK = 2) ∧
    (∃ s tag c u, Starts s 0x0D01 tag c u ∧ c.op = 1) ∧
    (∀ h, h = sha384 keyBytes →
      Starts (holding (challenged h (List.replicate 32 7) (signedObject 3 0 aToken)) (cmd 0x0D01 [2])) 0x0D01 1 (cmd 0x0D01 [2])
        (submitting h (signedObject 3 0 aToken)) ∧
      (submitting h (signedObject 3 0 aToken)).kindReason 3 (stagedBytes (submitting h (signedObject 3 0 aToken)).sec.token
        (submitting h (signedObject 3 0 aToken)).freeCtr (submitting h (signedObject 3 0 aToken)).sec.tokenLen 0) ⟨true, true⟩ = none) ∧
    (∃ s tag c u, Starts s 0x0D01 tag c u ∧ c.op = 2 ∧
      u.kindReason 3 (stagedBytes u.sec.token u.freeCtr u.sec.tokenLen 0) ⟨true, true⟩ = some 1 ∧ u.fld F.SEC_STATUS_UNLOCK ≠ 2) ∧
    (∃ s tag c u, Starts s 0x0D01 tag c u ∧ c.op = 2 ∧
      u.kindReason 3 (stagedBytes u.sec.token u.freeCtr u.sec.tokenLen 0) ⟨true, true⟩ = some 1 ∧ u.fld F.SEC_STATUS_UNLOCK = 2) ∧
    (∃ s tag c u, Starts s 0x0D01 tag c u ∧ c.op = 3 ∧ u.fld F.SEC_STATUS_UNLOCK = 2) ∧
    ((unlockedAs 2).fld F.SEC_STATUS_UNLOCK = 2 ∧ (unlockedAs 2).canonical = true ∧
      ({ unlockedAs 2 with elapsed := 1 } : State).sec.unlockUntil ≤ 1) ∧
    (unlockedAs 1).fld F.SEC_STATUS_UNLOCK = 1 ∧ ({ unlockedAs 1 with elapsed := 230400000 } : State).sec.challengeAt + 230400000 ≤ 230400000 :=
  ⟨⟨_, _, _, _, starts_due 0x0D01 [0], by decide, by decide, by decide⟩,
    ⟨_, _, _, _, starts_alone (unlockedAs 2) (cmd 0x0D01 [0]) (by decide), by decide, by decide⟩,
    ⟨_, _, _, _, starts_due 0x0D01 [1], by decide⟩,
    fun h hh => ⟨starts_alone _ _ (show tickAfter 0 base.tickno = false by decide), submit_passes h hh⟩,
    ⟨_, _, _, _, starts_due 0x0D01 [2], by decide, by decide, by decide⟩,
    ⟨_, _, _, _, starts_alone (unlockedAs 2) (cmd 0x0D01 [2]) (by decide), by decide, by decide, by decide⟩,
    ⟨_, _, _, _, starts_alone (unlockedAs 2) (cmd 0x0D01 [3]) (by decide), by decide, by decide⟩, by decide, by decide, by decide⟩

/-- A signed kernel with ID 0x8001 in the store, and the state in which ENG_LOAD_KERNEL is taken up. -/
def storing (h o : List Byte) : State :=
  let s := withHash base h
  { s with sec := { s.sec with kernels := [(0, o)] } }
def loading (h o : List Byte) : State := started (storing h o) (cmd 0x0F00 [1, 0, 1, 0, 0])

theorem signed_version (kind ver : Nat) (body : List Byte) (h : ver < 2 ^ 32) : objVersion (signedObject kind ver body) = ver := by
  unfold objVersion
  rw [leAt_head _ _ _ _ _ (by omega)]
  unfold leAt signedHead
  rw [slice_right (by simp), slice_right (by simp), slice_right (by simp), slice_right (by simp)]
  simp only [leBytes_length, List.length_cons, List.length_nil]
  rw [show slice (leBytes 4 ver) (12 - 4 - 1 - (0 + 1 + 1 + 1) - 4) 4 = leBytes 4 ver from by simp [slice, leBytes], leValue_leBytes]
  omega

theorem loading_fields (h o : List Byte) : (loading h o).sec.arc = 0 ∧ (loading h o).keySlot 0 = .programmed ∧
    (loading h o).slotHash 0 = h ∧ (loading h o).sec.kernels = [(0, o)] := ⟨rfl, rfl, rfl, rfl⟩

theorem load_passes (h : List Byte) (hh : h = sha384 keyBytes) :
    (loading h (signedObject 1 1 [])).kernelObj 1 = some (signedObject 1 1 []) ∧
      (loading h (signedObject 1 1 [])).objReason (signedObject 1 1 []) ⟨true, true⟩ = none := by
  obtain ⟨fa, fk, fh, fs⟩ := loading_fields h (signedObject 1 1 [])
  refine ⟨?_, ?_⟩
  · unfold State.kernelObj
    rw [fs]
    simp only [List.find?_cons, objKernelId, signed_version 1 1 [] (by omega)]
    rfl
  · have k := signed_passes _ 1 1 [] (by omega) rfl (by decide) (.inl (by omega)) fa fk (fh.trans hh) (by omega) (by omega)
    unfold State.kindReason at k
    rwa [if_pos (signed_kind 1 1 [] (by omega))] at k


theorem meets_EngineCommandsComplete :
    (∀ h, h = sha384 keyBytes →
      Starts (holding (storing h (signedObject 1 1 [])) (cmd 0x0F00 [1, 0, 1, 0, 0])) 0x0F00 1 (cmd 0x0F00 [1, 0, 1, 0, 0])
        (loading h (signedObject 1 1 [])) ∧ leAt (cmd 0x0F00 [1, 0, 1, 0, 0]).payload 0 2 = 1 ∧
      (loading h (signedObject 1 1 [])).kernelObj 1 = some (signedObject 1 1 []) ∧
      (loading h (signedObject 1 1 [])).objReason (signedObject 1 1 []) ⟨true, true⟩ = none) ∧
    (∃ s tag c u, Starts s 0x0F01 tag c u ∧ c.op = 0 ∧ c.payload.drop 8 = []) ∧ (∃ s tag c u, Starts s 0x0F01 tag c u ∧ c.op = 1) ∧
    (∃ s tag c u, Starts s 0x0F01 tag c u ∧ c.op = 2) ∧
    (let s := put (put (put base (F.LE_ROLE_ROLE 0) roleSpare) (F.LE_ROLE_ROLE 15) 1) (F.LE_STATUS_STATE 15) 4
     s.engRun 15 = .retired ∧ s.role 15 ≠ roleSpare ∧ s.role 15 ≠ roleNone ∧
       (List.range 16).find? (fun i => (s.loseEstimation 15).role i == roleSpare && (s.loseEstimation 15).engRun i != .retired &&
         !(s.loseEstimation 15).pinnedUnit (176 + i)) = some 0) :=
  ⟨fun h hh => ⟨starts_alone _ _ (show tickAfter 0 base.tickno = false by decide), by decide, (load_passes h hh).1, (load_passes h hh).2⟩,
    ⟨_, _, _, _, starts_due 0x0F01 [0], by decide, by decide⟩, ⟨_, _, _, _, starts_due 0x0F01 [1], by decide⟩,
    ⟨_, _, _, _, starts_due 0x0F01 [2], by decide⟩, by decide +kernel⟩

/-- An injection on detector 33 with `left` to come, and a unit reset begun in tick 7. -/
def faulty (left : Nat) : State := { base with
  elapsed := 384007
  fault := { base.fault with
    injections := [⟨33, 1, 0, 0, 1, left, 384007⟩]
    unitReset := [⟨1, 0x0700, [0x0700], [], [], [], 7⟩] } }

theorem meets_FaultCommandsComplete :
    (∃ s tag c u, Starts s 0x0102 tag c u ∧ srcType (resetTarget c) ≠ 8 ∧ srcType (resetTarget c) ≠ 4) ∧
    (∃ s tag c u, Starts s 0x0102 tag c u ∧ srcType (resetTarget c) = 4) ∧
    (∃ s tag c u, Starts s 0x0102 tag c u ∧ srcType (resetTarget c) = 8) ∧
    (∃ r, (faulty 2).fault.unitReset.find? (fun u => u.tag == 1) = some r ∧ r.since + 384000 ≤ (faulty 2).elapsed) ∧
    (∃ s tag c u, Starts s 0x0B00 tag c u ∧ bitAt (leAt c.payload 3 1) 1 = false) ∧
    (∃ s tag c u, Starts s 0x0B00 tag c u ∧ bitAt (leAt c.payload 3 1) 1 = true ∧ bitAt (leAt c.payload 3 1) 0 = u.inShadow) ∧
    (∃ s tag c u, Starts s 0x0B01 tag c u ∧ leAt c.payload 0 2 ≠ 0xFFFF) ∧
    (∃ s tag c u, Starts s 0x0B01 tag c u ∧ leAt c.payload 0 2 = 0xFFFF) ∧
    (∃ s tag c u, Starts s 0x0B02 tag c u ∧ injMode c ≠ 0) ∧ (∃ s tag c u, Starts s 0x0B02 tag c u ∧ injMode c = 0) ∧
    (∃ j, (faulty 2).fault.injections.find? (fun j => j.detector == 33) = some j ∧ j.nextAt ≤ (faulty 2).elapsed ∧ 1 < j.left) ∧
    (∃ j, (faulty 1).fault.injections.find? (fun j => j.detector == 33) = some j ∧ j.nextAt ≤ (faulty 1).elapsed ∧ j.left = 1) :=
  ⟨⟨_, _, _, _, starts_due 0x0102 [1, 0], by decide⟩, ⟨_, _, _, _, starts_due 0x0102 [4, 0], by decide⟩,
    ⟨_, _, _, _, starts_due 0x0102 [8, 0], by decide⟩, ⟨_, rfl, by decide⟩, ⟨_, _, _, _, starts_due 0x0B00 [0, 0, 0, 0], by decide⟩,
    ⟨_, _, _, _, starts_due 0x0B00 [0, 0, 0, 2], by decide, by decide⟩, ⟨_, _, _, _, starts_due 0x0B01 [0xFE, 0xFF], by decide⟩,
    ⟨_, _, _, _, starts_due 0x0B01 [0xFF, 0xFF], by decide⟩, ⟨_, _, _, _, starts_due 0x0B02 [33, 3], by decide⟩,
    ⟨_, _, _, _, starts_due 0x0B02 [33, 0], by decide⟩, ⟨_, rfl, by decide⟩, ⟨_, rfl, by decide⟩⟩

/-- The recorder in a state, with a snapshot and a replay that has run out. -/
def aSnapshot : Snapshot := ⟨[], [], [], .init, .init, .init, .init, .init, .init, .init, .init⟩
def recorder (bits : Nat) : State :=
  let s := word base F.REC_STATUS_STATE.addr (BitVec.ofNat 32 bits)
  { s with recd := { s.recd with
      snap := some aSnapshot
      replay := some ⟨1, true, true, 0, 0, 0, []⟩ } }

theorem meets_RecorderRowsComplete :
    (∃ s tag c u, Starts s 0x0C00 tag c u ∧ u.recSt = .idle) ∧ (∃ s tag c u, Starts s 0x0C01 tag c u ∧ u.recSt = .armed) ∧
    ((recorder 2).recSt = .recording ∧ (recorder 2).recd.snap.isSome = true) ∧
    (let s := put (recorder 2) F.REC_TICKS_COUNT 9
     let t : State := { s with recd := { s.recd with
       arm := some ⟨false, 0, 0, [], 0, 0, 0, 9⟩
       full := true
       buffered := recBuffer + 1 } }
     t.recSt = .recording ∧ (∃ x, t.recd.arm = some x ∧ x.duration ≠ 0 ∧ x.duration ≤ t.fld F.REC_TICKS_COUNT) ∧
       t.recd.full = true ∧ recBuffer < t.recd.buffered ∧ (2 : Nat) < 3) ∧
    (∃ s tag c u x, Starts s 0x0C02 tag c u ∧ ctxReplayStart u = none ∧ u.recd.snap = some x) ∧
    (∃ r, (recorder 4).recd.replay = some r ∧ r.left = []) ∧
    (∃ r, (put (recorder 4) F.REC_RPL_MISMATCH_COUNT 1).recd.replay = some r ∧ r.stopOn = true ∧
      (put (recorder 4) F.REC_RPL_MISMATCH_COUNT 1).fld F.REC_RPL_MISMATCH_COUNT ≠ 0) :=
  ⟨⟨_, _, _, _, starts_due 0x0C00 [], by decide⟩, ⟨_, _, _, _, starts_alone (recorder 1) (cmd 0x0C01 []) (by decide), by decide⟩,
    by decide, ⟨by decide, ⟨_, rfl, by decide, by decide⟩, rfl, Nat.lt_succ_self _, by decide⟩,
    ⟨_, _, _, _, _, starts_alone (recorder 0x13) (cmd 0x0C02 []) (by decide), by decide, rfl⟩, ⟨_, rfl, rfl⟩,
    ⟨_, rfl, rfl, by decide⟩⟩

/-- Scope FW_WRITE, and a result in the FIFO. -/
def fwWrite : State :=
  let s := word base 0xA0000 (BitVec.ofNat 32 (2 * 2 ^ 16 + 8 * 2 ^ 20))
  { s with hk := { s.hk with fifo := [⟨63, 255, 2 ^ 16 - 1, true⟩] } }

theorem meets_WindowReadsAdvance :
    (∀ a ∈ [0x1CF00C, 0x1CF108, 0x220004, 0x222004, 0x200054, 0x210014, 0x21001C, 0x241044, 0x4F0034, 0x500004], fwWrite.reaches a) ∧
    (∀ a ∈ [0x317028, 0x317088, 0x317090, 0x20034, 0x30098, 0x6000C, 0x60010, 0x70044], fwWrite.reaches a) ∧
    fwWrite.unlocked 3 = true ∧ fwWrite.hk.fifo = ⟨63, 255, 2 ^ 16 - 1, true⟩ :: [] ∧ base.reaches 0x60010 ∧ base.hk.fifo = [] := by
  refine ⟨fun a h => reaches_of _ a 2 ?_, fun a h => reaches_of _ a 1 ?_, by decide, rfl, reaches_of _ _ 1 (by decide), rfl⟩
  · revert a
    decide +kernel
  · revert a
    decide +kernel

end Sys2Proof.Tests
end

section
/-!
SUPPORT AND PROOFS. The scope chapter's laws: bit fields that do not overlap leave one another alone (R12, R13), counters
saturate (R12, R545), and tick numbers compare by their signed difference (R8).
-/
namespace Sys2Proof.Machine

/-! ### Bit fields -/

/-- A field's value fits its width. -/
theorem bitsAt_lt (v lo w : Nat) : bitsAt v lo w < 2 ^ w := Nat.mod_lt _ (Nat.two_pow_pos w)

/-- A field below bit `n` is a function of the bits below `n`. -/
theorem bitsAt_eq_of_mod_eq {u v lo w n : Nat} (h : u % 2 ^ n = v % 2 ^ n) (hn : lo + w ≤ n) : bitsAt u lo w = bitsAt v lo w := by
  have low (x : Nat) : bitsAt (x % 2 ^ n) lo w = bitsAt x lo w := by
    simp only [bitsAt, ← Nat.mod_mul_right_div_self, ← pow_add, Nat.mod_mod_of_dvd x (pow_dvd_pow 2 hn)]
  rw [← low u, h, low]

/-- A field from bit `n` on is a function of the bits from `n` on. -/
theorem bitsAt_eq_of_div_eq {u v lo w n : Nat} (h : u / 2 ^ n = v / 2 ^ n) (hn : n ≤ lo) : bitsAt u lo w = bitsAt v lo w := by
  obtain ⟨k, rfl⟩ := Nat.exists_eq_add_of_le hn
  simp only [bitsAt, pow_add, ← Nat.div_div_eq_div_mul, h]

/-- Putting a field leaves the bits below it. -/
theorem putBits_mod_below (v lo w x : Nat) : putBits v lo w x % 2 ^ lo = v % 2 ^ lo := by
  have e : putBits v lo w x = v % 2 ^ lo + 2 ^ lo * (v / 2 ^ (lo + w) * 2 ^ w + x % 2 ^ w) := by
    simp only [putBits, pow_add]; ring
  rw [e, Nat.add_mul_mod_self_left, Nat.mod_mod]

/-- Putting a field leaves the bits above it. -/
theorem putBits_div_above (v lo w x : Nat) : putBits v lo w x / 2 ^ (lo + w) = v / 2 ^ (lo + w) := by
  have hv : v % 2 ^ lo < 2 ^ (lo + w) :=
    (Nat.mod_lt _ (Nat.two_pow_pos lo)).trans_le (Nat.pow_le_pow_right two_pos (Nat.le_add_right lo w))
  have hlt : putBits (v % 2 ^ lo) lo w x < 2 ^ (lo + w) := putBits_lt hv le_rfl
  have e : putBits v lo w x = putBits (v % 2 ^ lo) lo w x + v / 2 ^ (lo + w) * 2 ^ (lo + w) := by
    simp only [putBits, Nat.div_eq_of_lt hv, Nat.mod_mod]; ring
  rw [e, Nat.add_mul_div_right _ _ (Nat.two_pow_pos _), Nat.div_eq_of_lt hlt, Nat.zero_add]

/-- A field beside the one that is put reads as before. -/
theorem bitsAt_putBits_disjoint (v x : Nat) {lo w lo' w' : Nat} (h : lo' + w' ≤ lo ∨ lo + w ≤ lo') :
    bitsAt (putBits v lo w x) lo' w' = bitsAt v lo' w' := by
  rcases h with below | above
  · exact bitsAt_eq_of_mod_eq (putBits_mod_below v lo w x) below
  · exact bitsAt_eq_of_div_eq (putBits_div_above v lo w x) above

/-! ### Fields of the register file -/

theorem State.fld_lt (s : State) (f : Fld) : s.fld f < 2 ^ f.width := bitsAt_lt _ _ _

/-- A field of the same register beside the one that is written reads as before. -/
theorem State.fld_setFld_disjoint {s : State} (h : swf resetWord s.regs = true) {f g : Fld} (v : Nat) (hf : f.lo + f.width ≤ 32)
    (ha : g.addr = f.addr) (hd : g.lo + g.width ≤ f.lo ∨ f.lo + f.width ≤ g.lo) : (s.setFld f v).fld g = s.fld g := by
  have hlt : putBits (s.reg f.addr).toNat f.lo f.width v < 2 ^ 32 := putBits_lt (s.reg f.addr).isLt hf
  simp only [State.fld, State.setFld, ha, State.reg_setReg_same h, BitVec.toNat_ofNat, Nat.mod_eq_of_lt hlt]
  exact bitsAt_putBits_disjoint _ _ hd

/-- The register file of a canonical state is in canonical form. -/
theorem State.regs_swf {s : State} (h : s.canonical = true) : swf resetWord s.regs = true := by
  simp only [State.canonical, Bool.and_eq_true] at h
  exact h.1

theorem State.setFld_canonical {s : State} (h : s.canonical = true) (f : Fld) (v : Nat) : (s.setFld f v).canonical = true := by
  simp only [State.canonical, Bool.and_eq_true, State.setFld_hostMem] at h ⊢
  exact ⟨State.setFld_swf h.1 f v, h.2⟩

/-- A counter reads its old value and what was added, held at the largest value of its field. -/
theorem State.fld_addFld_same {s : State} (h : swf resetWord s.regs = true) (f : Fld) (n : Nat) (hf : f.lo + f.width ≤ 32) :
    (s.addFld f n).fld f = min (s.fld f + n) (2 ^ f.width - 1) := by
  have hlt : min (s.fld f + n) (2 ^ f.width - 1) < 2 ^ f.width :=
    (min_le_right _ _).trans_lt (Nat.sub_one_lt_of_lt (Nat.two_pow_pos _))
  rw [State.addFld, State.fld_setFld_same h f _ hf, Nat.mod_eq_of_lt hlt]

/-- Settles O10: the written field by `fld_setFld_same`, its neighbours by `fld_setFld_disjoint`. -/
theorem fieldWriteChangesItsFieldOnly : Obligations.FieldWriteChangesItsFieldOnly := by
  intro s f v hs hf
  have hr := State.regs_swf hs
  refine ⟨State.fld_setFld_same hr f v hf, fun g ha hd => ?_, fun a ha => State.reg_setFld_other s f v ha,
    State.setFld_canonical hs f v⟩
  exact State.fld_setFld_disjoint hr v hf ha (hd.imp_right And.left)

/-- Settles O11: the saturated sum fits the field, so it reads back whole, and the old value was no larger. -/
theorem countersSaturate : Obligations.CountersSaturate := by
  intro s f n hs hf
  have hval := State.fld_addFld_same (State.regs_swf hs) f n hf
  refine ⟨hval, ?_, fun a ha => State.reg_setFld_other s f _ ha⟩
  rw [hval]
  exact le_min (Nat.le_add_right _ _) (Nat.le_sub_one_of_lt (State.fld_lt s f))

/-! ### Ticks -/

/-- A two's complement value is positive where it is neither 0 nor in the upper half of its range. -/
theorem signed_pos_iff (w v : Nat) : 0 < signed w v ↔ 0 < v % 2 ^ w ∧ 2 * (v % 2 ^ w) < 2 ^ w := by
  have hlt : v % 2 ^ w < 2 ^ w := Nat.mod_lt _ (Nat.two_pow_pos w)
  unfold signed
  split <;> omega

theorem tickSub_lt (a b : Nat) : tickSub a b < 2 ^ 32 := Nat.mod_lt _ (by decide)

theorem tickAdd_lt (t n : Nat) : tickAdd t n < 2 ^ 32 := Nat.mod_lt _ (by decide)

/-- A tick is later than another where the distance between them is neither 0 nor 2^31 or more. -/
theorem tickAfter_iff (a b : Nat) : tickAfter a b = true ↔ 0 < tickSub a b ∧ tickSub a b < 2 ^ 31 := by
  simp [tickAfter, tickSub]

/-- `n` ticks on, the distance is `n`, wherever the count wraps. -/
theorem tickSub_tickAdd (b n : Nat) : tickSub (tickAdd b n) b = n % 2 ^ 32 := by
  unfold tickSub tickAdd
  omega

/-- The distances there and back add up to a whole turn of the count. -/
theorem tickSub_swap {a b : Nat} (h : tickSub a b ≠ 0) : tickSub b a = 2 ^ 32 - tickSub a b := by
  unfold tickSub at h ⊢
  omega

/-- Two different tick numbers are a distance apart. -/
theorem tickSub_ne_zero {a b : Nat} (ha : a < 2 ^ 32) (hb : b < 2 ^ 32) (h : a ≠ b) : tickSub a b ≠ 0 := by
  unfold tickSub
  omega

theorem tickAfter_iff_signed_pos (a b : Nat) : tickAfter a b = true ↔ 0 < signed 32 (tickSub a b) := by
  rw [tickAfter_iff, signed_pos_iff, Nat.mod_eq_of_lt (tickSub_lt a b)]
  omega

/-- Of two tick numbers not half a turn apart, exactly one is the later. -/
theorem tickAfter_eq_not_swap {a b : Nat} (h0 : tickSub a b ≠ 0) (hh : tickSub a b ≠ 2 ^ 31) :
    tickAfter a b = !tickAfter b a := by
  have hlt := tickSub_lt a b
  rw [Bool.eq_not_iff, Ne, Bool.eq_iff_iff, tickAfter_iff, tickAfter_iff, tickSub_swap h0]
  omega

/-- Settles O8: each clause is a fact about the distance `tickSub`, by `tickAfter_iff`. -/
theorem tickOrderIsSignedDifference : Obligations.TickOrderIsSignedDifference := by
  refine ⟨tickAfter_iff_signed_pos, fun a b ha hb hne => tickAfter_eq_not_swap (tickSub_ne_zero ha hb hne), fun b n h0 hn => ?_,
    fun b => ?_, fun b n hb => ⟨?_, tickAdd_lt b n⟩⟩
  · rw [tickAfter_iff, tickSub_tickAdd]
    omega
  · rw [Bool.eq_false_iff, Ne, tickAfter_iff, tickSub_tickAdd]
    decide
  · rw [tickAdd, Nat.add_mod_right, Nat.mod_eq_of_lt hb]

end Sys2Proof.Machine
end

section
/-!
SUPPORT AND PROOFS. Resets (R17, R478, R491): what a reset of every block leaves of the registers and of the other fields, and what
the device reset, the reset key and the loss of power do with it.
-/
namespace Sys2Proof.Machine

/-! ### What a reset leaves -/

theorem inRange_iff (lo hi a : Nat) : inRange lo hi a = true ↔ lo ≤ a ∧ a ≤ hi := by simp [inRange]

/-- No register stands in the gaps of Table 23-1 below and above the blocks of PD_FAB. -/
theorem lt_of_regDomain_isSome {a : Nat} (h : (regDomain a).isSome = true) : a < 0xB0000 ∨ 0x100000 ≤ a ∧ a < 0x810000 := by
  contrapose! h
  unfold regDomain
  grind

/-- A register in a reset range reads its reset word, and every other as before. -/
theorem State.reg_resetRange (s : State) (lo hi a : Nat) :
    (s.resetRange lo hi).reg a = if inRange lo hi a then resetWord a else s.reg a := sget_sclear _

/-- The registers after the wipe of PD_FAB. -/
theorem State.reg_wipeFab (s : State) (a : Nat) : s.wipeFab.reg a =
    (((s.resetRange 0x40000 0x4FFFF).resetRange 0x100000 0x30FFFF).resetRange 0x320000 0x80FFFF).reg a := rfl

/-- The registers after the wipe of PD_CTL, but the two that show fuses. -/
theorem State.reg_wipeCtl (s : State) {a : Nat} (harc : a ≠ F.SEC_ARC_COUNT.addr) (hslots : a ≠ F.SEC_SLOTS_STATE.addr) :
    s.wipeCtl.reg a = ((((s.resetRange 0x0 0xFFFF).resetRange 0x20000 0x3FFFF).resetRange 0x50000 0xAFFFF).resetRange
      0x310000 0x31FFFF).reg a := by
  rw [State.wipeCtl, State.refreshSlots, State.reg_setFld_other _ _ _ hslots, State.reg_setFld_other _ _ _ harc]
  rfl

theorem State.allReset_regs (s : State) : s.allReset.regs = (s.resetRange 0x10000 0x1FFFF).wipeFab.wipeCtl.regs := rfl

/-- After a reset of every block each register reads its reset word, but the two that show fuses. -/
theorem State.reg_allReset (s : State) {a : Nat} (harc : a ≠ F.SEC_ARC_COUNT.addr) (hslots : a ≠ F.SEC_SLOTS_STATE.addr)
    (hd : (regDomain a).isSome = true) : s.allReset.reg a = resetWord a := by
  have hmap := lt_of_regDomain_isSome hd
  rw [State.reg, State.allReset_regs, ← State.reg]
  simp only [State.reg_wipeCtl _ harc hslots, State.reg_resetRange, State.reg_wipeFab, inRange_iff]
  grind

/-! Of the fields that are not registers the reset of every block keeps the queue, host memory and the pins. -/

@[simp] theorem State.allReset_pending (s : State) : s.allReset.pending = s.pending :=
  (State.allReset_keeps (kq := true) (Keeps.refl s)).pending

@[simp] theorem State.allReset_hostMem (s : State) : s.allReset.hostMem = s.hostMem :=
  (State.allReset_keeps (Keeps.refl s)).host rfl

theorem State.wipeFab_pwr (s : State) : s.wipeFab.pwr = { s.pwr with quietDue := none, gateDue := none } := rfl
theorem State.wipeCtl_pwr (s : State) : s.wipeCtl.pwr = s.pwr := rfl

@[simp] theorem State.allReset_pwr (s : State) : s.allReset.pwr = { PowerState.init with
    safePin := s.pwr.safePin, refPresent := s.pwr.refPresent, lanePresent := s.pwr.lanePresent } := by
  rw [State.allReset]
  simp only [State.wipeCtl_pwr, State.wipeFab_pwr, State.resetRange_pwr]

/-- With REFCLK present and SAFE_N high no source holds the safe state. -/
theorem State.tripPins_released {s : State} (href : s.pwr.refPresent = true) (hpin : s.pwr.safePin = false) :
    s.tripPins = s := by
  simp [State.tripPins, href, hpin]

/-- What the boot ROM will find, where the reset brings another finding. -/
def State.findRom (s : State) (flash : Option RomFinding) : State :=
  match flash with
  | some f => { s with sec := { s.sec with rom := f, active := f.active % 2, fwObjects := [] } }
  | none => s

theorem State.findRom_only (s : State) (flash : Option RomFinding) : ∃ sec, s.findRom flash = { s with sec := sec } := by
  cases flash with
  | none => exact ⟨s.sec, rfl⟩
  | some f => exact ⟨_, rfl⟩

theorem State.deviceReset_eq (s : State) (flash : Option RomFinding) (ok : Bool) : s.deviceReset flash ok =
    ({ s.allReset.findRom flash with fault := { (s.allReset.findRom flash).fault with
      lostLogged := s.fault.lostLogged } }.tripPins).memTest ok := rfl

/-- A device reset whose memory test passed, where no source holds the safe state: the reset of every block, but for what the boot
ROM will find and the mark of a lost log. -/
theorem State.deviceReset_released {s : State} (href : s.pwr.refPresent = true) (hpin : s.pwr.safePin = false)
    (flash : Option RomFinding) : ∃ sec, s.deviceReset flash true =
      { s.allReset with sec := sec, fault := { s.allReset.fault with lostLogged := s.fault.lostLogged } } := by
  obtain ⟨sec, hrom⟩ := s.allReset.findRom_only flash
  refine ⟨sec, ?_⟩
  rw [State.deviceReset_eq, hrom, State.memTest, if_pos rfl]
  exact State.tripPins_released (by simp only [State.allReset_pwr, href]) (by simp only [State.allReset_pwr, hpin])

/-- A domain's state reads 0 once the register that shows the domains' states is cleared. -/
theorem State.domain_setFld_zero {s : State} (h : swf resetWord s.regs = true) (d : Nat) :
    (s.setFld F.PWR_DOMAIN_STATE 0).domain d = 0 := by
  rw [State.domain, State.fld_setFld_same h _ _ (by decide)]
  simp [bitsAt]

/-- The reset key where the device is on and the memory test passed. -/
theorem State.resetKey_on {s : State} (hon : s.pwr.off = false) : s.resetKey true =
    { (s.allReset.reapply s.keptUnits).resetLinks with fault := { (s.allReset.reapply s.keptUnits).resetLinks.fault with
      lostLogged := s.fault.lostLogged, wakeRetired := s.fault.wakeRetired } }.tripPins := by
  simp only [State.resetKey, hon, State.memTest, if_true, Bool.false_eq_true, if_false]

theorem State.powerOff_regs (s : State) : s.powerOff.regs = (s.allReset.setFld F.PWR_DOMAIN_STATE 0).regs := rfl

/-- After a power-off every domain reads 0. -/
theorem State.domain_powerOff {s : State} (h : s.canonical = true) (d : Nat) : s.powerOff.domain d = 0 := by
  have hreset := State.regs_swf ((State.allReset_keeps (kq := true) (Keeps.refl s)).stores h)
  rw [← State.domain_setFld_zero hreset d]
  simp only [State.domain, State.fld, State.reg, State.powerOff_regs]

theorem exec_deviceReset (f : Option RomFinding) (ok : Bool) (s : State) :
    exec (.deviceReset f ok) s = .next (s.deviceReset f ok) := rfl

theorem exec_pwrResetKey (ok : Bool) (s : State) :
    exec (.pwrResetKey ok) s = .next (s.onReg 0x10008 (fun s => s.resetKey ok)) := rfl

theorem exec_powerOff (s : State) : exec .powerOff s = .next s.powerOff := rfl

/-- Settles O17: both resets are `allReset`, whose registers `reg_allReset` gives; after a power-off the domains' states are cleared. -/
theorem resetsRestoreResetWords : Obligations.ResetsRestoreResetWords := by
  intro s hs
  refine ⟨fun href hpin f => ?_, fun ⟨d, hd, hbus, hoff, hret⟩ hon => ?_, ?_⟩
  · obtain ⟨sec, ht⟩ := State.deviceReset_released href hpin f
    refine ⟨_, by rw [exec_deviceReset, ht], ?_⟩
    refine ⟨rfl, rfl, rfl, rfl, State.allReset_hostMem s, State.allReset_pending s, fun a harc hslots hd => ?_⟩
    rw [← State.reg_allReset s harc hslots hd, State.reg, State.reg]
  · rw [exec_pwrResetKey, onReg_reached s _ d _ hd hbus hoff hret, State.resetKey_on hon]
  · refine ⟨s.powerOff, exec_powerOff s, ?_⟩
    exact ⟨rfl, rfl, rfl, rfl, fun d _ => State.domain_powerOff hs d⟩

end Sys2Proof.Machine
end

section
/-!
SUPPORT AND PROOFS. Observation and estimation (R26, R217-R227): what a capture, its transfer and the use made of it leave of the
transfers that wait, the ticks of a capture, and the taking of an estimation's result.
-/
namespace Sys2Proof.Machine

/-! ### The rows -/

theorem exec_obsCaptureStart (j : Fin 8) (s : State) : exec (.obsCaptureStart j) s = execObsCaptureStart j s := rfl
theorem exec_obsCaptureEnd (j : Fin 8) (po ob pa : Int) (ov : Bool) (s : State) :
    exec (.obsCaptureEnd j po ob pa ov) s = execObsCaptureEnd j po ob pa ov s := rfl
theorem exec_captureDelivered (j : Fin 8) (ds : List (Nat × Nat × Nat × Int)) (ac ga : Int) (s : State) :
    exec (.captureDelivered j ds ac ga) s = execCaptureDelivered j ds ac ga s := rfl
theorem exec_estimationStart (e : Fin 16) (s : State) : exec (.estimationStart e) s = execEstimationStart e s := rfl
theorem exec_acceptanceGuard (p : Fin 64) (ok : Bool) (cs pr : List Cplx) (ap am gm : Int) (s : State) :
    exec (.acceptanceGuard p ok cs pr ap am gm) s = execAcceptanceGuard p ok cs pr ap am gm s := rfl

/-! ### What leaves the predistortion block, or the transfers that wait, as they are -/

@[simp] theorem State.raise_dpd (s : State) (code value source sev : Nat) : (s.raise code value source sev).dpd = s.dpd := by
  unfold State.raise State.raiseEv
  dsimp only
  split <;> rfl

@[simp] theorem State.raiseFree_dpd (s : State) (code source sev : Nat) : (s.raiseFree code source sev).dpd = s.dpd :=
  State.raise_dpd (s.fresh 32).2 code (s.fresh 32).1 source sev

@[simp] theorem State.noteItem_dpd (s : State) (i : RecItem) : (s.noteItem i).dpd = s.dpd := by
  unfold State.noteItem
  split <;> rfl

@[simp] theorem armCommit_dpd (s : State) (k : Commit) : (s.armCommit k).dpd = s.dpd := by
  obtain ⟨_, _, _, h⟩ := armCommit_only s k
  rw [h]

@[simp] theorem State.armDpd_dpd (s : State) (p : Nat) (ch : Change) : (s.armDpd p ch).dpd = s.dpd := armCommit_dpd _ _

@[simp] theorem State.setAdapt_dpd (s : State) (p : Nat) (x : Adapt) : (s.setAdapt p x).dpd = s.dpd := rfl

@[simp] theorem State.clmBytes_dpd (s : State) (w : Nat) (bs : List Byte) : (s.clmBytes w bs).dpd = s.dpd :=
  List.foldlRecOn (motive := fun t : State => t.dpd = s.dpd) _ _ rfl (fun _ ht _ _ => ht)

@[simp] theorem State.captureIrq_dpd (s : State) : s.captureIrq.dpd = s.dpd :=
  List.foldlRecOn (motive := fun t : State => t.dpd = s.dpd) _ _ rfl (fun _ ht _ _ => by split <;> exact ht)

@[simp] theorem State.putDpd_transfer (s : State) (p : Nat) (d : DpdPath) : (s.putDpd p d).dpd.transfer = s.dpd.transfer := rfl

/-! ### The use of a capture (R220) -/

@[simp] theorem State.diverge_transfer (s : State) (p reason : Nat) (back : Bool) :
    (s.diverge p reason back).dpd.transfer = s.dpd.transfer := by
  cases back <;> simp only [State.diverge] <;> split <;> simp

theorem State.maskViolation_transfer (s : State) (p k edge seg : Nat) (excess : Int) :
    (s.maskViolation p k edge seg excess).dpd.transfer = s.dpd.transfer := by
  simp only [State.maskViolation]
  split <;> simp

@[simp] theorem State.maskCheck_transfer (s : State) (c : Capture) : (s.maskCheck c).dpd.transfer = s.dpd.transfer :=
  List.foldlRecOn (motive := fun t : State => t.dpd.transfer = s.dpd.transfer) _ _ rfl (fun t ht x _ => by
    split
    · exact (State.maskViolation_transfer _ _ _ _ _ _).trans ht
    · exact ht)

@[simp] theorem State.powerCheck_transfer (s : State) (c : Capture) : (s.powerCheck c).dpd.transfer = s.dpd.transfer := by
  simp only [State.powerCheck]
  split <;> simp

@[simp] theorem State.confirmCheck_transfer (s : State) (c : Capture) : (s.confirmCheck c).dpd.transfer = s.dpd.transfer := by
  simp only [State.confirmCheck]
  split
  · split_ifs <;> simp
  · rfl

@[simp] theorem State.useCapture_transfer (s : State) (c : Capture) : (s.useCapture c).dpd.transfer = s.dpd.transfer := by
  simp only [State.useCapture]
  split_ifs <;> simp

/-! ### Captures (Table 07-5) -/

/-- A key reads as written in any list, sorted or not, where the value is not that of an unlisted key. -/
theorem sget_sput_listed {α : Type} [DecidableEq α] {d : Nat → α} {k : Nat} {v : α} (h : v ≠ d k) (m : List (Nat × α)) :
    sget d (sput d m k v) k = v := by
  induction m with
  | nil => simp [sput, sget, h]
  | cons e r ih =>
    obtain ⟨a, w⟩ := e
    simp only [sput]
    split
    · rename_i hlt
      rw [sget, if_neg (by omega), ih]
    · split <;> simp [sget]

theorem resample_length (prev cur : List (Int × Nat)) : (resample prev cur).length = 1024 := by simp [resample]

/-- A tick's observed samples join the capture, which is never one without samples then. -/
theorem State.oxCap_oxSamples (s : State) (j : Nat) (codes : List Int) : ∃ phase mixed samples,
    (s.oxSamples j codes).oxCap j = { s.oxCap j with phase := phase, mixed := mixed, samples := samples } := by
  refine ⟨_, _, _, sget_sput_listed ?_ _⟩
  intro hinit
  have hlen := congrArg (fun x => x.samples.length) hinit
  simp [OxCap.init, resample_length] at hlen

/-- They leave its inputs and its attenuation. -/
theorem State.oxCap_oxSamples_inputs (s : State) (j : Nat) (codes : List Int) :
    ((s.oxSamples j codes).oxCap j).inputs = (s.oxCap j).inputs := by
  obtain ⟨_, _, _, h⟩ := s.oxCap_oxSamples j codes
  rw [h]

theorem State.oxCap_oxSamples_atten (s : State) (j : Nat) (codes : List Int) :
    ((s.oxSamples j codes).oxCap j).atten = (s.oxCap j).atten := by
  obtain ⟨_, _, _, h⟩ := s.oxCap_oxSamples j codes
  rw [h]

/-- An air tick of a capture that an overrange spoils ends it (R219). -/
theorem State.oxTick_clipped {s : State} {j : Nat} {ins : List ObsIn} {i : ObsIn} (hox : s.ox j = .capture)
    (hd : tickSub s.tickno (s.capTick j) < 16) (hi : ins.find? (fun i => i.ox == j) = some i) (hc : i.clipped = true) :
    s.oxTick ins j = s.oxDiscard j true := by
  simp only [State.oxTick]
  rw [if_pos ⟨hox, hd⟩, if_pos (by simp [hi, hc])]

/-- One outside a DL run ends it too. -/
theorem State.oxTick_notDl {s : State} {j : Nat} {ins : List ObsIn} {i : ObsIn} (hox : s.ox j = .capture)
    (hd : tickSub s.tickno (s.capTick j) < 16) (hi : ins.find? (fun i => i.ox == j) = some i) (hc : i.clipped = false)
    (hdl : s.dlIn (s.oxPath j) 0 = false) : s.oxTick ins j = s.oxDiscard j false := by
  simp only [State.oxTick]
  rw [if_pos ⟨hox, hd⟩, if_neg (by simp [hi, hc]), if_pos (by simp [hdl])]

/-- The last air tick, undisturbed, completes the capture (R217). -/
theorem State.oxTick_last {s : State} {j : Nat} {ins : List ObsIn} {i : ObsIn} (hox : s.ox j = .capture)
    (hd : tickSub s.tickno (s.capTick j) = 15) (hi : ins.find? (fun i => i.ox == j) = some i) (hc : i.clipped = false)
    (hdl : s.dlIn (s.oxPath j) 0 = true) (hair : s.airReady (s.oxPath j) = true) (hsp : (s.oxCap j).spoilt = false) :
    let v := s.oxSamples j i.codes
    s.oxTick ins j = v.putOxCap j { v.oxCap j with final := some (v.captureOf j) } := by
  simp only [State.oxTick]
  rw [if_pos ⟨hox, by omega⟩, if_neg (by simp [hi, hc]), if_neg (by simp [hdl, hair, hsp]), if_pos hd, hi]
  rfl

/-- A full buffer joins the transfers. -/
theorem execObsCaptureEnd_full {s : State} {j : Fin 8} (po ob pa : Int) (ov : Bool) {cap : Capture} (hox : s.ox j.val = .capture)
    (hlo : 16 ≤ tickSub s.tickno (s.capTick j.val)) (hhi : tickSub s.tickno (s.capTick j.val) < 2 ^ 31)
    (hcap : (s.oxCap j.val).final = some cap) : execObsCaptureEnd j po ob pa ov s = .next { s.setOx j .transfer with
      dpd := { s.dpd with transfer := queueSend s.dpd.transfer ⟨j.val, cap, s.elapsed, 0⟩ } } := by
  simp only [execObsCaptureEnd]
  rw [if_pos ⟨hox, hlo, hhi⟩, hcap, Option.getD_some]

/-- A transfer that is complete leaves the queue, and nothing else does. -/
theorem execCaptureDelivered_transfer {s : State} {j : Fin 8} (ds : List (Nat × Nat × Nat × Int)) (ac ga : Int) {e : OxSend}
    (he : s.dpd.transfer.find? (fun e => e.ox == j.val && decide (43 ≤ e.sent)) = some e) :
    ∃ t, execCaptureDelivered j ds ac ga s = .next t ∧ t.dpd.transfer = s.dpd.transfer.erase e := by
  refine ⟨_, by simp only [execCaptureDelivered, he]; rfl, ?_⟩
  simp only [State.useCapture_transfer, State.setFld_dpd, State.addFld_dpd, State.captureIrq_dpd, State.noteItem_dpd,
    State.clmBytes_dpd]
  split <;> rfl

/-! ### Estimation and its guard (R223-R226) -/

theorem execEstimationStart_taken {s : State} {e : Fin 16} {p : Nat} (h : (s.estimationStart e.val).1 = some p) :
    execEstimationStart e s = .next ((s.estimationStart e.val).2.jobBlock e.val p) := by
  have hpair : s.estimationStart e.val = (some p, (s.estimationStart e.val).2) := Prod.ext h rfl
  rw [execEstimationStart, hpair]

theorem execAcceptanceGuard_published {s : State} {p : Fin 64} (ok : Bool) (cs pr : List Cplx) (ap am gm : Int) {e code : Nat}
    (he : (s.dpdPath p.val).estimating = some e) (hr : s.engResult e = some code) :
    execAcceptanceGuard p ok cs pr ap am gm s = .next (s.takeResult p.val e) := by
  simp only [execAcceptanceGuard, he]
  rw [if_neg (by simp [hr])]

theorem execAcceptanceGuard_rowless {s : State} {p : Fin 64} (ok : Bool) (cs pr : List Cplx) (ap am gm : Int) {e : Nat}
    (he : (s.dpdPath p.val).estimating = some e) (hr : s.engResult e = none) (hrow : (s.engine e).rowed = false) :
    execAcceptanceGuard p ok cs pr ap am gm s = .next ((s.rowResult e ok cs pr).takeResult p.val e) := by
  simp only [execAcceptanceGuard, he]
  rw [if_pos (by simp [hr, hrow])]

/-- An estimation that fails on a path in RUN is a divergence with reason 5 (R224). -/
theorem State.failEstimation_run {s : State} {p : Nat}
    (hrun : (s.putDpd p { s.dpdPath p with estimating := none, estFrom := none }).adapt p = .run) :
    s.failEstimation p = (s.putDpd p { s.dpdPath p with estimating := none, estFrom := none }).diverge p 5 false :=
  if_pos hrun

/-- A code other than 0 fails the estimation. -/
theorem State.takeResult_failed {s : State} {p e code : Nat} {cap : Capture} (hr : s.engResult e = some code)
    (hf : (s.dpdPath p).estFrom = some cap) (hcode : code ≠ 0) :
    s.takeResult p e =
      { s with eng := { s.eng with results := sput (fun _ => 0) s.eng.results e 0 } }.failEstimation p := by
  rw [State.takeResult, hr, hf]
  exact if_pos hcode

/-- The guard judges the candidate of a path that is still in RUN, in the slot that its estimation was for (R225). -/
theorem State.takeResult_candidate {s : State} {p e : Nat} {cap : Capture} (hr : s.engResult e = some 0)
    (hf : (s.dpdPath p).estFrom = some cap) :
    let v : State := { s with eng := { s.eng with results := sput (fun _ => 0) s.eng.results e 0 } }
    let u := v.putDpd p { v.dpdPath p with estimating := none, estFrom := none }
    u.adapt p = .run → (s.dpdPath p).estSlot = u.slotInForce p →
      s.takeResult p e = (u.readOutput e).2.2.guardCandidate p cap (u.readOutput e).1 (u.readOutput e).2.1 := by
  intro v u hrun hslot
  have houtput (x : List Cplx × List Cplx × State) :
      (match x with | (coefs, predicted, t) => t.guardCandidate p cap coefs predicted) =
        x.2.2.guardCandidate p cap x.1 x.2.1 := rfl
  rw [State.takeResult, hr, hf, ← houtput]
  exact (if_neg (not_not.mpr rfl)).trans ((if_neg (not_not.mpr hrun)).trans (if_neg (not_not.mpr hslot)))

/-- Settles O30, row by row: each clause is what its row's operation does in that case; that a tick's samples leave the capture's
other parts is `oxCap_oxSamples`, and that the use of a capture leaves the transfers is `useCapture_transfer`. The last three are the
guard's verdicts, one branch of `guardCandidate` each. -/
theorem observationRowsComplete : Obligations.ObservationRowsComplete := by
  refine ⟨fun s j hox hlead => ?_, fun s j ins i hox hd hi => ⟨State.oxTick_clipped hox hd hi, State.oxTick_notDl hox hd hi⟩,
    fun s j ins i hox hd hi hc hdl hair hsp => ?_, fun s j po ob pa ov cap hox hlo hhi hcap => ?_, fun s j ds ac ga e he => ?_,
    fun s e p h => ?_, fun s p ok cs pr ap am gm e he => ⟨fun code hr => ?_, fun hr hrow => ?_⟩,
    fun s p e code cap hr hf => ⟨fun hcode hrun => ?_, fun hcode => ?_⟩,
    fun s p cs pr cap => ⟨fun hgain _ => ?_, fun hgain hacf => ?_, fun hgain hacf => ?_⟩⟩
  · rw [exec_obsCaptureStart, execObsCaptureStart, if_pos ⟨hox, hlead⟩]
  · exact ⟨State.oxTick_last hox hd hi hc hdl hair hsp, rfl, rfl, rfl, s.oxCap_oxSamples_inputs j.val i.codes, rfl,
      s.oxCap_oxSamples_atten j.val i.codes⟩
  · rw [exec_obsCaptureEnd]
    exact ⟨_, execObsCaptureEnd_full po ob pa ov hox hlo hhi hcap, rfl, rfl⟩
  · obtain ⟨t, ht, htransfer⟩ := execCaptureDelivered_transfer ds ac ga he
    have hkeeps : Keeps true s t := execCaptureDelivered_keeps (Keeps.refl s) t ht
    rw [exec_captureDelivered]
    exact ⟨t, ht, htransfer, hkeeps.host rfl, hkeeps.elapsed⟩
  · rw [exec_estimationStart, execEstimationStart_taken h]
  · rw [exec_acceptanceGuard, execAcceptanceGuard_published ok cs pr ap am gm he hr]
  · rw [exec_acceptanceGuard, execAcceptanceGuard_rowless ok cs pr ap am gm he hr hrow]
  · rw [State.takeResult_failed hr hf hcode, State.failEstimation_run hrun]
  · subst hcode
    exact State.takeResult_candidate hr hf
  · exact if_pos (by rw [hgain]; rfl)
  · exact (if_neg (by rw [hgain]; decide)).trans (if_pos (by rw [hacf]; rfl))
  · exact (if_neg (by rw [hgain]; decide)).trans (if_neg (by rw [hacf]; decide))

end Sys2Proof.Machine
end

section
/-!
SUPPORT AND PROOFS. Time (R33, R34, R36): a boundary passes a tick's length of time and no other command passes any, and what one
counted boundary makes of TICKNO, FRAME_TICK and SFN.
-/
namespace Sys2Proof.Machine

theorem exec_tickBoundary (x : TickIn) (s : State) : exec (.tickBoundary x) s = .next (s.tickBoundary x) := rfl

/-- A boundary with the device off passes no time. -/
theorem State.elapsed_tickBoundary_off {s : State} (h : s.pwr.off = true) (x : TickIn) : (s.tickBoundary x).elapsed = s.elapsed :=
  ((s.tickBoundary_passes x).1 h).elapsed

/-- A boundary with the device powered passes one tick, whether Crocus counts or not. -/
theorem State.elapsed_tickBoundary_on {s : State} (h : s.pwr.off = false) (x : TickIn) :
    (s.tickBoundary x).elapsed = s.elapsed + 1 :=
  ((s.tickBoundary_passes x).2 h).elapsed

/-- The only command that is a boundary is TICK_BOUNDARY. -/
theorem Instr.eq_tickBoundary {c : Instr} (h : c.isBoundary = true) : ∃ x, c = .tickBoundary x := by
  unfold Instr.isBoundary at h
  split at h
  · exact ⟨_, rfl⟩
  · exact absurd h Bool.false_ne_true

/-- Settles O6: TICK_BOUNDARY by what it passes with the device off and on, every other command by what all of them keep. -/
theorem timePassesAtBoundariesOnly : Obligations.TimePassesAtBoundariesOnly := by
  intro c s t h
  cases hc : c.isBoundary with
  | false => simpa using (exec_keeps c s hc t h).elapsed
  | true =>
    obtain ⟨x, rfl⟩ := Instr.eq_tickBoundary hc
    obtain rfl : s.tickBoundary x = t := by rw [exec_tickBoundary] at h; cases h; rfl
    cases hoff : s.pwr.off with
    | true => simpa using State.elapsed_tickBoundary_off hoff x
    | false => simpa using State.elapsed_tickBoundary_on hoff x

/-! ### The count (R34) -/

/-- FRAME_TICK moves on modulo a frame of 38,400 ticks. -/
theorem nextFrame_frameTick {ft : Nat} (h : ft < 38400) (sfn : Nat) : (nextFrame ft sfn).1 = (ft + 1) % 38400 := by
  unfold nextFrame
  split <;> omega

/-- SFN moves on with the last tick of a frame only. -/
theorem nextFrame_sfn (ft sfn : Nat) : (nextFrame ft sfn).2 = if ft = 38399 then (sfn + 1) % 1024 else sfn := by
  have hlast : ft + 1 = 38400 ↔ ft = 38399 := by omega
  simp only [nextFrame, hlast]
  split <;> rfl

/-- A boundary after the first one counted, with no load, moves the three counts on. -/
theorem State.countTick_counted {s : State} (hload : s.tickLoad = none) (hfirst : s.tick.first = false) :
    s.countTick = (s.setFld F.TCK_TICKNO_TICKNO (tickAdd s.tickno 1)).setFrame
      (nextFrame s.frameTick (s.fld F.TCK_FRAME_SFN)).1 (nextFrame s.frameTick (s.fld F.TCK_FRAME_SFN)).2 := by
  rw [State.countTick, hload]
  exact if_neg (by simp [hfirst])

/-- FRAME_TICK and SFN lie in one register, which is not TICKNO's. -/
@[simp] theorem State.setFrame_tickno (s : State) (ft sfn : Nat) : (s.setFrame ft sfn).tickno = s.tickno := by
  rw [State.tickno, State.setFrame, State.fld_setFld_other _ _ _ _ (by decide), State.fld_setFld_other _ _ _ _ (by decide)]
  rfl

theorem State.setFrame_frameTick {s : State} (h : swf resetWord s.regs = true) (ft sfn : Nat) :
    (s.setFrame ft sfn).frameTick = ft % 2 ^ 16 := by
  rw [State.frameTick, State.setFrame,
    State.fld_setFld_disjoint (f := F.TCK_FRAME_SFN) (g := F.TCK_FRAME_FRAME_TICK) (State.setFld_swf h _ _)
      _ (by decide) rfl (.inl (by decide)),
    State.fld_setFld_same h _ _ (by decide)]
  rfl

theorem State.setFrame_sfn {s : State} (h : swf resetWord s.regs = true) (ft sfn : Nat) :
    (s.setFrame ft sfn).fld F.TCK_FRAME_SFN = sfn % 2 ^ 10 := by
  rw [State.setFrame, State.fld_setFld_same (State.setFld_swf h _ _) _ _ (by decide)]
  rfl

/-- Settles O9: each count reads back what `countTick_counted` stores, for the new values fit their fields. -/
theorem boundaryCountsTickAndFrame : Obligations.BoundaryCountsTickAndFrame := by
  intro s hs hload hfirst hft hsfn
  have hregs := State.regs_swf hs
  have hnext := State.setFld_swf hregs F.TCK_TICKNO_TICKNO (tickAdd s.tickno 1)
  rw [State.countTick_counted hload hfirst, State.setFrame_tickno, State.setFrame_frameTick hnext, State.setFrame_sfn hnext,
    nextFrame_frameTick hft, nextFrame_sfn]
  refine ⟨?_, by omega, by split <;> omega, rfl⟩
  rw [State.tickno, State.fld_setFld_same hregs _ _ (by decide)]
  exact Nat.mod_mod _ _

end Sys2Proof.Machine
end

section
/-!
SUPPORT AND PROOFS. Shadowed registers (R44, R48, R617): what a host write stores and a host read returns, and what an armed commit
leaves until its tick.
-/
namespace Sys2Proof.Machine

/-! ### Writes (R44, R87) -/

/-- An ignored write of FW fields changes its count and its address, and no other register. -/
theorem State.reg_fwIgnored_other (s : State) (a : Nat) {b : Nat} (hcount : b ≠ F.MBX_FW_IGN_COUNT.addr)
    (haddr : b ≠ F.MBX_FW_IGN_ADDR_ADDR.addr) : (s.fwIgnored a).reg b = s.reg b :=
  (State.reg_setFld_other _ _ _ haddr).trans (State.reg_setFld_other _ _ _ hcount)

/-- Registers read alike where the register files are the same. -/
theorem State.reg_of_regs {s t : State} (h : t.regs = s.regs) (a : Nat) : t.reg a = s.reg a := by rw [State.reg, h, State.reg]

/-- The bits that a write stores in a shadowed register reach its shadow copy; an ignored write of FW bits is noted before them. -/
theorem State.storeBits_shadowed {d : RegDesc} (hd : d.shadowed = true) (s : State) (a v : Nat) :
    ∃ t, (t = s.fwIgnored a ∨ t = s) ∧ (s.storeBits d a v).regs = t.regs ∧ (s.storeBits d a v).armed = t.armed := by
  unfold State.storeBits
  extract_lets cur free t mask old kept cleared new
  refine ⟨t, ite_eq_or_eq _ _ _, ?_⟩
  rw [if_neg (by simp [hd])]
  split <;> exact ⟨rfl, rfl⟩

/-- Settles O12: by `storeBits_shadowed` only the note of an ignored FW write reaches an active register. -/
theorem shadowedWriteLeavesActiveCopy : Obligations.ShadowedWriteLeavesActiveCopy := by
  intro s d a v hd
  obtain ⟨t, ht, hregs, harmed⟩ := State.storeBits_shadowed hd s a v
  rcases ht with rfl | rfl
  · exact ⟨fun b hcount haddr => (State.reg_of_regs hregs b).trans (State.reg_fwIgnored_other s a hcount haddr), harmed⟩
  · exact ⟨fun b _ _ => State.reg_of_regs hregs b, harmed⟩

/-! ### Reads (R614-R617) -/

/-- A read that the bus brings to a mapped register whose domain is on returns its word, with the read's side effects. -/
theorem State.readWord_reached {s : State} {a : Nat} (h : s.reaches a) (hm : mapped a = true) :
    s.readWord a = ((s.readOn a).1, true, (s.readOn a).2) := by
  obtain ⟨d, hd, hbus, hoff, hret⟩ := h
  simp [State.readWord, hd, hbus, hm, hoff, hret]

/-- A register whose read has no effect of its own, outside the result window. -/
theorem State.readOn_plain {s : State} {a : Nat} {d : RegDesc} (hd : findReg a = some d) (heff : s.effectRead a = none)
    (hwin : inRange 0x91000 0x92010 a = false) :
    s.readOn a =
      ((if d.shadowed = true ∧ s.flag F.MAP_CTRL_SHADOW_READ = true then s.shadowView a else s.reg a).toNat, s) := by
  simp only [State.readOn, heff, hwin, hd, Bool.false_eq_true, if_false, Bool.and_eq_true]
  split <;> rfl

/-- Settles O13: the bus reaches the register, and its read is a plain one. -/
theorem shadowReadReturnsShadowCopy : Obligations.ShadowReadReturnsShadowCopy := by
  intro s a d hreach hmap hd heff hwin
  rw [State.readWord_reached hreach hmap, State.readOn_plain hd heff hwin]
  rfl

/-! ### Armed commits (R44, R46, R48) -/

/-- Arming a commit changes no active register and no byte of host memory. -/
theorem sameStores_armCommit (s : State) (k : Commit) : SameStores s (s.armCommit k) := by
  obtain ⟨_, _, _, h⟩ := armCommit_only s k
  rw [h]
  exact ⟨fun _ => rfl, fun _ => rfl⟩

theorem mem_armed_armCommit (s : State) (k x : Commit) : x ∈ (s.armCommit k).armed ↔ x = k ∨ x ∈ s.armed := by
  rw [armCommit_armed, mem_insertCommit]

/-- A register's shadow copy takes the bits of a write, and keeps its others. -/
theorem State.shadowReg_writeShadow {s : State} (h : swf (fun b => s.reg b) s.shadow = true) (a m v : Nat) :
    (s.writeShadow a m v).shadowReg a = maskWord (s.shadowReg a).toNat m v := sget_sput_same h

/-- A commit of one write, accepted after all that are armed, leaves the write in the shadow copy. -/
theorem shadow_armCommit_last {s : State} {k : Commit} {a m v : Nat} (hk : k.changes = [.reg a m v])
    (hlast : ∀ x ∈ s.armed, x.seq ≤ k.seq) : (s.armCommit k).shadow = (s.writeShadow a m v).shadow := by
  have hlater : (insertCommit s.armed k).filter (fun x => decide (k.seq < x.seq)) = [] := by
    rw [List.filter_eq_nil_iff]
    intro x hx
    rcases (mem_insertCommit _ _ _).1 hx with rfl | hx
    · simp
    · simpa using hlast x hx
  simp only [State.armCommit, hlater, hk, List.flatMap_nil, List.append_nil, markShadow_reg]
  unfold State.noteItem
  split <;> rfl

/-- Settles O15: `armCmd` and `armLate` are `armCommit` of the commit that stands in the first two clauses; the third is the write to
the shadow copy. -/
theorem armingChangesNothingYet : Obligations.ArmingChangesNothingYet := by
  intro s c us ch b st part pl ps
  refine ⟨?_, ?_, fun k a m v hk hlast hsh => ?_⟩
  · exact ⟨sameStores_armCommit _ _, armCommit_privi _ _, _, armCommit_armed _ _, mem_armed_armCommit _ _,
      rfl, rfl, rfl, rfl, rfl, rfl, rfl, rfl⟩
  · exact ⟨sameStores_armCommit _ _, armCommit_privi _ _, _, armCommit_armed _ _, mem_armed_armCommit _ _,
      rfl, rfl, rfl, rfl, rfl, rfl, rfl, rfl⟩
  · have hreg : (fun b => (s.armCommit k).reg b) = fun b => s.reg b := funext (sameStores_armCommit s k).1
    rw [State.shadowReg, shadow_armCommit_last hk hlast, hreg]
    exact State.shadowReg_writeShadow hsh a m v

end Sys2Proof.Machine
end

section
/-!
SUPPORT AND PROOFS. Crocus (R12, R34, R36, R37, R44, R46, R49, R57): what the writes of TCK_CTRL and TCK_COMMIT_CTRL, a read of
TCK_EVSEQ_LO, a TSYNC edge and a boundary make of the state.
-/
namespace Sys2Proof.Machine

/-! ### The rows -/

theorem exec_tckCtrlRun (b : Bool) (s : State) : exec (.tckCtrlRun b) s = execTckCtrlRun b s := rfl
theorem exec_tckCtrlAlignArm (s : State) :
    exec .tckCtrlAlignArm s = .next (s.onReg 0x4000C (fun s => s.setFld F.TCK_CTRL_ALIGN_ARM 1)) := rfl
theorem exec_tckCtrlPeakClr (s : State) : exec .tckCtrlPeakClr s = .next (s.onReg 0x4000C State.clearPeaks) := rfl
theorem exec_tckCommitArm (s : State) : exec .tckCommitArm s = .next (s.onReg 0x40024 State.armHostCommit) := rfl
theorem exec_tckCommitCancel (s : State) : exec .tckCommitCancel s = .next (s.onReg 0x40024 State.cancelHostCommit) := rfl
theorem exec_tckEvseqLoRead (s : State) : exec .tckEvseqLoRead s = .next (s.hostRead 0x40040) := rfl
theorem exec_tsyncEdge (n : Fin 128) (s : State) : exec (.tsyncEdge n) s = .next (s.tsyncEdge n.val).powerPoll := rfl

/-! ### Accesses that the bus brings -/

/-- A write to a register that the bus reaches acts. -/
theorem State.onReg_reaches {s : State} {a : Nat} (h : s.reaches a) (f : State → State) : s.onReg a f = f s := by
  obtain ⟨d, hd, hbus, hoff, hret⟩ := h
  exact onReg_reached s a d f hd hbus hoff hret

/-- A host read of a register whose read has an effect brings the word and the effect. -/
theorem State.hostRead_effect {s : State} {a : Nat} {r : Nat × State} (h : s.reaches a) (hm : mapped a = true)
    (heff : s.effectRead a = some r) : s.hostRead a = r.2.emit (.readData a r.1) := by
  have hword : s.readWord a = (r.1, true, r.2) := by rw [State.readWord_reached h hm, State.readOn, heff]
  rw [State.hostRead, hword]

/-! ### RUN (R12, R36) -/

theorem State.startTick_locked {s : State} (hstop : s.tickMode = .stopped) (hlock : s.fld (F.CLK_LOOP_STATUS_STATE 4) = 3) :
    s.startTick = { (s.setFld F.TCK_CTRL_RUN 1).setTickMode .free with tick := { s.tick with first := true } } := by
  rw [State.startTick, if_pos hstop, if_pos hlock]

theorem State.startTick_unlocked {s : State} (hstop : s.tickMode = .stopped) (hlock : s.fld (F.CLK_LOOP_STATUS_STATE 4) ≠ 3) :
    s.startTick = (s.setFld F.TCK_CTRL_RUN 0).raiseFree 0x1001 srcOther sevError := by
  rw [State.startTick, if_pos hstop, if_neg hlock]

theorem State.startTick_started {s : State} (hstop : s.tickMode ≠ .stopped) : s.startTick = s.setFld F.TCK_CTRL_RUN 1 := by
  rw [State.startTick, if_neg hstop]

/-- RUN written by firmware, or by the host under FW_WRITE, acts. -/
theorem execTckCtrlRun_allowed {s : State} {b : Bool} (h : s.reaches 0x4000C) (hb : b = true ∨ s.unlocked 3 = true) :
    execTckCtrlRun b s = .next s.startTick := by
  rw [execTckCtrlRun, State.onReg_reaches h, if_pos (by simpa using hb)]

/-- Written by the host without FW_WRITE, it is ignored where it would change the field (R87). -/
theorem execTckCtrlRun_ignored {s : State} (h : s.reaches 0x4000C) (hlock : s.unlocked 3 = false)
    (hrun : s.fld F.TCK_CTRL_RUN = 0) : execTckCtrlRun false s = .next (s.fwIgnored 0x4000C) := by
  rw [execTckCtrlRun, State.onReg_reaches h, if_neg (by simp [hlock]), if_neg (by simp [hrun])]

/-! ### PEAK_CLR -/

/-- The PEAK fields, in the order in which PEAK_CLR clears them. -/
def peakFields : List Fld :=
  (List.range 16).map F.TCK_LOAD_PEAK ++ (List.range 16).map F.QFE_LOAD_PEAK ++ (List.range 16).map F.QFE_TX_LOAD_PEAK ++
    (List.range 16).map F.LE_CYCLES_PEAK

/-- Each of the fields is written as 0. -/
def State.zeroFields (s : State) (l : List Fld) : State := l.foldl (fun t f => t.setFld f 0) s

theorem State.clearPeaks_eq (s : State) : s.clearPeaks = s.zeroFields peakFields := by
  simp only [State.clearPeaks, State.zeroFields, peakFields, List.foldl_append, List.foldl_map]

@[simp] theorem State.zeroFields_privi (s : State) (l : List Fld) : (s.zeroFields l).privi = s.privi :=
  List.foldlRecOn (motive := fun t : State => t.privi = s.privi) l _ rfl (fun _ ht _ _ => ht)

@[simp] theorem State.zeroFields_armed (s : State) (l : List Fld) : (s.zeroFields l).armed = s.armed :=
  List.foldlRecOn (motive := fun t : State => t.armed = s.armed) l _ rfl (fun _ ht _ _ => ht)

/-- A field that reads 0, or is among those written, reads 0 afterwards, where no other of them lies in its register. -/
theorem State.fld_zeroFields {s : State} (h : swf resetWord s.regs = true) {f : Fld} (hf : f.lo + f.width ≤ 32) {l : List Fld}
    (hl : ∀ g ∈ l, g.addr = f.addr → g = f) (h0 : s.fld f = 0 ∨ f ∈ l) : (s.zeroFields l).fld f = 0 := by
  induction l generalizing s with
  | nil => exact h0.resolve_right List.not_mem_nil
  | cons g r ih =>
    refine ih (State.setFld_swf h g 0) (fun x hx => hl x (List.mem_cons_of_mem g hx)) ?_
    by_cases hg : g = f
    · subst hg
      exact .inl ((State.fld_setFld_same h g 0 hf).trans (Nat.zero_mod _))
    · have haddr : f.addr ≠ g.addr := fun e => hg (hl g List.mem_cons_self e.symm)
      rw [State.fld_setFld_other s g f 0 haddr]
      exact h0.imp_right (fun hm => (List.mem_cons.1 hm).resolve_left (Ne.symm hg))

/-- No two PEAK fields lie in one register. -/
theorem peakFields_addr_nodup : (peakFields.map Fld.addr).Nodup := by decide +kernel

theorem peakFields_fit : ∀ f ∈ peakFields, f.lo + f.width ≤ 32 := by decide +kernel

theorem State.fld_clearPeaks {s : State} (h : s.canonical = true) {f : Fld} (hf : f ∈ peakFields) : s.clearPeaks.fld f = 0 := by
  rw [State.clearPeaks_eq]
  exact State.fld_zeroFields (State.regs_swf h) (peakFields_fit f hf)
    (fun g hg e => List.inj_on_of_nodup_map peakFields_addr_nodup hg hf e) (.inr hf)

theorem mem_peakFields {b : Nat} (h : b < 16) : F.TCK_LOAD_PEAK b ∈ peakFields ∧ F.QFE_LOAD_PEAK b ∈ peakFields ∧
    F.QFE_TX_LOAD_PEAK b ∈ peakFields ∧ F.LE_CYCLES_PEAK b ∈ peakFields := by
  have member (g : Nat → Fld) : g b ∈ (List.range 16).map g := List.mem_map_of_mem (List.mem_range.2 h)
  simp only [peakFields, List.mem_append, member, true_or, or_true, and_self]

/-! ### The host commit (R57) -/

/-- The commit that ARM arms: the host's written registers at TCK_COMMIT_TICK. -/
def State.hostCommit (s : State) : Commit :=
  ⟨s.fld F.TCK_COMMIT_TICK_TICK, s.privi.nextSeq, .host, s.hostUnits,
    s.hostDirty.map (fun a => Change.reg a (shadowMask a).toNat (s.shadowReg a).toNat), [], [], []⟩

/-- ARM where no host commit is armed, its tick is far enough off and its units are free. -/
theorem State.armHostCommit_armed {s : State} (hnone : s.armed.all (fun k => decide (k.owner ≠ .host)) = true)
    (htick : tickBefore (s.fld F.TCK_COMMIT_TICK_TICK) (tickAdd s.tickno 2) = false)
    (hfree : s.hostUnits.any (s.unitBusy (s.fld F.TCK_COMMIT_TICK_TICK)) = false) :
    let u := s.setFld F.TCK_COMMIT_STAT_RESULT 1
    s.armHostCommit = { ({ u with privi := { s.privi with nextSeq := s.privi.nextSeq + 1 } } : State).armCommit s.hostCommit with
      hostDirty := s.hostDirty } := by
  intro u
  have hmine : ∀ k ∈ s.armed, k.owner ≠ CommitOwner.host := by simpa using hnone
  have hothers : s.armed.filter (fun k => k.owner != CommitOwner.host) = s.armed :=
    List.filter_eq_self.2 (fun k hk => by simpa using hmine k hk)
  have hbusy : ¬(s.armed.any (fun k => k.owner = CommitOwner.host ∧ k.tick ≠ s.fld F.TCK_COMMIT_TICK_TICK) ∨
      s.hostUnits.any (s.unitBusy (s.fld F.TCK_COMMIT_TICK_TICK))) := by
    rintro (hother | hunits)
    · obtain ⟨k, hk, h⟩ := List.any_eq_true.1 hother
      exact hmine k hk (of_decide_eq_true h).1
    · rw [hfree] at hunits
      exact Bool.false_ne_true hunits
  unfold State.armHostCommit
  extract_lets t ch v w
  rw [if_neg (by simp [t, htick]), if_neg hbusy]
  change { ({ w with armed := s.armed.filter (fun k => k.owner != CommitOwner.host) } : State).armCommit s.hostCommit with
    hostDirty := s.hostDirty } = _
  rw [hothers]
  rfl

/-- CANCEL up to two ticks before the armed host commit's tick. -/
theorem State.cancelHostCommit_pending {s : State} {k : Commit} (hk : s.armed.find? (fun k => k.owner = .host) = some k)
    (htick : tickAfter k.tick (tickAdd s.tickno 1) = true) : s.cancelHostCommit =
      { (s.noteItem (.cancel [k.seq])).setFld F.TCK_COMMIT_STAT_RESULT 4 with
        armed := s.armed.filter (fun x => x.owner != CommitOwner.host) } := by
  rw [State.cancelHostCommit, hk]
  exact if_pos htick

/-- An item for the recorder leaves the registers and the shadow copies. -/
@[simp] theorem State.noteItem_regs (s : State) (i : RecItem) : (s.noteItem i).regs = s.regs := by
  unfold State.noteItem
  split <;> rfl

@[simp] theorem State.noteItem_shadow (s : State) (i : RecItem) : (s.noteItem i).shadow = s.shadow := by
  unfold State.noteItem
  split <;> rfl

/-! ### TSYNC and the boundary (R34, R37) -/

/-- An edge that brings no divider reset and lies where a boundary is due counts as a mark. -/
theorem State.tsyncEdge_marks {s : State} {n : Nat} (hon : s.pwr.off = false) (href : s.pwr.refPresent = true)
    (hcount : s.counting = true) (harm : s.flag F.CLK_SYNC_ARM = false) (hboot : s.bootEdge = false)
    (hn : n % (if s.fld F.CLK_CFG_REF_SEL = 0 then 128 else 32) = s.syncOffset) : s.tsyncEdge n = s.tsyncCount true := by
  simp [State.tsyncEdge, hon, href, hcount, harm, hboot, hn]

/-- A boundary while Crocus does not count (log 129). -/
theorem State.tickBoundary_idle {s : State} (hon : s.pwr.off = false) (hcount : s.counting = false) (x : TickIn) :
    s.tickBoundary x =
      ({ s with outbox := [], privi := { s.privi with takenNow := 0 } }).newTick.passTime.powerPoll.countUnlock := by
  unfold State.tickBoundary
  extract_lets p u
  have hu : u.counting = s.counting := rfl
  exact (if_neg (by simp [u, hon])).trans (if_pos (by simp [hu, hcount]))

/-- A device that does not replay runs no recorded tick. -/
theorem State.replayNext_live {s : State} (h : s.replaying = false) : s.replayNext = none := by
  rw [State.replayNext, if_neg (by simp [h])]

/-- A boundary while Crocus counts and nothing is replayed. -/
theorem State.tickBoundary_live {s : State} (hon : s.pwr.off = false) (hcount : s.counting = true) (hlive : s.replaying = false)
    (x : TickIn) : s.tickBoundary x = ({ s with outbox := [], privi := { s.privi with takenNow := 0 } }).liveTick x := by
  unfold State.tickBoundary
  extract_lets p u
  have hu : u.counting = s.counting := rfl
  have hreplay : u.replaying = false := hlive
  rw [if_neg (by simp [u, hon]), if_neg (by simp [hu, hcount]), State.replayNext_live hreplay]
  exact if_neg (by simp [hreplay])

/-- Settles O20, row by row: a write that the bus brings is what its register's operation does in that case; the boundary while Crocus
does not count is the choice of log 129. -/
theorem crocusRowsComplete : Obligations.CrocusRowsComplete := by
  refine ⟨fun s h hstop => ⟨fun hlock => ?_, fun hlock => ?_⟩, fun s b h hstop hb => ?_, fun s h hlock hrun => ?_, fun s h => ?_,
    fun s hs h => ?_, fun s h hnone htick hfree => ?_, fun s k h hk htick => ?_, fun s h => ?_,
    fun s n hon href hcount harm hboot hn => ?_, fun s x hon hcount => ?_, fun s x hon hcount hlive => ?_⟩
  · rw [exec_tckCtrlRun, execTckCtrlRun_allowed h (.inl rfl), State.startTick_locked hstop hlock]
    exact ⟨_, rfl, rfl, rfl⟩
  · rw [exec_tckCtrlRun, execTckCtrlRun_allowed h (.inl rfl), State.startTick_unlocked hstop hlock]
  · rw [exec_tckCtrlRun, execTckCtrlRun_allowed h hb, State.startTick_started hstop]
  · rw [exec_tckCtrlRun, execTckCtrlRun_ignored h hlock hrun, State.fwIgnored]
  · rw [exec_tckCtrlAlignArm, State.onReg_reaches h]
  · rw [exec_tckCtrlPeakClr, State.onReg_reaches h]
    refine ⟨_, rfl, fun b hb => ?_, ?_, ?_⟩
    · obtain ⟨htck, hqfe, htx, hle⟩ := mem_peakFields hb
      exact ⟨State.fld_clearPeaks hs htck, State.fld_clearPeaks hs hqfe, State.fld_clearPeaks hs htx, State.fld_clearPeaks hs hle⟩
    · rw [State.clearPeaks_eq, State.zeroFields_privi]
    · rw [State.clearPeaks_eq, State.zeroFields_armed]
  · rw [exec_tckCommitArm, State.onReg_reaches h, State.armHostCommit_armed hnone htick hfree]
    refine ⟨_, rfl, armCommit_armed _ _, ?_, rfl, fun a ha => ?_⟩
    · exact congrArg PriviState.nextSeq (armCommit_privi _ _)
    · exact (State.reg_of_regs (armCommit_regs _ _) a).trans (State.reg_setFld_other s _ 1 ha)
  · rw [exec_tckCommitCancel, State.onReg_reaches h, State.cancelHostCommit_pending hk htick]
    refine ⟨_, rfl, rfl, State.noteItem_shadow _ _, fun a ha => ?_⟩
    exact (State.reg_setFld_other _ _ 4 ha).trans (State.reg_of_regs (State.noteItem_regs _ _) a)
  · rw [exec_tckEvseqLoRead, State.hostRead_effect (r := s.readEvseqLo) h (by decide) rfl, State.readEvseqLo]
  · rw [exec_tsyncEdge, State.tsyncEdge_marks hon href hcount harm hboot hn]
  · rw [exec_tickBoundary, State.tickBoundary_idle hon hcount]
  · rw [exec_tickBoundary, State.tickBoundary_live hon hcount hlive]

end Sys2Proof.Machine
end

section
/-!
SUPPORT AND PROOFS. Events (R53, R54, R532-R534, R536, R537, R545): which event the arbiter grants and what a grant leaves, what
Lavender takes, what is pushed and read, and where an uncorrectable error is raised.
-/
namespace Sys2Proof.Machine

/-! ### The rows -/

theorem exec_eventArbitration (src : Nat) (s : State) : exec (.eventArbitration src) s = execEventArbitration src s := rfl
theorem exec_eventRecord (s : State) : exec .eventRecord s = .next s.recordEvent := rfl
theorem exec_notifyPush (code : Nat) (s : State) : exec (.notifyPush code) s = .next (s.notifyPush code) := rfl
theorem exec_eccUncorrectableError (p : EccPlace) (s : State) : exec (.eccUncorrectableError p) s = .next (s.eccError p) := rfl
theorem exec_evrNotifyRead (s : State) : exec .evrNotifyRead s = .next (s.hostRead 0x50018) := rfl
theorem exec_evrWinDataRead (s : State) : exec .evrWinDataRead s = .next (s.hostRead 0x50044) := rfl

/-! ### The arbiter (R53, R54) -/

/-- The events among which turns decide: those of the oldest tick at the heads of the sources' buffers. -/
def State.oldestHeads (s : State) : List Event :=
  (headEvents s.ev.waiting []).filter (fun e => some e.tick == oldestTick (headEvents s.ev.waiting []))

theorem State.mem_oldestHeads {s : State} {e : Event} : e ∈ s.oldestHeads ↔
    e ∈ headEvents s.ev.waiting [] ∧ some e.tick = oldestTick (headEvents s.ev.waiting []) := by
  simp [State.oldestHeads]

/-- How far an event's source lies beyond the one served last. -/
def State.turn (s : State) (e : Event) : Nat := turnOf s.ev.granted e.source

/-- The arbiter grants the event whose source's turn comes first (log 135). -/
theorem State.nextGrant_eq_argmin (s : State) : s.nextGrant = s.oldestHeads.argmin s.turn := by
  have hstep : (fun (o : Option Event) (e : Event) => match o with
      | some b => if turnOf s.ev.granted e.source < turnOf s.ev.granted b.source then some e else some b
      | none => some e) = List.argAux (fun b c => s.turn b < s.turn c) := by
    funext o e
    cases o <;> rfl
  exact congrArg (fun f => s.oldestHeads.foldl f none) hstep

theorem State.numberAnchors_ev (s : State) (t n : Nat) : (s.numberAnchors t n).ev = s.ev :=
  List.foldlRecOn (motive := fun u : State => u.ev = s.ev) _ _ rfl (fun _ hu _ _ => by
    dsimp only
    split <;> exact hu)

theorem State.recEventTrigger_ev (s : State) (code t : Nat) : (s.recEventTrigger code t).ev = s.ev := by
  unfold State.recEventTrigger
  split
  · split <;> rfl
  · rfl

/-- A grant gives the event the next EVSEQ and hands it to Lavender; of the events' state nothing else changes. -/
theorem State.grantEvent_ev {s : State} {e : Event} (he : s.nextGrant = some e) (hfab : s.domain 2 = 1)
    (hroom : s.ev.queue.length < 256) : s.grantEvent.ev = { s.ev with
      waiting := dropEvent e.source s.ev.waiting, evseq := s.ev.evseq + 1, queue := s.ev.queue ++ [(e, s.ev.evseq)],
      granted := e.source } := by
  simp only [State.grantEvent, he, hfab, hroom, and_self, if_true, State.recEventTrigger_ev, State.numberAnchors_ev]

/-- The row of the source whose turn it is grants. -/
theorem execEventArbitration_granted {s : State} {e : Event} (he : s.nextGrant = some e) :
    execEventArbitration e.source s = .next s.grantEvent := by
  rw [execEventArbitration, if_pos (by simp [he])]

/-! ### Lavender (R532, R537) -/

/-- Lavender takes the oldest event of its queue, and, after the switch to the shadow bank, LOG_MEM_FAIL first. -/
theorem State.nextRecord_head {s : State} {x : Event × Nat} {r : List (Event × Nat)} (hq : s.ev.queue = x :: r)
    (hdue : s.ev.failDue = false) : s.nextRecord = some x := by
  simp [State.nextRecord, hdue, hq]

theorem State.nextRecord_memFail {s : State} {x : Event × Nat} (hx : s.ev.queue.find? (fun x => x.1.code == 0xF001) = some x)
    (hdue : s.ev.failDue = true) : s.nextRecord = some x := by
  simp [State.nextRecord, hdue, hx]

/-- The event that Lavender takes leaves its queue, is recorded and is counted. -/
theorem State.recordEvent_taken {s : State} {e : Event} {n : Nat} (h : s.nextRecord = some (e, n)) : s.recordEvent =
    (({ s with ev := { s.ev with
      queue := dropSeq n s.ev.queue, failDue := s.ev.failDue && e.code != 0xF001 } }).logEvent e n).countFault e := by
  rw [State.recordEvent, h]

/-! ### The notify queue (R534, R536) -/

theorem State.sendMsix_ev (s : State) (v : Nat) : (s.sendMsix v).ev = s.ev := by
  unfold State.sendMsix
  dsimp only
  split <;> rfl

theorem State.irqEdges_ev (s old : State) : (s.irqEdges old).ev = s.ev :=
  List.foldlRecOn (motive := fun u : State => u.ev = s.ev) _ _ rfl (fun _ hu _ _ => by
    split
    · exact (State.sendMsix_ev _ _).trans hu
    · exact hu)

theorem State.setEvrIrq_ev (s : State) (b : Nat) : (s.setEvrIrq b).ev = s.ev := State.irqEdges_ev _ _

/-- A code's configuration reads as stored, where it differs from the default. -/
theorem State.codeCfg_putCodeCfg {c : CodeCfg} (h : c ≠ CodeCfg.init) (s : State) (code : Nat) :
    (s.putCodeCfg code c).codeCfg code = c := sget_sput_listed h _

/-- A due code not pushed before joins the notify queue, and waits for no push any more. -/
theorem State.notifyPush_first {s : State} {code : Nat} (hdue : (s.codeCfg code).due = true)
    (hnew : (s.codeCfg code).pushedAt = none) (hroom : s.ev.notify.length < 64) :
    let c := { s.codeCfg code with due := false, ovfSeen := false, pushedAt := some s.elapsed }
    s.notifyPush code = { (s.putCodeCfg code c).setEvrIrq 0 with
      ev := { (s.putCodeCfg code c).ev with notify := s.ev.notify ++ [code] } } := by
  simp only [State.notifyPush, hdue, hnew, hroom, Bool.and_self, if_true]
  rfl

theorem State.readNotify_cons {s : State} {c : Nat} {r : List Nat} (h : s.ev.notify = c :: r) :
    s.readNotify = (2 ^ 31 + (r.length + 1) * 2 ^ 16 + c, { s with ev := { s.ev with notify := r } }) := by
  simp only [State.readNotify, h, List.length_cons]

/-! ### The window (R545) -/

/-- A read of the window advances its index and leaves the events' state and what has left the device. -/
theorem State.readEvrWin_eq (s : State) : ∃ v ecc, s.readEvrWin =
    (v, (s.setFld F.EVR_WIN_STAT_ECC ecc).setFld F.EVR_WIN_ADDR_INDEX ((s.fld F.EVR_WIN_ADDR_INDEX + 1) % 2 ^ 14)) :=
  ⟨_, _, rfl⟩

/-! ### Memory errors (R539) -/

/-- Raising an event changes the count of dropped events, and no other register. -/
theorem State.reg_raise_other (s : State) (code value source sev : Nat) {a : Nat} (ha : a ≠ F.TCK_ARB_DROP_COUNT.addr) :
    (s.raise code value source sev).reg a = s.reg a := by
  unfold State.raise State.raiseEv
  extract_lets f u t
  split
  · rfl
  · exact State.reg_setFld_other u _ _ ha

theorem State.reg_raiseFree_other (s : State) (code source sev : Nat) {a : Nat} (ha : a ≠ F.TCK_ARB_DROP_COUNT.addr) :
    (s.raiseFree code source sev).reg a = s.reg a := State.reg_raise_other (s.fresh 32).2 _ _ _ _ ha

/-- An engine's status stands at the base of its block of 64 KiB, from 0x400000 on. -/
theorem engStatus_addr_ne {e a : Nat} (ha : a < 0x400000 ∨ a % 0x10000 ≠ 0) : (F.LE_STATUS_STATE e).addr ≠ a := by
  have haddr : (F.LE_STATUS_STATE e).addr = 0x400000 + 0x10000 * e := rfl
  omega

/-- An uncorrectable error in a running engine's cluster memory is that engine's fault 7 (R392). -/
theorem State.eccError_cluster {s : State} {e : Fin 16} (h : s.engRun e.val = .running) : s.eccError (.cluster e) =
    ((s.addFld F.CLM_ECC_UNCORR_COUNT 1).raiseFree 0xB006 (srcBlock 13) sevError).engFault e.val 7 := by
  have hreg : ((s.addFld F.CLM_ECC_UNCORR_COUNT 1).raiseFree 0xB006 (srcBlock 13) sevError).reg (F.LE_STATUS_STATE e.val).addr =
      s.reg (F.LE_STATUS_STATE e.val).addr :=
    (State.reg_raiseFree_other _ _ _ _ (engStatus_addr_ne (.inl (by decide)))).trans
      (State.reg_setFld_other s _ _ (engStatus_addr_ne (.inr (by decide))))
  refine if_pos ?_
  rw [← h, State.engRun, State.fld, hreg]
  rfl

/-- Settles O21, row by row. The order in which the arbiter serves its sources, `turnOf`, is the choice of log 135. -/
theorem eventRowsComplete : Obligations.EventRowsComplete := by
  refine ⟨fun s e he hfab hroom => ?_, fun s e n r hq hdue => ?_, fun s e n hx hdue => ?_, fun s code hdue hnew hroom => ?_,
    fun s src => rfl, fun s e h => ?_, fun s c r h hn => ?_, fun s hs h => ?_⟩
  · have hev := State.grantEvent_ev he hfab hroom
    have hmin : e ∈ s.oldestHeads.argmin s.turn := by rw [← State.nextGrant_eq_argmin, he]; rfl
    obtain ⟨hhead, hold⟩ := State.mem_oldestHeads.1 (List.argmin_mem hmin)
    refine ⟨_, by rw [exec_eventArbitration, execEventArbitration_granted he], ?_⟩
    rw [hev]
    refine ⟨rfl, rfl, rfl, rfl, rfl, hhead, hold, fun x hx hxt => ?_⟩
    have hle : s.turn e ≤ s.turn x := List.le_of_mem_argmin (State.mem_oldestHeads.2 ⟨hx, by rw [hxt, hold]⟩) hmin
    exact hle
  · rw [exec_eventRecord, State.recordEvent_taken (State.nextRecord_head hq hdue)]
    simp [hq, hdue, dropSeq]
  · have hcode : e.code = 0xF001 := by simpa using List.find?_some hx
    rw [exec_eventRecord, State.recordEvent_taken (State.nextRecord_memFail hx hdue)]
    simp [hcode]
  · refine ⟨_, by rw [exec_notifyPush, State.notifyPush_first hdue hnew hroom], rfl, ?_⟩
    exact congrArg CodeCfg.due (State.codeCfg_putCodeCfg (by simp [CodeCfg.init]) s code)
  · rw [exec_eccUncorrectableError, State.eccError_cluster h]
  · rw [exec_evrNotifyRead, State.hostRead_effect (r := s.readNotify) h (by decide) rfl, State.readNotify_cons hn]
  · obtain ⟨v, ecc, hread⟩ := s.readEvrWin_eq
    rw [exec_evrWinDataRead, State.hostRead_effect (r := s.readEvrWin) h (by decide) rfl, hread]
    refine ⟨_, v, rfl, rfl, ?_, rfl⟩
    have hindex := State.fld_setFld_same (State.setFld_swf (State.regs_swf hs) F.EVR_WIN_STAT_ECC ecc) F.EVR_WIN_ADDR_INDEX
      ((s.fld F.EVR_WIN_ADDR_INDEX + 1) % 2 ^ 14) (by decide)
    exact hindex.trans (Nat.mod_mod _ _)

end Sys2Proof.Machine
end

section
/-!
SUPPORT AND PROOFS. Host memory and the result store (R63, R70, R74, R298, R410, R415): the commands that leave every byte of host
memory alone, and what the end of a command leaves of the slots.
-/
namespace Sys2Proof.Machine

/-! ### Host memory -/

/-- A boundary may write host memory, so a command that may not is none. -/
theorem Instr.isBoundary_eq_false {c : Instr} (h : c.writesHost = false) : c.isBoundary = false := by
  by_contra hb
  obtain ⟨x, rfl⟩ := Instr.eq_tickBoundary (by simpa using hb)
  exact absurd h Bool.noConfusion

/-- Settles O7: a command that may not write host memory is no boundary, and keeps host memory as a whole. -/
theorem hostMemoryFrame : Obligations.HostMemoryFrame := by
  intro c s t hc h a
  have hkeep := exec_keeps c s (Instr.isBoundary_eq_false hc) t h
  rw [State.hostByte, hkeep.host (by simp [hc]), State.hostByte]

/-! ### Slots (R73, R74) -/

theorem State.tag_of_slotOf {s : State} {tag : Nat} {x : Slot} (h : s.slotOf tag = some x) : x.tag = tag := by
  simpa using List.find?_some h

/-- The slot that is put is the one found under its tag. -/
theorem find?_putSlot_same {y : Slot} {tag : Nat} (hy : y.tag = tag) (l : List Slot) :
    (putSlot l tag (some y)).find? (fun x => x.tag == tag) = some y := by
  induction l with
  | nil => simp [putSlot, hy]
  | cons x r ih => cases hx : x.tag == tag <;> simp [putSlot, hx, hy, ih]

/-- Putting a slot leaves what is found under every other tag. -/
theorem find?_putSlot_other {y : Slot} {tag j : Nat} (hy : y.tag = tag) (hj : j ≠ tag) (l : List Slot) :
    (putSlot l tag (some y)).find? (fun x => x.tag == j) = l.find? (fun x => x.tag == j) := by
  have hyj : (y.tag == j) = false := by simpa [hy] using hj.symm
  induction l with
  | nil => simp [putSlot, hyj]
  | cons x r ih =>
    cases hx : x.tag == tag with
    | true =>
      have hxj : (x.tag == j) = false := by simpa [eq_of_beq hx] using hj.symm
      simp [putSlot, hx, hyj, hxj]
    | false => simp [putSlot, hx, List.find?_cons, ih]

/-- The end of a command that has not ended before. -/
theorem State.finish_first {s : State} {tag : Nat} {x : Slot} (hx : s.slotOf tag = some x) (hst : x.st = .pending ∨ x.st = .releasing)
    (hnone : x.outcome = none) (o : Outcome) : s.finish tag o =
      s.putPrivi { s.privi with slots := putSlot s.privi.slots tag (some { x with outcome := some o }) } := by
  rw [State.finish, hx]
  exact if_pos ⟨hst, hnone⟩

/-- A command that has ended ends no second time. -/
theorem State.finish_again {s : State} {tag : Nat} {x : Slot} (hx : s.slotOf tag = some x) (hsome : x.outcome ≠ none) (o : Outcome) :
    s.finish tag o = s := by
  rw [State.finish, hx]
  exact if_neg (fun h => hsome h.2)

/-- Settles O16: the first end puts the slot with its outcome, and any later one nothing. -/
theorem firstEndStandsInSlot : Obligations.FirstEndStandsInSlot := by
  intro s tag x o hx hst
  have htag : x.tag = tag := State.tag_of_slotOf hx
  refine ⟨fun hnone => ?_, fun hsome => State.finish_again hx hsome o, fun j hj => ?_⟩
  · rw [State.finish_first hx hst hnone]
    exact find?_putSlot_same (y := { x with outcome := some o }) htag _
  · by_cases hnone : x.outcome = none
    · rw [State.finish_first hx hst hnone]
      exact find?_putSlot_other (y := { x with outcome := some o }) htag hj _
    · rw [State.finish_again hx hnone]

end Sys2Proof.Machine
end

section
/-!
SUPPORT AND PROOFS. Privi's own commands and atomic groups (R75-R77, R80-R83): a start command that stands due is taken up and
performed, the layouts of the identity and the health payloads, what an acknowledgement releases, and the end of an abandoned group.
-/
namespace Sys2Proof.Machine

/-! ### The rows -/

theorem exec_sysNop (tag : Nat) (s : State) : exec (.sysNop tag) s = execSysNop tag s := rfl
theorem exec_atomicGroupClose (tag : Nat) (s : State) : exec (.atomicGroupClose tag) s = execAtomicGroupClose tag s := rfl
theorem exec_sysIdentify (tag : Nat) (s : State) : exec (.sysIdentify tag) s = execSysIdentify tag s := rfl
theorem exec_sysGetHealth (tag : Nat) (s : State) : exec (.sysGetHealth tag) s = execSysGetHealth tag s := rfl
theorem exec_resultAck (tag : Nat) (s : State) : exec (.resultAck tag) s = execResultAck tag s := rfl
theorem exec_groupAbandoned (id : Nat) (s : State) : exec (.groupAbandoned id) s = execGroupAbandoned id s := rfl

/-! ### Start commands -/

/-- A start command that stands due is performed on the state that has taken it up. -/
theorem Starts.performStart {s u : State} {op tag : Nat} {c : Cmd} (h : Starts s op tag c u) {sel : Cmd → Bool} (hs : sel c = true)
    (f : Cmd → State → State) : s.performStart op tag sel f = f c u := by
  obtain ⟨hc, ht, rfl⟩ := h
  exact performStart_taken s op tag sel f c hc hs ht

/-- The close acts on the group that was accepted under its tag. -/
theorem execAtomicGroupClose_found {s u : State} {tag : Nat} {c : Cmd} {g : Group} (h : Starts s 0x0100 tag c u)
    (hc : c.atomic = true) (hg : u.findGroup (65536 + c.tag) = some g) : execAtomicGroupClose tag s = .next (u.closeGroup c g) := by
  rw [execAtomicGroupClose, h.performStart hc, hg]

/-! ### Payloads (Tables 03-8a, 03-8b) -/

theorem State.identity_length (s : State) : s.identity.length = 48 := by simp [State.identity]

theorem State.identity_head (s : State) : s.identity.take 18 = leBytes 16 Config.deviceId ++ leBytes 2 0x6408 := by
  simp (disch := simp) only [State.identity, List.take_append_of_le_length]
  exact List.take_of_length_le (by simp)

theorem State.health_length (s : State) : s.health.length = 40 := by simp [State.health]

theorem State.health_head (s : State) : s.health.take 4 = leBytes 1 (s.fld F.PWR_STATUS_STATE) ++
    leBytes 1 (s.fld F.TCK_STATUS_STATE) ++ leBytes 1 (s.fld F.MBX_STATUS_MODE) ++ leBytes 1 (s.fld F.EVR_STATUS_REPLACE) := by
  simp (disch := simp) only [State.health, List.take_append_of_le_length]
  exact List.take_of_length_le (by simp)

/-! ### RESULT_ACK (R83) -/

/-- A slot whose result stands stored is freed. -/
theorem State.releaseSlot_stored {s : State} {tag : Nat} {x : Slot} (hx : s.slotOf tag = some x)
    (hst : x.st = .ready ∨ x.st = .read) :
    s.releaseSlot tag = (s.putPrivi { s.privi with slots := putSlot s.privi.slots tag none }, 1, 0) := by
  rw [State.releaseSlot, hx]
  rcases hst with h | h <;> simp only [h]

/-- An acknowledgement of one stored result, without a reply, frees its slot. -/
theorem execResultAck_one {s : State} {tag k : Nat} {c : Cmd} {x : Slot} (hc : s.acceptedCmd 0x0105 tag = some c)
    (hn : leAt c.payload 0 2 ≠ 0) (hk : ackTags c = [k]) (hx : (s.takeCmd c).slotOf k = some x) (hst : x.st = .ready ∨ x.st = .read)
    (hdry : c.dryRun = false) (hack : c.ackReq = false) : execResultAck tag s = .next ((s.takeCmd c).putPrivi { (s.takeCmd c).privi with
      slots := putSlot (s.takeCmd c).privi.slots k none }) := by
  simp only [execResultAck, hc, hn, hk, hdry, hack, if_false, Bool.false_eq_true, List.foldl_cons, List.foldl_nil,
    State.releaseSlot_stored hx hst]

/-! ### GROUP_ABANDONED (R77) -/

/-- An open group whose time has run out ends, and all its members with it. -/
theorem execGroupAbandoned_due {s : State} {id : Nat} {g : Group} (hg : s.privi.groups.find? (fun g => g.id == id) = some g)
    (hid : id < 65536) (hdue : g.opened + 3840 ≤ s.elapsed) : execGroupAbandoned id s =
      .next (g.members.foldl (fun s c => s.finishNow c.tag .timeout [])
        (s.putPrivi { s.privi with groups := s.privi.groups.filter (fun x => x.id != id) })) := by
  rw [execGroupAbandoned, hg]
  exact congrArg _ (if_pos ⟨hid, hdue⟩)

/-- Settles O23, row by row. -/
theorem mailboxCommandsComplete : Obligations.MailboxCommandsComplete := by
  refine ⟨fun s tag c u h hc => ?_, fun s tag c u g h hc hg => ?_, fun s tag c u h => ⟨?_, u.identity_length, u.identity_head⟩,
    fun s tag c u h => ⟨?_, u.health_length, u.health_head⟩, fun s tag k c x hc hn hk hx hst hdry hack => ?_,
    fun s id g hg hid hdue => ?_⟩
  · rw [exec_sysNop, execSysNop, h.performStart (by simp [hc])]
  · rw [exec_atomicGroupClose, execAtomicGroupClose_found h hc hg]
  · rw [exec_sysIdentify, execSysIdentify, h.performStart rfl]
  · rw [exec_sysGetHealth, execSysGetHealth, h.performStart rfl]
  · rw [exec_resultAck, execResultAck_one hc hn hk hx hst hdry hack]
  · rw [exec_groupAbandoned, execGroupAbandoned_due hg hid hdue]

end Sys2Proof.Machine
end

section
/-!
SUPPORT AND PROOFS. The control pairs (R84-R86, R539, Table 03-8): the takeover from NORMAL, the retirement of the lost pair for
another mismatch, and its boot in TAKEOVER and in SOLO.
-/
namespace Sys2Proof.Machine

/-! ### The rows -/

theorem exec_lockstepMismatch (x : Fin 2) (s : State) : exec (.lockstepMismatch x) s = execLockstepMismatch x s := rfl
theorem exec_fwWatchdog (x : Fin 2) (s : State) : exec (.fwWatchdog x) s = execFwWatchdog x s := rfl
theorem exec_takeoverComplete (s : State) : exec .takeoverComplete s = execTakeoverComplete s := rfl
theorem exec_pairBootComplete (x : Fin 2) (ok : Bool) (s : State) : exec (.pairBootComplete x ok) s = execPairBootComplete x ok s := rfl

/-! ### What an event leaves of the pairs' state -/

/-- Raising an event notes it among the tick's events, and leaves everything else of the faults' state. -/
theorem State.raiseFree_fault (s : State) (code source sev : Nat) : ∃ l, (s.raiseFree code source sev).fault =
    { s.fault with raised := l } := by
  unfold State.raiseFree State.raise State.raiseEv
  dsimp only
  split
  · exact ⟨_, rfl⟩
  · exact ⟨_, rfl⟩

/-- Raising an event passes no time. -/
theorem State.raiseFree_elapsed (s : State) (code source sev : Nat) : (s.raiseFree code source sev).elapsed = s.elapsed :=
  (State.raiseFree_keeps (kq := false) (Keeps.refl s)).elapsed

/-- Raising an event leaves the control mode. -/
theorem State.raiseFree_mode (s : State) (code source sev : Nat) :
    (s.raiseFree code source sev).fld F.MBX_STATUS_MODE = s.fld F.MBX_STATUS_MODE := by
  rw [State.fld, State.reg_raiseFree_other _ _ _ _ (by decide), State.fld]

/-! ### Mismatches -/

/-- The control system is in TAKEOVER in mode 1 alone. -/
theorem State.inTakeover_iff (s : State) : s.inTakeover = true ↔ s.fld F.MBX_STATUS_MODE = 1 := beq_iff_eq

/-- In SOLO another mismatch of the lost pair within 1 s retires it. -/
theorem State.pairFails_retires {s : State} {x : Nat} (hlost : s.fault.lost = false)
    (hmode : s.fld F.MBX_STATUS_MODE = 2 ∨ s.fld F.MBX_STATUS_MODE = 3) (hpair : s.fault.lostPair = some x)
    (hret : s.isRetired (srcPair x) = false) (hrecent : s.mismatchRecent x = true) :
    s.pairFails x = { s with fault := { s.fault with bootWaiting := false } }.retirePair x := by
  have hnormal : s.fld F.MBX_STATUS_MODE ≠ 0 := by omega
  have htake : ¬ s.inTakeover = true := by rw [State.inTakeover_iff]; omega
  rw [State.pairFails, if_neg (by simp [hlost]), if_neg hnormal, if_pos hpair, if_neg (by simp [htake, hret]), if_pos hrecent]

/-- A mismatch of a device that is not lost raises its event and fails its pair. -/
theorem execLockstepMismatch_live {s : State} (hlost : s.fault.lost = false) (x : Fin 2) :
    execLockstepMismatch x s = .next ((s.raiseFree 0x0001 (srcPair x.val) sevError).pairFails x.val) := by
  rw [execLockstepMismatch, if_neg (by simp [hlost])]

/-- A watchdog's expiry raises its own event in place of the mismatch's (log 107). -/
theorem execFwWatchdog_live {s : State} (hlost : s.fault.lost = false) (x : Fin 2) :
    execFwWatchdog x s = .next ((s.raiseFree 0x0006 (srcPair x.val) sevError).pairFails x.val) := by
  rw [execFwWatchdog, if_neg (by simp [hlost])]

/-- What raising the mismatch's event leaves: the lost pair, its retirement and its mismatches stand as before. -/
theorem State.pairFails_raiseFree_retires {s : State} {x : Nat} (hlost : s.fault.lost = false)
    (hmode : s.fld F.MBX_STATUS_MODE = 2 ∨ s.fld F.MBX_STATUS_MODE = 3) (hpair : s.fault.lostPair = some x)
    (hret : s.isRetired (srcPair x) = false) (hrecent : s.mismatchRecent x = true) (code source sev : Nat) :
    let u := s.raiseFree code source sev
    u.pairFails x = { u with fault := { u.fault with bootWaiting := false } }.retirePair x := by
  obtain ⟨l, hfault⟩ := s.raiseFree_fault code source sev
  refine State.pairFails_retires ?_ ?_ ?_ ?_ ?_
  · rw [hfault, hlost]
  · rw [State.raiseFree_mode]
    exact hmode
  · rw [hfault, hpair]
  · rw [← hret, State.isRetired, hfault, State.isRetired]
  · rw [← hrecent, State.mismatchRecent, hfault, State.raiseFree_elapsed, State.mismatchRecent]

/-- The end of a takeover. -/
theorem execTakeoverComplete_done {s : State} (hlost : s.fault.lost = false) (hmode : s.fld F.MBX_STATUS_MODE = 1) :
    execTakeoverComplete s = .next (s.setMode (if s.fault.lostPair = some 1 then 2 else 3)).answerWaiting.soloRows := by
  rw [execTakeoverComplete, if_pos (by simp [State.inTakeover_iff, hmode, hlost])]

/-! ### The lost pair's boot -/

/-- The lost pair's boot has ended: it waits, or has failed. -/
def State.bootEnds (s : State) (ok : Bool) : State :=
  { s with fault := { s.fault with bootWaiting := ok, bootFailed := !ok } }

/-- Without an activation in progress, the boot's end is the lost pair's. -/
theorem execPairBootComplete_lost {s : State} {x : Fin 2} (hact : s.sec.activation = none) (hpair : s.fault.lostPair = some x.val)
    (hret : s.isRetired (srcPair x.val) = false) (hlost : s.fault.lost = false) (ok : Bool) :
    execPairBootComplete x ok s = .next (if s.inTakeover then s.bootEnds ok else (s.bootEnds ok).soloRows) := by
  rw [execPairBootComplete, hact]
  exact congrArg _ (if_neg (by simp [hpair, hret, hlost]))

/-- A pair that has booted, with no earlier mismatch within 1 s, waits for its frame boundary. -/
theorem State.soloRows_booted {s : State} (hagain : s.fault.lostAgain = false) : (s.bootEnds true).soloRows = s.bootEnds true := by
  unfold State.soloRows
  split
  · exact if_neg (by simp [State.bootEnds, hagain])
  · rfl

/-- A failed boot, or an earlier mismatch within 1 s, retires the pair. -/
theorem State.soloRows_retires {s : State} {x : Nat} {ok : Bool} (hpair : s.fault.lostPair = some x)
    (h : ok = false ∨ s.fault.lostAgain = true) : (s.bootEnds ok).soloRows =
      State.retirePair { s with fault := { s.fault with bootWaiting := false, bootFailed := false } } x := by
  have hmatch : (s.bootEnds ok).fault.lostPair = some x := hpair
  rw [State.soloRows, hmatch]
  refine if_pos ?_
  cases ok with
  | false => exact .inl rfl
  | true => exact .inr ⟨rfl, h.resolve_left Bool.noConfusion⟩

/-- Settles O24, row by row. The watchdog's event in place of the mismatch's is log 107, and a boot that ends in TAKEOVER waits by
log 108. -/
theorem controlPairRowsComplete : Obligations.ControlPairRowsComplete := by
  refine ⟨fun s x hs hlost hmode => ⟨?_, ?_⟩, fun s x hlost hmode => ?_, fun s hlost hmode => ?_,
    fun s x hlost hmode hpair hret hrecent => ?_, fun s x hact hpair hret hlost => ⟨fun hmode ok => ?_, fun hmode =>
      ⟨fun hagain => ?_, fun hagain => ?_, ?_⟩⟩⟩
  · have hexec := (exec_lockstepMismatch x s).trans (execLockstepMismatch_live hlost x)
    exact ⟨_, hexec, rfl, (exec_keeps _ s rfl _ hexec).elapsed⟩
  · have hexec := (exec_fwWatchdog x s).trans (execFwWatchdog_live hlost x)
    exact ⟨_, hexec, rfl, (exec_keeps _ s rfl _ hexec).elapsed⟩
  · rw [State.pairFails, if_neg (by simp [hlost]), if_pos hmode]
  · rw [exec_takeoverComplete, execTakeoverComplete_done hlost hmode]
  · refine ⟨_, rfl, ?_⟩
    rw [exec_lockstepMismatch, execLockstepMismatch_live hlost, State.pairFails_raiseFree_retires hlost hmode hpair hret hrecent]
  · have htake : s.inTakeover = true := s.inTakeover_iff.2 hmode
    rw [exec_pairBootComplete, execPairBootComplete_lost hact hpair hret hlost, if_pos htake]
    rfl
  all_goals
    have htake : ¬ s.inTakeover = true := mt s.inTakeover_iff.1 hmode
    rw [exec_pairBootComplete, execPairBootComplete_lost hact hpair hret hlost, if_neg htake]
  · rw [State.soloRows_booted hagain]
    rfl
  · rw [State.soloRows_retires hpair (.inr hagain)]
  · rw [State.soloRows_retires hpair (.inl rfl)]

end Sys2Proof.Machine
end

section
/-!
SUPPORT AND PROOFS. Register accesses (R87, R613-R615, R618-R620): a whole word written to a register on the bus, an access of part
of a word, and the frames of the SPI window as accesses in turn.
-/
namespace Sys2Proof.Machine

/-! ### The rows -/

theorem exec_registerWrite (a : Fin 16777216) (n : Fin 16) (v : Word) (e : RegEnv) (s : State) :
    exec (.registerWrite a n v e) s = .next (s.hostWrite32 (a.val / 4 * 4) n.val v.toNat e) := rfl
theorem exec_spiWindowWrite (fix : Bool) (a : Fin 16777216) (n : Fin 8) (data : List Byte) (e : RegEnv) (s : State) :
    exec (.spiWindowWrite fix a n data e) s = .next (s.spiWindowWrite fix a.val (n.val + 1) data e) := rfl
theorem exec_spiWindowRead (fix : Bool) (a : Fin 16777216) (n : Fin 8) (k : Fin 9) (s : State) :
    exec (.spiWindowRead fix a n k) s = .next (s.spiWindowRead fix a.val (n.val + 1) k.val) := rfl

/-! ### Words -/

theorem leValue_lt (bs : List Byte) : leValue bs < 256 ^ bs.length := by
  induction bs with
  | nil => simp [leValue]
  | cons b r ih =>
    have hb : b.toNat < 256 := b.isLt
    rw [leValue, List.length_cons, pow_succ]
    omega

/-- A field of `n` bytes fits them. -/
theorem leAt_lt (bs : List Byte) (off n : Nat) : leAt bs off n < 256 ^ n :=
  (leValue_lt _).trans_le (Nat.pow_le_pow_right (by decide) (by simp [slice]))

/-- A word of the data, as the word a register takes. -/
theorem toNat_ofNat_leAt (bs : List Byte) (off : Nat) : (BitVec.ofNat 32 (leAt bs off 4)).toNat = leAt bs off 4 :=
  Nat.mod_eq_of_lt (leAt_lt bs off 4)

/-! ### Whole words (R613-R615) -/

/-- A whole word written to a register that the bus reaches: its bits are stored, and what the register starts begins. A register
inside the core boundary is noted for the recorder first. -/
theorem State.writeWord_register {s u : State} {a v : Nat} {d : RegDesc} (h : s.reaches a) (hm : mapped a = true)
    (hd : findReg a = some d) (hu : u = if inCore a = true then s.noteItem (.write a v) else s) (hwin : u.writeWindow a v = none)
    (hmsix : msixTable a = false) (e : RegEnv) :
    s.writeWord a v e = ((u.storeBits d a v).afterWrite u d a v e).irqEdges u := by
  rw [State.writeWord, State.onReg_reaches h]
  simp only [hm, Bool.and_true, ← hu, hwin, hmsix, hd, Bool.not_true, Bool.false_eq_true, if_false]

/-- A write of part of a word is logged as kind 2. -/
theorem State.hostWrite32_part {s : State} {n : Fin 16} (hn : n.val ≠ 15) (hon : s.pwr.off = false) (a v : Nat) (e : RegEnv) :
    s.hostWrite32 a n.val v e = s.logAccess 2 a := by
  rw [State.hostWrite32, if_neg (by omega), if_neg (by simp [hon])]

/-- A whole word written over PCIe. -/
theorem exec_registerWrite_whole (a : Fin 16777216) (v : Word) (e : RegEnv) (s : State) :
    exec (.registerWrite a 15 v e) s = .next (s.writeWord (a.val / 4 * 4) v.toNat e) := rfl

/-! ### SPI write frames (R618, R619) -/

/-- The first `n` words of a frame's data, written in turn. -/
def State.writeWords (s : State) (fix : Bool) (a : Nat) (data : List Byte) (e : RegEnv) (n : Nat) : State :=
  ((spiAddrs fix a n).zip (List.range n)).foldl (fun s p => s.writeWord (p.1 % 2 ^ 24) (leAt data (4 * p.2) 4) e) s

/-- One word more is one write more. -/
theorem State.writeWords_succ (s : State) (fix : Bool) (a : Nat) (data : List Byte) (e : RegEnv) (n : Nat) :
    s.writeWords fix a data e (n + 1) =
      (s.writeWords fix a data e n).writeWord ((if fix then a else a + 4 * n) % 2 ^ 24) (leAt data (4 * n) 4) e := by
  have hlen : (spiAddrs fix a n).length = (List.range n).length := by simp [spiAddrs]
  rw [State.writeWords, spiAddrs, List.range_succ, List.map_append, ← spiAddrs, List.zip_append hlen, List.foldl_append]
  rfl

/-- A frame writes as many words as it names and its data fill. -/
theorem exec_spiWindowWrite_words {s : State} {a : Fin 16777216} (ha : a.val % 4 = 0) (hon : s.pwr.off = false) (fix : Bool)
    (n : Fin 8) (data : List Byte) (e : RegEnv) : exec (.spiWindowWrite fix a n data e) s =
      .next (s.writeWords fix a.val data e (min (n.val + 1) (data.length / 4))) := by
  rw [exec_spiWindowWrite, State.spiWindowWrite, if_neg (by simp [hon]), if_neg (by simp [ha]), State.writeWords]

/-- A frame whose data fill all the words it names. -/
theorem exec_spiWindowWrite_full {s : State} {a : Fin 16777216} {n : Fin 8} {data : List Byte} (ha : a.val % 4 = 0)
    (hon : s.pwr.off = false) (hlen : 4 * (n.val + 1) ≤ data.length) (fix : Bool) (e : RegEnv) :
    exec (.spiWindowWrite fix a n data e) s = .next (s.writeWords fix a.val data e (n.val + 1)) := by
  rw [exec_spiWindowWrite_words ha hon, min_eq_left (by omega)]

/-- A frame of one word is one write. -/
theorem exec_spiWindowWrite_one {s : State} {a : Fin 16777216} {data : List Byte} (ha : a.val % 4 = 0) (hon : s.pwr.off = false)
    (hlen : 4 ≤ data.length) (fix : Bool) (e : RegEnv) :
    exec (.spiWindowWrite fix a 0 data e) s = .next (s.writeWord a.val (leAt data 0 4) e) := by
  have haddr : (if fix then a.val else a.val + 4 * 0) % 2 ^ 24 = a.val := by
    rw [Nat.mul_zero, Nat.add_zero, ite_self]
    exact Nat.mod_eq_of_lt a.isLt
  rw [exec_spiWindowWrite_full (n := 0) ha hon (by simpa using hlen)]
  exact congrArg _ ((s.writeWords_succ fix a.val data e 0).trans (by rw [haddr]; rfl))

/-! ### SPI read frames (R618, R620) -/

/-- What a word read adds to the frame: three bytes of 0, the mark of a register that answers, and the word. -/
def readReply (v : Nat) : List Byte := leBytes 3 0 ++ leBytes 1 0x5A ++ leBytes 4 v

/-- One word more of a read frame. -/
def readNext (p : State × List Byte) (a : Nat) : State × List Byte :=
  ((p.1.readWord (a % 2 ^ 24)).2.2, p.2 ++ leBytes 3 0 ++
    leBytes 1 (if (p.1.readWord (a % 2 ^ 24)).2.1 then 0x5A else 0xE1) ++ leBytes 4 (p.1.readWord (a % 2 ^ 24)).1)

theorem exec_spiWindowRead_words {s : State} {a : Fin 16777216} (ha : a.val % 4 = 0) (hon : s.pwr.off = false) (fix : Bool)
    (n : Fin 8) (k : Fin 9) : exec (.spiWindowRead fix a n k) s =
      let p := (spiAddrs fix a.val (min (n.val + 1) k.val)).foldl readNext (s, leBytes 4 0)
      .next (p.1.emit (.spi p.2)) := by
  rw [exec_spiWindowRead, State.spiWindowRead, if_neg (by simp [hon]), if_neg (by simp [ha])]
  rfl

/-- A word of a register that answers. -/
theorem readNext_answered {s : State} {a : Nat} (h : (s.readWord (a % 2 ^ 24)).2.1 = true) (bs : List Byte) :
    readNext (s, bs) a = ((s.readWord (a % 2 ^ 24)).2.2, bs ++ readReply (s.readWord (a % 2 ^ 24)).1) := by
  simp only [readNext, readReply, h, if_true, List.append_assoc]

/-- Words of registers that answer and whose reads change nothing. -/
theorem foldl_readNext {s : State} {l : List Nat}
    (h : ∀ x ∈ l, (s.readWord (x % 2 ^ 24)).2.1 = true ∧ (s.readWord (x % 2 ^ 24)).2.2 = s) (bs : List Byte) :
    l.foldl readNext (s, bs) = (s, bs ++ l.flatMap (fun x => readReply (s.readWord (x % 2 ^ 24)).1)) := by
  induction l generalizing bs with
  | nil => simp
  | cons x l ih =>
    obtain ⟨hok, hsame⟩ := h x List.mem_cons_self
    rw [List.foldl_cons, readNext_answered hok, hsame, ih (fun y hy => h y (List.mem_cons_of_mem x hy)), List.flatMap_cons,
      List.append_assoc]

/-- Settles O32, row by row: every access of the SPI window is a write or a read of a word in its turn. -/
theorem registerAccessesComplete : Obligations.RegisterAccessesComplete := by
  refine ⟨fun s a v e d h hm hd hwin hmsix hcore => ?_, fun s a v e d h hm hd hwin hmsix hcore => ?_, fun s a n v e hn hon => ?_,
    fun s fix a n data e ha hon => ?_, fun s fix a data e d h ha hm hd hwin hmsix hcore hon hlen => ?_,
    fun s fix a data e ha hon hlen => ?_, fun s u v fix a b n m data e ha hon hm hlen hb hu _ hv => ?_,
    fun s fix a n k ha hon hread => ?_, fun s fix a ha hon hok => ?_⟩
  · rw [exec_registerWrite_whole, State.writeWord_register h hm hd (by simp [hcore]) hwin hmsix]
  · rw [exec_registerWrite_whole, State.writeWord_register h hm hd (by rw [if_pos hcore]) hwin hmsix]
  · rw [exec_registerWrite, State.hostWrite32_part hn hon]
  · rw [exec_spiWindowWrite_words ha hon, State.writeWords]
  · rw [exec_spiWindowWrite_one ha hon hlen, State.writeWord_register h hm hd (by simp [hcore]) hwin hmsix]
  · have haddr : a.val / 4 * 4 = a.val := by omega
    rw [exec_spiWindowWrite_one ha hon hlen, exec_registerWrite_whole, haddr, toNat_ofNat_leAt]
  · have haddr : b.val / 4 * 4 = b.val := by split at hb <;> omega
    rw [exec_spiWindowWrite_full ha hon (by omega)] at hu
    rw [exec_registerWrite_whole, haddr, toNat_ofNat_leAt, hb] at hv
    rw [exec_spiWindowWrite_full ha hon hlen, State.writeWords_succ, ← hv, hm]
    cases hu
    rfl
  · rw [exec_spiWindowRead_words ha hon, foldl_readNext hread]
    rfl
  · have haddr : spiAddrs fix a.val (min ((0 : Fin 8).val + 1) (1 : Fin 9).val) = [a.val] := by cases fix <;> rfl
    have hmod : a.val % 2 ^ 24 = a.val := Nat.mod_eq_of_lt a.isLt
    rw [exec_spiWindowRead_words ha hon, haddr, List.foldl_cons, List.foldl_nil, readNext_answered (by rw [hmod, hok]), hmod,
      readReply, ← List.append_assoc, ← List.append_assoc]

end Sys2Proof.Machine
end

section
/-!
SUPPORT AND PROOFS. Privi's transports (R62-R68, R74, R89, R90): what storing Privi's state and an interrupt leave of the registers,
the doorbell and the fetch as register writes, whose turn it is, and what each transport's row does in the case its clause names.
-/
namespace Sys2Proof.Machine

/-! ### The rows -/

theorem exec_pcieDoorbell (i : Fin 65536) (s : State) :
    exec (.pcieDoorbell i) s = .next (s.writeWord 0x90014 i.val RegEnv.none) := rfl
theorem exec_mbxResTagWrite (tag : Fin 65536) (s : State) :
    exec (.mbxResTagWrite tag) s = .next (s.writeWord 0x90040 tag.val RegEnv.none) := rfl
theorem exec_spiCommand (bs : List Byte) (s : State) : exec (.spiCommand bs) s = execSpiCommand bs s := rfl
theorem exec_packetAcceptance (via : Transport) (slot : Option (List Byte)) (s : State) :
    exec (.packetAcceptance via slot) s = .next (s.takePacket via slot) := rfl
theorem exec_commandComplete (tag : Nat) (s : State) : exec (.commandComplete tag) s = .next (s.storeResult tag) := rfl
theorem exec_replyRingWrite (ok : Bool) (s : State) : exec (.replyRingWrite ok) s = execReplyRingWrite ok s := rfl
theorem exec_resultRead (spi : Option (List Byte)) (s : State) : exec (.resultRead spi) s = execResultRead spi s := rfl
theorem exec_spiFetch (s : State) : exec .spiFetch s = execSpiFetch s := rfl
theorem exec_spiStatus (s : State) : exec .spiStatus s = .next (s.emit (.spi s.spiStatus)) := rfl
theorem exec_mbxRingReset (s : State) : exec .mbxRingReset s = .next (s.onReg 0x90000 State.ringReset) := rfl
theorem exec_mbxResFetchComplete (s : State) : exec .mbxResFetchComplete s = execMbxResFetchComplete s := rfl

/-! ### Interrupts -/

/-- A vector's message changes the pending-bit array or the outbox, and nothing else. -/
theorem State.sendMsix_only (s : State) (v : Nat) : ∃ w out, s.sendMsix v = { s.setReg 0xF800 w with outbox := out } ∨
    s.sendMsix v = { s with outbox := out } := by
  unfold State.sendMsix
  dsimp only
  split
  · exact ⟨_, _, .inl rfl⟩
  · exact ⟨0, _, .inr rfl⟩

/-- What a message leaves, a run of messages leaves. -/
theorem State.irqEdges_induction {P : State → Prop} (hP : ∀ (u : State) (v : Nat), P u → P (u.sendMsix v)) {s : State} (h : P s)
    (old : State) : P (s.irqEdges old) :=
  List.foldlRecOn (motive := P) _ _ h (fun u hu v _ => by
    split
    · exact hP u v hu
    · exact hu)

@[simp] theorem State.sendMsix_privi (s : State) (v : Nat) : (s.sendMsix v).privi = s.privi := by
  obtain ⟨_, _, h | h⟩ := s.sendMsix_only v
  · rw [h, State.setReg_privi]
  · rw [h]

@[simp] theorem State.irqEdges_privi (s old : State) : (s.irqEdges old).privi = s.privi :=
  State.irqEdges_induction (P := fun u => u.privi = s.privi) (fun u v hu => (u.sendMsix_privi v).trans hu) rfl old

theorem State.reg_sendMsix_other (s : State) (v : Nat) {a : Nat} (ha : a ≠ 0xF800) : (s.sendMsix v).reg a = s.reg a := by
  obtain ⟨w, _, h | h⟩ := s.sendMsix_only v
  · rw [h]
    exact s.reg_setReg_other w ha
  · rw [h, State.reg, State.reg]

/-- Interrupts change no field outside the pending-bit array. -/
theorem State.fld_irqEdges_other (s old : State) {f : Fld} (hf : f.addr ≠ 0xF800) : (s.irqEdges old).fld f = s.fld f :=
  congrArg (fun w : Word => bitsAt w.toNat f.lo f.width)
    (State.irqEdges_induction (P := fun u => u.reg f.addr = s.reg f.addr) (fun u v hu => (u.reg_sendMsix_other v hf).trans hu) rfl old)

@[simp] theorem State.setMbxIrq_hostMem (s : State) (f : Fld) : (s.setMbxIrq f).hostMem = s.hostMem :=
  (State.setIrq_keeps (Keeps.refl s)).host rfl

/-- An interrupt of the mailbox changes its own status register and the pending-bit array. -/
theorem State.fld_setMbxIrq_other (s : State) {f g : Fld} (hg : g.addr ≠ f.addr) (hp : g.addr ≠ 0xF800) :
    (s.setMbxIrq f).fld g = s.fld g :=
  (State.fld_irqEdges_other _ _ hp).trans (State.fld_setFld_other s f g 1 hg)

/-! ### Privi's state -/

@[simp] theorem State.putPrivi_hostMem (s : State) (p : PriviState) : (s.putPrivi p).hostMem = s.hostMem := rfl

/-- Storing Privi's state changes MBX_STATUS and MBX_SLOT_USE of the registers. -/
theorem State.fld_putPrivi_other (s : State) (p : PriviState) {f : Fld} (huse : f.addr ≠ 0x90054) (hstat : f.addr ≠ 0x90004) :
    (s.putPrivi p).fld f = s.fld f := by
  unfold State.putPrivi
  dsimp only
  rw [State.fld_setFld_other _ _ _ _ hstat, State.fld_setFld_other _ _ _ _ huse, State.fld_setFld_other _ _ _ _ huse]
  rfl

/-! ### Registers whose write starts something -/

/-- A register without a shadow copy and without FW fields: its write changes its word. -/
theorem State.storeBits_plain {d : RegDesc} (hd : d.shadowed = false) (hfw : d.fw = 0) (s : State) (a v : Nat) :
    ∃ w, s.storeBits d a v = s.setReg a w := by
  simp only [State.storeBits, hd, hfw]
  exact ⟨_, rfl⟩

/-- The register at 0x90014, MBX_CMD_PROD. -/
def cmdProdReg : RegDesc := ⟨"MBX_CMD_PROD", 0x90014, 1, 0x0, 1, 0x0, 0x0, 0xFFFF, 0x0, 0x0, 0x0, 0x0, false⟩

/-- The register at 0x90040, MBX_RES_TAG. -/
def resTagReg : RegDesc := ⟨"MBX_RES_TAG", 0x90040, 1, 0x0, 1, 0x0, 0x0, 0x0, 0x0, 0x0, 0x0, 0xFFFF, false⟩

theorem findReg_cmdProd : findReg 0x90014 = some cmdProdReg := by rfl
theorem findReg_resTag : findReg 0x90040 = some resTagReg := by rfl

/-- A producer within the ring's size is stored, and ends an error of the ring (R63). -/
theorem State.doorbell_within {s : State} {i : Nat} (hs : s.canonical = true) (hi : i < 2 ^ 16)
    (hwithin : (i + 2 ^ 16 - s.fld F.MBX_CMD_CONS_INDEX) % 2 ^ 16 ≤ ringSlots (s.fld F.MBX_CMD_SIZE_LOG2)) :
    s.doorbell i = (s.setFld F.MBX_CMD_PROD_INDEX i).putPrivi { s.privi with ringError := false } := by
  have hprod : (s.setFld F.MBX_CMD_PROD_INDEX i).fld F.MBX_CMD_PROD_INDEX = i :=
    (State.fld_setFld_same (State.regs_swf hs) _ i (by decide)).trans (Nat.mod_eq_of_lt hi)
  have hcons := State.fld_setFld_other s F.MBX_CMD_PROD_INDEX F.MBX_CMD_CONS_INDEX i (by decide)
  have hsize := State.fld_setFld_other s F.MBX_CMD_PROD_INDEX F.MBX_CMD_SIZE_LOG2 i (by decide)
  refine if_neg ?_
  rw [State.cmdAhead, hprod, hcons, hsize]
  exact not_lt.2 hwithin

/-- The doorbell's write. -/
theorem State.writeWord_cmdProd {s : State} (h : s.reaches 0x90014) (i : Fin 65536) (e : RegEnv) :
    ∃ w, s.writeWord 0x90014 i.val e = ((s.setReg 0x90014 w).doorbell i.val).irqEdges s := by
  obtain ⟨w, hw⟩ := State.storeBits_plain (d := cmdProdReg) rfl rfl s 0x90014 i.val
  have hi : i.val % 2 ^ 16 = i.val := Nat.mod_eq_of_lt i.isLt
  have hstarts : (s.setReg 0x90014 w).afterWrite s cmdProdReg 0x90014 i.val e = (s.setReg 0x90014 w).doorbell (i.val % 2 ^ 16) := rfl
  refine ⟨w, (State.writeWord_register (u := s) h (by decide) findReg_cmdProd rfl rfl (by decide) e).trans ?_⟩
  rw [hw, hstarts, hi]

/-- The write that names the tag of a fetch. -/
theorem State.writeWord_resTag {s : State} (h : s.reaches 0x90040) (tag : Fin 65536) (e : RegEnv) :
    ∃ w, s.writeWord 0x90040 tag.val e = ((s.setReg 0x90040 w).fetchResult tag.val).irqEdges s := by
  obtain ⟨w, hw⟩ := State.storeBits_plain (d := resTagReg) rfl rfl s 0x90040 tag.val
  have htag : tag.val % 2 ^ 16 = tag.val := Nat.mod_eq_of_lt tag.isLt
  have hstarts : (s.setReg 0x90040 w).afterWrite s resTagReg 0x90040 tag.val e =
    (s.setReg 0x90040 w).fetchResult (tag.val % 2 ^ 16) := rfl
  refine ⟨w, (State.writeWord_register (u := s) h (by decide) findReg_resTag rfl rfl (by decide) e).trans ?_⟩
  rw [hw, hstarts, htag]

/-- With no fetch in progress the tag is taken (R89). -/
theorem State.fetchResult_idle {s : State} (h : s.flag F.MBX_RES_STAT_BUSY = false) (tag : Nat) : (s.fetchResult tag).privi =
    { s.privi with fetchTag := some tag } := by
  rw [State.fetchResult, if_neg (by simp [h])]
  rfl

/-! ### Turns (R67) -/

/-- Of two different transports, one is served after the other. -/
theorem viaAfter_cases (a v : Transport) : v = a ∨ v = viaAfter a ∨ v = viaAfter (viaAfter a) := by
  cases a <;> cases v <;> simp [viaAfter]

theorem viaAfter_ne (a : Transport) : viaAfter a ≠ a := by cases a <;> simp [viaAfter]

theorem viaAfter_viaAfter_ne (a : Transport) : viaAfter (viaAfter a) ≠ a := by cases a <;> simp [viaAfter]

/-- It is the turn of the transport after the one served last. -/
theorem State.viaTurn_next (s : State) : s.viaTurn (viaAfter s.privi.served) = true := by simp [State.viaTurn]

/-- It is the turn of the only transport that may have a packet. -/
theorem State.viaTurn_alone {s : State} {v : Transport} (h : ∀ w, w ≠ v → s.viaReady w = false) : s.viaTurn v = true := by
  rcases viaAfter_cases (viaAfter s.privi.served) v with rfl | rfl | rfl
  · exact s.viaTurn_next
  · simp [State.viaTurn, h _ (viaAfter_ne _).symm]
  · simp [State.viaTurn, h _ (viaAfter_viaAfter_ne _).symm, h _ (viaAfter_ne _).symm]

/-! ### Packets (R62-R67) -/

/-- Privi takes the oldest SPI packet where the reply queue has room. -/
theorem State.takePacket_spi {s : State} {bs : List Byte} {r : List (List Byte)} (htake : s.priviTakes = true)
    (hturn : s.viaTurn .spi = true) (hq : s.privi.spiCmds = bs :: r) (hroom : s.privi.spiReplies.length < 8)
    (hwait : s.packetWaits bs = false) (slot : Option (List Byte)) :
    s.takePacket .spi slot = (s.putPrivi { s.privi with spiCmds := r }).acceptPacket .spi ReplyTo.none bs := by
  simp [State.takePacket, htake, hturn, hq, hwait, hroom]

/-- Privi takes the packet of the ring's oldest slot. -/
theorem State.takePacket_pcie {s : State} {slot : List Byte} (htake : s.priviTakes = true) (hturn : s.viaTurn .pcie = true)
    (hready : s.ringReady = true) (hwait : s.packetWaits (slotPacket slot) = false) : s.takePacket .pcie (some slot) =
      (s.setFld F.MBX_CMD_CONS_INDEX ((s.fld F.MBX_CMD_CONS_INDEX + 1) % 2 ^ 16)).acceptPacket .pcie ReplyTo.none
        (slotPacket slot) := by
  simp [State.takePacket, htake, hturn, hready, hwait]

/-- Privi takes the oldest in-band packet that is no result-read request. -/
theorem State.takePacket_inband {s : State} {bs : List Byte} {dest : ReplyTo} {r : List (List Byte × ReplyTo)}
    (htake : s.priviTakes = true) (hturn : s.viaTurn .inband = true) (hq : s.privi.inbPackets = (bs, dest) :: r)
    (hmagic : leAt bs 0 1 ≠ 0x52) (hwait : s.packetWaits bs = false) (slot : Option (List Byte)) :
    s.takePacket .inband slot = (s.putPrivi { s.privi with inbPackets := r }).acceptPacket .inband dest bs := by
  simp [State.takePacket, htake, hturn, hq, hmagic, hwait]

/-- A whole COMMAND frame is kept where the buffer has room (R64). -/
theorem execSpiCommand_kept {s : State} {bs : List Byte} (hctl : s.ctlOn = true) (hen : s.flag F.MBX_CTRL_SPI_EN = true)
    (hwhole : frameComplete bs = true) (hroom : s.privi.spiCmds.length < 2) :
    execSpiCommand bs s = .next (s.putPrivi { s.privi with spiCmds := s.privi.spiCmds ++ [bs] }) := by
  simp [execSpiCommand, hctl, hen, hwhole, hroom]

/-! ### Results and replies (R63, R65, R68, R74) -/

/-- The result of a PENDING command that has ended is READY with the next generation. -/
theorem State.storeResult_pending {s : State} {tag : Nat} {x : Slot} {o : Outcome} (hx : s.slotOf tag = some x)
    (ho : x.outcome = some o) (hst : x.st = .pending) (hack : x.ackReq = false) :
    let g := (s.fld F.MBX_RES_GEN_GEN + 1) % 2 ^ 16
    s.storeResult tag = (s.setFld F.MBX_RES_GEN_GEN g).putPrivi { s.privi with
      slots := putSlot s.privi.slots tag (some { x with st := .ready, generation := g, degraded := s.degraded }) } := by
  rw [State.storeResult, hx]
  simp only [ho, hst, hack, if_true, Bool.false_eq_true, if_false, State.setFld_privi]

/-- The oldest reply is written where the ring has room, and the producer advances. -/
theorem State.writeReply_room {s : State} {r : List Byte} {rest : List (List Byte)} (hq : s.privi.pcieReplies = r :: rest)
    (hroom : s.replyRingFull = false) :
    let i := s.fld F.MBX_RPL_PROD_INDEX
    s.writeReply = (((s.hostWrite (s.replySlot i) r).setFld F.MBX_RPL_PROD_INDEX ((i + 1) % 2 ^ 16)).setMbxIrq
      F.MBX_IRQ_STAT_REPLY).putPrivi { s.privi with pcieReplies := rest } := by
  rw [State.writeReply, hq]
  simp only [hroom, Bool.false_eq_true, if_false, State.setFld_privi, State.hostWrite_privi]

/-- A sound result-read frame is answered, or waits for the end of a takeover (R85). -/
theorem execResultRead_spi {s : State} {bs : List Byte} (hctl : s.ctlOn = true) (hen : s.flag F.MBX_CTRL_SPI_EN = true)
    (hok : readRequestOk bs = true) : execResultRead (some bs) s =
      .next (if s.inTakeover then s.putPrivi { s.privi with spiReads := s.privi.spiReads ++ [bs] }
        else s.answerRead .spi ReplyTo.none bs) := by
  simp [execResultRead, hctl, hen, hok]

/-- A sound result-read request that is the oldest in-band packet is answered. -/
theorem execResultRead_inband {s : State} {bs : List Byte} {dest : ReplyTo} {r : List (List Byte × ReplyTo)}
    (htake : s.inTakeover = false) (hq : s.privi.inbPackets = (bs, dest) :: r) (hmagic : leAt bs 0 1 = 0x52)
    (hok : readRequestOk bs = true) : execResultRead none s =
      .next ((s.putPrivi { s.privi with inbPackets := r }).answerRead .inband dest bs) := by
  simp [execResultRead, htake, hq, hmagic, hok]

/-- Outside a takeover a fetch completes with the reply of its tag in the window. -/
theorem execMbxResFetchComplete_done {s : State} {tag : Nat} (htag : s.privi.fetchTag = some tag) (htake : s.inTakeover = false) :
    ∃ t, execMbxResFetchComplete s = .next t ∧ t.privi.fetchTag = none ∧ t.privi.resWin = (s.readResult tag).1 := by
  rw [execMbxResFetchComplete, htag]
  simp only [htake, Bool.false_eq_true, if_false]
  exact ⟨_, rfl, rfl, rfl⟩

/-! ### Ring indices (R90) -/

/-- The indices of both rings, in the order in which a reset of the rings clears them. -/
def ringFields : List Fld := [F.MBX_CMD_PROD_INDEX, F.MBX_CMD_CONS_INDEX, F.MBX_RPL_PROD_INDEX, F.MBX_RPL_CONS_INDEX]

/-- While PCIe is disabled the ring indices return to 0, and an error of the ring ends. -/
theorem State.ringReset_disabled {s : State} (h : s.flag F.MBX_CTRL_PCIE_EN = false) :
    s.ringReset = (s.zeroFields ringFields).putPrivi { s.privi with ringError := false } := by
  rw [State.ringReset, if_neg (by simp [h])]
  rfl

/-- No two ring indices lie in one register, nor with what storing Privi's state changes. -/
theorem ringFields_apart : ∀ f ∈ ringFields, f.lo + f.width ≤ 32 ∧ (∀ g ∈ ringFields, g.addr = f.addr → g = f) ∧
    f.addr ≠ 0x90054 ∧ f.addr ≠ 0x90004 := by decide

/-- After the reset of the rings each of their indices reads 0. -/
theorem State.fld_ringReset {s : State} (hs : s.canonical = true) (h : s.flag F.MBX_CTRL_PCIE_EN = false) {f : Fld}
    (hf : f ∈ ringFields) : s.ringReset.fld f = 0 := by
  obtain ⟨hfit, hapart, huse, hstat⟩ := ringFields_apart f hf
  rw [State.ringReset_disabled h, State.fld_putPrivi_other _ _ huse hstat]
  exact State.fld_zeroFields (State.regs_swf hs) hfit hapart (.inr hf)

/-- Settles O22, row by row. The order in which transports are served, `viaTurn` and `viaAfter`, is the choice of log 98, and the
wait for room in SPI's reply queue that of log 139. -/
theorem transportRowsComplete : Obligations.TransportRowsComplete := by
  refine ⟨fun s i hs h hwithin => ?_, fun s bs hctl hen hwhole hroom => ?_, fun s v h => ?_,
    fun s bs r htake hturn hq hroom hwait => ?_, fun s slot htake hturn hready hwait => ?_,
    fun s bs dest r htake hturn hq hmagic hwait => ?_, fun s tag x o hx ho hst hack => ?_, fun s r rest hs hq hroom => ?_,
    fun s bs hctl hen hok => ⟨fun htake => ?_, fun htake => ?_⟩, fun s bs dest r htake hq hmagic hok => ?_,
    fun s r rest hq => ?_, fun s hq => ?_, fun s => exec_spiStatus s, fun s hs h hoff => ?_, fun s tag h _ hidle => ?_,
    fun s tag htag htake => ?_⟩
  · obtain ⟨w, hw⟩ := State.writeWord_cmdProd h i RegEnv.none
    have hs' : (s.setReg 0x90014 w).canonical = true := (State.setReg_keeps (kq := true) (Keeps.refl s)).stores hs
    have hother {f : Fld} (hf : f.addr ≠ 0x90014) : (s.setReg 0x90014 w).fld f = s.fld f := by
      rw [State.fld, State.reg_setReg_other s w hf, State.fld]
    have hbell := State.doorbell_within hs' i.isLt
      (by rwa [hother (f := F.MBX_CMD_CONS_INDEX) (by decide), hother (f := F.MBX_CMD_SIZE_LOG2) (by decide)])
    rw [hbell] at hw
    refine ⟨_, (exec_pcieDoorbell i s).trans (by rw [hw]), ?_, ?_, ?_, ?_⟩
    · rw [State.fld_irqEdges_other _ _ (by decide), State.fld_putPrivi_other _ _ (by decide) (by decide),
        State.fld_setFld_same (State.regs_swf hs') _ _ (by decide)]
      exact Nat.mod_eq_of_lt i.isLt
    all_goals rw [State.irqEdges_privi]; rfl
  · exact ⟨_, (exec_spiCommand bs s).trans (execSpiCommand_kept hctl hen hwhole hroom), rfl, rfl, rfl⟩
  · rcases h with halone | rfl
    · exact State.viaTurn_alone halone
    · exact s.viaTurn_next
  · rw [exec_packetAcceptance, State.takePacket_spi htake hturn hq hroom hwait]
  · rw [exec_packetAcceptance, State.takePacket_pcie htake hturn hready hwait]
  · rw [exec_packetAcceptance, State.takePacket_inband htake hturn hq hmagic hwait]
  · rw [exec_commandComplete, State.storeResult_pending hx ho hst hack]
  · have hwrite := State.hostWrite_keeps (a := s.replySlot (s.fld F.MBX_RPL_PROD_INDEX)) (bs := r) (Keeps.refl s)
    have hswf := State.regs_swf (hwrite.stores hs)
    have hexec := exec_replyRingWrite true s
    rw [execReplyRingWrite, if_pos rfl, State.writeReply_room hq hroom] at hexec
    refine ⟨_, hexec, rfl, ?_, ?_⟩
    · rw [State.putPrivi_hostMem, State.setMbxIrq_hostMem, State.setFld_hostMem]
    · rw [State.fld_putPrivi_other _ _ (by decide) (by decide), State.fld_setMbxIrq_other _ (by decide) (by decide),
        State.fld_setFld_same hswf _ _ (by decide)]
      exact Nat.mod_mod _ _
  · rw [exec_resultRead, execResultRead_spi hctl hen hok, htake]
    rfl
  · rw [exec_resultRead, execResultRead_spi hctl hen hok, if_pos htake]
  · rw [exec_resultRead, execResultRead_inband htake hq hmagic hok]
    rfl
  · rw [exec_spiFetch, execSpiFetch, hq]
  · rw [exec_spiFetch, execSpiFetch, hq]
  · have hzero {f : Fld} (hf : f ∈ ringFields) := State.fld_ringReset hs hoff hf
    refine ⟨_, (exec_mbxRingReset s).trans (by rw [State.onReg_reaches h]), hzero (by decide), hzero (by decide),
      hzero (by decide), hzero (by decide), ?_⟩
    rw [State.ringReset_disabled hoff]
    exact ⟨rfl, rfl⟩
  · obtain ⟨w, hw⟩ := State.writeWord_resTag h tag RegEnv.none
    have hbusy : (s.setReg 0x90040 w).flag F.MBX_RES_STAT_BUSY = false := by
      rw [← hidle, State.flag, State.fld, State.reg_setReg_other s w (by decide), State.flag, State.fld]
    have hprivi := State.fetchResult_idle hbusy tag.val
    refine ⟨_, (exec_mbxResTagWrite tag s).trans (by rw [hw]), ?_, ?_⟩
    · rw [State.irqEdges_privi, hprivi]
    · rw [State.irqEdges_privi, hprivi, State.setReg_privi]
  · rw [exec_mbxResFetchComplete]
    exact execMbxResFetchComplete_done htag htake

end Sys2Proof.Machine
end

section
/-!
SUPPORT AND PROOFS. Receive path commands (R123-R126, R630): an accepted commit command is taken up and arms, and the reply of a
retirement takes the masks that result.
-/
namespace Sys2Proof.Machine

/-! ### The rows -/

theorem exec_pathConfigCarriersRx (tag : Nat) (s : State) : exec (.pathConfigCarriersRx tag) s = execPathConfigCarriersRx tag s := rfl
theorem exec_pathSetGain (tag : Nat) (s : State) : exec (.pathSetGain tag) s = execPathSetGain tag s := rfl
theorem exec_pathLoadFilter (tag : Nat) (s : State) : exec (.pathLoadFilter tag) s = execPathLoadFilter tag s := rfl
theorem exec_pathRetire (tag : Nat) (s : State) : exec (.pathRetire tag) s = execPathRetire tag s := rfl

/-! ### Commit commands -/

/-- A commit command that stands accepted is performed on the state that has taken it up. -/
theorem Commits.performCommit {s u : State} {op tag : Nat} {c : Cmd} (h : Commits s op tag c u) {sel : Cmd → Bool} (hs : sel c = true)
    (f : Cmd → State → State) : s.performCommit op tag sel f = f c u := by
  obtain ⟨hc, rfl⟩ := h
  exact performCommit_taken s op tag sel f c hc hs

theorem isOp_of_eq {n : Nat} {c : Cmd} (h : c.op = n) : isOp n c = true := beq_iff_eq.2 h

/-! ### The reply of PATH_RETIRE (R126) -/

/-- A retirement's commands end with the masks that result. -/
theorem State.commitResults_retire (s : State) {k : Commit} {rx tx : Nat} (hk : k.changes = [.retire rx tx]) :
    s.commitResults k = k.results.map (fun r => (r.1, { r.2 with payload := leBytes 8 s.rxRetMask ++ leBytes 8 s.txRetMask })) := by
  rw [State.commitResults, hk]
  exact if_pos rfl

/-- A command's commit that waits for no air tick ends each of its commands. -/
theorem State.endCommit_command (s : State) {k : Commit} (howner : k.owner = .command) (hlate : k.late = []) :
    s.endCommit k = (s.commitResults k).foldl (fun t r => t.finish r.1 r.2) s := by
  rw [State.endCommit, howner, hlate]
  rfl

/-- Settles O25: each row is `performCommit` of its own change, and a retirement's reply is `commitResults_retire`. -/
theorem receivePathCommandsArm : Obligations.ReceivePathCommandsArm := by
  refine fun s tag c u => ⟨fun h hop => ?_, fun h => ?_, fun h => ?_, fun h => ?_, fun v k rx tx o howner hlate hres hch => ?_⟩
  · rw [exec_pathConfigCarriersRx, execPathConfigCarriersRx, h.performCommit (isOp_of_eq hop)]
  · rw [exec_pathSetGain, execPathSetGain, h.performCommit rfl]
  · rw [exec_pathLoadFilter, execPathLoadFilter, h.performCommit rfl]
  · rw [exec_pathRetire, execPathRetire, h.performCommit rfl]
  · rw [State.endCommit_command v howner hlate, State.commitResults_retire v hch, hres]
    rfl

end Sys2Proof.Machine
end

section
/-!
SUPPORT AND PROOFS. What a path does beside its commands (R111-R113, R148, R152, R153): the decisions of the gain loop at the end of
a gap tick, the word of the PA-driver bus and its deferred latch, and the fields that a crest-factor window's report writes.
-/
namespace Sys2Proof.Machine

/-! ### The rows -/

theorem exec_gainLoopGapTickEnd (p : Fin 64) (peak : Int) (s : State) :
    exec (.gainLoopGapTickEnd p peak) s = execGainLoopGapTickEnd p peak s := rfl
theorem exec_padrvEnable (s : State) : exec .padrvEnable s = execPadrvEnable s := rfl
theorem exec_padrvDeferredLatch (s : State) : exec .padrvDeferredLatch s = .next s.padrvLate := rfl
theorem exec_cfrWindowReport (p : Fin 64) (ev : List (Nat × Nat)) (pa mi : Nat) (s : State) :
    exec (.cfrWindowReport p ev pa mi) s = execCfrWindowReport p ev pa mi s := rfl

/-! ### The gain loop (R111-R113) -/

/-- The loop decides on setting `n` for the next boundary. -/
def State.decideAtten (s : State) (p n : Nat) : State :=
  { s with rx := { s.rx with loopNext := sput (fun _ => 0) s.rx.loopNext p (n + 1) } }

/-- A peak beyond the upper margin, below the largest attenuation and where the guard allows it, decides a step up. -/
theorem State.gapTickEnd_up {s : State} {p : Nat} {peak : Int} (htrack : s.agc p = .track)
    (hgap : s.pathClass p s.frameTick = some .gap) :
    let u := s.setFld (F.RXP_PEAK_PEAK p) (encode2c 16 peak)
    let a := u.fld (F.RXP_GAIN_STAT_ATTEN p)
    ((5 * u.fld (F.RXP_AGC_CFG_UP_MARGIN p) : Nat) : Int) < peak + 120 → a < 30 → (u.setLow p 0).gapAllows p = true →
      s.gapTickEnd p peak = (u.setLow p 0).decideAtten p
        (a + min (min (ceilDiv (peak + 120).toNat 10) ((u.setLow p 0).fld (F.RXP_AGC_CFG_MAX_STEP p))) (30 - a)) := by
  intro u a hup ha hallow
  rw [State.gapTickEnd, if_pos ⟨htrack, hgap⟩]
  exact (if_pos hup).trans (if_pos ⟨ha, hallow⟩)

/-- A peak within the margins decides nothing, and ends a run of low ticks. -/
theorem State.gapTickEnd_within {s : State} {p : Nat} {peak : Int} (htrack : s.agc p = .track)
    (hgap : s.pathClass p s.frameTick = some .gap) :
    let u := s.setFld (F.RXP_PEAK_PEAK p) (encode2c 16 peak)
    peak + 120 ≤ ((5 * u.fld (F.RXP_AGC_CFG_UP_MARGIN p) : Nat) : Int) →
      -((5 * u.fld (F.RXP_AGC_CFG_DOWN_MARGIN p) : Nat) : Int) ≤ peak + 120 → s.gapTickEnd p peak = u.setLow p 0 := by
  intro u hup hdown
  rw [State.gapTickEnd, if_pos ⟨htrack, hgap⟩]
  exact (if_neg (not_lt.2 hup)).trans (if_neg (not_lt.2 hdown))

/-! ### The PA-driver bus (R152, R153) -/

/-- A table filled from a list of indices reads its function at each of them, and what it held elsewhere. -/
theorem sget_foldl_sput {d f : Nat → Nat} {m : List (Nat × Nat)} (hm : swf d m = true) (l : List Nat) (p : Nat) :
    sget d (l.foldl (fun m i => sput d m i (f i)) m) p = if p ∈ l then f p else sget d m p := by
  induction l generalizing m with
  | nil => rfl
  | cons i r ih =>
    rw [List.foldl_cons, ih (sput_swf hm)]
    by_cases hp : p = i
    · subst hp
      simp [sget_sput_same hm]
    · simp [hp, sget_sput_other hp]

/-- The word of the bus holds what each path drives. -/
theorem State.sget_padrvWord (s : State) {p : Nat} (hp : p < 64) : sget (fun _ => 0) s.padrvWord p = s.padrvOf p := by
  rw [State.padrvWord, sget_foldl_sput rfl, if_pos (List.mem_range.2 hp)]

/-- A write that sets EN where it is clear enables the bus. -/
theorem execPadrvEnable_off {s : State} (h : s.reaches 0x221014) (hoff : s.flag F.FES_PADRV_CTRL_EN = false) :
    execPadrvEnable s = .next s.padrvEnable := by
  rw [execPadrvEnable, State.onReg_reaches h, if_neg (by simp [hoff])]

/-- A deferred latch whose time has come is made, each path it carries reported late. -/
theorem State.padrvLate_due {s : State} {l : Nat} (hwait : s.tx.deferred ≠ []) (hlast : s.tx.lastLatch = some l)
    (hdue : l + 3 ≤ s.elapsed) : s.padrvLate = s.tx.deferred.foldl
      (fun s p => (s.addFld F.FES_PADRV_LATE_COUNT 1).raise 0x4003 p (srcTx p) sevNotice) (s.latchPadrv (l + 3)) := by
  rw [State.padrvLate, if_neg (by simp [hwait]), hlast]
  exact if_neg (not_lt.2 hdue)

/-! ### Several fields written in turn -/

/-- Two fields share no bit. -/
def Fld.apart (f g : Fld) : Bool := f.addr != g.addr || decide (f.lo + f.width ≤ g.lo) || decide (g.lo + g.width ≤ f.lo)

/-- A field apart from the one that is written reads as before. -/
theorem State.fld_setFld_apart {s : State} (h : swf resetWord s.regs = true) {f g : Fld} (v : Nat) (hf : f.lo + f.width ≤ 32)
    (hgf : g.apart f = true) : (s.setFld f v).fld g = s.fld g := by
  by_cases ha : g.addr = f.addr
  · exact State.fld_setFld_disjoint h v hf ha (by simpa [Fld.apart, ha] using hgf)
  · exact State.fld_setFld_other s f g v ha

/-- Each of the fields is written with its value. -/
def State.putFields (s : State) (l : List (Fld × Nat)) : State := l.foldl (fun t w => t.setFld w.1 w.2) s

/-- A field apart from all that are written reads as before. -/
theorem State.fld_putFields_apart {s : State} (h : swf resetWord s.regs = true) {l : List (Fld × Nat)} {g : Fld}
    (hfit : ∀ w ∈ l, w.1.lo + w.1.width ≤ 32) (hg : ∀ w ∈ l, g.apart w.1 = true) : (s.putFields l).fld g = s.fld g := by
  induction l generalizing s with
  | nil => rfl
  | cons w r ih =>
    obtain ⟨hw, hr⟩ := List.forall_mem_cons.1 hfit
    obtain ⟨hgw, hgr⟩ := List.forall_mem_cons.1 hg
    exact (ih (State.setFld_swf h _ _) hr hgr).trans (State.fld_setFld_apart h _ hw hgw)

/-- Of fields that lie apart each reads the value written to it, cut to its width. -/
theorem State.fld_putFields {s : State} (h : swf resetWord s.regs = true) {l : List (Fld × Nat)}
    (hfit : ∀ w ∈ l, w.1.lo + w.1.width ≤ 32) (hapart : l.Pairwise (fun v w => v.1.apart w.1 = true)) {f : Fld} {v : Nat}
    (hf : (f, v) ∈ l) : (s.putFields l).fld f = v % 2 ^ f.width := by
  induction l generalizing s with
  | nil => exact absurd hf List.not_mem_nil
  | cons w r ih =>
    obtain ⟨hw, hr⟩ := List.forall_mem_cons.1 hfit
    obtain ⟨hwr, hrr⟩ := List.pairwise_cons.1 hapart
    have hswf := State.setFld_swf h w.1 w.2
    rcases List.mem_cons.1 hf with rfl | hf
    · exact (State.fld_putFields_apart hswf hr hwr).trans (State.fld_setFld_same h f v hw)
    · exact ih hswf hr hrr hf

@[simp] theorem State.putFields_tx (s : State) (l : List (Fld × Nat)) : (s.putFields l).tx = s.tx :=
  List.foldlRecOn (motive := fun t : State => t.tx = s.tx) l _ rfl (fun _ ht _ _ => ht)

/-! ### A crest-factor window's report (R148) -/

/-- The fields that a window's report of path `p` writes, in their order. -/
def cfrFields (p : Nat) : List Fld :=
  (List.range 4).flatMap (fun k => [F.TXP_STR_EVM_MEAN p k, F.TXP_STR_EVM_MAX p k]) ++
    [F.TXP_CFR_STAT_PAPR p, F.TXP_CFR_STAT_PAPR_MISS p]

/-- The same with what each of them takes. -/
def cfrWrites (p : Nat) (r : CfrReport) : List (Fld × Nat) :=
  (List.range 4).flatMap (fun k => [(F.TXP_STR_EVM_MEAN p k, (r.evm.getD k (0, 0)).1),
    (F.TXP_STR_EVM_MAX p k, (r.evm.getD k (0, 0)).2)]) ++
    [(F.TXP_CFR_STAT_PAPR p, encode2c 16 r.papr), (F.TXP_CFR_STAT_PAPR_MISS p, min r.misses 0xFFFF)]

theorem cfrWrites_map_fst (p : Nat) (r : CfrReport) : (cfrWrites p r).map Prod.fst = cfrFields p := rfl

/-- A stream's figures are among them. -/
theorem mem_cfrWrites_stream (p : Nat) (r : CfrReport) {k : Nat} (hk : k < 4) :
    (F.TXP_STR_EVM_MEAN p k, (r.evm.getD k (0, 0)).1) ∈ cfrWrites p r ∧
      (F.TXP_STR_EVM_MAX p k, (r.evm.getD k (0, 0)).2) ∈ cfrWrites p r := by
  have hstream {w : Fld × Nat} (hw : w ∈ [(F.TXP_STR_EVM_MEAN p k, (r.evm.getD k (0, 0)).1),
      (F.TXP_STR_EVM_MAX p k, (r.evm.getD k (0, 0)).2)]) : w ∈ cfrWrites p r :=
    List.mem_append_left _ (List.mem_flatMap.2 ⟨k, List.mem_range.2 hk, hw⟩)
  exact ⟨hstream (by simp), hstream (by simp)⟩

/-- They lie in registers of their path, not in the count of dropped events. -/
theorem cfrFields_fit : ∀ p : Fin 64, ∀ f ∈ cfrFields p.val, f.lo + f.width ≤ 32 ∧ f.addr ≠ F.TCK_ARB_DROP_COUNT.addr := by
  decide +kernel

theorem cfrFields_apart : ∀ p : Fin 64, (cfrFields p.val).Pairwise (fun f g => f.apart g = true) := by decide +kernel

/-- A report writes its figures, and raises the notice of its misses where it has any. -/
theorem State.showCfr_eq (s : State) (p : Nat) (r : CfrReport) : s.showCfr p r =
    if r.misses = 0 then s.putFields (cfrWrites p r)
    else (s.putFields (cfrWrites p r)).raise 0x4001 r.misses (srcTx p) sevNotice := rfl

/-- Each field of a report reads its figure. -/
theorem State.fld_showCfr {s : State} (h : swf resetWord s.regs = true) (p : Fin 64) (r : CfrReport) {f : Fld} {v : Nat}
    (hf : (f, v) ∈ cfrWrites p.val r) : (s.showCfr p.val r).fld f = v % 2 ^ f.width := by
  have hfit (w : Fld × Nat) (hw : w ∈ cfrWrites p.val r) := cfrFields_fit p w.1 (List.mem_map_of_mem (f := Prod.fst) hw)
  have hapart := cfrFields_apart p
  rw [← cfrWrites_map_fst p.val r, List.pairwise_map] at hapart
  rw [← State.fld_putFields h (fun w hw => (hfit w hw).1) hapart hf, State.showCfr_eq]
  split
  · rfl
  · rw [State.fld, State.reg_raise_other _ _ _ _ _ (hfit _ hf).2, State.fld]

theorem State.raise_tx (s : State) (code value source sev : Nat) : (s.raise code value source sev).tx = s.tx := by
  unfold State.raise State.raiseEv
  dsimp only
  split <;> rfl

/-- A report leaves the paths' state. -/
theorem State.showCfr_tx (s : State) (p : Nat) (r : CfrReport) : (s.showCfr p r).tx = s.tx := by
  rw [State.showCfr_eq]
  split
  · exact s.putFields_tx _
  · exact (State.raise_tx _ _ _ _ _).trans (s.putFields_tx _)

theorem execCfrWindowReport_waiting {s : State} {p : Fin 64} {r : CfrReport} (hr : (s.cfrPath p.val).report = some r)
    (ev : List (Nat × Nat)) (pa mi : Nat) : execCfrWindowReport p ev pa mi s =
      .next ((s.putCfr p.val { s.cfrPath p.val with report := none }).showCfr p.val r) := by
  rw [execCfrWindowReport, hr]

/-- Settles O27, row by row. That setting EN shifts the word without a latch is log 144, and that a report's row shows figures which
are not read is log 171. -/
theorem pathEventsComplete : Obligations.PathEventsComplete := by
  refine ⟨fun s p peak htrack hgap => ⟨fun hup ha hallow => ?_, fun hup hdown => ?_⟩, fun s h hoff => ?_,
    fun s l hwait hlast hdue => ?_, fun s p ev pa mi r hs hr => ?_, fun s p ev pa mi hr => ?_⟩
  · refine ⟨_, exec_gainLoopGapTickEnd p peak s, ?_⟩
    rw [State.gapTickEnd_up htrack hgap hup ha hallow]
    rfl
  · refine ⟨_, exec_gainLoopGapTickEnd p peak s, ?_⟩
    rw [State.gapTickEnd_within htrack hgap hup hdown]
    exact ⟨rfl, rfl, rfl⟩
  · rw [exec_padrvEnable, execPadrvEnable_off h hoff]
    exact ⟨_, rfl, ⟨_, rfl, fun p hp => State.sget_padrvWord _ hp⟩, rfl⟩
  · rw [exec_padrvDeferredLatch, State.padrvLate_due hwait hlast hdue]
  · have hfld {f : Fld} {v : Nat} := State.fld_showCfr (s := s.putCfr p.val { s.cfrPath p.val with report := none })
      (State.regs_swf hs) p r (f := f) (v := v)
    refine ⟨_, (exec_cfrWindowReport p ev pa mi s).trans (execCfrWindowReport_waiting hr ev pa mi), fun k hk => ⟨?_, ?_⟩, ?_, ?_,
      State.showCfr_tx _ _ _⟩
    · exact hfld (mem_cfrWrites_stream p.val r hk).1
    · exact hfld (mem_cfrWrites_stream p.val r hk).2
    · exact hfld (by simp [cfrWrites])
    · exact (hfld (by simp [cfrWrites])).trans (Nat.mod_eq_of_lt (by simp [F.TXP_CFR_STAT_PAPR_MISS]))
  · rw [exec_cfrWindowReport, execCfrWindowReport, hr]

end Sys2Proof.Machine
end

section
/-!
SUPPORT AND PROOFS. Windows (R130, R174, R175, R206, R237, R313, R343, R406, R452, R475, R521, R522): a host read of a data register
is a read with its window's effect, and a host write of a word of engine or cluster memory acts on the window.
-/
namespace Sys2Proof.Machine

/-! ### The rows -/

theorem exec_qfeCoefDataRead (n : Fin 16) (s : State) :
    exec (.qfeCoefDataRead n) s = .next (s.hostRead (0x1C000C + 0x1000 * n.val)) := rfl
theorem exec_qfeTxCoefDataRead (n : Fin 16) (s : State) :
    exec (.qfeTxCoefDataRead n) s = .next (s.hostRead (0x1C0108 + 0x1000 * n.val)) := rfl
theorem exec_cfrMaskDataRead (s : State) : exec .cfrMaskDataRead s = .next (s.hostRead 0x220004) := rfl
theorem exec_frqDataRead (s : State) : exec .frqDataRead s = .next (s.hostRead 0x222004) := rfl
theorem exec_bfWinDataRead (s : State) : exec .bfWinDataRead s = .next (s.hostRead 0x200054) := rfl
theorem exec_dpdCoefDataRead (s : State) : exec .dpdCoefDataRead s = .next (s.hostRead 0x210014) := rfl
theorem exec_dpdTermDataRead (s : State) : exec .dpdTermDataRead s = .next (s.hostRead 0x21001C) := rfl
theorem exec_frmMapDataRead (s : State) : exec .frmMapDataRead s = .next (s.hostRead 0x241044) := rfl
theorem exec_lnCoefDataRead (l : Fin 8) (s : State) :
    exec (.lnCoefDataRead l) s = .next (s.hostRead (0x310028 + 0x1000 * l.val)) := rfl
theorem exec_lnPrbsErrLoRead (l : Fin 8) (s : State) :
    exec (.lnPrbsErrLoRead l) s = .next (s.hostRead (0x310088 + 0x1000 * l.val)) := rfl
theorem exec_lnPrbsBitsLoRead (l : Fin 8) (s : State) :
    exec (.lnPrbsBitsLoRead l) s = .next (s.hostRead (0x310090 + 0x1000 * l.val)) := rfl
theorem exec_leMemDataAccess_read (n : Fin 16) (s : State) :
    exec (.leMemDataAccess n none) s = .next (s.hostRead (0x400034 + 0x10000 * n.val)) := rfl
theorem exec_leMemDataAccess_write (n : Fin 16) (w : Word) (s : State) :
    exec (.leMemDataAccess n (some w)) s = .next (s.writeWord (0x400034 + 0x10000 * n.val) w.toNat RegEnv.none) := rfl
theorem exec_clmDataAccess_read (s : State) : exec (.clmDataAccess none) s = .next (s.hostRead 0x500004) := rfl
theorem exec_clmDataAccess_write (w : Word) (s : State) :
    exec (.clmDataAccess (some w)) s = .next (s.writeWord 0x500004 w.toNat RegEnv.none) := rfl
theorem exec_clkBandDataRead (s : State) : exec .clkBandDataRead s = .next (s.hostRead 0x20034) := rfl
theorem exec_timAncDataRead (s : State) : exec .timAncDataRead s = .next (s.hostRead 0x30098) := rfl
theorem exec_hkSeqDataRead (s : State) : exec .hkSeqDataRead s = .next (s.hostRead 0x6000C) := rfl
theorem exec_hkFifoDataRead (s : State) : exec .hkFifoDataRead s = .next (s.hostRead 0x60010) := rfl
theorem exec_calResDataRead (s : State) : exec .calResDataRead s = .next (s.hostRead 0x70044) := rfl

/-! ### Which register stands at an address -/

/-- Each repetition of a register stands at its own address. -/
theorem instanceAt_self {base stride n i : Nat} (hs : 0 < stride) (hi : i < n) :
    instanceAt base stride n (base + stride * i) = some i := by
  have hdiv : (base + stride * i - base) / stride = i := by rw [Nat.add_sub_cancel_left, Nat.mul_div_cancel_left _ hs]
  have hmod : (base + stride * i - base) % stride = 0 := by rw [Nat.add_sub_cancel_left, Nat.mul_mod_right]
  rw [instanceAt, hdiv, hmod, if_neg (by omega)]

/-! The data registers that repeat, once for each quad, lane or engine: each stands on the map, and a read of it has the effect
of its window. -/

theorem mapped_qfeCoef : ∀ n : Fin 16, mapped (0x1C000C + 0x1000 * n.val) = true := by decide +kernel
theorem mapped_qfeTxCoef : ∀ n : Fin 16, mapped (0x1C0108 + 0x1000 * n.val) = true := by decide +kernel
theorem mapped_laneCoef : ∀ l : Fin 8, mapped (0x310028 + 0x1000 * l.val) = true := by decide +kernel
theorem mapped_prbsErr : ∀ l : Fin 8, mapped (0x310088 + 0x1000 * l.val) = true := by decide +kernel
theorem mapped_prbsBits : ∀ l : Fin 8, mapped (0x310090 + 0x1000 * l.val) = true := by decide +kernel
theorem mapped_leMem : ∀ n : Fin 16, mapped (0x400034 + 0x10000 * n.val) = true := by decide +kernel

theorem State.effectRead_qfeCoef (s : State) (n : Fin 16) :
    s.effectRead (0x1C000C + 0x1000 * n.val) = some (s.readQfeCoef n.val) := by fin_cases n <;> rfl
theorem State.effectRead_qfeTxCoef (s : State) (n : Fin 16) :
    s.effectRead (0x1C0108 + 0x1000 * n.val) = some (s.readQfeTxCoef n.val) := by fin_cases n <;> rfl
theorem State.effectRead_laneCoef (s : State) (l : Fin 8) :
    s.effectRead (0x310028 + 0x1000 * l.val) = some (s.readLaneCoef l.val) := by fin_cases l <;> rfl
theorem State.effectRead_prbsErr (s : State) (l : Fin 8) :
    s.effectRead (0x310088 + 0x1000 * l.val) = some (s.readPrbsErr l.val) := by fin_cases l <;> rfl
theorem State.effectRead_prbsBits (s : State) (l : Fin 8) :
    s.effectRead (0x310090 + 0x1000 * l.val) = some (s.readPrbsBits l.val) := by fin_cases l <;> rfl
theorem State.effectRead_leMem (s : State) (n : Fin 16) :
    s.effectRead (0x400034 + 0x10000 * n.val) = some (s.readLeMem n.val) := by fin_cases n <;> rfl

/-! ### Engine memory and cluster memory (R406) -/

/-- A word of engine memory that nothing holds is a free value; reading it changes no register. -/
theorem State.leWord_regs (s : State) (e : Nat) : (s.leWord e).2.regs = s.regs := by
  unfold State.leWord
  dsimp only
  split
  · split <;> rfl
  · split <;> rfl
  · split <;> rfl
  · rfl

theorem State.clmRead_regs (s : State) (w : Nat) : (s.clmRead w).2.regs = s.regs := by
  unfold State.clmRead
  dsimp only
  split
  · rfl
  · split <;> rfl

/-- Fields read alike where the register files are the same. -/
theorem State.fld_of_regs {s t : State} (h : t.regs = s.regs) (f : Fld) : t.fld f = s.fld f := by
  rw [State.fld, State.reg_of_regs h, State.fld]

/-- A read of engine memory moves its index on. -/
theorem State.readLeMem_eq (s : State) (e : Nat) : s.readLeMem e = ((s.leWord e).1,
    (s.leWord e).2.setFld (F.LE_MEM_ADDR_INDEX e) ((s.fld (F.LE_MEM_ADDR_INDEX e) + 1) % 2 ^ 16)) := by
  have hread : s.readLeMem e = ((s.leWord e).1, (s.leWord e).2.stepLeIndex e) := rfl
  rw [hread, State.stepLeIndex, State.fld_of_regs (s.leWord_regs e)]

/-- A read of cluster memory moves its index on. -/
theorem State.readClm_eq (s : State) : s.readClm = ((s.clmRead (s.fld F.CLM_ADDR_INDEX)).1,
    (s.clmRead (s.fld F.CLM_ADDR_INDEX)).2.setFld F.CLM_ADDR_INDEX ((s.fld F.CLM_ADDR_INDEX + 1) % 2 ^ 20)) := by
  have hread : s.readClm =
      ((s.clmRead (s.fld F.CLM_ADDR_INDEX)).1, (s.clmRead (s.fld F.CLM_ADDR_INDEX)).2.stepClmIndex) := rfl
  rw [hread, State.stepClmIndex, State.fld_of_regs (s.clmRead_regs _)]

/-- Under FW_WRITE a word written to an engine's window is stored, and moves its index on (R87). -/
theorem State.writeWindow_leMem {s : State} (h : s.unlocked 3 = true) (n : Fin 16) (v : Nat) :
    s.writeWindow (0x400034 + 0x10000 * n.val) v = some ((s.leStore n.val v).stepLeIndex n.val) := by
  simp only [State.writeWindow, instanceAt_self (base := 0x400034) (stride := 0x10000) (by decide) n.isLt, h, if_true,
    State.writeLeMem]

/-- So is one written to the window of cluster memory. -/
theorem State.writeWindow_clm {s : State} (h : s.unlocked 3 = true) (v : Nat) : s.writeWindow 0x500004 v =
    some ((s.clmWrite (s.fld F.CLM_ADDR_INDEX) v).setFld F.CLM_ADDR_INDEX ((s.fld F.CLM_ADDR_INDEX + 1) % 2 ^ 20)) := by
  have hno : instanceAt 0x400034 0x10000 16 0x500004 = none := by decide
  simp only [State.writeWindow, hno, h, if_true, State.writeClm]
  rfl

/-- An item for the recorder leaves the unlock. -/
theorem State.unlocked_noteItem (s : State) (i : RecItem) (b : Nat) : (s.noteItem i).unlocked b = s.unlocked b := by
  simp only [State.unlocked, State.fld_of_regs (s.noteItem_regs i)]

/-- A word that the bus brings to a window inside the core boundary is noted for the recorder and acts on the window. -/
theorem State.writeWord_window {s t : State} {a v : Nat} (h : s.reaches a) (hm : mapped a = true) (hcore : inCore a = true)
    (ht : (s.noteItem (.write a v)).writeWindow a v = some t) (e : RegEnv) : s.writeWord a v e = t := by
  rw [State.writeWord, State.onReg_reaches h]
  simp only [hcore, hm, Bool.and_self, if_true, Bool.not_true, Bool.false_eq_true, if_false, ht]

/-- Engine memory lies inside the core boundary. -/
theorem inCore_leMem (n : Fin 16) : inCore (0x400034 + 0x10000 * n.val) = true := by
  have hhi : inRange 0x320000 0x50FFFF (0x400034 + 0x10000 * n.val) = true := (inRange_iff _ _ _).2 (by omega)
  rw [inCore, hhi, Bool.or_true]

/-! ### The result FIFO (R502) -/

theorem State.readHkFifo_cons {s : State} {r : HkResult} {l : List HkResult} (h : s.hk.fifo = r :: l) : s.readHkFifo =
    (2 ^ 31 + 2 ^ 30 * b2n r.isOpen + 2 ^ 24 * r.channel + 2 ^ 16 * r.seq + r.value, s.putFifo l) := by
  rw [State.readHkFifo, h]

theorem State.readHkFifo_empty {s : State} (h : s.hk.fifo = []) : s.readHkFifo = (0, s) := by
  rw [State.readHkFifo, h]

/-- Settles O60, row by row: each read is the read of its window. Indices 6,144 to 8,191 of QFE_COEF_ADDR and QFE_TX_COEF_ADDR, and
tap positions at or beyond T, read by log 162. -/
theorem windowReadsAdvance : Obligations.WindowReadsAdvance := by
  refine ⟨fun s n h => ?_, fun s n h => ?_, fun s h => ?_, fun s h => ?_, fun s h => ?_, fun s h => ?_, fun s h => ?_,
    fun s h => ?_, fun s l h => ?_, fun s l h => ?_, fun s l h => ?_, fun s n h => ⟨?_, fun w hfw => ?_⟩,
    fun s h => ⟨?_, fun w hfw => ?_⟩, fun s h => ?_, fun s h => ?_, fun s h => ?_, fun s r l h hq => ?_, fun s h hq => ?_,
    fun s h => ?_⟩
  · rw [exec_qfeCoefDataRead, State.hostRead_effect h (mapped_qfeCoef n) (s.effectRead_qfeCoef n), State.readQfeCoef]
  · rw [exec_qfeTxCoefDataRead, State.hostRead_effect h (mapped_qfeTxCoef n) (s.effectRead_qfeTxCoef n), State.readQfeTxCoef]
  · rw [exec_cfrMaskDataRead, State.hostRead_effect (r := s.readMask) h (by decide +kernel) rfl, State.readMask]
  · rw [exec_frqDataRead, State.hostRead_effect (r := s.readFreq) h (by decide +kernel) rfl, State.readFreq]
  · rw [exec_bfWinDataRead, State.hostRead_effect (r := s.readBfWin) h (by decide +kernel) rfl, State.readBfWin]
  · rw [exec_dpdCoefDataRead, State.hostRead_effect (r := s.readDpdCoef) h (by decide +kernel) rfl, State.readDpdCoef]
  · rw [exec_dpdTermDataRead, State.hostRead_effect (r := s.readDpdTerm) h (by decide +kernel) rfl, State.readDpdTerm]
  · rw [exec_frmMapDataRead, State.hostRead_effect (r := s.readMap) h (by decide +kernel) rfl, State.readMap]
  · rw [exec_lnCoefDataRead, State.hostRead_effect h (mapped_laneCoef l) (s.effectRead_laneCoef l), State.readLaneCoef]
  · rw [exec_lnPrbsErrLoRead, State.hostRead_effect h (mapped_prbsErr l) (s.effectRead_prbsErr l), State.readPrbsErr]
  · rw [exec_lnPrbsBitsLoRead, State.hostRead_effect h (mapped_prbsBits l) (s.effectRead_prbsBits l), State.readPrbsBits]
  · rw [exec_leMemDataAccess_read, State.hostRead_effect h (mapped_leMem n) (s.effectRead_leMem n), State.readLeMem_eq]
  · have hunlocked := (s.unlocked_noteItem (.write (0x400034 + 0x10000 * n.val) w.toNat) 3).trans hfw
    rw [exec_leMemDataAccess_write,
      State.writeWord_window h (mapped_leMem n) (inCore_leMem n) (State.writeWindow_leMem hunlocked n w.toNat)]
  · rw [exec_clmDataAccess_read, State.hostRead_effect (r := s.readClm) h (by decide +kernel) rfl, State.readClm_eq]
  · have hunlocked := (s.unlocked_noteItem (.write 0x500004 w.toNat) 3).trans hfw
    rw [exec_clmDataAccess_write,
      State.writeWord_window h (by decide +kernel) (by decide) (State.writeWindow_clm hunlocked w.toNat),
      State.fld_of_regs (s.noteItem_regs _)]
  · rw [exec_clkBandDataRead, State.hostRead_effect (r := s.readBandData) h (by decide +kernel) rfl, State.readBandData]
  · rw [exec_timAncDataRead, State.hostRead_effect (r := s.readAncData) h (by decide +kernel) rfl, State.readAncData]
  · rw [exec_hkSeqDataRead, State.hostRead_effect (r := s.readHkSeq) h (by decide +kernel) rfl, State.readHkSeq]
  · rw [exec_hkFifoDataRead, State.hostRead_effect (r := s.readHkFifo) h (by decide +kernel) rfl, State.readHkFifo_cons hq]
  · rw [exec_hkFifoDataRead, State.hostRead_effect (r := s.readHkFifo) h (by decide +kernel) rfl, State.readHkFifo_empty hq]
  · rw [exec_calResDataRead, State.hostRead_effect (r := s.readCalRes) h (by decide +kernel) rfl, State.readCalRes]

end Sys2Proof.Machine
end

section
/-!
SUPPORT AND PROOFS. Transmit path commands (R157, R162, R167-R171): each arms one commit, with the paths that a late front end may
spoil where it has them.
-/
namespace Sys2Proof.Machine

/-! ### The rows -/

theorem exec_pathConfigCarriersTx (tag : Nat) (s : State) : exec (.pathConfigCarriersTx tag) s = execPathConfigCarriersTx tag s := rfl
theorem exec_pathSelectFreqEntry (tag : Nat) (s : State) : exec (.pathSelectFreqEntry tag) s = execPathSelectFreqEntry tag s := rfl
theorem exec_pathDefineFreqEntry (tag : Nat) (s : State) : exec (.pathDefineFreqEntry tag) s = execPathDefineFreqEntry tag s := rfl
theorem exec_pathSetPowerStep (tag : Nat) (s : State) : exec (.pathSetPowerStep tag) s = execPathSetPowerStep tag s := rfl
theorem exec_pathLoadPowerColumn (tag : Nat) (s : State) : exec (.pathLoadPowerColumn tag) s = execPathLoadPowerColumn tag s := rfl
theorem exec_pathSetMask (tag : Nat) (s : State) : exec (.pathSetMask tag) s = execPathSetMask tag s := rfl
theorem exec_pathSetFrontendSchedule (tag : Nat) (s : State) :
    exec (.pathSetFrontendSchedule tag) s = execPathSetFrontendSchedule tag s := rfl

/-- Settles O26: each row is `performCommit` of its own change; where the clause names the commit `k`, it is the one that `armLate` or
`armCmd` hands to `armCommit`. -/
theorem transmitPathCommandsArm : Obligations.TransmitPathCommandsArm := by
  refine fun s tag c u => ⟨fun h hop => ?_, fun h hop => ?_, fun h hop => ?_, fun h hop => ?_, fun h hop => ?_, fun h => ?_,
    fun h => ?_⟩
  · rw [exec_pathConfigCarriersTx, execPathConfigCarriersTx, h.performCommit (isOp_of_eq hop)]
  · rw [exec_pathSelectFreqEntry, execPathSelectFreqEntry, h.performCommit (isOp_of_eq hop)]
    exact ⟨_, _, rfl, armCommit_armed _ _, rfl, rfl, rfl, sameStores_armCommit _ _⟩
  · rw [exec_pathDefineFreqEntry, execPathDefineFreqEntry, h.performCommit (isOp_of_eq hop)]
    rfl
  · rw [exec_pathSetPowerStep, execPathSetPowerStep, h.performCommit (isOp_of_eq hop)]
  · rw [exec_pathLoadPowerColumn, execPathLoadPowerColumn, h.performCommit (isOp_of_eq hop)]
  · rw [exec_pathSetMask, execPathSetMask, h.performCommit rfl]
    exact ⟨_, _, rfl, armCommit_armed _ _, rfl, rfl, rfl, rfl, sameStores_armCommit _ _⟩
  · rw [exec_pathSetFrontendSchedule, execPathSetFrontendSchedule, h.performCommit rfl]
    exact ⟨_, _, rfl, armCommit_armed _ _, rfl, rfl, rfl, sameStores_armCommit _ _⟩

end Sys2Proof.Machine
end

section
/-!
SUPPORT AND PROOFS. Beamforming commands (R202-R204): a table load arms one commit of a unit and a change per record, each operation
of BF_SET_LAYERS one of its single unit, and the retired masks are answered at once.
-/
namespace Sys2Proof.Machine

/-! ### The rows -/

theorem exec_bfLoadBeamTable (tag : Nat) (s : State) : exec (.bfLoadBeamTable tag) s = execBfLoadBeamTable tag s := rfl
theorem exec_bfSetCarrier (tag : Nat) (s : State) : exec (.bfSetCarrier tag) s = execBfSetCarrier tag s := rfl
theorem exec_bfSetBeamLayer (tag : Nat) (s : State) : exec (.bfSetBeamLayer tag) s = execBfSetBeamLayer tag s := rfl
theorem exec_bfGetRetiredMask (tag : Nat) (s : State) : exec (.bfGetRetiredMask tag) s = execBfGetRetiredMask tag s := rfl

/-- Settles O28: the first three rows are `performCommit` of their own change, and the last is `performStart` of its reply. The commit
`k` of a table load is the one that `armCmd` hands to `armCommit`, its records mapped to units and to changes. -/
theorem beamCommandsComplete : Obligations.BeamCommandsComplete := by
  refine fun s tag c u => ⟨fun h => ?_, fun h hop => ?_, fun h hop => ?_, fun h => ?_⟩
  · rw [exec_bfLoadBeamTable, execBfLoadBeamTable, h.performCommit rfl]
    exact ⟨_, _, rfl, armCommit_armed _ _, rfl, List.map_map, List.map_map, sameStores_armCommit _ _⟩
  · rw [exec_bfSetCarrier, execBfSetCarrier, h.performCommit (isOp_of_eq hop)]
  · rw [exec_bfSetBeamLayer, execBfSetBeamLayer, h.performCommit (isOp_of_eq hop)]
  · rw [exec_bfGetRetiredMask, execBfGetRetiredMask, h.performStart rfl]

end Sys2Proof.Machine
end

section
/-!
SUPPORT AND PROOFS. Predistortion commands (R227, R232-R235): a start begins the live paths among those it names and answers, a freeze
and each operation of DPD_LOAD_SET arm one commit, and the records of the paths are answered at once.
-/
namespace Sys2Proof.Machine

/-! ### The rows -/

theorem exec_dpdStart (tag : Nat) (s : State) : exec (.dpdStart tag) s = execDpdStart tag s := rfl
theorem exec_dpdFreeze (tag : Nat) (s : State) : exec (.dpdFreeze tag) s = execDpdFreeze tag s := rfl
theorem exec_dpdLoadModel (tag : Nat) (s : State) : exec (.dpdLoadModel tag) s = execDpdLoadModel tag s := rfl
theorem exec_dpdLoadCoefficients (tag : Nat) (s : State) : exec (.dpdLoadCoefficients tag) s = execDpdLoadCoefficients tag s := rfl
theorem exec_dpdGetStatus (tag : Nat) (s : State) : exec (.dpdGetStatus tag) s = execDpdGetStatus tag s := rfl

/-- Settles O29: the start and the status are `performStart` of their own effect, the freeze and the two operations of DPD_LOAD_SET
`performCommit` of their own change. -/
theorem predistortionCommandsComplete : Obligations.PredistortionCommandsComplete := by
  refine fun s tag c u => ⟨fun h => ?_, fun h => ?_, fun h hop => ?_, fun h hop => ?_, fun h => ?_⟩
  · rw [exec_dpdStart, execDpdStart, h.performStart rfl]
  · rw [exec_dpdFreeze, execDpdFreeze, h.performCommit rfl]
  · rw [exec_dpdLoadModel, execDpdLoadModel, h.performCommit (isOp_of_eq hop)]
  · rw [exec_dpdLoadCoefficients, execDpdLoadCoefficients, h.performCommit (isOp_of_eq hop)]
  · rw [exec_dpdGetStatus, execDpdGetStatus, h.performStart rfl]

end Sys2Proof.Machine
end

section
/-!
SUPPORT AND PROOFS. Random-access commands (R254, R255): a configuration arms one commit of its own unit, with the three registers it
writes, and the reports from a cursor on are answered at once.
-/
namespace Sys2Proof.Machine

/-! ### The rows -/

theorem exec_prachConfig (tag : Nat) (s : State) : exec (.prachConfig tag) s = execPrachConfig tag s := rfl
theorem exec_prachReadReport (tag : Nat) (s : State) : exec (.prachReadReport tag) s = execPrachReadReport tag s := rfl

/-- Settles O31: the configuration is `performCommit` of its own change, and the reports are `performStart` of their reply, which is read
in the state that has taken the command. -/
theorem randomAccessCommandsComplete : Obligations.RandomAccessCommandsComplete := by
  refine fun s tag c u => ⟨fun h => ?_, fun h => ?_⟩
  · rw [exec_prachConfig, execPrachConfig, h.performCommit rfl]
  · rw [exec_prachReadReport, execPrachReadReport, h.performStart rfl]

end Sys2Proof.Machine
end

section
/-!
SUPPORT AND PROOFS. Fronthaul commands (R307-R310): what FH_CONFIG_PORT makes of its port where it is disabled, kept and aligned anew,
and the one commit that each of the eAxC map, the windows and a carrier's compression arms.
-/
namespace Sys2Proof.Machine

/-! ### The rows -/

theorem exec_fhConfigPort (tag : Nat) (s : State) : exec (.fhConfigPort tag) s = execFhConfigPort tag s := rfl
theorem exec_fhMapEaxc (tag : Nat) (s : State) : exec (.fhMapEaxc tag) s = execFhMapEaxc tag s := rfl
theorem exec_fhSetWindows (tag : Nat) (s : State) : exec (.fhSetWindows tag) s = execFhSetWindows tag s := rfl
theorem exec_fhSetCompression (tag : Nat) (s : State) : exec (.fhSetCompression tag) s = execFhSetCompression tag s := rfl

/-! ### FH_CONFIG_PORT (R307, Table 10-5) -/

/-- Bit 0 is set where the value is odd. -/
theorem bitAt_zero_iff (v : Nat) : bitAt v 0 = true ↔ v % 2 = 1 := by simp [bitAt]

/-- EN 0: the port is disabled, its faults are cleared, and the command ends. -/
theorem State.configPort_disable (u : State) {c : Cmd} (hen : leAt c.payload 1 1 % 2 = 0) : u.configPort c =
    (((((u.storePort c).clearEgress (leAt c.payload 0 1)).setFld (F.ETH_STATUS_REMOTE_FAULT (leAt c.payload 0 1)) 0).setFld
      (F.ETH_STATUS_LOCAL_FAULT (leAt c.payload 0 1)) 0).setPort (leAt c.payload 0 1) .disabled).finishNow c.tag .ok [] := by
  have hbit : bitAt (leAt c.payload 1 1) 0 = false := by rw [← Bool.not_eq_true, bitAt_zero_iff]; omega
  exact if_pos (by rw [hbit]; rfl)

/-- The port is UP, and its rate and placement stay: it is kept, and the command ends. -/
theorem State.configPort_keep (u : State) {c : Cmd} (hen : leAt c.payload 1 1 % 2 = 1)
    (hup : (u.storePort c).port (leAt c.payload 0 1) = .up) (hrate : leAt c.payload 2 1 = u.fld (F.ETH_CFG_RATE (leAt c.payload 0 1)))
    (hplace : leAt c.payload 3 1 = u.fld (F.ETH_CFG_PLACE (leAt c.payload 0 1))) :
    u.configPort c = (u.storePort c).finishNow c.tag .ok [] := by
  have hbit := (bitAt_zero_iff _).2 hen
  simp only [State.configPort, hbit, hup, hrate, hplace, bne_self_eq_false, Bool.or_self, Bool.not_true, Bool.not_false,
    Bool.false_eq_true, and_self, if_true, if_false]

/-- The port is not UP, or its rate or placement changes: it aligns anew, and the command waits for it. -/
theorem State.configPort_align (u : State) {c : Cmd} (hen : leAt c.payload 1 1 % 2 = 1)
    (hmoved : (u.storePort c).port (leAt c.payload 0 1) ≠ .up ∨
      leAt c.payload 2 1 ≠ u.fld (F.ETH_CFG_RATE (leAt c.payload 0 1)) ∨
      leAt c.payload 3 1 ≠ u.fld (F.ETH_CFG_PLACE (leAt c.payload 0 1))) : u.configPort c =
    (((u.storePort c).clearEgress (leAt c.payload 0 1)).setFld (F.ETH_STATUS_REMOTE_FAULT (leAt c.payload 0 1)) 0).alignPort
      (leAt c.payload 0 1) c.tag := by
  have hbit := (bitAt_zero_iff _).2 hen
  have hkept : ¬ ((u.storePort c).port (leAt c.payload 0 1) = .up ∧
      (!(leAt c.payload 2 1 != u.fld (F.ETH_CFG_RATE (leAt c.payload 0 1)) ||
        leAt c.payload 3 1 != u.fld (F.ETH_CFG_PLACE (leAt c.payload 0 1)))) = true) := by
    simpa only [Bool.not_eq_true', Bool.or_eq_false_iff, bne_eq_false_iff_eq, not_and_or] using hmoved
  exact (if_neg (by rw [hbit]; decide)).trans (if_neg hkept)

/-- Settles O33: the port's configuration is `performStart` of `configPort` in its three cases, and every other row `performCommit` of its
own change. -/
theorem fronthaulCommandsComplete : Obligations.FronthaulCommandsComplete := by
  refine fun s tag c u => ⟨fun h hen => ?_, fun h hen hup hrate hplace => ?_, fun h hen hmoved => ?_, fun h => ?_, fun h => ?_,
    fun h => ?_⟩
  · rw [exec_fhConfigPort, execFhConfigPort, h.performStart rfl, State.configPort_disable u hen]
  · rw [exec_fhConfigPort, execFhConfigPort, h.performStart rfl, State.configPort_keep u hen hup hrate hplace]
  · rw [exec_fhConfigPort, execFhConfigPort, h.performStart rfl, State.configPort_align u hen hmoved]
  · rw [exec_fhMapEaxc, execFhMapEaxc, h.performCommit rfl]
  · rw [exec_fhSetWindows, execFhSetWindows, h.performCommit rfl]
  · rw [exec_fhSetCompression, execFhSetCompression, h.performCommit rfl]

end Sys2Proof.Machine
end

section
/-!
SUPPORT AND PROOFS. Ethernet port events (R302, R307): a port's state reads back what was written to it, whatever a later fault,
discard or event writes, and each event acts on a port in the state that it takes.
-/
namespace Sys2Proof.Machine

/-! ### The rows -/

theorem exec_portAligned (k : Fin 4) (s : State) : exec (.portAligned k) s = execPortAligned k s := rfl
theorem exec_portAlignTimeout (k : Fin 4) (s : State) : exec (.portAlignTimeout k) s = execPortAlignTimeout k s := rfl
theorem exec_fhLinkDown (k : Fin 4) (s : State) : exec (.fhLinkDown k) s = execFhLinkDown k s := rfl
theorem exec_fhRemoteFault (k : Fin 4) (s : State) : exec (.fhRemoteFault k) s = execFhRemoteFault k s := rfl
theorem exec_fhRemoteFaultCleared (k : Fin 4) (s : State) :
    exec (.fhRemoteFaultCleared k) s = execFhRemoteFaultCleared k s := rfl

/-! ### The state of a port -/

theorem PortState.ofCode_code (x : PortState) : PortState.ofCode (x.code % 2 ^ 2) = x := by cases x <;> rfl

/-- A port reads the state that is written to it. -/
theorem State.port_setPort_same {s : State} (h : swf resetWord s.regs = true) (k : Nat) (x : PortState) :
    (s.setPort k x).port k = x := by
  have hread := State.fld_setFld_same h (F.ETH_STATUS_STATE k) x.code (by decide : (0 : Nat) + 2 ≤ 32)
  rw [State.port, State.setPort, hread]
  exact x.ofCode_code

/-- A field apart from the port's state leaves it. -/
theorem State.port_setFld_apart {s : State} (h : swf resetWord s.regs = true) {f : Fld} (v k : Nat) (hf : f.lo + f.width ≤ 32)
    (hapart : (F.ETH_STATUS_STATE k).apart f = true) : (s.setFld f v).port k = s.port k := by
  rw [State.port, State.fld_setFld_apart h v hf hapart, State.port]

/-- The fault bits of a port's status lie above its state. -/
theorem ethStatusState_apart (k i : Nat) : (F.ETH_STATUS_STATE k).apart (F.ETH_STATUS_LOCAL_FAULT i) = true ∧
    (F.ETH_STATUS_STATE k).apart (F.ETH_STATUS_REMOTE_FAULT i) = true := by
  simp [Fld.apart, F.ETH_STATUS_STATE, F.ETH_STATUS_LOCAL_FAULT, F.ETH_STATUS_REMOTE_FAULT]

/-- What is done to other registers leaves a port's state. -/
theorem State.port_of_reg {s t : State} {k : Nat} (h : t.reg (F.ETH_STATUS_STATE k).addr = s.reg (F.ETH_STATUS_STATE k).addr) :
    t.port k = s.port k := by
  rw [State.port, State.fld, h, State.port, State.fld]

/-- The status of a port stands above the framer's counters and Crocus's. -/
theorem ethStatus_addr_ne (k : Nat) {a : Nat} (ha : a < 0x300004) : (F.ETH_STATUS_STATE k).addr ≠ a := by
  have haddr : (F.ETH_STATUS_STATE k).addr = 0x300004 + 0x1000 * k := rfl
  omega

@[simp] theorem State.port_dropEgress (s : State) (k j : Nat) : (s.dropEgress j).port k = s.port k :=
  State.port_of_reg (State.reg_setFld_other _ _ _ (ethStatus_addr_ne k (by decide)))

@[simp] theorem State.port_raiseFree (s : State) (code source sev k : Nat) : (s.raiseFree code source sev).port k = s.port k :=
  State.port_of_reg (State.reg_raiseFree_other s code source sev (ethStatus_addr_ne k (by decide)))

/-! ### What each event does -/

/-- A port that loses alignment aligns again, with its faults as they are set then. -/
theorem State.portDown_up {s : State} {k : Nat} (hup : s.port k = .up) : s.portDown k =
    (((((s.setPort k .aligning).setFld (F.ETH_STATUS_LOCAL_FAULT k) 1).setFld (F.ETH_STATUS_REMOTE_FAULT k) 0).dropEgress k).raiseFree
      0x8007 (srcEth k) sevError) := if_pos hup

theorem State.port_portDown {s : State} {k : Nat} (h : swf resetWord s.regs = true) (hup : s.port k = .up) :
    (s.portDown k).port k = .aligning := by
  have hset : swf resetWord (s.setPort k .aligning).regs = true := State.setFld_swf h _ _
  obtain ⟨hlocal, hremote⟩ := ethStatusState_apart k k
  rw [State.portDown_up hup, State.port_raiseFree, State.port_dropEgress,
    State.port_setFld_apart (State.setFld_swf hset _ _) 0 k (by decide : (3 : Nat) + 1 ≤ 32) hremote,
    State.port_setFld_apart hset 1 k (by decide : (2 : Nat) + 1 ≤ 32) hlocal, State.port_setPort_same h]

/-- The one command that waits on a port is timed out once its time has passed. -/
theorem execPortAlignTimeout_due {s : State} {k : Fin 4} {tag since : Nat} (hcmd : s.fh.portCmd = [(k.val, tag, since)])
    (hdue : since + 384000 ≤ s.elapsed) : execPortAlignTimeout k s =
      .next (({ s with fh := { s.fh with portCmd := [] } } : State).finishNow tag .timeout []) := by
  simp [execPortAlignTimeout, hcmd, hdue]

/-- Settles O35, row by row; that the port which loses alignment reads ALIGNING is `port_portDown`. -/
theorem portEventsComplete : Obligations.PortEventsComplete := by
  refine ⟨fun s k hal hsafe => ?_, fun s k tag since hcmd hdue => ?_, fun s k hup hs => ?_, fun s k hup hfault => ?_, fun s k => ?_⟩
  · rw [exec_portAligned]
    exact if_pos ⟨hal, by rw [hsafe]; rfl⟩
  · rw [exec_portAlignTimeout, execPortAlignTimeout_due hcmd hdue]
  · rw [exec_fhLinkDown, execFhLinkDown]
    exact ⟨_, rfl, State.portDown_up hup, State.port_portDown (State.regs_swf hs) hup⟩
  · rw [exec_fhRemoteFault]
    exact if_pos ⟨hup, by rw [hfault]; rfl⟩
  · rw [exec_fhRemoteFaultCleared, execFhRemoteFaultCleared]

end Sys2Proof.Machine
end

section
/-!
SUPPORT AND PROOFS. Received frames (R281, R282, R301, R303, R305): the checks that a frame passes in their order, where an accepted
one is handed on, and the class of one U-plane section (R285-R287, R289, R291, R292).
-/
namespace Sys2Proof.Machine

/-! ### The checks of a frame, in their order (R301) -/

/-- A frame's length is between the shortest and the port's longest. -/
def State.sizedFrame (s : State) (k : Nat) (f : Frame) : Prop := 64 ≤ f.length ∧ f.length ≤ s.fld (F.ETH_CFG_MAXFRAME k)

/-- A frame is addressed to the port, or to one of the groups of PTP. -/
abbrev State.ownFrame (s : State) (k : Nat) (f : Frame) : Prop :=
  f.dmac = s.fld (F.ETH_MAC_LO_ADDR k) + 2 ^ 32 * s.fld (F.ETH_MAC_HI_ADDR k) ∨ f.dmac = 0x011B19000000 ∨ f.dmac = 0x0180C200000E

/-- A frame carries no service tag, and no tag but of the port's VLAN. -/
def State.vlanFrame (s : State) (k : Nat) (f : Frame) : Prop :=
  f.stag = false ∧ ∀ t, f.tci = some t → t % 4096 = s.fld (F.ETH_VLAN_VID k)

section
variable {s : State} {k : Nat} {f : Frame}

theorem exec_frameReceived (p : Fin 4) (hplay : s.replaying = false) : exec (.frameReceived p f) s = .next (s.frameIn p.val f) := by
  have hrow : exec (.frameReceived p f) s = execFrameReceived p f s := rfl
  rw [hrow, execFrameReceived, hplay]
  rfl

/-- The check of the length, as the model tests it. -/
theorem State.sizedFrame_iff : s.sizedFrame k f ↔ ¬ (f.length < 64 ∨ s.fld (F.ETH_CFG_MAXFRAME k) < f.length) := by
  rw [State.sizedFrame, not_or, not_lt, not_lt]

/-- The check of the tags, as the model tests it. -/
theorem State.vlanFrame_iff : s.vlanFrame k f ↔
    ¬ (f.stag = true ∨ f.tci.any (fun t => t % 4096 != s.fld (F.ETH_VLAN_VID k)) = true) := by
  simp [State.vlanFrame, Option.any_eq_true]

theorem State.frameIn_badFcs (hup : s.port k = .up) (hfcs : f.fcsOk = false) :
    s.frameIn k f = s.addFld (F.ETH_RX_FCS_COUNT k) 1 := by
  rw [State.frameIn, if_neg (not_not.2 hup), if_pos (by rw [hfcs]; rfl)]

/-- A frame on an UP port with a good FCS goes to the check of its length. -/
theorem State.frameIn_goodFcs (hup : s.port k = .up) (hfcs : f.fcsOk = true) : s.frameIn k f =
    if f.length < 64 ∨ s.fld (F.ETH_CFG_MAXFRAME k) < f.length then s.addFld (F.ETH_DISC_SIZE k) 1
    else if f.body = .pause then s.addFld (F.ETH_PAUSE_COUNT k) 1
    else if ¬ s.ownFrame k f then s.addFld (F.ETH_DISC_DMAC k) 1
    else if f.stag = true ∨ f.tci.any (fun t => t % 4096 != s.fld (F.ETH_VLAN_VID k)) = true then s.addFld (F.ETH_DISC_VLAN k) 1
    else ((s.addFld (F.ETH_RX_FRAMES_COUNT k) 1).noteItem (.frame k f)).handFrame k f := by
  rw [State.frameIn, if_neg (not_not.2 hup), if_neg (by rw [hfcs]; decide)]

theorem State.frameIn_badSize (hup : s.port k = .up) (hfcs : f.fcsOk = true) (hsize : ¬ s.sizedFrame k f) :
    s.frameIn k f = s.addFld (F.ETH_DISC_SIZE k) 1 := by
  rw [State.frameIn_goodFcs hup hfcs, if_pos (not_not.1 (mt State.sizedFrame_iff.2 hsize))]

theorem State.frameIn_pause (hup : s.port k = .up) (hfcs : f.fcsOk = true) (hsize : s.sizedFrame k f) (hbody : f.body = .pause) :
    s.frameIn k f = s.addFld (F.ETH_PAUSE_COUNT k) 1 := by
  rw [State.frameIn_goodFcs hup hfcs, if_neg (State.sizedFrame_iff.1 hsize), if_pos hbody]

theorem State.frameIn_otherMac (hup : s.port k = .up) (hfcs : f.fcsOk = true) (hsize : s.sizedFrame k f) (hbody : f.body ≠ .pause)
    (hmac : ¬ s.ownFrame k f) : s.frameIn k f = s.addFld (F.ETH_DISC_DMAC k) 1 := by
  rw [State.frameIn_goodFcs hup hfcs, if_neg (State.sizedFrame_iff.1 hsize), if_neg hbody, if_pos hmac]

theorem State.frameIn_otherVlan (hup : s.port k = .up) (hfcs : f.fcsOk = true) (hsize : s.sizedFrame k f) (hbody : f.body ≠ .pause)
    (hmac : s.ownFrame k f) (hvlan : ¬ s.vlanFrame k f) : s.frameIn k f = s.addFld (F.ETH_DISC_VLAN k) 1 := by
  rw [State.frameIn_goodFcs hup hfcs, if_neg (State.sizedFrame_iff.1 hsize), if_neg hbody, if_neg (not_not.2 hmac),
    if_pos (not_not.1 (mt State.vlanFrame_iff.2 hvlan))]

/-- A frame that passes every check is counted, noted for the recorder and handed on. -/
theorem State.frameIn_accepted (hup : s.port k = .up) (hfcs : f.fcsOk = true) (hsize : s.sizedFrame k f) (hbody : f.body ≠ .pause)
    (hmac : s.ownFrame k f) (hvlan : s.vlanFrame k f) :
    s.frameIn k f = ((s.addFld (F.ETH_RX_FRAMES_COUNT k) 1).noteItem (.frame k f)).handFrame k f := by
  rw [State.frameIn_goodFcs hup hfcs, if_neg (State.sizedFrame_iff.1 hsize), if_neg hbody, if_neg (not_not.2 hmac),
    if_neg (State.vlanFrame_iff.1 hvlan)]

end

/-! ### Where an accepted frame is handed on (R282, R303, R305) -/

section
variable {u : State} {k : Nat} {f : Frame}

theorem State.handFrame_uplane {e q : Nat} {ok : Bool} {h : AppHdr} {l : List UpSection}
    (hbody : f.body = .ecpri 1 false 0 (.uplane e q ok h l)) (hquiet : u.pwr.quietAt = false) :
    u.handFrame k f = u.upMessage k e q ok h l := by
  simp [State.handFrame, hbody, hquiet]

theorem State.handFrame_cplane {e q : Nat} {ok : Bool} {h : AppHdr} {l : List CpSection}
    (hbody : f.body = .ecpri 1 false 2 (.cplane e q ok h l)) (hquiet : u.pwr.quietAt = false) :
    u.handFrame k f = u.cpMessage k e q ok h l := by
  simp [State.handFrame, hbody, hquiet]

/-- An in-band packet waits, where in-band control is on and fewer than 16 wait. -/
theorem State.handFrame_inband {bs : List Byte} (hbody : f.body = .ecpri 1 false 0xC0 (.privi bs))
    (hport : u.flag (F.ETH_CFG_INBAND k) = true) (hen : u.flag F.MBX_CTRL_INB_EN = true) (hroom : u.privi.inbPackets.length < 16) :
    u.handFrame k f = u.putPrivi { u.privi with
      inbPackets := u.privi.inbPackets ++ [(bs, ⟨k, f.smac, f.tci.getD 0 % 4096, f.tci.getD 0 / 8192⟩)] } := by
  simp [State.handFrame, hbody, hport, hen, hroom]

/-- An in-band packet is discarded, where in-band control is off as a whole, or 16 wait. -/
theorem State.handFrame_inbandDiscarded {bs : List Byte} (hbody : f.body = .ecpri 1 false 0xC0 (.privi bs))
    (hfull : u.flag F.MBX_CTRL_INB_EN = false ∨ u.flag (F.ETH_CFG_INBAND k) = true ∧ 16 ≤ u.privi.inbPackets.length) :
    u.handFrame k f = u.addFld F.MBX_DISC_INB 1 := by
  rcases hfull with hoff | ⟨hport, hfull⟩
  · simp [State.handFrame, hbody, hoff]
  · simp [State.handFrame, hbody, hport, not_lt.2 hfull]

/-- A PTP frame is stamped, forwarded, and with PTP set handed to the PTP stack. -/
theorem State.handFrame_ptp {mt : Nat} {bs : List Byte} (hbody : f.body = .ptp mt bs)
    (hon : u.flag (F.ETH_CFG_PTP k) = true ∨ u.flag (F.ETH_CFG_TC k) = true) : u.handFrame k f =
    u.ptpIn k mt bs f.residence := by
  simp only [State.handFrame, hbody, hon, if_true]

/-- A frame of another type, eCPRI revision or with concatenation is discarded. -/
theorem State.handFrame_discarded
    (hbody : f.body = .other ∨ ∃ r c mt b, f.body = .ecpri r c mt b ∧ (r ≠ 1 ∨ c = true)) :
    u.handFrame k f = u.addFld (F.ETH_DISC_TYPE k) 1 := by
  rcases hbody with hbody | ⟨r, c, mt, b, hbody, hbad⟩
  · simp only [State.handFrame, hbody]
  · simp only [State.handFrame, hbody, hbad, if_true]

end

/-! ### One U-plane section (R285-R287, R289, R291, R292) -/

/-- The tick in which the symbol of a U-plane section begins. -/
def State.airTick (s : State) (e : Eaxc) (h : AppHdr) (o : Nat) : Nat :=
  s.resolve (s.geo true e.car) h.frameId (symIndex (s.geo true e.car).mu h o)

/-- R289's class of a U-plane section. -/
def State.upArrival (s : State) (e : Eaxc) (h : AppHdr) (o : Nat) : Arrival :=
  s.arrival (s.dueTick (s.airTick e h o)) (s.fld F.FRM_WIN0_DL_UP_OPEN) (s.earlyTicks (s.geo true e.car))

section
variable {s : State} {e : Eaxc} {h : AppHdr} {o : Nat} {x : UpSection}

/-- A section of every resource block of a range within its carrier is taken by its class. -/
theorem State.upSection_fits (hrb : x.rb = 0)
    (hrange : x.startPrb + prbCount (s.carNrb true e.car) x.startPrb x.numPrb ≤ s.carNrb true e.car)
    (hstart : x.startPrb < s.carNrb true e.car) : s.upSection e h o x =
      match s.upArrival e h o with
      | .tooEarly => s.addFld F.FRM_TOO_EARLY_COUNT 1
      | .late => s.loseSection e.index e.car (s.airTick e h o) false false
      | .early => (s.addFld F.FRM_UP_EARLY_COUNT 1).storeSection e (s.airTick e h o) (s.dueTick (s.airTick e h o)) x
      | .onTime => s.storeSection e (s.airTick e h o) (s.dueTick (s.airTick e h o)) x := by
  have hgood : ¬ (x.rb ≠ 0 ∨ s.carNrb true e.car < x.startPrb + prbCount (s.carNrb true e.car) x.startPrb x.numPrb ∨
      s.carNrb true e.car ≤ x.startPrb) := by omega
  rw [State.upSection, if_neg hgood, ← State.airTick, ← State.upArrival]
  cases s.upArrival e h o <;> rfl

theorem State.storeSection_full {air due : Nat} (hfull : ingressBytes < s.ingressUsed + x.bytes.length) :
    s.storeSection e air due x = (s.addFld F.FRM_ING_DROP_COUNT 1).loseSection e.index e.car air true false := if_pos hfull

/-- A section that finds room waits at the end of the store. -/
theorem State.storeSection_room {air due : Nat} (hroom : s.ingressUsed + x.bytes.length ≤ ingressBytes) :
    ∃ g, (s.storeSection e air due x).fh.ingress = s.fh.ingress ++ [g] ∧ g.part.start = air ∧ g.due = due ∧
      g.part.bytes = x.bytes ∧ g.recv = s.tickno := by
  rw [State.storeSection, if_neg (not_lt.2 hroom)]
  exact ⟨_, rfl, rfl, rfl, rfl, rfl⟩

end

/-- Settles O34: the frame's clauses are `frameIn` at the check that decides them, and where it is handed on; the section's are
`upSection_fits` in each of its classes. -/
theorem receivedFrameActs : Obligations.ReceivedFrameActs := by
  refine ⟨fun s p f hplay hup => ?_, fun s e h o x hrb hrange hstart => ?_⟩
  · intro k mac mine vlan sized
    rw [exec_frameReceived p hplay]
    refine ⟨fun hfcs => ?_, fun hfcs hsize => ?_, fun hfcs hsize hbody => ?_, fun hfcs hsize hbody hmac => ?_,
      fun hfcs hsize hbody hmac hvlan => ?_, fun hfcs hsize hmac hvlan => ?_⟩
    · rw [State.frameIn_badFcs hup hfcs]
    · rw [State.frameIn_badSize hup hfcs hsize]
    · rw [State.frameIn_pause hup hfcs hsize hbody]
    · rw [State.frameIn_otherMac hup hfcs hsize hbody hmac]
    · rw [State.frameIn_otherVlan hup hfcs hsize hbody hmac hvlan]
    · intro u
      have hand (hbody : f.body ≠ .pause) : s.frameIn p.val f = u.handFrame k f :=
        State.frameIn_accepted hup hfcs hsize hbody hmac hvlan
      refine ⟨fun e q ok h l hbody hquiet => ?_, fun e q ok h l hbody hquiet => ?_, fun bs hbody hport hen hroom => ?_,
        fun bs hbody hfull => ?_, fun mt bs hbody hon => ?_, fun hbody => ?_⟩
      · rw [hand (by simp [hbody]), State.handFrame_uplane hbody hquiet]
      · rw [hand (by simp [hbody]), State.handFrame_cplane hbody hquiet]
      · rw [hand (by simp [hbody]), State.handFrame_inband hbody hport hen hroom]
        exact ⟨_, rfl, rfl, rfl⟩
      · rw [hand (by simp [hbody]), State.handFrame_inbandDiscarded hbody hfull]
      · rw [hand (by simp [hbody]), State.handFrame_ptp hbody hon]
        rfl
      · rw [hand (by rcases hbody with hbody | ⟨r, c, mt, b, hbody, -⟩ <;> simp [hbody]), State.handFrame_discarded hbody]
  · intro g air a
    have hsec := State.upSection_fits (h := h) (o := o) hrb hrange hstart
    refine ⟨fun ha => ?_, fun ha => ?_, fun ha hfull => ?_, fun ha hroom => ?_, fun ha => ?_⟩ <;>
      rw [hsec, show s.upArrival e h o = _ from ha]
    · rfl
    · exact State.storeSection_full hfull
    · exact State.storeSection_room hroom
    · rfl

end Sys2Proof.Machine
end

section
/-!
SUPPORT AND PROOFS. Lane commands (R315, R338-R341): a lane's mode, rate, EN and MLSE read back what LANE_CONFIG_GROUP wrote, whatever
its start, its module and its end write after it, and every other row acts on the command it takes up.
-/
namespace Sys2Proof.Machine

/-! ### The rows -/

theorem exec_laneConfigGroup (tag : Nat) (apps : List (Nat × Nat)) (s : State) :
    exec (.laneConfigGroup tag apps) s = execLaneConfigGroup tag apps s := rfl
theorem exec_laneConfigTimeout (k : Fin 4) (s : State) : exec (.laneConfigTimeout k) s = execLaneConfigTimeout k s := rfl
theorem exec_laneAdaptRestart (tag : Nat) (s : State) : exec (.laneAdaptRestart tag) s = execLaneAdaptRestart tag s := rfl
theorem exec_laneAdaptHold (tag : Nat) (s : State) : exec (.laneAdaptHold tag) s = execLaneAdaptHold tag s := rfl
theorem exec_laneAdaptRelease (tag : Nat) (s : State) : exec (.laneAdaptRelease tag) s = execLaneAdaptRelease tag s := rfl
theorem exec_laneAdaptStore (tag : Nat) (s : State) : exec (.laneAdaptStore tag) s = execLaneAdaptStore tag s := rfl
theorem exec_laneLoadPreset (tag : Nat) (s : State) : exec (.laneLoadPreset tag) s = execLaneLoadPreset tag s := rfl
theorem exec_laneBitSlip (tag : Nat) (s : State) : exec (.laneBitSlip tag) s = execLaneBitSlip tag s := rfl
theorem exec_lanePrbs (tag : Nat) (s : State) : exec (.lanePrbs tag) s = execLanePrbs tag s := rfl

/-! ### What leaves the lanes' configuration as it is -/

/-- The fields in which a lane's configuration stands. -/
def laneConfigFields (l : Nat) : List Fld := [F.LN_STATUS_MODE l, F.LN_STATUS_RATE l, F.LN_CFG_EN l, F.LN_CFG_MLSE l]

/-- A field that lies apart from the configuration of every lane. -/
def Fld.offLaneConfig (f : Fld) : Prop := f.lo + f.width ≤ 32 ∧ ∀ l, l < 8 → ∀ g ∈ laneConfigFields l, g.apart f = true

/-- The configuration of every lane reads in `t` as in `s`, whose canonical form `t` has. -/
def SameLaneConfig (s t : State) : Prop :=
  s.canonical = true → t.canonical = true ∧ ∀ l, l < 8 → ∀ f ∈ laneConfigFields l, t.fld f = s.fld f

/-- Fields lie apart in different registers, or one below the other. -/
theorem Fld.apart_iff (f g : Fld) :
    f.apart g = true ↔ f.addr ≠ g.addr ∨ f.lo + f.width ≤ g.lo ∨ g.lo + g.width ≤ f.lo := by
  simp [Fld.apart, or_assoc]

/-- The configuration stands in the first two registers of a lane's block: bits 12:10 of the one, 3:2 of the other. -/
theorem mem_laneConfigFields_cases {l : Nat} {f : Fld} (hf : f ∈ laneConfigFields l) :
    f.addr = 0x310000 + 0x1000 * l ∧ 10 ≤ f.lo ∨ f.addr = 0x310004 + 0x1000 * l ∧ 2 ≤ f.lo := by
  simp only [laneConfigFields, List.mem_cons, List.not_mem_nil, or_false] at hf
  rcases hf with rfl | rfl | rfl | rfl
  · exact .inl ⟨rfl, (by decide : 10 ≤ 11)⟩
  · exact .inl ⟨rfl, le_refl 10⟩
  · exact .inr ⟨rfl, (by decide : 2 ≤ 3)⟩
  · exact .inr ⟨rfl, le_refl 2⟩

/-- A register outside the lanes' blocks lies apart. -/
theorem Fld.offLaneConfig_of_addr {f : Fld} (hf : f.lo + f.width ≤ 32) (ha : f.addr < 0x310000 ∨ 0x318000 ≤ f.addr) :
    f.offLaneConfig := by
  refine ⟨hf, fun l hl g hg => (Fld.apart_iff _ _).2 (.inl ?_)⟩
  rcases mem_laneConfigFields_cases hg with ⟨haddr, -⟩ | ⟨haddr, -⟩ <;> omega

/-- Within a lane's block a field lies apart that stands in neither of the two configuration registers, or below their fields. -/
theorem Fld.offLaneConfig_of_lane {i off lo width : Nat} (hf : lo + width ≤ 32)
    (hoff : off < 0x1000 ∧ off % 4 = 0 ∧ (off = 0 → lo + width ≤ 10) ∧ (off = 4 → lo + width ≤ 2)) :
    Fld.offLaneConfig ⟨0x310000 + off + 0x1000 * i, lo, width⟩ := by
  refine ⟨hf, fun l _ g hg => (Fld.apart_iff _ _).2 ?_⟩
  rcases mem_laneConfigFields_cases hg with ⟨haddr, hlo⟩ | ⟨haddr, hlo⟩ <;> simp only [haddr] <;> omega

namespace SameLaneConfig
variable {s t u : State}

theorem refl (s : State) : SameLaneConfig s s := fun hs => ⟨hs, fun _ _ _ _ => rfl⟩

theorem trans (h : SameLaneConfig s t) (h' : SameLaneConfig t u) : SameLaneConfig s u := fun hs =>
  ⟨(h' (h hs).1).1, fun l hl f hf => ((h' (h hs).1).2 l hl f hf).trans ((h hs).2 l hl f hf)⟩

theorem foldl {α : Type} {f : State → α → State} (hf : ∀ t x, SameLaneConfig t (f t x)) (l : List α) (s : State) :
    SameLaneConfig s (l.foldl f s) :=
  List.foldlRecOn (motive := SameLaneConfig s) l f (refl s) (fun t h x _ => h.trans (hf t x))

theorem ite {c : Prop} [Decidable c] (ht : SameLaneConfig s t) (hu : SameLaneConfig s u) :
    SameLaneConfig s (if c then t else u) := by
  split
  · exact ht
  · exact hu

/-- A state with the same registers and the same host memory. -/
theorem of_regs (hr : t.regs = s.regs) (hm : t.hostMem = s.hostMem) : SameLaneConfig s t := fun hs =>
  ⟨by rwa [State.canonical, hr, hm], fun _ _ f _ => State.fld_of_regs hr f⟩

theorem withLn (s : State) (x : LaneState) : SameLaneConfig s { s with ln := x } := of_regs rfl rfl

theorem setFld {f : Fld} (hf : f.offLaneConfig) (s : State) (v : Nat) : SameLaneConfig s (s.setFld f v) := fun hs =>
  ⟨State.setFld_canonical hs f v, fun l hl g hg => State.fld_setFld_apart (State.regs_swf hs) v hf.1 (hf.2 l hl g hg)⟩

theorem raiseFree (s : State) (code source sev : Nat) : SameLaneConfig s (s.raiseFree code source sev) := fun hs =>
  ⟨(State.raiseFree_keeps (kq := true) (Keeps.refl s)).stores hs, fun l _ f hf => by
    have hne : f.addr ≠ 0x40048 := by
      rcases mem_laneConfigFields_cases hf with ⟨haddr, -⟩ | ⟨haddr, -⟩ <;> omega
    rw [State.fld, State.reg_raiseFree_other s code source sev hne, State.fld]⟩

theorem putPrivi (s : State) (p : PriviState) : SameLaneConfig s (s.putPrivi p) :=
  (of_regs (t := { s with privi := p }) rfl rfl).trans <|
    (setFld (Fld.offLaneConfig_of_addr (by decide) (by decide)) _ _).trans <|
    (setFld (Fld.offLaneConfig_of_addr (by decide) (by decide)) _ _).trans
    (setFld (Fld.offLaneConfig_of_addr (by decide) (by decide)) _ _)

theorem finish (s : State) (tag : Nat) (o : Outcome) : SameLaneConfig s (s.finish tag o) := by
  unfold State.finish
  split
  · exact ite (putPrivi s _) (refl s)
  · exact refl s

theorem finishPart (s : State) (tag : Nat) (st : Status) (part : Bool) (payload : List Byte) :
    SameLaneConfig s (s.finishPart tag st part payload) := finish s tag _

theorem setLane (s : State) (l : Nat) (x : LaneAdapt) : SameLaneConfig s (s.setLane l x) :=
  setFld (Fld.offLaneConfig_of_lane (off := 0) (by decide) (by decide)) s _

theorem laneOff (s : State) (l : Nat) : SameLaneConfig s (s.laneOff l) :=
  ite (refl s) <| (setLane s l .off).trans <|
    (setFld (Fld.offLaneConfig_of_lane (off := 0) (by decide) (by decide)) _ _).trans
    (setFld (Fld.offLaneConfig_of_lane (off := 0) (by decide) (by decide)) _ _)

theorem laneStart (s : State) (l : Nat) : SameLaneConfig s (s.laneStart l) :=
  ite ((of_regs (t := s.loadPreset l) rfl rfl).trans (setLane _ _ _)) (refl s)

theorem laneDone (s : State) : SameLaneConfig s s.laneDone := by
  unfold State.laneDone
  extract_lets ok due ln u
  exact (withLn s _).trans (foldl (fun t w => finishPart t w.tag .ok w.part w.mask) due u)

theorem laneWait (s : State) (w : LaneWait) :
    SameLaneConfig s ({ s with ln := { s.ln with waits := s.ln.waits ++ [w] } } : State).laneDone :=
  (withLn s { s.ln with waits := s.ln.waits ++ [w] }).trans (laneDone _)

theorem outputHolds (s : State) : SameLaneConfig s s.outputHolds :=
  (setFld (Fld.offLaneConfig_of_addr (by decide) (by decide)) _ _).trans
    (setFld (Fld.offLaneConfig_of_addr (by decide) (by decide)) _ _)

theorem stopPrbs (s : State) (l : Nat) : SameLaneConfig s (s.stopPrbs l) :=
  (setFld (Fld.offLaneConfig_of_lane (off := 0x80) (by decide) (by decide)) _ _).trans <|
    (setFld (Fld.offLaneConfig_of_lane (off := 0x80) (by decide) (by decide)) _ _).trans <|
    (setFld (Fld.offLaneConfig_of_lane (off := 0x84) (by decide) (by decide)) _ _).trans (of_regs rfl rfl)

theorem appSelect (s : State) (m : Nat) (apps : List (Nat × Nat)) : SameLaneConfig s (s.appSelect m apps) := by
  have happ : 0x318000 ≤ 0x318004 + 0x100 * m := by omega
  unfold State.appSelect
  refine ite ?_ (refl s)
  split
  · exact (setFld (Fld.offLaneConfig_of_addr (by decide : 8 + 8 ≤ 32) (.inr happ)) _ _).trans (of_regs rfl rfl)
  · exact raiseFree _ _ _ _

end SameLaneConfig

/-! ### LANE_CONFIG_GROUP (R338) -/

/-- The configuration of lane `l` as the command writes it on the group's lane `i`: each field with its value. -/
def laneConfigWrites (c : Cmd) (l i : Nat) : List (Fld × Nat) :=
  [(F.LN_STATUS_MODE l, leAt c.payload 1 1), (F.LN_STATUS_RATE l, leAt c.payload 2 1),
    (F.LN_CFG_EN l, b2n (bitAt (leAt c.payload 3 1) i)), (F.LN_CFG_MLSE l, b2n (bitAt (leAt c.payload 4 1) i))]

theorem laneConfigWrites_map_fst (c : Cmd) (l i : Nat) : (laneConfigWrites c l i).map Prod.fst = laneConfigFields l := rfl

/-- All that the command writes in them, the polarities too. -/
def groupWrites (c : Cmd) (l i : Nat) : List (Fld × Nat) := laneConfigWrites c l i ++
  [(F.LN_CFG_TX_INV l, b2n (bitAt (leAt c.payload 5 1) i)), (F.LN_CFG_RX_INV l, b2n (bitAt (leAt c.payload 6 1) i))]

/-- Where they stand. -/
def groupFields (l : Nat) : List Fld := laneConfigFields l ++ [F.LN_CFG_TX_INV l, F.LN_CFG_RX_INV l]

theorem groupWrites_map_fst (c : Cmd) (l i : Nat) : (groupWrites c l i).map Prod.fst = groupFields l := rfl

theorem groupWrites_fit (c : Cmd) (l i : Nat) : ∀ w ∈ groupWrites c l i, w.1.lo + w.1.width ≤ 32 := by
  have hfit : ∀ f ∈ groupFields l, f.lo + f.width ≤ 32 := by
    simp [groupFields, laneConfigFields, F.LN_STATUS_MODE, F.LN_STATUS_RATE, F.LN_CFG_EN, F.LN_CFG_MLSE, F.LN_CFG_TX_INV,
      F.LN_CFG_RX_INV]
  exact fun w hw => hfit w.1 (List.mem_map_of_mem (f := Prod.fst) hw)

theorem groupWrites_apart (c : Cmd) (l i : Nat) : (groupWrites c l i).Pairwise (fun v w => v.1.apart w.1 = true) := by
  have hapart : (groupFields l).Pairwise (fun f g => f.apart g = true) := by
    simp [groupFields, laneConfigFields, Fld.apart, F.LN_STATUS_MODE, F.LN_STATUS_RATE, F.LN_CFG_EN, F.LN_CFG_MLSE,
      F.LN_CFG_TX_INV, F.LN_CFG_RX_INV]
  rwa [← groupWrites_map_fst c l i, List.pairwise_map] at hapart

/-- The command writes nothing of another lane's configuration. -/
theorem groupWrites_apart_other (c : Cmd) {l j : Nat} (hj : j ≠ l) (i : Nat) :
    ∀ f ∈ laneConfigFields j, ∀ w ∈ groupWrites c l i, f.apart w.1 = true := by
  intro f hf w hw
  have haddr : w.1.addr = 0x310000 + 0x1000 * l ∨ w.1.addr = 0x310004 + 0x1000 * l := by
    rcases List.mem_append.1 hw with hw | hw
    · exact (mem_laneConfigFields_cases (List.mem_map_of_mem (f := Prod.fst) hw)).imp And.left And.left
    · simp only [List.mem_cons, List.not_mem_nil, or_false] at hw
      rcases hw with rfl | rfl <;> exact .inr rfl
  refine (Fld.apart_iff _ _).2 (.inl ?_)
  rcases mem_laneConfigFields_cases hf with ⟨h, -⟩ | ⟨h, -⟩ <;> omega

/-- LANE_CONFIG_GROUP on lane `i` of its group; `again` are the group's lanes that start anew. -/
def State.configLane (s : State) (c : Cmd) (again : List Nat) (i : Nat) : State :=
  let l := 2 * leAt c.payload 0 1 + i
  let s := s.putFields (groupWrites c l i)
  let s := if leAt c.payload 1 1 = 3 then s else s.stopPrbs l
  if again.contains i then s.setFld (F.LN_STATUS_MLSE l) (b2n (bitAt (leAt c.payload 4 1) i))
  else { s with ln := { s.ln with changes := s.ln.changes ++ [LaneChange.mlse l (b2n (bitAt (leAt c.payload 4 1) i) == 1)] } }

/-- Once both lanes are configured, the rest of the command leaves their configuration. -/
theorem State.setGroup_configLane {s : State} (c : Cmd) (apps : List (Nat × Nat)) (hs : s.canonical = true) :
    ∃ (t : State) (again : List Nat), t.canonical = true ∧
      SameLaneConfig ((t.configLane c again 0).configLane c again 1) (s.setGroup c apps) := by
  unfold State.setGroup
  extract_lets p k mode rate ls ln bit moved whole turned again gone off conf started chosen held live rest
  have hoff : SameLaneConfig s off := .foldl (fun t i => .laneOff t (ln i)) again s
  have hstart : SameLaneConfig conf started := .foldl (fun t i => .laneStart t (ln i)) again conf
  have hchosen : SameLaneConfig started chosen := .ite (.appSelect _ _ _) (.refl _)
  have hconf : conf = (off.configLane c again 0).configLane c again 1 := rfl
  clear_value conf
  subst hconf
  refine ⟨off, again, (hoff hs).1, (hstart.trans hchosen).trans ((SameLaneConfig.outputHolds chosen).trans ?_)⟩
  split
  refine .ite (.finishPart held _ _ _ _) ?_
  exact .laneWait held _

/-- A configured lane reads what was written; the rest that the command does to it leaves that. -/
theorem SameLaneConfig.configLane {s : State} (c : Cmd) (again : List Nat) (i : Nat) :
    SameLaneConfig (s.putFields (groupWrites c (2 * leAt c.payload 0 1 + i) i)) (s.configLane c again i) := by
  unfold State.configLane
  extract_lets l u v ln
  refine .trans (t := v) (.ite (.refl u) (.stopPrbs u l)) (.ite ?_ (.of_regs rfl rfl))
  exact .setFld (Fld.offLaneConfig_of_lane (off := 0) (by decide) (by decide)) v _

theorem State.putFields_canonical {s : State} (h : s.canonical = true) (l : List (Fld × Nat)) : (s.putFields l).canonical = true :=
  List.foldlRecOn (motive := fun t : State => t.canonical = true) l _ h (fun _ ht w _ => State.setFld_canonical ht w.1 w.2)

theorem State.configLane_canonical {s : State} (hs : s.canonical = true) (c : Cmd) (again : List Nat) (i : Nat) :
    (s.configLane c again i).canonical = true :=
  (SameLaneConfig.configLane c again i (State.putFields_canonical hs _)).1

/-- A field of the configured lane reads its value. -/
theorem State.fld_configLane_same {s : State} (hs : s.canonical = true) {c : Cmd} (again : List Nat) {i : Nat}
    (hl : 2 * leAt c.payload 0 1 + i < 8) {f : Fld} {v : Nat}
    (hw : (f, v) ∈ laneConfigWrites c (2 * leAt c.payload 0 1 + i) i) : (s.configLane c again i).fld f = v % 2 ^ f.width := by
  rw [(SameLaneConfig.configLane c again i (State.putFields_canonical hs _)).2 _ hl f (List.mem_map_of_mem (f := Prod.fst) hw)]
  exact State.fld_putFields (State.regs_swf hs) (groupWrites_fit c _ i) (groupWrites_apart c _ i) (List.mem_append_left _ hw)

/-- One of another lane reads as before. -/
theorem State.fld_configLane_other {s : State} (hs : s.canonical = true) {c : Cmd} (again : List Nat) {i j : Nat} (hj : j < 8)
    (hne : j ≠ 2 * leAt c.payload 0 1 + i) {f : Fld} (hf : f ∈ laneConfigFields j) : (s.configLane c again i).fld f = s.fld f := by
  rw [(SameLaneConfig.configLane c again i (State.putFields_canonical hs _)).2 j hj f hf]
  exact State.fld_putFields_apart (State.regs_swf hs) (groupWrites_fit c _ i) (groupWrites_apart_other c hne i f hf)

/-- LANE_CONFIG_GROUP stores the group's mode and rate, and EN and MLSE of each of its lanes. -/
theorem State.fld_setGroup {s : State} (hs : s.canonical = true) {c : Cmd} (apps : List (Nat × Nat)) (hk : leAt c.payload 0 1 < 4)
    {i : Nat} (hi : i < 2) {f : Fld} {v : Nat} (hw : (f, v) ∈ laneConfigWrites c (2 * leAt c.payload 0 1 + i) i) :
    (s.setGroup c apps).fld f = v % 2 ^ f.width := by
  obtain ⟨t, again, ht, hsame⟩ := State.setGroup_configLane c apps hs
  have hfirst := State.configLane_canonical ht c again 0
  have hl : 2 * leAt c.payload 0 1 + i < 8 := by omega
  have hf : f ∈ laneConfigFields (2 * leAt c.payload 0 1 + i) := List.mem_map_of_mem (f := Prod.fst) hw
  rw [(hsame (State.configLane_canonical hfirst c again 1)).2 _ hl f hf]
  rcases Nat.le_one_iff_eq_zero_or_eq_one.1 (Nat.le_of_lt_succ hi) with rfl | rfl
  · rw [State.fld_configLane_other hfirst again hl (by omega) hf, State.fld_configLane_same ht again hl hw]
  · exact State.fld_configLane_same hfirst again hl hw

theorem b2n_bitAt (v i : Nat) : b2n (bitAt v i) = v / 2 ^ i % 2 := by
  rcases Nat.mod_two_eq_zero_or_one (v / 2 ^ i) with h | h <;> simp [bitAt, b2n, h]

/-- RAW is configured only while the unlock is in force (R315). -/
theorem State.configGroup_allowed {s : State} {c : Cmd} (hraw : leAt c.payload 1 1 = 3 → s.unlockedFor 2 = true)
    (apps : List (Nat × Nat)) : s.configGroup c apps = s.setGroup c apps :=
  if_neg (fun h => by simp [hraw h.1] at h)

/-- What waits on the lanes leaves their states. -/
@[simp] theorem State.lane_withLn (s : State) (x : LaneState) (l : Nat) : ({ s with ln := x } : State).lane l = s.lane l := rfl

/-- The one command that waits on a group is timed out once its time has passed. -/
theorem execLaneConfigTimeout_due {s : State} {k : Fin 4} {w : LaneWait} (hwait : s.ln.waits = [w]) (hk : w.group = k.val)
    (hdue : w.since + 153600 ≤ s.elapsed) : execLaneConfigTimeout k s =
      .next (({ s with ln := { s.ln with waits := [] } } : State).finishPart w.tag .timeout w.part
        (leBytes 1 (s.lane (2 * k.val)).code ++ leBytes 1 (s.lane (2 * k.val + 1)).code ++ leBytes 2 0)) := by
  simp [execLaneConfigTimeout, hwait, hk, hdue]

/-- Settles O39: the group's fields are those of `fld_setGroup`, and every other row is `performStart` of its own effect. -/
theorem laneCommandsComplete : Obligations.LaneCommandsComplete := by
  refine ⟨fun s tag apps c u h hu hk hraw => ?_, fun s k w hwait hk hdue => ?_, fun s tag c u h => ?_, fun s tag c u h => ?_,
    fun s tag c u h => ?_⟩
  · rw [exec_laneConfigGroup, execLaneConfigGroup, h.performStart rfl, State.configGroup_allowed hraw]
    refine ⟨_, rfl, fun i hi => ?_⟩
    have hfld {f : Fld} {v : Nat} := State.fld_setGroup hu apps hk hi (f := f) (v := v)
    have hbit (n : Nat) : b2n (bitAt (leAt c.payload n 1) i) % 2 ^ 1 = leAt c.payload n 1 / 2 ^ i % 2 := by
      rw [b2n_bitAt]
      exact Nat.mod_mod _ 2
    exact ⟨hfld (by simp [laneConfigWrites]), hfld (by simp [laneConfigWrites]),
      (hfld (by simp [laneConfigWrites])).trans (hbit 3), (hfld (by simp [laneConfigWrites])).trans (hbit 4)⟩
  · rw [exec_laneConfigTimeout, execLaneConfigTimeout_due hwait hk hdue]
  · intro live ends
    have hop {n : Nat} (hn : c.op = n) : isOp n c = true := by simp [isOp, hn]
    refine ⟨fun hn => ?_, fun hn => ?_, fun hn => ?_, fun hn => ?_, fun hn => ?_⟩
    · rw [exec_laneAdaptRestart, execLaneAdaptRestart, h.performStart (hop hn)]
      rfl
    · rw [exec_laneAdaptHold, execLaneAdaptHold, h.performStart (hop hn)]
      rfl
    · rw [exec_laneAdaptRelease, execLaneAdaptRelease, h.performStart (hop hn)]
      rfl
    · rw [exec_laneAdaptStore, execLaneAdaptStore, h.performStart (hop hn)]
      rfl
    · rw [exec_laneLoadPreset, execLaneLoadPreset, h.performStart (hop hn)]
  · rw [exec_laneBitSlip, execLaneBitSlip, h.performStart rfl]
  · rw [exec_lanePrbs, execLanePrbs, h.performStart rfl]

end Sys2Proof.Machine
end

section
/-!
SUPPORT AND PROOFS. The adaptation of a lane's receiver (Table 11-1, R322-R325): each event acts on a lane in the state that it takes,
and a report puts the mean merit of 16 ticks into the figures of the lane and counts it in its bin.
-/
namespace Sys2Proof.Machine

/-! ### The rows -/

theorem exec_laneSignalSet (l : Fin 8) (s : State) : exec (.laneSignalSet l) s = .next (s.signalSet l.val) := rfl
theorem exec_laneLos (l : Fin 8) (s : State) : exec (.laneLos l) s = .next (s.signalLost l.val) := rfl
theorem exec_laneLock (l : Fin 8) (s : State) : exec (.laneLock l) s = .next (s.laneLock l.val).outputHolds := rfl
theorem exec_laneAcqFail (l : Fin 8) (s : State) : exec (.laneAcqFail l) s = .next (s.acqFail l.val) := rfl
theorem exec_laneUnlock (l : Fin 8) (s : State) : exec (.laneUnlock l) s = .next (s.laneUnlock l.val).outputHolds := rfl
theorem exec_laneFreeze (l : Fin 8) (s : State) : exec (.laneFreeze l) s = .next (s.laneFreeze l.val).outputHolds := rfl
theorem exec_laneUnfreeze (l : Fin 8) (s : State) : exec (.laneUnfreeze l) s = .next (s.laneUnfreeze l.val).outputHolds := rfl
theorem exec_laneFomReport (l : Fin 8) (row : Nat) (s : State) : exec (.laneFomReport l row) s = .next (s.fomReport l.val) := rfl

/-! ### Transitions (Table 11-1) -/

/-- The states in which a lane's receiver follows its signal. -/
theorem LaneAdapt.mem_following (x : LaneAdapt) :
    x ∈ [LaneAdapt.acquire, .track, .frozen] ↔ x = .acquire ∨ x = .track ∨ x = .frozen := by simp

section
variable {s : State} {l : Nat}

theorem State.signalSet_los (h : (s.setFld (F.LN_STATUS_SIGNAL l) 1).lane l = .los) :
    s.signalSet l = ((s.setFld (F.LN_STATUS_SIGNAL l) 1).reloadRx l).setLane l .acquire := if_pos h

theorem State.signalSet_other (h : (s.setFld (F.LN_STATUS_SIGNAL l) 1).lane l ≠ .los) :
    s.signalSet l = s.setFld (F.LN_STATUS_SIGNAL l) 1 := if_neg h

theorem State.signalLost_following (h : (s.setFld (F.LN_STATUS_SIGNAL l) 0).lane l ∈ [LaneAdapt.acquire, .track, .frozen]) :
    s.signalLost l = ((s.setFld (F.LN_STATUS_SIGNAL l) 0).setLane l .los).raiseFree 0x9004 (srcLane l) sevNotice :=
  if_pos ((LaneAdapt.mem_following _).1 h)

theorem State.signalLost_other (h : (s.setFld (F.LN_STATUS_SIGNAL l) 0).lane l ∉ [LaneAdapt.acquire, .track, .frozen]) :
    s.signalLost l = s.setFld (F.LN_STATUS_SIGNAL l) 0 := if_neg (mt (LaneAdapt.mem_following _).2 h)

theorem State.laneLock_due (hst : s.lane l = .acquire) (hdue : 3840 ≤ (s.laneHw l).above) : s.laneLock l =
    (((s.setLane l .track).addFld (F.LN_LOCKS_COUNT l) 1).raiseFree 0x9001 (srcLane l) sevInfo).laneDone := if_pos ⟨hst, hdue⟩

theorem State.acqFail_due (hst : s.lane l = .acquire) (hdue : 76800 ≤ (s.laneHw l).timer) : s.acqFail l =
    ((s.reloadRx l).addFld (F.LN_ACQ_FAILS_COUNT l) 1).raiseFree 0x9003 (srcLane l) sevWarning := if_pos ⟨hst, hdue⟩

theorem State.laneUnlock_due (hst : s.lane l = .track) (hdue : 384 ≤ (s.laneHw l).below) : s.laneUnlock l =
    (((s.reloadRx l).setLane l .acquire).addFld (F.LN_UNLOCKS_COUNT l) 1).raiseFree 0x9002 (srcLane l) sevWarning :=
  if_pos ⟨hst, hdue⟩

theorem State.laneFreeze_low (hst : s.lane l = .acquire ∨ s.lane l = .track)
    (hlow : (s.laneHw l).lowContent (s.fld (F.LN_STATUS_RATE l)) = true) : s.laneFreeze l =
    ((s.putLaneHw l { s.laneHw l with tracked := s.lane l == .track }).setLane l .frozen).addFld (F.LN_FREEZES_COUNT l) 1 :=
  if_pos ⟨hst, hlow⟩

theorem State.laneUnfreeze_good (hst : s.lane l = .frozen)
    (hgood : (s.laneHw l).goodContent (s.fld (F.LN_STATUS_RATE l)) = true) :
    s.laneUnfreeze l = (s.setLane l (if (s.laneHw l).tracked then .track else .acquire)).laneDone := if_pos ⟨hst, hgood⟩

end

/-! ### The report of the figure of merit (R322, R325) -/

/-- The bin of the histogram in which a mean merit counts. -/
def meritBin (v : Nat) : Nat := if v < 144 then 0 else if 368 ≤ v then 15 else v / 16 - 8

/-- There are sixteen bins. -/
theorem meritBin_lt (v : Nat) : meritBin v < 16 := by
  unfold meritBin
  split_ifs <;> omega

/-- The first bin has no lower end, the last no upper one, and each between them is 1 dB wide. -/
theorem meritBin_bounds (v : Nat) : (meritBin v = 0 ∧ v < 144) ∨ (meritBin v = 15 ∧ 368 ≤ v) ∨
    (0 < meritBin v ∧ meritBin v < 15 ∧ 128 + 16 * meritBin v ≤ v ∧ v < 144 + 16 * meritBin v) := by
  unfold meritBin
  split_ifs <;> omega

theorem meanMerit_lt (xs : List Int) : meanMerit xs < 1024 := (min_le_right _ _).trans_lt (by decide)

theorem State.reports_iff (s : State) (l : Nat) :
    s.reports l = true ↔ s.lane l ∈ [LaneAdapt.acquire, .track, .frozen, .held] := by
  simp [State.reports, or_assoc]

/-- A report of the mean `v`: the current and the least figure, and its bin. -/
def State.putMerit (s : State) (l v : Nat) : State :=
  let s := s.setFld (F.LN_FOM_CUR l) v
  let s := s.setFld (F.LN_FOM_MIN l) (min (s.fld (F.LN_FOM_MIN l)) v)
  s.addFld (F.LN_FOM_HIST_COUNT l (meritBin v)) 1

theorem State.fomReport_due {s : State} {l : Nat} (hst : s.lane l ∈ [LaneAdapt.acquire, .track, .frozen, .held])
    (hdue : 16 ≤ (s.laneHw l).foms.length) : s.fomReport l =
      (s.putLaneHw l { s.laneHw l with foms := [] }).putMerit l (meanMerit ((s.laneHw l).foms.take 16)) :=
  if_pos ⟨(s.reports_iff l).2 hst, hdue⟩

/-- The figures of merit that a report writes. -/
def meritWrites (l v least : Nat) : List (Fld × Nat) := [(F.LN_FOM_CUR l, v), (F.LN_FOM_MIN l, least)]

theorem meritWrites_fit (l v least : Nat) : ∀ w ∈ meritWrites l v least, w.1.lo + w.1.width ≤ 32 := by
  simp [meritWrites, F.LN_FOM_CUR, F.LN_FOM_MIN]

theorem meritWrites_apart (l v least : Nat) : (meritWrites l v least).Pairwise (fun x y => x.1.apart y.1 = true) := by
  simp [meritWrites, Fld.apart, F.LN_FOM_CUR, F.LN_FOM_MIN]

theorem meritWrites_addr (l v least : Nat) : ∀ w ∈ meritWrites l v least, w.1.addr = 0x310008 + 0x1000 * l := by
  simp [meritWrites, F.LN_FOM_CUR, F.LN_FOM_MIN]

/-- The bins of a lane stand in registers of their own. -/
theorem histCount_addr (l b : Nat) : (F.LN_FOM_HIST_COUNT l b).addr = 0x310040 + 0x1000 * l + 4 * b := rfl

section
variable {s : State} (hs : s.canonical = true) (l v : Nat)
include hs

theorem State.putMerit_eq : s.putMerit l v =
    (s.putFields (meritWrites l v (min (s.fld (F.LN_FOM_MIN l)) v))).addFld (F.LN_FOM_HIST_COUNT l (meritBin v)) 1 := by
  have hmin : (s.setFld (F.LN_FOM_CUR l) v).fld (F.LN_FOM_MIN l) = s.fld (F.LN_FOM_MIN l) :=
    State.fld_setFld_disjoint (State.regs_swf hs) v (by decide : 0 + 10 ≤ 32) rfl (.inr (by decide : 0 + 10 ≤ 16))
  rw [State.putMerit, hmin]
  rfl

/-- A figure of merit reads the value that is written to it. -/
theorem State.fld_putMerit_figure {f : Fld} {x : Nat} (hw : (f, x) ∈ meritWrites l v (min (s.fld (F.LN_FOM_MIN l)) v)) :
    (s.putMerit l v).fld f = x % 2 ^ f.width := by
  have hbin : f.addr ≠ (F.LN_FOM_HIST_COUNT l (meritBin v)).addr := by
    have haddr : f.addr = 0x310008 + 0x1000 * l := meritWrites_addr l v _ _ hw
    rw [histCount_addr]
    omega
  rw [State.putMerit_eq hs, State.addFld, State.fld_setFld_other _ _ _ _ hbin]
  exact State.fld_putFields (State.regs_swf hs) (meritWrites_fit l v _) (meritWrites_apart l v _) hw

/-- The figures of merit leave the bins. -/
theorem State.fld_putFields_merit (least b : Nat) :
    (s.putFields (meritWrites l v least)).fld (F.LN_FOM_HIST_COUNT l b) = s.fld (F.LN_FOM_HIST_COUNT l b) := by
  refine State.fld_putFields_apart (State.regs_swf hs) (meritWrites_fit l v least) (fun w hw => (Fld.apart_iff _ _).2 (.inl ?_))
  rw [meritWrites_addr l v least w hw, histCount_addr]
  omega

/-- The bin of the mean counts one more. -/
theorem State.fld_putMerit_bin : (s.putMerit l v).fld (F.LN_FOM_HIST_COUNT l (meritBin v)) =
    min (s.fld (F.LN_FOM_HIST_COUNT l (meritBin v)) + 1) (2 ^ (F.LN_FOM_HIST_COUNT l (meritBin v)).width - 1) := by
  rw [State.putMerit_eq hs, State.fld_addFld_same (State.regs_swf (State.putFields_canonical hs _)) _ _
    (by decide : 0 + 32 ≤ 32), State.fld_putFields_merit hs]

/-- The other bins keep their counts. -/
theorem State.fld_putMerit_otherBin {b : Nat} (hb : b ≠ meritBin v) :
    (s.putMerit l v).fld (F.LN_FOM_HIST_COUNT l b) = s.fld (F.LN_FOM_HIST_COUNT l b) := by
  have hne : (F.LN_FOM_HIST_COUNT l b).addr ≠ (F.LN_FOM_HIST_COUNT l (meritBin v)).addr := by
    rw [histCount_addr, histCount_addr]
    omega
  rw [State.putMerit_eq hs, State.addFld, State.fld_setFld_other _ _ _ _ hne, State.fld_putFields_merit hs]

end

/-- Settles O40: each event by the lemma of its case, the report by the fields of `putMerit` and the bounds of `meritBin`. The figure
that a report's row shows is not read (log 171). -/
theorem laneAdaptationMoves : Obligations.LaneAdaptationMoves := by
  refine fun s l => ⟨⟨fun h => ?_, fun h => ?_⟩, ⟨fun h => ?_, fun h => ?_⟩, fun hst hdue => ?_, fun hst hdue => ?_,
    fun hst hdue => ?_, fun hst hlow => ?_, fun hst hgood => ?_, fun row hs hst hdue => ?_⟩
  · rw [exec_laneSignalSet, State.signalSet_los h]
  · rw [exec_laneSignalSet, State.signalSet_other h]
  · rw [exec_laneLos, State.signalLost_following h]
  · rw [exec_laneLos, State.signalLost_other h]
  · rw [exec_laneLock, State.laneLock_due hst hdue]
  · rw [exec_laneAcqFail, State.acqFail_due hst hdue]
  · rw [exec_laneUnlock, State.laneUnlock_due hst hdue]
  · rw [exec_laneFreeze, State.laneFreeze_low hst hlow]
  · rw [exec_laneUnfreeze, State.laneUnfreeze_good hst hgood]
  · rw [exec_laneFomReport, State.fomReport_due hst hdue]
    have hput : (s.putLaneHw l.val { s.laneHw l.val with foms := [] }).canonical = true := hs
    have hlt := meanMerit_lt ((s.laneHw l.val).foms.take 16)
    refine ⟨_, meritBin (meanMerit ((s.laneHw l.val).foms.take 16)), rfl, meritBin_lt _, ?_, ?_, State.fld_putMerit_bin hput _ _,
      fun j _ hj => State.fld_putMerit_otherBin hput _ _ hj, meritBin_bounds _⟩
    · exact (State.fld_putMerit_figure hput _ _ List.mem_cons_self).trans (Nat.mod_eq_of_lt hlt)
    · exact (State.fld_putMerit_figure hput _ _ (List.mem_cons_of_mem _ List.mem_cons_self)).trans
        (Nat.mod_eq_of_lt ((min_le_right _ _).trans_lt hlt))

end Sys2Proof.Machine
end

section
/-!
SUPPORT AND PROOFS. Patterns and capture of a lane (R322, R333-R336): the checker's moves and an injection in the case that each takes,
and the registers that a captured word and a cleared histogram fill.
-/
namespace Sys2Proof.Machine

/-! ### The rows -/

theorem exec_prbsCheckerLock (l : Fin 8) (s : State) : exec (.prbsCheckerLock l) s = .next (s.checkerLock l.val) := rfl
theorem exec_prbsCheckerLoss (l : Fin 8) (s : State) : exec (.prbsCheckerLoss l) s = execPrbsCheckerLoss l s := rfl
theorem exec_laneErrorInject (l : Fin 8) (s : State) : exec (.laneErrorInject l) s = .next (s.laneInject l.val) := rfl
theorem exec_laneRawCapture (l : Fin 8) (w : Nat) (s : State) :
    exec (.laneRawCapture l w) s = .next (s.onReg (0x310010 + 0x1000 * l.val) (fun s => s.rawCapture l.val w)) := rfl
theorem exec_laneHistClear (l : Fin 8) (s : State) :
    exec (.laneHistClear l) s = .next (s.onReg (0x310010 + 0x1000 * l.val) (fun s => s.histClear l.val)) := rfl

/-! ### Checker and injection (R334, R335) -/

section
variable {s : State}

theorem State.checkerLock_seeded {l : Nat} (hst : s.fld (F.LN_PRBS_STAT_STATE l) = 1) (hown : (s.pat l).own.isSome = true) :
    s.checkerLock l = ((s.countBits l (s.pat l).pend).putPat l { s.pat l with pend := (0, 0) }).setFld
      (F.LN_PRBS_STAT_STATE l) 2 := if_pos ⟨hst, hown⟩

theorem execPrbsCheckerLoss_dropped {l : Fin 8} (hst : s.fld (F.LN_PRBS_STAT_STATE l.val) = 2) (hown : (s.pat l.val).own = none) :
    execPrbsCheckerLoss l s = .next (((s.putPat l.val (s.pat l.val).research).setFld (F.LN_PRBS_STAT_STATE l.val) 1).addFld
      (F.LN_PRBS_STAT_LOSSES l.val) 1) := by
  rw [execPrbsCheckerLoss, if_pos (by rw [hown]; rfl), State.checkerLoss, if_pos hst]

end

/-! ### Captured words and the histogram (R322, R336) -/

/-- The RAW registers of a lane with the parts of a word. -/
def rawWrites (l w : Nat) : List (Fld × Nat) := (List.range 4).map (fun i => (F.LN_RAW_WORD l i, bitsAt w (32 * i) 32))

/-- The histogram of a lane as it is cleared: MIN at its greatest, and the bins empty. -/
def histWrites (l : Nat) : List (Fld × Nat) := (F.LN_FOM_MIN l, 0x3FF) :: (List.range 16).map (fun i => (F.LN_FOM_HIST_COUNT l i, 0))

theorem State.rawCapture_raw {s : State} {l : Nat} (hraw : s.laneRaw l = true) (w : Nat) :
    s.rawCapture l w = s.putFields (rawWrites l w) := by
  rw [State.rawCapture, if_pos hraw, State.putFields, rawWrites, List.foldl_map]

theorem State.histClear_eq (s : State) (l : Nat) : s.histClear l = s.putFields (histWrites l) := by
  rw [State.histClear, State.putFields, histWrites, List.foldl_cons, List.foldl_map]

/-- Fields in registers of their own lie apart. -/
theorem pairwise_apart_range {f : Nat → Fld × Nat} (hf : ∀ i j, i ≠ j → (f i).1.addr ≠ (f j).1.addr) (n : Nat) :
    ((List.range n).map f).Pairwise (fun v w => v.1.apart w.1 = true) :=
  List.pairwise_map.2 (List.nodup_range.imp (fun hij => (Fld.apart_iff _ _).2 (.inl (hf _ _ hij))))

theorem rawWrites_fit (l w : Nat) : ∀ x ∈ rawWrites l w, x.1.lo + x.1.width ≤ 32 := by simp [rawWrites, F.LN_RAW_WORD]

theorem rawWrites_apart (l w : Nat) : (rawWrites l w).Pairwise (fun v w => v.1.apart w.1 = true) :=
  pairwise_apart_range (fun i j hij => by simpa [F.LN_RAW_WORD] using hij) 4

theorem histWrites_fit (l : Nat) : ∀ x ∈ histWrites l, x.1.lo + x.1.width ≤ 32 := by
  simp [histWrites, F.LN_FOM_MIN, F.LN_FOM_HIST_COUNT]

theorem histWrites_apart (l : Nat) : (histWrites l).Pairwise (fun v w => v.1.apart w.1 = true) := by
  refine List.pairwise_cons.2 ⟨fun w hw => (Fld.apart_iff _ _).2 (.inl ?_),
    pairwise_apart_range (fun i j hij => by simpa [F.LN_FOM_HIST_COUNT] using hij) 16⟩
  obtain ⟨i, -, rfl⟩ := List.mem_map.1 hw
  simp only [F.LN_FOM_MIN, F.LN_FOM_HIST_COUNT]
  omega

/-- Settles O41: the checker and the injection in the case that their clause names, the registers by `fld_putFields`. The patterns
themselves are those of log 189. -/
theorem laneTestRowsComplete : Obligations.LaneTestRowsComplete := by
  refine fun s l => ⟨fun hst hown => ?_, fun hst hown => ?_, fun hleft hdue => ?_, fun w hs hreach hraw => ?_, fun hs hreach => ?_⟩
  · rw [exec_prbsCheckerLock, State.checkerLock_seeded hst hown]
  · rw [exec_prbsCheckerLoss, execPrbsCheckerLoss_dropped hst hown]
  · rw [exec_laneErrorInject]
    exact congrArg Host.Outcome.next (if_neg (not_or.2 ⟨hleft, not_lt.2 hdue⟩))
  · rw [exec_laneRawCapture, State.onReg_reaches hreach, State.rawCapture_raw hraw]
    refine ⟨_, rfl, fun i hi => ?_⟩
    have hmem : (F.LN_RAW_WORD l.val i, bitsAt w (32 * i) 32) ∈ rawWrites l.val w :=
      List.mem_map.2 ⟨i, List.mem_range.2 hi, rfl⟩
    rw [State.fld_putFields (State.regs_swf hs) (rawWrites_fit l.val w) (rawWrites_apart l.val w) hmem]
    exact Nat.mod_mod _ _
  · rw [exec_laneHistClear, State.onReg_reaches hreach, State.histClear_eq]
    have hfld {f : Fld} {v : Nat} := State.fld_putFields (State.regs_swf hs) (histWrites_fit l.val) (histWrites_apart l.val) (f := f)
      (v := v)
    exact ⟨_, rfl, hfld List.mem_cons_self, fun i hi =>
      hfld (List.mem_cons_of_mem _ (List.mem_map.2 ⟨i, List.mem_range.2 hi, rfl⟩))⟩

end Sys2Proof.Machine
end

section
/-!
SUPPORT AND PROOFS. Modules (R330-R332): what a poll makes of a module that answers and of one that does not, where its monitors are
stored, and the fields of LN_MOD_XFER and LN_MOD_XSTAT as a host access starts and ends.
-/
namespace Sys2Proof.Machine

/-! ### The rows -/

theorem exec_modulePresencePoll (m : Fin 2) (rev : Option Nat) (st : Nat) (bad : Bool) (apps : List (Nat × Nat)) (s : State) :
    exec (.modulePresencePoll m rev st bad apps) s = .next (s.modulePoll m.val rev st bad apps) := rfl
theorem exec_moduleFlagPoll (m : Fin 2) (fs : List (Nat × Nat)) (s : State) :
    exec (.moduleFlagPoll m fs) s = execModuleFlagPoll m fs s := rfl
theorem exec_moduleMonitorPoll (m : Fin 2) (temp vcc : Nat) (ls : List (Nat × Nat × Nat × Nat)) (s : State) :
    exec (.moduleMonitorPoll m temp vcc ls) s = execModuleMonitorPoll m temp vcc ls s := rfl
theorem exec_moduleHostXfer (m : Fin 2) (w : Word) (s : State) : exec (.moduleHostXfer m w) s =
    .next (s.writeWord (0x31800C + 0x100 * m.val) (2 ^ 31 + w.toNat % 2 ^ 31) RegEnv.none) := rfl
theorem exec_moduleAccessComplete (m : Fin 2) (nack : Bool) (data : Word) (s : State) :
    exec (.moduleAccessComplete m nack data) s = execModuleAccessComplete m nack data s := rfl

/-! ### Presence (R331) -/

/-- An enabled master is at work, unless it is master 1 beside a WIDE master 0 (R330). -/
theorem State.masterOn_of {s : State} {m : Nat} (hen : s.flag (F.LN_MOD_CFG_EN m) = true)
    (hwide : m = 1 → s.flag (F.LN_MOD_CFG_WIDE 0) = false) : s.masterOn m = true := by
  by_cases hm : m = 1
  · simp [State.masterOn, hen, hwide hm]
  · simp [State.masterOn, hen, hm]

/-- A module that answers: present, with its state and its fault. -/
def State.moduleFound (s : State) (m st : Nat) (bad : Bool) : State :=
  ((s.setFld (F.LN_MOD_STATUS_PRESENT m) 1).setFld (F.LN_MOD_STATUS_STATE m) st).setFld (F.LN_MOD_STATUS_FAULT m) (b2n bad)

section
variable {s : State} {m : Nat} {rev : Option Nat} (hon : s.masterOn m = true) (st : Nat) (bad : Bool) (apps : List (Nat × Nat))
include hon

/-- One that was there before is shown as it is. -/
theorem State.modulePoll_known (hrev : rev.any (fun r => decide (5 ≤ r)) = true)
    (hthere : s.flag (F.LN_MOD_STATUS_PRESENT m) = true) : s.modulePoll m rev st bad apps = s.moduleFound m st bad := by
  simp [State.modulePoll, hon, hrev, hthere, State.moduleFound]

/-- A new one leaves low power, and is given an application where its lanes are in use. -/
theorem State.modulePoll_new (hrev : rev.any (fun r => decide (5 ≤ r)) = true)
    (hnew : s.flag (F.LN_MOD_STATUS_PRESENT m) = false) : s.modulePoll m rev st bad apps =
      let w := (s.moduleFound m st bad).emit (.module m .exitLowPower)
      if (w.moduleLanes m).isEmpty then w else w.appSelect m apps := by
  simp [State.modulePoll, hon, hrev, hnew, State.moduleFound]

/-- One that does not answer, or by a revision before 5, is absent. -/
theorem State.modulePoll_absent (hrev : rev.any (fun r => decide (5 ≤ r)) = false) : s.modulePoll m rev st bad apps =
    (((s.setFld (F.LN_MOD_STATUS_PRESENT m) 0).setFld (F.LN_MOD_STATUS_STATE m) 0).setFld (F.LN_MOD_STATUS_APP m) 0).raiseFree
      0x9010 (srcBlock 10) sevNotice := by
  simp [State.modulePoll, hon, hrev]

end

/-! ### Monitors (R331) -/

/-- The monitors of the module itself. -/
def monitorWrites (m temp vcc : Nat) : List (Fld × Nat) := [(F.LN_MOD_MON_TEMP m, temp), (F.LN_MOD_MON_VCC m, vcc)]

/-- Those of one of its lanes. -/
def opticWrites (l bias tx rx : Nat) : List (Fld × Nat) :=
  [(F.LN_OPT_BIAS_BIAS l, bias), (F.LN_OPT_TXPWR l, tx), (F.LN_OPT_RXPWR l, rx)]

/-- A lane's monitors are stored where the module of master `m` serves it. -/
def State.monitorLane (m : Nat) (s : State) (x : Nat × Nat × Nat × Nat) : State :=
  if x.1 < 8 ∧ s.masterOf x.1 = m then s.putFields (opticWrites x.1 x.2.1 x.2.2.1 x.2.2.2) else s

theorem execModuleMonitorPoll_present {s : State} {m : Fin 2} (hon : s.masterOn m.val = true)
    (hthere : s.flag (F.LN_MOD_STATUS_PRESENT m.val) = true) (temp vcc : Nat) (ls : List (Nat × Nat × Nat × Nat)) :
    execModuleMonitorPoll m temp vcc ls s =
      .next (ls.foldl (State.monitorLane m.val) (s.putFields (monitorWrites m.val temp vcc))) := if_pos ⟨hon, hthere⟩

theorem monitorWrites_fit (m temp vcc : Nat) : ∀ w ∈ monitorWrites m temp vcc, w.1.lo + w.1.width ≤ 32 := by
  simp [monitorWrites, F.LN_MOD_MON_TEMP, F.LN_MOD_MON_VCC]

theorem monitorWrites_apart (m temp vcc : Nat) : (monitorWrites m temp vcc).Pairwise (fun v w => v.1.apart w.1 = true) := by
  simp [monitorWrites, Fld.apart, F.LN_MOD_MON_TEMP, F.LN_MOD_MON_VCC]

theorem monitorWrites_addr (m temp vcc : Nat) : ∀ w ∈ monitorWrites m temp vcc, 0x318008 ≤ w.1.addr := by
  simp [monitorWrites, F.LN_MOD_MON_TEMP, F.LN_MOD_MON_VCC]

theorem opticWrites_fit (l bias tx rx : Nat) : ∀ w ∈ opticWrites l bias tx rx, w.1.lo + w.1.width ≤ 32 := by
  simp [opticWrites, F.LN_OPT_BIAS_BIAS, F.LN_OPT_TXPWR, F.LN_OPT_RXPWR]

theorem opticWrites_apart (l bias tx rx : Nat) : (opticWrites l bias tx rx).Pairwise (fun v w => v.1.apart w.1 = true) := by
  simp [opticWrites, Fld.apart, F.LN_OPT_BIAS_BIAS, F.LN_OPT_TXPWR, F.LN_OPT_RXPWR]

/-- Fields of other registers leave a register. -/
theorem State.reg_putFields_other (s : State) {l : List (Fld × Nat)} {a : Nat} (ha : ∀ w ∈ l, w.1.addr ≠ a) :
    (s.putFields l).reg a = s.reg a :=
  List.foldlRecOn (motive := fun t : State => t.reg a = s.reg a) l _ rfl
    (fun t ht w hw => (State.reg_setFld_other t w.1 w.2 (ha w hw).symm).trans ht)

/-- The monitors of a lane stand in its block, below those of the modules. -/
theorem State.reg_monitorLane_other (s : State) (m : Nat) (x : Nat × Nat × Nat × Nat) {a : Nat} (ha : 0x318000 ≤ a) :
    (s.monitorLane m x).reg a = s.reg a := by
  unfold State.monitorLane
  split
  · next h =>
    obtain ⟨hl, -⟩ := h
    refine State.reg_putFields_other s (fun w hw => ?_)
    simp only [opticWrites, F.LN_OPT_BIAS_BIAS, F.LN_OPT_TXPWR, F.LN_OPT_RXPWR, List.mem_cons, List.not_mem_nil, or_false] at hw
    rcases hw with rfl | rfl | rfl <;> simp only <;> omega
  · rfl

theorem State.fld_monitorLanes_other (s : State) (m : Nat) (ls : List (Nat × Nat × Nat × Nat)) {f : Fld}
    (hf : 0x318000 ≤ f.addr) : (ls.foldl (State.monitorLane m) s).fld f = s.fld f :=
  congrArg (fun w : Word => bitsAt w.toNat f.lo f.width)
    (List.foldlRecOn (motive := fun t : State => t.reg f.addr = s.reg f.addr) ls _ rfl
      (fun t ht x _ => (t.reg_monitorLane_other m x hf).trans ht))

theorem State.monitorLane_own {s : State} {m l : Nat} (hl : l < 8) (hm : s.masterOf l = m) (bias tx rx : Nat) :
    s.monitorLane m (l, bias, tx, rx) = s.putFields (opticWrites l bias tx rx) := if_pos ⟨hl, hm⟩

theorem State.monitorLane_foreign {s : State} {m l : Nat} (hm : s.masterOf l ≠ m) (bias tx rx : Nat) :
    s.monitorLane m (l, bias, tx, rx) = s := if_neg (fun h => hm h.2)

/-- The monitors of a module leave the registers below them. -/
theorem State.reg_putFields_monitor (s : State) (m temp vcc : Nat) {a : Nat} (ha : a < 0x318008) :
    (s.putFields (monitorWrites m temp vcc)).reg a = s.reg a :=
  State.reg_putFields_other s (fun w hw => ((monitorWrites_addr m temp vcc w hw).trans_lt' ha).ne')

theorem State.masterOf_of_reg {s t : State} (h : t.reg 0x318000 = s.reg 0x318000) (l : Nat) : t.masterOf l = s.masterOf l := by
  have hwide : t.fld (F.LN_MOD_CFG_WIDE 0) = s.fld (F.LN_MOD_CFG_WIDE 0) :=
    congrArg (fun w : Word => bitsAt w.toNat 2 1) h
  rw [State.masterOf, State.flag, hwide, State.masterOf, State.flag]

/-! ### Host accesses (R332) -/

/-- The register at 0x31800C + 0x100 m, LN_MOD_XFER. -/
def modXferReg : RegDesc :=
  ⟨"LN_MOD_XFER", 0x31800C, 2, 0x100, 1, 0x0, 0x0, 0x7FFFF0FF, 0x0, 0x0, 0x80000000, 0x0, false⟩

theorem findReg_modXfer (m : Fin 2) : findReg (0x31800C + 0x100 * m.val) = some modXferReg := by fin_cases m <;> rfl

theorem mapped_modXfer : ∀ m : Fin 2, mapped (0x31800C + 0x100 * m.val) = true := by decide +kernel

theorem State.writeWindow_modXfer (s : State) (m : Fin 2) (v : Nat) : s.writeWindow (0x31800C + 0x100 * m.val) v = none := by
  fin_cases m <;> rfl

/-- A write of LN_MOD_XFER with GO stores its fields and starts an access. -/
theorem State.writeWord_modXfer {s : State} {m : Fin 2} (h : s.reaches (0x31800C + 0x100 * m.val)) {v : Nat}
    (hgo : bitAt v 31 = true) (e : RegEnv) : ∃ w, s.writeWord (0x31800C + 0x100 * m.val) v e =
      ((s.setReg (0x31800C + 0x100 * m.val) w).modXfer m.val).irqEdges s := by
  obtain ⟨w, hw⟩ := State.storeBits_plain (d := modXferReg) rfl rfl s (0x31800C + 0x100 * m.val) v
  have hindex : (0x31800C + 0x100 * m.val - 0x31800C) / 0x100 = m.val := by omega
  have hstarts : (s.setReg (0x31800C + 0x100 * m.val) w).afterWrite s modXferReg (0x31800C + 0x100 * m.val) v e =
      if bitAt v 31 then (s.setReg (0x31800C + 0x100 * m.val) w).modXfer ((0x31800C + 0x100 * m.val - 0x31800C) / 0x100)
      else s.setReg (0x31800C + 0x100 * m.val) w := rfl
  have hcore : inCore (0x31800C + 0x100 * m.val) = false := by fin_cases m <;> rfl
  have hmsix : msixTable (0x31800C + 0x100 * m.val) = false := by fin_cases m <;> rfl
  refine ⟨w, (State.writeWord_register (u := s) h (mapped_modXfer m) (findReg_modXfer m) (by simp [hcore])
    (s.writeWindow_modXfer m v) hmsix e).trans ?_⟩
  rw [hw, hstarts, if_pos hgo, hindex]

/-- The word that GO is written with has its bit 31 set. -/
theorem bitAt_go (v : Nat) : bitAt (2 ^ 31 + v % 2 ^ 31) 31 = true := by
  have hdiv : (2 ^ 31 + v % 2 ^ 31) / 2 ^ 31 = 1 := by omega
  rw [bitAt, hdiv]
  rfl

/-- A master at work shows the access in GO and BUSY, and sends its three calls. -/
theorem State.modXfer_on {s : State} {m : Nat} (hon : s.masterOn m = true) : ∃ bank page call, s.modXfer m =
    ((((s.setFld (F.LN_MOD_XFER_GO m) 1).setFld (F.LN_MOD_XSTAT_BUSY m) 1).emit bank).emit page).emit call :=
  ⟨_, _, _, if_pos hon⟩

/-- The write of an access leaves the masters' configuration. -/
theorem State.masterOn_setReg_xfer (s : State) (m : Nat) (w : Word) :
    (s.setReg (0x31800C + 0x100 * m) w).masterOn m = s.masterOn m := by
  have hcfg {f : Fld} (hf : f.addr ≠ 0x31800C + 0x100 * m) : (s.setReg (0x31800C + 0x100 * m) w).fld f = s.fld f :=
    congrArg (fun w : Word => bitsAt w.toNat f.lo f.width) (s.reg_setReg_other w hf)
  have hen : (F.LN_MOD_CFG_EN m).addr ≠ 0x31800C + 0x100 * m := by
    simp only [F.LN_MOD_CFG_EN]
    omega
  have hwide : (F.LN_MOD_CFG_WIDE 0).addr ≠ 0x31800C + 0x100 * m := by
    simp only [F.LN_MOD_CFG_WIDE]
    omega
  rw [State.masterOn, State.flag, State.flag, hcfg hen, hcfg hwide]
  rfl

@[simp] theorem State.irqEdges_armed (s old : State) : (s.irqEdges old).armed = s.armed :=
  State.irqEdges_induction (P := fun u => u.armed = s.armed) (fun u v hu => by
    obtain ⟨w, out, h | h⟩ := u.sendMsix_only v
    · rw [h, State.setReg_armed, hu]
    · rw [h, hu]) rfl old

/-- A field that reads other than 0 is set. -/
theorem State.flag_of_fld {s : State} {f : Fld} {v : Nat} (h : s.fld f = v) : s.flag f = (v != 0) := by rw [State.flag, h]

/-- The access that starts shows in GO and BUSY, and in no state of Privi and no armed commit. -/
theorem State.modXfer_shows {s : State} (hs : swf resetWord s.regs = true) {m : Nat} (hon : s.masterOn m = true) :
    (s.modXfer m).flag (F.LN_MOD_XSTAT_BUSY m) = true ∧ (s.modXfer m).flag (F.LN_MOD_XFER_GO m) = true ∧
      (s.modXfer m).privi = s.privi ∧ (s.modXfer m).armed = s.armed := by
  obtain ⟨bank, page, call, hcalls⟩ := State.modXfer_on hon
  have hgo : ((s.setFld (F.LN_MOD_XFER_GO m) 1).setFld (F.LN_MOD_XSTAT_BUSY m) 1).fld (F.LN_MOD_XFER_GO m) = 1 := by
    have hne : (F.LN_MOD_XFER_GO m).addr ≠ (F.LN_MOD_XSTAT_BUSY m).addr := by simp [F.LN_MOD_XFER_GO, F.LN_MOD_XSTAT_BUSY]
    rw [State.fld_setFld_other _ _ _ _ hne]
    exact State.fld_setFld_same hs _ 1 (by decide : 31 + 1 ≤ 32)
  rw [hcalls]
  exact ⟨State.flag_of_fld (State.fld_setFld_same (State.setFld_swf hs _ _) _ 1 (by decide : 0 + 1 ≤ 32)),
    State.flag_of_fld hgo, rfl, rfl⟩

/-- What the end of an access writes. -/
def accessEndWrites (m : Nat) (nack : Bool) : List (Fld × Nat) :=
  [(F.LN_MOD_XFER_GO m, 0), (F.LN_MOD_XSTAT_BUSY m, 0), (F.LN_MOD_XSTAT_NACK m, b2n nack)]

theorem accessEndWrites_fit (m : Nat) (nack : Bool) : ∀ w ∈ accessEndWrites m nack, w.1.lo + w.1.width ≤ 32 := by
  simp [accessEndWrites, F.LN_MOD_XFER_GO, F.LN_MOD_XSTAT_BUSY, F.LN_MOD_XSTAT_NACK]

theorem accessEndWrites_apart (m : Nat) (nack : Bool) :
    (accessEndWrites m nack).Pairwise (fun v w => v.1.apart w.1 = true) := by
  simp [accessEndWrites, Fld.apart, F.LN_MOD_XFER_GO, F.LN_MOD_XSTAT_BUSY, F.LN_MOD_XSTAT_NACK]

theorem accessEndWrites_addr_ne (m : Nat) (nack : Bool) :
    ∀ w ∈ accessEndWrites m nack, w.1.addr ≠ (F.LN_MOD_XDATA_DATA m).addr := by
  simp [accessEndWrites, F.LN_MOD_XFER_GO, F.LN_MOD_XSTAT_BUSY, F.LN_MOD_XSTAT_NACK, F.LN_MOD_XDATA_DATA]

/-- It leaves the access's kind and length, and its data. -/
theorem accessEndWrites_apart_access (m : Nat) (nack : Bool) :
    ∀ f ∈ [F.LN_MOD_XFER_WRITE m, F.LN_MOD_XFER_LEN m, F.LN_MOD_XDATA_DATA m],
      ∀ w ∈ accessEndWrites m nack, f.apart w.1 = true := by
  simp [accessEndWrites, Fld.apart, F.LN_MOD_XFER_GO, F.LN_MOD_XSTAT_BUSY, F.LN_MOD_XSTAT_NACK, F.LN_MOD_XFER_WRITE,
    F.LN_MOD_XFER_LEN, F.LN_MOD_XDATA_DATA]

/-- LN_MOD_XDATA once an access has ended: what a read returned, and else what stood there. -/
def State.accessData (s : State) (m : Nat) (nack : Bool) (data : Word) : Nat :=
  if s.flag (F.LN_MOD_XFER_WRITE m) = false ∧ nack = false then data.toNat % 2 ^ (8 * (s.fld (F.LN_MOD_XFER_LEN m) + 1))
  else s.fld (F.LN_MOD_XDATA_DATA m)

/-- The end of an access that is under way writes its end, and the data of a read that was acknowledged. -/
theorem execModuleAccessComplete_busy {s : State} {m : Fin 2} (hs : s.canonical = true)
    (hbusy : s.flag (F.LN_MOD_XSTAT_BUSY m.val) = true) (nack : Bool) (data : Word) :
    ∃ t, execModuleAccessComplete m nack data s = .next t ∧ t.fld (F.LN_MOD_XDATA_DATA m.val) = s.accessData m.val nack data ∧
      ∀ f, f.addr ≠ (F.LN_MOD_XDATA_DATA m.val).addr → t.fld f = (s.putFields (accessEndWrites m.val nack)).fld f := by
  have hkept {f : Fld} (hf : f ∈ [F.LN_MOD_XFER_WRITE m.val, F.LN_MOD_XFER_LEN m.val, F.LN_MOD_XDATA_DATA m.val]) :
      (s.putFields (accessEndWrites m.val nack)).fld f = s.fld f :=
    State.fld_putFields_apart (State.regs_swf hs) (accessEndWrites_fit _ _) (accessEndWrites_apart_access m.val nack f hf)
  have hend : execModuleAccessComplete m nack data s =
      if !(s.putFields (accessEndWrites m.val nack)).flag (F.LN_MOD_XFER_WRITE m.val) ∧ !nack then
        .next ((s.putFields (accessEndWrites m.val nack)).setFld (F.LN_MOD_XDATA_DATA m.val)
          (data.toNat % 2 ^ (8 * ((s.putFields (accessEndWrites m.val nack)).fld (F.LN_MOD_XFER_LEN m.val) + 1))))
      else .next (s.putFields (accessEndWrites m.val nack)) := if_pos hbusy
  rw [hend, State.flag, hkept (by simp), ← State.flag, hkept (by simp), State.accessData]
  by_cases hread : s.flag (F.LN_MOD_XFER_WRITE m.val) = false ∧ nack = false
  · rw [if_pos (by simpa using hread), if_pos hread]
    refine ⟨_, rfl, ?_, fun f hf => State.fld_setFld_other _ _ _ _ hf⟩
    rw [State.fld_setFld_same (State.regs_swf (State.putFields_canonical hs _)) _ _ (by decide : 0 + 32 ≤ 32)]
    exact Nat.mod_eq_of_lt ((Nat.mod_le _ _).trans_lt data.isLt)
  · rw [if_neg (by simpa using hread), if_neg hread]
    exact ⟨_, rfl, hkept (by simp), fun _ _ => rfl⟩

/-- Settles O42, row by row: the polls in the case that their clause names, the monitors by `fld_putFields`, and a host access by
`modXfer_shows` as it starts and `execModuleAccessComplete_busy` as it ends. -/
theorem moduleRowsComplete : Obligations.ModuleRowsComplete := by
  refine fun s m => ⟨fun rev st bad apps hen hwide => ?_, fun fs hon hthere => ?_, fun temp vcc ls hs hon hthere => ?_,
    fun w hs hon hreach => ?_, fun nack data hs hbusy => ?_⟩
  · have hon := State.masterOn_of hen hwide
    refine ⟨fun hrev => ⟨fun hthere => ?_, fun hnew => ?_⟩, fun hrev => ?_⟩
    · rw [exec_modulePresencePoll, State.modulePoll_known hon st bad apps hrev hthere]
      rfl
    · rw [exec_modulePresencePoll, State.modulePoll_new hon st bad apps hrev hnew]
      rfl
    · rw [exec_modulePresencePoll, State.modulePoll_absent hon st bad apps hrev]
  · rw [exec_moduleFlagPoll]
    exact if_pos ⟨hon, hthere⟩
  · rw [exec_moduleMonitorPoll, execModuleMonitorPoll_present hon hthere]
    have hput := State.putFields_canonical hs (monitorWrites m.val temp vcc)
    have hown {f : Fld} {v : Nat} (hw : (f, v) ∈ monitorWrites m.val temp vcc) :
        (ls.foldl (State.monitorLane m.val) (s.putFields (monitorWrites m.val temp vcc))).fld f = v % 2 ^ f.width :=
      (State.fld_monitorLanes_other _ _ ls (le_trans (by decide) (monitorWrites_addr _ _ _ _ hw))).trans
        (State.fld_putFields (State.regs_swf hs) (monitorWrites_fit _ _ _) (monitorWrites_apart _ _ _) hw)
    refine ⟨_, rfl, hown (by simp [monitorWrites]), hown (by simp [monitorWrites]), fun l bias tx rx hls hl => ?_⟩
    subst hls
    have hmaster := State.masterOf_of_reg (s.reg_putFields_monitor m.val temp vcc (a := 0x318000) (by decide)) l
    refine ⟨fun hm => ?_, fun hm => ?_⟩
    · rw [List.foldl_cons, List.foldl_nil, State.monitorLane_own hl (hmaster.trans hm)]
      have hoptic {f : Fld} {v : Nat} := State.fld_putFields (State.regs_swf hput) (opticWrites_fit l bias tx rx)
        (opticWrites_apart l bias tx rx) (f := f) (v := v)
      exact ⟨hoptic (by simp [opticWrites]), hoptic (by simp [opticWrites]), hoptic (by simp [opticWrites])⟩
    · rw [List.foldl_cons, List.foldl_nil, State.monitorLane_foreign (by rwa [hmaster])]
      have haddr : (F.LN_OPT_BIAS_BIAS l).addr < 0x318008 := by
        simp only [F.LN_OPT_BIAS_BIAS]
        omega
      rw [State.fld, State.reg_putFields_monitor s m.val temp vcc haddr, State.fld]
  · obtain ⟨x, hwrite⟩ := State.writeWord_modXfer hreach (bitAt_go w.toNat) RegEnv.none
    obtain ⟨hbusy, hgo, hprivi, harmed⟩ := State.modXfer_shows (State.setReg_swf (State.regs_swf hs) _ x)
      ((State.masterOn_setReg_xfer s m.val x).trans hon)
    have hstat : (F.LN_MOD_XSTAT_BUSY m.val).addr ≠ 0xF800 := by
      simp only [F.LN_MOD_XSTAT_BUSY]
      omega
    have hxfer : (F.LN_MOD_XFER_GO m.val).addr ≠ 0xF800 := by
      simp only [F.LN_MOD_XFER_GO]
      omega
    rw [exec_moduleHostXfer, hwrite]
    refine ⟨_, rfl, ?_, ?_, ?_, ?_⟩
    · rw [State.flag, State.fld_irqEdges_other _ _ hstat, ← State.flag, hbusy]
    · rw [State.flag, State.fld_irqEdges_other _ _ hxfer, ← State.flag, hgo]
    · rw [State.irqEdges_privi, hprivi, State.setReg_privi]
    · rw [State.irqEdges_armed, harmed, State.setReg_armed]
  · obtain ⟨t, hnext, hdata, hrest⟩ := execModuleAccessComplete_busy hs hbusy nack data
    have hend (f : Fld) (v : Nat) (hw : (f, v) ∈ accessEndWrites m.val nack) : t.flag f = (v % 2 ^ f.width != 0) := by
      rw [State.flag, hrest f (accessEndWrites_addr_ne m.val nack _ hw), State.fld_putFields (State.regs_swf hs)
        (accessEndWrites_fit m.val nack) (accessEndWrites_apart m.val nack) hw]
    refine ⟨t, hnext, hend _ 0 (List.mem_cons_of_mem _ List.mem_cons_self), hend _ 0 List.mem_cons_self,
      (hend _ (b2n nack) (by simp [accessEndWrites])).trans ?_, hdata⟩
    cases nack <;> rfl

end Sys2Proof.Machine
end

section
/-!
SUPPORT AND PROOFS. The step and the queue (log entries 2, 10, 46): one step performs the command at the front, every command goes on
and puts none into the queue, and the stores keep their canonical form.
-/
namespace Sys2Proof.Machine

theorem step_cons {s : State} {c : Instr} {rest : List Instr} (h : s.pending = c :: rest) :
    step s = exec c { s with pending := rest } := by
  rw [step, h]

theorem step_nil {s : State} (h : s.pending = []) : step s = .next s := by
  rw [step, h]

/-- Settles O1: `step` on a queue that is not empty. -/
theorem stepPerformsFrontCommand : Obligations.StepPerformsFrontCommand := fun _ _ _ h => step_cons h

/-! ### Every command goes on -/

/-- Every command ends in a next state. Most meanings are one by their form; the rows named branch first. -/
theorem exec_goes_on (c : Instr) (s : State) : ∃ t, exec c s = .next t := by
  cases c
  case cfrWindowReport | obsCaptureEnd | estimationStart | acceptanceGuard | captureDelivered | portAligned | fhRemoteFault |
      moduleFlagPoll | moduleMonitorPoll | tend | dmaRetry | dmaBusError | dmaSubmitWaitTimeout | snapshotDone | calRunTimeout |
      spiFetch | groupAbandoned | resultAck | sysResetUnitTimeout | wakeStepFail | wakeStepRetry | timeCmpFired =>
    dsimp only [exec, execCfrWindowReport, execObsCaptureEnd, execEstimationStart, execAcceptanceGuard, execCaptureDelivered,
      execPortAligned, execFhRemoteFault, execModuleFlagPoll, execModuleMonitorPoll, execTend, execDmaRetry, execDmaBusError,
      execDmaSubmitWaitTimeout, execSnapshotDone, execCalRunTimeout, execSpiFetch, execGroupAbandoned, execResultAck,
      execSysResetUnitTimeout, execWakeStepFail, execWakeStepRetry, execTimeCmpFired]
    split <;> exact ⟨_, rfl⟩
  case moduleAccessComplete | timeCmpMissed | replayDone =>
    dsimp only [exec, execModuleAccessComplete, execTimeCmpMissed, execReplayDone]
    split
    · split <;> exact ⟨_, rfl⟩
    · exact ⟨_, rfl⟩
  case mbxResFetchComplete | resultRead | injectionFire | powerStepComplete =>
    dsimp only [exec, execMbxResFetchComplete, execResultRead, execInjectionFire, execPowerStepComplete]
    split
    · exact ⟨_, rfl⟩
    · split <;> exact ⟨_, rfl⟩
  case pairBootComplete =>
    dsimp only [exec, execPairBootComplete]
    split
    · exact ⟨_, rfl⟩
    · split_ifs <;> exact ⟨_, rfl⟩
  all_goals exact ⟨_, rfl⟩

/-- Settles O2: an empty queue idles, and every command goes on. -/
theorem everyStepGoesOn : Obligations.EveryStepGoesOn := by
  intro s
  cases h : s.pending with
  | nil => exact ⟨s, step_nil h⟩
  | cons c rest =>
    obtain ⟨t, ht⟩ := exec_goes_on c { s with pending := rest }
    exact ⟨t, (step_cons h).trans ht⟩

/-! ### What every command leaves of the queue and of the stores' form -/

theorem State.tickBoundary_pending (s : State) (x : TickIn) : (s.tickBoundary x).pending = s.pending := by
  obtain ⟨hoff, hon⟩ := s.tickBoundary_passes x
  cases h : s.pwr.off with
  | true => exact (hoff h).pending
  | false => exact (hon h).pending

theorem State.tickBoundary_canonical {s : State} (hs : s.canonical = true) (x : TickIn) : (s.tickBoundary x).canonical = true := by
  obtain ⟨hoff, hon⟩ := s.tickBoundary_passes x
  cases h : s.pwr.off with
  | true => exact (hoff h).stores hs
  | false => exact (hon h).stores hs

theorem exec_pending {c : Instr} {s t : State} (h : exec c s = .next t) : t.pending = s.pending := by
  cases hc : c.isBoundary with
  | false => exact (exec_keeps c s hc t h).pending
  | true =>
    obtain ⟨x, rfl⟩ := Instr.eq_tickBoundary hc
    cases h
    exact s.tickBoundary_pending x

theorem exec_canonical {c : Instr} {s t : State} (h : exec c s = .next t) (hs : s.canonical = true) : t.canonical = true := by
  cases hc : c.isBoundary with
  | false => exact (exec_keeps c s hc t h).stores hs
  | true =>
    obtain ⟨x, rfl⟩ := Instr.eq_tickBoundary hc
    cases h
    exact State.tickBoundary_canonical hs x

/-- Settles O4: both stores of the reset state are short lists. -/
theorem resetIsCanonical : Obligations.ResetIsCanonical := by
  unfold Obligations.ResetIsCanonical
  decide +kernel

/-- Settles O5: the queue stands outside the stores, and every command keeps their form. -/
theorem everyStepKeepsStoresCanonical : Obligations.EveryStepKeepsStoresCanonical := by
  intro s t hs h
  cases hq : s.pending with
  | nil =>
    rw [step_nil hq] at h
    cases h
    exact hs
  | cons c rest =>
    rw [step_cons hq] at h
    exact exec_canonical h hs

/-! ### The queue runs empty -/

/-- A step takes one command off the queue. -/
theorem step_pending {s : State} {c : Instr} {rest : List Instr} (h : s.pending = c :: rest) :
    ∃ t, step s = .next t ∧ t.pending = rest := by
  obtain ⟨t, ht⟩ := exec_goes_on c { s with pending := rest }
  exact ⟨t, (step_cons h).trans ht, exec_pending ht⟩

theorem runSteps_succ {n : Nat} {s t : State} (h : step s = .next t) : runSteps (n + 1) s = runSteps n t := by
  rw [runSteps, h]

/-- Settles O3, by induction on the number of steps: each takes one command off the queue, and an empty one stays empty. -/
theorem queueRunsEmpty : Obligations.QueueRunsEmpty := by
  refine ⟨fun s => step_nil, fun s n hn => ?_⟩
  induction n generalizing s with
  | zero => exact ⟨s, rfl, List.length_eq_zero_iff.1 (Nat.le_zero.1 hn)⟩
  | succ n ih =>
    cases hq : s.pending with
    | nil =>
      rw [runSteps_succ (step_nil hq)]
      exact ih s (by simp [hq])
    | cons c rest =>
      obtain ⟨t, ht, hrest⟩ := step_pending hq
      rw [hq, List.length_cons] at hn
      rw [runSteps_succ ht]
      exact ih t (by rw [hrest]; omega)

end Sys2Proof.Machine
end

section
/-!
SUPPORT AND PROOFS. Aster time (R454-R473): linear time under a change of RATE or OFFSET, the snapshot, the TIME commands, the
comparators and the servo.
-/
namespace Sys2Proof.Machine

/-! ### Fields written together -/

/-- Fields of 32-bit registers, each apart from the others. -/
def Fld.separate (fs : List Fld) : Bool :=
  decide ((∀ f ∈ fs, f.lo + f.width ≤ 32) ∧ fs.Pairwise (fun f g => f.apart g = true))

/-- A field reads the value that is written to it with others, where the fields written are separate. -/
theorem State.fld_putFields_separate {s : State} (h : swf resetWord s.regs = true) {l : List (Fld × Nat)}
    (hl : Fld.separate (l.map Prod.fst) = true) {f : Fld} {v : Nat} (i : Nat) (hf : l[i]? = some (f, v)) :
    (s.putFields l).fld f = v % 2 ^ f.width := by
  obtain ⟨hfit, hapart⟩ := of_decide_eq_true hl
  exact State.fld_putFields h (fun w hw => hfit w.1 (List.mem_map_of_mem hw)) (List.pairwise_map.1 hapart)
    (List.mem_of_getElem? hf)

/-- A field apart from all fields written together reads as before. -/
theorem State.fld_putFields_outside {s : State} (h : swf resetWord s.regs = true) {l : List (Fld × Nat)}
    (hl : Fld.separate (l.map Prod.fst) = true) {g : Fld} (hg : (l.map Prod.fst).all (g.apart ·) = true) :
    (s.putFields l).fld g = s.fld g := by
  obtain ⟨hfit, _⟩ := of_decide_eq_true hl
  exact State.fld_putFields_apart h (fun w hw => hfit w.1 (List.mem_map_of_mem hw))
    (fun w hw => List.all_eq_true.1 hg w.1 (List.mem_map_of_mem hw))

/-! ### Linear time (R455, R456) -/

/-- The writes that store OFFSET and RATE. -/
def offsetWrites (v : Nat) : List (Fld × Nat) :=
  [(F.TIM_OFFSET_OFFSET 0, v), (F.TIM_OFFSET_OFFSET 1, v / 2 ^ 32), (F.TIM_OFFSET_OFFSET 2, v / 2 ^ 64)]

def rateWrites (v : Nat) : List (Fld × Nat) := [(F.TIM_RATE_LO_RATE, v), (F.TIM_RATE_HI_RATE, v / 2 ^ 32)]

section
variable {s : State} (hs : s.canonical = true)
include hs

theorem State.offset_setOffset (v : Nat) : (s.setOffset v).offset = v % 2 ^ 96 := by
  have hread {f : Fld} {x : Nat} (i : Nat) (hf : (offsetWrites v)[i]? = some (f, x)) : (s.setOffset v).fld f = x % 2 ^ f.width :=
    State.fld_putFields_separate (State.regs_swf hs) (l := offsetWrites v) rfl i hf
  rw [State.offset, hread 0 rfl, hread 1 rfl, hread 2 rfl]
  simp only [F.TIM_OFFSET_OFFSET]
  omega

theorem State.rate_setOffset (v : Nat) : (s.setOffset v).rate = s.rate := by
  have hread {f : Fld} (hf : ((offsetWrites v).map Prod.fst).all (f.apart ·) = true) : (s.setOffset v).fld f = s.fld f :=
    State.fld_putFields_outside (State.regs_swf hs) (l := offsetWrites v) rfl hf
  rw [State.rate, hread rfl, hread rfl, State.rate]

theorem State.rate_setRate (v : Nat) : (s.setRate v).rate = v % 2 ^ 48 := by
  have hread {f : Fld} {x : Nat} (i : Nat) (hf : (rateWrites v)[i]? = some (f, x)) : (s.setRate v).fld f = x % 2 ^ f.width :=
    State.fld_putFields_separate (State.regs_swf hs) (l := rateWrites v) rfl i hf
  rw [State.rate, hread 0 rfl, hread 1 rfl]
  simp only [F.TIM_RATE_LO_RATE, F.TIM_RATE_HI_RATE]
  omega

theorem State.setRate_canonical (v : Nat) : (s.setRate v).canonical = true :=
  State.setFld_canonical (State.setFld_canonical hs _ _) _ _

/-- A change of RATE stores it, and moves OFFSET so that L stays as it is on the edge (R456). -/
theorem State.rate_changeRate (frc : Nat) {rate : Nat} (hr : rate < 2 ^ 48) : (s.changeRate frc rate).rate = rate := by
  rw [State.changeRate, State.rate_setOffset (State.setRate_canonical hs rate), State.rate_setRate hs, Nat.mod_eq_of_lt hr]

theorem State.offset_changeRate (frc rate : Nat) : (((s.changeRate frc rate).offset : Nat) : Int) =
    ((s.linear frc : Int) - (frc * rate / 2 ^ 24 : Nat)) % (2 ^ 96 : Nat) := by
  rw [State.changeRate, State.offset_setOffset (State.setRate_canonical hs rate)]
  omega

/-- L of any later edge after a change of RATE: as it was on the edge of the change, with the new slope from there. -/
theorem State.linear_changeRate {frc f rate : Nat} (hr : rate < 2 ^ 48) (hf : frc ≤ f) : (s.changeRate frc rate).linear f =
    (s.linear frc + (f * rate / 2 ^ 24 - frc * rate / 2 ^ 24)) % 2 ^ 96 := by
  have hoff := State.offset_changeRate hs frc rate
  have hle : frc * rate / 2 ^ 24 ≤ f * rate / 2 ^ 24 := Nat.div_le_div_right (Nat.mul_le_mul_right rate hf)
  rw [State.linear, State.rate_changeRate hs frc hr]
  generalize s.linear frc = l at hoff ⊢
  generalize frc * rate / 2 ^ 24 = m at hoff hle ⊢
  generalize f * rate / 2 ^ 24 = m' at hle ⊢
  omega

end

/-- OFFSET and RATE stand in the registers from TIM_OFFSET0 to TIM_RATE_HI. -/
theorem State.offset_rate_of_reg {s t : State} (h : ∀ a, 0x30020 ≤ a → a ≤ 0x30034 → t.reg a = s.reg a) :
    t.offset = s.offset ∧ t.rate = s.rate := by
  have hfld (f : Fld) (hlo : 0x30020 ≤ f.addr) (hhi : f.addr ≤ 0x30034) : t.fld f = s.fld f := by
    rw [State.fld, h _ hlo hhi, State.fld]
  have hoff (i : Nat) (hi : i < 3) : t.fld (F.TIM_OFFSET_OFFSET i) = s.fld (F.TIM_OFFSET_OFFSET i) :=
    hfld _ (by simp [F.TIM_OFFSET_OFFSET]) (by simp only [F.TIM_OFFSET_OFFSET]; omega)
  rw [State.offset, State.rate, hoff 0 (by decide), hoff 1 (by decide), hoff 2 (by decide),
    hfld F.TIM_RATE_LO_RATE (by decide) (by decide), hfld F.TIM_RATE_HI_RATE (by decide) (by decide)]
  exact ⟨rfl, rfl⟩

/-- The registers after a step: OFFSET stored, and the time marked as valid. -/
theorem State.moveOffset_regs (s : State) (d : Int) : (s.moveOffset d).regs =
    ((s.setOffset (((s.offset : Int) + d) % (2 ^ 96 : Nat)).toNat).setFld F.TIM_STATUS_VALID 1).regs := rfl

theorem State.offset_rate_moveOffset {s : State} (hs : s.canonical = true) (d : Int) :
    (s.moveOffset d).offset = (((s.offset : Int) + d) % (2 ^ 96 : Nat)).toNat % 2 ^ 96 ∧ (s.moveOffset d).rate = s.rate := by
  have hregs := s.moveOffset_regs d
  generalize (((s.offset : Int) + d) % (2 ^ 96 : Nat)).toNat = v at hregs ⊢
  rw [← State.offset_setOffset hs, ← State.rate_setOffset hs v]
  refine State.offset_rate_of_reg (fun a hlo _ => ?_)
  rw [State.reg_of_regs hregs, State.reg_setFld_other _ _ _ (by rintro rfl; exact absurd hlo (by decide))]

theorem State.linear_moveOffset {s : State} (hs : s.canonical = true) (d : Int) (frc : Nat) :
    (((s.moveOffset d).linear frc : Nat) : Int) = ((s.linear frc : Int) + d) % (2 ^ 96 : Nat) := by
  obtain ⟨hoff, hrate⟩ := State.offset_rate_moveOffset hs d
  rw [State.linear, State.linear, hoff, hrate]
  generalize frc * s.rate / 2 ^ 24 = m
  omega

theorem State.setOffset_canonical {s : State} (hs : s.canonical = true) (v : Nat) : (s.setOffset v).canonical = true :=
  State.setFld_canonical (State.setFld_canonical (State.setFld_canonical hs _ _) _ _) _ _

theorem State.timeValid_moveOffset {s : State} (hs : s.canonical = true) (d : Int) : (s.moveOffset d).timeValid = true := by
  rw [State.timeValid, State.flag, State.fld_of_regs (s.moveOffset_regs d),
    State.fld_setFld_same (State.regs_swf (State.setOffset_canonical hs _)) _ _ (by decide)]
  rfl

/-- Settles O36: `changeRate` by what it leaves of OFFSET and RATE, a step by what it makes of OFFSET alone. -/
theorem rateChangeKeepsTimeContinuous : Obligations.RateChangeKeepsTimeContinuous := by
  refine fun s hs => ⟨fun frc rate hr => ⟨State.rate_changeRate hs frc hr, State.offset_changeRate hs frc rate, ?_,
    fun f hf => State.linear_changeRate hs hr hf⟩, fun d frc => ⟨State.linear_moveOffset hs d frc, ?_, ?_⟩⟩
  · rw [State.linear_changeRate hs hr le_rfl, Nat.sub_self, Nat.add_zero, Nat.mod_eq_of_lt]
    exact Nat.mod_lt _ (by decide)
  · exact (State.offset_rate_moveOffset hs d).2
  · exact State.timeValid_moveOffset hs d

/-! ### The snapshot (R457) -/

theorem exec_timeSnapshot (edge : Nat) (s : State) :
    exec (.timeSnapshot edge) s = .next (s.onReg 0x30004 (fun s => s.snapshot edge)) := rfl

/-- What the snapshot writes, of an edge's FRC and its L. -/
def snapWrites (frc l : Nat) : List (Fld × Nat) :=
  [(F.TIM_SNAP_FRC_LO_FRC, frc), (F.TIM_SNAP_FRC_HI_FRC, frc / 2 ^ 32), (F.TIM_SNAP_SEC_LO_SEC, secondsOf l),
    (F.TIM_SNAP_SEC_HI_SEC, secondsOf l / 2 ^ 32), (F.TIM_SNAP_NS_NS, nanosOf l), (F.TIM_SNAP_SUB_SUB, subNanosOf l),
    (F.TIM_STATUS_SNAP_VALID, 1)]

theorem State.snapshot_eq (s : State) (edge : Nat) :
    s.snapshot edge = s.putFields (snapWrites (s.frcAt edge) (s.linear (s.frcAt edge))) := rfl

/-- Settles O37: the row is `putFields` of `snapWrites`, and FRC and the parts of L fit the fields that take them. -/
theorem snapshotLatchesOneEdge : Obligations.SnapshotLatchesOneEdge := by
  intro s edge hs hreach
  have hfrc : s.frcAt edge < 2 ^ 64 := Nat.mod_lt _ (by decide)
  have hlin : (s.offset + s.frcAt edge * s.rate / 2 ^ 24) % 2 ^ 96 = s.linear (s.frcAt edge) := rfl
  refine ⟨_, by rw [exec_timeSnapshot, State.onReg_reaches hreach], ?_⟩
  dsimp only
  rw [State.snapshot_eq, hlin]
  generalize s.frcAt edge = frc at hfrc ⊢
  generalize s.linear frc = l
  have hsep : Fld.separate ((snapWrites frc l).map Prod.fst) = true := rfl
  have hread {f : Fld} {x : Nat} (i : Nat) (hf : (snapWrites frc l)[i]? = some (f, x)) :=
    State.fld_putFields_separate (State.regs_swf hs) hsep i hf
  have hsame {g : Fld} := State.fld_putFields_outside (State.regs_swf hs) hsep (g := g)
  refine ⟨⟨?_, ?_, ?_, ?_, ?_⟩, ?_, ?_, ?_, ?_⟩
  · exact hread 0 rfl
  · exact (hread 1 rfl).trans (Nat.mod_eq_of_lt (Nat.div_lt_of_lt_mul hfrc))
  · rw [hread 2 rfl, hread 3 rfl]
    simp only [secondsOf, F.TIM_SNAP_SEC_LO_SEC, F.TIM_SNAP_SEC_HI_SEC]
    omega
  · exact (hread 4 rfl).trans (Nat.mod_eq_of_lt ((Nat.mod_lt _ (by decide)).trans (by decide)))
  · exact (hread 5 rfl).trans (Nat.mod_mod _ _)
  · rw [State.flag, hread 6 rfl]
    rfl
  · rw [State.offset, hsame rfl, hsame rfl, hsame rfl, State.offset]
  · rw [State.rate, hsame rfl, hsame rfl, State.rate]
  · rw [State.timeValid, State.flag, hsame rfl, State.timeValid, State.flag]

end Sys2Proof.Machine
end

section
/-!
SUPPORT AND PROOFS. The rows of Aster time (R459-R473): the TIME commands, the comparators and the servo.
-/
namespace Sys2Proof.Machine

/-! ### The rows -/

theorem exec_timeAdjust (tag edge : Nat) (s : State) :
    exec (.timeAdjust tag edge) s = .next (s.performStart 0x0302 tag (isOp 0) (fun c s => s.setOffsetCmd c edge)) := rfl
theorem exec_timeSetAbsolute (tag edge : Nat) (s : State) :
    exec (.timeSetAbsolute tag edge) s = .next (s.performStart 0x0302 tag (isOp 1) (fun c s => s.setOffsetCmd c edge)) := rfl
theorem exec_timeSetRate (tag edge : Nat) (s : State) :
    exec (.timeSetRate tag edge) s = .next (s.performStart 0x0302 tag (isOp 2) (fun c s =>
      (s.changeRate (s.frcAt edge) (leAt c.payload 4 6)).finishNow c.tag .ok (timeReply 0 (s.frcAt edge)))) := rfl
theorem exec_timeStepForceAdjust (tag edge : Nat) (s : State) :
    exec (.timeStepForceAdjust tag edge) s = .next (s.performStart 0x0303 tag (isOp 0) (fun c s => s.stepForceCmd c edge)) := rfl
theorem exec_timeStepForceAbsolute (tag edge : Nat) (s : State) :
    exec (.timeStepForceAbsolute tag edge) s = .next (s.performStart 0x0303 tag (isOp 1) (fun c s => s.stepForceCmd c edge)) := rfl
theorem exec_timeDisarmTrigger (tag : Nat) (s : State) :
    exec (.timeDisarmTrigger tag) s = execTimeDisarmTrigger tag s := rfl
theorem exec_timeCmpFired (i : Fin 16) (edge : Nat) (s : State) : exec (.timeCmpFired i edge) s = execTimeCmpFired i edge s := rfl
theorem exec_timeCmpMissed (i : Fin 16) (edge : Nat) (s : State) : exec (.timeCmpMissed i edge) s = execTimeCmpMissed i edge s := rfl
theorem exec_timePulseEnd (i : Fin 16) (s : State) : exec (.timePulseEnd i) s =
    .next { s with time := { s.time with pulses := s.time.pulses.filter (fun x => x.1 != i.val) } } := rfl
theorem exec_ptpServoUpdate (parent : Option (Fin 8 × Nat)) (ms sm phase : Int) (rate edge : Nat) (s : State) :
    exec (.ptpServoUpdate parent ms sm phase rate edge) s =
      .next (s.servoUpdate (parent.map (fun p => (s.slavePort p.1.val, p.2))) phase rate edge) := rfl
theorem exec_ptpParentLoss (s : State) : exec .ptpParentLoss s = .next s.servoHoldover := rfl

/-! ### TIME_SET_OFFSET and TIME_STEP_FORCE (R460, R461, R471, R472) -/

/-- A step that R460 lets through is applied, whatever asked for it. -/
theorem State.setOffsetCmd_applied {u : State} {c : Cmd} {edge : Nat} {d : Int} (hd : u.askedStep c (u.frcAt edge) = d)
    (hj : u.jumpRefused d = false) :
    u.setOffsetCmd c edge = (u.moveOffset d).finishNow c.tag .ok (timeReply d (u.frcAt edge)) := by
  simp only [State.setOffsetCmd, hd, hj, Bool.false_eq_true, if_false]

/-- MODE 0 asks for its adjustment. -/
theorem State.askedStep_adjust (u : State) {c : Cmd} (hop : c.op = 0) (frc : Nat) : u.askedStep c frc = sleAt c.payload 4 8 :=
  if_pos hop

/-! ### Comparators (R462-R464, R473) -/

/-- The fields that TIME_ARM_TRIGGER loads, and with them the comparator's state. -/
def cmpFields (i : Nat) : List Fld :=
  [F.TIM_CMP_CTRL_ACTION i, F.TIM_CMP_CTRL_MASK i, F.TIM_CMP_SEC_LO_SEC i, F.TIM_CMP_SEC_HI_SEC i, F.TIM_CMP_NS_NS i,
    F.TIM_CMP_PERIOD_PERIOD i, F.TIM_CMP_WIN_WINDOW i, F.TIM_CMP_WIN_WIDTH i, F.TIM_CMP_TICKNO_TICKNO i, F.TIM_CMP_SFN_SFN i,
    F.TIM_CMP_CTRL_STATE i]

/-- What it loads in them. -/
def cmpLoads (c : Cmd) : List (Fld × Nat) :=
  let p := c.payload
  let ns := leAt p 4 6 * 10 ^ 9 + leAt p 10 4
  let sec := ns / 10 ^ 9 % 2 ^ 48
  [(F.TIM_CMP_CTRL_ACTION c.op, leAt p 1 1), (F.TIM_CMP_CTRL_MASK c.op, leAt p 2 2), (F.TIM_CMP_SEC_LO_SEC c.op, sec),
    (F.TIM_CMP_SEC_HI_SEC c.op, sec / 2 ^ 32), (F.TIM_CMP_NS_NS c.op, ns % 10 ^ 9), (F.TIM_CMP_PERIOD_PERIOD c.op, leAt p 16 4),
    (F.TIM_CMP_WIN_WINDOW c.op, leAt p 20 2), (F.TIM_CMP_WIN_WIDTH c.op, leAt p 22 2), (F.TIM_CMP_TICKNO_TICKNO c.op, leAt p 24 4),
    (F.TIM_CMP_SFN_SFN c.op, leAt p 28 2)]

/-- The same writes with the one that arms. -/
def cmpArms (c : Cmd) : List (Fld × Nat) := cmpLoads c ++ [(F.TIM_CMP_CTRL_STATE c.op, CmpState.armed.code)]

theorem cmpFields_separate : ∀ i : Fin 16, Fld.separate (cmpFields i.val) = true := by decide +kernel

theorem cmpFields_addr : ∀ i : Fin 16, (cmpFields i.val).all (F.TIM_STATUS_VALID.apart ·) = true ∧
    (cmpFields i.val).all (F.TCK_TICKNO_TICKNO.apart ·) = true := by decide +kernel

theorem cmpLoads_separate : ∀ i : Fin 16, Fld.separate ((cmpFields i.val).take 10) = true := by decide +kernel

theorem cmpLoads_valid : ∀ i : Fin 16, ((cmpFields i.val).take 10).all (F.TIM_STATUS_VALID.apart ·) = true := by decide +kernel

/-- Before time is valid no target has passed: the trigger is armed with the fields it loads. -/
theorem execTimeArmTrigger_invalid {s u : State} {tag : Nat} {c : Cmd} (h : Starts s 0x0304 tag c u)
    (ha : leAt c.payload 1 1 ≠ 0) (hv : (u.putFields (cmpLoads c)).timeValid = false) (edge : Nat) :
    execTimeArmTrigger tag edge s =
      .next ((u.putFields (cmpArms c)).finishNow c.tag .ok (leBytes 4 CmpState.armed.code)) := by
  rw [execTimeArmTrigger, h.performStart (by simpa using ha)]
  exact congrArg Host.Outcome.next (if_neg (fun hw => Bool.false_ne_true (hv.symm.trans hw.1)))

section
variable {u : State} (hu : u.canonical = true) {c : Cmd} (hop : c.op < 16)
include hu hop

theorem fld_putFields_cmpArms {f : Fld} {v : Nat} (i : Nat) (hf : (cmpArms c)[i]? = some (f, v)) :
    (u.putFields (cmpArms c)).fld f = v % 2 ^ f.width :=
  State.fld_putFields_separate (State.regs_swf hu) (l := cmpArms c) (cmpFields_separate ⟨c.op, hop⟩) i hf

theorem fld_putFields_cmpArms_outside {g : Fld} (hg : (cmpFields c.op).all (g.apart ·) = true) :
    (u.putFields (cmpArms c)).fld g = u.fld g :=
  State.fld_putFields_outside (State.regs_swf hu) (l := cmpArms c) (cmpFields_separate ⟨c.op, hop⟩) hg

end

/-- The clause of TIME_ARM_TRIGGER: the loads leave TIM_STATUS and TICKNO alone, so that the target is not judged. -/
theorem timeArmTrigger_arms {s u : State} {tag : Nat} {c : Cmd} (h : Starts s 0x0304 tag c u) (edge : Nat) (hop : c.op < 16)
    (ha : leAt c.payload 1 1 ≠ 0) (hv : u.timeValid = false) (hu : u.canonical = true) :
    ∃ v : State, exec (.timeArmTrigger tag edge) s = .next (v.finishNow c.tag .ok (leBytes 4 CmpState.armed.code)) ∧
      v.cmpState c.op = .armed ∧ v.fld (F.TIM_CMP_CTRL_ACTION c.op) = leAt c.payload 1 1 % 8 ∧
      v.fld (F.TIM_CMP_PERIOD_PERIOD c.op) = leAt c.payload 16 4 ∧ v.fld (F.TIM_CMP_WIN_WINDOW c.op) = leAt c.payload 20 2 ∧
      v.timeValid = false ∧ v.tickno = u.tickno := by
  obtain ⟨hvalid, htick⟩ := cmpFields_addr ⟨c.op, hop⟩
  have hloads : (u.putFields (cmpLoads c)).timeValid = false := by
    have hsep : Fld.separate ((cmpLoads c).map Prod.fst) = true := cmpLoads_separate ⟨c.op, hop⟩
    rw [State.timeValid, State.flag, State.fld_putFields_outside (State.regs_swf hu) hsep (cmpLoads_valid ⟨c.op, hop⟩)]
    exact hv
  refine ⟨_, execTimeArmTrigger_invalid h ha hloads edge, ?_, fld_putFields_cmpArms hu hop 0 rfl, ?_, ?_, ?_, ?_⟩
  · rw [State.cmpState, fld_putFields_cmpArms hu hop 10 rfl]
    rfl
  · exact (fld_putFields_cmpArms hu hop 5 rfl).trans (Nat.mod_eq_of_lt (leAt_lt _ _ _))
  · exact (fld_putFields_cmpArms hu hop 6 rfl).trans (Nat.mod_eq_of_lt (leAt_lt _ _ _))
  · rw [State.timeValid, State.flag, fld_putFields_cmpArms_outside hu hop hvalid]
    exact hv
  · exact fld_putFields_cmpArms_outside hu hop htick

/-- The fewest whole periods that put a passed target in the future. -/
theorem fewest_periods {d : Int} (hd : 0 ≤ d) {q : Nat} (hq : 0 < q) :
    d < (((d.toNat / q + 1) * q : Nat) : Int) ∧ (((d.toNat / q + 1 - 1) * q : Nat) : Int) ≤ d := by
  have hmod := Nat.mod_add_div' d.toNat q
  have hlt := Nat.mod_lt d.toNat hq
  rw [Nat.add_sub_cancel, Nat.succ_mul]
  omega

section
variable {s : State} {i : Fin 16} {edge : Nat} (ha : s.cmpState i.val = .armed) (hv : s.timeValid = true)
include ha hv

theorem execTimeCmpFired_within (h0 : 0 ≤ timeDelta (s.linear (s.frcAt edge)) (s.cmpTarget i.val))
    (hw : timeDelta (s.linear (s.frcAt edge)) (s.cmpTarget i.val) ≤ windowOf (s.fld (F.TIM_CMP_WIN_WINDOW i.val))) :
    execTimeCmpFired i edge s = .next (if s.fld (F.TIM_CMP_PERIOD_PERIOD i.val) = 0 then
        ((s.cmpAct i.val).raise 0x2012 i.val srcAster sevDebug).setCmp i.val .fired
      else ((s.cmpAct i.val).raise 0x2012 i.val srcAster sevDebug).setCmpTarget i.val
        (s.cmpNs i.val + s.fld (F.TIM_CMP_PERIOD_PERIOD i.val))) :=
  if_pos ⟨ha, hv, h0, hw⟩

theorem execTimeCmpMissed_beyond
    (hw : windowOf (s.fld (F.TIM_CMP_WIN_WINDOW i.val)) < timeDelta (s.linear (s.frcAt edge)) (s.cmpTarget i.val)) :
    execTimeCmpMissed i edge s = if s.fld (F.TIM_CMP_PERIOD_PERIOD i.val) = 0 then
        .next ((s.setCmp i.val .missed).raise 0x2013 0 srcAster sevWarning)
      else
        let n := (timeDelta (s.linear (s.frcAt edge)) (s.cmpTarget i.val)).toNat /
          (s.fld (F.TIM_CMP_PERIOD_PERIOD i.val) * 2 ^ 16) + 1
        .next ((s.setCmpTarget i.val (s.cmpNs i.val + n * s.fld (F.TIM_CMP_PERIOD_PERIOD i.val))).raise 0x2013 n srcAster
          sevWarning) :=
  if_pos ⟨ha, hv, hw⟩

end

/-! ### The servo (R459, R468) -/

/-- An update of an enabled servo outside TAKEOVER, on a port with a parent. -/
theorem State.servoUpdate_parent {s : State} (he : s.servoEnabled = true) (hm : s.fld F.MBX_STATUS_MODE ≠ 1)
    (port cls : Nat) (phase : Int) (rate edge : Nat) :
    s.servoUpdate (some (port, cls)) phase rate edge = match s.servoTimes port with
      | some x => s.servoParent port cls x.1 x.2 phase rate edge
      | none => s.adoptParent port cls := by
  rw [State.servoUpdate, he]
  simp only [Bool.not_true, Bool.false_eq_true, if_false, if_neg hm]
  cases s.servoTimes port <;> rfl

/-- The registers of a servo that enters HOLDOVER, but for the count of events without a number. -/
theorem State.reg_servoHoldover {s : State} (hs : s.servo = .acquiring ∨ s.servo = .locked) {a : Nat}
    (ha : a ≠ F.TCK_ARB_DROP_COUNT.addr) :
    s.servoHoldover.reg a = ((s.setServo .holdover).setFld F.TIM_PTP_STAT_PARENT 0xF).reg a := by
  rw [State.servoHoldover, if_pos hs, State.reg_raiseFree_other _ _ _ _ ha]
  rfl

/-- The clause of PTP_PARENT_LOSS: the servo's state and parent are written, and no other field of the time. -/
theorem servoHoldover_holds {s : State} (hservo : s.servo = .acquiring ∨ s.servo = .locked) (hs : s.canonical = true) :
    s.servoHoldover.servo = .holdover ∧ s.servoHoldover.fld F.TIM_PTP_STAT_PARENT = 0xF ∧
      s.servoHoldover.rate = s.rate ∧ s.servoHoldover.offset = s.offset := by
  have hreg {a : Nat} := State.reg_servoHoldover hservo (a := a)
  have hfld (f : Fld) (hf : f.addr ≠ F.TCK_ARB_DROP_COUNT.addr) :
      s.servoHoldover.fld f = ((s.setServo .holdover).setFld F.TIM_PTP_STAT_PARENT 0xF).fld f := by
    rw [State.fld, hreg hf, State.fld]
  have hcan : (s.setServo .holdover).canonical = true := State.setFld_canonical hs _ _
  obtain ⟨hoff, hrate⟩ : s.servoHoldover.offset = s.offset ∧ s.servoHoldover.rate = s.rate := by
    refine State.offset_rate_of_reg (fun a hlo hhi => ?_)
    have hother {b : Nat} (hb : b < 0x30020 ∨ 0x30034 < b) : a ≠ b := by omega
    rw [hreg (hother (by decide)), State.reg_setFld_other _ _ _ (hother (by decide)), State.setServo,
      State.reg_setFld_other _ _ _ (hother (by decide))]
  refine ⟨?_, ?_, hrate, hoff⟩
  · rw [State.servo, hfld _ (by decide), State.fld_setFld_other _ _ _ _ (by decide), State.setServo,
      State.fld_setFld_same (State.regs_swf hs) _ _ (by decide)]
    rfl
  · rw [hfld _ (by decide), State.fld_setFld_same (State.regs_swf hcan) _ _ (by decide)]
    rfl

/-- Settles O38: each TIME command by what it does once started, each event by its guard. -/
theorem timeRowsComplete : Obligations.TimeRowsComplete := by
  refine ⟨fun s tag edge c u h => ⟨fun hop hj => ?_, fun hop hj => ?_, fun hop => ?_⟩,
    fun s tag edge c u h => ⟨fun hop => ?_, fun hop => ?_⟩,
    fun s tag edge c u h hop => ⟨fun ha hv hu => timeArmTrigger_arms h edge hop ha hv hu, fun ha => ?_⟩,
    fun s i edge ha hv => ⟨fun h0 hw hp => ?_, fun h0 hw hp => ?_, fun hw hp => ?_, fun hw hp => ?_⟩,
    fun s i => ⟨_, exec_timePulseEnd i s, ?_, ?_, rfl⟩, fun s port cls ms sm phase rate edge he hm => ?_,
    fun s hservo hs => ⟨_, exec_ptpParentLoss s, servoHoldover_holds hservo hs⟩⟩
  · have hd := u.askedStep_adjust hop (u.frcAt edge)
    rw [exec_timeAdjust, h.performStart (isOp_of_eq hop), State.setOffsetCmd_applied hd (hd ▸ hj), timeReply]
  · rw [exec_timeSetAbsolute, h.performStart (isOp_of_eq hop), State.setOffsetCmd_applied rfl hj, timeReply]
  · rw [exec_timeSetRate, h.performStart (isOp_of_eq hop)]
    rfl
  · rw [exec_timeStepForceAdjust, h.performStart (isOp_of_eq hop), State.stepForceCmd, u.askedStep_adjust hop, timeReply]
  · rw [exec_timeStepForceAbsolute, h.performStart (isOp_of_eq hop), State.stepForceCmd, timeReply]
  · rw [exec_timeDisarmTrigger, execTimeDisarmTrigger, h.performStart (by simpa using ha)]
  · rw [exec_timeCmpFired, execTimeCmpFired_within ha hv h0 hw, if_pos hp]
  · rw [exec_timeCmpFired, execTimeCmpFired_within ha hv h0 hw, if_neg hp]
  · rw [exec_timeCmpMissed, execTimeCmpMissed_beyond ha hv hw, if_pos hp]
  · have hd : 0 ≤ timeDelta (s.linear (s.frcAt edge)) (s.cmpTarget i.val) := (Int.natCast_nonneg _).trans hw.le
    refine ⟨_, Nat.succ_pos _, ?_, fewest_periods hd (Nat.mul_pos (Nat.pos_of_ne_zero hp) (by decide))⟩
    rw [exec_timeCmpMissed, execTimeCmpMissed_beyond ha hv hw, if_neg hp]
  · simp
  · simp +contextual
  · rw [exec_ptpServoUpdate]
    exact congrArg Host.Outcome.next (State.servoUpdate_parent he hm _ cls phase rate edge)

end Sys2Proof.Machine
end

section
/-!
SUPPORT AND PROOFS. The cascade's rows (R346, R350-R352, R356, R364, R368, R369).
-/
namespace Sys2Proof.Machine

/-! ### The rows -/

theorem exec_casConfig (tag : Nat) (s : State) : exec (.casConfig tag) s = execCasConfig tag s := rfl
theorem exec_casDiscover (tag : Nat) (s : State) : exec (.casDiscover tag) s = execCasDiscover tag s := rfl
theorem exec_casDiscoverComplete (s : State) : exec .casDiscoverComplete s = .next s.discoverComplete := rfl
theorem exec_finefFrameReceived (p : Fin 4) (f : FinefFrame) (s : State) : exec (.finefFrameReceived p f) s =
    .next (if s.replaying then s else (s.noteItem (.finef p.val f)).finefIn p.val f) := rfl
theorem exec_casLinkUp (k : Fin 4) (s : State) : exec (.casLinkUp k) s = .next (s.casLinkUp k.val) := rfl
theorem exec_casLinkDown (k : Fin 4) (s : State) : exec (.casLinkDown k) s = .next (s.casLinkDown k.val) := rfl
theorem exec_casRejoin (k : Fin 4) (s : State) : exec (.casRejoin k) s = .next (s.casRejoin k.val) := rfl
theorem exec_ringReversal (s : State) : exec .ringReversal s = .next s.ringReversal := rfl

/-! ### Discovery (R369) -/

/-- The only discovery under way completes once its time has come. -/
theorem State.discoverComplete_one {s : State} {d : Discovery} (h : s.cas.discover = [d]) (hd : d.endsAt ≤ s.elapsed) :
    s.discoverComplete = (({ s with cas := { s.cas with discover := [] } } : State).finishNow d.tag .ok
      (({ s with cas := { s.cas with discover := [] } } : State).discoverBytes d)) := by
  have hdue : s.cas.discover.filter (fun d => decide (d.endsAt ≤ s.elapsed)) = [d] := by simp [h, hd]
  have hleft : s.cas.discover.filter (fun d => decide (s.elapsed < d.endsAt)) = [] := by simp [h, hd]
  rw [State.discoverComplete, hdue, hleft]
  rfl

/-! ### Frames (R351) -/

/-- A frame on a port that is neither DISABLED nor RETIRED, of a device that does not replay: the checks of R351 in their order. -/
theorem finefFrameReceived_heard {s : State} {p : Fin 4} (hr : s.replaying = false) (hd : s.casPort p.val ≠ .disabled)
    (ht : s.casPort p.val ≠ .retired) (f : FinefFrame) :
    let v := s.noteItem (.finef p.val f)
    let u : State := { v with cas := { v.cas with heard := insertNat v.cas.heard p.val } }
    exec (.finefFrameReceived p f) s = .next (
      if f.fault = true then u.casBad p.val 4
      else if f.tickno % 2 ^ 32 ≠ tickAdd u.tickno (2 ^ 32 - 1) then
        ((u.casBad p.val 1).addFld (F.CAS_P_SKEW_COUNT p.val) 1).raiseFree 0xA003 (srcCas p.val) sevError
      else if !f.crcOk ∨ !f.fecOk then (u.casBad p.val 1).addFld (F.CAS_P_CRC_COUNT p.val) 1
      else
        let w := ({ u with cas := { u.cas with
          good := sput (fun _ => 0) u.cas.good p.val (min 16 (sget (fun _ => 0) u.cas.good p.val + 1))
          bad := sput (fun _ => 0) u.cas.bad p.val 0 } } : State).setFld (F.CAS_P_STATUS_PEER_HOP p.val) f.hop
        if w.casPort p.val = .up ∨ w.casPort p.val = .standby then w.casUse p.val f else w) := by
  intro v u
  have hport : v.casPort p.val = s.casPort p.val := congrArg CasPort.ofCode (State.fld_of_regs (State.noteItem_regs s _) _)
  have hlive : ¬ (v.casPort p.val = .disabled ∨ v.casPort p.val = .retired) := by
    rw [hport]
    exact not_or.2 ⟨hd, ht⟩
  rw [exec_finefFrameReceived, hr]
  exact congrArg Host.Outcome.next (if_neg hlive)

/-! ### Ring reversal (R364) -/

/-- A member that turns around writes registers and its parent port, and nothing of the cascade's own state. -/
theorem State.turnAround_cas (s : State) : s.turnAround.cas = s.cas := by
  simp only [State.turnAround, apply_ite State.cas, State.setFld_cas, State.setCasPort, ite_self]

/-- The root's registers after the switch: its standby port is a downstream one, and UP where it stood by. -/
def State.rootTurned (s : State) : State :=
  let k := s.fld F.CAS_CFG_STBY_PORT
  let t := s.setFld F.CAS_CFG_DOWN (putBits (s.fld F.CAS_CFG_DOWN) k 1 1)
  let t := if t.casPort k = .standby then t.setCasPort k .up else t
  (t.setFld F.CAS_STATUS_REVERSED 1).addFld F.CAS_REVERSALS_COUNT 1

theorem State.rootTurned_cas (s : State) : s.rootTurned.cas = s.cas := by
  simp only [State.rootTurned, apply_ite State.cas, State.addFld_cas, State.setFld_cas, State.setCasPort, ite_self]

/-- A port that stands by is made UP: its status is a register of its own. -/
theorem State.fld_ite_setCasPort (s : State) (p : Prop) [Decidable p] (k : Nat) (x : CasPort) {f : Fld}
    (hf : f.addr < 0x320100) : (if p then s.setCasPort k x else s).fld f = s.fld f := by
  split
  · exact State.fld_setFld_other _ _ _ _ (by simp only [F.CAS_P_STATUS_STATE]; omega)
  · rfl

theorem State.reversed_rootTurned {s : State} (hs : s.canonical = true) : s.rootTurned.flag F.CAS_STATUS_REVERSED = true := by
  have hcan {t : State} (ht : t.canonical = true) (p : Prop) [Decidable p] (k : Nat) (x : CasPort) :
      (if p then t.setCasPort k x else t).canonical = true := by
    split
    · exact State.setFld_canonical ht _ _
    · exact ht
  rw [State.flag, State.rootTurned, State.addFld, State.fld_setFld_other _ _ _ _ (by decide),
    State.fld_setFld_same (State.regs_swf (hcan (State.setFld_canonical hs _ _) _ _ _)) _ _ (by decide)]
  rfl

/-- A bit put into a word reads back, also where the word is cut to a field that holds the bit. -/
theorem bitAt_putBits_mod (v x : Nat) {k w : Nat} (hk : k < w) : bitAt (putBits v k 1 x % 2 ^ w) k = (x % 2 == 1) := by
  have h : putBits v k 1 x / 2 ^ k % 2 = x % 2 := bitsAt_putBits_same v k 1 x
  have hmod : putBits v k 1 x % 2 ^ w / 2 ^ k % 2 = putBits v k 1 x / 2 ^ k % 2 := by
    obtain ⟨d, rfl⟩ := Nat.exists_eq_add_of_lt hk
    rw [Nat.add_assoc, pow_add, Nat.mod_mul_right_div_self, pow_succ, Nat.mod_mul_left_mod]
  rw [bitAt, hmod, h]

theorem State.down_rootTurned {s : State} (hs : s.canonical = true) :
    bitAt (s.rootTurned.fld F.CAS_CFG_DOWN) (s.fld F.CAS_CFG_STBY_PORT) = true := by
  rw [State.rootTurned, State.addFld, State.fld_setFld_other _ _ _ _ (by decide), State.fld_setFld_other _ _ _ _ (by decide),
    State.fld_ite_setCasPort _ _ _ _ (by decide), State.fld_setFld_same (State.regs_swf hs) _ _ (by decide)]
  exact bitAt_putBits_mod _ 1 (Nat.mod_lt _ (by decide))

/-- The switch at a tick that has come. -/
theorem State.ringReversal_come {s : State} {t : Nat} (h : s.cas.switchAt = some t) (ht : tickAfter t s.tickno = false) :
    let u : State := { s with cas := { s.cas with switchAt := none } }
    s.ringReversal = if u.casRole = 1 then
        u.rootTurned.refreshPresent.raise 0xA009
          (max (u.fld F.CAS_STATUS_PRESENT - 1) (u.fld F.CAS_ARRAY_M - 1 - (u.fld F.CAS_STATUS_PRESENT - 1))) (srcBlock 11) sevWarning
      else if u.cas.reverse then
        (({ u.turnAround with cas := { u.cas with reverse := false } } : State).setFld F.CAS_STATUS_REVERSED 1).refreshCasState
      else u := by
  rw [State.ringReversal]
  simp only [h, ht]
  rfl

/-- Settles O43: each command by what it does once it passes, each event by its guard. -/
theorem cascadeRowsComplete : Obligations.CascadeRowsComplete := by
  refine ⟨fun s tag c u => ⟨fun h => ?_, fun h => ?_⟩, fun s d h hd => ?_, fun s p f hr hd ht => ?_,
    fun s k hport hgood htrack => ⟨fun hst => ?_, fun hst => ?_⟩, fun s k hport hbad => ?_, fun s k hport ht htime => ?_,
    fun s t h ht => ⟨fun hrole hrev => ?_, fun hrole hu => ?_⟩⟩
  · rw [exec_casConfig, execCasConfig, h.performCommit rfl]
  · rw [exec_casDiscover, execCasDiscover, h.performStart rfl]
  · rw [exec_casDiscoverComplete, State.discoverComplete_one h hd]
  · refine ⟨fun hf => ?_, fun hf hl => ?_, fun hf hl hc => ?_, fun hf hl hc he => ?_⟩ <;>
      rw [finefFrameReceived_heard hr hd ht]
    · rw [if_pos hf]
    · rw [if_neg (by simp [hf]), if_pos hl]
    · rw [if_neg (by simp [hf]), if_neg hl, if_pos (by simpa using hc)]
    · rw [if_neg (by simp [hf]), if_neg hl, if_neg (by simp [hc, he])]
  · rw [exec_casLinkUp, State.casLinkUp, if_pos ⟨hport, hgood, htrack⟩, hst]
    rfl
  · rw [exec_casLinkUp, State.casLinkUp, if_pos ⟨hport, hgood, htrack⟩, hst]
    rfl
  · rw [exec_casLinkDown, State.casLinkDown, if_pos ⟨hport, by simpa using hbad⟩]
  · rw [exec_casRejoin, State.casRejoin, if_pos ⟨hport, ht, htime⟩]
  · rw [exec_ringReversal, State.ringReversal_come h ht, if_neg hrole, if_pos hrev, State.turnAround_cas]
  · refine ⟨State.rootTurned _, ?_, State.reversed_rootTurned hu, State.down_rootTurned hu, State.rootTurned_cas _⟩
    rw [exec_ringReversal, State.ringReversal_come h ht, if_pos hrole]

end Sys2Proof.Machine
end

section
/-!
SUPPORT AND PROOFS. Signal engines: what an instruction row executes (R376-R379, R395, R396), and the arithmetic of Table 13-8.
-/
namespace Sys2Proof.Machine

/-! ### The word at PC -/

/-- Where the word at PC is the row's, the engine executes it. -/
theorem State.engStep_ready {s : State} {e op : Nat} {sel : Nat → Bool} (h : s.engReady e op sel = true)
    (f : Nat → Engine → State → Done) : s.engStep e op sel f = s.engAfter e f := by
  simp only [State.engReady, Bool.and_eq_true, Bool.not_eq_true', beq_iff_eq] at h
  obtain ⟨⟨⟨⟨⟨hact, hdef⟩, hop⟩, hok⟩, hsel⟩, hfree⟩ := h
  rw [State.engStep]
  simp only [hact, hop, hdef, hok, hsel, hfree, Bool.not_true, Bool.and_false, Bool.or_false, bne_self_eq_false, Bool.false_eq_true,
    if_false]
  rfl

/-- A row's step where its word stands at PC, by what it does written another way. -/
theorem State.engStep_ready_eq {s : State} {e op : Nat} {sel : Nat → Bool} (h : s.engReady e op sel = true)
    {f g : Nat → Engine → State → Done} (hfg : ∀ w x u, f w x u = g w x u) : s.engStep e op sel f = s.engAfter e g := by
  rw [State.engStep_ready h, funext₃ hfg]

/-! ### Accumulators (R377, R378) -/

/-- A sum into one accumulator leaves the others. -/
theorem Engine.acc_putAc_other (x : Engine) {i j : Nat} (h : i ≠ j) (v : Int) : (x.putAc i v).acc j = x.acc j := by
  simp only [Engine.putAc, Engine.acc, Engine.setFlag]
  split <;> simp [List.getD_eq_getElem?_getD, List.getElem?_set_ne h]

/-! ### The rows -/

theorem exec_cmac (n : Fin 16) (hi conj sub : Bool) (s : State) : exec (.cmac n hi conj sub) s = execCmac n hi conj sub s := rfl
theorem exec_mac4 (n : Fin 16) (sub : Bool) (s : State) : exec (.mac4 n sub) s = execMac4 n sub s := rfl
theorem exec_mac (n : Fin 16) (ac : Fin 4) (i : Fin 2) (j : Fin 4) (sub : Bool) (s : State) :
    exec (.mac n ac i j sub) s = execMac n ac i j sub s := rfl
theorem exec_mpy (n : Fin 16) (ac : Fin 4) (i : Fin 2) (j : Fin 4) (s : State) : exec (.mpy n ac i j) s = execMpy n ac i j s := rfl
theorem exec_aop (n : Fin 16) (ac : Fin 4) (op : AccOp) (s : State) : exec (.aop n ac op) s = execAop n ac op s := rfl
theorem exec_mova (n : Fin 16) (ac : Fin 4) (dst : MovaDest) (s : State) : exec (.mova n ac dst) s = execMova n ac dst s := rfl
theorem exec_scm (n : Fin 16) (mode : Fin 4) (s : State) : exec (.scm n mode) s = execScm n mode s := rfl
theorem exec_gop (n : Fin 16) (op : IntOp) (d a b : Fin 8) (s : State) : exec (.gop n op d a b) s = execGop n op d a b s := rfl

/-- The sum that CMAC forms with or without the conjugate of its bank-V operand, and with either sign. -/
theorem cmac_done (o x : Engine) (u : State) (hi conj sub : Bool) :
    let k := if hi then 2 else 0
    let sg : Int := if sub then -1 else 1
    let cj : Int := if conj then -1 else 1
    let re := if conj then o.uAt 0 * o.vAt 0 + o.uAt 1 * o.vAt 1 else o.uAt 0 * o.vAt 0 - o.uAt 1 * o.vAt 1
    let im := if conj then o.uAt 1 * o.vAt 0 - o.uAt 0 * o.vAt 1 else o.uAt 0 * o.vAt 1 + o.uAt 1 * o.vAt 0
    let y := x.putAc k (x.acc k + sg * (o.uAt 0 * o.vAt 0 - cj * (o.uAt 1 * o.vAt 1)))
    Done.plain ((x.putAc k (x.acc k + sg * re)).putAc (k + 1) (x.acc (k + 1) + sg * im)) u =
      .plain (y.putAc (k + 1) (y.acc (k + 1) + sg * (cj * (o.uAt 0 * o.vAt 1) + o.uAt 1 * o.vAt 0))) u := by
  intro k sg cj re im y
  have hre : re = o.uAt 0 * o.vAt 0 - cj * (o.uAt 1 * o.vAt 1) := by cases conj <;> simp [re, cj]
  have him : im = cj * (o.uAt 0 * o.vAt 1) + o.uAt 1 * o.vAt 0 := by cases conj <;> simp [im, cj]; ring
  rw [hre, him, Engine.acc_putAc_other _ (Nat.ne_of_lt k.lt_succ_self)]

/-- One product added to an accumulator. -/
def Engine.accumulate (x : Engine) (i : Nat) (v : Int) : Engine := x.putAc i (x.acc i + v)

/-- MAC4 adds to the four accumulators in turn. -/
theorem mac4_sums (x : Engine) (v : Nat → Int) : (List.range 4).foldl (fun x i => x.putAc i (x.acc i + v i)) x =
    (((x.accumulate 0 (v 0)).accumulate 1 (v 1)).accumulate 2 (v 2)).accumulate 3 (v 3) := by
  simp only [List.range_succ, List.range_zero, List.nil_append, List.cons_append, List.foldl_cons, List.foldl_nil, Engine.accumulate]

/-- A shift of an accumulator is one sum of the shifted value. -/
theorem accOp_shift (x : Engine) (a : Nat) (k : Fin 17) : accOp x a (.shift k) = x.putAc a
    (if 8 ≤ k.val then x.acc a * (2 ^ (k.val - 8) : Nat) else x.acc a / (2 ^ (8 - k.val) : Nat)) := by
  rw [accOp]
  split <;> rfl

/-- Settles O44: each row by the word at PC, CMAC by its sums, AOP by the operation. -/
theorem engineArithmeticComplete : Obligations.EngineArithmeticComplete := by
  intro s n
  refine ⟨fun hi conj sub h => ?_, fun sub h => ?_, fun ac i j sub h => ?_, fun ac i j h => ?_, fun ac op h => ?_,
    fun ac i h => ?_, fun ac i h => ?_, fun ac i h => ⟨?_, ?_⟩, fun mode h => ?_, fun op d a b h => ?_⟩
  · rw [exec_cmac]
    exact congrArg Host.Outcome.next (State.engStep_ready_eq h (fun _ x u => cmac_done _ x u hi conj sub))
  · rw [exec_mac4]
    exact congrArg Host.Outcome.next (State.engStep_ready_eq h (fun _ x u => congrArg (Done.plain · u) (mac4_sums x _)))
  · rw [exec_mac]
    exact congrArg Host.Outcome.next (State.engStep_ready h _)
  · rw [exec_mpy]
    exact congrArg Host.Outcome.next (State.engStep_ready h _)
  · rw [exec_aop]
    refine congrArg Host.Outcome.next (State.engStep_ready_eq h (fun _ x u => ?_))
    cases op with
    | shift k => rw [accOp_shift]
    | _ => rfl
  · rw [exec_mova]
    exact congrArg Host.Outcome.next (State.engStep_ready h _)
  · rw [exec_mova]
    exact congrArg Host.Outcome.next (State.engStep_ready h _)
  · rw [exec_mova]
    exact congrArg Host.Outcome.next (State.engStep_ready h _)
  · rw [exec_mova]
    exact congrArg Host.Outcome.next (State.engStep_ready h _)
  · rw [exec_scm]
    exact congrArg Host.Outcome.next (State.engStep_ready h _)
  · rw [exec_gop]
    exact congrArg Host.Outcome.next (State.engStep_ready h _)

end Sys2Proof.Machine
end

section
/-!
SUPPORT AND PROOFS. Signal engines: the end of an instruction and of a block move, and the rows of movement (R376, R381, R392-R394).
-/
namespace Sys2Proof.Machine

/-! ### Engines in the state -/

theorem State.engine_putEngine_same {s : State} (h : swf (fun _ => Engine.init) s.eng.engines = true) (e : Nat) (x : Engine) :
    (s.putEngine e x).engine e = x :=
  sget_sput_same h

theorem State.engine_putEngine_other (s : State) {e j : Nat} (h : j ≠ e) (x : Engine) : (s.putEngine e x).engine j = s.engine j :=
  sget_sput_other h

theorem State.putEngine_engines_swf {s : State} (h : swf (fun _ => Engine.init) s.eng.engines = true) (e : Nat) (x : Engine) :
    swf (fun _ => Engine.init) (s.putEngine e x).eng.engines = true :=
  sput_swf h

theorem State.putEngine_regs (s : State) (e : Nat) (x : Engine) : (s.putEngine e x).regs =
    ((s.setFld (F.LE_PC_PC e) x.pc).setFld (F.LE_STATUS_OVR e) (bitsAt x.sr 14 1)).regs := rfl

section
variable {s : State} (hs : swf resetWord s.regs = true)
include hs

/-- An engine's registers are LE_PC and LE_STATUS.OVR; every field apart from them reads as before. -/
theorem State.fld_putEngine_apart {e : Nat} (x : Engine) {f : Fld} (hpc : f.apart (F.LE_PC_PC e) = true)
    (hovr : f.apart (F.LE_STATUS_OVR e) = true) : (s.putEngine e x).fld f = s.fld f := by
  rw [State.fld_of_regs (s.putEngine_regs e x), State.fld_setFld_apart (State.setFld_swf hs _ _) _ (by simp [F.LE_STATUS_OVR]) hovr,
    State.fld_setFld_apart hs _ (by simp [F.LE_PC_PC]) hpc]

theorem State.fld_putEngine_pc (e : Nat) (x : Engine) : (s.putEngine e x).fld (F.LE_PC_PC e) = x.pc % 2 ^ 13 := by
  rw [State.fld_of_regs (s.putEngine_regs e x), State.fld_setFld_other _ _ _ _ (by simp [F.LE_STATUS_OVR, F.LE_PC_PC]),
    State.fld_setFld_same hs _ _ (by simp [F.LE_PC_PC])]
  rfl

theorem State.engRun_putEngine (e : Nat) (x : Engine) : (s.putEngine e x).engRun e = s.engRun e :=
  congrArg EngRun.ofCode (State.fld_putEngine_apart hs x (by simp [Fld.apart, F.LE_PC_PC, F.LE_STATUS_STATE])
    (by simp [Fld.apart, F.LE_STATUS_STATE, F.LE_STATUS_OVR]))

theorem State.putEngine_swf (e : Nat) (x : Engine) : swf resetWord (s.putEngine e x).regs = true :=
  State.setFld_swf (State.setFld_swf hs _ _) _ _

end

/-! ### A block move (R393) -/

/-- A read of cluster memory takes no more than a free value. -/
theorem State.clmRead_state (s : State) (w : Nat) : (s.clmRead w).2 = s ∨ (s.clmRead w).2 = (s.fresh 32).2 := by
  simp only [State.clmRead]
  split
  · exact .inl rfl
  · split
    · exact .inr rfl
    · exact .inl rfl

/-- The words that a move brings into a bank. -/
def State.moveIn (s : State) (x : Engine) (m : Move) : Engine × State :=
  (List.range m.n).foldl (fun (a : Engine × State) i =>
    let (v, t) := a.2.clmRead (m.word + i)
    (a.1.putWord m.bank (m.local_ + i) v, t)) (x, s)

/-- The words that a move takes out to cluster memory, and what it leaves for the moves that complete with it. -/
def State.moveOut (s : State) (e : Nat) (x : Engine) (m : Move) : State :=
  let t := (List.range m.n).foldl (fun (t : State) i =>
    if s.outwritten e m.due (m.word + i) then t else t.clmWrite (m.word + i) (x.word m.bank (m.local_ + i))) s
  { t with eng := { t.eng with wrote := t.eng.wrote ++ [ClmSpan.mk e m.due m.word m.n] } }

theorem State.moveDone_none {s : State} {e : Nat} (h : (s.engine e).move = none) : s.moveDone e = s := by
  simp only [State.moveDone, h]

/-- The end of a move: its words, the engine without it, and interrupt source 2. -/
theorem State.moveDone_some {s : State} {e : Nat} {m : Move} (h : (s.engine e).move = some m) : s.moveDone e =
    let t := if m.into then (s.moveIn (s.engine e) m).2.putEngine e { (s.moveIn (s.engine e) m).1 with move := none }
      else (s.moveOut e (s.engine e) m).putEngine e { s.engine e with move := none }
    t.setFld (F.LE_IRQ_PEND e) (putBits (t.fld (F.LE_IRQ_PEND e)) 2 1 1) := by
  simp only [State.moveDone, h]
  rfl

/-- What comes into a bank changes the banks, free values and nothing else. -/
theorem State.moveIn_spec (s : State) (x : Engine) (m : Move) : (s.moveIn x m).2.regs = s.regs ∧ (s.moveIn x m).2.eng = s.eng ∧
    ∃ bu bv, (s.moveIn x m).1 = { x with bu := bu, bv := bv } := by
  rw [State.moveIn]
  generalize List.range m.n = l
  induction l generalizing s x with
  | nil => exact ⟨rfl, rfl, x.bu, x.bv, rfl⟩
  | cons i r ih =>
    obtain ⟨hregs, heng, bu, bv, hx⟩ := ih (s.clmRead (m.word + i)).2 (x.putWord m.bank (m.local_ + i) (s.clmRead (m.word + i)).1)
    have hread : (s.clmRead (m.word + i)).2.regs = s.regs ∧ (s.clmRead (m.word + i)).2.eng = s.eng := by
      rcases s.clmRead_state (m.word + i) with h | h <;> rw [h] <;> exact ⟨rfl, rfl⟩
    refine ⟨hregs.trans hread.1, heng.trans hread.2, bu, bv, ?_⟩
    rw [List.foldl_cons]
    refine hx.trans ?_
    cases m.bank <;> rfl

/-- What goes out changes cluster memory and nothing else of the engines. -/
theorem State.moveOut_spec (s : State) (e : Nat) (x : Engine) (m : Move) : (s.moveOut e x m).regs = s.regs ∧
    (s.moveOut e x m).eng.engines = s.eng.engines := by
  have key (l : List Nat) (t : State) :
      let r := l.foldl (fun (t : State) i =>
        if s.outwritten e m.due (m.word + i) then t else t.clmWrite (m.word + i) (x.word m.bank (m.local_ + i))) t
      r.regs = t.regs ∧ r.eng.engines = t.eng.engines := by
    induction l generalizing t with
    | nil => exact ⟨rfl, rfl⟩
    | cons i r ih =>
      rw [List.foldl_cons]
      split
      · exact ih t
      · exact ih _
  exact key _ s

/-- The end of a move, by the state before it: the engine has its words and no move, its registers show it, source 2 is pending; only
a move out writes cluster memory, and only a move in a bank. -/
theorem State.moveDone_spec {s : State} {e : Nat} {m : Move} (h : (s.engine e).move = some m) : ∃ (t : State) (bu bv : List (Nat × Nat)),
    (let u := t.putEngine e { s.engine e with bu := bu, bv := bv, move := none }
     s.moveDone e = u.setFld (F.LE_IRQ_PEND e) (putBits (u.fld (F.LE_IRQ_PEND e)) 2 1 1)) ∧
    t.regs = s.regs ∧ t.eng.engines = s.eng.engines ∧ (m.into = true → t.eng.clm = s.eng.clm) ∧
    (m.into = false → bu = (s.engine e).bu ∧ bv = (s.engine e).bv) := by
  rw [State.moveDone_some h]
  cases hi : m.into with
  | true =>
    obtain ⟨hregs, heng, bu, bv, hx⟩ := s.moveIn_spec (s.engine e) m
    refine ⟨(s.moveIn (s.engine e) m).2, bu, bv, ?_, hregs, congrArg EngState.engines heng, fun _ => congrArg EngState.clm heng, nofun⟩
    simp only [if_true, hx]
  | false =>
    obtain ⟨hregs, heng⟩ := s.moveOut_spec e (s.engine e) m
    exact ⟨s.moveOut e (s.engine e) m, (s.engine e).bu, (s.engine e).bv, rfl, hregs, heng, nofun, fun _ => ⟨rfl, rfl⟩⟩

section
variable {s : State} (hs : swf resetWord s.regs = true) (hw : swf (fun _ => Engine.init) s.eng.engines = true) (e : Nat)

include hw in
/-- The engine after the end of its move differs in its banks and in having none. -/
theorem State.engine_moveDone : ∃ bu bv, (s.moveDone e).engine e = { s.engine e with bu := bu, bv := bv, move := none } := by
  cases hm : (s.engine e).move with
  | none =>
    refine ⟨(s.engine e).bu, (s.engine e).bv, ?_⟩
    rw [State.moveDone_none hm, ← hm]
  | some m =>
    obtain ⟨t, bu, bv, hdone, _, heng, _⟩ := State.moveDone_spec hm
    refine ⟨bu, bv, ?_⟩
    rw [hdone]
    exact State.engine_putEngine_same (heng ▸ hw) e _

theorem State.engine_moveDone_other {j : Nat} (hj : j ≠ e) : (s.moveDone e).engine j = s.engine j := by
  cases hm : (s.engine e).move with
  | none => rw [State.moveDone_none hm]
  | some m =>
    obtain ⟨t, bu, bv, hdone, _, heng, _⟩ := State.moveDone_spec hm
    rw [hdone]
    exact (State.engine_putEngine_other t hj _).trans (congrArg (fun l => sget (fun _ => Engine.init) l j) heng)

include hs

/-- A field apart from LE_PC, LE_STATUS.OVR and the pending sources reads as before. -/
theorem State.fld_moveDone_apart {f : Fld} (hpc : f.apart (F.LE_PC_PC e) = true) (hovr : f.apart (F.LE_STATUS_OVR e) = true)
    (hirq : f.apart (F.LE_IRQ_PEND e) = true) : (s.moveDone e).fld f = s.fld f := by
  cases hm : (s.engine e).move with
  | none => rw [State.moveDone_none hm]
  | some m =>
    obtain ⟨t, bu, bv, hdone, hregs, _⟩ := State.moveDone_spec hm
    have ht : swf resetWord t.regs = true := hregs ▸ hs
    rw [hdone, State.fld_setFld_apart (State.putEngine_swf ht _ _) _ (by simp [F.LE_IRQ_PEND]) hirq,
      State.fld_putEngine_apart ht _ hpc hovr, State.fld_of_regs hregs]

theorem State.engRun_moveDone : (s.moveDone e).engRun e = s.engRun e :=
  congrArg EngRun.ofCode (State.fld_moveDone_apart hs e (by simp [Fld.apart, F.LE_PC_PC, F.LE_STATUS_STATE])
    (by simp [Fld.apart, F.LE_STATUS_STATE, F.LE_STATUS_OVR]) (by simp [Fld.apart, F.LE_STATUS_STATE, F.LE_IRQ_PEND]))

/-- LE_PC shows the engine's PC also after the end of its move. -/
theorem State.fld_moveDone_pc (hpc : s.fld (F.LE_PC_PC e) = (s.engine e).pc % 2 ^ 13) :
    (s.moveDone e).fld (F.LE_PC_PC e) = (s.engine e).pc % 2 ^ 13 := by
  cases hm : (s.engine e).move with
  | none => rw [State.moveDone_none hm, hpc]
  | some m =>
    obtain ⟨t, bu, bv, hdone, hregs, _⟩ := State.moveDone_spec hm
    rw [hdone, State.fld_setFld_other _ _ _ _ (by simp [F.LE_PC_PC, F.LE_IRQ_PEND]), State.fld_putEngine_pc (hregs ▸ hs)]

end

/-- The end of a move sets source 2. -/
theorem State.irq_moveDone {s : State} (hs : swf resetWord s.regs = true) {e : Nat} {m : Move} (hm : (s.engine e).move = some m) :
    (s.moveDone e).fld (F.LE_IRQ_PEND e) = putBits (s.fld (F.LE_IRQ_PEND e)) 2 1 1 := by
  obtain ⟨t, bu, bv, hdone, hregs, _⟩ := State.moveDone_spec hm
  have ht : swf resetWord t.regs = true := hregs ▸ hs
  have hfit : putBits (s.fld (F.LE_IRQ_PEND e)) 2 1 1 < 2 ^ 5 := putBits_lt (Nat.mod_lt _ (Nat.two_pow_pos 5)) (by decide)
  rw [hdone, State.fld_setFld_same (State.putEngine_swf ht _ _) _ _ (by simp [F.LE_IRQ_PEND]),
    State.fld_putEngine_apart ht _ (by simp [Fld.apart, F.LE_IRQ_PEND, F.LE_PC_PC]) (by simp [Fld.apart, F.LE_IRQ_PEND, F.LE_STATUS_OVR]),
    State.fld_of_regs hregs]
  exact Nat.mod_eq_of_lt hfit

/-! ### The end of an instruction -/

/-- The engine as an instruction of `cyc` cycles stores it, before a move of its own ends. -/
def Engine.spent (x : Engine) (cyc : Nat) : Engine := { x with begun := true, rowed := true, tleft := x.tleft - cyc }

/-- The engine is stored, and the end of its move may follow at once. -/
theorem State.spend_eq (s : State) (e : Nat) (x : Engine) (cyc : Nat) :
    s.spend e x cyc = s.putEngine e (x.spent cyc) ∨ s.spend e x cyc = (s.putEngine e (x.spent cyc)).moveDone e := by
  simp only [State.spend]
  split
  · split
    · exact .inr rfl
    · exact .inl rfl
  · exact .inl rfl

section
variable {s : State} (hs : swf resetWord s.regs = true) (hw : swf (fun _ => Engine.init) s.eng.engines = true) (e : Nat) (x : Engine)
  (cyc : Nat)

include hw in
theorem State.engine_spend : ∃ bu bv mv, (s.spend e x cyc).engine e = { x.spent cyc with bu := bu, bv := bv, move := mv } := by
  have hput := State.engine_putEngine_same hw e (x.spent cyc)
  rcases s.spend_eq e x cyc with h | h <;> rw [h]
  · exact ⟨x.bu, x.bv, x.move, hput⟩
  · obtain ⟨bu, bv, hdone⟩ := State.engine_moveDone (State.putEngine_engines_swf hw e (x.spent cyc)) e
    exact ⟨bu, bv, none, by rw [hdone, hput]⟩

theorem State.engine_spend_other {j : Nat} (hj : j ≠ e) : (s.spend e x cyc).engine j = s.engine j := by
  have hput := State.engine_putEngine_other s hj (x.spent cyc)
  rcases s.spend_eq e x cyc with h | h <;> rw [h]
  · exact hput
  · exact (State.engine_moveDone_other e hj).trans hput

include hs

theorem State.engRun_spend : (s.spend e x cyc).engRun e = s.engRun e := by
  rcases s.spend_eq e x cyc with h | h <;> rw [h]
  · exact State.engRun_putEngine hs e _
  · rw [State.engRun_moveDone (State.putEngine_swf hs _ _), State.engRun_putEngine hs]

include hw in
theorem State.fld_spend_pc : (s.spend e x cyc).fld (F.LE_PC_PC e) = x.pc % 2 ^ 13 := by
  have hput : (s.putEngine e (x.spent cyc)).fld (F.LE_PC_PC e) = x.pc % 2 ^ 13 := State.fld_putEngine_pc hs e _
  have hpc : ((s.putEngine e (x.spent cyc)).engine e).pc = x.pc := by
    rw [State.engine_putEngine_same hw]
    rfl
  rcases s.spend_eq e x cyc with h | h <;> rw [h]
  · exact hput
  · rw [State.fld_moveDone_pc (State.putEngine_swf hs _ _) e (by rw [hput, hpc]), hpc]

end

end Sys2Proof.Machine
end

section
/-!
SUPPORT AND PROOFS. Signal engines: straight-line code (R381, R382), and the rows of movement (R376, R381, R392-R394, R396).
-/
namespace Sys2Proof.Machine

/-! ### Straight-line code -/

/-- Outside slots, repeats and loop ends, PC moves on by one word. -/
theorem Engine.advance_straight {y : Engine} (hslots : y.slots = 0) (hreps : y.reps = false) (hend : y.atLoopEnd = false) :
    y.advance = { y with pc := nextPc y.pc } := by
  simp only [Engine.advance, hslots, hreps, Bool.false_and, Bool.false_eq_true, if_false, ne_eq, not_true_eq_false, Engine.loopBack,
    hend, Bool.not_false, if_true]

/-- A plain instruction in straight-line code, with no load of the word before it left. -/
theorem engEnd_straight {u : State} {x y : Engine} (e : Nat) (l : List LoadEff) (hloads : x.loads = []) (hslots : y.slots = 0)
    (hreps : y.reps = false) (hend : y.atLoopEnd = false) :
    State.engEnd x e l (.plain y u) = u.spend e { y with loads := l, pc := nextPc y.pc } 1 := by
  have hnext := Engine.advance_straight (y := { y with loads := l }) hslots hreps hend
  simp only [State.engEnd, Done.plain, hloads, State.endLoads, List.foldl_nil, List.append_nil, Bool.false_eq_true, if_false, hnext]

/-- Settles O47: the word is spent as one cycle, and the end of a block move changes none of the fields named. -/
theorem straightLineAdvancesPc : Obligations.StraightLineAdvancesPc := by
  intro u x y e l hu hw hloads hslots hreps hend he hpc
  dsimp only
  rw [engEnd_straight e l hloads hslots hreps hend]
  have hregs := State.regs_swf hu
  obtain ⟨bu, bv, mv, hx⟩ := State.engine_spend hw e { y with loads := l, pc := nextPc y.pc } 1
  refine ⟨?_, ?_, ?_, ?_, ?_, ?_, ?_, State.engRun_spend hregs e _ 1, fun j hj => State.engine_spend_other e _ 1 hj⟩
  case refine_7 =>
    rw [State.fld_spend_pc hregs hw]
    exact Nat.mod_mod _ _
  all_goals
    rw [hx]
    rfl

/-! ### The rows of movement -/

theorem exec_nop (n : Fin 16) (s : State) : exec (.nop n) s = execNop n s := rfl
theorem exec_ldg (n : Fin 16) (r : IntReg) (b : Bank) (a : Nat) (s : State) : exec (.ldg n r b a) s = execLdg n r b a s := rfl
theorem exec_stg (n : Fin 16) (r : IntReg) (b : Bank) (a : Nat) (s : State) : exec (.stg n r b a) s = execStg n r b a s := rfl
theorem exec_ldi (n : Fin 16) (r : IntReg) (s : State) : exec (.ldi n r) s = execLdi n r s := rfl
theorem exec_movr (n : Fin 16) (dst src : EngReg) (s : State) : exec (.movr n dst src) s = execMovr n dst src s := rfl
theorem exec_xfer (n : Fin 16) (into : Bool) (b : Bank) (g p : Fin 8) (k : Nat) (s : State) :
    exec (.xfer n into b g p k) s = execXfer n into b g p k s := rfl
theorem exec_waitx (n : Fin 16) (s : State) : exec (.waitx n) s = execWaitx n s := rfl
theorem exec_xferComplete (n : Fin 16) (s : State) :
    exec (.xferComplete n) s = .next (if s.moveOver n.val then s.moveDone n.val else s) := rfl

/-- A row's step where its word stands at PC, by what it does to this word, engine and state. -/
theorem State.engStep_ready_at {s : State} {e op : Nat} {sel : Nat → Bool} (h : s.engReady e op sel = true)
    {f g : Nat → Engine → State → Done} (hfg : f (s.engine e).fetch (s.engMoves e).2.1 (s.engMoves e).2.2 =
      g (s.engine e).fetch (s.engMoves e).2.1 (s.engMoves e).2.2) : s.engStep e op sel f = s.engAfter e g := by
  rw [State.engStep_ready h, State.engAfter, hfg, State.engAfter]

/-- What XFER does to an engine and state, as its row gives it. -/
def xferDone (e : Nat) (into : Bool) (b : Bank) (g p : Fin 8) (k : Nat) (x : Engine) (s : State) : Done :=
  let a := x.g.getD g.val 0
  if k = 0 ∨ 4096 < k then .bad x s 2
  else if !s.clmAllowed e a (4 * k) then .bad x s 5
  else if (x.move.any (fun m => decide (m.due < 0))) then ⟨x, s, [], x.tleft, true, none⟩
  else
    let stall := (x.move.map x.stall).getD 0
    let s := if x.move.isSome then (s.putEngine e x).moveDone e else s
    let x := if x.move.isSome then s.engine e else x
    let m : Move := ⟨into, b, a / 4, x.p.getD p.val 0, k, (x.tleft : Int) - (1 + stall : Nat) - (12 + ceilDiv k 2 : Nat)⟩
    ⟨{ x with move := some m }, s, [], 1 + stall, false, none⟩

theorem execXfer_eq (n : Fin 16) (into : Bool) (b : Bank) (g p : Fin 8) (k : Nat) (s : State) :
    execXfer n into b g p k s = .next (s.engStep n.val opXfer anyWord (fun _ x u => xferDone n.val into b g p k x u)) := rfl

section
variable {e : Nat} {into : Bool} {b : Bank} {g p : Fin 8} {k : Nat} {x : Engine} {s : State} (h0 : 0 < k) (hk : k ≤ 4096)
  (ha : s.clmAllowed e (x.g.getD g.val 0) (4 * k) = true)
include h0 hk ha

/-- A first move starts at once. -/
theorem xferDone_first (hm : x.move = none) : xferDone e into b g p k x s =
    ⟨{ x with move := some ⟨into, b, x.g.getD g.val 0 / 4, x.p.getD p.val 0, k,
      (x.tleft : Int) - 1 - (12 + ceilDiv k 2 : Nat)⟩ }, s, [], 1, false, none⟩ := by
  have hn : ¬ (k = 0 ∨ 4096 < k) := by omega
  simp only [xferDone, if_neg hn, ha, hm, Bool.not_true, Bool.false_eq_true, if_false, Option.any_none, Option.map_none,
    Option.getD_none, Option.isSome_none]
  rfl

/-- A move that goes on beyond the tick holds the second to its end. -/
theorem xferDone_waits {j : Move} (hm : x.move = some j) (hj : j.due < 0) :
    xferDone e into b g p k x s = ⟨x, s, [], x.tleft, true, none⟩ := by
  have hn : ¬ (k = 0 ∨ 4096 < k) := by omega
  simp only [xferDone, if_neg hn, ha, hm, Bool.not_true, Bool.false_eq_true, if_false, Option.any_some, hj, decide_true, if_true]

/-- A second move starts as the first completes. -/
theorem xferDone_second {j : Move} (hm : x.move = some j) (hj : 0 ≤ j.due) : xferDone e into b g p k x s =
    (let v := (s.putEngine e x).moveDone e
     let y := v.engine e
     let wait := ((x.tleft : Int) - j.due).toNat
     ⟨{ y with move := some ⟨into, b, x.g.getD g.val 0 / 4, y.p.getD p.val 0, k,
       (y.tleft : Int) - (1 + wait : Nat) - (12 + ceilDiv k 2 : Nat)⟩ }, v, [], 1 + wait, false, none⟩) := by
  have hn : ¬ (k = 0 ∨ 4096 < k) := by omega
  simp only [xferDone, if_neg hn, ha, hm, Bool.not_true, Bool.false_eq_true, if_false, Option.any_some, not_lt.2 hj, decide_false,
    Option.map_some, Option.getD_some, Option.isSome_some, if_true]
  rfl

end

/-- The clause of XFER_COMPLETE. -/
theorem xferComplete_ends {s : State} (n : Fin 16) {k : Move} (hs : s.canonical = true)
    (hw : swf (fun _ => Engine.init) s.eng.engines = true) (hk : (s.engine n.val).move = some k)
    (hover : (s.engine n.val).tleft ≤ k.due ∨ 0 ≤ k.due ∧ ((s.engine n.val).ended = true ∨ s.engRun n.val ≠ .running)) :
    ∃ t, exec (.xferComplete n) s = .next t ∧ (t.engine n.val).move = none ∧
      t.fld (F.LE_IRQ_PEND n.val) = putBits (s.fld (F.LE_IRQ_PEND n.val)) 2 1 1 ∧ (k.into = true → t.eng.clm = s.eng.clm) ∧
      (k.into = false → (t.engine n.val).bu = (s.engine n.val).bu ∧ (t.engine n.val).bv = (s.engine n.val).bv) := by
  have hmove : s.moveOver n.val = true := by simpa [State.moveOver, hk] using hover
  obtain ⟨t, bu, bv, hdone, hregs, heng, hclm, hbank⟩ := State.moveDone_spec hk
  have hx : (s.moveDone n.val).engine n.val = { s.engine n.val with bu := bu, bv := bv, move := none } := by
    rw [hdone]
    exact State.engine_putEngine_same (heng ▸ hw) n.val _
  refine ⟨s.moveDone n.val, by rw [exec_xferComplete, if_pos hmove], by rw [hx], State.irq_moveDone (State.regs_swf hs) hk, ?_, ?_⟩
  · intro hi
    rw [hdone]
    exact hclm hi
  · intro hi
    rw [hx]
    exact hbank hi

/-- Settles O45: each row by the word at PC; XFER and WAITX by the move that is outstanding. -/
theorem engineMovementComplete : Obligations.EngineMovementComplete := by
  intro s n
  refine ⟨fun h => ?_, fun r b a h => ⟨?_, ?_⟩, fun r h => ?_, fun dst src h hw => ?_, fun dst src h hw => ?_,
    fun into b g p k h h0 hk ha hm => ?_, fun into b g p k j h h0 hk ha hm hj => ?_, fun into b g p k j h h0 hk ha hm hj => ?_,
    fun h hm => ?_, fun k h hm hk => ?_, fun k h hm hk => ?_, fun k hs hw hk hover => xferComplete_ends n hs hw hk hover⟩
  · rw [exec_nop, execNop, State.engStep_ready h]
  · rw [exec_ldg, execLdg, State.engStep_ready h]
  · rw [exec_stg, execStg, State.engStep_ready h]
  · rw [exec_ldi, execLdi, State.engStep_ready_eq h (fun w x u => by rw [bitsAt, pow_zero, Nat.div_one])]
  · rw [exec_movr, execMovr]
    exact congrArg Host.Outcome.next (State.engStep_ready_eq h (fun _ x u => by simp only [if_neg (not_lt.2 hw)]))
  · rw [exec_movr, execMovr]
    exact congrArg Host.Outcome.next (State.engStep_ready_eq h (fun _ x u => by simp only [if_pos hw]))
  · rw [exec_xfer, execXfer_eq]
    exact congrArg Host.Outcome.next (State.engStep_ready_at h (xferDone_first h0 hk ha hm))
  · rw [exec_xfer, execXfer_eq]
    exact congrArg Host.Outcome.next (State.engStep_ready_at h (xferDone_waits h0 hk ha hm hj))
  · rw [exec_xfer, execXfer_eq]
    exact congrArg Host.Outcome.next (State.engStep_ready_at h (xferDone_second h0 hk ha hm hj))
  · rw [exec_waitx, execWaitx]
    exact congrArg Host.Outcome.next (State.engStep_ready_at h (by simp only [hm]))
  · rw [exec_waitx, execWaitx]
    exact congrArg Host.Outcome.next (State.engStep_ready_at h (by simp only [hm, if_pos hk]))
  · rw [exec_waitx, execWaitx]
    exact congrArg Host.Outcome.next (State.engStep_ready_at h (by simp only [hm, if_neg (not_lt.2 hk), Engine.stall]))

end Sys2Proof.Machine
end

section
/-!
SUPPORT AND PROOFS. Signal engines: the rows of control flow and interrupts (R380, R382-R391), and the ENG commands with a spare's
takeover (R400, R401, R403, R404).
-/
namespace Sys2Proof.Machine

/-! ### The rows of control flow -/

theorem exec_br (n : Fin 16) (s : State) : exec (.br n) s = execBr n s := rfl
theorem exec_call (n : Fin 16) (s : State) : exec (.call n) s = execCall n s := rfl
theorem exec_ret (n : Fin 16) (s : State) : exec (.ret n) s = execRet n s := rfl
theorem exec_rti (n : Fin 16) (s : State) : exec (.rti n) s = execRti n s := rfl
theorem exec_loop (n : Fin 16) (s : State) : exec (.loop n) s = execLoop n s := rfl
theorem exec_leave (n : Fin 16) (s : State) : exec (.leave n) s = execLeave n s := rfl
theorem exec_rpt (n : Fin 16) (s : State) : exec (.rpt n) s = execRpt n s := rfl
theorem exec_tend (n : Fin 16) (s : State) : exec (.tend n) s = execTend n s := rfl
theorem exec_done (n : Fin 16) (s : State) : exec (.done n) s = execDone n s := rfl
theorem exec_swi (n : Fin 16) (s : State) : exec (.swi n) s = execSwi n s := rfl
theorem exec_ei (n : Fin 16) (s : State) : exec (.ei n) s = execEi n s := rfl
theorem exec_di (n : Fin 16) (s : State) : exec (.di n) s = execDi n s := rfl
theorem exec_halt (n : Fin 16) (s : State) : exec (.halt n) s = execHalt n s := rfl
theorem exec_interruptEntry (n : Fin 16) (s : State) : exec (.interruptEntry n) s = .next (s.interruptEntry n.val) := rfl

/-- What a ready row knows: the engine runs, has not ended its tick, and the word's opcode is the row's. -/
theorem engReady_facts {s : State} {e op : Nat} {sel : Nat → Bool} (h : s.engReady e op sel = true) :
    s.engRun e = .running ∧ (s.engine e).ended = false ∧ opcodeOf (s.engine e).fetch = op := by
  simp only [State.engReady, State.engActive, Bool.and_eq_true, Bool.not_eq_true', beq_iff_eq] at h
  obtain ⟨⟨⟨⟨⟨⟨⟨hrun, hended⟩, _⟩, _⟩, hop⟩, _⟩, _⟩, _⟩ := h
  exact ⟨hrun, hended, hop⟩

/-- Formats I and F have no parallel moves. -/
theorem engMoves_plain {s : State} {e op : Nat} {sel : Nat → Bool} (h : s.engReady e op sel = true) (hop : opFormatA op = false) :
    s.engMoves e = ([], s.engine e, s) := by
  obtain ⟨_, _, hcode⟩ := engReady_facts h
  simp only [State.engMoves, hcode, hop, Bool.false_eq_true, if_false]

/-- A row of format I or F, by what it does to the word, the engine and the state. -/
theorem State.engStep_plain {s : State} {e op : Nat} {sel : Nat → Bool} (h : s.engReady e op sel = true) (hop : opFormatA op = false)
    {f g : Nat → Engine → State → Done} (hfg : f (s.engine e).fetch (s.engine e) s = g (s.engine e).fetch (s.engine e) s) :
    s.engStep e op sel f = s.engAfter e g :=
  State.engStep_ready_at h (by rw [engMoves_plain h hop]; exact hfg)

/-- The target of a branch is an address already. -/
theorem branch_wordAddr (x : Engine) (taken : Bool) (w : Nat) : x.branch taken (wordAddr w) = { x with
    pc := (x.pc + 1) % 8192
    slots := 2
    pbr := if taken = true then 2 ^ 31 + 2 * 2 ^ 16 + w / 2 ^ 37 % 8192 else putBits x.pbr 31 1 0 } := by
  have hw : wordAddr w % 8192 = w / 2 ^ 37 % 8192 := Nat.mod_mod _ _
  rw [Engine.branch, hw, nextPc]

/-! ### TEND (R387) -/

theorem Engine.ended_putOperand (x : Engine) (r : Nat) (v : Int) : (x.putOperand r v).ended = x.ended := by
  rw [Engine.putOperand]
  split <;> rfl

theorem Engine.ended_putInt (x : Engine) (r : IntReg) (v : Nat) : (x.putInt r v).ended = x.ended := by
  cases r <;> rfl

/-- One old load that lands changes an operand, an integer register or a free value. -/
theorem State.endLoads_one (s : State) (old x : Engine) (l : LoadEff) : (s.endLoads old x [l]).2.regs = s.regs ∧
    (s.endLoads old x [l]).2.eng = s.eng ∧ (s.endLoads old x [l]).1.ended = x.ended := by
  cases l with
  | operand r v =>
    simp only [State.endLoads, List.foldl_cons, List.foldl_nil]
    generalize (if r < 2 then old.uAt r else old.vAt (r - 2)) = was
    generalize (if r < 2 then x.uAt r else x.vAt (r - 2)) = now
    split
    · exact ⟨rfl, rfl, x.ended_putOperand r v⟩
    · exact ⟨rfl, rfl, x.ended_putOperand r _⟩
  | delay v => exact ⟨rfl, rfl, rfl⟩
  | int r v =>
    simp only [State.endLoads, List.foldl_cons, List.foldl_nil]
    split
    · exact ⟨rfl, rfl, x.ended_putInt r v⟩
    · exact ⟨rfl, rfl, x.ended_putInt r _⟩

theorem State.endLoads_cons (s : State) (old x : Engine) (l : LoadEff) (r : List LoadEff) : s.endLoads old x (l :: r) =
    (s.endLoads old x [l]).2.endLoads old (s.endLoads old x [l]).1 r := rfl

theorem State.endLoads_spec (s : State) (old x : Engine) (ls : List LoadEff) : (s.endLoads old x ls).2.regs = s.regs ∧
    (s.endLoads old x ls).2.eng = s.eng ∧ (s.endLoads old x ls).1.ended = x.ended := by
  induction ls generalizing s x with
  | nil => exact ⟨rfl, rfl, rfl⟩
  | cons l r ih =>
    obtain ⟨hregs, heng, hended⟩ := s.endLoads_one old x l
    obtain ⟨hregs', heng', hended'⟩ := ih (s.endLoads old x [l]).2 (s.endLoads old x [l]).1
    rw [State.endLoads_cons]
    exact ⟨hregs'.trans hregs, heng'.trans heng, hended'.trans hended⟩

theorem Engine.ended_loopBack (x : Engine) (n : Nat) : (x.loopBack n).ended = x.ended := by
  induction n generalizing x with
  | zero => rfl
  | succ k ih =>
    rw [Engine.loopBack]
    split
    · rfl
    · split
      · rfl
      · exact ih _

/-- PC moves on within the tick. -/
theorem Engine.ended_advance (x : Engine) : x.advance.ended = x.ended := by
  delta Engine.advance
  extract_lets rep y left taken
  have hy : y.ended = x.ended := by
    simp only [y]
    split <;> rfl
  split
  · exact hy
  · split
    · split
      · split <;> exact hy
      · exact (Engine.ended_loopBack _ _).trans hy
    · exact (Engine.ended_loopBack _ _).trans hy

/-- A plain instruction that ends the tick's work leaves the engine with its tick ended, in the state it ran in. -/
theorem engEnd_ended {s : State} (hs : swf resetWord s.regs = true) (hw : swf (fun _ => Engine.init) s.eng.engines = true)
    (old x : Engine) (e : Nat) (l : List LoadEff) : ((State.engEnd old e l (.plain x s)).engine e).ended = x.ended ∧
      (State.engEnd old e l (.plain x s)).engRun e = s.engRun e := by
  obtain ⟨hregs, heng, hended⟩ := s.endLoads_spec old x old.loads
  have hspend : State.engEnd old e l (.plain x s) = (s.endLoads old x old.loads).2.spend e
      { (s.endLoads old x old.loads).1 with loads := l ++ [] }.advance 1 := rfl
  generalize (s.endLoads old x old.loads) = p at hregs heng hended hspend
  rw [hspend]
  obtain ⟨bu, bv, mv, hx⟩ := State.engine_spend (heng ▸ hw) e { p.1 with loads := l ++ [] }.advance 1
  refine ⟨?_, ?_⟩
  · rw [hx]
    exact (Engine.ended_advance _).trans hended
  · rw [State.engRun_spend (hregs ▸ hs), State.engRun, State.fld_of_regs hregs, State.engRun]

/-- The clause of TEND. -/
theorem tend_ends {s : State} (n : Fin 16) (h : s.engReady n.val opTend anyWord = true) (hs : s.canonical = true)
    (hw : swf (fun _ => Engine.init) s.eng.engines = true) :
    let e := n.val
    let t := State.engEnd (s.engine e) e [] (.plain { s.engine e with ended := true } s)
    let used := t.cpt - (t.engine e).tleft
    let u := t.setFld (F.LE_CYCLES_LAST e) used
    exec (.tend n) s = .next ((u.setFld (F.LE_CYCLES_PEAK e) (max (u.fld (F.LE_CYCLES_PEAK e)) used)).publish e) ∧
      (t.engine e).ended = true := by
  intro e t used u
  obtain ⟨hrun, hnot, _⟩ := engReady_facts h
  obtain ⟨hended, hrun'⟩ := engEnd_ended (State.regs_swf hs) hw (s.engine e) { s.engine e with ended := true } e []
  have hstep : s.engStep e opTend anyWord (fun _ x s => .plain { x with ended := true } s) = t := by
    rw [State.engStep_ready h, State.engAfter, engMoves_plain h rfl]
  refine ⟨?_, hended⟩
  rw [exec_tend, execTend]
  dsimp only
  rw [hstep, if_pos ⟨hended, by simp [hnot], hrun'.trans hrun⟩]

/-- Settles O46: each row by the word at PC, LOOP, LEAVE and RPT by their counts. -/
theorem engineControlComplete : Obligations.EngineControlComplete := by
  intro s n
  refine ⟨fun h => ?_, fun h => ?_, fun h => ?_, fun h => ?_, fun h => ⟨fun hk => ?_, fun hk hl => ?_, fun hk hl => ?_⟩,
    fun h => ⟨fun hl => ?_, fun hl => ?_⟩, fun h => ⟨fun hk => ?_, fun hk => ?_⟩, fun h hs hw => tend_ends n h hs hw,
    fun h => ?_, fun h => ?_, fun h => ?_, fun h => ?_, fun h => ?_, fun i hact hi hie hirq hcompat => ?_⟩
  · rw [exec_br, execBr]
    exact congrArg Host.Outcome.next (State.engStep_ready_eq h (fun w x u => by rw [branch_wordAddr]; rfl))
  · rw [exec_call, execCall]
    exact congrArg Host.Outcome.next (State.engStep_ready_eq h (fun w x u => by
      rw [Engine.branch, Engine.branch, show wordAddr w % 8192 = w / 2 ^ 37 % 8192 % 8192 from rfl]))
  · rw [exec_ret, execRet, State.engStep_ready h]
  · rw [exec_rti, execRti, State.engStep_ready h]
  · rw [exec_loop, execLoop]
    exact congrArg Host.Outcome.next (State.engStep_plain h rfl (by simp only [if_pos hk]))
  · rw [exec_loop, execLoop]
    exact congrArg Host.Outcome.next (State.engStep_plain h rfl (by simp only [if_neg hk.ne', if_neg (not_le.2 hl)]))
  · rw [exec_loop, execLoop]
    exact congrArg Host.Outcome.next (State.engStep_plain h rfl (by simp only [if_neg hk.ne', if_pos hl]))
  · rw [exec_leave, execLeave]
    exact congrArg Host.Outcome.next (State.engStep_plain h rfl (by simp only [if_neg hl]))
  · rw [exec_leave, execLeave]
    exact congrArg Host.Outcome.next (State.engStep_plain h rfl (by simp only [if_pos hl]))
  · rw [exec_rpt, execRpt]
    exact congrArg Host.Outcome.next (State.engStep_plain h rfl (by simp only [if_pos hk]))
  · rw [exec_rpt, execRpt]
    exact congrArg Host.Outcome.next (State.engStep_plain h rfl (by simp only [if_neg hk.ne']))
  · rw [exec_done, execDone, State.engStep_ready_eq h (fun w x u => by rw [bitsAt, pow_zero, Nat.div_one])]
  · rw [exec_swi, execSwi, State.engStep_ready h]
  · rw [exec_ei, execEi, State.engStep_ready h]
  · rw [exec_di, execDi, State.engStep_ready h]
  · rw [exec_halt, execHalt, State.engStep_ready h, State.engAfter, engMoves_plain h rfl]
    rfl
  · rw [exec_interruptEntry, State.interruptEntry]
    simp only [hi, hact, hie, hirq]
    rw [if_neg]
    simpa [and_assoc] using hcompat

end Sys2Proof.Machine
end

section
/-!
SUPPORT AND PROOFS. The ENG commands and a spare's takeover (R400, R401, R403, R404), and Clematis: its commands and its channels at work
(R407-R423).
-/
namespace Sys2Proof.Machine

/-! ### Engine commands -/

theorem exec_engLoadKernel (tag : Nat) (v : SigVerdict) (s : State) : exec (.engLoadKernel tag v) s = execEngLoadKernel tag v s := rfl
theorem exec_engStartKernel (tag : Nat) (s : State) : exec (.engStartKernel tag) s = execEngStartKernel tag s := rfl
theorem exec_engStop (tag : Nat) (s : State) : exec (.engStop tag) s = execEngStop tag s := rfl
theorem exec_engDoorbell (tag : Nat) (s : State) : exec (.engDoorbell tag) s = execEngDoorbell tag s := rfl
theorem exec_spareTakeover (e : Fin 16) (s : State) : exec (.spareTakeover e) s = .next (s.spareTakeover e.val).refreshReplace := rfl

/-- Settles O48: the commands by what they do to each engine, the takeover by the spare that is found. -/
theorem engineCommandsComplete : Obligations.EngineCommandsComplete := by
  refine ⟨fun s tag v c u o h ho hv => ?_, fun s tag c u h => ⟨fun hop _ => ?_, fun hop => ?_, fun hop => ?_⟩,
    fun s e b hret hspare hnone hb => ?_⟩
  · rw [exec_engLoadKernel, execEngLoadKernel, h.performStart rfl]
    simp only [ho, hv]
  · rw [exec_engStartKernel, execEngStartKernel, h.performStart (isOp_of_eq hop)]
    rfl
  · rw [exec_engStop, execEngStop, h.performStart (isOp_of_eq hop)]
    rfl
  · rw [exec_engDoorbell, execEngDoorbell, h.performStart (isOp_of_eq hop)]
    rfl
  · rw [exec_spareTakeover, State.spareTakeover, if_neg (by simp [hret, hspare, hnone])]
    simp only [hb]

/-! ### The registers of a channel (R408) -/

theorem State.fld_finishNow_other (s : State) (tag : Nat) (st : Status) (p : List Byte) {f : Fld} (huse : f.addr ≠ 0x90054)
    (hstat : f.addr ≠ 0x90004) : (s.finishNow tag st p).fld f = s.fld f := by
  simp only [State.finishNow, State.finish]
  split
  · split
    · exact State.fld_putPrivi_other s _ huse hstat
    · rfl
  · rfl

/-- The commands that end with a chain change no register of the channels. -/
theorem State.fld_endWaits_other (s : State) (n : Nat) (st : Status) {f : Fld} (huse : f.addr ≠ 0x90054) (hstat : f.addr ≠ 0x90004) :
    (s.endWaits n st).fld f = s.fld f := by
  rw [State.endWaits]
  refine List.foldlRecOn (motive := fun (t : State) => t.fld f = s.fld f) _ _ rfl (fun t ht w _ => ?_)
  rw [State.fld_finishNow_other t _ _ _ huse hstat, ht]

theorem State.fld_raise_other (s : State) (code value source sev : Nat) {f : Fld} (hf : f.addr ≠ F.TCK_ARB_DROP_COUNT.addr) :
    (s.raise code value source sev).fld f = s.fld f := by
  rw [State.fld, State.reg_raise_other _ _ _ _ _ hf, State.fld]

/-- The registers of the channels lie between those of Clematis and those of the command interface. -/
def Fld.ofChannel (f : Fld) : Prop := 0x80100 ≤ f.addr ∧ f.addr < 0x90000

/-- What a chain's end in ERROR leaves of a channel's register. -/
theorem State.fld_dmaError (s : State) (n r : Nat) {f : Fld} (hf : f.ofChannel) : (s.dmaError n r).fld f =
    (((s.setDmaSt n .error).setFld (F.DMA_CH_ERR_REASON n) r).setFld (F.DMA_CH_STATUS_REREAD n) 0).fld f := by
  obtain ⟨hlo, hhi⟩ := hf
  have hne {a : Nat} (ha : a < 0x80100 ∨ 0x90000 ≤ a) : f.addr ≠ a := by omega
  have hfree (t : State) : (if r = 2 ∨ r = 3 then t.raiseFree 0xC003 (srcDma n) sevError else t).fld f = t.fld f := by
    split
    · exact State.fld_raise_other _ _ _ _ _ (hne (.inl (by decide)))
    · rfl
  rw [State.dmaError, State.fld_endWaits_other _ _ _ (hne (.inr (by decide))) (hne (.inr (by decide))),
    State.fld_raise_other _ _ _ _ _ (hne (.inl (by decide))), hfree, State.setStop, State.setIrq,
    State.fld_irqEdges_other _ _ (hne (.inl (by decide))), State.fld_setFld_other _ _ _ _ (hne (.inl (by decide)))]
  rfl

theorem State.setDmaSt_canonical {s : State} (hs : s.canonical = true) (n : Nat) (x : DmaSt) : (s.setDmaSt n x).canonical = true :=
  State.setFld_canonical (State.setFld_canonical hs _ _) _ _

theorem State.dmaSt_setDmaSt {s : State} (hs : s.canonical = true) (n : Nat) (x : DmaSt) : (s.setDmaSt n x).dmaSt n = x := by
  have hfld : (s.setDmaSt n x).fld (F.DMA_CH_STATUS_STATE n) = x.code % 2 ^ 3 := by
    rw [State.setDmaSt, State.fld_setFld_other _ _ _ _ (by simp only [F.DMA_CH_STATUS_STATE, F.DMA_STATUS_ACTIVE]; omega)]
    exact State.fld_setFld_same (State.regs_swf hs) _ _ (by simp [F.DMA_CH_STATUS_STATE])
  rw [State.dmaSt, hfld]
  cases x <;> rfl

/-- The clause of an error: the state and the reason stand in the channel's registers, and no byte of host memory has changed. -/
theorem dmaError_stands {s : State} (hs : s.canonical = true) {n : Nat} (hn : n < 16) (r : Nat) : (s.dmaError n r).dmaSt n = .error ∧
    (s.dmaError n r).fld (F.DMA_CH_ERR_REASON n) = r % 2 ^ (F.DMA_CH_ERR_REASON n).width ∧ (s.dmaError n r).hostMem = s.hostMem := by
  have hcan := State.setDmaSt_canonical hs n .error
  have hst : (F.DMA_CH_STATUS_STATE n).ofChannel := by simp only [Fld.ofChannel, F.DMA_CH_STATUS_STATE]; omega
  have hreason : (F.DMA_CH_ERR_REASON n).ofChannel := by simp only [Fld.ofChannel, F.DMA_CH_ERR_REASON]; omega
  refine ⟨?_, ?_, (State.dmaError_keeps (Keeps.refl s)).host rfl⟩
  · rw [State.dmaSt, State.fld_dmaError s n r hst,
      State.fld_setFld_apart (State.setFld_swf (State.regs_swf hcan) _ _) _ (by simp [F.DMA_CH_STATUS_REREAD])
        (by simp [Fld.apart, F.DMA_CH_STATUS_STATE, F.DMA_CH_STATUS_REREAD]),
      State.fld_setFld_other _ _ _ _ (by simp [F.DMA_CH_STATUS_STATE, F.DMA_CH_ERR_REASON])]
    exact State.dmaSt_setDmaSt hs n .error
  · rw [State.fld_dmaError s n r hreason, State.fld_setFld_other _ _ _ _ (by simp [F.DMA_CH_STATUS_REREAD, F.DMA_CH_ERR_REASON])]
    exact State.fld_setFld_same (State.regs_swf hcan) _ _ (by simp [F.DMA_CH_ERR_REASON])

/-! ### Commands and channel writes (R408, R416, R421, R423) -/

theorem exec_dmaSubmit (tag : Nat) (s : State) : exec (.dmaSubmit tag) s = execDmaSubmit tag s := rfl
theorem exec_dmaSubmitWaitTimeout (tag : Nat) (s : State) : exec (.dmaSubmitWaitTimeout tag) s = execDmaSubmitWaitTimeout tag s := rfl
theorem exec_dmaChDoorbell (n : Fin 16) (s : State) : exec (.dmaChDoorbell n) s =
    .next (s.onReg (0x8010C + 0x40 * n.val) (fun s => s.hostDoorbell n.val)) := rfl
theorem exec_dmaChReset (n : Fin 16) (s : State) : exec (.dmaChReset n) s =
    .next (s.onReg (0x80100 + 0x40 * n.val) (fun s => s.hostChReset n.val)) := rfl

/-- A submit that is permitted starts its channel, and waits where its bit 0 asks for it. -/
theorem dmaSubmit_starts {s u : State} {tag : Nat} {c : Cmd} (h : Starts s 0x0E00 tag c u) (hctx : ctxDmaSubmit u c = none) :
    let n := leAt c.payload 0 1 % 16
    let v := if u.dmaSt n = .error then u.dmaReset n else u
    let w := (((((v.setFld (F.DMA_CH_CTRL_SHARE n) (leAt c.payload 2 1)).setFld (F.DMA_CH_MAXCHAIN_MAX n)
      (leAt c.payload 12 4)).setFld (F.DMA_CH_HEAD_LO_ADDR n) (leAt c.payload 4 6 / 32)).setFld (F.DMA_CH_HEAD_HI_ADDR n)
      (leAt c.payload 4 6 / 2 ^ 32)).dmaStart n (decide (v.dmaSt n = .idle)))
    exec (.dmaSubmit tag) s = .next (if bitAt (leAt c.payload 1 1) 0 then
      { w with dma := { w.dma with waits := w.dma.waits ++ [(n, c.tag, w.elapsed)] } } else w.finishNow c.tag .ok []) := by
  rw [exec_dmaSubmit, execDmaSubmit, h.performStart rfl]
  simp only [hctx]

/-- The least bit of a byte. -/
theorem bitAt_zero (v : Nat) : bitAt v 0 = (v % 2 == 1) := by rw [bitAt, pow_zero, Nat.div_one]

/-- A channel in ERROR with its reason cleared, or the channel as it stands. -/
def State.reasonCleared (s : State) (n : Nat) : State := if s.dmaSt n = .error then s.setFld (F.DMA_CH_ERR_REASON n) 0 else s

theorem State.reasonCleared_canonical {s : State} (hs : s.canonical = true) (n : Nat) : (s.reasonCleared n).canonical = true := by
  rw [State.reasonCleared]
  split
  · exact State.setFld_canonical hs _ _
  · exact hs

/-- The registers that RESET leaves. -/
theorem State.fld_dmaReset (s : State) (n : Nat) (f : Fld) : (s.dmaReset n).fld f =
    ((((s.reasonCleared n).setDmaSt n .idle).setFld (F.DMA_CH_STATUS_REREAD n) 0).setFld (F.DMA_CH_STATUS_PAUSED n) 0).fld f :=
  State.fld_of_regs (by rw [State.dmaReset, State.reasonCleared]; rfl) f

/-- A write to a doorbell of a channel that the device does not hold rings it. -/
theorem State.hostDoorbell_free {s : State} {n : Nat} (h : s.dmaHeld n = false) : s.hostDoorbell n = s.dmaDoorbell n := by
  rw [State.hostDoorbell, h]
  rfl

/-- The clause of a channel's RESET. -/
theorem dmaReset_idles {s : State} (hs : s.canonical = true) (n : Fin 16) : (s.dmaReset n.val).dmaSt n.val = .idle ∧
    (s.dmaReset n.val).fld (F.DMA_CH_STATUS_REREAD n.val) = 0 ∧ (s.dmaReset n.val).fld (F.DMA_CH_STATUS_PAUSED n.val) = 0 ∧
    (s.dmaSt n.val = .error → (s.dmaReset n.val).fld (F.DMA_CH_ERR_REASON n.val) = 0) ∧
    bitAt ((s.dmaReset n.val).fld F.DMA_STATUS_ACTIVE) n.val = false ∧ (s.dmaReset n.val).hostMem = s.hostMem := by
  have hclear := State.reasonCleared_canonical hs n.val
  have hidle := State.regs_swf (State.setDmaSt_canonical hclear n.val .idle)
  have hreread := State.setFld_swf hidle (F.DMA_CH_STATUS_REREAD n.val) 0
  have hactive : F.DMA_STATUS_ACTIVE.addr ≠ 0x80110 + 0x40 * n.val := by
    simp only [F.DMA_STATUS_ACTIVE]
    omega
  refine ⟨?_, ?_, ?_, fun herr => ?_, ?_, (State.dmaReset_keeps (Keeps.refl s)).host rfl⟩
  · rw [State.dmaSt, State.fld_dmaReset,
      State.fld_setFld_apart hreread _ (by simp [F.DMA_CH_STATUS_PAUSED])
        (by simp [Fld.apart, F.DMA_CH_STATUS_STATE, F.DMA_CH_STATUS_PAUSED]),
      State.fld_setFld_apart hidle _ (by simp [F.DMA_CH_STATUS_REREAD])
        (by simp [Fld.apart, F.DMA_CH_STATUS_STATE, F.DMA_CH_STATUS_REREAD])]
    exact State.dmaSt_setDmaSt hclear n.val .idle
  · rw [State.fld_dmaReset, State.fld_setFld_apart hreread _ (by simp [F.DMA_CH_STATUS_PAUSED])
      (by simp [Fld.apart, F.DMA_CH_STATUS_REREAD, F.DMA_CH_STATUS_PAUSED])]
    exact State.fld_setFld_same hidle _ _ (by simp [F.DMA_CH_STATUS_REREAD])
  · exact State.fld_setFld_same hreread _ _ (by simp [F.DMA_CH_STATUS_PAUSED])
  · rw [State.fld_dmaReset, State.fld_setFld_other _ _ _ _ (by simp [F.DMA_CH_ERR_REASON, F.DMA_CH_STATUS_PAUSED]),
      State.fld_setFld_other _ _ _ _ (by simp [F.DMA_CH_ERR_REASON, F.DMA_CH_STATUS_REREAD]), State.setDmaSt,
      State.fld_setFld_other _ _ _ _ (by simp only [F.DMA_CH_ERR_REASON, F.DMA_STATUS_ACTIVE]; omega),
      State.fld_setFld_other _ _ _ _ (by simp [F.DMA_CH_ERR_REASON, F.DMA_CH_STATUS_STATE]), State.reasonCleared, if_pos herr]
    exact State.fld_setFld_same (State.regs_swf hs) _ _ (by simp [F.DMA_CH_ERR_REASON])
  · rw [State.fld_dmaReset, State.fld_setFld_other _ (F.DMA_CH_STATUS_PAUSED n.val) _ _ hactive,
      State.fld_setFld_other _ (F.DMA_CH_STATUS_REREAD n.val) _ _ hactive, State.setDmaSt,
      State.fld_setFld_same (State.setFld_swf (State.regs_swf hclear) _ _) _ _ (by decide)]
    exact bitAt_putBits_mod _ 0 n.isLt

/-- Settles O49: a submit by what `ctxDmaSubmit` lets through, a doorbell by the channel's state. -/
theorem dmaCommandsComplete : Obligations.DmaCommandsComplete := by
  refine ⟨fun s tag c u h hctx => ⟨fun hw => ?_, fun hw => ?_⟩, fun s tag w hw ht => ?_,
    fun s n hreach hheld => ⟨fun hst => ?_, fun hst => ?_, fun hst hf => ?_, fun hst hf => ?_⟩, fun s n hreach hheld hs => ?_⟩
  · rw [dmaSubmit_starts h hctx, bitAt_zero, hw]
    rfl
  · rw [dmaSubmit_starts h hctx, bitAt_zero, hw]
    rfl
  · rw [exec_dmaSubmitWaitTimeout, execDmaSubmitWaitTimeout]
    simp only [hw, if_pos ht]
    exact rfl
  · rw [exec_dmaChDoorbell, State.onReg_reaches hreach, State.hostDoorbell_free hheld, State.dmaDoorbell, hst]
  · rw [exec_dmaChDoorbell, State.onReg_reaches hreach, State.hostDoorbell_free hheld, State.dmaDoorbell]
    rcases hst with hst | hst <;> rw [hst]
  · rw [exec_dmaChDoorbell, State.onReg_reaches hreach, State.hostDoorbell_free hheld, State.dmaDoorbell, hst, hf]
    rfl
  · rw [exec_dmaChDoorbell, State.onReg_reaches hreach, State.hostDoorbell_free hheld, State.dmaDoorbell, hst]
    exact congrArg Host.Outcome.next (if_neg (by simpa using hf))
  · refine ⟨s.dmaReset n.val, ?_, dmaReset_idles hs n⟩
    rw [exec_dmaChReset, State.onReg_reaches hreach, State.hostChReset, hheld]
    rfl

/-! ### A channel at work (R407, R410-R421) -/

theorem exec_dmaBurstGrant (write : Bool) (cy : Nat) (host : List Byte) (e : RegEnv) (s : State) :
    exec (.dmaBurstGrant write cy host e) s = .next (s.grantBurst (fun s a => ((s.readWord a).1, (s.readWord a).2.2))
      (fun s a v => s.writeWord a v e) write cy host) := rfl
theorem exec_dmaDescriptorRead (n : Fin 16) (d : List Byte) (s : State) :
    exec (.dmaDescriptorRead n d) s = .next (s.descRead n.val d) := rfl
theorem exec_dmaDescriptorComplete (n : Fin 16) (e : RegEnv) (s : State) :
    exec (.dmaDescriptorComplete n e) s = .next (s.descComplete (fun s a v => s.writeWord a v e) n.val) := rfl
theorem exec_dmaBusTimeout (n : Fin 16) (s : State) : exec (.dmaBusTimeout n) s = .next (s.busTimeout n.val) := rfl
theorem exec_dmaRetry (n : Fin 16) (s : State) : exec (.dmaRetry n) s = execDmaRetry n s := rfl
theorem exec_dmaBusError (n : Fin 16) (s : State) : exec (.dmaBusError n) s = execDmaBusError n s := rfl

/-- A free bus serves the channel next in turn: its write side, and its read side. -/
theorem State.grantBurst_write {s : State} {cy n : Nat} (hfree : s.dma.freeWr ≤ s.cycleNow cy)
    (hn : Machine.nextGrant s.dma.lastWr (s.writeReady (s.cycleNow cy)) = some n) (rd : State → Nat → Nat × State)
    (wr : State → Nat → Nat → State) (host : List Byte) : s.grantBurst rd wr true cy host =
      ({ s with dma := { s.dma with freeWr := s.cycleNow cy + (s.dmaChan n).beats true } } : State).writeAccess wr n (s.cycleNow cy) := by
  simp only [State.grantBurst, if_true, if_neg (not_lt.2 hfree), hn]

theorem State.grantBurst_read {s : State} {cy n : Nat} (hfree : s.dma.freeRd ≤ s.cycleNow cy)
    (hn : Machine.nextGrant s.dma.lastRd (s.readReady (s.cycleNow cy)) = some n) (rd : State → Nat → Nat × State)
    (wr : State → Nat → Nat → State) (host : List Byte) : s.grantBurst rd wr false cy host =
      ({ s with dma := { s.dma with freeRd := s.cycleNow cy + (s.dmaChan n).beats false } } : State).readAccess rd n (s.cycleNow cy)
        host := by
  simp only [State.grantBurst, Bool.false_eq_true, if_false, if_neg (not_lt.2 hfree), hn]

/-- A descriptor read that brings its 32 bytes brings no more. -/
theorem take_padded {d : List Byte} (hd : d.length = 32) : (d ++ List.replicate 32 0).take 32 = d :=
  List.take_left' hd

/-- A live channel is in RUN. -/
theorem State.dmaSt_of_live {s : State} {n : Nat} (h : s.dmaLive n = true) : s.dmaSt n = .run := by
  simp only [State.dmaLive, Bool.and_eq_true, decide_eq_true_eq] at h
  exact h.1

/-- The clause of a descriptor read on a live channel. -/
theorem descRead_live {s : State} {n : Nat} {d : List Byte} (h : s.dmaLive n = true) (hd : d.length = 32) :
    ((s.dmaChan n).fetch = .whole → s.descRead n d = (s.setFld (F.DMA_CH_ERR_RETRIES n) 0).takeDesc n d) ∧
    ((s.dmaChan n).fetch = .none → (s.dmaChan n).preWait = true → s.descRead n d =
      (s.setFld (F.DMA_CH_ERR_RETRIES n) 0).putDmaChan n { s.dmaChan n with preWait := false, pre := d }) ∧
    ((s.dmaChan n).fetch = .ctrl →
      let v := (s.setFld (F.DMA_CH_ERR_RETRIES n) 0).putDmaChan n { s.dmaChan n with fetch := .none }
      s.descRead n d = if descEoc d = true ∧ s.flag (F.DMA_CH_STATUS_REREAD n) = true then v.reread n
        else if descEoc d = true then v.dmaEnd n else v.dmaContinue n) := by
  have hst : s.dmaSt n ≠ .ended := by rw [State.dmaSt_of_live h]; decide
  refine ⟨fun hf => ?_, fun hf hw => ?_, fun hf => ?_⟩
  · simp only [State.descRead, take_padded hd, hf, h, if_true]
  · simp only [State.descRead, take_padded hd, hf, h, hw, Bool.and_self, if_true]
  · simp only [State.descRead, take_padded hd, hf, h, if_neg hst, if_true, Bool.and_eq_true]

/-- The clause of a descriptor read on a channel that has ended and has its CTRL word read again. -/
theorem descRead_ended {s : State} {n : Nat} {d : List Byte} (h : s.dmaSt n = .ended) (hf : (s.dmaChan n).fetch = .ctrl)
    (hd : d.length = 32) :
    let v := (s.setFld (F.DMA_CH_ERR_RETRIES n) 0).putDmaChan n { s.dmaChan n with fetch := .none }
    s.descRead n d = if descEoc d = true then (if s.flag (F.DMA_CH_STATUS_REREAD n) = true then v.reread n else v)
      else ((v.setDmaSt n .run).dozePause n).dmaContinue n := by
  simp only [State.descRead, take_padded hd, hf, h, if_true]
  cases descEoc d <;> simp

/-- The clause of a descriptor that is judged (R410, R414, R416, R418). -/
theorem takeDesc_judged (s : State) (n : Nat) (d : List Byte) :
    (descEoc d = false → descNext d = s.dmaCur n → s.takeDesc n d = s.dmaError n 2) ∧
    ((descEoc d = true ∨ descNext d ≠ s.dmaCur n) → descOk d = false → s.takeDesc n d = s.dmaError n 5) ∧
    ((descEoc d = true ∨ descNext d ≠ s.dmaCur n) → descOk d = true →
      (s.spaceReady (descSrcSpace d) = true ∧ s.spaceReady (descDstSpace d) = true) →
      s.takeDesc n d = s.putDmaChan n { s.dmaChan n with
        desc := d
        fetch := .none
        preWait := !descEoc d
        pre := []
        buf := []
        got := 0
        crc := if descCrcCont d then (s.dmaChan n).crc else 2 ^ 32 - 1
        crcDone := false
        backDone := false }) := by
  have hgoes (h : descEoc d = true ∨ descNext d ≠ s.dmaCur n) : ¬ (!descEoc d && descNext d == s.dmaCur n) = true := by
    rcases h with h | h <;> simp [h]
  refine ⟨fun he hn => ?_, fun h hok => ?_, fun h hok hsp => ?_⟩
  · rw [State.takeDesc, if_pos (by simp [he, hn])]
  · rw [State.takeDesc, if_neg (hgoes h), if_pos (by simp [hok])]
  · obtain ⟨hsrc, hdst⟩ := hsp
    rw [State.takeDesc, if_neg (hgoes h), if_neg (by simp [hok]), if_neg (by simp [hsrc, hdst])]

/-- How a completed descriptor ends, its CRC written: the read-back, the counts, DONEn, and what EOC and REREAD say. -/
def State.descFinish (s : State) (n : Nat) (d : List Byte) : State :=
  let a := if (s.dmaChan n).backDue then s.readLast n else s
  let b := ((a.addFld (F.DMA_CH_DESC_COUNT_COUNT n) 1).setFld (F.DMA_CH_LAST_TAG_TAG n) (descTag d)).setFld (F.DMA_CH_ERR_RETRIES n) 0
  let z := if descIrq d then b.setIrq F.DMA_IRQ_STAT_DONE (putBits (b.fld F.DMA_IRQ_STAT_DONE) n 1 1) else b
  if z.flag (F.DMA_CH_STATUS_REREAD n) then z.reread n else if descEoc d then z.dmaEnd n else z.dmaContinue n

/-- A descriptor whose bytes are all written completes on a live channel. -/
theorem State.descComplete_written {s : State} {n : Nat} (h : s.dmaLive n = true) (hf : (s.dmaChan n).fetch = .none)
    (hdesc : (s.dmaChan n).desc ≠ []) (hbuf : (s.dmaChan n).buf = []) (hgot : descLen (s.dmaChan n).desc ≤ (s.dmaChan n).got)
    (wr : State → Nat → Nat → State) :
    let c := s.dmaChan n
    let v := 2 ^ 32 - 1 - c.crc % 2 ^ 32
    s.descComplete wr n = State.descFinish (if descCrcStore c.desc ∧ c.crcDone = false then
      ((s.putDmaChan n { c with crcDone := true }).spaceWrite wr (descDstSpace c.desc) (descCrcAddr c.desc) (leBytes 4 v)).setFld
        (F.DMA_CH_CRC_VALUE n) v else s) n c.desc := by
  intro c v
  have hwritten : c.written = true := by simp [c, DmaChan.written, hdesc, hbuf, hgot]
  have hdue : (descCrcStore c.desc ∧ c.crcDone = false) ↔ c.crcDue = true := by simp [DmaChan.crcDue, hwritten]
  have hgo : ¬ (!s.dmaLive n || c.fetch != .none || !c.written) = true := by simp [h, c, hf, hwritten]
  rw [if_congr hdue rfl rfl]
  exact if_neg hgo

/-- A time-out on a live channel. -/
theorem State.busTimeout_live {s : State} {n : Nat} (h : s.dmaLive n = true) :
    let u := (s.addFld (F.DMA_CH_TIMEOUTS_COUNT n) 1).raiseFree 0xC001 (srcDma n) sevWarning
    let r := u.fld (F.DMA_CH_ERR_RETRIES n)
    s.busTimeout n = if r < 2 then (u.putDmaChan n { u.dmaChan n with backOff := u.backOffTicks (r + 1) }).setDmaSt n .retry
      else u.dmaError n 4 :=
  if_pos (by rw [h, Bool.true_or])

/-- Settles O50: a grant by the side's turn, a read and a completion by what the channel waits for, a time-out by its retries. -/
theorem dmaEventsComplete : Obligations.DmaEventsComplete := by
  refine ⟨fun s cy host e n => ⟨fun hb => ?_, fun hf hn => ⟨fun hc => ?_, fun hc => ?_⟩, fun hb => ?_, fun hf hn =>
      ⟨fun hc => ?_, fun hc => ?_⟩⟩,
    fun s n d h hd => ?_, fun s n d h hf hd => ?_, takeDesc_judged, fun s n e h hf hdesc hbuf hgot => ?_,
    fun s n h => ⟨fun hr => ?_, fun hr => ?_, ?_⟩, fun s n hst hp hb => ?_, fun s n r hs hn => dmaError_stands hs hn r⟩
  · rw [exec_dmaBurstGrant, State.grantBurst, if_pos rfl]
    exact congrArg Host.Outcome.next (if_pos hb)
  · rw [exec_dmaBurstGrant, State.grantBurst_write hf hn, State.writeAccess]
    exact congrArg Host.Outcome.next (if_neg (Bool.eq_false_iff.1 hc))
  · rw [exec_dmaBurstGrant, State.grantBurst_write hf hn, State.writeAccess]
    exact congrArg Host.Outcome.next (if_pos hc)
  · rw [exec_dmaBurstGrant, State.grantBurst, if_neg Bool.false_ne_true]
    exact congrArg Host.Outcome.next (if_pos hb)
  · rw [exec_dmaBurstGrant, State.grantBurst_read hf hn, State.readAccess]
    exact congrArg Host.Outcome.next (if_neg (Bool.eq_false_iff.1 hc))
  · rw [exec_dmaBurstGrant, State.grantBurst_read hf hn, State.readAccess]
    exact congrArg Host.Outcome.next (if_pos hc)
  · obtain ⟨hwhole, hnone, hctrl⟩ := descRead_live h hd
    rw [exec_dmaDescriptorRead]
    exact ⟨fun hf => congrArg _ (hwhole hf), fun hf hw => congrArg _ (hnone hf hw), fun hf => congrArg _ (hctrl hf)⟩
  · rw [exec_dmaDescriptorRead, descRead_ended h hf hd]
  · rw [exec_dmaDescriptorComplete, State.descComplete_written h hf hdesc hbuf hgot]
    refine ⟨fun hz he => ?_, fun hz he => ?_, fun hz => ?_⟩ <;> refine congrArg Host.Outcome.next ?_
    · exact (if_neg (Bool.eq_false_iff.1 hz)).trans (if_pos he)
    · exact (if_neg (Bool.eq_false_iff.1 hz)).trans (if_neg (Bool.eq_false_iff.1 he))
    · exact if_pos hz
  · rw [exec_dmaBusTimeout, State.busTimeout_live h]
    exact congrArg Host.Outcome.next (if_pos hr)
  · rw [exec_dmaBusTimeout, State.busTimeout_live h]
    exact congrArg Host.Outcome.next (if_neg (not_lt.2 hr))
  · rw [exec_dmaBusError, execDmaBusError, if_pos (by rw [h, Bool.true_or])]
  · rw [exec_dmaRetry, execDmaRetry, if_pos ⟨hst, hp, hb⟩]

end Sys2Proof.Machine
end

section
/-!
SUPPORT AND PROOFS. Clocks: a field that an operation leaves as it was, the clock and gate commands (R433-R450), the loops and the safe
state (Tables 15-3 and 15-7).
-/
namespace Sys2Proof.Machine

/-! ### A field that reads as before -/

/-- The field reads in `t` as in `s`, whose canonical registers `t` has. -/
def SameField (f : Fld) (s t : State) : Prop :=
  swf resetWord s.regs = true → swf resetWord t.regs = true ∧ t.fld f = s.fld f

namespace SameField
variable {f g : Fld} {s t u : State}

theorem refl (f : Fld) (s : State) : SameField f s s := fun hs => ⟨hs, rfl⟩

theorem trans (h : SameField f s t) (h' : SameField f t u) : SameField f s u := fun hs =>
  ⟨(h' (h hs).1).1, ((h' (h hs).1).2).trans (h hs).2⟩

theorem foldl {α : Type} {step : State → α → State} (h : ∀ t x, SameField f t (step t x)) (l : List α) (s : State) :
    SameField f s (l.foldl step s) :=
  List.foldlRecOn (motive := SameField f s) l step (refl f s) (fun t ht x _ => ht.trans (h t x))

theorem ite {c : Prop} [Decidable c] (ht : SameField f s t) (hu : SameField f s u) : SameField f s (if c then t else u) := by
  split
  · exact ht
  · exact hu

theorem of_regs (h : t.regs = s.regs) : SameField f s t := fun hs => ⟨by rwa [h], State.fld_of_regs h f⟩

/-- A change of a state that leaves the registers goes on from where they stand. -/
theorem withRegs (h : SameField f s t) (hr : u.regs = t.regs) : SameField f s u := h.trans (of_regs hr)

theorem setFld (hg : g.lo + g.width ≤ 32) (hfg : f.apart g = true) (s : State) (v : Nat) : SameField f s (s.setFld g v) := fun hs =>
  ⟨State.setFld_swf hs g v, State.fld_setFld_apart hs v hg hfg⟩

theorem addFld (hg : g.lo + g.width ≤ 32) (hfg : f.apart g = true) (s : State) (n : Nat) : SameField f s (s.addFld g n) :=
  setFld hg hfg s _

theorem raise (hf : f.addr ≠ F.TCK_ARB_DROP_COUNT.addr) (s : State) (code value source sev : Nat) :
    SameField f s (s.raise code value source sev) := by
  have hfg : f.apart F.TCK_ARB_DROP_COUNT = true := (Fld.apart_iff _ _).2 (.inl hf)
  unfold State.raise State.raiseEv
  extract_lets ev u t
  exact ite (of_regs rfl) ((of_regs rfl : SameField f s u).trans (addFld (by decide) hfg u 1))

theorem raiseFree (hf : f.addr ≠ F.TCK_ARB_DROP_COUNT.addr) (s : State) (code source sev : Nat) :
    SameField f s (s.raiseFree code source sev) :=
  (of_regs rfl : SameField f s (s.fresh 32).2).trans (raise hf _ _ _ _ _)

/-- A field of a register that is not the target's. -/
theorem setFld_other (hg : g.lo + g.width ≤ 32) (h : f.addr ≠ g.addr) (s : State) (v : Nat) : SameField f s (s.setFld g v) :=
  setFld hg ((Fld.apart_iff _ _).2 (.inl h)) s v

theorem putPrivi (huse : f.addr ≠ 0x90054) (hstat : f.addr ≠ 0x90004) (s : State) (p : PriviState) : SameField f s (s.putPrivi p) :=
  fun hs => ⟨State.setFld_swf (State.setFld_swf (State.setFld_swf hs _ _) _ _) _ _, State.fld_putPrivi_other s p huse hstat⟩

theorem finish (huse : f.addr ≠ 0x90054) (hstat : f.addr ≠ 0x90004) (s : State) (tag : Nat) (o : Outcome) :
    SameField f s (s.finish tag o) := by
  unfold State.finish
  split
  · exact ite (putPrivi huse hstat s _) (refl f s)
  · exact refl f s

end SameField

/-! ### Clock and gate commands -/

theorem exec_clkSetBandTable (tag : Nat) (s : State) : exec (.clkSetBandTable tag) s = execClkSetBandTable tag s := rfl
theorem exec_clkRelock (tag : Nat) (s : State) : exec (.clkRelock tag) s = execClkRelock tag s := rfl
theorem exec_clkUpdateDividers (tag : Nat) (s : State) : exec (.clkUpdateDividers tag) s = execClkUpdateDividers tag s := rfl
theorem exec_pwrSetOp (tag : Nat) (s : State) : exec (.pwrSetOp tag) s = execPwrSetOp tag s := rfl
theorem exec_opRampComplete (s : State) : exec .opRampComplete s = .next s.endRamp.powerPoll := rfl
theorem exec_pwrGateClose (tag : Nat) (busy : List Nat) (s : State) :
    exec (.pwrGateClose tag busy) s = execPwrGateClose tag busy s := rfl
theorem exec_pwrGateRelease (tag : Nat) (s : State) : exec (.pwrGateRelease tag) s = execPwrGateRelease tag s := rfl
theorem exec_clkSyncArm (s : State) : exec .clkSyncArm s = .next (s.onReg 0x2000C State.armSync) := rfl
theorem exec_clkSyncCancel (s : State) :
    exec .clkSyncCancel s = .next (s.onReg 0x2000C (fun s => s.clockRow State.cancelSync)) := rfl

/-- A band table with a loop's entries replaced by the words of a payload. -/
def bandsLoaded (c : Cmd) (bands : List (Nat × Nat)) : List (Nat × Nat) :=
  (List.range 64).foldl (fun m b => sput factoryBandOf m (64 * leAt c.payload 1 1 + b) (leAt c.payload (4 + 4 * b) 4)) bands

theorem clkSetBandTable_loads {s u : State} {tag : Nat} {c : Cmd} (h : Starts s 0x0300 tag c u) (hop : c.op = 0) :
    exec (.clkSetBandTable tag) s =
      .next (({ u with clk := { u.clk with bands := bandsLoaded c u.clk.bands } } : State).finishNow c.tag .ok []) := by
  rw [exec_clkSetBandTable, execClkSetBandTable, h.performStart (isOp_of_eq hop)]
  rfl

/-- What CLK_UPDATE_DIVIDERS changes. -/
def dividerChanges (c : Cmd) : List Change :=
  (if bitAt (leAt c.payload 0 1) 0 then [Change.reg 0x20020 0x801FFFFF
      (leAt c.payload 2 2 + 2 ^ 16 * (leAt c.payload 1 1 % 32) + 2 ^ 31 * (leAt c.payload 1 1 / 128))] else []) ++
    (if bitAt (leAt c.payload 0 1) 1 then [Change.reg 0x20024 0x800003FF (leAt c.payload 4 2 + 2 ^ 31 * leAt c.payload 6 1)] else [])

/-- The commit that it arms. -/
def dividerCommit (u : State) (c : Cmd) : Commit :=
  ⟨u.commitTick c.actTick, c.seq, .command, [.outputDividers], dividerChanges c, [],
    [(c.tag, ⟨.ok, false, [], u.commitTick c.actTick⟩)], []⟩

theorem clkUpdateDividers_arms {s u : State} {tag : Nat} {c : Cmd} (h : Commits s 0x0301 tag c u) :
    exec (.clkUpdateDividers tag) s = .next (u.armCommit (dividerCommit u c)) := by
  rw [exec_clkUpdateDividers, execClkUpdateDividers, h.performCommit rfl]
  rfl

/-- A close that leaves no named node open pins them all, and counts nothing. -/
theorem State.closeNodes_all {s : State} {ns busy : List Nat} (h : s.gateStuck ns busy = []) :
    (s.closeNodes ns busy).regs = (s.pinNodes ns true).regs := by
  have hall : ns.filter (fun n => !([] : List Nat).contains n) = ns := by simp
  rw [State.closeNodes, h, hall]
  rfl

/-- After a close the nodes left open are those of its own that stay open, and others that it does not name. -/
theorem State.stuck_closeNodes (s : State) (ns busy : List Nat) :
    (s.closeNodes ns busy).clk.stuck.filter ns.contains = s.gateStuck ns busy := by
  have hown : (s.gateStuck ns busy).filter ns.contains = s.gateStuck ns busy :=
    List.filter_eq_self.2 (fun n hn => by simpa using (List.mem_filter.1 hn).1)
  have hstuck (l : List Nat) : (l.filter (fun n => !ns.contains n) ++ s.gateStuck ns busy).filter ns.contains = s.gateStuck ns busy := by
    rw [List.filter_append, hown, List.filter_filter]
    simp
  rw [State.closeNodes]
  dsimp only
  split
  · exact hstuck _
  · exact hstuck _

/-- The clause of a close that leaves nodes open: its command ends with GATE_BUSY and their mask. -/
theorem commitResults_stuck {s : State} {ns busy : List Nat} {k : Commit} (hk : k.changes = [.gateClose ns busy])
    (h : s.gateStuck ns busy ≠ []) : (s.closeNodes ns busy).commitResults k =
      k.results.map (fun r => (r.1, { r.2 with status := .gateBusy, payload := leBytes 24 (listMask 192 (s.gateStuck ns busy)) })) := by
  have hretires : [Change.gateClose ns busy].any Change.retires = false := rfl
  have hsome : ¬ (s.gateStuck ns busy).isEmpty = true := by simpa using h
  simp only [State.commitResults, hk, hretires, List.flatMap_cons, List.flatMap_nil, List.append_nil, State.stuck_closeNodes,
    Bool.false_eq_true, if_false, Bool.not_eq_true', Bool.eq_false_iff.2 hsome, if_true]

/-- Settles O51: the commands by what they do once they pass, a close by the nodes that it leaves open. -/
theorem clockCommandsComplete : Obligations.ClockCommandsComplete := by
  refine ⟨fun s tag c u h => ⟨fun hop => ?_, fun hop => ?_⟩, fun s tag c u h => ?_, fun s tag c u h => ⟨fun hop => ?_, fun hop => ?_⟩,
    fun s o ho ha ht => ?_, fun s tag c u h => ⟨fun busy hop => ?_, fun hop => ?_⟩, fun s ns busy k hk => ⟨fun hs => ?_, fun hs => ?_⟩,
    fun s hreach => ⟨fun h => ?_, fun hrun hsafe => ?_, ?_⟩⟩
  · exact ⟨{ u with clk := { u.clk with bands := bandsLoaded c u.clk.bands } }, clkSetBandTable_loads h hop, rfl, by simp only [bandsLoaded]⟩
  · rw [exec_clkRelock, execClkRelock, h.performStart (isOp_of_eq hop)]
    rfl
  · exact ⟨_, dividerCommit u c, clkUpdateDividers_arms h, armCommit_armed _ _, rfl, rfl, sameStores_armCommit _ _, rfl⟩
  · rw [exec_pwrSetOp, execPwrSetOp, h.performCommit rfl]
    exact congrArg Host.Outcome.next (if_pos hop)
  · rw [exec_pwrSetOp, execPwrSetOp, h.performCommit rfl]
    exact congrArg Host.Outcome.next (if_neg hop)
  · rw [exec_opRampComplete, State.endRamp]
    simp only [ho, ha, ht, Bool.false_eq_true, not_false_eq_true, and_self, if_true]
  · rw [exec_pwrGateClose, execPwrGateClose, h.performCommit (isOp_of_eq hop)]
  · rw [exec_pwrGateRelease, execPwrGateRelease, h.performCommit (isOp_of_eq hop)]
  · exact State.reg_of_regs (State.closeNodes_all hs) _
  · exact commitResults_stuck hk hs
  · rw [exec_clkSyncArm, State.onReg_reaches hreach, State.armSync, if_pos h]
  · rw [exec_clkSyncArm, State.onReg_reaches hreach, State.armSync, if_neg (by simp [hrun, hsafe])]
  · rw [exec_clkSyncCancel, State.onReg_reaches hreach]
    rfl

/-! ### Loops and the safe state -/

theorem exec_loopLock (l : Fin 8) (s : State) : exec (.loopLock l) s = .next (s.clockRow (fun s => (s.lockLoop l.val).tryRelease)) :=
  rfl
theorem exec_loopLockTimeout (l : Fin 8) (s : State) : exec (.loopLockTimeout l) s =
    .next (s.clockRow (fun s => s.lockTimeout l.val)) := rfl
theorem exec_clkUnlock (l : Fin 8) (s : State) : exec (.clkUnlock l) s = .next (s.clockRow (fun s => s.unlockLoop l.val)) := rfl
theorem exec_clkRefLoss (s : State) : exec .clkRefLoss s = execClkRefLoss s := rfl
theorem exec_clkLaneLoss (s : State) : exec .clkLaneLoss s = execClkLaneLoss s := rfl
theorem exec_safeNLow (s : State) : exec .safeNLow s = execSafeNLow s := rfl
theorem exec_clockSourceQualified (lane : Bool) (s : State) :
    exec (.clockSourceQualified lane) s = execClockSourceQualified lane s := rfl

/-- A row of the clocks, by what it does to the state it finds. -/
theorem State.clockRow_congr {s : State} {f g : State → State} (h : f s = g s) : s.clockRow f = s.clockRow g := by
  rw [State.clockRow, State.clocked, h, State.clockRow, State.clocked]

/-- A loop that starts LOCKING keeps its outputs as they were. -/
theorem State.clk_setLoop_locking (s : State) (l : Nat) : (s.setLoop l .locking).clk = s.clk := by
  simp only [State.setLoop, apply_ite State.clk, State.setFld_clk, ite_self]
  rfl

/-- While the control loop is not LOCKED, the control clock runs from the fallback oscillator. -/
theorem State.fallback_setLoop {s : State} (hs : s.canonical = true) : (s.setLoop 5 .locking).flag F.CLK_STATUS_CTL_FALLBACK = true := by
  have hset : s.setLoop 5 .locking = (s.setFld (F.CLK_LOOP_STATUS_STATE 5) LoopState.locking.code).setFld F.CLK_STATUS_CTL_FALLBACK 1 := rfl
  rw [hset, State.flag, State.fld_setFld_same (State.regs_swf (State.setFld_canonical hs _ _)) _ _ (by decide)]
  rfl

/-- A field of CLK_STATUS that neither the control clock's source nor the ramp writes. -/
structure Fld.ofClockMarks (f : Fld) : Prop where
  addr : f.addr = 0x20000
  fallback : f.apart F.CLK_STATUS_CTL_FALLBACK = true
  seqBusy : f.apart F.CLK_STATUS_SEQ_BUSY = true

namespace SameField
variable {f : Fld} (hf : f.ofClockMarks)
include hf

/-- Another register than CLK_STATUS. -/
theorem setOther {g : Fld} (hg : g.lo + g.width ≤ 32) (h : g.addr ≠ 0x20000) (s : State) (v : Nat) : SameField f s (s.setFld g v) :=
  setFld_other hg (fun he => h (he.symm.trans hf.addr)) s v

theorem raised (s : State) (code value source sev : Nat) : SameField f s (s.raise code value source sev) :=
  raise (by rw [hf.addr]; decide) s code value source sev

theorem raisedFree (s : State) (code source sev : Nat) : SameField f s (s.raiseFree code source sev) :=
  raiseFree (by rw [hf.addr]; decide) s code source sev

theorem setLoop (s : State) (l : Nat) (x : LoopState) : SameField f s (s.setLoop l x) := by
  unfold State.setLoop
  extract_lets u _ v w
  have hu : SameField f s u := setOther hf (by simp [F.CLK_LOOP_STATUS_STATE]) (by simp only [F.CLK_LOOP_STATUS_STATE]; omega) s _
  have hv : SameField f s v := hu.withRegs rfl
  have hw : SameField f s w := hv.trans (ite (setFld (by decide) hf.fallback v 1) (refl f v))
  exact hw.trans (ite (setOther hf (by simp [F.CLK_LOOP_PHERR_ERR]) (by simp only [F.CLK_LOOP_PHERR_ERR]; omega) w 0) (refl f w))

theorem holdLoop (s : State) (l : Nat) : SameField f s (s.holdLoop l) := ite (setLoop hf s l _) (refl f s)

theorem relockLoop (s : State) (l : Nat) : SameField f s (s.relockLoop l) :=
  ite ((setLoop hf s l .locking).withRegs rfl) (refl f s)

theorem muteAll (s : State) : SameField f s s.muteAll :=
  foldl (fun t p => setOther hf (by simp [F.TXP_STATUS_MUTED]) (by simp only [F.TXP_STATUS_MUTED]; omega) t 1) _ s

theorem setTickMode (s : State) (m : TickMode) : SameField f s (s.setTickMode m) := setOther hf (by decide) (by decide) s _

/-- Commits that are discarded end their commands, and a host commit its status. -/
theorem discard (s : State) (ks : List Commit) (r : Nat) : SameField f s (s.discard ks r) := by
  have hend (t : State) (x : Nat × Outcome) : SameField f t (t.finish x.1 ⟨.timeout, false, [], x.2.tick⟩) :=
    finish (by rw [hf.addr]; decide) (by rw [hf.addr]; decide) t _ _
  unfold State.discard
  refine (ite (refl f s) (of_regs (State.noteItem_regs s _))).trans (foldl (fun t k => ?_) ks _)
  exact (foldl hend k.results t).trans (ite (setOther hf (by decide) (by decide) _ _) (refl f _))

theorem holdTick (s : State) (byRef : Bool) : SameField f s (s.holdTick byRef) := by
  unfold State.holdTick
  extract_lets _ u a b _ c d
  have hu : SameField f s u := of_regs rfl
  have ha : SameField f u a := setTickMode hf u .held
  have hb : SameField f u b := (ha.trans (discard hf a a.armed 5)).withRegs rfl
  have hd : SameField f u d := (hb.withRegs (u := c) rfl).trans (setFld (by decide) hf.seqBusy c 0)
  exact hu.trans (ite (hd.trans (raisedFree hf d _ _ _)) (refl f u))

theorem resumeTick (s : State) (byRef : Bool) : SameField f s (s.resumeTick byRef) := by
  unfold State.resumeTick
  extract_lets _ u
  have hu : SameField f s u := of_regs rfl
  exact hu.trans (ite (setTickMode hf u .free) (refl f u))

/-- REFCLK's loop actions. -/
theorem refLost (s : State) : SameField f s s.refLost := by
  unfold State.refLost
  extract_lets a b c d
  have hb : SameField f s b := (foldl (holdLoop hf) _ s).trans (holdTick hf a true)
  have hc : SameField f s c := hb.trans (setFld (by decide) hf.fallback b 1)
  have hd : SameField f s d := hc.trans (ite (setOther hf (by decide) (by decide) c 0) (refl f c))
  exact hd.trans (ite (of_regs rfl) (refl f d))

end SameField

/-! ### A source trips, and one clears (R443, R444, Table 15-7) -/

theorem safeSrc_marks : F.CLK_STATUS_SAFE_SRC.ofClockMarks := ⟨rfl, rfl, rfl⟩
theorem safe_marks : F.CLK_STATUS_SAFE.ofClockMarks := ⟨rfl, rfl, rfl⟩
theorem mon_marks : F.CLK_STATUS_MON.ofClockMarks := ⟨rfl, rfl, rfl⟩

/-- A trip counted where the monitor was in NORMAL. -/
def State.tripCounted (s : State) : State :=
  if s.mon = .normal then { s.addFld F.CLK_SAFE_COUNT_COUNT 1 with clk := { s.clk with laneSrc := false } } else s

/-- The source's own actions: REFCLK's or LANECLK's. -/
def State.tripLoss (s : State) (b : Nat) : State :=
  if b = safeRef then (s.addFld F.CLK_LOSS_REF 1).refLost
  else if b = safeLane then
    let s := s.addFld F.CLK_LOSS_LANE 1
    { s with clk := { s.clk with laneSrc := true } }
  else s

/-- The events of a trip, at once or once the fallback oscillator is stable. -/
def State.tripEvents (s : State) (b m : Nat) : State :=
  if s.pwr.fallback then
    let s := if b = safeRef then s.raiseFree 0x2005 srcOther sevError
      else if b = safeLane then s.raiseFree 0x2006 srcOther sevError else s
    s.raise 0x2007 m srcOther sevWarning
  else { s with clk := { s.clk with deferredTrip := s.clk.deferredTrip ++ [(b, m)] } }

/-- A trip in its stages: the count, the mark, the safe state, the monitor, the source's actions, the events. -/
theorem State.trip_eq {s : State} {b : Nat} (h : bitAt (s.fld F.CLK_STATUS_SAFE_SRC) b = false) :
    let m := s.tripCounted.fld F.CLK_STATUS_SAFE_SRC + 2 ^ b
    let t := (((s.tripCounted.setFld F.CLK_STATUS_SAFE_SRC m).setFld F.CLK_STATUS_SAFE 1).muteAll.holdLoop 6).holdLoop 7
    s.trip b = ((t.setFld F.CLK_STATUS_MON MonState.safe.code).tripLoss b).tripEvents b m :=
  if_neg (Bool.eq_false_iff.1 h)

namespace SameField
variable {f : Fld} (hf : f.ofClockMarks)
include hf

theorem tripCounted (s : State) : SameField f s s.tripCounted :=
  ite ((setOther hf (by decide) (by decide) s _).withRegs rfl) (refl f s)

theorem tripLoss (s : State) (b : Nat) : SameField f s (s.tripLoss b) :=
  ite ((setOther hf (by decide) (by decide) s _).trans (refLost hf _))
    (ite ((setOther hf (by decide) (by decide) s _).withRegs rfl) (refl f s))

theorem tripEvents (s : State) (b m : Nat) : SameField f s (s.tripEvents b m) :=
  ite ((ite (raisedFree hf s _ _ _) (ite (raisedFree hf s _ _ _) (refl f s))).trans (raised hf _ _ _ _ _)) (of_regs rfl)

end SameField

/-- The mark of a source, where it stood free, makes the field greater by its place. -/
theorem mark_lt {v b : Nat} (hv : v < 16) (hb : b < 3) (hbit : bitAt v b = false) : v + 2 ^ b < 16 := by
  have hfree : v / 2 ^ b % 2 ≠ 1 := by simpa [bitAt] using hbit
  interval_cases b <;> omega

section
variable {s : State} (hs : s.canonical = true) {b : Nat} (hb : b < 3)
include hs hb

/-- The clause of a trip. -/
theorem trip_marks (hbit : bitAt (s.fld F.CLK_STATUS_SAFE_SRC) b = false) :
    (s.trip b).fld F.CLK_STATUS_SAFE_SRC = s.fld F.CLK_STATUS_SAFE_SRC + 2 ^ b ∧ (s.trip b).flag F.CLK_STATUS_SAFE = true ∧
      (s.trip b).mon = .safe := by
  obtain ⟨hcount, hsrc⟩ := SameField.tripCounted safeSrc_marks s (State.regs_swf hs)
  have hmark := State.setFld_swf hcount F.CLK_STATUS_SAFE_SRC (s.tripCounted.fld F.CLK_STATUS_SAFE_SRC + 2 ^ b)
  have hsafe := State.setFld_swf hmark F.CLK_STATUS_SAFE 1
  have hacts {f : Fld} (hf : f.ofClockMarks) (t : State) (m : Nat) : SameField f t ((t.tripLoss b).tripEvents b m) :=
    (SameField.tripLoss hf t b).trans (SameField.tripEvents hf _ b m)
  have hmute {f : Fld} (hf : f.ofClockMarks) (t : State) : SameField f t ((t.muteAll.holdLoop 6).holdLoop 7) :=
    ((SameField.muteAll hf t).trans (SameField.holdLoop hf _ 6)).trans (SameField.holdLoop hf _ 7)
  have hmuted := ((hmute mon_marks _) hsafe).1
  have hmon {f : Fld} (hf : f.apart F.CLK_STATUS_MON = true) (t : State) : SameField f t (t.setFld F.CLK_STATUS_MON MonState.safe.code) :=
    SameField.setFld (by decide) hf t _
  have hsrcs (t : State) (m : Nat) : SameField F.CLK_STATUS_SAFE_SRC t ((((((t.setFld F.CLK_STATUS_SAFE 1).muteAll.holdLoop 6).holdLoop
      7).setFld F.CLK_STATUS_MON MonState.safe.code).tripLoss b).tripEvents b m) :=
    ((SameField.setFld (by decide) rfl t 1).trans (hmute safeSrc_marks _)).trans ((hmon rfl _).trans (hacts safeSrc_marks _ m))
  have hsafes (t : State) (m : Nat) : SameField F.CLK_STATUS_SAFE t
      (((((t.muteAll.holdLoop 6).holdLoop 7).setFld F.CLK_STATUS_MON MonState.safe.code).tripLoss b).tripEvents b m) :=
    (hmute safe_marks _).trans ((hmon rfl _).trans (hacts safe_marks _ m))
  rw [State.trip_eq hbit]
  refine ⟨?_, ?_, ?_⟩
  · rw [(hsrcs _ _ hmark).2, State.fld_setFld_same hcount _ _ (by decide), hsrc]
    exact Nat.mod_eq_of_lt (mark_lt (Nat.mod_lt _ (by decide)) hb hbit)
  · rw [State.flag, (hsafes _ _ hsafe).2, State.fld_setFld_same hmark _ _ (by decide)]
    rfl
  · rw [State.mon, ((hacts mon_marks _ _) (State.setFld_swf hmuted _ _)).2, State.fld_setFld_same hmuted _ _ (by decide)]
    rfl

end

namespace SameField

/-- The release of the safe state keeps the sources. -/
theorem releaseSafe (s : State) : SameField F.CLK_STATUS_SAFE_SRC s s.releaseSafe := by
  unfold State.releaseSafe
  extract_lets a b c d
  have hb : SameField F.CLK_STATUS_SAFE_SRC s b := (setFld (by decide) rfl s 0).trans (setFld (by decide) rfl a _)
  have hc : SameField F.CLK_STATUS_SAFE_SRC s c := hb.trans (ite (setFld (by decide) rfl b 0) (refl _ b))
  exact (hc.trans (raisedFree safeSrc_marks c _ _ _)).trans (resumeTick safeSrc_marks d true)

theorem tryRelease (s : State) : SameField F.CLK_STATUS_SAFE_SRC s s.tryRelease :=
  ite (ite (ite (setFld (by decide) rfl s _) (releaseSafe s)) (refl _ s)) (refl _ s)

end SameField

/-- A source that stands clears; the others stay, and with one left the safe state stays. -/
theorem clearSource_clears {s : State} (hs : s.canonical = true) {b : Nat} (hmon : s.mon = .safe)
    (hbit : bitAt (s.fld F.CLK_STATUS_SAFE_SRC) b = true) :
    (s.clearSource b).fld F.CLK_STATUS_SAFE_SRC = s.fld F.CLK_STATUS_SAFE_SRC - 2 ^ b ∧
      (s.fld F.CLK_STATUS_SAFE_SRC ≠ 2 ^ b → (s.clearSource b).mon = .safe) := by
  have hregs := State.regs_swf hs
  have hlt : s.fld F.CLK_STATUS_SAFE_SRC < 2 ^ 4 := Nat.mod_lt _ (by decide)
  have hle : 2 ^ b ≤ s.fld F.CLK_STATUS_SAFE_SRC := by
    by_contra hlow
    simp [bitAt, Nat.div_eq_of_lt (not_le.1 hlow)] at hbit
  have hstands {t : State} (ht : SameField F.CLK_STATUS_SAFE_SRC (s.setFld F.CLK_STATUS_SAFE_SRC (s.fld F.CLK_STATUS_SAFE_SRC - 2 ^ b)) t) :
      t.fld F.CLK_STATUS_SAFE_SRC = s.fld F.CLK_STATUS_SAFE_SRC - 2 ^ b := by
    rw [(ht (State.setFld_swf hregs _ _)).2, State.fld_setFld_same hregs _ _ (by decide)]
    exact Nat.mod_eq_of_lt ((Nat.sub_le _ _).trans_lt hlt)
  have hkeeps (t : State) : SameField F.CLK_STATUS_SAFE_SRC t
      (((List.range 8).foldl State.relockLoop t).setFld F.CLK_STATUS_MON MonState.relock.code).tryRelease :=
    ((SameField.foldl (SameField.relockLoop safeSrc_marks) _ t).trans
      (SameField.setFld (g := F.CLK_STATUS_MON) (by decide) rfl _ _)).trans (SameField.tryRelease _)
  rw [State.clearSource, if_pos ⟨hmon, hbit⟩]
  dsimp only
  split
  · exact ⟨hstands (hkeeps _), fun hne => by omega⟩
  · refine ⟨hstands (SameField.refl _ _), fun _ => ?_⟩
    rw [← hmon, State.mon, State.mon, State.fld_setFld_apart hregs _ (by decide) (by decide)]

/-- The lock of a loop, and of the control loop where the safe state does not keep its clock. -/
theorem State.lockLoop_locking {s : State} {l : Nat} (h : s.loop l = .locking) :
    let u := ((s.setLoop l .locked).addFld (F.CLK_LOOP_STATUS_LOCKS l) 1).raise 0x2001 l (srcLoop l) sevInfo
    s.lockLoop l = if l = 5 ∧ !u.fallbackKept then u.setFld F.CLK_STATUS_CTL_FALLBACK 0 else u :=
  if_pos h

/-- Settles O52: a row of the clocks by its guard, the marks of the safe state by the stages of a trip. -/
theorem loopAndSafeRowsComplete : Obligations.LoopAndSafeRowsComplete := by
  refine ⟨fun s l hl => ⟨fun hne => ?_, fun he => ?_, fun hlast => ?_, fun b hfirst hb => ?_⟩, fun s l hl hp => ?_,
    fun s hs => State.fallback_setLoop hs, fun s hoff => ⟨?_, fun hlane => ?_, ?_⟩, fun s => rfl, fun s => ⟨?_, ?_⟩,
    fun s b hs hb hbit => trip_marks hs hb hbit, fun s b hs _ hmon hbit => clearSource_clears hs hmon hbit⟩
  · rw [exec_loopLock, State.clockRow_congr]
    rw [State.lockLoop_locking hl, if_neg (by simp [hne])]
  · rw [exec_loopLock, State.clockRow_congr]
    rw [he] at hl ⊢
    rw [State.lockLoop_locking hl]
    exact congrArg State.tryRelease (if_congr (by simp) rfl rfl)
  · rw [exec_loopLockTimeout, State.clockRow_congr]
    rw [State.lockTimeout, if_pos hl, if_neg (not_lt.2 hlast)]
  · rw [exec_loopLockTimeout, State.clockRow_congr]
    rw [State.lockTimeout, if_pos hl, if_pos hfirst]
    dsimp only
    rw [hb]
    rfl
  · rw [exec_clkUnlock, State.clockRow_congr]
    rw [State.unlockLoop, if_pos ⟨hl, hp⟩]
    dsimp only
    rw [State.clk_setLoop_locking]
  · rw [exec_clkRefLoss, execClkRefLoss]
    exact congrArg Host.Outcome.next (if_neg (by simp [State.setPins, hoff]))
  · have hgo : ¬ ((s.setPins s.pwr.refPresent false s.pwr.safePin).pwr.off = true ∨
        (!(s.setPins s.pwr.refPresent false s.pwr.safePin).flag F.CLK_CFG_MON_LANE) = true) := by
      have hflag : (s.setPins s.pwr.refPresent false s.pwr.safePin).flag F.CLK_CFG_MON_LANE = true := hlane
      rw [hflag]
      simp [State.setPins, hoff]
    rw [exec_clkLaneLoss, execClkLaneLoss]
    exact congrArg Host.Outcome.next (if_neg hgo)
  · rw [exec_safeNLow, execSafeNLow]
    exact congrArg Host.Outcome.next (if_neg (by simp [State.setPins, hoff]))
  · rw [exec_clockSourceQualified, execClockSourceQualified, Bool.not_false, Bool.or_true, Bool.or_false]
    rfl
  · rw [exec_clockSourceQualified, execClockSourceQualified, Bool.not_true, Bool.or_true, Bool.or_false]
    rfl

end Sys2Proof.Machine
end

section
/-!
SUPPORT AND PROOFS. Power: the start-up (R483, R491-R493).
-/
namespace Sys2Proof.Machine

/-! ### The warm boot -/

/-- The reset of the warm boot, which retired units outlast. -/
def State.warmReset (s : State) : State := (s.allReset.reapply s.keptUnits).resetLinks

/-- The marks of the fault manager that stand over the reset, from the state before it. -/
def State.marksFrom (t s : State) : State :=
  { t with fault := { t.fault with wakeRetired := s.fault.wakeRetired, lostLogged := s.fault.lostLogged } }

/-- PD_AON's records of failed domains, put back over the reset from the state before it. -/
def State.recordsFrom (t s : State) : State :=
  (((t.setReg F.PWR_FAILED_MASK.addr (s.reg F.PWR_FAILED_MASK.addr)).setReg F.PWR_BROWNOUT_MASK.addr
    (s.reg F.PWR_BROWNOUT_MASK.addr)).setReg F.PWR_WAKE_FAIL_DOMAIN.addr (s.reg F.PWR_WAKE_FAIL_DOMAIN.addr)).setReg
    F.PWR_BOOT_CFG_TSYNC_TO.addr (s.reg F.PWR_BOOT_CFG_TSYNC_TO.addr)

/-- The fallback oscillator's count stands. -/
def State.fallbackOk (s : State) : State :=
  ({ s with pwr := { s.pwr with fallback := true } } : State).setFld F.CLK_STATUS_FALLBACK_OK 1

/-- The warm boot's state where the pins are then sampled. -/
def State.warmState (s : State) : State := ((s.warmReset.marksFrom s).recordsFrom s).fallbackOk

theorem exec_pwrCtrlWake (ok : Bool) (s : State) :
    exec (.pwrCtrlWake ok) s = .next (s.onReg 0x10004 (fun s => s.warmBoot ok)) := rfl

theorem State.warmBoot_standby {s : State} (hst : s.pwrState = stStandby) (hon : s.pwr.off = false) :
    s.warmBoot true = s.warmState.tripPins.beginGroups ⟨stBoot, stActive, none, false, [], [], 0, false⟩ [[.wake 1]] := by
  rw [State.warmBoot, if_neg (by simp [hst, hon]), State.warmState]
  extract_lets units f failed brown wake cfg t m r c a p b z
  have ht : s.warmReset = t := rfl
  clear_value t
  have hr : t.marksFrom s = r := rfl
  clear_value r
  have ha : r.recordsFrom s = a := rfl
  clear_value a
  have hz : a.fallbackOk.tripPins = z := rfl
  rw [ht, hr, ha, hz, State.memTest, if_pos rfl]

theorem State.warmReset_canonical {s : State} (h : s.canonical = true) : s.warmReset.canonical = true := by
  rw [State.warmReset]
  exact (State.resetLinks_keeps (kq := true) (State.reapply_keeps (State.allReset_keeps (Keeps.refl s)))).stores h

theorem State.warmReset_hostMem (s : State) : s.warmReset.hostMem = s.hostMem := by
  rw [State.warmReset]
  exact (State.resetLinks_keeps (State.reapply_keeps (State.allReset_keeps (Keeps.refl s)))).host rfl

theorem State.marksFrom_swf {t : State} (ht : t.canonical = true) (s : State) : swf resetWord (t.marksFrom s).regs = true :=
  State.regs_swf (s := t) ht

theorem State.warmState_fallback (s : State) : s.warmState.pwr.fallback = true := by
  rw [State.warmState, State.fallbackOk, State.setFld_pwr]

theorem State.hostMem_warmState (s : State) : s.warmState.hostMem = s.hostMem := by
  simp only [State.warmState, State.fallbackOk, State.recordsFrom, State.marksFrom, State.setFld_hostMem, State.setReg_hostMem,
    State.warmReset_hostMem]

theorem State.reg_recordsFrom_failed {t : State} (ht : swf resetWord t.regs = true) (s : State) :
    (t.recordsFrom s).reg F.PWR_FAILED_MASK.addr = s.reg F.PWR_FAILED_MASK.addr := by
  rw [State.recordsFrom, State.reg_setReg_other _ _ (by decide), State.reg_setReg_other _ _ (by decide),
    State.reg_setReg_other _ _ (by decide), State.reg_setReg_same ht]

theorem State.reg_recordsFrom_brownout {t : State} (ht : swf resetWord t.regs = true) (s : State) :
    (t.recordsFrom s).reg F.PWR_BROWNOUT_MASK.addr = s.reg F.PWR_BROWNOUT_MASK.addr := by
  rw [State.recordsFrom, State.reg_setReg_other _ _ (by decide), State.reg_setReg_other _ _ (by decide),
    State.reg_setReg_same (State.setReg_swf ht _ _)]

theorem State.reg_fallbackOk (s : State) {a : Nat} (ha : a ≠ F.CLK_STATUS_FALLBACK_OK.addr) : s.fallbackOk.reg a = s.reg a :=
  State.reg_setFld_other _ _ _ ha

theorem State.reg_warmState (s : State) {a : Nat} (ha : a ≠ F.CLK_STATUS_FALLBACK_OK.addr) :
    s.warmState.reg a = ((s.warmReset.marksFrom s).recordsFrom s).reg a := by
  rw [State.warmState, State.reg_fallbackOk _ ha]

theorem exec_pwrCtrlWake_standby {s : State} (hr : s.reaches 0x10004) (hst : s.pwrState = stStandby) (hon : s.pwr.off = false) :
    exec (.pwrCtrlWake true) s = .next (s.warmState.tripPins.beginGroups ⟨stBoot, stActive, none, false, [], [], 0, false⟩
      [[.wake 1]]) := by
  rw [exec_pwrCtrlWake, State.onReg_reaches hr, State.warmBoot_standby hst hon]

theorem State.reg_warmState_failed {s : State} (hs : s.canonical = true) :
    s.warmState.reg F.PWR_FAILED_MASK.addr = s.reg F.PWR_FAILED_MASK.addr := by
  rw [State.reg_warmState s (by decide),
    State.reg_recordsFrom_failed (State.marksFrom_swf (State.warmReset_canonical hs) s)]

theorem State.reg_warmState_brownout {s : State} (hs : s.canonical = true) :
    s.warmState.reg F.PWR_BROWNOUT_MASK.addr = s.reg F.PWR_BROWNOUT_MASK.addr := by
  rw [State.reg_warmState s (by decide),
    State.reg_recordsFrom_brownout (State.marksFrom_swf (State.warmReset_canonical hs) s)]

/-! ### The steps of the boot -/

theorem exec_fallbackStable (s : State) : exec .fallbackStable s = .next s.fallbackStable := rfl

theorem exec_refclkMeasure (khz : Nat) (s : State) : exec (.refclkMeasure khz) s = .next (s.refMeasure khz) := rfl

theorem exec_bootTsyncTimeout (s : State) : exec .bootTsyncTimeout s = execBootTsyncTimeout s := rfl

theorem exec_bringupComplete (s : State) : exec .bringupComplete s = .next s.bringupComplete := rfl

theorem State.fallbackStable_starts {s : State} (hon : s.pwr.off = false) (hf : s.pwr.fallback = false) :
    s.fallbackStable = ((({ s with pwr := { s.pwr with fallback := true }, clk := { s.clk with deferredTrip := [] } } :
      State).setFld F.CLK_STATUS_FALLBACK_OK 1).logTrips s.clk.deferredTrip).beginGroups
        ⟨stBoot, stActive, none, false, [], [], 0, false⟩ [[.wake 1]] :=
  if_neg (by simp [hon, hf])

/-- Firmware waits for its measurement of REFCLK (R492). -/
def State.measures (s : State) : Prop :=
  s.pwrState = stBoot ∧ s.fld F.PWR_STATUS_PHASE = 2 ∧ s.domain 2 = 0 ∧ s.pwr.trans = none ∧ s.flag F.PWR_STATUS_FAILED = false

theorem State.refMeasure_eq {s : State} (h : s.measures) (khz : Nat) : s.refMeasure khz =
    if (nearFreq 491520 khz || nearFreq 122880 khz) = true then
      ((s.setFld F.PWR_STATUS_NO_REFCLK 0).setFld F.CLK_CFG_REF_SEL (b2n (nearFreq 122880 khz))).beginGroups
        ⟨stBoot, stActive, none, false, [], [], 0, false⟩ [[.wake 2], s.outerDomains.map .wake]
    else if s.flag F.PWR_STATUS_NO_REFCLK = true then s
    else (s.setFld F.PWR_STATUS_NO_REFCLK 1).raise 0x2005 khz srcOther sevError := by
  obtain ⟨hst, hph, hd, ht, hf⟩ := h
  exact if_pos ⟨hst, hph, hd, by simp [ht], by simp [hf]⟩

/-- READY, at the tick that then stands. -/
def State.showReady (s : State) : State :=
  (s.setFld F.MBX_STATUS_READY 1).setFld F.PWR_CHANGE_TICK_TICK (s.setFld F.MBX_STATUS_READY 1).tickno

/-- The write of READY leaves the tick as it was. -/
theorem State.showReady_eq (s : State) : s.showReady = (s.setFld F.MBX_STATUS_READY 1).setFld F.PWR_CHANGE_TICK_TICK s.tickno := by
  rw [State.showReady, State.tickno, State.fld_setFld_other _ _ _ _ (by decide)]
  rfl

/-- The state of a bring-up that ends, before its event. -/
def State.broughtUp (s : State) : State := ((s.startTick.setFld F.PWR_STATUS_PHASE 4).setFld F.PWR_STATUS_STATE stActive).showReady

/-- The event of a last run that lost its control (Table 03-8). -/
def State.logLost (s : State) : State :=
  if s.fault.lostLogged = true then
    { s.raiseFree 0x0005 srcOther sevCritical with fault := { s.fault with lostLogged := false } }
  else s

/-- Bring-up at its last phase, with the divider reset done. -/
theorem State.bringupComplete_synced {s : State} (hst : s.pwrState = stBoot) (hph : s.fld F.PWR_STATUS_PHASE = 3)
    (hsync : s.flag F.CLK_SYNC_DONE = true) :
    s.bringupComplete = (s.broughtUp.logLost.raise 0x0010 stActive srcOther sevInfo).refreshCal := by
  rw [State.bringupComplete, if_pos ⟨hst, hph, .inl hsync⟩]
  extract_lets a b c d f l
  have hc : s.broughtUp = c := b.showReady_eq
  clear_value c
  have hl : c.logLost = l := rfl
  rw [hc, hl]

/-- Settles O18: the warm boot is followed to the state it begins its first step from; of each other row the guard holds. -/
theorem startUpRowsComplete : Obligations.StartUpRowsComplete := by
  unfold Obligations.StartUpRowsComplete
  refine ⟨fun s hs hr hst hon => ⟨s.warmState, exec_pwrCtrlWake_standby hr hst hon,
      s.warmState_fallback, State.reg_warmState_failed hs, State.reg_warmState_brownout hs, s.hostMem_warmState⟩, fun s hon hf => ?_,
    fun s khz hst hph hd ht hf => ⟨fun hnear => ?_, fun hnear hno => ?_⟩, fun s hst hph hsync hno => ?_,
    fun s hst hph hsync => ?_⟩
  · rw [exec_fallbackStable, State.fallbackStable_starts hon hf]
  · rw [exec_refclkMeasure, State.refMeasure_eq ⟨hst, hph, hd, ht, hf⟩, if_pos hnear]
  · rw [exec_refclkMeasure, State.refMeasure_eq ⟨hst, hph, hd, ht, hf⟩, if_neg (by simp [hnear]), if_neg (by simp [hno])]
  · rw [exec_bootTsyncTimeout, execBootTsyncTimeout, if_pos ⟨hst, hph, by simp [hsync], by simp [hno]⟩]
  · intro u v
    have hv : s.broughtUp = v := rfl
    rw [exec_bringupComplete, State.bringupComplete_synced hst hph hsync, hv]
    clear_value v
    exact ⟨fun hlost => by rw [State.logLost, if_neg (by simp [hlost])], fun hlost => by rw [State.logLost, if_pos hlost]⟩

end Sys2Proof.Machine
end

section
/-!
SUPPORT AND PROOFS. Power: requests, the steps of a transition, wake failures and brown-outs (R484-R495).
-/
namespace Sys2Proof.Machine

/-! ### Requests -/

theorem exec_pwrSetState (tag : Nat) (s : State) : exec (.pwrSetState tag) s = execPwrSetState tag s := rfl
theorem exec_pwrGetState (tag : Nat) (s : State) : exec (.pwrGetState tag) s = execPwrGetState tag s := rfl

/-- The request of a PWR_SET_STATE. -/
def requestOf (c : Cmd) : PowerRequest := ⟨c.tag, c.op, leAt c.payload 1 1 == 1, c.via == .inband⟩

/-- An older request that waits is superseded. -/
def State.supersede (s : State) : State :=
  match s.pwr.request with
  | some old => s.finishNow old.tag .superseded []
  | none => s

/-- The request waits for the end of the transition in progress (R484). -/
def State.putRequest (s : State) (r : PowerRequest) : State :=
  ({ s with pwr := { s.pwr with request := some r } } : State).setFld F.PWR_STATUS_PENDING r.target

theorem pwrSetState_performs {s u : State} {tag : Nat} {c : Cmd} (h : Starts s 0x0200 tag c u) : exec (.pwrSetState tag) s =
    .next (if u.pwr.trans.isSome then u.supersede.putRequest (requestOf c) else u.startRequest (requestOf c)) := by
  rw [exec_pwrSetState, execPwrSetState, h.performStart rfl]
  rfl

/-- In a stable state the request acts at once. -/
theorem pwrSetState_stable {s u : State} {tag : Nat} {c : Cmd} (h : Starts s 0x0200 tag c u) (ht : u.pwr.trans = none) :
    exec (.pwrSetState tag) s = .next (u.startRequest (requestOf c)) := by
  rw [pwrSetState_performs h, if_neg (by simp [ht])]

/-- During a transition the request waits. -/
theorem pwrSetState_waits {s u : State} {tag : Nat} {c : Cmd} {t : Transition} (h : Starts s 0x0200 tag c u)
    (ht : u.pwr.trans = some t) : exec (.pwrSetState tag) s = .next (u.supersede.putRequest (requestOf c)) := by
  rw [pwrSetState_performs h, if_pos (by simp [ht])]

theorem State.startRequest_there {s : State} {r : PowerRequest} (hr : r.target = s.pwrState) :
    s.startRequest r = s.finishNow r.tag .ok (stateReply r.target 0 0) :=
  if_pos hr

theorem pwrGetState_replies {s u : State} {tag : Nat} {c : Cmd} (h : Starts s 0x0201 tag c u) : exec (.pwrGetState tag) s =
    .next (u.finishNow c.tag .ok
      (leBytes 1 u.pwrState ++ leBytes 1 (noneCode (u.fld F.PWR_STATUS_TARGET)) ++
        leBytes 1 (noneCode (u.fld F.PWR_STATUS_PENDING)) ++
        leBytes 1 (u.fld F.PWR_STATUS_FAILED + 2 * u.fld F.PWR_STATUS_CONTEXT_LOST + 4 * u.fld F.PWR_STATUS_NO_TSYNC +
          8 * u.fld F.PWR_STATUS_NO_REFCLK) ++
        leBytes 2 (u.fld F.PWR_FAILED_MASK) ++ leBytes 2 (u.fld F.PWR_BROWNOUT_MASK) ++
        leBytes 4 (u.fld F.PWR_CHANGE_TICK_TICK) ++ leBytes 4 0)) := by
  rw [exec_pwrGetState, execPwrGetState, h.performStart rfl]

/-! ### The steps of a transition -/

theorem exec_powerStepComplete_none (found : BridgeFound) (us : Nat) (s : State) :
    exec (.powerStepComplete none found us) s = .next (s.powerStep none found us) := rfl

/-- Where no unit reset wakes the domain, the step is the transition's. -/
theorem exec_powerStepComplete_some {s : State} {d : Fin 13} (hr : s.resetWaking d.val = none) (found : BridgeFound) (us : Nat) :
    exec (.powerStepComplete (some d) found us) s = .next (s.powerStep (some d.val) found us) := by
  change execPowerStepComplete (some d) found us s = _
  rw [execPowerStepComplete, hr]

section Wake
variable {s : State} {t : Transition} {d : Nat} (ht : s.pwr.trans = some t) (hb : t.begun = true)
  (hin : (t.steps.headD []).contains (.wake d) = true)
include ht hb hin

/-- A wake step of the transition passes its checks: with a bridge to test, its self-test is dealt with; then the step is done. -/
theorem State.powerStep_wake (hp : s.wakePasses t d = true) (found : BridgeFound) (us : Nat) :
    s.powerStep (some d) found us =
      let tests := t.source == stBoot && decide (4 ≤ d) && decide (d < 8)
      let fails := tests && !repairable found
      (if fails then s.bridgeFails (d - 4) else if tests then s.bridgeRepair (d - 4) found else s).stepDone t
        (fun x => x == .wake d || (fails && x == .wake (d + 4))) [d] us := by
  simp only [State.powerStep, ht, hb, Bool.not_true, Bool.false_eq_true, if_false]
  exact if_pos ⟨hin, hp⟩

/-- A step without a bridge to test. -/
theorem State.powerStep_untested (hp : s.wakePasses t d = true) (hno : t.source ≠ stBoot ∨ d < 4 ∨ 8 ≤ d) (found : BridgeFound)
    (us : Nat) : s.powerStep (some d) found us = s.stepDone t (fun x => x == .wake d) [d] us := by
  have htests : (t.source == stBoot && decide (4 ≤ d) && decide (d < 8)) = false := by
    rcases hno with hsrc | hlow | hhigh
    · simp [hsrc]
    · simp [Nat.not_le.2 hlow]
    · simp [Nat.not_lt.2 hhigh]
  rw [State.powerStep_wake ht hb hin hp]
  simp only [htests, Bool.false_and, Bool.false_eq_true, if_false, Bool.or_false]

/-- A die's core domain in bring-up, whose bridge is tested (R25). -/
theorem State.powerStep_tested (hp : s.wakePasses t d = true) (hsrc : t.source = stBoot) (h4 : 4 ≤ d) (h8 : d < 8)
    (found : BridgeFound) (us : Nat) : s.powerStep (some d) found us = if repairable found then
        (s.bridgeRepair (d - 4) found).stepDone t (fun x => x == .wake d) [d] us
      else (s.bridgeFails (d - 4)).stepDone t (fun x => x == .wake d || x == .wake (d + 4)) [d] us := by
  have htests : (t.source == stBoot && decide (4 ≤ d) && decide (d < 8)) = true := by simp [hsrc, h4, h8]
  rw [State.powerStep_wake ht hb hin hp]
  simp only [htests, Bool.true_and]
  cases repairable found <;> simp

/-- A wake step misses a check while it may: its domain goes off for a retry, or the transition is aborted (R489). -/
theorem State.wakeFails_eq {check : Nat} (hr : s.pwr.retryOff.contains d = false) (hsafe : s.pausedBySafe = false) (us : Nat) :
    s.wakeFails d check us = if s.pwr.failedOnce.contains d then s.wakeAbort t d check us
      else { s.domainOff d with pwr := { (s.domainOff d).pwr with
        failedOnce := insertNat (s.domainOff d).pwr.failedOnce d, retryOff := insertNat (s.domainOff d).pwr.retryOff d } } := by
  rw [State.wakeFails, ht]
  exact if_pos ⟨hb, hin, by rw [hr]; decide, by rw [hsafe]; simp⟩

end Wake

/-- Where no unit reset wakes the domain, a missed check is the transition's. -/
theorem exec_wakeStepFail_transition {s : State} {d : Fin 13} (hr : s.resetWaking d.val = none) (clock : Bool) (us : Nat) :
    exec (.wakeStepFail d clock us) s = .next (s.wakeFails d.val (if clock then 2 else 1) us) := by
  change execWakeStepFail d clock us s = _
  rw [execWakeStepFail, hr]

theorem exec_wakeStepRetry_transition {s : State} {d : Fin 13} {t : Transition} (hr : s.resetWaking d.val = none)
    (ht : s.pwr.trans = some t) (hoff : s.pwr.retryOff.contains d.val = true) : exec (.wakeStepRetry d) s =
      .next (({ s with pwr := { s.pwr with retryOff := s.pwr.retryOff.filter (fun x => x != d.val) } } : State).beginStep t.dropMd
        (t.source == stBoot) (.wake d.val)) := by
  change execWakeStepRetry d s = _
  rw [execWakeStepRetry, hr]
  exact congrArg Host.Outcome.next (by rw [State.wakeRetry, ht]; exact if_pos hoff)

section Other
variable {s : State} {t : Transition} (ht : s.pwr.trans = some t) (hb : t.begun = true)
include ht hb

theorem State.powerStep_standby (hg : t.steps.headD [] = [.offAll]) (found : BridgeFound) (us : Nat) :
    s.powerStep none found us = s.enterStandby t us := by
  simp only [State.powerStep, ht, hb, hg, Bool.not_true, Bool.false_eq_true, if_false]

/-- A step that is neither a wake nor the entry of STANDBY ends, unless it is the last and a boundary has still to bring it into
force. -/
theorem State.powerStep_single {x : PowerStep} (hg : t.steps.headD [] = [x]) (hoff : x ≠ .offAll) (hwake : ∀ d, x ≠ .wake d)
    (hgo : s.stepWaits = false ∨ t.steps.length ≠ 1) (found : BridgeFound) (us : Nat) :
    s.powerStep none found us = s.stepDone t (fun y => y == x) [] us := by
  have hend : ¬(s.stepWaits = true ∧ t.steps.length = 1) := fun ⟨hw, hl⟩ => hgo.elim (fun h => by simp [h] at hw) (fun h => h hl)
  simp only [State.powerStep, ht, hb, hg, Bool.not_true, Bool.false_eq_true, if_false]
  cases x with
  | offAll => exact absurd rfl hoff
  | wake d => exact absurd rfl (hwake d)
  | dozeFrontEnd => rfl
  | _ => exact if_neg hend

end Other

/-! ### Brown-outs -/

theorem exec_brownout_lowPower {s : State} {d : Fin 13} (h : s.lowPower d.val = true) : exec (.brownout d) s =
    .next (((s.brownNote d.val).brownLoss d.val).raise 0x0012 d.val (srcDomain d.val) sevError) :=
  congrArg Host.Outcome.next (if_pos h)

theorem State.brownLoss_rec (s : State) : s.brownLoss 12 = s.recLost false := rfl
theorem State.brownLoss_fab (s : State) : s.brownLoss 2 = s.brownFab := rfl
theorem State.brownLoss_ctl (s : State) : s.brownLoss 1 = s.brownCtl := rfl

theorem State.brownLoss_other (s : State) {d : Nat} (h : d ∉ [1, 2, 12]) : s.brownLoss d = s.refreshHolds := by
  simp only [List.mem_cons, List.not_mem_nil, or_false, not_or] at h
  obtain ⟨hctl, hfab, hrec⟩ := h
  rw [State.brownLoss, if_neg hrec, if_neg hfab, if_neg hctl]

/-- A restart leaves PD_FAB in retention and runs PD_CTL's boot ROM within DOZE; the others stay off (R487). -/
def State.restartDomain (s : State) (d : Nat) : State :=
  match d with
  | 2 => s.setDomain 2 3
  | 1 =>
    let w := (s.setDomain 1 2).romBoot
    if w.sec.recovery then w else ((w.setFld F.PWR_STATUS_PHASE 4).setFld F.MBX_STATUS_READY 1).refreshReplace
  | _ => s

theorem State.restartDomain_other (s : State) {d : Nat} (h : d ∉ [1, 2]) : s.restartDomain d = s := by
  simp only [List.mem_cons, List.not_mem_nil, or_false, not_or] at h
  obtain ⟨hctl, hfab⟩ := h
  unfold State.restartDomain
  split
  · contradiction
  · contradiction
  · rfl

/-- The restart of a domain browned out, which is then named no more. -/
theorem exec_brownoutRestart_off {s : State} {d : Fin 13} (h : s.pwr.brownOff.contains d.val = true) :
    exec (.brownoutRestart d) s = .next (({ s with pwr := { s.pwr with
      brownOff := s.pwr.brownOff.filter (fun x => x != d.val) } } : State).restartDomain d.val) := by
  refine congrArg Host.Outcome.next ?_
  rw [State.brownRestart, if_neg (by rw [h]; decide)]
  rfl

/-- Settles O19: each row's state is one of a transition's, so that its guard and its case are known. -/
theorem powerRowsComplete : Obligations.PowerRowsComplete := by
  unfold Obligations.PowerRowsComplete
  refine ⟨fun s tag c u h => ⟨fun ht hr => ?_, fun ht _ => pwrSetState_stable h ht, fun t ht hreq => ?_, fun t old ht hreq => ?_⟩,
    fun s tag c u h => pwrGetState_replies h, fun s d t ok us hr ht hb hin hp hno => ?_,
    fun s d t found us hr ht hb hin hp hsrc h4 h8 => ?_, fun s d t clock us hr ht hb hin hoff hsafe => ?_,
    fun s d t hr ht hoff => exec_wakeStepRetry_transition hr ht hoff,
    fun s t found us ht hb => ⟨fun hg => ?_, fun x hg hoff hwake hgo => ?_⟩, fun s d hlow => ?_, fun s d hoff => ?_⟩
  · exact (pwrSetState_stable h ht).trans (congrArg Host.Outcome.next (State.startRequest_there hr))
  · rw [pwrSetState_waits h ht, State.supersede, hreq]
    rfl
  · rw [pwrSetState_waits h ht, State.supersede, hreq]
    rfl
  · rw [exec_powerStepComplete_some hr, State.powerStep_untested ht hb hin hp hno]
  · rw [exec_powerStepComplete_some hr, State.powerStep_tested ht hb hin hp hsrc h4 h8]
  · rw [exec_wakeStepFail_transition hr, State.wakeFails_eq ht hb hin hoff hsafe]
    exact ⟨fun hfirst => by rw [if_neg (by rw [hfirst]; decide)], fun hagain => by rw [if_pos hagain]⟩
  · rw [exec_powerStepComplete_none, State.powerStep_standby ht hb hg]
  · rw [exec_powerStepComplete_none, State.powerStep_single ht hb hg hoff hwake hgo]
  · rw [exec_brownout_lowPower hlow]
    refine ⟨fun hd => ?_, fun hd => ?_, fun hd => ?_, fun hd => ?_⟩
    · rw [hd, State.brownLoss_rec]
      rfl
    · rw [hd, State.brownLoss_fab]
      rfl
    · rw [hd, State.brownLoss_ctl]
      rfl
    · rw [State.brownLoss_other _ hd]
      rfl
  · rw [exec_brownoutRestart_off hoff]
    exact ⟨fun hd => by rw [hd]; rfl, fun hd => by rw [hd]; rfl, fun hd => by rw [State.restartDomain_other _ hd]⟩

end Sys2Proof.Machine
end

section
/-!
SUPPORT AND PROOFS. Housekeeping: the result FIFO (R502), conversions and the sequence table (R499-R503, R518).
-/
namespace Sys2Proof.Machine

/-! ### The result FIFO -/

theorem b2n_le (b : Bool) : b2n b ≤ 1 := by cases b <;> decide

/-- A state whose next result takes the next sequence number. -/
def State.countResult (s : State) : State := { s with hk := { s.hk with seqNo := (s.hk.seqNo + 1) % 256 } }

/-- The result of a channel as the FIFO holds it. -/
def State.nextResult (s : State) (ch v : Nat) (o : Bool) : HkResult := ⟨ch, s.hk.seqNo, v % 2 ^ 16, o⟩

theorem State.pushResult_eq (s : State) (ch v : Nat) (o : Bool) : s.pushResult ch v o =
    if s.hk.fifo.length < 256 then s.countResult.putFifo (s.hk.fifo ++ [s.nextResult ch v o])
    else s.countResult.addFld F.HK_FIFO_OVF_COUNT 1 := rfl

theorem State.pushResult_seqNo (s : State) (ch v : Nat) (o : Bool) : (s.pushResult ch v o).hk.seqNo = (s.hk.seqNo + 1) % 256 := by
  rw [State.pushResult_eq]
  split <;> rfl

/-- A read of a FIFO that holds a result gives its fields and removes it. -/
theorem State.readHkFifo_oldest {s : State} {r : HkResult} {l : List HkResult} (h : s.hk.fifo = r :: l) (hch : r.channel < 64)
    (hseq : r.seq < 256) (hval : r.value < 2 ^ 16) : s.readHkFifo.2.hk.fifo = l ∧ s.readHkFifo.1 / 2 ^ 31 = 1 ∧
      s.readHkFifo.1 / 2 ^ 24 % 64 = r.channel ∧ s.readHkFifo.1 / 2 ^ 16 % 256 = r.seq ∧ s.readHkFifo.1 % 2 ^ 16 = r.value := by
  have hopen := b2n_le r.isOpen
  rw [State.readHkFifo_cons h]
  dsimp only
  refine ⟨rfl, ?_, ?_, ?_, ?_⟩ <;> omega

section Push
variable {s : State} (hs : swf resetWord s.regs = true) (ch v : Nat) (o : Bool)
include hs

/-- A result that finds room. -/
theorem State.pushResult_room (h : s.hk.fifo.length < 256) :
    (s.pushResult ch v o).hk.fifo = s.hk.fifo ++ [s.nextResult ch v o] ∧
      (s.pushResult ch v o).fld F.HK_FIFO_LEVEL_LEVEL = s.hk.fifo.length + 1 ∧
      (s.pushResult ch v o).fld F.HK_FIFO_OVF_COUNT = s.fld F.HK_FIFO_OVF_COUNT := by
  have hlevel : (s.countResult.setFld F.HK_FIFO_LEVEL_LEVEL (s.hk.fifo ++ [s.nextResult ch v o]).length).fld
      F.HK_FIFO_LEVEL_LEVEL = (s.hk.fifo ++ [s.nextResult ch v o]).length % 2 ^ 9 :=
    State.fld_setFld_same (s := s.countResult) hs _ _ (by decide)
  rw [State.pushResult_eq, if_pos h]
  refine ⟨rfl, hlevel.trans ?_, State.fld_setFld_other s.countResult _ _ _ (by decide)⟩
  rw [List.length_append, List.length_singleton, Nat.mod_eq_of_lt (by omega)]

/-- One that finds the FIFO full is dropped and counted. -/
theorem State.pushResult_full (h : 256 ≤ s.hk.fifo.length) : (s.pushResult ch v o).hk.fifo = s.hk.fifo ∧
    (s.pushResult ch v o).fld F.HK_FIFO_OVF_COUNT =
      min (s.fld F.HK_FIFO_OVF_COUNT + 1) (2 ^ F.HK_FIFO_OVF_COUNT.width - 1) := by
  rw [State.pushResult_eq, if_neg (by omega)]
  exact ⟨rfl, State.fld_addFld_same (s := s.countResult) hs _ _ (by decide)⟩

end Push

/-- Settles O54: a result finds room or not, and a read finds a result or none. -/
theorem hkFifoKeepsOrderAndGaps : Obligations.HkFifoKeepsOrderAndGaps := by
  intro s hs
  have hregs := State.regs_swf hs
  refine ⟨fun ch v o => ⟨s.pushResult_seqNo ch v o, State.pushResult_room hregs ch v o, State.pushResult_full hregs ch v o⟩,
    fun r l h hch hseq hval => State.readHkFifo_oldest h hch hseq hval, fun h => ?_⟩
  rw [State.readHkFifo_empty h]
  exact ⟨Nat.zero_div _, rfl⟩

/-! ### Conversions -/

theorem exec_housekeepingRound (temps : List Int) (supplies : List Nat) (s : State) :
    exec (.housekeepingRound temps supplies) s = .next ((s.round temps supplies).tempTriggers.bootPoll) := rfl

theorem exec_snowdropConversion (v : Nat) (s : State) : exec (.snowdropConversion v) s =
    .next (if s.flag F.HK_STATUS_URGENT_BUSY = true then s.urgentDone v
      else if s.flag F.HK_STATUS_TABLE_RUN = true then s.tableResult v else s).takeTable := rfl

theorem State.takeTable_none {s : State} (h : s.hk.newTable = none) : s.takeTable = s := by
  rw [State.takeTable, h]

/-- GO and URGENT_BUSY clear as the urgent conversion ends. -/
def State.endUrgent (s : State) : State := (s.setFld F.HK_URGENT_GO 0).setFld F.HK_STATUS_URGENT_BUSY 0

/-- What the end of the urgent conversion of a channel writes. -/
def urgentWrites (ch v : Nat) (valid : Bool) : List (Fld × Nat) :=
  [(F.HK_URGENT_GO, 0), (F.HK_STATUS_URGENT_BUSY, 0), (F.HK_URGENT_RES_VALID, b2n valid), (F.HK_URGENT_RES_OPEN, b2n false),
    (F.HK_URGENT_RES_CHANNEL, ch), (F.HK_URGENT_RES_VALUE, v)]

/-- No pull is defined for a channel that is not an AUXIN input (R503). -/
theorem State.openWire_internal (s : State) {ch : Nat} (h : ch < 36) (v : Nat) : s.openWire ch v = false :=
  if_neg (by omega)

theorem State.urgentDone_internal {s : State} (h : s.fld F.HK_URGENT_CHANNEL < 36) (v : Nat) : s.urgentDone v =
    s.putFields (urgentWrites (s.fld F.HK_URGENT_CHANNEL) v (s.endUrgent.convertible (s.fld F.HK_URGENT_CHANNEL))) := by
  have hlow : ¬ 48 ≤ s.fld F.HK_URGENT_CHANNEL := by omega
  simp only [State.urgentDone, if_pos (show s.fld F.HK_URGENT_CHANNEL < 48 by omega), State.openWire_internal _ h,
    decide_eq_false hlow, Bool.false_or, Bool.false_eq_true, if_false]
  rfl

/-- The end of an urgent conversion shows its result (R501). -/
theorem State.urgentDone_shows {s : State} (hs : s.canonical = true) (h : s.fld F.HK_URGENT_CHANNEL < 36) (v : Nat) :
    (s.urgentDone v).flag F.HK_STATUS_URGENT_BUSY = false ∧
      (s.urgentDone v).flag F.HK_URGENT_RES_VALID = s.endUrgent.convertible (s.fld F.HK_URGENT_CHANNEL) ∧
      (s.urgentDone v).flag F.HK_URGENT_GO = false ∧ (s.urgentDone v).flag F.HK_URGENT_RES_OPEN = false ∧
      (s.urgentDone v).fld F.HK_URGENT_RES_CHANNEL = s.fld F.HK_URGENT_CHANNEL ∧
      (s.urgentDone v).fld F.HK_URGENT_RES_VALUE = v % 2 ^ 16 := by
  rw [State.urgentDone_internal h]
  have hread {f : Fld} {x : Nat} (i : Nat) := State.fld_putFields_separate (State.regs_swf hs)
    (l := urgentWrites (s.fld F.HK_URGENT_CHANNEL) v (s.endUrgent.convertible (s.fld F.HK_URGENT_CHANNEL))) (f := f) (v := x) rfl i
  refine ⟨State.flag_of_fld (hread 1 rfl), (State.flag_of_fld (hread 2 rfl)).trans ?_, State.flag_of_fld (hread 0 rfl),
    State.flag_of_fld (hread 3 rfl), (hread 4 rfl).trans (Nat.mod_eq_of_lt (h.trans (by decide))), hread 5 rfl⟩
  cases s.endUrgent.convertible (s.fld F.HK_URGENT_CHANNEL) <;> rfl

theorem State.urgentDone_hk {s : State} (h : s.fld F.HK_URGENT_CHANNEL < 36) (v : Nat) : (s.urgentDone v).hk = s.hk := by
  rw [State.urgentDone_internal h]
  rfl

/-- A channel that cannot be converted gives no result. -/
theorem State.tableResult_none {s : State} (h : s.convertible (s.seqEntry (s.fld F.HK_SEQ_CFG_POS)).channel = false) (v : Nat) :
    s.tableResult v = s.nextEntry :=
  if_neg (by rw [h]; decide)

/-- The entry in progress has produced one result more, which the FIFO took. -/
def State.enqueueOwed (s : State) (r : HkResult) : State :=
  { s.countResult.putFifo (s.hk.fifo ++ [r]) with hk := { (s.countResult.putFifo (s.hk.fifo ++ [r])).hk with owed := s.hk.owed + 1 } }

theorem State.enqueueOwed_regs (s : State) (r : HkResult) :
    (s.enqueueOwed r).regs = (s.setFld F.HK_FIFO_LEVEL_LEVEL (s.hk.fifo.length + 1)).regs := by
  have hlen : (s.hk.fifo ++ [r]).length = s.hk.fifo.length + 1 := List.length_append
  rw [← hlen]
  rfl

/-- A result of an entry that owes more of them. -/
theorem State.tableResult_owed {s : State} {v : Nat} {e : SeqEntry} (he : s.seqEntry (s.fld F.HK_SEQ_CFG_POS) = e)
    (h : s.convertible e.channel = true) (hw : s.openWire e.channel v = false) (hroom : s.hk.fifo.length < 256)
    (howed : s.hk.owed < e.repeats) : s.tableResult v = s.enqueueOwed (s.nextResult e.channel v false) := by
  rw [State.tableResult, he, if_pos h]
  simp only [hw, Bool.false_eq_true, if_false, State.pushResult_eq, if_pos hroom]
  exact if_pos howed

/-! ### The table and the commands -/

/-- The new table of a command, which waits. -/
def State.holdTable (s : State) (c : Cmd) : State :=
  { s with hk := { s.hk with newTable := some (loadTable c, bitAt (leAt c.payload 1 1) 0) } }

theorem hkLoadSequence_performs {s u : State} {tag : Nat} {c : Cmd} (h : Starts s 0x0A02 tag c u) :
    exec (.hkLoadSequence tag) s = .next ((if (u.flag F.HK_STATUS_URGENT_BUSY || u.flag F.HK_STATUS_TABLE_RUN) = true
      then u.holdTable c else (u.holdTable c).takeTable).finishNow c.tag .ok []) := by
  change execHkLoadSequence tag s = _
  rw [execHkLoadSequence, h.performStart rfl]
  rfl

/-- The flush empties the FIFO and leaves the numbering (R502). -/
theorem exec_hkFifoFlush_empties {s : State} (hs : s.canonical = true) (h : s.reaches 0x6001C) : ∃ t, exec .hkFifoFlush s = .next t ∧
    t.hk.fifo = [] ∧ t.fld F.HK_FIFO_LEVEL_LEVEL = 0 ∧ t.hk.seqNo = s.hk.seqNo := by
  refine ⟨s.putFifo [], ?_, rfl, State.fld_setFld_same (State.regs_swf hs) _ 0 (by decide), rfl⟩
  change Host.Outcome.next (s.onReg 0x6001C (fun s => s.putFifo [])) = _
  rw [State.onReg_reaches h]

/-! ### The urgent request (R501) -/

/-- A write under a mask stores the bits that the mask names. -/
theorem bitsAt_merge (old v m : Word) {lo w : Nat} (hm : ∀ i, lo ≤ i → i < lo + w → m.getLsbD i = true) :
    bitsAt ((old &&& ~~~m) ||| (v &&& m)).toNat lo w = bitsAt v.toNat lo w := by
  refine Nat.eq_of_testBit_eq fun i => ?_
  simp only [bitsAt, Nat.testBit_mod_two_pow, Nat.testBit_div_two_pow, BitVec.testBit_toNat]
  by_cases hi : i < w
  · have hset := hm (i + lo) (by omega) (by omega)
    simp [hi, hset]
  · simp [hi]

/-- The register at 0x60020, HK_URGENT. -/
def urgentReg : RegDesc := ⟨"HK_URGENT", 0x60020, 1, 0x0, 1, 0x0, 0x0, 0x73F, 0x0, 0x0, 0x80000000, 0x0, false⟩

theorem findReg_urgent : findReg 0x60020 = some urgentReg := by decide +kernel

/-- The word that a write with GO stores in HK_URGENT: AVG reads back as 4 at most. -/
def urgentWord (old : Word) (v : Nat) : Word :=
  BitVec.ofNat 32 (readBack ((old &&& ~~~(0x73F#32)) ||| (BitVec.ofNat 32 v &&& 0x73F#32)).toNat 8 3 0 4 4)

theorem State.storeBits_urgent {s : State} (h : s.flag F.HK_STATUS_URGENT_BUSY = false) (v : Nat) :
    s.storeBits urgentReg 0x60020 v = s.setReg 0x60020 (urgentWord (s.reg 0x60020) v) := by
  have hopen : s.openBits urgentReg 0x60020 v = 0x73F := by
    rw [State.openBits]
    exact if_neg (by simp [h])
  have hplain : urgentReg.fw = 0 ∧ urgentReg.w1c = 0 ∧ urgentReg.shadowed = false := ⟨rfl, rfl, rfl⟩
  obtain ⟨hfw, hw1c, hsh⟩ := hplain
  simp only [State.storeBits, hopen, hfw, hw1c, hsh, ne_eq, not_true_eq_false, false_and, if_false, ite_self, BitVec.or_zero,
    BitVec.and_zero, BitVec.not_zero, BitVec.and_allOnes, Bool.false_eq_true, Bool.not_false, if_true]
  rfl

/-- A field that reads back within 0 to `max`, and as `max` above it. -/
theorem bitsAt_readBack_max (w : Nat) {lo n max : Nat} (hmax : max < 2 ^ n) :
    bitsAt (readBack w lo n 0 max max) lo n = min (bitsAt w lo n) max := by
  rw [readBack]
  split
  next hout => rw [bitsAt_putBits_same, Nat.mod_eq_of_lt hmax, Nat.min_eq_right (by omega)]
  next hin => exact (Nat.min_eq_left (by omega)).symm

theorem bitsAt_readBack_disjoint (w : Nat) {lo n min max d lo' n' : Nat} (h : lo' + n' ≤ lo ∨ lo + n ≤ lo') :
    bitsAt (readBack w lo n min max d) lo' n' = bitsAt w lo' n' := by
  rw [readBack]
  split
  · exact bitsAt_putBits_disjoint _ _ h
  · rfl

theorem readBack_lt {w lo n min max d m : Nat} (hw : w < 2 ^ m) (h : lo + n ≤ m) : readBack w lo n min max d < 2 ^ m := by
  rw [readBack]
  split
  · exact putBits_lt hw h
  · exact hw

/-- CHANNEL and AVG of HK_URGENT after a write. -/
theorem urgentWord_fields (old : Word) {v : Nat} (hv : v < 2 ^ 32) : bitsAt (urgentWord old v).toNat 0 6 = bitsAt v 0 6 ∧
    bitsAt (urgentWord old v).toNat 8 3 = min (bitsAt v 8 3) 4 := by
  have hmask : ∀ i < 11, i < 6 ∨ 8 ≤ i → (0x73F#32).getLsbD i = true := by decide
  have hmerge {lo w : Nat} (hm : ∀ i, lo ≤ i → i < lo + w → (0x73F#32).getLsbD i = true) :=
    (bitsAt_merge old (BitVec.ofNat 32 v) 0x73F#32 hm).trans (congrArg (bitsAt · lo w) (Nat.mod_eq_of_lt hv))
  rw [urgentWord, BitVec.toNat_ofNat, Nat.mod_eq_of_lt (readBack_lt (BitVec.isLt _) (by decide))]
  constructor
  · exact (bitsAt_readBack_disjoint _ (by decide)).trans (hmerge fun i _ hi => hmask i (by omega) (.inl (by omega)))
  · rw [bitsAt_readBack_max _ (by decide), hmerge fun i h hi => hmask i (by omega) (.inr h)]

/-- A state that has taken the write of a request. -/
def State.writeUrgent (s : State) (ch avg : Nat) : State :=
  s.setReg 0x60020 (urgentWord (s.reg 0x60020) (2 ^ 31 + 256 * avg + ch))

theorem State.fld_writeUrgent {s : State} (hs : swf resetWord s.regs = true) (ch : Fin 64) (avg : Fin 8) :
    (s.writeUrgent ch.val avg.val).fld F.HK_URGENT_CHANNEL = ch.val ∧
      (s.writeUrgent ch.val avg.val).fld F.HK_URGENT_AVG = min avg.val 4 := by
  have hreg : (s.writeUrgent ch.val avg.val).reg 0x60020 = urgentWord (s.reg 0x60020) (2 ^ 31 + 256 * avg.val + ch.val) :=
    State.reg_setReg_same hs _ _
  have hch : bitsAt (2 ^ 31 + 256 * avg.val + ch.val) 0 6 = ch.val := by
    rw [bitsAt]
    omega
  have havg : bitsAt (2 ^ 31 + 256 * avg.val + ch.val) 8 3 = avg.val := by
    rw [bitsAt]
    omega
  obtain ⟨hlow, hmid⟩ := urgentWord_fields (s.reg 0x60020) (v := 2 ^ 31 + 256 * avg.val + ch.val) (by omega)
  exact ⟨(congrArg (fun w : Word => bitsAt w.toNat 0 6) hreg).trans (hlow.trans hch),
    (congrArg (fun w : Word => bitsAt w.toNat 8 3) hreg).trans (hmid.trans (by rw [havg]))⟩

/-- What an accepted request writes. -/
def requestWrites (ch avg : Nat) : List (Fld × Nat) :=
  [(F.HK_URGENT_CHANNEL, ch), (F.HK_URGENT_AVG, min avg 4), (F.HK_URGENT_GO, 1), (F.HK_STATUS_URGENT_BUSY, 1),
    (F.HK_URGENT_RES_VALID, 0)]

theorem State.urgentRequest_idle {s : State} (h : s.flag F.HK_STATUS_URGENT_BUSY = false) (ch avg : Nat) :
    s.urgentRequest ch avg = s.putFields (requestWrites ch avg) :=
  if_neg (by simp [h])

/-- The write of a request, where none is busy. -/
theorem exec_hkUrgentRequest_idle {s : State} (hs : s.canonical = true) (h : s.reaches 0x60020)
    (hidle : s.flag F.HK_STATUS_URGENT_BUSY = false) (ch : Fin 64) (avg : Fin 8) : exec (.hkUrgentRequest ch avg) s =
      .next (((s.writeUrgent ch.val avg.val).putFields (requestWrites ch.val (min avg.val 4))).irqEdges s) := by
  have hgo : bitAt (2 ^ 31 + 256 * avg.val + ch.val) 31 = true := by
    have hdiv : (2 ^ 31 + 256 * avg.val + ch.val) / 2 ^ 31 = 1 := by omega
    rw [bitAt, hdiv]
    rfl
  have hbusy : (s.writeUrgent ch.val avg.val).flag F.HK_STATUS_URGENT_BUSY = false :=
    (congrArg (fun w : Word => bitsAt w.toNat 2 1 != 0) (s.reg_setReg_other _ (by decide))).trans hidle
  obtain ⟨hch, havg⟩ := State.fld_writeUrgent (State.regs_swf hs) ch avg
  have hstarts : (s.writeUrgent ch.val avg.val).afterWrite s urgentReg 0x60020 (2 ^ 31 + 256 * avg.val + ch.val) RegEnv.none =
      if bitAt (2 ^ 31 + 256 * avg.val + ch.val) 31 then (s.writeUrgent ch.val avg.val).urgentRequest
        ((s.writeUrgent ch.val avg.val).fld F.HK_URGENT_CHANNEL) ((s.writeUrgent ch.val avg.val).fld F.HK_URGENT_AVG)
      else s.writeUrgent ch.val avg.val := rfl
  change Host.Outcome.next (s.writeWord 0x60020 (2 ^ 31 + 256 * avg.val + ch.val) RegEnv.none) = _
  rw [State.writeWord_register (u := s) h (by decide +kernel) findReg_urgent rfl rfl (by decide), State.storeBits_urgent hidle,
    ← State.writeUrgent, hstarts, if_pos hgo, State.urgentRequest_idle hbusy, hch, havg]

/-- The request shows in HK_URGENT and URGENT_BUSY. -/
theorem exec_hkUrgentRequest_shows {s : State} (hs : s.canonical = true) (h : s.reaches 0x60020)
    (hidle : s.flag F.HK_STATUS_URGENT_BUSY = false) (ch : Fin 64) (avg : Fin 8) : ∃ t, exec (.hkUrgentRequest ch avg) s = .next t ∧
      t.flag F.HK_STATUS_URGENT_BUSY = true ∧ t.flag F.HK_URGENT_GO = true ∧ t.fld F.HK_URGENT_CHANNEL = ch.val ∧
      t.fld F.HK_URGENT_AVG = min avg.val 4 ∧ t.flag F.HK_URGENT_RES_VALID = false := by
  have hread {f : Fld} {v : Nat} (i : Nat) (hf : (requestWrites ch.val (min avg.val 4))[i]? = some (f, v)) (hirq : f.addr ≠ 0xF800) :=
    (State.fld_irqEdges_other ((s.writeUrgent ch.val avg.val).putFields (requestWrites ch.val (min avg.val 4))) s hirq).trans
      (State.fld_putFields_separate (s := s.writeUrgent ch.val avg.val) (State.setReg_swf (State.regs_swf hs) _ _)
        (l := requestWrites ch.val (min avg.val 4)) rfl i hf)
  refine ⟨_, exec_hkUrgentRequest_idle hs h hidle ch avg, State.flag_of_fld (hread 3 rfl (by decide)),
    State.flag_of_fld (hread 2 rfl (by decide)), (hread 0 rfl (by decide)).trans (Nat.mod_eq_of_lt ch.isLt),
    (hread 1 rfl (by decide)).trans ?_, State.flag_of_fld (hread 4 rfl (by decide))⟩
  have hw : F.HK_URGENT_AVG.width = 3 := rfl
  rw [hw]
  omega

/-- Settles O53: a conversion is the urgent one or an entry's; the other rows are one access or one command. -/
theorem housekeepingRowsComplete : Obligations.HousekeepingRowsComplete := by
  unfold Obligations.HousekeepingRowsComplete
  refine ⟨fun s temps supplies => exec_housekeepingRound temps supplies s, fun s v hnew => ?_,
    fun s ch avg hs h hidle => exec_hkUrgentRequest_shows hs h hidle ch avg, fun s hs h => exec_hkFifoFlush_empties hs h,
    fun s tag c u h => ?_⟩
  · refine ⟨fun hbusy hch hs => ?_, fun hidle hrun => ⟨fun hno => ?_, fun hconv hwire hroom howed => ?_⟩⟩
    · have hhk := State.urgentDone_hk hch v
      obtain ⟨hend, hvalid, hgo, hopen, hchan, hval⟩ := State.urgentDone_shows hs hch v
      refine ⟨_, ?_, hend, hvalid, hgo, hopen, hchan, hval, hhk⟩
      rw [exec_snowdropConversion, if_pos hbusy, State.takeTable_none (by rw [hhk, hnew])]
    · rw [exec_snowdropConversion, if_neg (by simp [hidle]), if_pos hrun, State.tableResult_none hno]
      exact congrArg Host.Outcome.next (State.takeTable_none hnew)
    · refine ⟨s.enqueueOwed (s.nextResult (s.seqEntry (s.fld F.HK_SEQ_CFG_POS)).channel v false), ?_, rfl, rfl, rfl,
        s.enqueueOwed_regs _⟩
      rw [exec_snowdropConversion, if_neg (by simp [hidle]), if_pos hrun, State.tableResult_owed rfl hconv hwire hroom howed]
      exact congrArg Host.Outcome.next (State.takeTable_none hnew)
  · intro v
    rw [hkLoadSequence_performs h]
    refine ⟨fun hbusy => ?_, fun hidle hrun => ?_⟩
    · rw [if_pos (by simpa using hbusy)]
      rfl
    · rw [if_neg (by simp [hidle, hrun])]
      rfl

end Sys2Proof.Machine
end

section
/-!
SUPPORT AND PROOFS. Calibration: its commands and its attempts (R512-R517, Table 18-5).
-/
namespace Sys2Proof.Machine

theorem exec_calRun (tag : Nat) (s : State) : exec (.calRun tag) s = execCalRun tag s := rfl
theorem exec_calSetPolicy (tag : Nat) (s : State) : exec (.calSetPolicy tag) s = execCalSetPolicy tag s := rfl
theorem exec_calRunTimeout (tag : Nat) (s : State) : exec (.calRunTimeout tag) s = execCalRunTimeout tag s := rfl
theorem exec_calAttemptStart (k : Fin 24576) (s : State) : exec (.calAttemptStart k) s = execCalAttemptStart k s := rfl
theorem exec_calRunComplete (k : Fin 24576) (comps : List Int) (x : Int) (s : State) :
    exec (.calRunComplete k comps x) s = .next (s.calRunComplete k.val comps x).settleUnits.bootPoll := rfl
theorem exec_calHoldoffExpiry (k : Fin 24576) (s : State) : exec (.calHoldoffExpiry k) s = execCalHoldoffExpiry k s := rfl
theorem exec_calStarved (k : Fin 24576) (s : State) : exec (.calStarved k) s = execCalStarved k s := rfl

/-! ### Commands -/

/-- An attempt that a CAL_RUN makes due, and starts where it may, in foreground. -/
def State.commandCal (fore : Bool) (s : State) (k : Nat) : State :=
  if (s.calEntry k).phase = .idle ∨ (s.calEntry k).phase = .due ∨ (fore = true ∧ (s.calEntry k).phase = .holdoff) then
    let w := s.putCal k { s.calEntry k with
      phase := .due
      cause := .command
      fore := fore
      since := if (s.calEntry k).phase = .due then (s.calEntry k).since else s.elapsed }
    if fore = true ∧ w.calReady k = true then w.calStart k else w
  else s

/-- The attempts of a CAL_RUN: its units in service, each with the group the command or the unit's path names. -/
def calRunKeys (u : State) (c : Cmd) : List Nat :=
  ((calUnitsOf c).filter (fun x => !u.calRetired (leAt c.payload 0 1) x)).map (fun x => calKey (leAt c.payload 0 1) x
    (if leAt c.payload 2 1 = 255 then u.activeGroup (leAt c.payload 0 1) x else leAt c.payload 2 1))

/-- The units in service are commanded; the others are the result's part. -/
theorem calRun_commands {s u : State} {tag : Nat} {c : Cmd} (h : Starts s 0x0A00 tag c u) :
    let v := (calRunKeys u c).foldl (State.commandCal (leAt c.payload 1 1 == 1)) u
    exec (.calRun tag) s = .next (({ v with cal := { v.cal with commands := v.cal.commands ++ [⟨c.tag, calRunKeys u c, v.elapsed, 0, 0,
      listMask 64 ((calUnitsOf c).filter (u.calRetired (leAt c.payload 0 1)))⟩] } } : State).settleCal.refreshCal) := by
  rw [exec_calRun, execCalRun, h.performStart rfl]
  rfl

/-- What CAL_SET_POLICY writes. -/
def policyWrites (i : Nat) (p : List Byte) : List (Fld × Nat) :=
  [(F.CAL_POL_DELTA i, leAt p 1 1), (F.CAL_POL_MAX_DIS i, leAt p 2 1), (F.CAL_POL_AUTO i, leAt p 3 1),
    (F.CAL_POL_TOL_SCALE i, leAt p 4 1)]

theorem policyFields_separate : ∀ i < 6, Fld.separate [F.CAL_POL_DELTA i, F.CAL_POL_MAX_DIS i, F.CAL_POL_AUTO i,
    F.CAL_POL_TOL_SCALE i] = true := by decide

theorem calSetPolicy_writes {s u : State} {tag : Nat} {c : Cmd} (h : Starts s 0x0A01 tag c u) : exec (.calSetPolicy tag) s =
    .next ((u.putFields (policyWrites (leAt c.payload 0 1) c.payload)).finishNow c.tag .ok []) := by
  rw [exec_calSetPolicy, execCalSetPolicy, h.performStart rfl]
  rfl

theorem State.fld_policyWrites {u : State} (hu : u.canonical = true) {c : Cmd} (hi : leAt c.payload 0 1 < 6) {f : Fld} {v : Nat}
    (j : Nat) (hf : (policyWrites (leAt c.payload 0 1) c.payload)[j]? = some (f, v)) :
    (u.putFields (policyWrites (leAt c.payload 0 1) c.payload)).fld f = v % 2 ^ f.width :=
  State.fld_putFields_separate (State.regs_swf hu) (l := policyWrites _ _) (policyFields_separate _ hi) j hf

/-! ### Runs -/

/-- A run of an attempt that is not kd's: kept, agreed, or the third that disagrees. -/
theorem State.calRunComplete_eq {s : State} {k : Nat} (hrun : (s.calEntry k).phase = .running) (hitem : calItem k ≠ 0)
    (comps : List Int) (x : Int) : s.calRunComplete k comps x =
      let u := s.addFld F.CAL_RUNS_COUNT 1
      let more := u.putCal k { u.calEntry k with runs := (s.calEntry k).runs ++ [comps] }
      match (s.calEntry k).runs with
      | [] => more
      | [a] => if runsAgree (calItem k) (s.calEntry k).scale a comps then u.calAgree k (runMean a comps) else more
      | a :: b :: _ => if runsAgree (calItem k) (s.calEntry k).scale b comps then u.calAgree k (runMean b comps)
        else if runsAgree (calItem k) (s.calEntry k).scale a comps then u.calAgree k (runMean a comps)
        else u.calDispute k := by
  simp only [State.calRunComplete, hrun, hitem, ne_eq, not_true_eq_false, if_false, false_and] <;> rfl

/-- Settles O55: the two commands as they are performed; of each attempt's row the guard and the case are known. -/
theorem calibrationRowsComplete : Obligations.CalibrationRowsComplete := by
  unfold Obligations.CalibrationRowsComplete
  refine ⟨fun s tag c u h => calRun_commands h, fun s tag c hc hlate => ?_, fun s tag c u h hu hi => ?_,
    fun s k hready hfirst => ?_, fun s k comps x hrun hitem => ?_, fun s k hoff hlate => ?_,
    fun s k hdue hlate hfirst hnot => ?_⟩
  · rw [exec_calRunTimeout, execCalRunTimeout, hc]
    exact congrArg Host.Outcome.next (if_pos hlate)
  · refine ⟨_, calSetPolicy_writes h, fun f n hf => ?_, rfl⟩
    simp only [List.mem_cons, List.not_mem_nil, or_false, Prod.mk.injEq] at hf
    obtain ⟨rfl, rfl⟩ | ⟨rfl, rfl⟩ | ⟨rfl, rfl⟩ | ⟨rfl, rfl⟩ := hf
    · exact State.fld_policyWrites hu hi 0 rfl
    · exact State.fld_policyWrites hu hi 1 rfl
    · exact State.fld_policyWrites hu hi 2 rfl
    · exact State.fld_policyWrites hu hi 3 rfl
  · rw [exec_calAttemptStart, execCalAttemptStart]
    exact congrArg Host.Outcome.next (if_pos (by rw [hready, hfirst]; rfl))
  · intro u
    rw [exec_calRunComplete, State.calRunComplete_eq hrun hitem]
    refine ⟨fun hruns => ?_, fun a hruns hagree => ?_, fun a hruns hdiffer => ?_, fun a b hruns hlast hfirst => ?_⟩
    · rw [hruns]
      rfl
    · rw [hruns]
      exact congrArg (fun v : State => Host.Outcome.next v.settleUnits.bootPoll) (if_pos hagree)
    · rw [hruns]
      exact congrArg (fun v : State => Host.Outcome.next v.settleUnits.bootPoll) (if_neg (by simp [hdiffer]))
    · rw [hruns]
      exact congrArg (fun v : State => Host.Outcome.next v.settleUnits.bootPoll)
        ((if_neg (by simp [hlast])).trans (if_neg (by simp [hfirst])))
  · rw [exec_calHoldoffExpiry, execCalHoldoffExpiry]
    exact congrArg Host.Outcome.next (if_pos ⟨hoff, hlate⟩)
  · rw [exec_calStarved, execCalStarved]
    exact congrArg Host.Outcome.next (if_pos ⟨hdue, hlate, by simp [hfirst], by simp [hnot]⟩)

end Sys2Proof.Machine
end

section
/-!
SUPPORT AND PROOFS. Faults: unit resets (R530), event records (R542, R543) and injection (R540, R541).
-/
namespace Sys2Proof.Machine

theorem exec_sysResetUnit (tag : Nat) (ok : Bool) (s : State) : exec (.sysResetUnit tag ok) s = execSysResetUnit tag ok s := rfl
theorem exec_sysResetUnitTimeout (tag : Nat) (s : State) :
    exec (.sysResetUnitTimeout tag) s = execSysResetUnitTimeout tag s := rfl
theorem exec_evRead (tag : Nat) (s : State) : exec (.evRead tag) s = execEvRead tag s := rfl
theorem exec_evConfigCode (tag : Nat) (s : State) : exec (.evConfigCode tag) s = execEvConfigCode tag s := rfl
theorem exec_injArm (tag : Nat) (s : State) : exec (.injArm tag) s = execInjArm tag s := rfl
theorem exec_injDisarm (tag : Nat) (s : State) : exec (.injDisarm tag) s = execInjDisarm tag s := rfl
theorem exec_injectionFire (d : Fin 34) (arg : Nat) (s : State) : exec (.injectionFire d arg) s = execInjectionFire d arg s := rfl

/-! ### Unit resets -/

/-- The unit goes out of service, and what it had occur is dropped. -/
def State.takeOut (s : State) (src : Nat) : State :=
  { (s.retireUnit src 1 0xFF).refreshReplace with fault := { (s.retireUnit src 1 0xFF).refreshReplace.fault with
      occurred := (s.retireUnit src 1 0xFF).refreshReplace.fault.occurred.filter
        (fun o => !(src :: unitsInside src).contains o.2.1) } }

/-- The reset stands in the list, with the tests and wakes it waits for and what has failed so far. -/
def State.enterReset (s : State) (c : Cmd) (keys wakes : List Nat) (bad : List (Nat × Nat)) : State :=
  (s.putResets (s.fault.unitReset ++ [⟨c.tag, resetTarget c, resetTarget c :: unitsInside (resetTarget c), keys, wakes, bad,
    s.elapsed⟩])).settleUnits

/-- The calibrations that test a unit and the units inside it. -/
def State.resetKeys (s : State) (src : Nat) : List Nat := (src :: unitsInside src).flatMap s.testKeys

theorem sysResetUnit_performs {s u : State} {tag : Nat} {c : Cmd} (h : Starts s 0x0102 tag c u) (ok : Bool) :
    exec (.sysResetUnit tag ok) s =
      let src := resetTarget c
      let b := u.takeOut src
      let d := if srcType src = 4 ∧ ok = false then b.raiseFree 0xB007 src sevError else b
      let wakes := if srcType src = 8 then [4 + srcIx src, 8 + srcIx src] else []
      let e := if wakes.isEmpty = true then d.startTests (d.resetKeys src)
        else wakes.foldl (fun s x => s.beginStep false false (.wake x)) (wakes.foldl State.domainOff d)
      .next (e.enterReset c (d.resetKeys src) wakes (if srcType src = 4 ∧ ok = false then [(src, 23)] else [])) := by
  rw [exec_sysResetUnit, execSysResetUnit, h.performStart rfl]
  rfl

/-- A unit that is tested by calibrations alone. -/
theorem sysResetUnit_tests {s u : State} {tag : Nat} {c : Cmd} {ok : Bool} (h : Starts s 0x0102 tag c u)
    (hdie : srcType (resetTarget c) ≠ 8) (heng : srcType (resetTarget c) = 4 → ok = true) : exec (.sysResetUnit tag ok) s =
      .next (((u.takeOut (resetTarget c)).startTests ((u.takeOut (resetTarget c)).resetKeys (resetTarget c))).enterReset c
        ((u.takeOut (resetTarget c)).resetKeys (resetTarget c)) [] []) := by
  have hgood : ¬(srcType (resetTarget c) = 4 ∧ ok = false) := fun ⟨h4, hno⟩ => by simp [heng h4] at hno
  rw [sysResetUnit_performs h]
  simp only [if_neg hgood, if_neg hdie, List.isEmpty_nil, if_true]

/-- An engine that fails its self-test. -/
theorem sysResetUnit_engineFails {s u : State} {tag : Nat} {c : Cmd} (h : Starts s 0x0102 tag c u)
    (heng : srcType (resetTarget c) = 4) :
    let d := (u.takeOut (resetTarget c)).raiseFree 0xB007 (resetTarget c) sevError
    exec (.sysResetUnit tag false) s = .next ((d.startTests (d.resetKeys (resetTarget c))).enterReset c
      (d.resetKeys (resetTarget c)) [] [(resetTarget c, 23)]) := by
  have hdie : srcType (resetTarget c) ≠ 8 := by omega
  rw [sysResetUnit_performs h]
  simp only [heng, true_and, if_true, if_neg (show ¬(4 = 8) by decide), List.isEmpty_nil]

/-- A die, whose domains go off and are woken. -/
theorem sysResetUnit_wakes {s u : State} {tag : Nat} {c : Cmd} {ok : Bool} (h : Starts s 0x0102 tag c u)
    (hdie : srcType (resetTarget c) = 8) :
    let i := srcIx (resetTarget c)
    let b := u.takeOut (resetTarget c)
    exec (.sysResetUnit tag ok) s = .next (((((b.domainOff (4 + i)).domainOff (8 + i)).beginStep false false
      (.wake (4 + i))).beginStep false false (.wake (8 + i))).enterReset c (b.resetKeys (resetTarget c)) [4 + i, 8 + i] []) := by
  have hgood : ¬(srcType (resetTarget c) = 4 ∧ ok = false) := by omega
  rw [sysResetUnit_performs h]
  simp only [if_neg hgood, if_pos hdie]
  rfl

/-! ### Event records -/

/-- EV_CONFIG_CODE configures one code, or all of them for the code 0xFFFF. -/
theorem evConfigCode_performs {s u : State} {tag : Nat} {c : Cmd} (h : Starts s 0x0B01 tag c u) : exec (.evConfigCode tag) s =
    .next (((if leAt c.payload 0 2 = 0xFFFF then allocatedCodes else [leAt c.payload 0 2]).foldl
      (fun s x => s.configCode c.payload x) u).finishNow c.tag .ok []) := by
  rw [exec_evConfigCode, execEvConfigCode, h.performStart rfl]

/-! ### Injection -/

/-- A detector disarmed shows no injection. -/
def State.disarm (s : State) (d : Nat) : State :=
  (((s.dropInjection d).setFld (F.EVR_INJ_CTRL_ARMED d) 0).setFld (F.EVR_INJ_CTRL_MODE d) 0).setFld (F.EVR_INJ_CTRL_COUNT d) 0

theorem State.tickno_setFld_other (s : State) {f : Fld} (hf : F.TCK_TICKNO_TICKNO.addr < f.addr) (v : Nat) :
    (s.setFld f v).tickno = s.tickno :=
  State.fld_setFld_other s f _ v hf.ne

theorem State.tickno_disarm (s : State) (d : Nat) : (s.disarm d).tickno = s.tickno := by
  have hctrl : F.TCK_TICKNO_TICKNO.addr < 0x50800 + 0x10 * d := Nat.lt_add_right _ (by decide)
  exact (State.tickno_setFld_other _ hctrl 0).trans ((State.tickno_setFld_other _ hctrl 0).trans
    (State.tickno_setFld_other (s.dropInjection d) (f := F.EVR_INJ_CTRL_ARMED d) hctrl 0))

/-- An injection that fires counts down, and falls next after its interval. -/
def State.nextInjection (s : State) (j : Injection) : Injection :=
  { j with left := j.left - 1, nextAt := s.elapsed + j.interval }

theorem State.injectionFire_due {s : State} {d : Fin 34} {j : Injection}
    (hfind : s.fault.injections.find? (fun j => j.detector == d.val) = some j) (hdue : j.nextAt ≤ s.elapsed) (arg : Nat) :
    exec (.injectionFire d arg) s =
      let k := s.nextInjection j
      let u := if k.left = 0 then s.dropInjection d.val
        else s.putInjections (s.fault.injections.filter (fun i => i.detector != d.val) ++ [k])
      .next (((u.showInjection k).addFld (F.EVR_INJ_DONE_COUNT d.val) 1).inject j arg) := by
  rw [exec_injectionFire, execInjectionFire, hfind]
  exact if_neg (Nat.not_lt.2 hdue)

/-- Settles O56: a reset's unit is a die, an engine or another, a read clears or not, an injection is its last or not. -/
theorem faultCommandsComplete : Obligations.FaultCommandsComplete := by
  unfold Obligations.FaultCommandsComplete
  refine ⟨fun s tag ok c u h => ?_, fun s tag r hr hlate => ?_, fun s tag c u h => ?_, fun s tag c u h => ?_,
    fun s tag c u h => ⟨fun hm => ?_, fun hm => ?_⟩, fun s d arg j hfind hdue hmore => ?_, fun s d arg j hfind hdue hlast => ?_⟩
  · refine ⟨fun hdie heng => sysResetUnit_tests h hdie heng, fun heng hok => ?_, fun hdie => sysResetUnit_wakes h hdie⟩
    rw [hok]
    exact sysResetUnit_engineFails h heng
  · rw [exec_sysResetUnitTimeout, execSysResetUnitTimeout, hr]
    exact congrArg Host.Outcome.next (if_pos hlate)
  · intro p shadow all got more reply
    rw [exec_evRead, execEvRead, h.performStart rfl]
    exact ⟨fun hno => congrArg (fun v : State => Host.Outcome.next (v.finishNow c.tag .ok reply)) (if_neg (by simp [p, hno])),
      fun hclear hbank => congrArg (fun v : State => Host.Outcome.next (v.finishNow c.tag .ok reply)) (if_pos ⟨hclear, hbank⟩)⟩
  · rw [evConfigCode_performs h]
    exact ⟨fun hone => by rw [if_neg hone]; rfl, fun hall => by rw [if_pos hall]⟩
  · rw [exec_injArm, execInjArm, h.performStart (by simp [hm])]
    rfl
  · rw [exec_injDisarm, execInjDisarm, h.performStart (by simp [hm])]
    exact congrArg (fun x => Host.Outcome.next ((u.disarm c.op).finishNow c.tag .ok (leBytes 4 (tickAdd x 1)))) (u.tickno_disarm c.op)
  · rw [State.injectionFire_due hfind hdue]
    have hleft : (s.nextInjection j).left ≠ 0 := by
      simp only [State.nextInjection]
      omega
    simp only [if_neg hleft]
    rfl
  · rw [State.injectionFire_due hfind hdue]
    have hnext : s.nextInjection j = { j with left := 0, nextAt := s.elapsed + j.interval } := by
      rw [State.nextInjection, hlast]
    simp only [hnext, if_true]
    rfl

end Sys2Proof.Machine
end

section
/-!
SUPPORT AND PROOFS. The recorder and replay (R551-R563).
-/
namespace Sys2Proof.Machine

theorem exec_recArm (tag : Nat) (s : State) : exec (.recArm tag) s = execRecArm tag s := rfl
theorem exec_recStop (tag : Nat) (s : State) : exec (.recStop tag) s = execRecStop tag s := rfl
theorem exec_recordingLimitReached (r : Fin 3) (s : State) :
    exec (.recordingLimitReached r) s = execRecordingLimitReached r s := rfl
theorem exec_snapshotDone (s : State) : exec .snapshotDone s = execSnapshotDone s := rfl
theorem exec_replayStart (tag : Nat) (s : State) : exec (.replayStart tag) s = execReplayStart tag s := rfl
theorem exec_replayDone (s : State) : exec .replayDone s = execReplayDone s := rfl

/-! ### Recording -/

theorem ctxRecArm_free {s : State} (h : s.recSt = .idle ∨ s.recSt = .done) : ctxRecArm s = none := by
  rcases h with h | h <;> rw [ctxRecArm, h]

theorem ctxRecStop_busy {s : State} (h : s.recSt = .armed ∨ s.recSt = .recording ∨ s.recSt = .replaying) : ctxRecStop s = none := by
  rcases h with h | h | h <;> rw [ctxRecStop, h]

theorem State.recDone_of_arm {s : State} {x : RecArm} (ha : s.recd.arm = some x) (hd : x.duration ≠ 0)
    (ht : x.duration ≤ s.fld F.REC_TICKS_COUNT) : s.recDone = true := by
  rw [State.recDone, ha]
  simp [hd, ht]

/-- The limit of a reason stands. -/
theorem State.limitReached_of {s : State} {r : Nat}
    (h : (r = 0 ∧ ∃ x, s.recd.arm = some x ∧ x.duration ≠ 0 ∧ x.duration ≤ s.fld F.REC_TICKS_COUNT) ∨
      (r = 1 ∧ s.recd.full = true) ∨ (r = 2 ∧ recBuffer < s.recd.buffered)) : s.limitReached r = true := by
  obtain ⟨rfl, x, ha, hd, ht⟩ | ⟨rfl, hfull⟩ | ⟨rfl, hbuf⟩ := h
  · exact State.recDone_of_arm ha hd ht
  · exact hfull
  · exact decide_eq_true hbuf

/-! ### Replay -/

/-- A replay of the first `n` recorded ticks from a snapshot. -/
def State.replayFrom (u : State) (c : Cmd) (x : Snapshot) (n : Nat) : State :=
  let v := (((((u.loadSnapshot x).setRecSt .replaying).setFld F.REC_RPL_TICK_INDEX 0).setFld F.REC_RPL_MISMATCH_COUNT
    0).setFld F.REC_RPL_FIRST_INDEX (2 ^ 32 - 1)).setFld F.REC_RPL_WORD_MASK 0
  { v with recd := { v.recd with replay := some ⟨c.tag, leAt c.payload 0 1 == 1, bitAt (leAt c.payload 1 1) 0, leAt c.payload 2 2, 0, 0,
    u.recd.ticks.reverse.take n⟩ } }

/-- The recorded ticks that a command asks for. -/
def State.askedTicks (u : State) (c : Cmd) : Nat :=
  if leAt c.payload 4 4 = 0 then u.recd.ticks.reverse.length else min (leAt c.payload 4 4) u.recd.ticks.reverse.length

theorem replayStart_replays {s u : State} {tag : Nat} {c : Cmd} {x : Snapshot} (h : Starts s 0x0C02 tag c u)
    (hctx : ctxReplayStart u = none) (hsnap : u.recd.snap = some x) : exec (.replayStart tag) s = .next (u.replayFrom c x
      (if (leAt c.payload 0 1 == 1) = true then min (u.askedTicks c) (u.fld F.REC_RAW_TICKS) else u.askedTicks c)) := by
  rw [exec_replayStart, execReplayStart, h.performStart rfl, hctx, hsnap]
  rfl

theorem State.replayEnd_of {s : State} {r : ReplayRun} (hr : s.recd.replay = some r) : s.replayEnd =
    (({ s.setRecSt .postReplay with recd := { (s.setRecSt .postReplay).recd with replay := none } } : State).raise 0xE003
      (s.fld F.REC_RPL_MISMATCH_COUNT) srcOther sevInfo).finishNow r.tag .ok (leBytes 4 r.index ++ leBytes 4 r.compared ++
        leBytes 4 (s.fld F.REC_RPL_MISMATCH_COUNT) ++ leBytes 4 (s.fld F.REC_RPL_FIRST_INDEX)) := by
  rw [State.replayEnd, hr]
  rfl

/-- Settles O57: the recorder's state admits each row. -/
theorem recorderRowsComplete : Obligations.RecorderRowsComplete := by
  unfold Obligations.RecorderRowsComplete
  refine ⟨fun s tag c u h hfree => ?_, fun s tag c u h hbusy => ?_, fun s r hrec hlim => ?_, fun s hst hsnap => ?_,
    fun s tag c u x h hctx hsnap => ?_, fun s r hr hend => ?_⟩
  · rw [exec_recArm, execRecArm, h.performStart rfl, ctxRecArm_free hfree]
  · rw [exec_recStop, execRecStop, h.performStart rfl, ctxRecStop_busy hbusy]
  · rw [exec_recordingLimitReached, execRecordingLimitReached, if_pos ⟨hrec, State.limitReached_of hlim⟩]
    rfl
  · rw [exec_snapshotDone, execSnapshotDone, if_pos ⟨hst, hsnap⟩]
  · rw [replayStart_replays h hctx hsnap]
    simp only [beq_iff_eq]
    rfl
  · have hcond : r.left.isEmpty = true ∨ r.stopOn = true ∧ s.fld F.REC_RPL_MISMATCH_COUNT ≠ 0 :=
      hend.imp_left List.isEmpty_iff.2
    rw [exec_replayDone, execReplayDone, hr]
    exact (if_pos hcond).trans (congrArg Host.Outcome.next (State.replayEnd_of hr))

end Sys2Proof.Machine
end

section
/-!
SUPPORT AND PROOFS. Security objects: firmware activation, installation, attestation and recovery (R569-R578).
-/
namespace Sys2Proof.Machine

theorem exec_sysActivateFirmware (tag : Nat) (v : SigVerdict) (s : State) :
    exec (.sysActivateFirmware tag v) s = execSysActivateFirmware tag v s := rfl
theorem exec_secInstallOpen (tag : Nat) (s : State) : exec (.secInstallOpen tag) s = execSecInstallOpen tag s := rfl
theorem exec_secInstallWrite (tag : Nat) (s : State) : exec (.secInstallWrite tag) s = execSecInstallWrite tag s := rfl
theorem exec_secInstallCommit (tag : Nat) (v : SigVerdict) (flash : Bool) (s : State) :
    exec (.secInstallCommit tag v flash) s = execSecInstallCommit tag v flash s := rfl
theorem exec_secAttestationBuild (tag : Nat) (s : State) : exec (.secAttestationBuild tag) s = execSecAttestationBuild tag s := rfl
theorem exec_secAttestationReadReport (tag : Nat) (s : State) :
    exec (.secAttestationReadReport tag) s = execSecAttestationReadReport tag s := rfl
theorem exec_secAttestationReadCerts (tag : Nat) (s : State) :
    exec (.secAttestationReadCerts tag) s = execSecAttestationReadCerts tag s := rfl
theorem exec_secRecovDataWrite (w : Word) (s : State) :
    exec (.secRecovDataWrite w) s = .next (s.writeWord 0xA0034 w.toNat RegEnv.none) := rfl
theorem exec_secRecovGo (v : SigVerdict) (s : State) :
    exec (.secRecovGo v) s = .next (s.onReg 0xA0030 (fun s => s.recovGo v)) := rfl

/-! ### Activation (R576) -/

theorem sysActivateFirmware_restarts {s u : State} {tag : Nat} {c : Cmd} {v : SigVerdict} (h : Starts s 0x0104 tag c u)
    (hok : u.fwReason (1 - u.sec.active) v = none) : exec (.sysActivateFirmware tag v) s = .next ((u.setActivation
      (some ⟨c.tag, bitAt (leAt c.payload 0 1) 0, .restart23, u.fwVersion (1 - u.sec.active), u.fwSvn (1 - u.sec.active)⟩)).setMode
        2) := by
  rw [exec_sysActivateFirmware, execSysActivateFirmware, h.performStart rfl]
  simp only [hok]

theorem sysActivateFirmware_fails {s u : State} {tag : Nat} {c : Cmd} {v : SigVerdict} {r : Nat} (h : Starts s 0x0104 tag c u)
    (hbad : u.fwReason (1 - u.sec.active) v = some r) : exec (.sysActivateFirmware tag v) s = .next (u.authEnd c.tag 0 r) := by
  rw [exec_sysActivateFirmware, execSysActivateFirmware, h.performStart rfl]
  simp only [hbad]

/-! ### Installation (R575) -/

theorem secInstallOpen_opens {s u : State} {tag : Nat} {c : Cmd} (h : Starts s 0x0D02 tag c u) (hop : c.op = 0) :
    exec (.secInstallOpen tag) s = .next ((u.setStaging (some ⟨leAt c.payload 1 1, leAt c.payload 4 4, []⟩)).finishNow c.tag .ok
      []) := by
  rw [exec_secInstallOpen, execSecInstallOpen, h.performStart (isOp_of_eq hop)]

theorem secInstallWrite_stages {s u : State} {tag : Nat} {c : Cmd} {g : Staging} (h : Starts s 0x0D02 tag c u) (hop : c.op = 1)
    (hg : u.sec.staging = some g) (hfit : leAt c.payload 4 4 + (c.payload.drop 8).length ≤ g.length) :
    exec (.secInstallWrite tag) s = .next ((u.setStaging (some { g with
      data := stageBytes g.data (leAt c.payload 4 4) (c.payload.drop 8) })).finishNow c.tag .ok []) := by
  rw [exec_secInstallWrite, execSecInstallWrite, h.performStart (isOp_of_eq hop), hg]
  exact congrArg Host.Outcome.next (if_pos hfit)

/-- The staged object's bytes are taken, and the staging ends. -/
def State.takeStaged (u : State) (g : Staging) : State := { u.setStaging none with freeCtr := u.freeCtr + g.length }

/-- An object that has passed its check is stored, by its kind. -/
def State.storeObject (w : State) (tag kind : Nat) (b : List Byte) (flash : Bool) : State :=
  if kind = 0 then
    if flash then { w with sec := { w.sec with
        fwObjects := sput (fun _ => []) w.sec.fwObjects (1 - w.sec.active) b
        reinstalled := true } }.finishNow tag .ok (leBytes 4 (1 - w.sec.active))
    else w.finishNow tag .timeout []
  else if kind = 1 then
    match w.kernelPlace b with
    | none => w.finishNow tag .limit []
    | some i =>
      if flash then
        { w with sec := { w.sec with kernels := sput (fun _ => []) w.sec.kernels i b } }.finishNow tag .ok (leBytes 4 i)
      else w.finishNow tag .timeout []
  else (w.applyRecord b).finishNow tag .ok (leBytes 4 (leAt (objBody b) 1 1))

section Commit
variable {s u : State} {tag : Nat} {c : Cmd} {g : Staging} {v : SigVerdict} (h : Starts s 0x0D02 tag c u) (hop : c.op = 2)
  (hg : u.sec.staging = some g)
include h hop hg

/-- The staged object is checked, and stored or refused. -/
theorem secInstallCommit_performs (flash : Bool) : exec (.secInstallCommit tag v flash) s =
    let b := stagedBytes g.data u.freeCtr g.length 0
    .next (match (u.takeStaged g).kindReason g.kind b v with
      | some r => (u.takeStaged g).authEnd c.tag (objKind b) r
      | none => (u.takeStaged g).storeObject c.tag g.kind b flash) := by
  rw [exec_secInstallCommit, execSecInstallCommit, h.performStart (isOp_of_eq hop), hg]
  rfl

theorem secInstallCommit_passes (flash : Bool)
    (hok : (u.takeStaged g).kindReason g.kind (stagedBytes g.data u.freeCtr g.length 0) v = none) :
    exec (.secInstallCommit tag v flash) s =
      .next ((u.takeStaged g).storeObject c.tag g.kind (stagedBytes g.data u.freeCtr g.length 0) flash) := by
  rw [secInstallCommit_performs h hop hg]
  simp only [hok]

theorem secInstallCommit_fails (flash : Bool) {r : Nat}
    (hbad : (u.takeStaged g).kindReason g.kind (stagedBytes g.data u.freeCtr g.length 0) v = some r) :
    exec (.secInstallCommit tag v flash) s =
      .next ((u.takeStaged g).authEnd c.tag (objKind (stagedBytes g.data u.freeCtr g.length 0)) r) := by
  rw [secInstallCommit_performs h hop hg]
  simp only [hbad]

end Commit

theorem State.storeObject_firmware (w : State) (tag : Nat) (b : List Byte) : w.storeObject tag 0 b true =
    ({ w with sec := { w.sec with
      fwObjects := sput (fun _ => []) w.sec.fwObjects (1 - w.sec.active) b
      reinstalled := true } } : State).finishNow tag .ok (leBytes 4 (1 - w.sec.active)) := rfl

theorem State.storeObject_kernel {w : State} {b : List Byte} {i : Nat} (hi : w.kernelPlace b = some i) (tag : Nat) :
    w.storeObject tag 1 b true = ({ w with sec := { w.sec with
      kernels := sput (fun _ => []) w.sec.kernels i b } } : State).finishNow tag .ok (leBytes 4 i) := by
  rw [State.storeObject, hi]
  rfl

theorem State.storeObject_record (w : State) {kind : Nat} (hk : 2 ≤ kind) (tag : Nat) (b : List Byte) (flash : Bool) :
    w.storeObject tag kind b flash = (w.applyRecord b).finishNow tag .ok (leBytes 4 (leAt (objBody b) 1 1)) :=
  (if_neg (by omega)).trans (if_neg (by omega))

/-! ### Recovery (R573) -/

/-- The register at 0xA0034, SEC_RECOV_DATA. -/
def recovDataReg : RegDesc := ⟨"SEC_RECOV_DATA", 0xA0034, 1, 0x0, 1, 0x0, 0x0, 0x0, 0x0, 0x0, 0x0, 0xFFFFFFFF, false⟩

theorem findReg_recovData : findReg 0xA0034 = some recovDataReg := by decide +kernel

theorem State.sendMsix_sec (s : State) (v : Nat) : (s.sendMsix v).sec = s.sec := by
  obtain ⟨_, _, h | h⟩ := s.sendMsix_only v
  · rw [h]
    rfl
  · rw [h]

theorem State.irqEdges_sec (s old : State) : (s.irqEdges old).sec = s.sec :=
  State.irqEdges_induction (P := fun u => u.sec = s.sec) (fun u v hu => (u.sendMsix_sec v).trans hu) rfl old

/-- In recovery a word written to SEC_RECOV_DATA joins the object. -/
theorem secRecovDataWrite_appends {s : State} (h : s.reaches 0xA0034) (hrec : s.sec.recovery = true) (w : Word) :
    ∃ t, exec (.secRecovDataWrite w) s = .next t ∧ t.sec.recovBuf = s.sec.recovBuf ++ leBytes 4 w.toNat ∧ t.sec.recovery = true := by
  obtain ⟨x, hx⟩ := State.storeBits_plain (d := recovDataReg) rfl rfl s 0xA0034 w.toNat
  have hstarts : (s.setReg 0xA0034 x).afterWrite s recovDataReg 0xA0034 w.toNat RegEnv.none =
    (s.setReg 0xA0034 x).recovWord w.toNat := rfl
  have hword : ((s.setReg 0xA0034 x).recovWord w.toNat).sec = { s.sec with recovBuf := s.sec.recovBuf ++ leBytes 4 w.toNat } :=
    congrArg State.sec (if_pos hrec)
  have hsec : (((s.setReg 0xA0034 x).recovWord w.toNat).irqEdges s).sec =
      { s.sec with recovBuf := s.sec.recovBuf ++ leBytes 4 w.toNat } := (State.irqEdges_sec _ _).trans hword
  refine ⟨((s.setReg 0xA0034 x).recovWord w.toNat).irqEdges s, ?_, congrArg SecState.recovBuf hsec,
    (congrArg SecState.recovery hsec).trans hrec⟩
  rw [exec_secRecovDataWrite, State.writeWord_register (u := s) h (by decide +kernel) findReg_recovData rfl rfl (by decide), hx,
    hstarts]

/-- The recovery has its object, and ends. -/
def State.leaveRecovery (s : State) : State :=
  { s with sec := { s.sec with recovery := false, recovBuf := [], reinstalled := false } }

/-- The firmware of an object that came in by SEC_RECOV_DATA runs. -/
def State.runRecovered (s : State) (b : List Byte) : State :=
  (((s.leaveRecovery.runFirmware (objVersion b) (objSvn b) (b.take 512)).setFld F.SEC_STATUS_RECOVERY 1).setFld
    F.PWR_STATUS_PHASE 2).refreshService

theorem State.recovGo_fails {s : State} {v : SigVerdict} {r : Nat} (hrec : s.sec.recovery = true)
    (hbad : s.kindReason 0 s.sec.recovBuf v = some r) : s.recovGo v = { s.authFail (objKind s.sec.recovBuf) r with
      sec := { (s.authFail (objKind s.sec.recovBuf) r).sec with recovBuf := [] } } := by
  rw [State.recovGo, if_neg (by simp [hrec])]
  simp only [hbad]

theorem State.recovGo_runs {s : State} {v : SigVerdict} (hrec : s.sec.recovery = true)
    (hok : s.kindReason 0 s.sec.recovBuf v = none) : s.recovGo v = s.runRecovered s.sec.recovBuf := by
  rw [State.recovGo, if_neg (by simp [hrec])]
  simp only [hok]
  rfl

/-- What a recovered firmware writes. -/
def recoveredWrites (b : List Byte) : List (Fld × Nat) :=
  [(F.ID_FW_VERSION_VERSION, objVersion b), (F.SEC_FW_SVN_SVN, objSvn b), (F.SEC_STATUS_RECOVERY, 1), (F.PWR_STATUS_PHASE, 2)]

theorem State.fld_refreshService_other (s : State) {f : Fld} (hf : f.addr ≠ F.EVR_STATUS_SERVICE.addr) :
    s.refreshService.fld f = s.fld f :=
  State.fld_setFld_other s _ f _ hf

theorem State.fld_runRecovered {s : State} (hs : s.canonical = true) {b : List Byte} {f : Fld} {v : Nat} (i : Nat)
    (hf : (recoveredWrites b)[i]? = some (f, v)) (hserv : f.addr ≠ F.EVR_STATUS_SERVICE.addr) :
    (s.runRecovered b).fld f = v % 2 ^ f.width := by
  rw [State.runRecovered, State.fld_refreshService_other _ hserv]
  exact State.fld_putFields_separate (s := s.leaveRecovery) (State.regs_swf hs) (l := recoveredWrites b) rfl i hf

/-! ### The obligation -/

/-- Settles O58: each command's check passes or fails, and what it stores goes by its kind. -/
theorem securityObjectsComplete : Obligations.SecurityObjectsComplete := by
  unfold Obligations.SecurityObjectsComplete
  refine ⟨fun s tag v c u h => ⟨fun hok => sysActivateFirmware_restarts h hok, fun r hbad => sysActivateFirmware_fails h hbad⟩,
    fun s tag c u h => ⟨fun hop => secInstallOpen_opens h hop, fun g hop hg hfit => secInstallWrite_stages h hop hg hfit⟩,
    fun s tag v c u g h hop hg => ⟨fun hok hk => ?_, fun i hok hk hi => ?_, fun flash hok hk => ?_,
      fun flash r hbad => secInstallCommit_fails h hop hg flash hbad⟩,
    fun s tag c u h => ⟨fun hop => ?_, fun hop => ?_, fun hop => ?_⟩,
    fun s w h hrec => secRecovDataWrite_appends h hrec w, fun s v h hrec => ⟨fun r hbad => ?_, fun hok => ?_⟩⟩
  · rw [secInstallCommit_passes h hop hg true hok, hk, State.storeObject_firmware]
    rfl
  · rw [secInstallCommit_passes h hop hg true hok, hk]
    exact congrArg Host.Outcome.next (State.storeObject_kernel (w := u.takeStaged g) hi c.tag)
  · rw [secInstallCommit_passes h hop hg flash hok, State.storeObject_record _ hk]
    rfl
  · rw [exec_secAttestationBuild, execSecAttestationBuild, h.performStart (isOp_of_eq hop)]
  · rw [exec_secAttestationReadReport, execSecAttestationReadReport, h.performStart (isOp_of_eq hop)]
  · rw [exec_secAttestationReadCerts, execSecAttestationReadCerts, h.performStart (isOp_of_eq hop)]
  · rw [exec_secRecovGo, State.onReg_reaches h, State.recovGo_fails hrec hbad]
  · refine ⟨s.runRecovered s.sec.recovBuf, ?_, rfl, rfl, rfl, fun hs => ⟨State.fld_runRecovered hs 2 rfl (by decide),
      State.fld_runRecovered hs 3 rfl (by decide), State.fld_runRecovered hs 1 rfl (by decide)⟩⟩
    rw [exec_secRecovGo, State.onReg_reaches h, State.recovGo_runs hrec hok]

end Sys2Proof.Machine
end

section
/-!
SUPPORT AND PROOFS. The maintenance unlock (R579-R582, Table 21-6).
-/
namespace Sys2Proof.Machine

theorem exec_secUnlockChallenge (tag : Nat) (r : List Byte) (s : State) :
    exec (.secUnlockChallenge tag r) s = execSecUnlockChallenge tag r s := rfl
theorem exec_secUnlockStage (tag : Nat) (s : State) : exec (.secUnlockStage tag) s = execSecUnlockStage tag s := rfl
theorem exec_secUnlockSubmit (tag : Nat) (v : SigVerdict) (s : State) :
    exec (.secUnlockSubmit tag v) s = execSecUnlockSubmit tag v s := rfl
theorem exec_secUnlockEnd (tag : Nat) (s : State) : exec (.secUnlockEnd tag) s = execSecUnlockEnd tag s := rfl
theorem exec_unlockDurationExpiry (s : State) : exec .unlockDurationExpiry s = execUnlockDurationExpiry s := rfl
theorem exec_challengeExpiry (s : State) : exec .challengeExpiry s = execChallengeExpiry s := rfl

/-! ### The commands -/

/-- A challenge stands, with no token bytes. -/
def State.putChallenge (u : State) (r : List Byte) : State :=
  { u with sec := { u.sec with challenge := some r, challengeAt := u.elapsed, token := [], tokenLen := 0 } }

/-- The 32 bytes of a random challenge are all of it. -/
theorem slice_padded {r : List Byte} (h : r.length = 32) : slice (r ++ List.replicate 32 0) 0 32 = r := by
  rw [slice, List.drop_zero, ← h, List.take_left]

theorem secUnlockChallenge_stands {s u : State} {tag : Nat} {c : Cmd} {r : List Byte} (h : Starts s 0x0D01 tag c u) (hop : c.op = 0)
    (hr : r.length = 32) : exec (.secUnlockChallenge tag r) s = .next ((if u.fld F.SEC_STATUS_UNLOCK = 2 then u.putChallenge r
      else (u.putChallenge r).setFld F.SEC_STATUS_UNLOCK 1).finishNow c.tag .ok r) := by
  rw [exec_secUnlockChallenge, execSecUnlockChallenge, h.performStart (isOp_of_eq hop)]
  simp only [slice_padded hr]
  rfl

theorem secUnlockStage_stages {s u : State} {tag : Nat} {c : Cmd} (h : Starts s 0x0D01 tag c u) (hop : c.op = 1) :
    exec (.secUnlockStage tag) s = .next (({ u with sec := { u.sec with
      token := stageBytes u.sec.token (leAt c.payload 4 4) (c.payload.drop 8)
      tokenLen := max u.sec.tokenLen (leAt c.payload 4 4 + (c.payload.drop 8).length) } } : State).finishNow c.tag .ok []) := by
  rw [exec_secUnlockStage, execSecUnlockStage, h.performStart (isOp_of_eq hop)]

/-- The staged token is taken, and the challenge with it. -/
def State.consumeChallenge (u : State) : State :=
  { u with freeCtr := u.freeCtr + u.sec.tokenLen, sec := { u.sec with challenge := none } }

theorem secUnlockSubmit_performs {s u : State} {tag : Nat} {c : Cmd} {v : SigVerdict} (h : Starts s 0x0D01 tag c u) (hop : c.op = 2) :
    exec (.secUnlockSubmit tag v) s =
      let b := stagedBytes u.sec.token u.freeCtr u.sec.tokenLen 0
      .next (match u.kindReason 3 b v with
        | none => (u.consumeChallenge.grantUnlock b).finishNow c.tag .ok []
        | some r => (if u.fld F.SEC_STATUS_UNLOCK = 2 then u.consumeChallenge
          else u.consumeChallenge.setFld F.SEC_STATUS_UNLOCK 0).authEnd c.tag (objKind b) r) := by
  rw [exec_secUnlockSubmit, execSecUnlockSubmit, h.performStart (isOp_of_eq hop)]
  rfl

theorem secUnlockEnd_locks {s u : State} {tag : Nat} {c : Cmd} (h : Starts s 0x0D01 tag c u) (hop : c.op = 3)
    (hu : u.fld F.SEC_STATUS_UNLOCK = 2) : exec (.secUnlockEnd tag) s = .next (u.lock.finishNow c.tag .ok []) := by
  rw [exec_secUnlockEnd, execSecUnlockEnd, h.performStart (isOp_of_eq hop), if_pos hu]

theorem secUnlockSubmit_grants {s u : State} {tag : Nat} {c : Cmd} {v : SigVerdict} (h : Starts s 0x0D01 tag c u) (hop : c.op = 2)
    (hok : u.kindReason 3 (stagedBytes u.sec.token u.freeCtr u.sec.tokenLen 0) v = none) : exec (.secUnlockSubmit tag v) s =
      .next ((u.consumeChallenge.grantUnlock (stagedBytes u.sec.token u.freeCtr u.sec.tokenLen 0)).finishNow c.tag .ok []) := by
  rw [secUnlockSubmit_performs h hop]
  simp only [hok]

theorem secUnlockSubmit_fails {s u : State} {tag : Nat} {c : Cmd} {v : SigVerdict} {r : Nat} (h : Starts s 0x0D01 tag c u)
    (hop : c.op = 2) (hbad : u.kindReason 3 (stagedBytes u.sec.token u.freeCtr u.sec.tokenLen 0) v = some r) :
    exec (.secUnlockSubmit tag v) s = .next ((if u.fld F.SEC_STATUS_UNLOCK = 2 then u.consumeChallenge
      else u.consumeChallenge.setFld F.SEC_STATUS_UNLOCK 0).authEnd c.tag
        (objKind (stagedBytes u.sec.token u.freeCtr u.sec.tokenLen 0)) r) := by
  rw [secUnlockSubmit_performs h hop]
  simp only [hbad]

/-! ### The end of a raw capture (R581) -/

/-- A raw lane stops. -/
def State.endRawLane (s : State) (l : Nat) : State := ((s.stopPrbs l).setFld (F.LN_STATUS_MODE l) 0).setFld (F.LN_CFG_EN l) 0

/-- The raw capture of a group ends. -/
def State.endRawGroup (s : State) (k : Nat) : State :=
  if s.laneRaw (2 * k) ∨ s.laneRaw (2 * k + 1) then
    (((s.groupOff k).endRawLane (2 * k)).endRawLane (2 * k + 1)).raiseFree 0x9006 (srcLane (2 * k)) sevInfo
  else s

theorem State.rawEnd_eq (s : State) : s.rawEnd = (List.range 4).foldl State.endRawGroup s := rfl

/-! ### Fields that the loss of a scope bit leaves -/

/-- A field that the loss of a scope bit leaves: below the lanes' registers, and none of the injections'. -/
structure Fld.ofUnlock (f : Fld) : Prop where
  low : f.addr < 0x310000
  drops : f.addr ≠ F.TCK_ARB_DROP_COUNT.addr
  armed : ∀ d, f.apart (F.EVR_INJ_CTRL_ARMED d) = true

theorem ofUnlock_status {f : Fld} (ha : f.addr = 0xA0000) (hbit : f.lo + f.width ≤ 31) : f.ofUnlock where
  low := by omega
  drops := by
    rw [ha]
    decide
  armed := fun d => (Fld.apart_iff _ _).2 (.inr (.inl hbit))

theorem ofUnlock_seconds : F.SEC_UNLOCK_LEFT_SECONDS.ofUnlock where
  low := by decide
  drops := by decide
  armed := fun d => (Fld.apart_iff _ _).2 (.inl (by
    simp only [F.SEC_UNLOCK_LEFT_SECONDS, F.EVR_INJ_CTRL_ARMED]
    omega))

namespace SameField
variable {f g : Fld}

/-- A write to the lanes' registers. -/
theorem setFld_lane (hf : f.ofUnlock) (hg : 0x310000 ≤ g.addr) (hfit : g.lo + g.width ≤ 32) (s : State) (v : Nat) :
    SameField f s (s.setFld g v) := setFld_other hfit (hf.low.trans_le hg).ne s v

theorem laneOff (hf : f.ofUnlock) (s : State) (l : Nat) : SameField f s (s.laneOff l) := by
  have hlane : 0x310000 ≤ 0x310000 + 0x1000 * l := Nat.le_add_right _ _
  refine ite (refl f s) ?_
  exact ((setFld_lane (g := F.LN_STATUS_ADAPT l) hf hlane (Nat.le_of_ble_eq_true rfl) _ _).trans
    (setFld_lane (g := F.LN_STATUS_HOLD_HOST l) hf hlane (Nat.le_of_ble_eq_true rfl) _ _)).trans
    (setFld_lane (g := F.LN_STATUS_HOLD_SAFE l) hf hlane (Nat.le_of_ble_eq_true rfl) _ _)

theorem stopPrbs (hf : f.ofUnlock) (s : State) (l : Nat) : SameField f s (s.stopPrbs l) := by
  have hctrl : 0x310000 ≤ 0x310080 + 0x1000 * l := by omega
  have hstat : 0x310000 ≤ 0x310084 + 0x1000 * l := by omega
  exact (((setFld_lane (g := F.LN_PRBS_CTRL_GEN l) hf hctrl (Nat.le_of_ble_eq_true rfl) _ _).trans
    (setFld_lane (g := F.LN_PRBS_CTRL_CHK l) hf hctrl (Nat.le_of_ble_eq_true rfl) _ _)).trans
    (setFld_lane (g := F.LN_PRBS_STAT_STATE l) hf hstat (Nat.le_of_ble_eq_true rfl) _ _)).withRegs rfl

theorem endRawLane (hf : f.ofUnlock) (s : State) (l : Nat) : SameField f s (s.endRawLane l) := by
  have hstat : 0x310000 ≤ 0x310000 + 0x1000 * l := by omega
  have hcfg : 0x310000 ≤ 0x310004 + 0x1000 * l := by omega
  exact ((stopPrbs hf s l).trans (setFld_lane (g := F.LN_STATUS_MODE l) hf hstat (Nat.le_of_ble_eq_true rfl) _ _)).trans
    (setFld_lane (g := F.LN_CFG_EN l) hf hcfg (Nat.le_of_ble_eq_true rfl) _ _)

theorem endRawGroup (hf : f.ofUnlock) (s : State) (k : Nat) : SameField f s (s.endRawGroup k) :=
  ite (((((laneOff hf s (2 * k)).trans (laneOff hf _ (2 * k + 1))).trans (endRawLane hf _ _)).trans (endRawLane hf _ _)).trans
    (raiseFree hf.drops _ _ _ _)) (refl f s)

theorem rawEnd (hf : f.ofUnlock) (s : State) : SameField f s s.rawEnd := by
  rw [State.rawEnd_eq]
  exact foldl (endRawGroup hf) _ s

theorem disarmAll (hf : f.ofUnlock) (s : State) : SameField f s s.disarmAll :=
  (foldl (fun t d => setFld (Nat.le_of_ble_eq_true rfl) (hf.armed d) t 0) (s.fault.injections.map (·.detector)) s).withRegs rfl

theorem scopeLost (hf : f.ofUnlock) (s : State) : SameField f s s.scopeLost :=
  (rawEnd hf s).trans (disarmAll hf _)

end SameField

/-! ### Kraolien's state -/

theorem State.raise_sec (s : State) (code value source sev : Nat) : (s.raise code value source sev).sec = s.sec := by
  unfold State.raise State.raiseEv
  dsimp only
  split <;> rfl

theorem State.raiseFree_sec (s : State) (code source sev : Nat) : (s.raiseFree code source sev).sec = s.sec :=
  State.raise_sec (s.fresh 32).2 code (s.fresh 32).1 source sev

theorem State.laneOff_sec (s : State) (l : Nat) : (s.laneOff l).sec = s.sec := by
  unfold State.laneOff
  split <;> rfl

theorem State.endRawLane_sec (s : State) (l : Nat) : (s.endRawLane l).sec = s.sec := rfl

theorem State.endRawGroup_sec (s : State) (k : Nat) : (s.endRawGroup k).sec = s.sec := by
  unfold State.endRawGroup
  split
  · rw [State.raiseFree_sec, State.endRawLane_sec, State.endRawLane_sec, State.groupOff, State.laneOff_sec, State.laneOff_sec]
  · rfl

/-- What steps leave, a run of them leaves. -/
theorem State.foldl_sec {α : Type} {step : State → α → State} (h : ∀ t x, (step t x).sec = t.sec) (l : List α) (s : State) :
    (l.foldl step s).sec = s.sec :=
  List.foldlRecOn (motive := fun t : State => t.sec = s.sec) l step rfl fun t ht x _ => (h t x).trans ht

theorem State.rawEnd_sec (s : State) : s.rawEnd.sec = s.sec := by
  rw [State.rawEnd_eq, State.foldl_sec State.endRawGroup_sec]

theorem State.disarmAll_sec (s : State) : s.disarmAll.sec = s.sec :=
  State.foldl_sec (step := fun s d => s.setFld (F.EVR_INJ_CTRL_ARMED d) 0) (fun _ _ => rfl) (s.fault.injections.map Injection.detector) s

theorem State.scopeLost_sec (s : State) : s.scopeLost.sec = s.sec := (State.disarmAll_sec _).trans s.rawEnd_sec

/-! ### The end of an unlock -/

/-- LOCKED, with no scope, no time left and no challenge. -/
def State.locked (s : State) : State :=
  ({ s with sec := { s.sec with challenge := none } } : State).putFields
    [(F.SEC_STATUS_UNLOCK, 0), (F.SEC_STATUS_SCOPE, 0), (F.SEC_UNLOCK_LEFT_SECONDS, 0)]

theorem State.lock_eq (s : State) :
    s.lock = (s.locked.scopeLost.raiseFree 0xF007 srcOther sevInfo).raiseFree 0xE804 srcOther sevInfo := rfl

theorem State.locked_swf {s : State} (hs : s.canonical = true) : swf resetWord s.locked.regs = true :=
  State.setFld_swf (State.setFld_swf (State.setFld_swf (State.regs_swf hs) _ _) _ _) _ _

/-- The end of an unlock shows in the field as in the registers it writes. -/
theorem State.fld_lock {s : State} (hs : s.canonical = true) {f : Fld} (hf : f.ofUnlock) {v : Nat} (i : Nat)
    (hi : [(F.SEC_STATUS_UNLOCK, 0), (F.SEC_STATUS_SCOPE, 0), (F.SEC_UNLOCK_LEFT_SECONDS, 0)][i]? = some (f, v)) :
    s.lock.fld f = v % 2 ^ f.width := by
  have hsame : SameField f s.locked s.lock :=
    ((SameField.scopeLost hf _).trans (SameField.raiseFree hf.drops _ _ _ _)).trans (SameField.raiseFree hf.drops _ _ _ _)
  exact (hsame (State.locked_swf hs)).2.trans (State.fld_putFields_separate
    (s := { s with sec := { s.sec with challenge := none } }) (State.regs_swf hs) rfl i hi)

theorem unlockDurationExpiry_locks {s : State} (hu : s.fld F.SEC_STATUS_UNLOCK = 2) (hlate : s.sec.unlockUntil ≤ s.elapsed) :
    exec .unlockDurationExpiry s = .next s.lock := by
  rw [exec_unlockDurationExpiry, execUnlockDurationExpiry, if_pos ⟨hu, hlate⟩]

theorem challengeExpiry_drops {s : State} (hu : s.fld F.SEC_STATUS_UNLOCK = 1) (hlate : s.sec.challengeAt + 230400000 ≤ s.elapsed) :
    exec .challengeExpiry s =
      .next (({ s with sec := { s.sec with challenge := none } } : State).setFld F.SEC_STATUS_UNLOCK 0) := by
  rw [exec_challengeExpiry, execChallengeExpiry, if_pos ⟨hu, hlate⟩]

theorem State.lock_challenge (s : State) : s.lock.sec.challenge = none := by
  rw [State.lock_eq, State.raiseFree_sec, State.raiseFree_sec, State.scopeLost_sec]
  rfl

theorem State.lock_injections (s : State) : s.lock.fault.injections = [] := by
  obtain ⟨l, hl⟩ := (s.locked.scopeLost).raiseFree_fault 0xF007 srcOther sevInfo
  obtain ⟨m, hm⟩ := (s.locked.scopeLost.raiseFree 0xF007 srcOther sevInfo).raiseFree_fault 0xE804 srcOther sevInfo
  rw [State.lock_eq, hm, hl]
  rfl

/-! ### A grant -/

/-- What a token that passes writes. -/
def grantWrites (b : List Byte) : List (Fld × Nat) :=
  [(F.SEC_STATUS_UNLOCK, 2), (F.SEC_STATUS_SCOPE, leAt (objBody b) 48 1), (F.SEC_UNLOCK_LEFT_SECONDS, leAt (objBody b) 52 4)]

/-- The token's scope and duration stand. -/
def State.granted (s : State) (b : List Byte) : State :=
  ({ s with sec := { s.sec with unlockUntil := s.elapsed + 3840000 * leAt (objBody b) 52 4 } } : State).putFields (grantWrites b)

theorem State.grantUnlock_eq (s : State) (b : List Byte) : s.grantUnlock b =
    (if (List.range 4).any (fun i => bitAt (s.fld F.SEC_STATUS_SCOPE) i && !bitAt (leAt (objBody b) 48 1) i) = true
      then (s.granted b).scopeLost else s.granted b).raise 0xE803 (leAt (objBody b) 48 1) srcOther sevNotice := rfl

theorem State.fld_grantUnlock {s : State} (hs : s.canonical = true) {b : List Byte} {f : Fld} (hf : f.ofUnlock) {v : Nat} (i : Nat)
    (hi : (grantWrites b)[i]? = some (f, v)) : (s.grantUnlock b).fld f = v % 2 ^ f.width := by
  have hsame : SameField f (s.granted b) (s.grantUnlock b) := by
    rw [State.grantUnlock_eq]
    exact (SameField.ite (SameField.scopeLost hf _) (SameField.refl f _)).trans (SameField.raise hf.drops _ _ _ _ _)
  have hswf : swf resetWord (s.granted b).regs = true :=
    State.setFld_swf (State.setFld_swf (State.setFld_swf (State.regs_swf hs) _ _) _ _) _ _
  exact (hsame hswf).2.trans (State.fld_putFields_separate
    (s := { s with sec := { s.sec with unlockUntil := s.elapsed + 3840000 * leAt (objBody b) 52 4 } }) (State.regs_swf hs)
    (l := grantWrites b) rfl i hi)

theorem State.grantUnlock_until (s : State) (b : List Byte) :
    (s.grantUnlock b).sec.unlockUntil = s.elapsed + 3840000 * leAt (objBody b) 52 4 := by
  rw [State.grantUnlock_eq, State.raise_sec]
  split
  · rw [State.scopeLost_sec]
    rfl
  · rfl

/-- Settles O59: what the end of an unlock and a grant write stands through the loss of scope bits. -/
theorem unlockRowsComplete : Obligations.UnlockRowsComplete := by
  unfold Obligations.UnlockRowsComplete
  have hunlock : F.SEC_STATUS_UNLOCK.ofUnlock := ofUnlock_status rfl (by decide)
  have hscope : F.SEC_STATUS_SCOPE.ofUnlock := ofUnlock_status rfl (by decide)
  refine ⟨fun s tag r c u h hop hr => ⟨fun hne => ?_, fun heq => ?_⟩, fun s tag c u h hop => secUnlockStage_stages h hop,
    fun s tag v c u h hop => ⟨fun hok => secUnlockSubmit_grants h hop hok, fun r hbad hne => ?_, fun r hbad heq => ?_⟩,
    fun s b hs => ⟨State.fld_grantUnlock hs hunlock 0 rfl, State.fld_grantUnlock hs hscope 1 rfl, ?_, s.grantUnlock_until b⟩,
    fun s tag c u h hop hu => secUnlockEnd_locks h hop hu,
    fun s hu hlate => ⟨unlockDurationExpiry_locks hu hlate, fun hs => ⟨State.fld_lock hs hunlock 0 rfl,
      State.fld_lock hs hscope 1 rfl, State.fld_lock hs ofUnlock_seconds 2 rfl, s.lock_challenge, s.lock_injections⟩⟩,
    fun s hu hlate => challengeExpiry_drops hu hlate⟩
  · rw [secUnlockChallenge_stands h hop hr, if_neg hne]
    rfl
  · rw [secUnlockChallenge_stands h hop hr, if_pos heq]
    rfl
  · rw [secUnlockSubmit_fails h hop hbad, if_neg hne]
    rfl
  · rw [secUnlockSubmit_fails h hop hbad, if_pos heq]
    rfl
  · exact (State.fld_grantUnlock hs ofUnlock_seconds 2 rfl).trans (Nat.mod_eq_of_lt (leAt_lt _ _ _))

end Sys2Proof.Machine
end

section
/-!
SUPPORT AND PROOFS. Unmapped accesses (R614).
-/
namespace Sys2Proof.Machine

/-! ### The access log -/

/-- The log of an access, while PD_CTL runs, writes three fields of two registers. -/
theorem State.logAccess_on {s : State} (h : s.domain 1 ≠ 0) (kind a : Nat) : s.logAccess kind a =
    ((s.addFld F.MAP_ERR_COUNT_COUNT 1).setFld F.MAP_ERR_ADDR_KIND kind).setFld F.MAP_ERR_ADDR_ADDR a :=
  if_neg h

theorem State.logAccess_off {s : State} (h : s.domain 1 = 0) (kind a : Nat) : s.logAccess kind a = s := if_pos h

theorem State.logAccess_only (s : State) (kind a : Nat) : { s.logAccess kind a with regs := s.regs } = s := by
  rw [State.logAccess]
  split <;> rfl

theorem State.reg_logAccess_other (s : State) (kind a : Nat) {b : Nat} (hcount : b ≠ F.MAP_ERR_COUNT_COUNT.addr)
    (haddr : b ≠ F.MAP_ERR_ADDR_KIND.addr) : (s.logAccess kind a).reg b = s.reg b := by
  rcases eq_or_ne (s.domain 1) 0 with h | h
  · rw [State.logAccess_off h]
  · have haddr' : b ≠ F.MAP_ERR_ADDR_ADDR.addr := haddr
    rw [State.logAccess_on h, State.reg_setFld_other _ _ _ haddr', State.reg_setFld_other _ _ _ haddr, State.addFld,
      State.reg_setFld_other _ _ _ hcount]

/-- What the log shows of an access. -/
theorem State.fld_logAccess {s : State} (hs : s.canonical = true) (h : s.domain 1 ≠ 0) (kind a : Nat) :
    (s.logAccess kind a).fld F.MAP_ERR_ADDR_KIND = kind % 2 ^ F.MAP_ERR_ADDR_KIND.width ∧
      (s.logAccess kind a).fld F.MAP_ERR_ADDR_ADDR = a % 2 ^ F.MAP_ERR_ADDR_ADDR.width ∧
      (s.logAccess kind a).fld F.MAP_ERR_COUNT_COUNT =
        min (s.fld F.MAP_ERR_COUNT_COUNT + 1) (2 ^ F.MAP_ERR_COUNT_COUNT.width - 1) := by
  have hregs := State.regs_swf hs
  have hcount : swf resetWord (s.addFld F.MAP_ERR_COUNT_COUNT 1).regs = true := State.setFld_swf hregs _ _
  have hkind := State.setFld_swf hcount F.MAP_ERR_ADDR_KIND kind
  rw [State.logAccess_on h]
  refine ⟨?_, State.fld_setFld_same hkind _ _ (by decide), ?_⟩
  · rw [State.fld_setFld_apart hkind _ (by decide) (by decide), State.fld_setFld_same hcount _ _ (by decide)]
  · rw [State.fld_setFld_other _ _ _ _ (by decide), State.fld_setFld_other _ _ _ _ (by decide),
      State.fld_addFld_same hregs _ _ (by decide)]

/-! ### An address that no register has -/

/-- The register bus reaches the domain that the address lies in, where it lies in one, and the domain is on. -/
def State.reachesAny (s : State) (a : Nat) : Prop :=
  ∀ d, regDomain a = some d → s.busReaches d = true ∧ s.domain d ≠ 0 ∧ s.domain d ≠ 3

theorem State.readWord_unmapped {s : State} {a : Nat} (hm : mapped a = false) (h : s.reachesAny a) :
    s.readWord a = (0, false, s.logAccess 0 a) := by
  rw [State.readWord]
  cases hd : regDomain a with
  | none => rfl
  | some d =>
    obtain ⟨hbus, -, -⟩ := h d hd
    simp only [hbus, hm, Bool.not_true, Bool.not_false, Bool.false_eq_true, if_false, if_true]

theorem State.writeWord_unmapped {s : State} {a : Nat} (hm : mapped a = false) (h : s.reachesAny a) (v : Nat) (e : RegEnv) :
    s.writeWord a v e = s.logAccess 0 a := by
  rw [State.writeWord, State.onReg]
  cases hd : regDomain a with
  | none => rfl
  | some d =>
    obtain ⟨hbus, hon, hlow⟩ := h d hd
    simp only [hbus, hon, hlow, hm, Bool.not_true, Bool.and_false, Bool.not_false, Bool.false_eq_true, or_self, if_false, if_true]

/-- Settles O14: the read and the write come to the access log, which writes three fields of two registers. -/
theorem unmappedAccessReadsZero : Obligations.UnmappedAccessReadsZero := by
  intro s a v e hm h
  exact ⟨State.readWord_unmapped hm h, State.writeWord_unmapped hm h v e, s.logAccess_only 0 a,
    fun b hcount haddr => s.reg_logAccess_other 0 a hcount haddr, fun hs hon => State.fld_logAccess hs hon 0 a⟩

end Sys2Proof.Machine
end
